-- ==== Sys2Proof/Word.lean ====
section
/-! DEFINITION. The widths of the part's words, the sparse table every indexed store of the model uses, and
the names the spec gives to fixed sets of alternatives. An enumeration whose codes run 0, 1, 2 ... in the
order of its constructors is encoded by `ctorIdx`; the others have an encoding of their own. -/
namespace Sys2Proof

/-- One octet. -/
abbrev Byte := BitVec 8
/-- One register: 32 bits, little-endian (R5). -/
abbrev Word := BitVec 32
/-- A 64-bit value of a Stand Table entry or a safety parameter (R103, R337). -/
abbrev DWord := BitVec 64
/-- A sparse table: key and value pairs, keys strictly rising, no value equal to the table's default. -/
abbrev Tab (α : Type) := List (Nat × α)

/-- A time in TAI on the PTP epoch (R458): seconds and nanoseconds; the 16-bit fraction is kept by the time base. -/
structure Stamp where
  sec : Nat := 0
  ns : Nat := 0
deriving DecidableEq, Repr

/-- The two sides that may issue commands: the application cores and the PCIe host (R113). -/
inductive Side | core | host
deriving DecidableEq, Repr
/-- The reset causes, in the order of `SYS_RST_CAUSE` (R70). -/
inductive RstCause | por | porstPin | railFault | clkFault | secWdt | swReset | pfailRestart
deriving DecidableEq, Repr
/-- The roles an image gives (R14, `NET_ID.ROLE`). -/
inductive Role | none | post | hub | combined
deriving DecidableEq, Repr
/-- The power states (R53), and a reset or start with the supplies present (assumption 15); the first five indices are the
codes of `SYS_STATE.PSTATE`. -/
inductive PState | off | backup | idleSite | active | full | starting
deriving DecidableEq, Repr
/-- The pilot codes of `VLK_BAYn_STAT.PILOT` (R160, R161). -/
inductive Pilot | a | b | c | d | e | f | diode
deriving DecidableEq, Repr
/-- The proximity states (R165). -/
inductive Prox | opened | connected | released | short
deriving DecidableEq, Repr
/-- The session states with their codes 0 to 15 (R130). -/
inductive Sess
  | free | plugged | link | negotiate | authorise | locking | cableCheck | precharge
  | closing | charging | renegotiate | stopping | opening | weldCheck | finishing | unplugWait
deriving DecidableEq, Repr
/-- The session state with a code (R130). -/
def Sess.ofCode (n : Nat) : Sess :=
  ([Sess.free, .plugged, .link, .negotiate, .authorise, .locking, .cableCheck, .precharge, .closing, .charging, .renegotiate,
    .stopping, .opening, .weldCheck, .finishing, .unplugWait]).getD n .free
/-- The end reasons in code order (R153), then 'none set yet' (0xFF). -/
inductive EndReason
  | evStop | userStop | hostStop | limit | unplug | authReject | authTimeout | nospace | noMaster
  | linkTimeout | negotiateFail | msgTimeout | evError | lockFail | cableCheckFail | prechargeFail
  | closeFail | isolation | earthCurrent | safetyTrip | pilotFault | hingeLoss | outputFault | fault
  | takeover | powerFail | none
deriving DecidableEq, Repr
/-- The code of an end reason (R153). -/
def EndReason.code (r : EndReason) : Nat := if r = .none then 0xFF else r.ctorIdx
/-- The status codes 0x00 to 0x0C (R119). -/
inductive Status
  | ok | busy | state | range | auth | nospace | timeout | version | permit | locked | fault | logfull | hostHeld
deriving DecidableEq, Repr
/-- The authorisation methods 0 to 4 (R134, R155). -/
inductive Method | none | card | contract | remote | freeVend
deriving DecidableEq, Repr
/-- The three contactors of a local bay. -/
inductive Kon | k1 | k2 | k3
deriving DecidableEq, Repr
/-- The application protocols with the codes of VLK_LINK_INFO (R177, R195). -/
inductive Proto | none | din | iso2 | iso20 | iso20mcs
deriving DecidableEq, Repr
/-- The transports with the codes of VLK_LINK_INFO (R195). -/
inductive Transport | tcp | tls12 | tls13
deriving DecidableEq, Repr
/-- `VLK_LINKn_STAT.KIND` (R194). -/
inductive LinkKind | none | greenPhy | t1s
deriving DecidableEq, Repr
/-- `VLK_LINKn_STAT.LSTATE` (R169, R194). -/
inductive LState | idle | waitParm | sounding | waitMatch | validate | matched | t1sListen | t1sUp
deriving DecidableEq, Repr
/-- The Stand Table value types (R103). -/
inductive PtType | int64 | float64 | bool | enum | raw
deriving DecidableEq, Repr
/-- The quality codes (R105). -/
inductive Qual | good | range | rate | timeout | source | uninit | unreachable
deriving DecidableEq, Repr
/-- The code of a quality: 5 is reserved (R105). -/
def Qual.code : Qual → Nat
  | .good => 0 | .range => 1 | .rate => 2 | .timeout => 3 | .source => 4 | .uninit => 6 | .unreachable => 7
/-- Yarder node types; the index is the code of R196, 0 standing for no node. -/
inductive NodeType
  | none | grid | trafo | cabinet | bus | matrix | module | dispenser | outlet | storage | pv
deriving DecidableEq, Repr
/-- Storage modes (R211). -/
inductive StorMode | peakShave | selfUse | fixed
deriving DecidableEq, Repr
/-- Tariff modes (R252). -/
inductive TMode | start | remote | recovery | test
deriving DecidableEq, Repr
/-- Record slot states (R269). -/
inductive RecSt | free | reserved | opened | closed | acked
deriving DecidableEq, Repr
/-- Tamper input modes (R286). -/
inductive TamperMode | disabled | nc | no
deriving DecidableEq, Repr
/-- `IMD_BAYn_STAT.STATE` (R315). -/
inductive ImdSt | off | refCheck | measuring | following | held
deriving DecidableEq, Repr
/-- `IMD_BAYn_STAT.MF_CAUSE` (R315). -/
inductive ImdCause | none | rejections | cyHigh | cyLow | ref | driver | menLost | standing
deriving DecidableEq, Repr
/-- Safety-input modes (R325). -/
inductive SiMode | unused | single | pairEq | pairAnti | ossd | feedback | reset
deriving DecidableEq, Repr
/-- Reset modes of a TRIP (R328). -/
inductive SiReset | auto | button | command
deriving DecidableEq, Repr
/-- Input fault causes (R327). -/
inductive SiCause | none | stuckHigh | crossShort | discrepancy
deriving DecidableEq, Repr
/-- `SAF_STAT.SPAR` (R343). -/
inductive SparSt | off | diag | run | idle | safeStop
deriving DecidableEq, Repr
/-- Connection states of Hinge (R344). -/
inductive HingeSt | connecting | opened | timedOut
deriving DecidableEq, Repr
/-- Channel owners (R361, R376). -/
inductive ChOwner | software | spar | peavey
deriving DecidableEq, Repr
/-- Load profiles (R362). -/
inductive ChProfile | resistive | lamp | motor | coil | capacitive | heater
deriving DecidableEq, Repr
/-- Channel states (R376). -/
inductive ChState | off | permitWait | inrush | on | hold | retryWait | thermLatch | latchedOff | supplyOff
deriving DecidableEq, Repr
/-- Turn-off causes (R376). -/
inductive ChCause | owner | short | overload | thermal | deltaT | shed | supply
deriving DecidableEq, Repr
/-- `CHK_STAT.SUPPLY` (R374, R376). -/
inductive Supply | normal | undervoltage | surge | groundLoss | reverse
deriving DecidableEq, Repr
/-- Skidline classes (R385, R388). -/
inductive SklClass | alarm | control | bulk
deriving DecidableEq, Repr
/-- Skidline frame types (R385). -/
inductive SklType | data | ack | route | path
deriving DecidableEq, Repr
/-- Reader protocols (R402). -/
inductive NfcProto | a | b | v
deriving DecidableEq, Repr
/-- Waveform modes with the codes of `BRD_PpRr_STAT.MODE` (R438). -/
inductive BrdMode | none | full | partly | init
deriving DecidableEq, Repr
/-- Last outcome of a region (R438). -/
inductive BrdLast | none | done | refused | cut
deriving DecidableEq, Repr
/-- Brand rail states (R438). -/
inductive RailSt | off | starting | up | stopping | fault
deriving DecidableEq, Repr
/-- Panel states (R438). -/
inductive PanelSt | needsInit | idle | init | running
deriving DecidableEq, Repr
/-- Life-cycle states (R450, R456). -/
inductive Lc | manufacture | personalised | field | service | scrapped
deriving DecidableEq, Repr
/-- Key classes (R443). -/
inductive KeyClass | device | metro | transport | customer | session
deriving DecidableEq, Repr
/-- Key slot states (R444). -/
inductive KeySt | empty | valid | locked
deriving DecidableEq, Repr
/-- Servo states (R463). -/
inductive Servo | free | acquiring | locked | holdover
deriving DecidableEq, Repr
/-- Cruise states (R482). -/
inductive CrsSt | stopped | idle | slice | paused
deriving DecidableEq, Repr
/-- Slice kinds (R474, R482). -/
inductive SliceKind | none | landing | l2 | yarder
deriving DecidableEq, Repr
/-- Ring states (R22, R41). -/
inductive RingSt | down | forming | up | opened | isolated | noMaster | conflict
deriving DecidableEq, Repr
/-- Pair states (R41). -/
inductive PairSt | none | active | syncing | synced | handover
deriving DecidableEq, Repr
/-- The Burl-protected media (R100). -/
inductive Medium | dram | landing | mram | boom
deriving DecidableEq, Repr
/-- What a scrub or a read finds in a line (R100 to R102). -/
inductive LineRes | clean | corrected | uncorrectable
deriving DecidableEq, Repr
/-- The metering channels of a bay (R220). -/
inductive MChan | mv | mih | mil | me
deriving DecidableEq, Repr

end Sys2Proof
end

