-- ==== Sys2Proof/Config/Image.lean ====
section
/-! DEFINITION. The Dymal image: its header (R73), its section table (R75) and what the sections configure
(R77). The spec lays out the header and the section table but not the inside of a section; a section's content
is therefore held as the settings the chapters name, and a digest or a signature as an identity (assumption 3). -/
namespace Sys2Proof

/-- Header fields (R73). Digests are content identities; `signer` is the identity of the key whose signature
the header carries, 0 for none that verifies. -/
structure ImageHeader where
  magic : Nat := 0x44594D4C
  hdrLen : Nat := 256
  fmtMinor : Nat := 3
  fmtMajor : Nat := 1
  family : Nat := 0x0C1D4816
  imageVer : Nat := 0
  arbCtr : Nat := 0
  bodyLen : Nat := 0
  secCount : Nat := 1
  keyId : Nat := 0
  bodyDigest : Nat := 0
  metroDigest : Nat := 0
  signer : Nat := 0
deriving DecidableEq, Repr

/-- A section-table entry (R75). `topMinor` is the highest minor version the loader supports for the section's type and
major version, none where it supports no such major (R78); `vendorOk` says whether a SEALED section's Thoqua signature
verifies (R79). -/
structure Section where
  typ : Nat := 0
  verMinor : Nat := 0
  verMajor : Nat := 1
  offset : Nat := 0
  length : Nat := 0
  required : Bool := false
  metro : Bool := false
  safety : Bool := false
  sealed : Bool := false
  topMinor : Option Nat := some 0
  vendorOk : Bool := true
deriving DecidableEq, Repr

/-- STRUCT section (R77): role, number, clock plan, budget, supply threshold, wake sources, Cruise gap, holdover. -/
structure StructCfg where
  role : Role := .none
  devNum : Nat := 0
  /-- Identity of the clock plan (R50 step 6). -/
  clockPlan : Nat := 0
  pBudget : Nat := 0
  vauxThr : Nat := 75
  wakeKeep : BitVec 10 := 0
  crsGap : Nat := 100
  /-- `HOLD_PPM` in units of 0.1 ppm (R463). -/
  holdPpm : Nat := 10
  /-- The 32.768 kHz crystal's parabola: ppb per square degree and turnover temperature in 0.1 degree (R467). -/
  xtalK : Nat := 35
  xtalT0 : Int := 250
deriving DecidableEq, Repr

/-- BALLMAP settings of one configurable ball (R77): function, direction, drive and glitch filter. -/
structure BallCfg where
  func : Nat := 0
  output : Bool := false
  drive : Nat := 0
  filt : Nat := 0
deriving DecidableEq, Repr

/-- BAYMAP settings of one bay (R77, R134, R138, R160, R163, R165, R169, R179, R302, R311, R403). -/
structure BayCfg where
  enabled : Bool := false
  mcs : Bool := false
  /-- Bit m - 1 enables method m of R134. -/
  methods : BitVec 4 := 0
  cpFilt : Nat := 3
  chK1 : Nat := 0
  chK2 : Nat := 1
  chK3 : Nat := 2
  chLock : Nat := 3
  siLock : Nat := 0
  siK1 : Nat := 1
  siK2 : Nat := 2
  siK3 : Nat := 3
  /-- On an MCS bay, lower ends of the high-level bands in mV, from the band above A down to the lower part of E; F lies
  below (R163). -/
  bands : List Int := [13501, 10500, 7500, 4500, 1500, -1500, -10500]
  ppPullup : Bool := false
  /-- Proximity bands as (low, high, state) in mV (R165). -/
  ppBands : List (Nat × Nat × Prox) := []
  validate : Bool := false
  exportOn : Bool := false
  protos : List Proto := []
  evCertReq : Bool := false
  secPolicy : Nat := 0
  /-- The outlet's rating in V and A. -/
  ratedV : Nat := 0
  ratedI : Nat := 0
  /-- The outlet's safe minimum in W, its ramp limits in 0.1 A/s and its `LIMIT_PT` in A, where no OUTLET node of this device
  gives them (R16, R31, R215). -/
  safeMin : Nat := 0
  rampUp : Nat := 5000
  rampDn : Nat := 5000
  limitPt : Option Nat := none
  /-- `R_CPL` in kilo-ohm, `CY_MIN` in nF, `CY_MAX` in 10 nF (R302, R315). -/
  rCpl : Nat := 300
  cyMin : Nat := 0
  cyMax : Nat := 100
  group : Nat := 0
deriving DecidableEq, Repr

/-- METROMAP settings of one bay (R220, R225, R312): channel enables and full scales (V, A, mA). -/
structure MeterCfg where
  mvEn : Bool := false
  mihEn : Bool := false
  milEn : Bool := false
  meEn : Bool := false
  fsV : Nat := 1600
  fsIh : Nat := 3200
  fsE : Nat := 1000
  ptV : Option Nat := none
  ptI : Option Nat := none
  ptP : Option Nat := none
deriving DecidableEq, Repr

/-- One pulse output of METROMAP (R242). -/
structure PulseCfg where
  en : Bool := false
  bay : Nat := 0
  exp : Bool := false
  const : Nat := 1
deriving DecidableEq, Repr

/-- METROMAP (R77, R238, R251, R259, R264, R286, R296, R437). -/
structure MetroCfg where
  bays : Tab MeterCfg := []
  pulses : Tab PulseCfg := []
  iStart : Nat := 100
  demandImp : Option Nat := none
  demandExp : Option Nat := none
  pCeil : Nat := 0
  /-- Channel sources: code and bay (R259). -/
  profiles : Tab (Nat × Nat) := []
  tamper : Tab TamperMode := []
  metroSlot : Nat := 16
  legalPeriod : Nat := 10
deriving DecidableEq, Repr

/-- One Choker channel (R360 to R370, R376). Currents in 0.1 A, `tWin` in ms, `tRetry` in 10 ms, duty in percent. -/
structure ChanCfg where
  configured : Bool := false
  owner : ChOwner := .software
  profile : ChProfile := .resistive
  safety : Bool := false
  idleKept : Bool := false
  iNom : Nat := 1
  shed : Nat := 0
  pwmF : Nat := 0
  tWin : Nat := 0
  dHold : Nat := 0
  retryMax : Nat := 0
  tRetry : Nat := 10
deriving DecidableEq, Repr

/-- Settings of a Stand Table point (R103, R517). -/
structure PtCfg where
  typ : PtType := .raw
  safetyPt : Bool := false
  safe : DWord := 0
  min : DWord := 0
  max : DWord := 0
  rate : Word := 0
  timeout : Nat := 0
  filter : Nat := 0
  tau : Nat := 0
  pub : Nat := 0
  period : Nat := 0
  deadband : Word := 0
  srcKind : Nat := 0
  srcAddr : Nat := 0
  pinned : Bool := false
deriving DecidableEq, Repr

/-- STAND section (R77, R103): the number of points and the settings of each. -/
structure StandCfg where
  points : Nat := 0
  cfg : Tab PtCfg := []
deriving DecidableEq, Repr

/-- One Yarder node (R196, R198). -/
structure NodeCfg where
  typ : NodeType := .none
  parent : Nat := 0xFFFF
  pMax : Nat := 0
  pRev : Nat := 0
  iMax : Nat := 0
  eff : Nat := 0x8000
  limitPt : Option Nat := none
  availPt : Option Nat := none
  basePt : Option Nat := none
  socPt : Option Nat := none
  cls : Nat := 7
  gMin : Nat := 0
  safeMin : Nat := 0
  rampUp : Nat := 1
  rampDn : Nat := 1
  maxMod : Nat := 1
  reach : Word := 0
  swT : Nat := 150
  bayDev : Nat := 0
  bayBridged : Bool := false
  bayNum : Nat := 0
  socRes : Nat := 0
  socTgt : Nat := 100
  conn : Option Nat := none
deriving DecidableEq, Repr

/-- YARDER section (R196, R200, R205): `margin` is CEIL_MARGIN in percent. -/
structure YarderCfg where
  nodes : Tab NodeCfg := []
  count : Nat := 0
  tCyc : Nat := 10
  margin : Nat := 2
deriving DecidableEq, Repr

/-- One lane input of PEAVEY (R348); `gain` and `off` are binary32. -/
structure LaneIn where
  kind : Nat := 0
  sqr : Bool := false
  lane : Nat := 0
  point : Nat := 0
  gain : Word := 0
  off : Word := 0
deriving DecidableEq, Repr

/-- One Peavey lane as PEAVEY configures it (R345 to R353, R358). -/
structure LaneCfg where
  configured : Bool := false
  nsec : Nat := 1
  clamp : Bool := false
  integ : BitVec 8 := 0
  outKind : Nat := 0
  outCh : Nat := 0
  outPt : Nat := 0
  feAct : Nat := 0
  invProp : Bool := false
  period : Nat := 1
  inA : LaneIn := {}
  inB : LaneIn := {}
  inC : LaneIn := {}
  outLo : BitVec 16 := 0
  outHi : BitVec 16 := 0
  outScale : Word := 0
  outOff : Word := 0
  feLim : Nat := 0
  feTime : Nat := 1
  outSafe : BitVec 16 := 0
  /-- Coefficient k of section s at key 8 * s + k. -/
  coef : Tab Word := []
deriving DecidableEq, Repr

/-- SKIDLINE section (R378 to R400). -/
structure SklCfg where
  /-- The section is present: set when an image is applied (R14). -/
  on : Bool := false
  coupling : Nat := 0
  planW : Bool := false
  domain : Nat := 0
  addr : Nat := 0
  coord : Bool := false
  routePeriod : Nat := 300
  keySlot : Nat := 48
  fc : Nat := 300
  /-- Carrier-sense level of band plan W (R386). -/
  csLvl : Nat := 0
deriving DecidableEq, Repr

/-- One Hinge connection as SAFETY configures it (R332): `tx` says this device sends on it. -/
structure HingeCfg where
  used : Bool := false
  connId : Nat := 0
  tx : Bool := false
  paired : Nat := 0
  link : Nat := 0
  peer : Nat := 0
  period : Nat := 10
  timeout : Nat := 40
  window : Nat := 16
deriving DecidableEq, Repr

/-- SAFETY section: parameter schema and first values (R92, R337), Hinge connections (R332), content identity. -/
structure SafetyCfg where
  params : List (Nat × DWord) := []
  conns : Tab HingeCfg := []
  digest : Nat := 0
deriving DecidableEq, Repr

/-- A daylight rule's end point: month, week (5 = last), weekday (0 = Monday), local minute (R256). -/
structure DstPoint where
  month : Nat := 1
  week : Nat := 1
  weekday : Nat := 0
  minute : Nat := 0
deriving DecidableEq, Repr

/-- CALENDAR section (R256, R466, R252's key slot). A special day has year 0 where it recurs. -/
structure CalCfg where
  seasons : List (Nat × Nat × Nat) := []
  weeks : List (List Nat) := []
  days : List (List (Nat × Nat)) := []
  specials : List (Nat × Nat × Nat × Nat) := []
  offsetMin : Int := 0
  dst : Option (DstPoint × DstPoint) := none
  /-- Billing period: none = by message only, else day 1 to 28 and the local minute. -/
  period : Option (Nat × Nat) := none
  utcOff : Int := 37
  authSlot : Nat := 112
deriving DecidableEq, Repr

/-- NETWORK section (R37, R38, R41, R190, R331): port modes, the service port's speed (0 = 10, 1 = 100, 2 = 1,000 Mbit/s),
the PCIe generation and lanes, and the traffic classes in the order in which they are dropped. -/
structure NetCfg where
  /-- The MAC address base of each bay, local at its number and bridged at 256 above (R174). -/
  macs : Tab Nat := []
  port0 : Nat := 0
  port1 : Nat := 0
  svcSpeed : Nat := 2
  pcieGen : Nat := 3
  pcieLanes : Nat := 2
  classPrio : List Nat := []
  hub : Nat := 0
  tunPort : Nat := 47101
  hingePort : Nat := 47102
  /-- Ingress and egress latency of NET0, NET1, BOOM0 and BOOM1 to the line in ns (R461). -/
  latIn : List Nat := []
  latOut : List Nat := []
deriving DecidableEq, Repr

/-- An operation of the PERMITS section (R68): power, priority and default wait limit. -/
structure PermitCfg where
  power : Nat := 0
  prio : Nat := 0
  wait : Nat := 0
deriving DecidableEq, Repr

/-- One region of a panel (R430). -/
structure RegionCfg where
  used : Bool := false
  x : Nat := 0
  y : Nat := 0
  w : Nat := 0
  h : Nat := 0
deriving DecidableEq, Repr

/-- One panel (R423, R429): band boundaries in 0.1 degree, and the waveform length of each band. -/
structure PanelCfg where
  used : Bool := false
  bay : Option Nat := none
  legal : Bool := false
  width : Nat := 8
  height : Nat := 1
  tFrame : Nat := 20
  vcom : Nat := 50
  tempPt : Nat := 0
  tLo : Int := 0
  tHi : Int := 500
  bounds : List Int := []
  nFrames : List Nat := []
  /-- Curve of band b, colour c (0 = red, 1 = green, 2 = blue) for value v at 768 b + 256 c + v (R428). -/
  curves : Tab Nat := []
  /-- Reference colour i of band b at 4 b + i: black, white, red, yellow (R428). -/
  palette : Tab (Nat × Nat × Nat) := []
  /-- Drive code by ((3 band + mode) 4,096 + frame) 16 + 4 present + target, mode 0 = INIT, 1 = FULL, 2 = PARTIAL (R429). -/
  waves : Tab (BitVec 2) := []
  regions : Tab RegionCfg := []
deriving DecidableEq, Repr

/-- BRAND section (R423, R426). -/
structure BrandCfg where
  panels : Tab PanelCfg := []
  railHold : Nat := 2
deriving DecidableEq, Repr

/-- One antenna (R402 to R404, R419); protocol bits A, B, V. -/
structure AntCfg where
  en : Bool := false
  bay : Option Nat := none
  proto : BitVec 3 := 0
  tagNear : Bool := false
deriving DecidableEq, Repr

/-- NFC section (R402, R411, R419, R420). -/
structure NfcCfg where
  ants : Tab AntCfg := []
  mbox : Bool := false
  vharv : Bool := false
  holdMax : Nat := 2
deriving DecidableEq, Repr

/-- One bridged bay of VLINK (R151): satellite address, Hinge connections, key slot, and what VLINK gives a local bay
beside BAYMAP (R175, R177, R184). -/
structure BridgedCfg where
  used : Bool := false
  sat : Nat := 0
  rx : Nat := 0
  tx : Nat := 0
  slot : Nat := 48
  mcs : Bool := false
  protos : List Proto := []
  evCertReq : Bool := false
  secPolicy : Nat := 0
deriving DecidableEq, Repr

/-- VLINK section: timers in ms in the order of R131, bridged bays. -/
structure VlinkCfg where
  tLink : Nat := 50000
  tNeg : Nat := 20000
  tAuth : Nat := 60000
  tLock : Nat := 1000
  tCable : Nat := 38000
  tPre : Nat := 7000
  tPdwait : Nat := 10000
  tReneg : Nat := 60000
  tStop : Nat := 2000
  bridged : Tab BridgedCfg := []
deriving DecidableEq, Repr

/-- FORMATS: LOW and HIGH of each structure ID (R87). -/
structure FmtRange where
  low : Nat := 0
  high : Nat := 0
deriving DecidableEq, Repr

/-- STACK and PAIR sections (R18, R26): member identities by number, and the two masters' identities. -/
structure StackCfg where
  present : Bool := false
  members : Tab Nat := []
  pair : Option (Nat × Nat) := none
deriving DecidableEq, Repr

/-- Everything the sections of an image configure. -/
structure ImageContent where
  struct_ : StructCfg := {}
  balls : Tab BallCfg := []
  bays : Tab BayCfg := []
  metro : MetroCfg := {}
  choker : Tab ChanCfg := []
  stand : StandCfg := {}
  yarder : YarderCfg := {}
  lanes : Tab LaneCfg := []
  skl : SklCfg := {}
  safety : SafetyCfg := {}
  cal : CalCfg := {}
  stack : StackCfg := {}
  net : NetCfg := {}
  /-- Overrides of R68's table, keyed by the operation's row 0 to 9. -/
  permits : Tab PermitCfg := []
  brand : BrandCfg := {}
  nfc : NfcCfg := {}
  vlink : VlinkCfg := {}
  formats : Tab FmtRange := []
  /-- Structures and versions for which MIGRATION and MIGRATION_V hold a step: (structure, from version). -/
  migSteps : List (Nat × Nat) := []
  migStepsV : List (Nat × Nat) := []
  /-- Global IDs of the points that Choker and the Hinge publication consume (CHOKER, SAFETY; R108, R109, R518). -/
  chkPts : List Nat := []
  hingePts : List Nat := []
  acFw : BitVec 8 := 0
  fwScalVer : Nat := 0
deriving DecidableEq, Repr

/-- A whole image: header, the identity of the body's octets, the section table and the settings. -/
structure Image where
  hdr : ImageHeader := {}
  bodyId : Nat := 0
  sections : List Section := []
  content : ImageContent := {}
deriving DecidableEq, Repr

end Sys2Proof
end

