-- ==== Sys2Proof/Syntax/Operand.lean ====
section
/-! DEFINITION. What the commands and events carry: the common part of a command descriptor (R114), the
messages and frames that arrive from outside, and the facts of the world an event brings with it. A key is
named by its identity: a message carries in `signer` the identity of the key that signed exactly its fields,
0 where no signature verifies (assumption 3). -/
namespace Sys2Proof

/-- The part of a descriptor every command shares (R114): the ring's side, `TAG` and the IRQ flag. -/
structure Cmd where
  side : Side := .core
  tag : BitVec 16 := 0
  irq : Bool := false
deriving DecidableEq, Repr

/-- One write on the bus: issuer, physical address (R4; a host reaches BAR0 and BAR2 at the addresses they map, R39)
and the octets written, lowest address first (R10). -/
structure Access where
  side : Side := .core
  addr : Nat := 0
  data : List Byte := []
deriving DecidableEq, Repr

/-- The straps sampled at the rising edge of `PORST_N` (R49). -/
structure Straps where
  bootSrc : Nat := 0
  boomMstr : Bool := false
  pairB : Bool := false
deriving DecidableEq, Repr

/-- What a start meets outside the image (R50): the most bit errors in a block under each copy of the
helper data (R440, R441), the failing rows Cruise finds in each Landing bank and
L2 way (R473), failures of the other memories, of the engine load (R81) and of Spar's diagnostics (R323). -/
structure BootEnv where
  pufA : Nat := 0
  pufB : Nat := 0
  /-- Rows found failing: (bank 0 to 47, or 48 + way for the 32 ways of both L2, row). -/
  badRows : List (Nat × Nat) := []
  memFail : Bool := false
  loadFail : Bool := false
  sparFail : Bool := false
  /-- Key-store records that fail their tag, by slot (R446). -/
  sealFail : List Nat := []
  /-- The main supplies failed during the reset (R70). -/
  mainsLost : Bool := false
  /-- Seconds and nanoseconds the real-time clock has advanced since the last step. -/
  rtc : Stamp := {}
  /-- Fitted DRAM in GiB (R496). -/
  dramGiB : Nat := 4
  /-- The power-fail inputs as the reset ends: `PFW_N` and `VAUX` in 0.1 V (R57, R58). -/
  pfwN : Bool := true
  vaux : Nat := 120
  /-- The 32.768 kHz crystal is absent (R63). -/
  x32Lost : Bool := false
  /-- Bays whose stored calibration fails its digest (R232). -/
  calBad : List Nat := []
deriving DecidableEq, Repr

/-- A sample of one bay as the decimators deliver it (R222): signed 24-bit codes. -/
structure BayCodes where
  v : Int := 0
  ih : Int := 0
  il : Int := 0
  e : Int := 0
deriving DecidableEq, Repr

/-- A key-update message (R447). For KIND 1 `keyId` is the identity of the wrapped key, `keyBits` its unwrapped
length, `unwrapOk` whether the unwrap succeeds; for KIND 3 and 4 `keyId` is the new public key. `digest` is the
digest a statement names (KIND 16, 17), `num` its sequence number (KIND 18, 19), target state (5) or bay (17). -/
structure KeyMsg where
  ver : Nat := 1
  kind : Nat := 0
  auth : Nat := 0
  slot : Nat := 0xFFFF
  span : Nat := 0
  alg : Nat := 0
  devId : Nat := 0
  ctr : Nat := 0
  usage : BitVec 16 := 0
  label : Word := 0
  keyId : Nat := 0
  keyBits : Nat := 0
  unwrapOk : Bool := true
  /-- `BODY_LEN` is 0 to 368 and what the `KIND` has. -/
  bodyOk : Bool := true
  op : Nat := 0
  digest : Nat := 0
  num : Nat := 0
  signer : Nat := 0
deriving DecidableEq, Repr

/-- A tariff-authority message (R253). -/
structure TlyMsgOp where
  ver : Nat := 1
  kind : Nat := 0
  tariff : Nat := 0
  devId : Nat := 0
  ctr : Nat := 0
  effective : Nat := 0
  leaseEnd : Nat := 0
  /-- The key `SIG` is made under, and the draw of the signature. -/
  signer : Nat := 0
  sigDraw : Nat := 0
deriving DecidableEq, Repr

/-- The calibration values a SCL_CAL_WRITE carries (R232): gains Q2.30, offsets, cable resistance, and the
SHA-256 identity of their 36 bytes. -/
structure CalVals where
  gainV : Int := 0
  offV : Int := 0
  gainIh : Int := 0
  offIh : Int := 0
  gainIl : Int := 0
  offIl : Int := 0
  gainE : Int := 0
  offE : Int := 0
  rCable : Nat := 0
  digest : Nat := 0
deriving DecidableEq, Repr

/-- A Stand Table entry's live part (R103); the settings are `PtCfg`. -/
structure PtVal where
  value : DWord := 0
  stamp : Stamp := {}
  updCtr : Word := 0
  qual : Qual := .uninit
deriving DecidableEq, Repr

/-- What the owner of a remote point answers over Boom (R126, R518): `known` says its table holds the point,
`srcKind` the kind of the point's source, `safetyPt` its SAFETY flag. -/
structure RemotePt where
  known : Bool := true
  cfg : PtCfg := {}
  val : PtVal := {}
deriving DecidableEq, Repr

/-- LND_PT_CFG parameters (R519). -/
structure PtCfgOp where
  point : Nat := 0
  mask : BitVec 8 := 0
  safe : DWord := 0
  min : DWord := 0
  max : DWord := 0
  rate : Word := 0
  timeout : BitVec 16 := 0
  filter : BitVec 16 := 0
  pub : BitVec 16 := 0
  deadband : Word := 0
deriving DecidableEq, Repr

/-- One entry of the vehicle's application protocol list (R178). -/
structure SapEntry where
  proto : Proto := .none
  major : Nat := 2
  minor : Nat := 0
  prio : Nat := 1
deriving DecidableEq, Repr

/-- A TLS handshake as it ends at the crypto engine (R184, R185): the version the offer settles on, none where it meets
no version, the suite's and the key exchange group's registry codes, the root the vehicle names, and whether a
vehicle certificate was presented and verified. -/
structure TlsOffer where
  version : Option Transport := some .tls13
  suite : BitVec 16 := 0x1302
  group : BitVec 16 := 25
  root : Option Nat := none
  vehCert : Bool := false
  badCert : Bool := false
deriving DecidableEq, Repr

/-- A service as service discovery names it (R179): DC, DC bidirectional, certificate installation or update, another. -/
inductive Service | dc | dcBpt | cert | other
deriving DecidableEq, Repr

/-- A decoded vehicle message, by what it asks (the messages of R180's table). -/
inductive V2g
  | undecodable                                   -- fails decoding, validation or length (R182)
  | badHeader                                     -- another V2GTP version or unknown payload type (R174)
  | sessionSetup
  | authSetup
  | serviceDiscovery
  | serviceSelect (svc : Service)
  | paymentDetails
  | authorization
  | chargeParam (vMax iMax : Nat)                 -- in 0.1 V and 0.1 A
  | scheduleExchange
  | cableCheck
  | preCharge (vTarget : Nat)
  | powerStart
  | chargeLoop (iReq vReq : Nat)
  | powerStop
  | pause
  | renegotiate
  | weldingDetection (open_ : Bool)
  | errorCode
  | sessionStop
deriving DecidableEq, Repr

/-- What a certificate of a contract chain says (R187): its octets, its public key's identity, the identity of the key
that signed it, the basic constraint `cA`, the key usages for certificates and for signatures, and its validity in TAI seconds. -/
structure ContractCert where
  der : List Byte := []
  key : Nat := 0
  signer : Nat := 0
  ca : Bool := false
  certSign : Bool := false
  digSign : Bool := true
  notBefore : Nat := 0
  notAfter : Nat := 0
deriving DecidableEq, Repr

/-- A contract certificate chain as presented (R187), leaf first, the index of the root it ends at, the leaf's eMAID, and
the vehicle's signature: the octets signed and the identity of the key it verifies under. -/
structure ContractOp where
  certs : List ContractCert := []
  root : Nat := 0
  emaid : List Byte := []
  signed : List Byte := []
  signer : Nat := 0
deriving DecidableEq, Repr

/-- The checks of R187 a contract chain may fail, each with the failure code of the negotiated standard (R188). -/
inductive ContractFail | chainLength | size | root | signature | usage | validity | challenge
deriving DecidableEq, Repr

/-- How a vehicle message is answered (R178 to R180, R188). -/
inductive Resp
  | ok | okNegotiation | okMinorDeviation | failedNoNegotiation | ongoing | sequenceError | authFailed
  | serviceSelectionFailed | certificateFailed (why : ContractFail) | services (l : List Service)
deriving DecidableEq, Repr

/-- A SLAC message that a bay sends (R169, R170): the run it belongs to, the average attenuation of each carrier group,
whether validation is required, and the network's identity and key. -/
inductive SlacMsg
  | parmCnf (runId mac : Nat)
  | attenCharInd (runId : Nat) (averages : List Nat) (sounds : Nat)
  | validateCnf (runId : Nat) (required : Bool)
  | matchCnf (runId : Nat) (nid : BitVec 54) (nmk : List Byte)
deriving DecidableEq, Repr

/-- What a tunnel frame from this device carries (R190 to R192): a granted version, a refusal's cause, the release, or as
DATA the answer to the vehicle. -/
inductive TunBody
  | grant (ver : Nat)
  | refuse (cause : Nat)
  | release
  | answer (r : Resp) (limit : Nat)
  | sdp (tls : Bool)
deriving DecidableEq, Repr

/-- A tunnel frame (R190, R191): `ver` is bits 7 to 4 of `VER_TYPE`, `signer` the identity of the key its ICV verifies under. -/
structure TunFrame where
  ver : Nat := 1
  bb : Nat := 0
  sat : Nat := 0
  ctr : Nat := 1
  verLo : Nat := 1
  verHi : Nat := 1
  payload : List Byte := []
  signer : Nat := 0
deriving DecidableEq, Repr

/-- A satellite meter's signed reading once reassembled (R272): registers in mWh, its time and its signer. -/
structure SatReading where
  imp : Nat := 0
  exp : Nat := 0
  time : Stamp := {}
  signer : Nat := 0
deriving DecidableEq, Repr

/-- One Hinge payload (R215, R336). A fragment of a reading carries, at its last index, what the fragments
spell once joined. -/
inductive HPay
  | request (dev : Nat) (bridged : Bool) (bay sess iReq vOut limit iMeas : Nat) (inv exp : Bool)
  | setpoint (dev : Nat) (bridged : Bool) (bay : Nat) (cycle : Word) (iSet pSet : Nat)
  | module (cmd node : Nat) (cycle : Word) (iSet vTgt outlet : Nat)
  | reading (idx last : Nat) (whole : Option SatReading)
  | step (bb step result cause uTgt vMeas : Nat) (iMeas : Int) (rF fb : Nat)
  | signals (state valid : Word)
  | malformed
deriving DecidableEq, Repr

/-- A Hinge frame (R331) from link and peer: `crcOk` says its CRC verifies, `fmtOk` check 1 of R333. -/
structure HFrame where
  link : Nat := 0
  peer : Nat := 0
  fmtOk : Bool := true
  crcOk : Bool := true
  version : Nat := 1
  connId : Nat := 0
  seq : BitVec 16 := 0
  texp : Nat := 100
  pays : List HPay := []
  /-- CONNECT: lowest and highest version, initial SEQ. CONNECT_ACK: selected version and acknowledged ID. -/
  verLo : Nat := 1
  verHi : Nat := 2
  initSeq : BitVec 16 := 0
  ackId : Nat := 0
  bodyOk : Bool := true
deriving DecidableEq, Repr

/-- What a ROUTE frame says of its sender, or, with `nbrs` in place of `entries`, a PATH frame (R394). An entry is a
neighbour, the cost of its link to the sender, and the `F_RT` code of the sender's attempts to it. -/
structure SRoute where
  parent : Nat := 0xFFFF
  hops : Nat := 0
  cost : Nat := 0
  verLo : Nat := 1
  verHi : Nat := 2
  nextEpoch : Nat := 0
  actTime : Nat := 0
  entries : List (Nat × Nat × Nat) := []
  nbrs : Nat := 0
deriving DecidableEq, Repr

/-- A Skidline frame (R385): its header, the payload of its type, and the identity of the key its tag is made with. -/
structure SFrame where
  typ : SklType := .data
  ver : Nat := 1
  cls : SklClass := .control
  ackReq : Bool := false
  noFwd : Bool := false
  domain : Nat := 0
  src : Nat := 0
  dst : Nat := 0
  orig : Nat := 0
  final : Nat := 0
  mseq : Nat := 0
  hops : Nat := 0
  epoch : Nat := 0
  ctr : Nat := 1
  signer : Nat := 0
  /-- DATA: `PROTO`, the octets after it, or the Hinge frame that stands for them. -/
  proto : Nat := 3
  payload : List Byte := []
  hinge : Option HFrame := none
  /-- The Hinge frame's type: 0 = DATA, 1 = CONNECT, 2 = CONNECT_ACK. -/
  hKind : Nat := 0
  route : SRoute := {}
  ackCtr : Nat := 0
deriving DecidableEq, Repr

/-- How one phase received a frame (R378, R382, R384): SNR over the preamble in dB, in-band noise floor in dBµV, the
symbols at which the envelope stood out, with its height in dBµV, numbered from the preamble's first, and the bytes
(block, codeword, byte) demodulated wrong. -/
structure SPhase where
  snr : Nat := 0
  noise : Nat := 0
  peaks : List (Nat × Nat) := []
  wrong : List (Nat × Nat × Nat) := []
deriving DecidableEq, Repr

/-- A reception: the number of blocks `B` that the sync word gives, and each phase (R378, R381). -/
structure SRx where
  blocks : Nat := 1
  phases : List SPhase := [{}]
deriving DecidableEq, Repr

/-- A card a reader transaction reaches (R402, R407 to R409), in the order reached. -/
structure Card where
  proto : NfcProto := .a
  uid : List Byte := []
  iso4 : Bool := false
deriving DecidableEq, Repr

/-- What the master's discovery frame carries (R22, R23): its identity, pair configuration and epoch, the versions it
supports and the minor version it announces. -/
structure DiscFrame where
  ident : Nat := 0
  pair : Option (Nat × Nat) := none
  epoch : Word := 0
  verLo : Nat := 0
  verHi : Nat := 2
  minor : Nat := 2
deriving DecidableEq, Repr

/-- A device's entry in a discovery frame (R22, R23). -/
structure DiscEntry where
  num : Nat := 0
  ident : Nat := 0
  verLo : Nat := 0
  verHi : Nat := 2
deriving DecidableEq, Repr

/-- A discovery round as it shows at a device (R22, R36): the masters found, whether it closed in both
directions, the broken link's device, the devices entered, the master's pair section and version choice. -/
structure DiscView where
  masters : Nat := 1
  pairOk : Bool := false
  reachable : Bool := true
  closed : Bool := true
  complete : Bool := true
  breakDev : Nat := 0
  entries : List DiscEntry := []
  /-- At a member, the master's stack section as the frame shows it: identity by number (R18, R19). -/
  members : Tab Nat := []
  epoch : Word := 0
  minor : Nat := 2
  /-- The standby reports STANDBY_SYNCED (R27, R42). -/
  standbySynced : Bool := false
deriving DecidableEq, Repr

/-- A heartbeat (R29, R34, R35); `sleep` says that the master puts the ring into IDLE-SITE (R55, assumption 45). -/
structure Heartbeat where
  epoch : Word := 0
  ident : Nat := 0
  pairB : Bool := false
  handover : Bool := false
  sleep : Bool := false
deriving DecidableEq, Repr

/-- Where a module stands in the switching sequence of R214. -/
inductive ModSt | unassigned | releasing | opening | closing | settled | joined
deriving DecidableEq, Repr

/-- A client's last REQUEST (R215). -/
structure ClientReq where
  sess : Nat := 0
  iReq : Nat := 0
  vOut : Nat := 0
  limit : Nat := 0
  iMeas : Nat := 0
  inv : Bool := false
  exp : Bool := false
deriving DecidableEq, Repr

/-- One Yarder node at run time (R202 to R219); the mirror carries it whole (R27, R217). -/
structure Node where
  overLim : Option Nat := none
  cls : Option Nat := none
  gMin : Option Nat := none
  mode : StorMode := .peakShave
  socTgt : Option Nat := none
  setpoint : Int := 0
  expSet : Nat := 0
  lEff : Nat := 0
  demand : Nat := 0
  alloc : Int := 0
  iSet : Nat := 0
  flow : Int := 0
  status : BitVec 16 := 0
  bound : Nat := 0
  /-- MODULE: outlet it is assigned to and its place in R214. -/
  outlet : Option Nat := none
  sw : ModSt := .unassigned
  oos : Bool := false
  swFault : Bool := false
  /-- OUTLET: the 5 s of R213 have passed; the next cycle releases what exceeds `n_des`. -/
  excess : Bool := false
  req : Option ClientReq := none
  clientTo : Bool := false
  clientRamp : Bool := false
  /-- Class and modules (or outlet) as of the last cycle, for YRD_NODE_READ (R219). -/
  clsRead : Nat := 0
  mods : Nat := 0
deriving DecidableEq, Repr

/-- What a publication carries (R111, R251): a point's entry, or a stack member's bay registers over all tariffs in mWh. -/
inductive Publication
  | point (gid : Nat) (cfg : PtCfg) (val : PtVal)
  | energy (dev bay imp exp : Nat) (time : Stamp)
deriving DecidableEq, Repr

/-- An open record of a bridged bay as the mirror carries it (R27, R28): registers at its start and as last verified. -/
structure MirRec where
  bay : Nat := 0
  method : Method := .none
  ident : List Byte := []
  tStart : Stamp := {}
  startImp : Nat := 0
  startExp : Nat := 0
  imp : Nat := 0
  exp : Nat := 0
deriving DecidableEq, Repr

/-- A mirror frame (R27): its kind (0 = Yarder, 1 = Stand Table, 2 = Tally), whether it completes that kind's copy,
whether it shows a gap, and what it carries: nodes and cycle count, points, the site registers with `E_INT` by interval
(R262), the ceiling, the open records of bridged bays. -/
structure MirrorFrame where
  kind : Nat := 0
  complete : Bool := true
  gap : Bool := false
  nodes : Tab Node := []
  cycle : Word := 0
  points : List (Nat × PtVal) := []
  site : Tab Nat := []
  ivlSum : Tab Nat := []
  pCeil : Nat := 0
  recs : List MirRec := []
deriving DecidableEq, Repr

/-- One measured channel for Choker's periodic work: current in mA, junction temperature in degrees. -/
structure ChMeas where
  ch : Nat := 0
  mA : Nat := 0
  tj : Int := 25
deriving DecidableEq, Repr

end Sys2Proof
end

