-- ==== Sys2Proof/Syntax.lean ====
section
/-! DEFINITION. The commands of the part: one constructor per row of spec/opcode_table.json, in the table's
order. A host command carries its descriptor's common part and its parameters; the buffers it reads come with
it, and a destination is a Landing offset. An event carries the facts of the world that make it happen. -/
namespace Sys2Proof

/-- The commands, operations and events of the FLN-4816, one constructor per table row. -/
inductive Instr
  | registerWrite (a : Access)
  | porstNPulse (lowUs : Nat) (straps : Straps) (coin : Bool)
  | railFault (outNs : Nat) (coin mainsFail : Bool)
  | clkFault (permille us : Nat) (coin : Bool)
  | nfcLoss
  | x32Loss (backup : Bool)
  | safeClockLoss
  | secWdt (coin : Bool)
  | swReset (coin : Bool)
  | boot (held : Bool) (env : BootEnv)
  | migrationBackground (records : Nat)
  | pcieImageBlock (len : Nat) (img : Image)
  | sysPermitReq (c : Cmd) (power dur prio wait : Nat)
  | sysPermitRelease (c : Cmd) (handle : Nat)
  | sysSleep (c : Cmd) (timer : Nat)
  | sysPowerMode (c : Cmd) (target : Nat)
  | sysReset (c : Cmd)
  | wake (src bay : Nat)
  | doorbell (value : Word)
  | powerFailWarning (pfwN : Bool) (vaux afterNs : Nat) (post : List (List BayCodes)) (mainsFail : Bool)
  | permitWaitExpiry (id : Nat)
  | permitExpiry (id : Nat)
  | cfgBankErase (c : Cmd) (bank : Nat)
  | cfgBankWrite (c : Cmd) (bank off len : Nat) (img : Image)
  | cfgBankVerify (c : Cmd) (bank : Nat)
  | cfgActivate (c : Cmd) (bank : Nat)
  | cfgConfirm (c : Cmd)
  | cfgRevert (c : Cmd)
  | cfgReverifyClear (c : Cmd) (m : KeyMsg)
  | pointUpdate (pt : Nat) (raw : DWord) (t : Option Stamp) (bad : Bool)
  | timeoutSweep
  | cacheWriteback (pt : Nat)
  | periodicPublication (pt : Nat)
  | publicationRx (p : Publication)
  | scrubLine (medium : Medium) (addr errs : Nat) (wrongAddr : Bool)
  | hstQPiWrite (q : Nat) (value : Word)
  | ringEnable (q : Nat) (value : Word)
  | ringDisable (q : Nat) (value : Word)
  | ringDisableDone (q : Nat)
  | hstQBaseWrite (q : Nat) (res : Bool) (value : Word)
  | hstQLog2sizeWrite (q : Nat) (value : Word)
  | undefinedOpcode (c : Cmd) (block : Nat) (opcode : BitVec 16)
  | lndPtRead (c : Cmd) (list : Nat) (ids : List Nat) (dst : Nat) (remote : Tab RemotePt)
  | lndPtWrite (c : Cmd) (pairs : List (Nat × DWord)) (remote : Tab RemotePt)
  | lndPtCfg (c : Cmd) (op : PtCfgOp) (remote : Tab RemotePt)
  | lndSubOpen (c : Cmd) (first last off len : Nat)
  | lndSubClose (c : Cmd) (handle : Nat)
  | hstApiOpen (c : Cmd) (loMajor loMinor hiMajor hiMinor : Nat)
  | pilotStateChange (bay : Nat) (high low : Int) (samples : Nat)
  | pilotManualWrite (bay : Nat) (value : Word)
  | proximityChange (bay mv : Nat)
  | linkUp (k mac : Nat)
  | linkLoss (k : Nat)
  | tLinkExpiry (k : Nat)
  | tNegExpiry (k : Nat)
  | tAuthExpiry (k : Nat)
  | tLockExpiry (k : Nat)
  | tCableExpiry (k : Nat)
  | tPreExpiry (k : Nat)
  | tPdwaitExpiry (k : Nat)
  | tRenegExpiry (k : Nat)
  | tStopExpiry (k : Nat)
  | sdpRequest (k : Nat) (tls : Bool)
  | tcpConnect (k : Nat)
  | tlsHandshake (k : Nat) (h : TlsOffer)
  | supportedAppProtocolReq (k len : Nat) (list : List SapEntry)
  | v2gMessageRx (k len : Nat) (m : V2g)
  | v2gMessageTimeout (k : Nat)
  | contractCertVerify (k : Nat) (cert : ContractOp)
  | vlkAuthDecide (c : Cmd) (k reqId decision limWh limMin : Nat)
  | vlkPreauth (c : Cmd) (bridged bay : Nat) (ident : List Byte) (limWh limMin : Nat)
  | preauthExpiry (bridged : Bool) (bay : Nat)
  | lockFeedback (bay : Nat) (locked : Bool)
  | prechargeComplete (k : Nat)
  | contactorFeedback (bay : Nat) (kon : Kon) (closed : Bool)
  | k1FeedbackTimeout (k : Nat)
  | durationLimitExpiry (k : Nat)
  | weldCheckDone (k : Nat) (closedAt100 : Bool)
  | unplugWaitExpiry (k : Nat)
  | evqCiWrite (value : Word)
  | evqEnable (value : Word)
  | evqBaseWrite (value : Word)
  | ctxReq (f : TunFrame)
  | tunnelData (f : TunFrame) (mac : Nat)
  | tunnelLinkUp (f : TunFrame)
  | tunnelLinkDown (f : TunFrame)
  | vlkBaySet (c : Cmd) (bay target : Nat)
  | vlkSessStop (c : Cmd) (k reason : Nat)
  | vlkSessLimit (c : Cmd) (k cap : Nat)
  | vlkSessInfo (c : Cmd) (k : Nat)
  | vlkWeldClear (c : Cmd) (bridged bay : Nat)
  | greenphyPermitRetry (bay : Nat)
  | cmSlacParmReq (bay runId mac : Nat)
  | cmMnbcSoundInd (bay runId announced : Nat) (attens : List Nat)
  | ttEvseMatchMnbcExpiry (bay : Nat)
  | cmAttenCharRsp (bay runId : Nat)
  | cmValidateReq (bay runId : Nat)
  | cmSlacMatchReq (bay runId : Nat)
  | vlkLinkInfo (c : Cmd) (k : Nat)
  | vlkCertRead (c : Cmd) (k dst size : Nat)
  | vlkRootInstall (c : Cmd) (kind : Nat) (key : Nat) (wellFormed : Bool) (der : List Byte)
  | vlkRootRemove (c : Cmd) (index : Nat)
  | yarderCycle (moduleAmps : Tab Nat) (us : Nat)
  | matrixSwitchDone (node : Nat)
  | moduleReleaseTimeout (node : Nat)
  | moduleExcessRelease (node : Nat)
  | requestPeriodic
  | clientHoldExpiry
  | clientLossHoldExpiry (node : Nat)
  | yrdNodeRead (c : Cmd) (node : Nat)
  | yrdLimitSet (c : Cmd) (node : Nat) (limit : Word)
  | yrdClassSet (c : Cmd) (node cls gMin : Nat)
  | yrdStorageSet (c : Cmd) (node mode socTgt : Nat) (setpoint : Int)
  | yrdExportSet (c : Cmd) (node watts : Nat)
  | yrdModuleService (c : Cmd) (node inService : Nat)
  | yrdSnapshot (c : Cmd) (dst : Nat)
  | scalerSample (codes : List BayCodes)
  | rangeToLow (bay : Nat)
  | channelLost (bay : Nat) (ch : MChan)
  | channelRestored (bay : Nat) (ch : MChan)
  | xchkWindow (bay : Nat)
  | dspDeadline
  | tickCommit
  | pulseTestWrite (m : Nat) (value : Word)
  | sclCalRead (c : Cmd) (bay : Nat)
  | sclCalWrite (c : Cmd) (bay : Nat) (m : KeyMsg) (v : CalVals)
  | sclFaultClear (c : Cmd) (bay : Nat) (clearMs : Nat)
  | sclCapture (c : Cmd) (bay dst : Nat) (codes : List BayCodes)
  | leaseExpiry
  | startModeTimeout
  | tlyMsg (c : Cmd) (m : TlyMsgOp)
  | tlyRecRead (c : Cmd) (recno dst : Nat)
  | tlyRecAck (c : Cmd) (first count : Nat)
  | tlyRegSnapshot (c : Cmd) (dst : Nat)
  | tlyReadSigned (c : Cmd) (bay dst : Nat)
  | tlyProfileRead (c : Cmd) (ch first count dst : Nat)
  | tlySrRead (c : Cmd) (first count dst : Nat)
  | tlyCeilSet (c : Cmd) (watts : Word)
  | tlyMdRead (c : Cmd)
  | tamperEvent (input : Nat) (first second backup : Bool)
  | tamperTransfer (torn : List Nat)
  | vbatLow (backup : Bool)
  | blzLogRead (c : Cmd) (first count dst : Nat)
  | blzTamperRead (c : Cmd) (dst : Nat)
  | blzTamperClear (c : Cmd) (mask : BitVec 4)
  | blzLogRelease (c : Cmd) (m : KeyMsg)
  | imdHalfPeriod (bay : Nat) (iInf : Int) (residual : Nat) (tau : Nat) (ovr : Bool)
  | imdDriverStuck (bay : Nat)
  | earthCurrentTrip (bay : Nat)
  | efWarning (bay : Nat)
  | alarmLineTimeout (bay : Nat)
  | imdSelftest (c : Cmd) (bay r1 r2 : Nat)
  | imdTripTest (c : Cmd) (bay us : Nat)
  | safetyInputDemand (input : Nat) (opened : Bool)
  | testPulse (k : Nat) (readLow readHigh : Bool) (high : BitVec 16) (cross : BitVec 16)
  | discrepancyTimeout (pair : Nat)
  | tripAutoClear (input : Nat)
  | resetButtonRelease (input ms : Nat) (clearMs : Tab Nat)
  | soDarkPulse (m : Nat) (readOk : Bool)
  | sparDiagnostic (cause detail : Nat) (pass : Bool)
  | gateTest (j : Nat) (pass : Bool)
  | gateTestOverdue (j : Nat)
  | heartbeatLineTimeout
  | hingeDataRx (f : HFrame)
  | hingeConnectRx (f : HFrame)
  | hingeConnectAckRx (f : HFrame)
  | hingeTimeout (conn : Nat)
  | hingeSend (conn : Nat) (pays : List HPay)
  | hingeConnectSend (conn : Nat)
  | pwdSessionTimeout
  | lockoutExpiry
  | safPwdOpen (c : Cmd) (pwd : List Byte)
  | safPwdClose (c : Cmd)
  | safParamRead (c : Cmd) (first count dst : Nat)
  | safParamSet (c : Cmd) (pairs : List (Nat × DWord))
  | safParamCommit (c : Cmd)
  | safParamConfirm (c : Cmd) (crc : Word)
  | safPwdChange (c : Cmd) (pwd : List Byte)
  | safPwdReset (c : Cmd) (m : KeyMsg) (pwd : List Byte)
  | safLogRead (c : Cmd) (first count dst : Nat)
  | safLogArchive (c : Cmd) (m : KeyMsg)
  | safTripReset (c : Cmd) (inputs : BitVec 16) (sos : BitVec 4) (clearMs : Tab Nat)
  | safHingeInfo (c : Cmd) (index : Nat)
  | laneSample (n instant : Nat)
  | laneRegisterWrite (off : Nat) (value : Word)
  | laneHold (n : Nat) (hold : Bool)
  | stateRst (n : Nat)
  | pvyLaneRead (c : Cmd) (n sec : Nat)
  | pvyFeClear (c : Cmd) (n : Nat)
  | chkChSet (c : Cmd) (ch on duty : Nat)
  | chkChClear (c : Cmd) (ch : Nat)
  | chkChInfo (c : Cmd) (ch : Nat)
  | inrushEnd (ch mA : Nat)
  | channelShort (ch mA mvDs : Nat)
  | channelOverload (ch mA ms : Nat) (first2s : Bool)
  | channelThermal (ch : Nat) (tj refTj : Int)
  | thermalRelease (ch : Nat) (tj refTj : Int)
  | retryTimerExpiry (ch : Nat)
  | retryBudgetRefill (ch : Nat)
  | conductionRecompute (meas : List ChMeas)
  | currentSumShed (meas : List ChMeas)
  | dutyZeroTimeout (ch : Nat)
  | openLoad (ch mA ms : Nat)
  | stuckOn (ch : Nat) (near : Bool) (ms : Nat)
  | supplyAnomaly (vaux gndMv : Int)
  | supplyAnomalyEnd (vaux gndMv : Int)
  | skidlineFrameRx (rx : SRx) (f : SFrame)
  | ackSend (start : Nat)
  | ackIntervalExpiry (skip : Nat)
  | skidlineTxSlot (idle window slot : Nat) (sensed : Bool)
  | frameLifetimeExpiry (id : Nat)
  | alarmForced (start : Nat)
  | routeBroadcast
  | pathSend
  | routeEntryExpiry (node : Nat)
  | epochActivation
  | oldEpochExpiry
  | sklSend (c : Cmd) (final cls : Nat) (payload : List Byte)
  | sklRxRead (c : Cmd) (count dst : Nat)
  | sklNodeRead (c : Cmd) (node : Nat)
  | sklRekey (c : Cmd) (time : Nat)
  | detectionPing (ant : Nat) (amp ph : Int)
  | nfcTransaction (ant : Nat) (cards : List Card)
  | cardHoldExpiry
  | tagSelect (file : Nat)
  | tagReadBinary (page count : Nat)
  | tagUpdateBinary (page : Nat) (data : List Byte)
  | tagFieldLoss
  | tagNearResume
  | totalsPublish
  | excerptCopy
  | nfcPoll (c : Cmd) (ant : Nat) (cards : List Card)
  | nfcXchg (c : Cmd) (ant : Nat) (apdu : List Byte) (resp : Option (List Byte)) (dst : Nat)
  | nfcRelease (c : Cmd) (ant : Nat)
  | nfcTagWrite (c : Cmd) (page : Nat) (data : List Byte) (heldMs : Nat)
  | nfcTagRead (c : Cmd) (page count dst : Nat)
  | railsUp
  | brandRailFault (panel rail : Nat) (mv : Int)
  | railHoldExpiry
  | panelFrame (p : Nat)
  | brandPermitRetry (panel : Option Nat)
  | legalRegionRefresh (bay : Nat)
  | brdRegionUpdate (c : Cmd) (p r mode dither off stride : Nat)
  | brdRegionInfo (c : Cmd) (p r : Nat)
  | brdPanelInit (c : Cmd) (p : Nat)
  | brdRailClear (c : Cmd)
  | keyMsg (c : Cmd) (m : KeyMsg)
  | keySlotInfo (c : Cmd) (slot : Nat)
  | keyPerso (c : Cmd) (auth : Bool) (index key : Nat) (wellFormed : Bool)
  | keyLcAdvance (c : Cmd) (target : Nat)
  | keyAttest (c : Cmd) (challenge dst : Nat)
  | keyChainSet (c : Cmd) (slot leafKey root size : Nat) (wellFormed : Bool)
  | keySign (c : Cmd) (slot digest : Nat)
  | boomTimeSync (port : Nat) (t1 p2 p3 t4 utcOff : Int) (leap : Nat)
  | stepApply
  | servoOffsetTimeout
  | holdoverLimit
  | leapSecond
  | rtcTempComp (temp : Int)
  | rtcSync
  | timOffset (c : Cmd) (sec : Int) (ns frac : Nat) (utcOff : Int) (leap : Nat)
  | timSet (c : Cmd) (sec ns : Nat)
  | timRead (c : Cmd)
  | cruiseSliceRequest
  | cruiseSliceEnd (failRows : List Nat)
  | sliceOverrun
  | crsPause (c : Cmd)
  | crsResume (c : Cmd)
  | crsFuseRepair (c : Cmd)
  | crsReport (c : Cmd) (dst : Nat)
  | discoveryRound
  | discoveryFrameRx (v : DiscView)
  | boomLinkChange (port : Nat) (up : Bool)
  | boomFrameUncorr
  | heartbeatSend
  | heartbeatRx (hb : Heartbeat)
  | masterLost
  | takeover
  | memberHoldExpiry
  | conflictHoldExpiry
  | mirrorRx (f : MirrorFrame)
  | handoverTimeout
  | netPairSwitch (c : Cmd)
  | netRingRediscover (c : Cmd)
  | netPortModeWrite (n : Nat) (value : Word)
  | aonReset
  | netPortLinkChange (n : Nat) (up : Bool) (speed : Nat)
  | nfcReferenceReturn
  | tagFieldSessionStart
  | slewEnd
deriving DecidableEq, Repr

end Sys2Proof
end

