-- ==== Sys2Proof/Decode.lean ====
section
/-! DEFINITION. The host's reading of a table word, and the opcodes of the commands (R515). No row of spec/opcode_table.json
gives its command bits, so no word spells one; a descriptor's opcode (R114, R116) names its command's row, and the descriptor's
fields are that row's operands. -/
namespace Sys2Proof

/-- No row of the table gives bits. -/
def decodeTableWord (_nbits _w : Nat) : Option Instr := none

/-- The descriptor and the opcode of a command posted on a ring (R515); none for an event or a register write. -/
def Instr.posted : Instr → Option (Cmd × Nat)
  | .registerWrite _ => none
  | .porstNPulse _ _ _ => none
  | .railFault _ _ _ => none
  | .clkFault _ _ _ => none
  | .nfcLoss => none
  | .x32Loss _ => none
  | .safeClockLoss => none
  | .secWdt _ => none
  | .swReset _ => none
  | .boot _ _ => none
  | .migrationBackground _ => none
  | .pcieImageBlock _ _ => none
  | .sysPermitReq c _ _ _ _ => some (c, 0x0001)
  | .sysPermitRelease c _ => some (c, 0x0002)
  | .sysSleep c _ => some (c, 0x0003)
  | .sysPowerMode c _ => some (c, 0x0004)
  | .sysReset c => some (c, 0x0005)
  | .wake _ _ => none
  | .doorbell _ => none
  | .powerFailWarning _ _ _ _ _ => none
  | .permitWaitExpiry _ => none
  | .permitExpiry _ => none
  | .cfgBankErase c _ => some (c, 0x0101)
  | .cfgBankWrite c _ _ _ _ => some (c, 0x0102)
  | .cfgBankVerify c _ => some (c, 0x0103)
  | .cfgActivate c _ => some (c, 0x0104)
  | .cfgConfirm c => some (c, 0x0105)
  | .cfgRevert c => some (c, 0x0106)
  | .cfgReverifyClear c _ => some (c, 0x0107)
  | .pointUpdate _ _ _ _ => none
  | .timeoutSweep => none
  | .cacheWriteback _ => none
  | .periodicPublication _ => none
  | .publicationRx _ => none
  | .scrubLine _ _ _ _ => none
  | .hstQPiWrite _ _ => none
  | .ringEnable _ _ => none
  | .ringDisable _ _ => none
  | .ringDisableDone _ => none
  | .hstQBaseWrite _ _ _ => none
  | .hstQLog2sizeWrite _ _ => none
  | .undefinedOpcode _ _ _ => none
  | .lndPtRead c _ _ _ _ => some (c, 0x0201)
  | .lndPtWrite c _ _ => some (c, 0x0202)
  | .lndPtCfg c _ _ => some (c, 0x0203)
  | .lndSubOpen c _ _ _ _ => some (c, 0x0204)
  | .lndSubClose c _ => some (c, 0x0205)
  | .hstApiOpen c _ _ _ _ => some (c, 0x0301)
  | .pilotStateChange _ _ _ _ => none
  | .pilotManualWrite _ _ => none
  | .proximityChange _ _ => none
  | .linkUp _ _ => none
  | .linkLoss _ => none
  | .tLinkExpiry _ => none
  | .tNegExpiry _ => none
  | .tAuthExpiry _ => none
  | .tLockExpiry _ => none
  | .tCableExpiry _ => none
  | .tPreExpiry _ => none
  | .tPdwaitExpiry _ => none
  | .tRenegExpiry _ => none
  | .tStopExpiry _ => none
  | .sdpRequest _ _ => none
  | .tcpConnect _ => none
  | .tlsHandshake _ _ => none
  | .supportedAppProtocolReq _ _ _ => none
  | .v2gMessageRx _ _ _ => none
  | .v2gMessageTimeout _ => none
  | .contractCertVerify _ _ => none
  | .vlkAuthDecide c _ _ _ _ _ => some (c, 0x0502)
  | .vlkPreauth c _ _ _ _ _ => some (c, 0x0503)
  | .preauthExpiry _ _ => none
  | .lockFeedback _ _ => none
  | .prechargeComplete _ => none
  | .contactorFeedback _ _ _ => none
  | .k1FeedbackTimeout _ => none
  | .durationLimitExpiry _ => none
  | .weldCheckDone _ _ => none
  | .unplugWaitExpiry _ => none
  | .evqCiWrite _ => none
  | .evqEnable _ => none
  | .evqBaseWrite _ => none
  | .ctxReq _ => none
  | .tunnelData _ _ => none
  | .tunnelLinkUp _ => none
  | .tunnelLinkDown _ => none
  | .vlkBaySet c _ _ => some (c, 0x0501)
  | .vlkSessStop c _ _ => some (c, 0x0504)
  | .vlkSessLimit c _ _ => some (c, 0x0505)
  | .vlkSessInfo c _ => some (c, 0x0506)
  | .vlkWeldClear c _ _ => some (c, 0x0507)
  | .greenphyPermitRetry _ => none
  | .cmSlacParmReq _ _ _ => none
  | .cmMnbcSoundInd _ _ _ _ => none
  | .ttEvseMatchMnbcExpiry _ => none
  | .cmAttenCharRsp _ _ => none
  | .cmValidateReq _ _ => none
  | .cmSlacMatchReq _ _ => none
  | .vlkLinkInfo c _ => some (c, 0x0508)
  | .vlkCertRead c _ _ _ => some (c, 0x0509)
  | .vlkRootInstall c _ _ _ _ => some (c, 0x050A)
  | .vlkRootRemove c _ => some (c, 0x050B)
  | .yarderCycle _ _ => none
  | .matrixSwitchDone _ => none
  | .moduleReleaseTimeout _ => none
  | .moduleExcessRelease _ => none
  | .requestPeriodic => none
  | .clientHoldExpiry => none
  | .clientLossHoldExpiry _ => none
  | .yrdNodeRead c _ => some (c, 0x0601)
  | .yrdLimitSet c _ _ => some (c, 0x0602)
  | .yrdClassSet c _ _ _ => some (c, 0x0603)
  | .yrdStorageSet c _ _ _ _ => some (c, 0x0604)
  | .yrdExportSet c _ _ => some (c, 0x0605)
  | .yrdModuleService c _ _ => some (c, 0x0606)
  | .yrdSnapshot c _ => some (c, 0x0607)
  | .scalerSample _ => none
  | .rangeToLow _ => none
  | .channelLost _ _ => none
  | .channelRestored _ _ => none
  | .xchkWindow _ => none
  | .dspDeadline => none
  | .tickCommit => none
  | .pulseTestWrite _ _ => none
  | .sclCalRead c _ => some (c, 0x0701)
  | .sclCalWrite c _ _ _ => some (c, 0x0702)
  | .sclFaultClear c _ _ => some (c, 0x0703)
  | .sclCapture c _ _ _ => some (c, 0x0704)
  | .leaseExpiry => none
  | .startModeTimeout => none
  | .tlyMsg c _ => some (c, 0x0801)
  | .tlyRecRead c _ _ => some (c, 0x0802)
  | .tlyRecAck c _ _ => some (c, 0x0803)
  | .tlyRegSnapshot c _ => some (c, 0x0804)
  | .tlyReadSigned c _ _ => some (c, 0x0805)
  | .tlyProfileRead c _ _ _ _ => some (c, 0x0806)
  | .tlySrRead c _ _ _ => some (c, 0x0807)
  | .tlyCeilSet c _ => some (c, 0x0808)
  | .tlyMdRead c => some (c, 0x0809)
  | .tamperEvent _ _ _ _ => none
  | .tamperTransfer _ => none
  | .vbatLow _ => none
  | .blzLogRead c _ _ _ => some (c, 0x0901)
  | .blzTamperRead c _ => some (c, 0x0902)
  | .blzTamperClear c _ => some (c, 0x0903)
  | .blzLogRelease c _ => some (c, 0x0904)
  | .imdHalfPeriod _ _ _ _ _ => none
  | .imdDriverStuck _ => none
  | .earthCurrentTrip _ => none
  | .efWarning _ => none
  | .alarmLineTimeout _ => none
  | .imdSelftest c _ _ _ => some (c, 0x0A01)
  | .imdTripTest c _ _ => some (c, 0x0A02)
  | .safetyInputDemand _ _ => none
  | .testPulse _ _ _ _ _ => none
  | .discrepancyTimeout _ => none
  | .tripAutoClear _ => none
  | .resetButtonRelease _ _ _ => none
  | .soDarkPulse _ _ => none
  | .sparDiagnostic _ _ _ => none
  | .gateTest _ _ => none
  | .gateTestOverdue _ => none
  | .heartbeatLineTimeout => none
  | .hingeDataRx _ => none
  | .hingeConnectRx _ => none
  | .hingeConnectAckRx _ => none
  | .hingeTimeout _ => none
  | .hingeSend _ _ => none
  | .hingeConnectSend _ => none
  | .pwdSessionTimeout => none
  | .lockoutExpiry => none
  | .safPwdOpen c _ => some (c, 0x0B01)
  | .safPwdClose c => some (c, 0x0B02)
  | .safParamRead c _ _ _ => some (c, 0x0B03)
  | .safParamSet c _ => some (c, 0x0B04)
  | .safParamCommit c => some (c, 0x0B05)
  | .safParamConfirm c _ => some (c, 0x0B06)
  | .safPwdChange c _ => some (c, 0x0B07)
  | .safPwdReset c _ _ => some (c, 0x0B08)
  | .safLogRead c _ _ _ => some (c, 0x0B09)
  | .safLogArchive c _ => some (c, 0x0B0A)
  | .safTripReset c _ _ _ => some (c, 0x0B0B)
  | .safHingeInfo c _ => some (c, 0x0B0C)
  | .laneSample _ _ => none
  | .laneRegisterWrite _ _ => none
  | .laneHold _ _ => none
  | .stateRst _ => none
  | .pvyLaneRead c _ _ => some (c, 0x0C01)
  | .pvyFeClear c _ => some (c, 0x0C02)
  | .chkChSet c _ _ _ => some (c, 0x0D01)
  | .chkChClear c _ => some (c, 0x0D02)
  | .chkChInfo c _ => some (c, 0x0D03)
  | .inrushEnd _ _ => none
  | .channelShort _ _ _ => none
  | .channelOverload _ _ _ _ => none
  | .channelThermal _ _ _ => none
  | .thermalRelease _ _ _ => none
  | .retryTimerExpiry _ => none
  | .retryBudgetRefill _ => none
  | .conductionRecompute _ => none
  | .currentSumShed _ => none
  | .dutyZeroTimeout _ => none
  | .openLoad _ _ _ => none
  | .stuckOn _ _ _ => none
  | .supplyAnomaly _ _ => none
  | .supplyAnomalyEnd _ _ => none
  | .skidlineFrameRx _ _ => none
  | .ackSend _ => none
  | .ackIntervalExpiry _ => none
  | .skidlineTxSlot _ _ _ _ => none
  | .frameLifetimeExpiry _ => none
  | .alarmForced _ => none
  | .routeBroadcast => none
  | .pathSend => none
  | .routeEntryExpiry _ => none
  | .epochActivation => none
  | .oldEpochExpiry => none
  | .sklSend c _ _ _ => some (c, 0x0E01)
  | .sklRxRead c _ _ => some (c, 0x0E02)
  | .sklNodeRead c _ => some (c, 0x0E03)
  | .sklRekey c _ => some (c, 0x0E04)
  | .detectionPing _ _ _ => none
  | .nfcTransaction _ _ => none
  | .cardHoldExpiry => none
  | .tagSelect _ => none
  | .tagReadBinary _ _ => none
  | .tagUpdateBinary _ _ => none
  | .tagFieldLoss => none
  | .tagNearResume => none
  | .totalsPublish => none
  | .excerptCopy => none
  | .nfcPoll c _ _ => some (c, 0x0F01)
  | .nfcXchg c _ _ _ _ => some (c, 0x0F02)
  | .nfcRelease c _ => some (c, 0x0F03)
  | .nfcTagWrite c _ _ _ => some (c, 0x0F04)
  | .nfcTagRead c _ _ _ => some (c, 0x0F05)
  | .railsUp => none
  | .brandRailFault _ _ _ => none
  | .railHoldExpiry => none
  | .panelFrame _ => none
  | .brandPermitRetry _ => none
  | .legalRegionRefresh _ => none
  | .brdRegionUpdate c _ _ _ _ _ _ => some (c, 0x1001)
  | .brdRegionInfo c _ _ => some (c, 0x1002)
  | .brdPanelInit c _ => some (c, 0x1003)
  | .brdRailClear c => some (c, 0x1004)
  | .keyMsg c _ => some (c, 0x1101)
  | .keySlotInfo c _ => some (c, 0x1102)
  | .keyPerso c _ _ _ _ => some (c, 0x1103)
  | .keyLcAdvance c _ => some (c, 0x1104)
  | .keyAttest c _ _ => some (c, 0x1105)
  | .keyChainSet c _ _ _ _ _ => some (c, 0x1106)
  | .keySign c _ _ => some (c, 0x1107)
  | .boomTimeSync _ _ _ _ _ _ _ => none
  | .stepApply => none
  | .servoOffsetTimeout => none
  | .holdoverLimit => none
  | .leapSecond => none
  | .rtcTempComp _ => none
  | .rtcSync => none
  | .timOffset c _ _ _ _ _ => some (c, 0x1201)
  | .timSet c _ _ => some (c, 0x1202)
  | .timRead c => some (c, 0x1203)
  | .cruiseSliceRequest => none
  | .cruiseSliceEnd _ => none
  | .sliceOverrun => none
  | .crsPause c => some (c, 0x1301)
  | .crsResume c => some (c, 0x1302)
  | .crsFuseRepair c => some (c, 0x1303)
  | .crsReport c _ => some (c, 0x1304)
  | .discoveryRound => none
  | .discoveryFrameRx _ => none
  | .boomLinkChange _ _ => none
  | .boomFrameUncorr => none
  | .heartbeatSend => none
  | .heartbeatRx _ => none
  | .masterLost => none
  | .takeover => none
  | .memberHoldExpiry => none
  | .conflictHoldExpiry => none
  | .mirrorRx _ => none
  | .handoverTimeout => none
  | .netPairSwitch c => some (c, 0x1401)
  | .netRingRediscover c => some (c, 0x1402)
  | .netPortModeWrite _ _ => none
  | .aonReset => none
  | .netPortLinkChange _ _ _ => none
  | .nfcReferenceReturn => none
  | .tagFieldSessionStart => none
  | .slewEnd => none

end Sys2Proof
end

