-- ==== Sys2Proof/Config.lean ====
section
/-! DEFINITION. The free values: what the spec leaves open while the machine goes on. None has a body, so no
proof can see a value. A value that differs each time is applied to the state's count `fresh` (assumption 4). -/
namespace Sys2Proof.Config

/-- Octet `i` of the random octets drawn as number `n` (R170, R338). -/
opaque freeByte : Nat → Nat → BitVec 8
/-- A choice between two outcomes the spec leaves to software's progress (R112: whether a subscription ring is full). -/
opaque freeBit : Nat → Bool
/-- A number the spec leaves open, drawn as number `n`. -/
opaque freeNat : Nat → Nat
/-- The network identity that HomePlug Green PHY derives from a network membership key (R170). -/
opaque nidOf : List (BitVec 8) → BitVec 54
/-- The identity of DEVICE key `i` of a device identity (R442). -/
opaque deviceKey : Nat → Nat → Nat
/-- An octet of the public key of a key identity (R457). -/
opaque pubByte : Nat → Nat → BitVec 8
/-- Octet `i` of the digest a content identity stands for (R73, R90, R233). -/
opaque digestByte : Nat → Nat → BitVec 8
/-- Octet `i` of SHA-256 and of SHA-384 over octets (R294, R457). -/
opaque sha256 : List (BitVec 8) → Nat → BitVec 8
opaque sha384 : List (BitVec 8) → Nat → BitVec 8
/-- Octet `i` of a signature by a key over octets, made as draw `n` (R267, R296, R412, R457). -/
opaque sigByte : Nat → List (BitVec 8) → Nat → Nat → BitVec 8
/-- The colour the 4 x 4 ordered dither gives a pixel: curve outputs, place modulo 4, nearest colour (R428). -/
opaque dithered : Nat → Nat → Nat → Nat → Nat → BitVec 2 → BitVec 2
/-- The colour of a pixel of a legal region that shows the numbers listed, from FW_TALLY's glyph set (R437). -/
opaque glyph : List Nat → Nat → Nat → BitVec 2
/-- The version of FW_SCAL in an image with this body digest (R246). -/
opaque fwVer : Nat → BitVec 32
/-- The identity of the key a satellite's meter signs its readings with, by `SAT` (R272). -/
opaque satKey : Nat → Nat
/-- The frequency the servo's PI filter settles on, from the present term and an offset in ns (R464). -/
opaque piFilter : Int → Int → Int
/-- The residual trim learnt from the servo (R467). -/
opaque rtcTrim : Nat → Int
/-- The format version of the tag's totals snapshot (0) and of its live tamper page (1) (R412, R418). -/
opaque pageVer : Nat → Nat
/-- The four check octets of a Burl line, of its data and its line address: the spec gives no field polynomial (R99). -/
opaque burlCheck : List (BitVec 8) → BitVec 32 → BitVec 32
/-- Octet `i` of what AES-CCM and AES-GCM put out, ciphertext with the tag behind it: key, nonce, additional data,
plaintext (R191, R395). -/
opaque ccmByte : Nat → List (BitVec 8) → List (BitVec 8) → List (BitVec 8) → Nat → BitVec 8
opaque gcmByte : Nat → List (BitVec 8) → List (BitVec 8) → List (BitVec 8) → Nat → BitVec 8
/-- Check octet `i` of an RS(64,48) codeword: the spec gives no generator (R382). -/
opaque sklCheck : List (BitVec 8) → Nat → BitVec 8
/-- The tone of symbol `i` of the sync word for a number of blocks: one of eight patterns the spec does not list (R381). -/
opaque sklSync : Nat → Nat → Nat
/-- The fragment octets of a satellite's reading, whose layout is its meter's (R336): fragment, octet. -/
opaque readingByte : Nat → Nat → BitVec 8
/-- Length and octets of the Ethernet frame that carries an answer to a bridged vehicle, by satellite and counter: it is
made by the cited standards' TLS and EXI (R190). -/
opaque frameLen : Nat → Nat → Nat
opaque frameByte : Nat → Nat → Nat → BitVec 8
/-- Skidder's octet counter when the FAB clock has counted so far: the rows carry no frame's every octet (R488). -/
opaque skidBytes : Nat → BitVec 48
/-- The result of an IEEE 754 operation or an integer sum outside its format (R106, R348, R350). -/
opaque offFormat : Int → Int → BitVec 64

end Sys2Proof.Config
end

