-- ==== Sys2Proof/Machine/StateCore.lean ====
section
/-! DEFINITION. The state of the blocks that carry commands, power, the image, the Stand Table and sessions:
SYS with Permits, CFG, NET, LND, HST, BAY and VLK. A field marked AON or MRAM survives the resets R46 names;
every other field returns to its default at a reset. -/
namespace Sys2Proof.Machine

/-- Who asked for a permit (R68). -/
inductive PermitOwner
  | software (q idx : Nat)
  | held (handle : Nat)
  | inrush (ch : Nat)
  | retry (ch : Nat)
  | conduction (ch : Nat)
  | extra (ch : Nat)
  | greenPhy (bay : Nat)
  | reader (ant : Nat)
  | brandRail
  | brandPanel (p : Nat)
  | cruise
  | fuse (q idx : Nat)
  | mramBulk
deriving DecidableEq, Repr

/-- A grant in force (R65, R67); `standing` grants end only by release or reset. -/
structure Grant where
  id : Nat := 0
  owner : PermitOwner := .cruise
  power : Nat := 0
  standing : Bool := false
deriving DecidableEq, Repr

/-- A waiting request (R64, R66): `arrival` is its place in the order of R65 within its priority. -/
structure PReq where
  id : Nat := 0
  owner : PermitOwner := .cruise
  power : Nat := 0
  dur : Nat := 0
  prio : Nat := 0
  wait : Nat := 0
  arrival : Nat := 0
deriving DecidableEq, Repr

/-- SYS: power state, boot, causes, wake, supplies (R44 to R63, R70). -/
structure Sys where
  pstate : PState := .off
  bootStage : Nat := 0
  bootBank : Bool := false
  migrated : Bool := false
  bootFail : Nat := 0
  /-- AON. -/
  rstCause : BitVec 7 := 0
  /-- The copy taken at the start of the reset (R70), AON. -/
  causeCopy : RstCause := .por
  wakeEn : BitVec 10 := 0x3FF
  wakeSrc : BitVec 10 := 0
  wakeBay : Nat := 0
  nfcLoss : Bool := false
  x32Loss : Bool := false
  /-- AON, in 0.1 V. -/
  vauxThr : Nat := 75
  pfail : Bool := false
  /-- Straps, AON (R49). -/
  straps : Straps := {}
  inReset : Bool := false
  rstOutN : Bool := false
  swResetDue : Bool := false
  wakeTimer : Nat := 0
  /-- The facts of the start in progress, kept while the part waits for an image over PCIe (R85). -/
  bootEnv : Option BootEnv := none
  /-- The 27.12 MHz reference is absent now (R63); `nfcLoss` is the flag that software clears. -/
  refLost : Bool := false
  /-- Fitted DRAM in GiB, as the controller read it at boot step 4 (R496). -/
  dramGiB : Nat := 0
  /-- The power-fail inputs as last seen: `PFW_N`, and `VAUX` in 0.1 V (R57, R58). -/
  pfwN : Bool := true
  vaux : Int := 120
  /-- The 32.768 kHz crystal is absent now (R63); `x32Loss` is the flag that software clears. -/
  x32Lost : Bool := false
  /-- Performance counter of the FAB clock (R488). -/
  fabCycles : BitVec 48 := 0
deriving DecidableEq, Repr

/-- Permits (R64 to R67, R70). -/
structure Permits where
  budget : Nat := 0
  grants : List Grant := []
  waiting : List PReq := []
  fails : Word := 0
  nextId : Nat := 1
  nextArrival : Nat := 1
deriving DecidableEq, Repr

/-- A chunk written into a flash bank (R93, R95). -/
structure Piece where
  off : Nat := 0
  len : Nat := 0
  img : Image := {}
deriving DecidableEq, Repr

/-- One flash bank: the chunks it holds, newest first, its last verification and `CFG_BANKn_VER`. -/
structure Bank where
  pieces : List Piece := []
  verified : Bool := false
  ver : Nat := 0
deriving DecidableEq, Repr

/-- CFG: banks, boot control record, running image's figures, migration (R83 to R95). -/
structure Cfg where
  /-- External flash. -/
  banks : Tab Bank := []
  /-- Boot control record, MRAM key store. -/
  prefBank : Nat := 0
  trial : Bool := false
  triesLeft : Nat := 0
  arbMin : Nat := 0
  /-- Verified metrology digest, MRAM. -/
  verifiedMetro : Nat := 0
  /-- `REVERIFY` as the last start left it, MRAM (R90). -/
  lastReverify : Bool := false
  /-- Stored format version of each structure whose version is held once, and of the software structures (R86), MRAM. -/
  storedVer : Tab Nat := []
  /-- Records of a software structure already migrated, and the version they carry (R88), MRAM. -/
  swDone : Tab (Nat × Nat) := []
  /-- The progress marker of a migration that a reset cut: structure and record (R88), MRAM. -/
  migMark : Option (Nat × Nat) := none
  /-- Records to migrate under the bulk-write permit asked for (R89). -/
  bulk : Nat := 0
  /-- Identity of the SAFETY content last applied, MRAM (R92). -/
  safetyDigest : Option Nat := none
  runBank : Nat := 0
  fromPcie : Bool := false
  runTrial : Bool := false
  fallback : Bool := false
  reverify : Bool := false
  migPending : Bool := false
  pcieRej : Bool := false
  runHdr : Option ImageHeader := none
  xferLen : Nat := 0
  own : Bool := false
  /-- The image arriving over PCIe and the octets received. -/
  pcieImg : Option Image := none
  pcieGot : Nat := 0
deriving DecidableEq, Repr

/-- One network port (R41). -/
structure Port where
  mode : Nat := 0
  link : Bool := false
  speed : Nat := 0
deriving DecidableEq, Repr

/-- NET: ring, pair, ports (R17 to R42). -/
structure Net where
  ring : RingSt := .down
  members : Nat := 0
  mask : BitVec 8 := 0
  breakDev : Nat := 0
  verMinor : Nat := 0
  verMajor : Nat := 0
  pair : PairSt := .none
  hbMiss : Nat := 0
  takeovers : Nat := 0
  epoch : Word := 0
  ports : Tab Port := []
  /-- The service port's speed, and the PCIe link's generation and lanes, as the image sets them (R37). -/
  svcSpeed : Nat := 0
  pcieGen : Nat := 0
  pcieLanes : Nat := 0
  /-- Boom frames dropped for an uncorrectable payload (R21). -/
  boomDrops : Nat := 0
  boom0 : Bool := false
  boom1 : Bool := false
  /-- The state the last round showed, where leaving CONFLICT or FORMING needs a second round (R22). -/
  candidate : Option RingSt := none
  rejected : Bool := false
  masterSeen : Bool := false
  /-- Holding or ramping after a lost master or in CONFLICT (R31, R36). -/
  holding : Bool := false
  ramped : Bool := false
  handoverSeen : Bool := false
  /-- The identity whose heartbeat was last followed (R29, R34). -/
  masterId : Option Nat := none
  /-- The standby's state as discovery last showed it (R42). -/
  peerSynced : Bool := false
  /-- Copies complete in the mirror: Yarder, Stand Table, Tally (R27). -/
  mirror : BitVec 3 := 0
  /-- Open records of bridged bays in the mirror (R28). -/
  mirRecs : List MirRec := []
  /-- Record slots taken over that wait for the satellite's reading, with their bridged bay (R28). -/
  orphans : List (Nat × Nat) := []
deriving DecidableEq, Repr

/-- A Stand Table point: settings, live part, what was last published, and the cache's dirty mark. -/
structure Point where
  cfg : PtCfg := {}
  val : PtVal := {}
  /-- Whether an update has been accepted since start (R107). -/
  accepted : Bool := false
  pubValue : DWord := 0
  pubQual : Qual := .uninit
  /-- Published on change in this millisecond, and changed again since (R110). -/
  pubHeld : Bool := false
  pubDue : Bool := false
  dirty : Bool := false
deriving DecidableEq, Repr

/-- A software subscription (R112, R126). -/
structure Sub where
  used : Bool := false
  first : Nat := 0
  last : Nat := 0
  off : Nat := 0
  len : Nat := 0
  count : Nat := 0
  drops : Nat := 0
deriving DecidableEq, Repr

/-- LND: the Stand Table, its shadows, subscriptions and the Landing error registers (R96 to R112, R124). -/
structure Lnd where
  points : Nat := 0
  pts : Tab Point := []
  shadows : Tab Point := []
  subs : Tab Sub := []
  eccCorr : Word := 0
  eccUncorr : Word := 0
  eccAddr : Nat := 0
  /-- Landing offsets of poisoned lines (R102). -/
  poison : List Nat := []
  /-- Packet frames dropped on a poisoned line (R102). -/
  frameDrops : Nat := 0
  /-- The unpinned points the cache holds, the most recently used first (R109). -/
  cache : List Nat := []
deriving DecidableEq, Repr

/-- What a command in progress waits for. -/
inductive Waiting
  | permit (id : Nat)
  | sklFrame (id : Nat)
  | channel (ch : Nat)
  | pairSwitch
  | pause
  | poll (ant : Nat) (cards : List Card)
  | fuse
deriving DecidableEq, Repr

/-- A command started and not yet completed (R116). -/
structure Flight where
  q : Nat := 0
  idx : Nat := 0
  cmd : Cmd := {}
  opcode : Nat := 0
  waits : Waiting := .pause
deriving DecidableEq, Repr

/-- One command ring (R113, R125); `started` is the index of the next command to start. -/
structure Queue where
  base : Nat := 0
  res : Nat := 0
  log2 : Nat := 0
  en : Bool := false
  disabling : Bool := false
  vector : Nat := 0
  irqPend : Bool := false
  ovf : Bool := false
  cfgErr : Bool := false
  pi : Nat := 0
  ci : Nat := 0
  seq : Nat := 0
  started : Nat := 0
deriving DecidableEq, Repr

/-- Completion counters of one block (R125). -/
structure Cnt where
  ok : Word := 0
  state : Word := 0
  fail : Word := 0
deriving DecidableEq, Repr

/-- HST: the host API of each side, rings, counters, commands in progress. -/
structure Hst where
  coreMajor : Nat := 0
  coreMinor : Nat := 0
  hostMajor : Nat := 0
  hostMinor : Nat := 0
  queues : Tab Queue := []
  cnts : Tab Cnt := []
  flights : List Flight := []
deriving DecidableEq, Repr

/-- The pilot generator's output (R159). -/
inductive PilotGen | minus12 | plus12 | pwm (duty : Nat) | zero
deriving DecidableEq, Repr

/-- A pre-authorisation (R134). -/
structure Preauth where
  ident : List Byte := []
  wh : Nat := 0
  min : Nat := 0
deriving DecidableEq, Repr

/-- One local bay: pilot, proximity, link, service state and feedbacks (R127 to R172). -/
structure Bay where
  inService : Bool := false
  drain : Bool := false
  weldLock : Bool := false
  pilot : Pilot := .f
  /-- The band of R160 the accepted level lies in, counted from the top: E has three. -/
  band : Nat := 7
  gen : PilotGen := .minus12
  manual : Bool := false
  manOut : Nat := 0
  manDuty : Nat := 0
  vHigh : Int := 0
  vLow : Int := 0
  diodeOk : Bool := false
  changes : BitVec 16 := 0
  prox : Prox := .opened
  ppMv : Nat := 0
  sessions : BitVec 16 := 0
  openLoadCnt : Nat := 0
  lastEnd : EndReason := .none
  pre : Option Preauth := none
  /-- The pilot must pass through state A before a new session (R146). -/
  needA : Bool := false
  /-- Leaves service when the bay's context returns to FREE (R230, R479). -/
  outAtFree : Bool := false
  /-- A failed IMD_TRIP_TEST keeps the bay out of service (R316). -/
  tripTestBad : Bool := false
  locked : Bool := false
  fbK1 : Bool := false
  fbK2 : Bool := false
  fbK3 : Bool := false
  lstate : LState := .idle
  lowPwr : Bool := false
  attn : Nat := 0
  runId : Option Nat := none
  vehMac : Nat := 0
  sounds : Nat := 0
  /-- Attenuation summed over the sounds received, per carrier group (R169). -/
  groupSums : List Nat := []
  announced : Nat := 0
  /-- The network membership key of this session and the network's identity (R170). -/
  nmk : List Byte := []
  nid : BitVec 54 := 0
  slacRuns : BitVec 16 := 0
  slacFails : BitVec 16 := 0
deriving DecidableEq, Repr

/-- One session context (R127 to R149, R183 to R188). Voltages in 0.1 V, currents in 0.1 A. -/
structure Ctx where
  st : Sess := .free
  bridged : Bool := false
  bay : Nat := 0
  authorised : Bool := false
  warnIso : Bool := false
  ending : EndReason := .none
  reqOut : Option Nat := none
  method : Method := .none
  ident : List Byte := []
  limWh : Nat := 0
  limMin : Nat := 0
  cap : Nat := 0
  /-- Record slot reserved or open, and the record number once open. -/
  slot : Option Nat := none
  recno : Option Nat := none
  vMax : Nat := 0
  iMax : Nat := 0
  vTgt : Nat := 0
  iReq : Nat := 0
  /-- The vehicle reports its own contactors open (R145). -/
  vehOpen : Bool := false
  linkUp : Bool := false
  tcp : Bool := false
  tlsAnswer : Bool := false
  /-- SessionSetup has been answered (R130). -/
  setup : Bool := false
  proto : Proto := .none
  transport : Transport := .tcp
  suite : BitVec 16 := 0
  mac : Nat := 0
  /-- The context's own MAC address (R174). -/
  ownMac : Nat := 0
  /-- TLS record sequence numbers, sent and received (R186). -/
  tlsTx : DWord := 0
  tlsRx : DWord := 0
  /-- The Debarker document and the transmit buffer: the last message decoded and the last answer (R181, R183). -/
  lastMsg : Option V2g := none
  lastAns : Option Resp := none
  /-- The vehicle selected DC bidirectional transfer (R179). -/
  bpt : Bool := false
  /-- The 16 octets the vehicle is to sign (R187). -/
  challenge : List Byte := []
  /-- SESSION slots held: handshake and traffic (R186). -/
  keySlots : List Nat := []
  /-- Precharge complete, waiting for power delivery start (R139). -/
  preDone : Bool := false
  /-- The reference check of the cable check passed (R309 step 1). -/
  refOk : Bool := false
  /-- The cable check's test voltage in 0.1 V (R138). -/
  uTest : Nat := 0
  weld : Bool := false
  /-- Seconds in CHARGING, as of the last stop; the start of the present stretch (R142, R157). -/
  chargeSec : Nat := 0
  chargeFrom : Option Nat := none
  contractSeen : Bool := false
  /-- The eMAID of a verified contract that waits to raise its request (R135). -/
  conDue : Option (List Byte) := none
  chainOk : Bool := false
  chain : List (List Byte) := []
  /-- Setpoint in force, none before the first (R141), and the part of 0.1 A its ramp has not yet taken, in hundredths (R16, R31). -/
  iSet : Option Nat := none
  rampRem : Nat := 0
  /-- Bridged: last verified registers, present step awaited, measured values of STEP reports. -/
  satImp : Nat := 0
  satExp : Nat := 0
  satTime : Option Stamp := none
  satV : Nat := 0
  satI : Int := 0
  /-- `FB` of the satellite's last STEP report (R336). -/
  satFb : Nat := 0
deriving DecidableEq, Repr

/-- One session event before it is laid out in memory (R155). -/
structure EvEntry where
  typ : Nat := 1
  state : Nat := 0
  sc : Nat := 0xFF
  flags : Nat := 0
  bay : Nat := 0
  reqId : Nat := 0
  time : Stamp := {}
  method : Nat := 0
  ident : List Byte := []
  ending : Nat := 0xFF
  eImp : Nat := 0
  recno : Nat := 0xFFFFFFFF
  eExp : Nat := 0
deriving DecidableEq, Repr

/-- A trusted root of the root store (R189): kind 1 = MO, 2 = V2G; its octets lie in MRAM. -/
structure Root where
  kind : Nat := 0
  key : Nat := 0
  der : List Byte := []
deriving DecidableEq, Repr

/-- A replay window: highest counter accepted and the ones below it seen (R191, R396). -/
structure Window where
  top : Nat := 0
  seen : List Nat := []
deriving DecidableEq, Repr

/-- VLK and BAY: bays, contexts, event ring, counters, roots, tunnels. -/
structure Vlk where
  bays : Tab Bay := []
  ctxs : Tab Ctx := []
  /-- Last `REQ_ID` given per context (R135). -/
  reqIds : Tab Nat := []
  /-- Contexts withdrawn by a failed row (R479). -/
  withdrawn : List Nat := []
  withdrawAtFree : List Nat := []
  evqBase : Nat := 0
  evqLog2 : Nat := 0
  evqEn : Bool := false
  evqVector : Nat := 0
  evqCfgErr : Bool := false
  evqPi : Nat := 0
  evqCi : Nat := 0
  evqHeld : List EvEntry := []
  evqDrops : Nat := 0
  sapFail : BitVec 16 := 0
  decodeErr : BitVec 16 := 0
  hsFail : BitVec 16 := 0
  certFail : BitVec 16 := 0
  tunDrops : BitVec 16 := 0
  /-- MRAM. -/
  roots : Tab Root := []
  tunRx : Tab Window := []
  tunTx : Tab Nat := []
  preBridged : Tab Preauth := []
  /-- Bridged bays under a weld-suspect lock (R145). -/
  weldB : List Nat := []
deriving DecidableEq, Repr

end Sys2Proof.Machine
end

