-- ==== Sys2Proof/Machine/StateIo.lean ====
section
/-! DEFINITION. The state of Spar with Guyline and Hinge, Peavey, Choker, Skidline, the reader with the
Service Tag, Brand, the keys, the time base and Cruise. -/
namespace Sys2Proof.Machine

/-- One safety input (R325 to R328). -/
structure SafIn where
  /-- The contact stands open outside its pulse window (R326). -/
  isOpen : Bool := false
  trip : Bool := false
  fault : Bool := false
  cause : SiCause := .none
  /-- Consecutive pulses of its own TPO that read stuck high, TPOs whose last pulse showed a cross short, consecutive
  pulse checks passed (R327, R328). -/
  stuckRun : Nat := 0
  crossBy : BitVec 4 := 0
  passRun : Nat := 0
deriving DecidableEq, Repr

/-- One gated output (R317, R318, R323, R329): 0 to 31 are CH0 to CH31, 32 to 35 are SO0 to SO3. -/
structure Gate where
  req : Bool := false
  en : Bool := false
  /-- The last gate test passed. -/
  tested : Bool := false
  testDue : Bool := false
  rbFlt : Bool := false
  /-- The last dark pulse disagreed (R329). -/
  rbOnce : Bool := false
  /-- When the enable last fell: the restart interlock runs from then (R318). -/
  fell : Option Stamp := none
deriving DecidableEq, Repr

/-- One Hinge connection at run time (R333 to R336, R344). -/
structure Hinge where
  st : HingeSt := .connecting
  ver : Nat := 0
  /-- Receiving side: last accepted `SEQ`. Sending side: last `SEQ` sent. -/
  seq : BitVec 16 := 0
  lost : Word := 0
  seqErr : Word := 0
  texpErr : Word := 0
  idErr : Word := 0
  crcErr : Word := 0
  timeouts : Word := 0
  fmtErr : Word := 0
  stateErr : Word := 0
  verErr : Word := 0
  /-- Times of the last CRC errors, newest first, at most 8 (R334). -/
  crcTimes : List Stamp := []
  state : Word := 0
  valid : Word := 0
  /-- Fragments of a reading received in order so far, and the `SEQ` of the last one (R336). -/
  frags : Nat := 0
  fragSeq : BitVec 16 := 0
  /-- The last payload sent, for the change that sends at once (R332). -/
  lastPay : List HPay := []
deriving DecidableEq, Repr

/-- A safety change-log entry (R341). -/
structure SafLog where
  ver : Nat := 0
  kind : Nat := 0
  flags : BitVec 8 := 0
  time : Stamp := {}
  paramId : Nat := 0xFFFF
  count : Nat := 0
  old : DWord := 0
  new : DWord := 0
  crcOld : Word := 0
  crcNew : Word := 0
deriving DecidableEq, Repr

/-- SAF (R317 to R344). The parameters, password, lockout and log lie in the Safety partition of MRAM. -/
structure Saf where
  spar : SparSt := .off
  safeClk : Bool := true
  heartbeat : Bool := false
  tpRun : Bool := false
  params : Tab (Option DWord) := []
  /-- Whether a parameter set has ever been taken (R92). -/
  hasParams : Bool := false
  unconfirmed : Bool := false
  /-- Gated outputs the unconfirmed set affects (R340). -/
  affected : List Nat := []
  /-- The salted hash of the password, by the draw of its salt and what it covers; none before one is set (R338). -/
  password : Option (Nat × List Byte) := none
  fails : Nat := 0
  lockouts : Nat := 0
  /-- Minutes of the lockout that remain, and the powered ms since they were last saved (R339). -/
  lockMin : Nat := 0
  lockMs : Nat := 0
  pwdSide : Option Side := none
  staged : List (Nat × DWord) := []
  /-- By `CSEQ`. -/
  log : Tab SafLog := []
  last : Nat := 0
  archived : Nat := 0
  inputs : Tab SafIn := []
  tpoFlt : BitVec 4 := 0
  gates : Tab Gate := []
  /-- AON (R322). -/
  diagCause : Nat := 0
  diagDetail : Nat := 0
  conns : Tab Hinge := []
  crcErr : BitVec 16 := 0
  seqErr : BitVec 16 := 0
deriving DecidableEq, Repr

/-- One Peavey lane at run time: the settings in force, the states and the last sample (R345 to R359). The
40-bit states and signals are integers in units of 2^-31. -/
structure Lane where
  cfg : LaneCfg := {}
  /-- Writes not yet taken up by a sample, oldest first: register offset within PVY and value (R355). -/
  pend : List (Nat × Word) := []
  s1 : Tab Int := []
  s2 : Tab Int := []
  /-- Each section's output at the previous sample (R352). -/
  prev : Tab Int := []
  a : Int := 0
  b : Int := 0
  c : Int := 0
  x : Int := 0
  u : Int := 0
  y : Int := 0
  timer : Nat := 0
  trip : Bool := false
  /-- `LANE_HOLD` as written, and as in force at the last sample (R356). -/
  holdReq : Bool := false
  held : Bool := false
  rst : Bool := false
  inInvalid : Bool := false
  inSat : Bool := false
  outClamped : Bool := false
  stateSat : Bool := false
  clampAct : Bool := false
  feCnt : BitVec 16 := 0
  /-- Instant of the last sample on the PEAV clock, and the output before it (R348). -/
  instant : Option Nat := none
  yPrev : Int := 0
  /-- A lane reading this one saw its output INVALID before its last sample (R349). -/
  badPrev : Bool := false
deriving DecidableEq, Repr

/-- PVY (R358). -/
structure Pvy where
  run : Bool := false
  /-- The instant of every lane's first sample, in 50 µs of the PEAV clock (R345). -/
  first : Option Nat := none
  lanes : Tab Lane := []
deriving DecidableEq, Repr

/-- One Choker channel at run time (R360 to R377). Power in mW, current in mA. -/
structure Chan where
  st : ChState := .off
  cause : ChCause := .owner
  openLoad : Bool := false
  stuckOn : Bool := false
  pwrOvr : Bool := false
  tj : Int := 25
  mA : Nat := 0
  duty : Nat := 0
  /-- The owner wants the channel on (R374), and with which duty. -/
  want : Bool := false
  wantDuty : Nat := 1000
  left : Nat := 0
  /-- Faults since reset, and by cause 1 to 6. -/
  faults : Nat := 0
  faultsBy : Tab Nat := []
  retries : Nat := 0
  secs : Nat := 0
  tjMax : Int := -64
  permitInrush : Nat := 0
  permitCond : Nat := 0
  /-- The turn-on in progress is a retry or a restart (R369, R370). -/
  retrying : Bool := false
  /-- Arrival time of the turn-on, carried by the conduction request (R364). -/
  arrival : Nat := 0
  /-- A Peavey duty held at 0 until its next rise (R363). -/
  dutyHeld : Bool := false
  shed : Bool := false
  /-- State before a supply anomaly (R374). -/
  before : ChState := .off
deriving DecidableEq, Repr

/-- CHK (R376). -/
structure Chk where
  chans : Tab Chan := []
  supply : Supply := .normal
  snsCfg : BitVec 7 := 0
  pCond : Nat := 0
deriving DecidableEq, Repr

/-- A frame queued for transmission (R385 to R388). -/
structure TxFrame where
  id : Nat := 0
  cls : SklClass := .control
  typ : SklType := .data
  final : Nat := 0
  orig : Nat := 0
  mseq : Nat := 0
  hops : Nat := 0
  ackReq : Bool := true
  noFwd : Bool := false
  proto : Nat := 3
  payload : List Byte := []
  hinge : Option HFrame := none
  hKind : Nat := 0
  route : SRoute := {}
  forwarded : Bool := false
  attempts : Nat := 0
  /-- Windows still to skip after a failed attempt, and the window last counted or used (R388). -/
  skip : Nat := 0
  win : Option (Nat × Nat) := none
  /-- Attempt sent and its acknowledgement awaited: destination link and `CTR`. -/
  sent : Option (Nat × Nat) := none
deriving DecidableEq, Repr

/-- A neighbour heard (R391, R392, R397), or in the coordinator's table a node (R393). -/
structure SklNode where
  /-- SNR of the last 8 frames, newest first, and the last 32 attempts, newest first (acknowledged or not). -/
  snrs : List Nat := []
  attempts : List Bool := []
  parent : Nat := 0xFFFF
  hops : Nat := 0
  cost : Nat := 0
  verLo : Nat := 1
  verHi : Nat := 2
  /-- `F_RT` code this neighbour reports for its attempts to this node. -/
  frt : Nat := 0
  /-- Cost of the link from this node to it, as it reports. -/
  costFrom : Nat := 255
  /-- The last ROUTE and the last PATH content (R394). -/
  route : Option SRoute := none
  path : Option SRoute := none
  heard : Stamp := {}
  neighbour : Bool := false
  nbrs : Nat := 0
  failsRow : Nat := 0
deriving DecidableEq, Repr

/-- An application frame waiting for SKL_RX_READ (R398, R401). -/
structure AppFrame where
  orig : Nat := 0
  cls : SklClass := .control
  hops : Nat := 0
  snr : Nat := 0
  payload : List Byte := []
  time : Stamp := {}
deriving DecidableEq, Repr

/-- SKL (R378 to R401). -/
structure Skl where
  run : Bool := false
  busy : Bool := false
  orphan : Bool := false
  epoch : Nat := 0
  nextEpoch : Nat := 0
  actTime : Nat := 0
  /-- The previous epoch, while it is still accepted (R396). -/
  prevEpoch : Option Nat := none
  parent : Nat := 0xFFF
  hops : Nat := 0
  cost : Nat := 0
  txq : List TxFrame := []
  nextTx : Nat := 1
  mseq : Nat := 0
  /-- `CTR` last used per destination link (0xFFFF = broadcast), in the present epoch. -/
  ctrs : Tab Nat := []
  /-- Receive windows by epoch and transmitter and receiver link: key epoch * 2^32 + source * 2^16 + destination. -/
  windows : Tab Window := []
  nodes : Tab SklNode := []
  /-- Downward next hops by originating node (R393). -/
  routes : Tab Nat := []
  /-- The last 64 (`ORIG`, `MSEQ`), newest first. -/
  dups : List (Nat × Nat) := []
  appq : List AppFrame := []
  /-- An acknowledgement to send: to whom and for which `CTR`. -/
  ackDue : Option (Nat × Nat) := none
  /-- The count of the SKID clock before which no frame of this node's own starts (R386). -/
  pauseTo : Nat := 0
  /-- The frame whose ACK interval is open (R387). -/
  ackWait : Option Nat := none
  rxOk : BitVec 16 := 0
  rxLost : BitVec 16 := 0
  erasCorr : BitVec 16 := 0
  micFail : BitVec 16 := 0
  txFrames : BitVec 16 := 0
  txFails : BitVec 16 := 0
  pointRej : BitVec 16 := 0
  noise : BitVec 8 := 0
  snr : BitVec 8 := 0
deriving DecidableEq, Repr

/-- One reader antenna (R404, R421). -/
structure Ant where
  ampThr : BitVec 8 := 10
  phThr : BitVec 8 := 10
  refAmp : Rat := 0
  refPh : Rat := 0
  detects : BitVec 16 := 0
  cards : BitVec 16 := 0
  /-- The reference is re-taken from the next ping (R405). -/
  retake : Bool := true
  suspended : Bool := false
deriving DecidableEq, Repr

/-- NFC (R402 to R422); the tag's 8 KiB are non-volatile. -/
structure Nfc where
  run : Bool := false
  fieldOn : Bool := false
  ant : Nat := 0
  heldCard : Option Card := none
  ants : Tab Ant := []
  /-- Antennas whose detection awaits ACTIVE (R405). -/
  wakeAnt : Option Nat := none
  tag : Tab Byte := []
  tagField : Bool := false
  /-- `MBOX` as the tag was last set up (R411). -/
  mbox : Bool := false
  /-- The file latched: `.inl buffer` for E105 (false = A), `.inr (head slot)` for E106 (R415). -/
  latchBuf : Option Bool := none
  latchHead : Option Nat := none
  selected : Nat := 0
  activeBuf : Bool := false
  snapSeq : Word := 0
  /-- Next excerpt slot and the `LSEQ` last copied (R414). -/
  exHead : Nat := 0
  exLseq : Nat := 0
  pubDue : Bool := false
  exDue : Bool := false
  regsChanged : Bool := false
  deferrals : BitVec 16 := 0
  held : BitVec 8 := 0
  busy : BitVec 8 := 0
deriving DecidableEq, Repr

/-- A Brand update (R431 to R433). `space` is what it takes of the pool; `pixels` are the captured RGB888 octets. -/
structure Upd where
  no : Nat := 0
  /-- The update number whose place it has: its own, or that of the update it replaced (R431). -/
  place : Nat := 0
  mode : BrdMode := .full
  dither : Bool := false
  space : Nat := 0
  pixels : List Byte := []
  /-- What a legal region shows (R437), where this is Tally's update. -/
  legal : Option (List Nat) := none
  band : Nat := 0
  frame : Nat := 0
deriving DecidableEq, Repr

/-- One region of a panel (R431, R438). -/
structure Region where
  running : Option Upd := none
  waiting : Option Upd := none
  last : BrdLast := .none
deriving DecidableEq, Repr

/-- One panel (R423, R429, R433 to R438). -/
structure Panel where
  st : PanelSt := .needsInit
  permit : Bool := false
  initWait : Bool := false
  /-- INIT running: frame index and band. -/
  init : Option (Nat × Nat) := none
  tNow : Int := 0
  band : Nat := 0
  tempInv : Bool := false
  cold : Bool := false
  hot : Bool := false
  scan : Nat := 0
  runs : BitVec 16 := 0
  superseded : BitVec 16 := 0
  /-- Present colour by pixel row * width + column: 0 = white, 1 = black, 2 = red, 3 = yellow. -/
  image : Tab (BitVec 2) := []
  regions : Tab Region := []
  legalShown : Option (List Nat) := none
  bandKnown : Bool := false
  /-- A failed permit request is asked again after 1 s (R435). -/
  askLater : Bool := false
  firstAfterInit : Bool := true
deriving DecidableEq, Repr

/-- BRD (R438, R439). -/
structure Brd where
  rail : RailSt := .off
  railPermit : Bool := false
  askLater : Bool := false
  railHold : Nat := 2
  nextNo : Nat := 1
  panels : Tab Panel := []
deriving DecidableEq, Repr

/-- A filled key slot's attributes (R444); `key` is the key's identity (assumption 3). -/
structure KeySlot where
  st : KeySt := .empty
  alg : Nat := 0
  span : Nat := 0
  usage : BitVec 16 := 0
  label : Word := 0
  ctr : Nat := 0
  key : Nat := 0
deriving DecidableEq, Repr

/-- A stored SECC chain (R455). -/
structure Chain where
  leafKey : Nat := 0
  root : Nat := 0
  size : Nat := 0
deriving DecidableEq, Repr

/-- KEY (R440 to R457). All but `dbgAc`, `pufOk`, SESSION slots lies in the key store. -/
structure Key where
  lc : Lc := .manufacture
  pendDestr : Bool := false
  devId : Nat := 0
  slots : Tab KeySlot := []
  /-- Authority public keys and counters. -/
  authKeys : Tab Nat := []
  authCtrs : Tab Nat := []
  imgKeys : Tab Nat := []
  imgRevoked : Tab Bool := []
  chains : Tab Chain := []
  /-- Each copy of the helper data is usable (R440, R441); both are destroyed in SCRAPPED. -/
  helperA : Bool := true
  helperB : Bool := true
  dbgAc : Bool := false
  pufOk : Bool := false
deriving DecidableEq, Repr

/-- TIM (R458 to R471); the real-time clock is AON. -/
structure Tim where
  sec : Nat := 0
  ns : Nat := 0
  frac : Nat := 0
  servo : Servo := .free
  rtcInv : Bool := false
  slewing : Bool := false
  /-- Phase offset a slew is removing, in 2^-16 ns. -/
  slewOff : Int := 0
  /-- A confirmed step waiting for its boundary, in ns, and what is slewed after it, in 2^-16 ns. -/
  stepPend : Option Int := none
  stepRest : Int := 0
  member : Bool := false
  freq : Int := 0
  /-- The frequency term in effect, taken over at each tick boundary (R459). -/
  rate : Int := 0
  /-- What slews have removed since the start, in 2^-16 ns (R464). -/
  removed : Int := 0
  utcOff : Int := 37
  leap : Nat := 0
  /-- The announced second has been inserted and its day has not ended (R466). -/
  leapDone : Bool := false
  /-- Start of the present HOLDOVER, and whether its estimate has passed 100 ms (R463). -/
  holdFrom : Stamp := {}
  holdLimit : Bool := false
  /-- The present run of candidates: offsets in 2^-16 ns with what slews had removed by then, newest first (R464). -/
  run : List Int := []
  /-- Consecutive accepted offsets of at most 1 µs (R463). -/
  good : Nat := 0
  steps : BitVec 16 := 0
  rejects : BitVec 16 := 0
  rtcSec : Nat := 0
  rtcNs : Nat := 0
  rtcValid : Bool := false
  rtcTrim : Int := 0
  /-- The temperature compensation in force (R467). -/
  rtcComp : Int := 0
deriving DecidableEq, Repr

/-- CRS (R472 to R483). -/
structure Crs where
  st : CrsSt := .stopped
  kind : SliceKind := .none
  unit : Nat := 0
  rounds : BitVec 16 := 0
  gap : Nat := 100
  pausing : Bool := false
  failMedium : Nat := 0
  failBank : Nat := 0
  failRow : Nat := 0
  failRepaired : Bool := false
  /-- Rows mapped to a spare since the start, as (bank or 48 + way, row). -/
  soft : List (Nat × Nat) := []
  /-- The fuse map (one-time fuses). -/
  fused : List (Nat × Nat) := []
  /-- Rows in use without a spare (R479). -/
  bad : List (Nat × Nat) := []
  /-- Units to retest after the rest of the round (R478). -/
  retest : List Nat := []
  retesting : Bool := false
  /-- Slices stopped at the end of their budget (R478). -/
  overruns : Nat := 0
  scrCorr : BitVec 16 := 0
  scrUncorr : BitVec 16 := 0
  /-- MRAM (true) and DRAM lines found uncorrectable and not yet rewritten, by address (R480). -/
  uncorrLines : List (Bool × Nat) := []
deriving DecidableEq, Repr

end Sys2Proof.Machine
end

