-- ==== Sys2Proof/Machine/StateMeter.lean ====
section
/-! DEFINITION. The state of Yarder, Scaler, Tally, Blaze with the legal log, and the IMD. -/
namespace Sys2Proof.Machine

/-- YRD (R218). -/
structure Yrd where
  cycle : Word := 0
  lastUs : Nat := 0
  maxUs : Nat := 0
  pAllow : Nat := 0
  pGrid : Int := 0
  limitSteps : BitVec 16 := 0
  swFaults : Nat := 0
  nodes : Tab Node := []
  /-- Standby: the mirror holds these states (R217). -/
  clientHold : Bool := false
  clientRamp : Bool := false
  /-- Nodes on an uncorrectable line of the tree, until the present cycle has run (R102). -/
  lost : List Nat := []
  /-- `CYCLE` of the last SETPOINT applied, per local bay (R215). -/
  bayCycle : Tab (Option Word) := []
  /-- Time of the last SETPOINT applied (`YRD_CLIENT.AGE`). -/
  setAt : Stamp := {}
  /-- Post: setpoint per local bay in 0.1 A. -/
  bayISet : Tab Nat := []
deriving DecidableEq, Repr

/-- Measuring state of one bay (R222 to R240). Sums are of calibrated samples in units of 2^-16. -/
structure MBay where
  low : Bool := false
  mfault : Bool := false
  mfCause : Nat := 0
  lossV : Bool := false
  lossIh : Bool := false
  lossIl : Bool := false
  lossE : Bool := false
  xchkFail : Bool := false
  xchkRun : Nat := 0
  /-- The range is locked to HIGH until SCL_FAULT_CLEAR (R229, R247). -/
  lockHigh : Bool := false
  /-- The open cross-check window: samples, sums of the high-range and low-range values, and whether it no longer counts (R229). -/
  xchkN : Nat := 0
  xchkHi : Int := 0
  xchkLo : Int := 0
  xchkVoid : Bool := false
  lowCnt : Nat := 0
  rangeSw : BitVec 16 := 0
  creep : Bool := false
  dirExp : Bool := false
  gapMs : Word := 0
  /-- Energy of the open tick with its carried remainder, numerator over 2^33 * 10^6 of µJ (R236, R237). -/
  eSum : Int := 0
  tickI : Int := 0
  tickV : Int := 0
  tickN : Nat := 0
  tickGap : Nat := 0
  tickOvr : Bool := false
  tickMflt : Bool := false
  tickLow : Bool := false
  /-- The last 1,600 samples of voltage, selected current, earth current and power, newest first (R224). -/
  hist : List (Int × Int × Int × Int) := []
  /-- Samples since the last whole millisecond, and since the means went to the points (R224). -/
  n1 : Nat := 0
  n100 : Nat := 0
  /-- Running 1 ms and 100 ms means and the last tick's: V and A in units of 2^-16; P in W. -/
  mean1V : Int := 0
  mean1I : Int := 0
  mean10V : Int := 0
  mean10I : Int := 0
  mean100V : Int := 0
  mean100I : Int := 0
  mean100P : Int := 0
  /-- Earth current: the tick's sum, and the 1 ms and 10 ms means, in A in units of 2^-16 (R232, R312). -/
  tickE : Int := 0
  mean1E : Int := 0
  mean10E : Int := 0
  /-- Output above the limit for this many samples (R147). -/
  overCur : Nat := 0
  fillI : Int := 0
  fillN : Nat := 0
  gapNext : Bool := false
deriving DecidableEq, Repr

/-- One pulse output (R242 to R246). -/
structure Pulse where
  acc : Nat := 0
  backlog : Nat := 0
  emitted : Word := 0
  test : Bool := false
  testDue : Option Bool := none
  saturated : Bool := false
deriving DecidableEq, Repr

/-- The post-commit residual (R240), AON: tag, stop instant, import and export µJ per bay (key 2n and 2n+1). -/
structure Residual where
  tag : Nat := 0
  stop : Stamp := {}
  energy : Tab Nat := []
deriving DecidableEq, Repr

/-- SCL (R246). -/
structure Scl where
  run : Bool := false
  sealed : Bool := false
  /-- Calibrations and `CAL_CNT`, MRAM Legal (R232). -/
  cal : Tab CalVals := []
  calCnt : Nat := 0
  calOk : BitVec 8 := 0
  fill : Nat := 0
  /-- The present tick is metered (R224). -/
  metered : Bool := false
  bays : Tab MBay := []
  pulses : Tab Pulse := []
  /-- AON: the pulse stage saved at a power failure (R245), and the residual (R240). -/
  savedPulses : Tab Pulse := []
  savedCfg : Tab PulseCfg := []
  residual : Option Residual := none
deriving DecidableEq, Repr

/-- A profile entry, open or stored (R260); `start` in 10 ms since 2000. -/
structure Entry where
  ver : Nat := 0
  flags : BitVec 16 := 0
  seq : Nat := 0
  start : Nat := 0
  /-- The same instant in TAI, from which the duration runs. -/
  since : Stamp := {}
  dur : Nat := 0
  energy : Nat := 0
  tariff : Nat := 0
  chan : Nat := 0
  opened : Bool := false
deriving DecidableEq, Repr

/-- A session billing record and its slot state (R269, R270). -/
structure Rec where
  ver : Nat := 0
  st : RecSt := .free
  flags : BitVec 16 := 0
  recno : Nat := 0
  bay : Nat := 0
  bridged : Bool := false
  ending : EndReason := .none
  method : Method := .none
  ident : List Byte := []
  mode : TMode := .start
  calCnt : Nat := 0
  tStart : Stamp := {}
  tEnd : Stamp := {}
  rStartImp : Nat := 0
  rStartExp : Nat := 0
  rEndImp : Nat := 0
  rEndExp : Nat := 0
  impT : Tab Nat := []
  expT : Tab Nat := []
  metroDig : Nat := 0
  sig : Option (Nat × Nat) := none
deriving DecidableEq, Repr

/-- A signed reading (R267). -/
structure Reading where
  ver : Nat := 0
  flags : BitVec 16 := 0
  kind : Nat := 0
  bay : Nat := 0
  tariff : Nat := 0
  mode : TMode := .start
  rseq : Nat := 0
  period : Nat := 0
  calCnt : Nat := 0
  time : Stamp := {}
  ref : Stamp := {}
  md : Nat := 0
  mdSeq : Nat := 0
  metroDig : Nat := 0
  imp : Tab Nat := []
  exp : Tab Nat := []
  sig : Option (Nat × Nat) := none
deriving DecidableEq, Repr

/-- An event to be journaled (R275): its code; the message accepted or applied; the old and new time of a step. -/
structure JEvent where
  ev : Nat := 0
  msg : Option TlyMsgOp := none
  old : Stamp := {}
  new : Stamp := {}
deriving DecidableEq, Repr

/-- A journal slot (R275): the tick or event it records; the registers stand in the tick's bay block. -/
structure JSlot where
  ver : Nat := 0
  seq : Nat := 0
  event : Option JEvent := none
  /-- The site block: the site's registers of the tariff, and `SEQ` of the open site-import entry. -/
  siteImp : Nat := 0
  siteExp : Nat := 0
  siteSeq : Nat := 0
  final : Bool := false
  flags : BitVec 16 := 0
  tariff : Nat := 0
  mode : TMode := .start
  time : Stamp := {}
  regs : Tab Nat := []
  rems : Tab Nat := []
  eInt : Nat := 0
  pCeil : Nat := 0
deriving DecidableEq, Repr

/-- The remote schedule of Tally: what is journaled (R252 to R255). -/
structure Sched where
  ctr : Nat := 0
  lease : Nat := 0
  remote : Option Nat := none
  lastEff : Nat := 0
  queue : List TlyMsgOp := []
deriving DecidableEq, Repr

/-- TLY (R248 to R285). Registers, records, profiles, readings and the journal lie in MRAM. -/
structure Tly where
  /-- Key 16 * bay + 8 * direction + tariff, in mWh. -/
  regs : Tab Nat := []
  /-- Key 2 * bay + direction, in µJ. -/
  rems : Tab Nat := []
  /-- Key 8 * direction + tariff. -/
  site : Tab Nat := []
  sched : Sched := {}
  /-- The schedule in the newest checkpoint: a restart replays the event slots over it (R274, R278). -/
  ckptSched : Sched := {}
  /-- Events since the last commit, to be journaled (R254, R276). -/
  toJournal : List JEvent := []
  mode : TMode := .start
  /-- A mode change due at the next tick boundary (R252). -/
  modeDue : Option TMode := none
  tariff : Nat := 0
  opened : Tab Entry := []
  /-- Key channel * 2^32 + SEQ. -/
  stored : Tab Entry := []
  seqs : Tab Nat := []
  /-- Maximum demand by tariff: watts and entry SEQ (R263). -/
  md : Tab (Nat × Nat) := []
  period : Nat := 0
  pCeil : Nat := 0
  pNext : Option Nat := none
  /-- Site-import energy by nominal interval start (UTC seconds / 900), in mJ: `E_INT` is the present one (R262). -/
  ivlSum : Tab Nat := []
  /-- Present nominal interval start, UTC seconds since 2000; TAI second of the last period close. -/
  ivl : Nat := 0
  lastPeriodEnd : Nat := 0
  recs : Tab Rec := []
  recNext : Nat := 1
  rseq : Nat := 1
  readings : Tab Reading := []
  slotSeq : Nat := 0
  journal : Tab JSlot := []
  checkpoint : Nat := 0
  lastCheckpoint : Nat := 0
  abrupt : Bool := false
  resLost : Bool := false
  demandInv : Bool := false
  /-- Site increments accepted since the last commit, mWh, by 8 * direction + tariff (R251). -/
  siteInc : Tab Nat := []
  /-- The tariff before the last change, and when that was (R251, R272). -/
  tariffPrev : Nat := 0
  tariffSince : Stamp := {}
  demandLast : Option Nat := none
  demandLastExp : Option Nat := none
  /-- Sum mode: the last register totals of each member's bay (key 32 * device + 4 * bay + direction; R251) and when they came. -/
  members : Tab Nat := []
  memberAt : Tab Stamp := []
  /-- The first accepted increase after missing data is still to come (R265). -/
  catchDue : Bool := false
  /-- `P_CEIL` of the METROMAP section that was last started with (R264). -/
  ceilImg : Option Nat := none
  /-- What the registers show: the values of the last commit (R284), by offset; and the energy registers. -/
  view : Tab Word := []
  viewRegs : Tab Nat := []
  viewSite : Tab Nat := []
  /-- A record change or register change not yet in the journal (R55). -/
  dirty : Bool := false
  /-- Time of the last commit (the newest slot's TIME). -/
  lastCommit : Stamp := {}
  running : Bool := false
deriving DecidableEq, Repr

/-- A tamper log entry (R289). -/
structure TEntry where
  aseq : Nat := 0
  input : Nat := 0
  became : Bool := false
  timeInv : Bool := false
  backup : Bool := false
  time : Stamp := {}
deriving DecidableEq, Repr

/-- A legal-log entry (R294, R295): `body` is the 32 octets its kind defines. -/
structure LegalEntry where
  ver : Nat := 0
  kind : Nat := 0
  flags : BitVec 8 := 0
  lseq : Nat := 0
  time : Stamp := {}
  evTime : Stamp := {}
  prev : List Byte := []
  body : List Byte := []
  /-- The signing key and the draw of the signature, none while `SIG` is zeros. -/
  sig : Option (Nat × Nat) := none
deriving DecidableEq, Repr

/-- BLZ (R286 to R300): the tamper part is AON, the legal log MRAM. -/
structure Blz where
  modes : Tab TamperMode := []
  active : BitVec 4 := 0
  tampered : BitVec 4 := 0
  pendingT : List TEntry := []
  lost : Nat := 0
  aseq : Nat := 0
  vbatLow : Bool := false
  aonLost : Bool := false
  logHold : Bool := false
  /-- The entry before which lost events lie (R292). -/
  gapBefore : Option Nat := none
  /-- A gap entry for a lost AON domain is still to be written (R292). -/
  gapDue : Bool := false
  log : Tab LegalEntry := []
  last : Nat := 0
  released : Nat := 0
  lastTamper : Option Nat := none
deriving DecidableEq, Repr

/-- The IMD of one bay (R303 to R315). Currents in nA, resistances in ohm. -/
structure ImdBay where
  st : ImdSt := .off
  valid : Bool := false
  warn : Bool := false
  alarm : Bool := false
  efWarn : Bool := false
  efAlarm : Bool := false
  measFault : Bool := false
  cause : ImdCause := .none
  tH : Nat := 5
  /-- Rejections of the last four values, newest first. -/
  last4 : List Bool := []
  groupSrc : Nat := 0
  rF : Nat := 0xFFFFFFFF
  cY : Nat := 0
  tau : Nat := 0
  ef10 : Int := 0
  efPeak : Nat := 0
  uRef : Nat := 0
  rejects : BitVec 16 := 0
  alarms : Nat := 0
  /-- The previous half-period's settled current, and whether it was rejected. -/
  prevI : Option Int := none
  prevRej : Bool := true
  /-- Counts of consecutive valid values at or below the fault and the warning threshold. -/
  lowFault : Nat := 0
  lowWarn : Nat := 0
  /-- Time in ms that every value has been valid and above 1.2 times the warning threshold. -/
  clearMs : Nat := 0
  /-- A failed reference check stands (R310). -/
  refFailed : Bool := false
  /-- DSP 1 holds the alarm line static, and Guyline has seen it for 3 ms (R314). -/
  lineHeld : Bool := false
  lineSeen : Bool := false
  /-- Half-periods of the reference check so far (R309). -/
  refHalves : Nat := 0
  /-- Cable check: the last counted value, and ms that the output has stood at `U_REF`. -/
  lastVal : Option Nat := none
  settledMs : Nat := 0
  /-- The driver's half-period is the positive one (R301). -/
  pos : Bool := true
  /-- Consecutive 1 ms means above `EF_FAST`; ms of 10 ms means above `EF_TRIP`, above `EF_WARN`, and at or below `EF_WARN` (R312). -/
  efFastN : Nat := 0
  efOverMs : Nat := 0
  efHighMs : Nat := 0
  efLowMs : Nat := 0
deriving DecidableEq, Repr

end Sys2Proof.Machine
end

