-- ==== Sys2Proof/Machine/State.lean ====
section
/-! DEFINITION. The machine's whole state, its faults and refusals, and the state right after reset. The
queue of waiting commands is `pending`; `fresh` counts the free values drawn (assumption 4). -/
namespace Sys2Proof.Machine

/-- One entry of the general event log (R487). -/
structure EventEntry where
  eseq : Word := 0
  block : Nat := 0
  bit : Nat := 0
  lost : Nat := 0
  time : Stamp := {}
  evt : Word := 0
deriving DecidableEq, Repr

/-- A frame of the ring, which every device between its sender and its end passes on (R19, R22, R27, R29, R110). -/
inductive RingFrame
  | discovery (v : DiscView)
  | heartbeat (hb : Heartbeat)
  | point (gid : Nat) (cfg : PtCfg) (val : PtVal)
  | mirror (f : MirrorFrame)
  | energy (dev bay imp exp : Nat) (time : Stamp)
deriving DecidableEq, Repr

/-- What the part sends out of itself: kept newest first so that a statement can name it. -/
inductive Out
  | boomHeartbeat (hb : Heartbeat)
  | boomDiscovery (f : DiscFrame)
  | boomForward (f : RingFrame)
  | boomSleep
  | boomWake
  | boomMirror (f : MirrorFrame)
  | boomRequest (node : Nat)
  /-- A publication carries the whole entry (R110). -/
  | boomPoint (gid : Nat) (cfg : PtCfg) (val : PtVal)
  /-- A stack member's bay registers over all tariffs (R251). -/
  | boomEnergy (dev bay imp exp : Nat) (time : Stamp)
  /-- An engine's value for a remote point, to its owner, and whether the engine marks it bad (R350). -/
  | boomUpdate (gid : Nat) (value : DWord) (bad : Bool)
  /-- A value or settings for a remote point, to its owner (R126, R519). -/
  | boomWrite (gid : Nat) (value : DWord)
  | boomCfg (op : PtCfgOp)
  /-- A Hinge frame of a type: 0 = DATA, 1 = CONNECT, 2 = CONNECT_ACK (R331). -/
  | hinge (conn kind : Nat) (f : HFrame)
  /-- A source's setpoint in W, published by its node: negative = supply (R202 step 3). -/
  | source (node : Nat) (watts : Int)
  /-- A frame on the line: on how many phases, in how many blocks (R378, R381). -/
  | skl (phases blocks : Nat) (f : SFrame)
  /-- An edge of `SKL_TXEN` at a count of the SKID clock; the ball is low before the first (R379). -/
  | sklTxen (clock : Nat) (level : Bool)
  | slac (bay : Nat) (m : SlacMsg)
  | sdp (k : Nat) (tls : Bool)
  /-- An answer to the vehicle of a context, with the current limit it reports in 0.1 A (R141). -/
  | vehicle (k : Nat) (r : Resp) (limit : Nat)
  /-- An interrupt line raised (R118, R156). -/
  | irq (line : Nat)
  /-- A tunnel frame under a counter (R190, R191). -/
  | tunnel (sat bb ctr : Nat) (b : TunBody)
  | pin (name : Nat) (value : Nat)
  | busError (a : Access)
  | doorbell (value : Word)
  | apdu (ant : Nat)
  | tagData (data : List Byte)
  | debug
deriving DecidableEq, Repr

/-- The machine. -/
structure State where
  sys : Sys := {}
  permits : Permits := {}
  cfg : Cfg := {}
  /-- The settings of the running image; the default where none is accepted. -/
  img : ImageContent := {}
  net : Net := {}
  lnd : Lnd := {}
  hst : Hst := {}
  vlk : Vlk := {}
  yrd : Yrd := {}
  scl : Scl := {}
  tly : Tly := {}
  blz : Blz := {}
  imd : Tab ImdBay := []
  saf : Saf := {}
  pvy : Pvy := {}
  chk : Chk := {}
  skl : Skl := {}
  nfc : Nfc := {}
  brd : Brd := {}
  key : Key := {}
  tim : Tim := {}
  crs : Crs := {}
  /-- The EVT register of each block, by block ID. -/
  evt : Tab Word := []
  /-- The general event log by `ESEQ` mod 16,384, the last `ESEQ` and the settings lost since (R487). -/
  elog : Tab EventEntry := []
  eseq : Word := 0
  elost : Nat := 0
  /-- Second in which entries were last written, and how many then: the limit of 1,000 per second (R487). -/
  eSec : Nat := 0
  eCount : Nat := 0
  /-- Bytes of the General regions of Landing and MRAM and of DRAM that do not read 0 (assumption 7). -/
  mem : Tab Byte := []
  /-- Frames, responses and pin changes sent, newest first (the model's own). -/
  sent : List Out := []
  /-- The model's own count of free values drawn. -/
  fresh : Nat := 0
  /-- Commands waiting, first in first out. -/
  pending : List Instr := []
deriving DecidableEq, Repr

/-- Faults. The block has none: a command the spec refuses completes with a status (R119), and a bus access
it refuses gives a bus error that is recorded in the state (R5). -/
inductive Fault
  /-- Raised by no command: the type needs a member only for the host's interface. Safe. -/
  | unreachable
deriving DecidableEq, Repr

/-- Refusals. -/
inductive Refusal
  /-- A command that has no meaning yet, rejected by name. Safe. -/
  | notModelled (mnemonic : String)
deriving DecidableEq, Repr

/-- Right after a reset that found nothing stored (R46, R516): every register at its reset value, the part
held in reset until BOOT runs, no image, no key, no record, nothing pending. -/
def State.reset : State :=
  { sys := { inReset := true, pstate := .starting } }

end Sys2Proof.Machine
end

