-- ==== Sys2Proof/Machine/Tab.lean ====
section
/-! DEFINITION. Sparse tables: reading, writing and the canonical form (keys strictly rising, no value equal to
the default), so that equal tables are equal lists. Memory is one of them. -/
namespace Sys2Proof.Machine

/-- The value at a key, the default where nothing is listed. -/
def tget {α : Type} (d : α) : Tab α → Nat → α
  | [], _ => d
  | (a, x) :: r, k => if a = k then x else tget d r k

/-- Take a key out of a table. -/
def tdel {α : Type} (t : Tab α) (k : Nat) : Tab α := t.filter (fun p => p.1 ≠ k)

/-- List a value at a key, before the first higher key. -/
def tput {α : Type} : Tab α → Nat → α → Tab α
  | [], k, v => [(k, v)]
  | (a, x) :: r, k, v => if k < a then (k, v) :: (a, x) :: r else if k = a then (a, v) :: r else (a, x) :: tput r k v

/-- Write a value at a key, keeping the canonical form: writing the default removes the entry. -/
def tset {α : Type} [DecidableEq α] (d : α) (t : Tab α) (k : Nat) (v : α) : Tab α := if v = d then tdel t k else tput t k v

/-- Every key of a table lies above `b`, keys rise strictly, and no value is the default. -/
def tabFrom {α : Type} [DecidableEq α] (d : α) : Nat → Tab α → Bool
  | _, [] => true
  | b, (a, x) :: r => decide (b ≤ a) && decide (x ≠ d) && tabFrom d (a + 1) r

/-- The canonical form of a table. -/
def tabWf {α : Type} [DecidableEq α] (d : α) (t : Tab α) : Bool := tabFrom d 0 t

/-- Change the value at a key. -/
def tmod {α : Type} [DecidableEq α] (d : α) (t : Tab α) (k : Nat) (f : α → α) : Tab α := tset d t k (f (tget d t k))

/-- Add to a count held in a table. -/
def tadd (t : Tab Nat) (k n : Nat) : Tab Nat := tset 0 t k (tget 0 t k + n)

/-- The keys a table lists. -/
def tkeys {α : Type} (t : Tab α) : List Nat := t.map (fun p => p.1)

/-- Apply a change to every value a table lists. -/
def tmap {α : Type} [DecidableEq α] (d : α) (f : Nat → α → α) (t : Tab α) : Tab α :=
  t.foldl (fun acc p => tset d acc p.1 (f p.1 p.2)) []

/-- Build a table from pairs. -/
def tofList {α : Type} [DecidableEq α] (d : α) (l : List (Nat × α)) : Tab α :=
  l.foldl (fun acc p => tset d acc p.1 p.2) []

/-- The sum of a table's values. -/
def tsum (t : Tab Nat) : Nat := t.foldl (fun n p => n + p.2) 0

end Sys2Proof.Machine
end

