-- ==== Sys2Proof/Machine/Access.lean ====
section
/-! DEFINITION. Reading and changing one row of an indexed part of the state, and reading the image's settings. -/
namespace Sys2Proof.Machine

/-- Read a local bay. -/
def State.bay (s : State) (n : Nat) : Bay := tget {} s.vlk.bays n
/-- Write a local bay. -/
def State.setBay (s : State) (n : Nat) (x : Bay) : State := { s with vlk := { s.vlk with bays := tset {} s.vlk.bays n x } }
/-- Change a local bay. -/
def State.modBay (s : State) (n : Nat) (f : Bay → Bay) : State := s.setBay n (f (s.bay n))

/-- Read a session context. -/
def State.ctx (s : State) (n : Nat) : Ctx := tget {} s.vlk.ctxs n
/-- Write a session context. -/
def State.setCtx (s : State) (n : Nat) (x : Ctx) : State := { s with vlk := { s.vlk with ctxs := tset {} s.vlk.ctxs n x } }
/-- Change a session context. -/
def State.modCtx (s : State) (n : Nat) (f : Ctx → Ctx) : State := s.setCtx n (f (s.ctx n))

/-- Read a Yarder node. -/
def State.node (s : State) (n : Nat) : Node := tget {} s.yrd.nodes n
/-- Write a Yarder node. -/
def State.setNode (s : State) (n : Nat) (x : Node) : State := { s with yrd := { s.yrd with nodes := tset {} s.yrd.nodes n x } }
/-- Change a Yarder node. -/
def State.modNode (s : State) (n : Nat) (f : Node → Node) : State := s.setNode n (f (s.node n))

/-- Read a bay's measuring state. -/
def State.mbay (s : State) (n : Nat) : MBay := tget {} s.scl.bays n
/-- Write a bay's measuring state. -/
def State.setMbay (s : State) (n : Nat) (x : MBay) : State := { s with scl := { s.scl with bays := tset {} s.scl.bays n x } }
/-- Change a bay's measuring state. -/
def State.modMbay (s : State) (n : Nat) (f : MBay → MBay) : State := s.setMbay n (f (s.mbay n))

/-- Read a pulse output. -/
def State.pulse (s : State) (n : Nat) : Pulse := tget {} s.scl.pulses n
/-- Write a pulse output. -/
def State.setPulse (s : State) (n : Nat) (x : Pulse) : State := { s with scl := { s.scl with pulses := tset {} s.scl.pulses n x } }
/-- Change a pulse output. -/
def State.modPulse (s : State) (n : Nat) (f : Pulse → Pulse) : State := s.setPulse n (f (s.pulse n))

/-- Read a bay's IMD. -/
def State.imdB (s : State) (n : Nat) : ImdBay := tget {} s.imd n
/-- Write a bay's IMD. -/
def State.setImdB (s : State) (n : Nat) (x : ImdBay) : State := { s with imd := tset {} s.imd n x }
/-- Change a bay's IMD. -/
def State.modImdB (s : State) (n : Nat) (f : ImdBay → ImdBay) : State := s.setImdB n (f (s.imdB n))

/-- Read a local Stand Table point. -/
def State.point (s : State) (n : Nat) : Point := tget {} s.lnd.pts n
/-- Write a local Stand Table point. -/
def State.setPoint (s : State) (n : Nat) (x : Point) : State := { s with lnd := { s.lnd with pts := tset {} s.lnd.pts n x } }
/-- Change a local Stand Table point. -/
def State.modPoint (s : State) (n : Nat) (f : Point → Point) : State := s.setPoint n (f (s.point n))

/-- Read the shadow of a remote point, by global ID. -/
def State.shadow (s : State) (n : Nat) : Point := tget {} s.lnd.shadows n
/-- Write the shadow of a remote point, by global ID. -/
def State.setShadow (s : State) (n : Nat) (x : Point) : State := { s with lnd := { s.lnd with shadows := tset {} s.lnd.shadows n x } }
/-- Change the shadow of a remote point, by global ID. -/
def State.modShadow (s : State) (n : Nat) (f : Point → Point) : State := s.setShadow n (f (s.shadow n))

/-- Read a subscription. -/
def State.sub (s : State) (n : Nat) : Sub := tget {} s.lnd.subs n
/-- Write a subscription. -/
def State.setSub (s : State) (n : Nat) (x : Sub) : State := { s with lnd := { s.lnd with subs := tset {} s.lnd.subs n x } }
/-- Change a subscription. -/
def State.modSub (s : State) (n : Nat) (f : Sub → Sub) : State := s.setSub n (f (s.sub n))

/-- Read a command ring. -/
def State.queue (s : State) (n : Nat) : Queue := tget {} s.hst.queues n
/-- Write a command ring. -/
def State.setQueue (s : State) (n : Nat) (x : Queue) : State := { s with hst := { s.hst with queues := tset {} s.hst.queues n x } }
/-- Change a command ring. -/
def State.modQueue (s : State) (n : Nat) (f : Queue → Queue) : State := s.setQueue n (f (s.queue n))

/-- Read a block's completion counters. -/
def State.cnt (s : State) (n : Nat) : Cnt := tget {} s.hst.cnts n
/-- Write a block's completion counters. -/
def State.setCnt (s : State) (n : Nat) (x : Cnt) : State := { s with hst := { s.hst with cnts := tset {} s.hst.cnts n x } }
/-- Change a block's completion counters. -/
def State.modCnt (s : State) (n : Nat) (f : Cnt → Cnt) : State := s.setCnt n (f (s.cnt n))

/-- Read a Choker channel. -/
def State.chan (s : State) (n : Nat) : Chan := tget {} s.chk.chans n
/-- Write a Choker channel. -/
def State.setChan (s : State) (n : Nat) (x : Chan) : State := { s with chk := { s.chk with chans := tset {} s.chk.chans n x } }
/-- Change a Choker channel. -/
def State.modChan (s : State) (n : Nat) (f : Chan → Chan) : State := s.setChan n (f (s.chan n))

/-- Read a Peavey lane. -/
def State.lane (s : State) (n : Nat) : Lane := tget {} s.pvy.lanes n
/-- Write a Peavey lane. -/
def State.setLane (s : State) (n : Nat) (x : Lane) : State := { s with pvy := { s.pvy with lanes := tset {} s.pvy.lanes n x } }
/-- Change a Peavey lane. -/
def State.modLane (s : State) (n : Nat) (f : Lane → Lane) : State := s.setLane n (f (s.lane n))

/-- Read a gated output. -/
def State.gate (s : State) (n : Nat) : Gate := tget {} s.saf.gates n
/-- Write a gated output. -/
def State.setGate (s : State) (n : Nat) (x : Gate) : State := { s with saf := { s.saf with gates := tset {} s.saf.gates n x } }
/-- Change a gated output. -/
def State.modGate (s : State) (n : Nat) (f : Gate → Gate) : State := s.setGate n (f (s.gate n))

/-- Read a safety input. -/
def State.sin (s : State) (n : Nat) : SafIn := tget {} s.saf.inputs n
/-- Write a safety input. -/
def State.setSin (s : State) (n : Nat) (x : SafIn) : State := { s with saf := { s.saf with inputs := tset {} s.saf.inputs n x } }
/-- Change a safety input. -/
def State.modSin (s : State) (n : Nat) (f : SafIn → SafIn) : State := s.setSin n (f (s.sin n))

/-- Read a Hinge connection. -/
def State.conn (s : State) (n : Nat) : Hinge := tget {} s.saf.conns n
/-- Write a Hinge connection. -/
def State.setConn (s : State) (n : Nat) (x : Hinge) : State := { s with saf := { s.saf with conns := tset {} s.saf.conns n x } }
/-- Change a Hinge connection. -/
def State.modConn (s : State) (n : Nat) (f : Hinge → Hinge) : State := s.setConn n (f (s.conn n))

/-- Read a Skidline node. -/
def State.sklNode (s : State) (n : Nat) : SklNode := tget {} s.skl.nodes n
/-- Write a Skidline node. -/
def State.setSklNode (s : State) (n : Nat) (x : SklNode) : State := { s with skl := { s.skl with nodes := tset {} s.skl.nodes n x } }
/-- Change a Skidline node. -/
def State.modSklNode (s : State) (n : Nat) (f : SklNode → SklNode) : State := s.setSklNode n (f (s.sklNode n))

/-- Read a reader antenna. -/
def State.ant (s : State) (n : Nat) : Ant := tget {} s.nfc.ants n
/-- Write a reader antenna. -/
def State.setAnt (s : State) (n : Nat) (x : Ant) : State := { s with nfc := { s.nfc with ants := tset {} s.nfc.ants n x } }
/-- Change a reader antenna. -/
def State.modAnt (s : State) (n : Nat) (f : Ant → Ant) : State := s.setAnt n (f (s.ant n))

/-- Read a panel. -/
def State.panel (s : State) (n : Nat) : Panel := tget {} s.brd.panels n
/-- Write a panel. -/
def State.setPanel (s : State) (n : Nat) (x : Panel) : State := { s with brd := { s.brd with panels := tset {} s.brd.panels n x } }
/-- Change a panel. -/
def State.modPanel (s : State) (n : Nat) (f : Panel → Panel) : State := s.setPanel n (f (s.panel n))

/-- Read a key slot. -/
def State.slot (s : State) (n : Nat) : KeySlot := tget {} s.key.slots n
/-- Write a key slot. -/
def State.setSlot (s : State) (n : Nat) (x : KeySlot) : State := { s with key := { s.key with slots := tset {} s.key.slots n x } }
/-- Change a key slot. -/
def State.modSlot (s : State) (n : Nat) (f : KeySlot → KeySlot) : State := s.setSlot n (f (s.slot n))

/-- Read a flash bank. -/
def State.bank (s : State) (n : Nat) : Bank := tget {} s.cfg.banks n
/-- Write a flash bank. -/
def State.setBank (s : State) (n : Nat) (x : Bank) : State := { s with cfg := { s.cfg with banks := tset {} s.cfg.banks n x } }
/-- Change a flash bank. -/
def State.modBank (s : State) (n : Nat) (f : Bank → Bank) : State := s.setBank n (f (s.bank n))

/-- Read a network port. -/
def State.port (s : State) (n : Nat) : Port := tget {} s.net.ports n
/-- Write a network port. -/
def State.setPort (s : State) (n : Nat) (x : Port) : State := { s with net := { s.net with ports := tset {} s.net.ports n x } }
/-- Change a network port. -/
def State.modPort (s : State) (n : Nat) (f : Port → Port) : State := s.setPort n (f (s.port n))

/-- Read a record slot. -/
def State.rcd (s : State) (n : Nat) : Rec := tget {} s.tly.recs n
/-- Write a record slot. -/
def State.setRcd (s : State) (n : Nat) (x : Rec) : State := { s with tly := { s.tly with recs := tset {} s.tly.recs n x } }
/-- Change a record slot. -/
def State.modRcd (s : State) (n : Nat) (f : Rec → Rec) : State := s.setRcd n (f (s.rcd n))

/-- The image's BayCfg at an index. -/
def State.cBay (s : State) (n : Nat) : BayCfg := tget {} s.img.bays n
/-- The image's MeterCfg at an index. -/
def State.cMeter (s : State) (n : Nat) : MeterCfg := tget {} s.img.metro.bays n
/-- The image's PulseCfg at an index. -/
def State.cPulse (s : State) (n : Nat) : PulseCfg := tget {} s.img.metro.pulses n
/-- The image's ChanCfg at an index. -/
def State.cChan (s : State) (n : Nat) : ChanCfg := tget {} s.img.choker n
/-- The image's PtCfg at an index. -/
def State.cPt (s : State) (n : Nat) : PtCfg := tget {} s.img.stand.cfg n
/-- The image's NodeCfg at an index. -/
def State.cNode (s : State) (n : Nat) : NodeCfg := tget {} s.img.yarder.nodes n
/-- The image's HingeCfg at an index. -/
def State.cConn (s : State) (n : Nat) : HingeCfg := tget {} s.img.safety.conns n
/-- The image's PanelCfg at an index. -/
def State.cPanel (s : State) (n : Nat) : PanelCfg := tget {} s.img.brand.panels n
/-- The image's AntCfg at an index. -/
def State.cAnt (s : State) (n : Nat) : AntCfg := tget {} s.img.nfc.ants n
/-- The image's BridgedCfg at an index. -/
def State.cBridged (s : State) (n : Nat) : BridgedCfg := tget {} s.img.vlink.bridged n

/-! ### Who this device is in its stack -/

/-- A stack master by its strap and image; a post is none (R14, R18). -/
def State.stackMaster (s : State) : Bool := s.img.stack.present && s.sys.straps.boomMstr && decide (s.img.struct_.role ≠ .post)

/-- The active master: a stack master that is not standby and not handing over (R18, R26, R35). -/
def State.activeMaster (s : State) : Bool := s.stackMaster && (decide (s.net.pair = .none) || decide (s.net.pair = .active))

/-- The device's own number: 0 for a stack master and in no stack, else what the image gives (R18, R24). -/
def State.devNum (s : State) : Nat := if s.stackMaster || !s.img.stack.present then 0 else s.img.struct_.devNum

/-- Stack traffic flows: a link is up, discovery is complete, and the device is not rejected (R19, R22, R23). -/
def State.ringTalks (s : State) : Bool :=
  s.img.stack.present && !s.net.rejected && decide (s.net.ring ≠ .down) && decide (s.net.ring ≠ .forming)

end Sys2Proof.Machine
end

