-- ==== Sys2Proof/Machine/Bytes.lean ====
section
/-! DEFINITION. Octets: integers laid out little- and big-endian (R10, R11), time stamps (R103), CRC-32C (R331),
serial-number arithmetic (R485), and the reading of IEEE 754 numbers. -/
namespace Sys2Proof

/-- `n` octets of `v`, least significant first (R10). -/
def le : Nat → Nat → List Byte
  | 0, _ => []
  | n + 1, v => BitVec.ofNat 8 v :: le n (v / 256)

/-- `n` octets of `v`, most significant first (R11). -/
def be (n v : Nat) : List Byte := (le n v).reverse

/-- A signed value in `n` octets, two's complement, little-endian. -/
def leInt (n : Nat) (v : Int) : List Byte := le n (v % (2 ^ (8 * n) : Int)).toNat

/-- The number that octets spell, least significant first. -/
def unle : List Byte → Nat
  | [] => 0
  | b :: r => b.toNat + 256 * unle r

/-- `TSTAMP`: seconds modulo 2^34 in [63:30], nanoseconds in [29:0] (R103). -/
def Stamp.pack (t : Stamp) : Nat := (t.sec % 2 ^ 34) * 2 ^ 30 + t.ns % 2 ^ 30

/-- A time in nanoseconds. -/
def Stamp.toNs (t : Stamp) : Int := (t.sec : Int) * 1000000000 + t.ns

/-- A time from nanoseconds; a negative one reads as zero. -/
def Stamp.ofNs (n : Int) : Stamp := { sec := n.toNat / 1000000000, ns := n.toNat % 1000000000 }

/-- Whether `a` is later than `b` under serial-number arithmetic on `w` bits (R485). -/
def serialAfter {w : Nat} (a b : BitVec w) : Bool := decide (a ≠ b) && decide ((a - b).toNat < 2 ^ (w - 1))

/-- Pad a list of octets with zeros to a length, or cut it there. -/
def padTo (n : Nat) (l : List Byte) : List Byte := (l ++ List.replicate n 0).take n

/-- One bit of the reflected CRC-32C register. -/
def crcBit (c : Word) : Word := if c.getLsbD 0 then (c >>> 1) ^^^ 0x82F63B78#32 else c >>> 1

/-- One octet into the CRC-32C register. -/
def crcByte (c : Word) (b : Byte) : Word :=
  let x := c ^^^ b.setWidth 32
  crcBit (crcBit (crcBit (crcBit (crcBit (crcBit (crcBit (crcBit x)))))))

/-- CRC-32C: polynomial 0x1EDC6F41, reflected, initial and final 0xFFFF_FFFF (R331). -/
def crc32c (l : List Byte) : Word := ~~~ (l.foldl crcByte 0xFFFFFFFF#32)

/-- Increment a saturating count. -/
def satInc {w : Nat} (x : BitVec w) : BitVec w := if x = BitVec.allOnes w then x else x + 1#w

/-- Limit a number to a maximum. -/
def satTo (m n : Nat) : Nat := if n ≤ m then n else m

/-- Limit an integer to an interval. -/
def clampInt (lo hi x : Int) : Int := if x < lo then lo else if hi < x then hi else x

/-- Division of an integer by a positive number, rounded to the nearest, halves away from zero (assumption 8). -/
def divRound (a : Int) (b : Nat) : Int :=
  if 0 ≤ a then ((2 * a.toNat + b) / (2 * b) : Nat) else - (((2 * (-a).toNat + b) / (2 * b) : Nat) : Int)

/-- Division rounded up. -/
def divUp (a b : Nat) : Nat := (a + b - 1) / b

/-- The greatest integer at or below a rational. -/
def ratFloor (q : Rat) : Int := q.num / (q.den : Int)

/-- The nearest integer, halves away from zero (assumption 8). -/
def ratRound (q : Rat) : Int := divRound q.num q.den

/-- The absolute value of a rational. -/
def ratAbs (q : Rat) : Rat := if q < 0 then -q else q

/-- A power of two, of any integer exponent. -/
def pow2 (e : Int) : Rat := if 0 ≤ e then (2 : Rat) ^ e.toNat else 1 / (2 : Rat) ^ (-e).toNat

/-- A finite IEEE 754 number with `eb` exponent and `fb` fraction bits, none for a NaN or an infinity. -/
def fpDecode (eb fb : Nat) (x : Nat) : Option Rat :=
  let f := x % 2 ^ fb
  let e := x / 2 ^ fb % 2 ^ eb
  let neg := x / 2 ^ (eb + fb) % 2 = 1
  let bias : Int := 2 ^ (eb - 1) - 1
  if e = 2 ^ eb - 1 then none
  else
    let m : Rat := if e = 0 then (f : Rat) * pow2 (1 - bias - fb) else ((2 ^ fb + f : Nat) : Rat) * pow2 ((e : Int) - bias - fb)
    some (if neg then -m else m)

/-- Whether an IEEE 754 pattern is a NaN. -/
def fpIsNan (eb fb : Nat) (x : Nat) : Bool :=
  decide (x / 2 ^ fb % 2 ^ eb = 2 ^ eb - 1) && decide (x % 2 ^ fb ≠ 0)

/-- Nearest integer of a non-negative rational, halves to even. -/
def ratEven (q : Rat) : Nat :=
  let n := (q.num / (q.den : Int)).toNat
  let r := q.num.toNat % q.den
  if 2 * r < q.den then n else if q.den < 2 * r then n + 1 else if n % 2 = 0 then n else n + 1

/-- The IEEE 754 pattern nearest a rational, halves to even (assumption 8). -/
def fpEncode (eb fb : Nat) (q : Rat) : Nat :=
  let a := ratAbs q
  let sign := if q < 0 then 2 ^ (eb + fb) else 0
  if a = 0 then 0
  else
    let bias : Int := 2 ^ (eb - 1) - 1
    let e0 : Int := (Nat.log2 a.num.toNat : Int) - (Nat.log2 a.den : Int)
    let e1 : Int := if a < pow2 e0 then e0 - 1 else e0
    let e : Int := if e1 < 1 - bias then 1 - bias else e1
    let m := ratEven (a * pow2 ((fb : Int) - e))
    let v : Int := (e + bias - 1) * (2 ^ fb : Int) + m
    let top : Int := (2 ^ eb - 1) * (2 ^ fb : Int)
    sign + (if v < top then v.toNat else top.toNat)

/-- The value of a binary32. -/
def f32 (w : Word) : Option Rat := fpDecode 8 23 w.toNat
/-- The value of a binary64. -/
def f64 (d : DWord) : Option Rat := fpDecode 11 52 d.toNat
/-- The binary64 nearest a rational. -/
def toF64 (q : Rat) : DWord := BitVec.ofNat 64 (fpEncode 11 52 q)
/-- The value of a binary32, 0 for what is not finite (a setting no register or image accepts, R351, R517). -/
def f32z (w : Word) : Rat := (f32 w).getD 0

/-- Places of a list that a test names. -/
def countIf {α : Type} (l : List α) (f : α → Bool) : Nat := (l.filter f).length

end Sys2Proof
end

