-- ==== Sys2Proof/Machine/Ops.lean ====
section
/-! DEFINITION. The operations every block shares: time stamps, event bits with the general event log (R487),
free values, what is sent, bytes of memory, and a host command from its descriptor to its result (R113 to R121). -/
namespace Sys2Proof.Machine

/-- The next state of a command or event. -/
abbrev Res := Host.Outcome State Fault Refusal

/-- The part is awake: out of reset, in ACTIVE or FULL. -/
def State.awake (s : State) : Bool := !s.sys.inReset && (decide (s.sys.pstate = .active) || decide (s.sys.pstate = .full))

/-- A reset lasts: until the boot order begins nothing answers an access (R516). -/
def State.closedOff (s : State) : Bool := s.sys.inReset && decide (s.sys.bootStage = 0)

/-- The present time as a stamp (R458). -/
def State.now (s : State) : Stamp := { sec := s.tim.sec, ns := s.tim.ns }

/-- The version new records of a structure are written at: HIGH of FORMATS (R87, R89). -/
def State.fmtVer (s : State) (id : Nat) : Nat := (tget ({} : FmtRange) s.img.formats id).high

/-- Draw a number for a free value. -/
def State.draw (s : State) : Nat × State := (s.fresh, { s with fresh := s.fresh + 1 })

/-- Record what the part sends. -/
def State.send (s : State) (o : Out) : State := { s with sent := o :: s.sent }

/-- Random or signature octets. -/
def freeBytes (n len : Nat) : List Byte := (List.range len).map (fun i => Config.freeByte n i)

/-- One general event log entry, unless 1,000 were written in the present second (R487). -/
def State.logEvent (s : State) (blk bit : Nat) (evt : Word) : State :=
  let count := if s.eSec = s.tim.sec then s.eCount else 0
  if 1000 ≤ count then { s with elost := satTo 65535 (s.elost + 1), eSec := s.tim.sec, eCount := count }
  else
    let e := s.eseq + 1
    let entry : EventEntry := { eseq := e, block := blk, bit := bit, lost := s.elost, time := s.now, evt := evt }
    { s with eseq := e, elost := 0, eSec := s.tim.sec, eCount := count + 1,
             elog := tset {} s.elog (e.toNat % 16384) entry }

/-- Set a bit of a block's EVT register; a change from 0 to 1 writes a general event log entry (R487). -/
def State.setEvt (s : State) (blk bit : Nat) : State :=
  let v := tget 0 s.evt blk
  if v.getLsbD bit then s
  else
    let v' := v ||| (1#32 <<< bit)
    { s with evt := tset 0 s.evt blk v' }.logEvent blk bit v'

/-- Set an event bit where a condition holds. -/
def State.setEvtIf (s : State) (b : Bool) (blk bit : Nat) : State := if b then s.setEvt blk bit else s

/-! ### Memory -/

/-- What an address that lists nothing reads as (assumption 7). -/
def memDefault : Byte := 0

/-- The byte at an address. -/
def State.byteAt (s : State) (a : Nat) : Byte := tget memDefault s.mem a

/-- Write bytes at rising addresses. -/
def writeTab : Tab Byte → Nat → List Byte → Tab Byte
  | m, _, [] => m
  | m, a, b :: r => writeTab (tset memDefault m a b) (a + 1) r

/-- Write bytes to memory. -/
def State.writeMem (s : State) (a : Nat) (l : List Byte) : State := { s with mem := writeTab s.mem a l }

/-- Read `n` bytes of memory. -/
def State.readMem (s : State) (a n : Nat) : List Byte := (List.range n).map (fun i => s.byteAt (a + i))

/-- The base of Landing (R96). -/
def landingBase : Nat := 0x10000000

/-- The place of a Landing offset. -/
def landing (off : Nat) : Nat := landingBase + off

/-- The first offset of Landing's General region and its end (R96). -/
def generalLo : Nat := 0x800000
def generalHi : Nat := 0xC00000

/-- Whether an area of Landing offsets lies in the General region. -/
def inGeneral (off len : Nat) : Bool := decide (generalLo ≤ off) && decide (off + len ≤ generalHi)

/-- A destination of a command: 64-byte aligned and in the General region. -/
def dstOk (off len : Nat) : Bool := decide (off % 64 = 0) && inGeneral off len

/-- Write to the General region by Landing offset; a line written in full is no longer poisoned (R102). -/
def State.writeGen (s : State) (off : Nat) (l : List Byte) : State :=
  let s1 := s.writeMem (landing off) l
  { s1 with lnd := { s1.lnd with poison := s1.lnd.poison.filter (fun p => !(decide (off ≤ p) && decide (p + 32 ≤ off + l.length))) } }

/-- Whether an area holds a poisoned line (R102). -/
def State.poisoned (s : State) (off len : Nat) : Bool :=
  s.lnd.poison.any (fun p => decide (p < off + len) && decide (off < p + 32))

/-! ### Rings, results and commands -/

/-- The queue of a block for a side (R113). -/
def queueOf (blk : Nat) (sd : Side) : Nat := 2 * blk + sd.ctorIdx

/-- The host API of a side is open (R122). -/
def State.apiOpen (s : State) : Side → Bool
  | .core => decide (s.hst.coreMajor ≠ 0)
  | .host => decide (s.hst.hostMajor ≠ 0)

/-- The outcome of a command: the state its effect gives, the status and what the result carries. `keep` marks
the named exceptions of R120, whose effect stands although the status is a failure. -/
structure Reply where
  st : State
  status : Status := .ok
  detail : Nat := 0
  data : List Byte := []
  keep : Bool := false

/-- A command completes at once or waits (R116). -/
inductive Answer
  | done (r : Reply)
  | wait (w : Waiting) (st : State)

/-- Complete with OK. -/
def okay (s : State) (data : List Byte := []) : Answer := .done { st := s, data := data }
/-- Complete with a failing status. -/
def fail (s : State) (st : Status) (detail : Nat := 0) : Answer := .done { st := s, status := st, detail := detail }

/-- Whether a status completes a command with its effect (R120). -/
def statusGood (st : Status) : Bool := decide (st = .ok) || decide (st = .hostHeld)

/-- The completion counters of a block after one completion (R125). -/
def Cnt.count (c : Cnt) (st : Status) : Cnt :=
  if statusGood st then { c with ok := c.ok + 1 }
  else if st = Status.state then { c with state := c.state + 1 }
  else { c with fail := c.fail + 1 }

/-- The 64 octets of a result block (R117). -/
def resultBlock (seq : Nat) (st : Status) (tag : BitVec 16) (opcode detail : Nat) (t : Stamp) (data : List Byte) : List Byte :=
  le 4 seq ++ le 1 1 ++ le 1 st.ctorIdx ++ le 2 tag.toNat ++ le 2 opcode ++ le 2 detail ++ le 8 t.pack ++ padTo 44 data

/-- The next completion number: 0xFFFF_FFFF is followed by 1 (R118). -/
def nextSeq (n : Nat) : Nat := if n = 0xFFFFFFFF then 1 else n + 1

/-- The oldest index of a ring that has not completed, given the commands in progress (R115). -/
def oldestOpen (fl : List Flight) (q : Nat) (Q : Queue) : Nat :=
  let ahead := (fl.filter (fun f => f.q = q)).map (fun f => (f.idx + 65536 - Q.ci) % 65536)
  (Q.ci + ahead.foldl min ((Q.started + 65536 - Q.ci) % 65536)) % 65536

/-- Write a command's result and count it: slot, `SEQ`, `CI`, counters, interrupt (R115, R117, R118, R125). -/
def State.complete (s : State) (q idx : Nat) (c : Cmd) (opcode : Nat) (st : Status) (detail : Nat) (data : List Byte) : State :=
  let Q := s.queue q
  let seq := nextSeq Q.seq
  let Q1 : Queue := { Q with seq := seq, irqPend := Q.irqPend || c.irq }
  let Q2 : Queue := { Q1 with ci := oldestOpen s.hst.flights q Q1 }
  let s1 := s.writeGen (Q.res + 64 * (idx % 2 ^ Q.log2)) (resultBlock seq st c.tag opcode detail s.now data)
  let s2 := (s1.setQueue q Q2).modCnt (q / 2) (fun n => n.count st)
  if c.irq then s2.send (.irq Q.vector) else s2

/-- Two commands alone may complete after a later one of their ring (R515). -/
def passable (opcode : Nat) : Bool := decide (opcode = 0x0001) || decide (opcode = 0x0E01)

/-- A command in progress holds back the next of its ring (R116, R515). -/
def State.ringBusy (s : State) (q : Nat) : Bool := s.hst.flights.any (fun f => decide (f.q = q) && !passable f.opcode)

/-- The command at a ring's start can start: the part runs, the ring is enabled and holds a posted command that
has not started, and none before it holds it back (assumption 6). -/
def State.canStart (s : State) (q : Nat) : Bool :=
  let Q := s.queue q
  !s.sys.inReset && Q.en && decide (Q.started ≠ Q.pi) && !s.ringBusy q

/-- Take the next command of a ring as started. -/
def State.startNext (s : State) (q : Nat) : State := s.modQueue q (fun Q => { Q with started := (Q.started + 1) % 65536 })

/-- The role enables no local bays: a command to a function of theirs fails with STATE (R14, R15). -/
def State.noBays (s : State) : Bool := decide (s.img.struct_.role = .hub)

/-- A ring's descriptor lies on a poisoned line (R102, R114). -/
def State.descLost (s : State) (Q : Queue) : Bool := s.poisoned (Q.base + 64 * (Q.started % 2 ^ Q.log2)) 64

/-- The state in which a command's answer leaves the machine: its result is written, or it waits. A failing
status keeps nothing of the body's effect but the named exceptions (R120). -/
def State.answer (s : State) (q idx : Nat) (c : Cmd) (opcode : Nat) : Answer → State
  | .done r => (if statusGood r.status || r.keep then r.st else s).complete q idx c opcode r.status r.detail r.data
  | .wait w st => { st with hst := { st.hst with flights := st.hst.flights ++ [{ q := q, idx := idx, cmd := c, opcode := opcode, waits := w }] } }

/-- Run a host command (R113 to R121): nothing happens unless it can start; one whose descriptor cannot be read completes
with FAULT (R102), and on a side that has not opened the host API it completes with VERSION (R116). -/
def State.runCmd (s : State) (c : Cmd) (opcode : Nat) (body : State → Answer) : State :=
  let q := queueOf (opcode / 256) c.side
  if s.canStart q then
    let idx := (s.queue q).started
    let s1 := s.startNext q
    if s.descLost (s.queue q) then s1.answer q idx c opcode (fail s1 .fault)
    else if s.apiOpen c.side || decide (opcode = 0x0301) then s1.answer q idx c opcode (body s1)
    else s1.answer q idx c opcode (fail s1 .version)
  else s

/-- Complete the commands in progress that a test names, with one status and data. -/
def State.finish (s : State) (sel : Flight → Bool) (st : Status) (detail : Nat := 0) (data : List Byte := []) : State :=
  let due := s.hst.flights.filter sel
  let s0 := { s with hst := { s.hst with flights := s.hst.flights.filter (fun f => !sel f) } }
  due.foldl (fun a f => a.complete f.q f.idx f.cmd f.opcode st detail data) s0

/-- A register from its fields: lowest bit, width, value. -/
def bits (l : List (Nat × Nat × Nat)) : Word := BitVec.ofNat 32 (l.foldl (fun a f => a + f.2.2 % 2 ^ f.2.1 * 2 ^ f.1) 0)

end Sys2Proof.Machine
end

