-- ==== Sys2Proof/Machine/Permits.lean ====
section
/-! DEFINITION. Permits (R64 to R69): presenting a request, releasing a grant, and the order in which requests
are considered. Granting itself, with what a grant starts, is `settle` in Grants.lean. -/
namespace Sys2Proof.Machine

/-- The operations of R68's table, by row. -/
inductive PermitOp | contactor | turnOn | retry | conduction | greenPhy | reader | brandRail | brandPanel | mramBulk | cruise
deriving DecidableEq, Repr

/-- R68's power, priority and default wait limit; a power of 0 comes from the load profile. -/
def PermitOp.default : PermitOp → PermitCfg
  | .contactor => { prio := 0, wait := 500 }
  | .turnOn => { prio := 1, wait := 200 }
  | .retry => { prio := 1, wait := 1000 }
  | .conduction => { prio := 1, wait := 200 }
  | .greenPhy => { power := 300, prio := 2, wait := 50 }
  | .reader => { power := 500, prio := 2, wait := 100 }
  | .brandRail => { power := 400, prio := 3, wait := 1000 }
  | .brandPanel => { power := 300, prio := 3, wait := 2000 }
  | .mramBulk => { power := 250, prio := 3, wait := 1000 }
  | .cruise => { power := 1200, prio := 4, wait := 5000 }

/-- An operation's figures: the PERMITS section's override, else R68's. -/
def State.permitCfg (s : State) (op : PermitOp) : PermitCfg :=
  match s.img.permits.find? (fun p => p.1 = op.ctorIdx) with
  | some p => p.2
  | none => op.default

/-- The sum of all granted power (R65). -/
def grantedPower (l : List Grant) : Nat := l.foldl (fun n g => n + g.power) 0

/-- Present a request; `arrival` = 0 takes the present place in the order of arrival (R65, R66). -/
def State.present (s : State) (o : PermitOwner) (power dur prio wait : Nat) (arrival : Nat := 0) : State :=
  let p := s.permits
  let r : PReq := { id := p.nextId, owner := o, power := power, dur := dur, prio := prio, wait := wait,
                    arrival := if arrival = 0 then p.nextArrival else arrival }
  { s with permits := { p with waiting := p.waiting ++ [r], nextId := p.nextId + 1, nextArrival := p.nextArrival + 1 } }

/-- Whether a permit owned so is granted, or asked for. -/
def State.holds (s : State) (o : PermitOwner) : Bool := s.permits.grants.any (fun g => g.owner = o)
def State.asks (s : State) (o : PermitOwner) : Bool := s.permits.waiting.any (fun r => r.owner = o)

/-- Release what an owner holds and withdraw what it asks for (R67). -/
def State.release (s : State) (o : PermitOwner) : State :=
  { s with permits := { s.permits with grants := s.permits.grants.filter (fun g => g.owner ≠ o),
                                       waiting := s.permits.waiting.filter (fun r => r.owner ≠ o) } }

/-- The owners of conduction power, which Choker limits to 5,500 mW together (R364). -/
def PermitOwner.conducts : PermitOwner → Bool
  | .conduction _ => true
  | .extra _ => true
  | _ => false

/-- Choker's granted conduction permits (R364). -/
def State.conductionSum (s : State) : Nat := grantedPower (s.permits.grants.filter (fun g => g.owner.conducts))

/-- Choker presents a conduction request only if its sum stays at or below 5,500 mW (R364). -/
def State.presentable (s : State) (r : PReq) : Bool := !r.owner.conducts || decide (s.conductionSum + r.power ≤ 5500)

/-- Whether one request stands before another: priority, then arrival (R65). -/
def PReq.before (a b : PReq) : Bool := decide (a.prio < b.prio) || (decide (a.prio = b.prio) && decide (a.arrival < b.arrival))

/-- The first of a list of requests in the order of R65. -/
def firstReq : List PReq → Option PReq
  | [] => none
  | r :: rest => match firstReq rest with
    | none => some r
    | some b => if b.before r then some b else some r

/-- Whether a request fits the budget now (R65); while a power-fail warning stands nothing does (R57). -/
def State.fits (s : State) (r : PReq) : Bool :=
  !s.sys.pfail && decide (grantedPower s.permits.grants + r.power ≤ s.permits.budget)

/-- The request that fails at once: above the budget (R64), or any while a power failure runs (R57). -/
def State.doomed (s : State) : Option PReq :=
  s.permits.waiting.find? (fun r => s.sys.pfail || decide (s.permits.budget < r.power))

/-- The request to grant now, if the first in order fits (R65). -/
def State.grantable (s : State) : Option PReq :=
  match firstReq (s.permits.waiting.filter (fun r => s.presentable r)) with
  | some r => if s.fits r then some r else none
  | none => none

/-- Take a request out of the waiting ones. -/
def State.unwait (s : State) (id : Nat) : State :=
  { s with permits := { s.permits with waiting := s.permits.waiting.filter (fun r => r.id ≠ id) } }

/-- Turn a waiting request into a grant (R65). -/
def State.grantReq (s : State) (r : PReq) : State :=
  let s1 := s.unwait r.id
  { s1 with permits := { s1.permits with grants := s1.permits.grants ++
      [{ id := r.id, owner := r.owner, power := r.power, standing := decide (r.dur = 0) }] } }

/-- Count a failed request (R70). -/
def State.countFail (s : State) : State := { s with permits := { s.permits with fails := s.permits.fails + 1 } }

end Sys2Proof.Machine
end

