-- ==== Sys2Proof/Machine/Cruise.lean ====
section
/-! DEFINITION. Cruise: units and slices, spares and fuses (R472 to R483). What an unrepairable row or an
uncorrectable line does to its owner is in CruiseCmd.lean. -/
namespace Sys2Proof.Machine

/-- The spare rows of a bank (0 to 47) or a way (48 to 79) (R472). -/
def sparesOf (b : Nat) : Nat := if b < 48 then 8 else 4

/-- Spares left in a bank or way: fused and soft-repaired rows count against them (R472). -/
def Crs.left (c : Crs) (b : Nat) : Nat := sparesOf b - countIf c.fused (fun r => decide (r.1 = b)) - countIf c.soft (fun r => decide (r.1 = b))

/-- The ways of a cluster's L2 that stay in allocation (R479). -/
def Crs.l2Ways (c : Crs) (cluster : Nat) : Nat := countIf (List.range 16) (fun w => !c.bad.any (fun r => decide (r.1 = 48 + 16 * cluster + w)))

/-- Fused rows of a bank or way. -/
def Crs.fusedIn (c : Crs) (b : Nat) : Nat := (c.fused.filter (fun r => r.1 = b)).length

/-- The bank of a LANDING unit: 44 banks, the Yarder tree's 28 to 31 left out (R474, R475). -/
def landingBank (u : Nat) : Nat := if u / 16 < 28 then u / 16 else u / 16 + 4

/-- Yarder tree rows a slice of 50 ms tests: one per cycle (R476). -/
def State.rowsPerSlice (s : State) : Nat := max 1 (50 / max 1 s.img.yarder.tCyc)

/-- The units of a round: 704 LANDING, 32 L2, then the Yarder rows (R477). -/
def State.roundUnits (s : State) : Nat := 736 + divUp 1024 s.rowsPerSlice

/-- A unit's kind (R477). -/
def unitKind (u : Nat) : SliceKind := if u < 704 then .landing else if u < 736 then .l2 else .yarder

/-- A kind's budget in ms (R474). -/
def sliceBudget : SliceKind → Nat
  | .none => 0
  | .landing => 5
  | .l2 => 20
  | .yarder => 50

/-- A failing row of a unit as (bank or 48 + way, row): rows of a bank or way, or of the Yarder tree region. -/
def failPlace (u r : Nat) : Nat × Nat :=
  match unitKind u with
  | .landing => (landingBank u, r % 256)
  | .l2 => (48 + (u - 704), r % 256)
  | _ => (28 + r / 256 % 4, r % 256)

/-- The next unit: through the round, then the units to retest, then a new round (R477, R478). -/
def State.nextUnit (s : State) : State :=
  let c := s.crs
  if !c.retesting && decide (c.unit + 1 < s.roundUnits) then { s with crs := { c with unit := c.unit + 1, kind := .none } }
  else match c.retest with
    | u :: r => { s with crs := { c with unit := u, retest := r, kind := .none, retesting := true } }
    | [] => { s with crs := { c with unit := 0, rounds := c.rounds + 1, kind := .none, retesting := false } }

/-- No slice runs any more: a pause takes effect (R483). -/
def State.sliceOver (s : State) : State :=
  let s1 := s.nextUnit
  if s.crs.pausing then
    ({ s1 with crs := { s1.crs with st := .paused, pausing := false } }).finish (fun f => decide (f.waits = Waiting.pause)) .ok
  else { s1 with crs := { s1.crs with st := .idle } }

/-- Ask for a slice's permit (R474). -/
def State.sliceAsk (s : State) : State :=
  let p := s.permitCfg .cruise
  s.present .cruise p.power (sliceBudget (unitKind s.crs.unit)) p.prio p.wait

/-- A slice starts on its grant (R474). -/
def State.sliceStart (s : State) : State := { s with crs := { s.crs with st := .slice, kind := unitKind s.crs.unit } }

/-- Record a failing row in `CRS_FAIL_ADDR` (R479, R482). -/
def State.failAddr (s : State) (r : Nat × Nat) (rep : Bool) : State :=
  { s with crs := { s.crs with failMedium := if r.1 < 48 then 0 else 1, failBank := if r.1 < 48 then r.1 else (r.1 - 48) % 16 + 16 * ((r.1 - 48) / 16), failRow := r.2, failRepaired := rep } }

/-- Soft-repair a row where a spare is left, one whose spare fails as well on another; answers whether it was repaired (R479). -/
def State.softRepair (s : State) (r : Nat × Nat) : State × Bool :=
  if 0 < s.crs.left r.1 then
    let s1 := { s with crs := { s.crs with soft := s.crs.soft ++ [r] } }
    ((s1.failAddr r true).setEvt 0x13 0, true)
  else
    let s1 := { s with crs := { s.crs with bad := if s.crs.bad.contains r then s.crs.bad else s.crs.bad ++ [r] } }
    ((s1.failAddr r false).setEvt 0x13 1, false)

/-- Fuse every soft-repaired row while its bank or way has an entry left (R481); answers fused and left counts. A row that
finds none stays soft-repaired. -/
def Crs.fuse (c : Crs) : Crs × Nat × Nat :=
  c.soft.foldl (fun a r =>
    if a.1.fusedIn r.1 < 4 then ({ a.1 with fused := a.1.fused ++ [r] }, a.2.1 + 1, a.2.2)
    else ({ a.1 with soft := a.1.soft ++ [r] }, a.2.1, a.2.2 + 1)) ({ c with soft := [] }, 0, 0)

end Sys2Proof.Machine
end

