-- ==== Sys2Proof/Machine/Migrate.lean ====
section
/-! DEFINITION. Stored structures, their format versions and migration (R86 to R90). A record, log entry, profile entry or
journal slot carries its version; parameter sets and tables carry it once; of a software structure the number of records is
a free value. A row migrates whole records, so no row ends inside one. -/
namespace Sys2Proof.Machine

/-- Structures that carry their version once, and the software structures (R86). -/
def onceOnly (id : Nat) : Bool :=
  decide (id = 0x01) || decide (id = 0x10) || decide (id = 0x15) || (decide (0x40 ≤ id) && decide (id ≤ 0x7F))

/-- The legal structures (R86). -/
def legalId (id : Nat) : Bool := decide (0x10 ≤ id) && decide (id ≤ 0x15)

/-- The stored version of a structure that carries it once. -/
def State.verOf (s : State) (id : Nat) : Nat := tget 0 s.cfg.storedVer id

/-- The records of a structure that carries its version in each, with their keys (R86). -/
def State.recVers (s : State) (id : Nat) : List (Nat × Nat) :=
  if id = 0x02 then s.saf.log.map (fun p => (p.1, p.2.ver))
  else if id = 0x11 then s.tly.recs.map (fun p => (p.1, p.2.ver))
  else if id = 0x12 then s.tly.stored.map (fun p => (p.1, p.2.ver))
  else if id = 0x13 then s.blz.log.map (fun p => (p.1, p.2.ver))
  else if id = 0x14 then s.tly.readings.map (fun p => (p.1, p.2.ver))
  else if id = 0x20 then s.tly.journal.map (fun p => (p.1, p.2.ver))
  else []

/-- The structures of R86 that carry a version in each record. -/
def recIds : List Nat := [0x02, 0x11, 0x12, 0x13, 0x14, 0x20]

/-- Every stored version, with its structure (R86, R87). -/
def State.allVers (s : State) : List (Nat × Nat) :=
  s.cfg.storedVer ++ s.cfg.swDone.map (fun p => (p.1, p.2.2)) ++ recIds.foldl (fun l id => l ++ (s.recVers id).map (fun r => (id, r.2))) []

/-- The stored formats lie in an image's ranges; a structure that FORMATS does not list has the range 0 to 0 (R87,
assumption 38). -/
def State.formatsOk (s : State) (c : ImageContent) : Bool :=
  s.allVers.all (fun p =>
    let f := tget ({} : FmtRange) c.formats p.1
    decide (f.low ≤ p.2) && decide (p.2 ≤ f.high))

/-- The steps from a stored version up to HIGH are supplied (R88). -/
def stepsThere (l : List (Nat × Nat)) (id lo hi : Nat) : Bool := (List.range (hi - lo)).all (fun i => l.contains (id, lo + i))

/-- A version of a structure migrates under an image: it lies below HIGH, the steps are there (without them it stays,
assumption 38), the journal never migrates, and under REVERIFY no legal structure does (R88 to R90). -/
def verMoves (c : ImageContent) (reverify : Bool) (id v : Nat) : Bool :=
  let h := (tget ({} : FmtRange) c.formats id).high
  decide (id ≠ 0x20) && decide (v < h) && !(legalId id && reverify)
    && stepsThere (if id ≤ 0x15 then c.migStepsV else c.migSteps) id v h

/-- The records of one structure that wait for migration, in order (R86, R88). -/
def State.waitingIn (s : State) (id : Nat) : List (Nat × Nat) :=
  let moves (v : Nat) : Bool := verMoves s.img s.cfg.reverify id v
  if onceOnly id then
    (if s.verOf id = 0 || !moves (s.verOf id) then []
     else if id < 0x40 then [(id, 0)]
     else (List.range (Config.freeNat id - (tget (0, 0) s.cfg.swDone id).1)).map (fun i => (id, (tget (0, 0) s.cfg.swDone id).1 + i)))
  else ((s.recVers id).filter (fun r => moves r.2)).map (fun r => (id, r.1))

/-- Every record that waits for migration, in ascending ID order (R86). -/
def State.waitingRecs (s : State) : List (Nat × Nat) := (tkeys s.img.formats).foldl (fun l id => l ++ s.waitingIn id) []

/-- The next record to migrate. -/
def State.nextRecord (s : State) : Option (Nat × Nat) := s.waitingRecs.head?

/-- Whether records wait (R89). -/
def State.migPending (s : State) : Bool := !s.waitingRecs.isEmpty

/-- `MIG_PENDING` shows whether records wait (R89, R94). -/
def State.showPending (s : State) : State := { s with cfg := { s.cfg with migPending := s.migPending } }

/-- One more record of a software structure is at HIGH; with the last one the structure is (R88). -/
def State.swMoved (s : State) (id : Nat) : State :=
  let n := (tget (0, 0) s.cfg.swDone id).1 + 1
  if Config.freeNat id ≤ n then
    { s with cfg := { s.cfg with storedVer := tset 0 s.cfg.storedVer id (s.fmtVer id), swDone := tset (0, 0) s.cfg.swDone id (0, 0) } }
  else { s with cfg := { s.cfg with swDone := tset (0, 0) s.cfg.swDone id (n, s.fmtVer id) } }

/-- Migrate one record: it is rewritten at HIGH (R88). -/
def State.migrateRec (s : State) (r : Nat × Nat) : State :=
  let h := s.fmtVer r.1
  let k := r.2
  if r.1 = 0x02 then { s with saf := { s.saf with log := tmod {} s.saf.log k (fun (e : SafLog) => { e with ver := h }) } }
  else if r.1 = 0x11 then { s with tly := { s.tly with recs := tmod {} s.tly.recs k (fun (e : Rec) => { e with ver := h }) } }
  else if r.1 = 0x12 then { s with tly := { s.tly with stored := tmod {} s.tly.stored k (fun (e : Entry) => { e with ver := h }) } }
  else if r.1 = 0x13 then { s with blz := { s.blz with log := tmod {} s.blz.log k (fun (e : LegalEntry) => { e with ver := h }) } }
  else if r.1 = 0x14 then { s with tly := { s.tly with readings := tmod {} s.tly.readings k (fun (e : Reading) => { e with ver := h }) } }
  else if r.1 < 0x40 then { s with cfg := { s.cfg with storedVer := tset 0 s.cfg.storedVer r.1 h } }
  else s.swMoved r.1

/-- Migrate the first records of a list, up to a number. -/
def migrateSome (n : Nat) : Nat → List (Nat × Nat) → State → State
  | _, [], s => s
  | i, r :: l, s => if i < n then migrateSome n (i + 1) l (s.migrateRec r) else s

/-- Migrate up to a number of records in ascending ID order (R86, R89). -/
def State.migrateRecords (s : State) (n : Nat) : State := migrateSome n 0 s.waitingRecs s

/-- The record that a reset cut is finished first, and its marker cleared (R88). -/
def State.resumeMark (s : State) : State :=
  match s.cfg.migMark with
  | none => s
  | some r =>
    let s1 := { s with cfg := { s.cfg with migMark := none } }
    if s1.waitingRecs.contains r then s1.migrateRec r else s1

end Sys2Proof.Machine
end

