-- ==== Sys2Proof/Machine/Clock.lean ====
section
/-! DEFINITION. The time base and its servo (R458 to R469). Offsets are in units of 2^-16 ns, local minus source. -/
namespace Sys2Proof.Machine

/-- Time is VERIFIED: LOCKED, or HOLDOVER while the estimate is at or below 100 ms (R463). -/
def State.verified (s : State) : Bool :=
  decide (s.tim.servo = .locked) || (decide (s.tim.servo = .holdover) && !s.tim.holdLimit)

/-- The estimated holdover error in µs: `HOLD_PPM` x elapsed time, saturating; 0 outside HOLDOVER (R463, R470). -/
def State.estErr (s : State) : Nat :=
  if s.tim.servo = .holdover then
    satTo 0xFFFFFFFF (s.img.struct_.holdPpm * (s.now.toNs - s.tim.holdFrom.toNs).toNat / 10000000000)
  else 0

/-- 1 µs, 1 ms, 128 ms and 10 ms in units of 2^-16 ns. -/
def usOff : Nat := 1000 * 65536
def msOff : Nat := 1000000 * 65536

/-- Set the servo's state with the events of R470: LOCK_EVT on becoming LOCKED, UNVER_EVT when VERIFIED falls. -/
def State.setServo (s : State) (v : Servo) : State :=
  let t := { s.tim with servo := v, holdFrom := if v = .holdover then s.now else s.tim.holdFrom,
                        holdLimit := if v = .holdover then false else s.tim.holdLimit,
                        good := if v = .acquiring || v = .free then 0 else s.tim.good }
  let s1 := { s with tim := t }
  let s2 := s1.setEvtIf (decide (v = .locked) && decide (s.tim.servo ≠ .locked)) 0x12 1
  s2.setEvtIf (s.verified && !s1.verified) 0x12 2

/-- Enter LOCKED once 16 consecutive accepted offsets were within 1 µs and no slew runs (R463). -/
def State.lockIfDue (s : State) : State :=
  if s.tim.servo = .acquiring && decide (16 ≤ s.tim.good) && !s.tim.slewing then s.setServo .locked else s

/-- What an accepted offset does to the servo's state (R463). -/
def State.accept (s : State) (o : Int) : State :=
  let small := decide (o.natAbs ≤ usOff)
  match s.tim.servo with
  | .free =>
    let s1 := s.setServo .acquiring
    { s1 with tim := { s1.tim with good := if small then 1 else 0 } }
  | .acquiring => ({ s with tim := { s.tim with good := if small then s.tim.good + 1 else 0 } }).lockIfDue
  | .locked => s
  | .holdover => if small then s.setServo .locked else s.setServo .acquiring

/-- The frequency term limited to ±100 ppm, in 0.01 ppb (R459, R470). -/
def limitFreq (f : Int) : Int := clampInt (-10000000) 10000000 f

/-- The nearest multiple of 10 ms of an offset, in ns (R464). -/
def nearest10ms (o : Int) : Int := divRound o (10 * msOff) * 10000000

/-- An offset as it would be without the corrections applied so far: offsets of a run are compared so (R464). -/
def State.rawOff (s : State) (o : Int) : Int := o + s.tim.removed

/-- One measured offset (R464). Answers the action of TIM_OFFSET: 0 filtered, 1 candidate, 2 slew, 3 step pending,
4 rejected. An offset that meets a pending step is discarded and answered 3 (assumption 20). -/
def State.offset (s : State) (o : Int) : Nat × State :=
  if s.tim.stepPend.isSome then (3, s)
  else if o.natAbs < msOff then
    let t := { s.tim with run := [], freq := limitFreq (Config.piFilter s.tim.freq o),
                          slewing := s.tim.slewing || decide (usOff < o.natAbs),
                          slewOff := if usOff < o.natAbs then o else s.tim.slewOff }
    (0, ({ s with tim := t }).accept o)
  else if s.tim.run.any (fun p => decide (msOff < (p - s.rawOff o).natAbs)) then
    (4, ({ s with tim := { s.tim with run := [s.rawOff o], rejects := s.tim.rejects + 1 } }).setEvt 0x12 3)
  else
    let run := s.rawOff o :: s.tim.run
    if run.length < 3 then (1, ({ s with tim := { s.tim with run := run } }).accept o)
    else if o.natAbs < 128 * msOff then
      (2, ({ s with tim := { s.tim with run := [], slewing := true, slewOff := o } }).accept o)
    else
      let st := nearest10ms o
      (3, ({ s with tim := { s.tim with run := [], stepPend := some (-st), stepRest := o - st * 65536 } }).accept o)

/-- The real-time clock runs on by some nanoseconds; its drift is not modelled (assumption 5). -/
def Tim.rtcRun (t : Tim) (ns : Nat) : Tim :=
  { t with rtcSec := t.rtcSec + (t.rtcNs + ns) / 1000000000, rtcNs := (t.rtcNs + ns) % 1000000000 }

/-- UTC in whole seconds since 2000-01-01T00:00:00 by the offset alone (TAI on the PTP epoch minus the UTC offset; R458). -/
def Tim.utcRaw (t : Tim) : Int := (t.sec : Int) - t.utcOff - 946684800

/-- UTC in whole seconds since 2000: an inserted second repeats 23:59:59, from the second that would begin the next day
on (R466). -/
def State.utcSince2000 (s : State) : Int :=
  if s.tim.leap = 1 && !s.tim.leapDone && s.tim.utcRaw % 86400 = 0 then s.tim.utcRaw - 1 else s.tim.utcRaw

/-- The UTC day of an inserted second has ended (R466). -/
def Tim.dayEnd (t : Tim) : Tim := if t.leapDone && decide (t.utcRaw % 86400 = 0) then { t with leap := 0, leapDone := false } else t

/-- A slew of at most 50 ppm removes at most 500 ns in a tick, and the frequency term last set takes effect (R459). -/
def Tim.slewTick (t : Tim) : Tim :=
  let d := clampInt (-(500 * 65536)) (500 * 65536) t.slewOff
  { t with rate := t.freq, slewOff := t.slewOff - d, removed := t.removed + d }

/-- In HOLDOVER the estimate has passed 100 ms (R463). -/
def State.holdCheck (s : State) : State :=
  if s.tim.servo = .holdover && !s.tim.holdLimit && decide (100000 < s.estErr) then ({ s with tim := { s.tim with holdLimit := true } }).setEvt 0x12 2
  else s

/-- The network and ring ports that stamp PTP event messages (R461). -/
inductive PtpPort | net0 | net1 | boom0 | boom1
deriving DecidableEq, Repr

/-- The hardware stamp of a PTP event message in ns, from the time at its reference plane: the port's latency to the line is
added, and stamps resolve 4 ns (R461). -/
def State.ptpStamp (s : State) (port : PtpPort) (egress : Bool) (plane : Int) : Int :=
  let l := if egress then s.img.net.latOut else s.img.net.latIn
  (plane + (l.getD port.ctorIdx 0 : Nat)) / 4 * 4

/-- One-step operation, on a port that runs at 10G: the correctionField written on egress, in 2^-16 ns, is what the
message's own time lacks of the stamp; other ports are two-step (R461). -/
def State.ptpCorrection (s : State) (port : PtpPort) (tenGig : Bool) (carried plane : Int) : Option Int :=
  if tenGig && decide (port.ctorIdx < 2) then some ((s.ptpStamp port true plane - carried) * 65536) else none

/-- The offset of an exchange with the master in ns, local minus master: the master sends at `t1` and receives at `t4` by
its time, this device receives at `p2` and sends at `p3` by its own at the reference plane (R461, R462; the path delay
taken equal both ways is PRESUMED, assumption 71). -/
def State.boomOffset (s : State) (port : PtpPort) (t1 p2 p3 t4 : Int) : Int :=
  divRound (s.ptpStamp port false p2 - t1 + (s.ptpStamp port true p3 - t4)) 2

/-- Advance the time base to the next 10 ms boundary (assumption 5). -/
def State.nextBoundary (s : State) : State :=
  let n := (s.tim.ns / 10000000 + 1) * 10000000
  let t := (s.tim.rtcRun (n - s.tim.ns)).slewTick
  if n < 1000000000 then { s with tim := { t with ns := n, frac := 0 } }
  else { s with tim := Tim.dayEnd { t with sec := s.tim.sec + 1, ns := 0, frac := 0 } }

/-- Set the time base. -/
def State.setTime (s : State) (t : Stamp) : State := { s with tim := { s.tim with sec := t.sec, ns := t.ns, frac := 0 } }

end Sys2Proof.Machine
end

