-- ==== Sys2Proof/Machine/Blaze.lean ====
section
/-! DEFINITION. The legal log (R294 to R297) and Blaze's tamper log (R286 to R293). -/
namespace Sys2Proof.Machine

/-- Used places of the legal log (R297). -/
def State.legalUsed (s : State) : Nat := s.blz.last - s.blz.released

/-- The log is full for change entries, and for event entries (R297). -/
def State.changeFull (s : State) : Bool := decide (1984 ≤ s.legalUsed)
def State.eventFull (s : State) : Bool := decide (2048 ≤ s.legalUsed)

/-- The METRO key that METROMAP names can sign (R267, R296, R444). -/
def State.metroSigns (s : State) : Bool :=
  let k := s.slot s.img.metro.metroSlot
  decide (k.st = .valid) && k.usage.getLsbD 0

/-- The first octets of the digest of a content identity; free values (assumption 3). -/
def digestBytes (c n : Nat) : List Byte := (List.range n).map (fun i => Config.digestByte c i)

/-- Bytes 0 to 63 of a legal-log entry (R294). -/
def LegalEntry.head (e : LegalEntry) : List Byte :=
  le 2 e.ver ++ le 1 e.kind ++ le 1 e.flags.toNat ++ le 4 e.lseq ++ le 8 e.time.pack ++ le 8 e.evTime.pack
    ++ padTo 8 e.prev ++ padTo 32 e.body

/-- Signature octets: zeros where none was made. -/
def sigBytes (sig : Option (Nat × Nat)) (msg : List Byte) (n : Nat) : List Byte :=
  match sig with
  | none => List.replicate n 0
  | some k => (List.range n).map (fun i => Config.sigByte k.1 msg k.2 i)

/-- The 128 octets of a legal-log entry (R294). -/
def LegalEntry.bytes (e : LegalEntry) : List Byte := e.head ++ sigBytes e.sig e.head 64

/-- The entry with a legal sequence number. -/
def State.legalAt (s : State) (l : Nat) : LegalEntry := tget {} s.blz.log (l % 2048)

/-- The octets an entry chains to its predecessor with (R294). -/
def State.chainTo (s : State) (l : Nat) : List Byte :=
  if l = 1 then List.replicate 8 0
  else (List.range 8).map (fun i => Config.sha256 (s.legalAt (l - 1)).head i)

/-- Sign with the METRO key METROMAP names: the key and a fresh draw, none while it is locked (R267, R296). -/
def State.metroSign (s : State) : Option (Nat × Nat) × State :=
  if s.metroSigns then (some ((s.slot s.img.metro.metroSlot).key, s.fresh), s.draw.2) else (none, s)

/-- Write a legal-log entry (R294 to R296): flags, number, time, and the signature or `LATE_SIGN`. -/
def State.legal (s : State) (kind : Nat) (ev : Stamp) (body : List Byte) : State :=
  let l := s.blz.last + 1
  let g := s.metroSign
  let fl : BitVec 8 := BitVec.ofNat 8 ((!s.verified).toNat + 2 * g.1.isNone.toNat + 4 * s.cfg.reverify.toNat)
  let e : LegalEntry := { ver := s.fmtVer 0x13, kind := kind, flags := fl, lseq := l, time := s.now, evTime := ev, prev := s.chainTo l,
                          body := padTo 32 body, sig := g.1 }
  let s0 := g.2
  let s1 := { s0 with blz := { s0.blz with log := tset {} s0.blz.log (l % 2048) e, last := l },
                      nfc := { s0.nfc with exDue := true } }
  s1.setEvtIf (decide (1984 - s1.legalUsed < 256)) 0x09 4

/-- A change entry, written at its own time (R295). -/
def State.legalChange (s : State) (kind : Nat) (body : List Byte) : State := s.legal kind s.now body

/-- Refuse a command with LOGFULL; the refusal sets LOG_FULL (R299). -/
def logFull (s : State) : Answer := .done { st := s.setEvt 0x09 5, status := .logfull, keep := true }

/-- Sign the entries that wait for it, in `LSEQ` order; `LATE_SIGN` stays set (R296). -/
def signLateFrom : Nat → Nat → State → State
  | 0, _, s => s
  | n + 1, l, s =>
    let e := s.legalAt l
    if e.lseq = l && e.sig.isNone then
      let g := s.metroSign
      let s0 := g.2
      signLateFrom n (l + 1) { s0 with blz := { s0.blz with log := tset {} s0.blz.log (l % 2048) { e with sig := g.1 } } }
    else signLateFrom n (l + 1) s

/-- Late signatures of the legal log at the return to FIELD (R296). -/
def State.signLate (s : State) : State := signLateFrom (min 2048 s.blz.last) (s.blz.last + 1 - min 2048 s.blz.last) s

/-- An input's level is its active one (R286). -/
def activeLevel (m : TamperMode) (high : Bool) : Bool :=
  match m with
  | .disabled => false
  | .nc => high
  | .no => !high

/-- A time in steps of 1/32,768 s (R289). -/
def rtcGrain (t : Stamp) : Stamp := { t with ns := t.ns * 32768 / 1000000000 * 1000000000 / 32768 }

/-- Add an event to the tamper log: from 64 pending on, the newest overwrites the 64th and is counted (R290). -/
def Blz.record (b : Blz) (e : TEntry) : Blz :=
  if b.pendingT.length < 64 then { b with pendingT := b.pendingT ++ [e], aseq := (b.aseq + 1) % 65536 }
  else { b with pendingT := b.pendingT.take 63 ++ [e], aseq := (b.aseq + 1) % 65536, lost := satTo 65535 (b.lost + 1), gapBefore := some e.aseq }

/-- The time of the first of two consecutive samples, of which the second is now: 1,024 periods of the 32.768 kHz clock
before (R287), by the real-time clock. -/
def State.firstSample (s : State) : Stamp := rtcGrain (Stamp.ofNs (({ sec := s.tim.rtcSec, ns := s.tim.rtcNs } : Stamp).toNs - 31250000))

/-- An accepted change of level on an input (R288). -/
def State.tamperEvent (s : State) (i : Nat) (high : Bool) : State :=
  let m := tget .disabled s.blz.modes i
  let act := activeLevel m high
  if m = .disabled || 4 ≤ i || decide (s.blz.active.getLsbD i = act) then s
  else
    let bit : BitVec 4 := 1#4 <<< i
    let e : TEntry := { aseq := s.blz.aseq, input := i, became := act, timeInv := !s.tim.rtcValid,
                        backup := decide (s.sys.pstate = .backup), time := s.firstSample }
    let b := s.blz.record e
    let b1 := { b with active := if act then s.blz.active ||| bit else s.blz.active &&& ~~~bit,
                       tampered := if act then s.blz.tampered ||| bit else s.blz.tampered }
    ({ s with blz := b1 }.setEvt 0x09 i).setEvtIf (decide (64 ≤ s.blz.pendingT.length)) 0x09 6

/-- A tamper entry's `EVENT` octet (R289). -/
def TEntry.event (e : TEntry) : Nat := e.input + 4 * e.became.toNat + 8 * e.timeInv.toNat + 16 * e.backup.toNat

/-- The 16 octets of a tamper-log entry (R289). -/
def TEntry.bytes (e : TEntry) : List Byte :=
  let b := le 2 e.aseq ++ le 1 e.event ++ le 1 0 ++ le 8 e.time.pack
  b ++ le 4 (crc32c b).toNat

/-- Write one gap entry; the time of the gap is a free value (R292, assumption 21). -/
def State.gap (s : State) (cause lost lastSeq : Nat) : State :=
  let d := s.draw
  d.2.legal 2 { sec := Config.freeNat d.1, ns := 0 } (le 1 cause ++ le 2 lost ++ le 2 lastSeq)

/-- Transfer one entry: discarded when the legal log already holds its number or a later one (R291). -/
def State.transferOne (s : State) (e : TEntry) : State :=
  let dup := match s.blz.lastTamper with
    | some a => !serialAfter (BitVec.ofNat 16 e.aseq) (BitVec.ofNat 16 a)
    | none => false
  if dup then s
  else
    let s1 := s.legal 1 e.time (le 2 e.aseq ++ le 1 e.event)
    { s1 with blz := { s1.blz with lastTamper := some e.aseq } }

/-- Transfer pending entries in order; `prev` is the last number before. Transfer stops
while the log is full for event entries (R291 to R293). -/
def transferAll (torn : List Nat) : List TEntry → Nat → State → State
  | [], _, s => { s with blz := { s.blz with lost := 0, gapBefore := none, logHold := false } }
  | e :: r, prev, s =>
    if s.eventFull then ({ s with blz := { s.blz with logHold := true } }).setEvt 0x09 5
    else if s.blz.gapBefore = some e.aseq && s.blz.lost ≠ 0 then
      let s1 := s.gap 1 s.blz.lost prev
      let s2 := { s1 with blz := { s1.blz with lost := 0, gapBefore := none } }
      if s2.eventFull then ({ s2 with blz := { s2.blz with logHold := true } }).setEvt 0x09 5
      else
        let s3 := if torn.contains e.aseq then s2.gap 3 0 prev else s2.transferOne e
        transferAll torn r e.aseq { s3 with blz := { s3.blz with pendingT := r } }
    else
      let s1 := if torn.contains e.aseq then s.gap 3 0 prev else s.transferOne e
      transferAll torn r e.aseq { s1 with blz := { s1.blz with pendingT := r } }

/-- The transfer of R291 with the gap entries of R292; a lost AON domain's entry comes first. -/
def State.transfer (s : State) (torn : List Nat) : State :=
  if s.blz.gapDue then
    if s.eventFull then ({ s with blz := { s.blz with logHold := true } }).setEvt 0x09 5
    else
      let s1 := s.gap 2 0 0
      transferAll torn s1.blz.pendingT 0 { s1 with blz := { s1.blz with gapDue := false } }
  else transferAll torn s.blz.pendingT 0 s

end Sys2Proof.Machine
end

