-- ==== Sys2Proof/Machine/Choker.lean ====
section
/-! DEFINITION. Choker's channels: permit powers, turning on and off, faults and shedding (R360 to R376). What
a failed Spar-owned channel does to its session is added in Safe.lean and in the commands' own files. -/
namespace Sys2Proof.Machine

/-- The channel conducts. -/
def chConducts : ChState → Bool
  | .inrush => true
  | .on => true
  | .hold => true
  | _ => false

/-- The profile has an inrush window (R362). -/
def windowed : ChProfile → Bool
  | .resistive => false
  | .heater => false
  | _ => true

/-- A power rounded up to a multiple of 50 mW (R362). -/
def up50 (num den : Nat) : Nat := 50 * divUp num (50 * den)

/-- The factor of `I_NOM`² x 70 mΩ in the inrush permit power (R362). -/
def inrushFactor : ChProfile → Nat
  | .lamp => 12
  | .motor => 8
  | .coil => 1
  | .capacitive => 4
  | _ => 0

/-- Inrush permit power in mW: factor x `I_NOM`² x 70 mΩ, `I_NOM` in 0.1 A (R362). -/
def inrushPower (c : ChanCfg) : Nat := up50 (inrushFactor c.profile * 70 * c.iNom ^ 2) 100

/-- The inrush window in ms (R362). -/
def inrushWindow (c : ChanCfg) : Nat :=
  match c.profile with
  | .lamp => 20
  | .motor => 500
  | .coil => c.tWin
  | .capacitive => c.tWin
  | _ => 0

/-- RDS(on) for permit arithmetic, in units of 0.01 mΩ (R360). -/
def rdsOn (tj : Int) : Nat := (4000 + 24 * (tj - 25)).toNat

/-- `I_C` in mA: `I_NOM`, or `D_HOLD` x `I_PULL` for a COIL channel (R364). -/
def condCurrent (c : ChanCfg) : Nat := if c.profile = .coil then c.iNom * c.dHold else c.iNom * 100

/-- Dissipation in mW of a current in mA, not rounded: numerator over 10^8. -/
def dissip (mA : Nat) (tj : Int) : Nat := mA ^ 2 * rdsOn tj

/-- Conduction permit power: rounded up, never below 50 mW (R364). -/
def condPower (c : ChanCfg) (tj : Int) : Nat := max 50 (up50 (dissip (condCurrent c) tj) (10 ^ 8))

/-- An operation's power: the PERMITS section's where it gives one, else the profile's. -/
def overPower (p : PermitCfg) (n : Nat) : Nat := if p.power = 0 then n else p.power

/-- Present a channel's conduction request, standing, with the arrival of its turn-on (R364). -/
def State.askConduction (s : State) (ch : Nat) : State :=
  if s.holds (.conduction ch) || s.asks (.conduction ch) then s
  else
    let p := s.permitCfg .conduction
    let c := s.chan ch
    s.present (.conduction ch) (overPower p (condPower (s.cChan ch) c.tj)) 0 p.prio p.wait c.arrival

/-- Begin a turn-on: ask for the inrush permit, or for the conduction permit where the profile has no window
(R363, R364, R370). The channel waits in PERMIT_WAIT. -/
def State.chkAsk (s : State) (ch duty : Nat) (retry : Bool) : State :=
  let k := s.cChan ch
  let s1 := s.modChan ch (fun c => { c with st := .permitWait, want := true, wantDuty := duty, retrying := retry,
                                            arrival := s.permits.nextArrival, shed := false })
  if windowed k.profile then
    let op : PermitOp := if retry then .retry else if k.safety && k.profile = .coil then .contactor else .turnOn
    let p := s.permitCfg op
    s1.present (if retry then .retry ch else .inrush ch) (overPower p (inrushPower k)) (inrushWindow k) p.prio p.wait
  else
    let p := s.permitCfg (if retry then .retry else .conduction)
    s1.present (.conduction ch) (overPower p (condPower k (s.chan ch).tj)) 0 p.prio p.wait

/-- Give back every permit of a channel, granted or asked (R364). -/
def State.chkRelease (s : State) (ch : Nat) : State :=
  (((s.release (.inrush ch)).release (.retry ch)).release (.conduction ch)).release (.extra ch)

/-- Take a channel out of conduction into a state with a cause; permits go back, no permit is needed (R69, R366). -/
def State.chkStop (s : State) (ch : Nat) (toSt : ChState) (cause : ChCause) : State :=
  (s.chkRelease ch).modChan ch (fun c => { c with st := toSt, cause := cause, duty := 0, pwrOvr := false, retrying := false })

/-- Turn a channel off at its owner's wish. -/
def State.chkOff (s : State) (ch : Nat) : State :=
  (s.chkStop ch .off .owner).modChan ch (fun c => { c with want := false })

/-- The inrush permit is granted: the channel starts conducting in its window (R362, R363). -/
def State.chkInrush (s : State) (ch : Nat) : State :=
  s.modChan ch (fun c => { c with st := .inrush, duty := 1000, permitInrush := inrushPower (s.cChan ch) })

/-- The conduction permit is granted: a channel without a window starts; any other keeps on (R364). -/
def State.chkConduct (s : State) (ch power : Nat) : State :=
  s.modChan ch (fun c =>
    let c1 := { c with permitCond := power, pwrOvr := false }
    if c.st = .permitWait then { c1 with st := .on, duty := c.wantDuty, retrying := false } else c1)

/-- The overload level in mA (R368). -/
def overloadLevel (c : ChanCfg) (first2s : Bool) : Nat :=
  if c.profile = .heater && first2s then c.iNom * 200 else min (c.iNom * 150) 4500

/-- Count a fault of a channel by cause (R376, R377). -/
def Chan.countFault (c : Chan) (cause : ChCause) : Chan :=
  { c with faults := satTo 16383 (c.faults + 1), faultsBy := tset 0 c.faultsBy cause.ctorIdx (satTo 65535 (tget 0 c.faultsBy cause.ctorIdx + 1)) }

/-- Enter LATCHED_OFF (R370). -/
def State.chkLatch (s : State) (ch : Nat) (cause : ChCause) : State := (s.chkStop ch .latchedOff cause).setEvt 0x0D 2

/-- A SHORT or OVERLOAD fault: retry where budget is left, else LATCHED_OFF (R370). -/
def State.chkFault (s : State) (ch : Nat) (cause : ChCause) : State :=
  let s1 := (s.modChan ch (fun c => c.countFault cause)).setEvt 0x0D 0
  if (s.chan ch).left = 0 || (s.cChan ch).safety then s1.chkLatch ch cause else s1.chkStop ch .retryWait cause

/-- A thermal trip enters the thermal latch (R368, R369). -/
def State.chkThermal (s : State) (ch : Nat) (cause : ChCause) : State :=
  (((s.modChan ch (fun c => c.countFault cause)).chkStop ch .thermLatch cause).setEvt 0x0D 1)

/-- A channel that may be shed: conducting, not safety-designated, shed priority above 0 (R364). -/
def State.sheddable (s : State) (ch : Nat) : Bool :=
  chConducts (s.chan ch).st && !(s.cChan ch).safety && decide ((s.cChan ch).shed ≠ 0)

/-- The channel to shed next: highest shed priority, then highest number (R364). -/
def State.shedNext (s : State) : Option Nat :=
  (List.range 32).foldl (fun b ch => if s.sheddable ch then
      match b with
      | none => some ch
      | some a => if (s.cChan ch).shed < (s.cChan a).shed then b else some ch
    else b) none

/-- Shed one channel (R364): it stays off until its owner turns it on again. -/
def State.shedOne (s : State) (ch : Nat) : State :=
  ((s.chkStop ch .off .shed).modChan ch (fun c => { (c.countFault .shed) with want := false, shed := true, dutyHeld := true })).setEvt 0x0D 4

/-- Shed in order until a total computed per channel is at or below a limit (R364, R365). -/
def State.shedUntil (s : State) (limit : Nat) (figure : Nat → Nat) : Nat → Nat → State
  | 0, _ => s
  | n + 1, total =>
    if total ≤ limit then s
    else match s.shedNext with
      | none => s
      | some ch => State.shedUntil (s.shedOne ch) limit figure n (total - figure ch)

/-- A Peavey lane's duty for its channel, in 0.1 % (R350, R361, R363). -/
def State.chkDuty (s : State) (ch d : Nat) : State :=
  let c := s.chan ch
  if !(s.cChan ch).configured || (s.cChan ch).owner ≠ .peavey then s
  else if d = 0 then
    if c.st = .permitWait then (s.chkOff ch).modChan ch (fun c => { c with dutyHeld := false, wantDuty := 0 })
    else s.modChan ch (fun c => { c with duty := 0, wantDuty := 0, dutyHeld := false })
  else if c.st = .on then s.modChan ch (fun c => { c with duty := d, wantDuty := d })
  else if c.st = .off && !c.dutyHeld && s.chk.supply = .normal then s.chkAsk ch d false
  else if c.st = .off then s.modChan ch (fun c => { c with wantDuty := d, want := c.want || !c.dutyHeld })
  else s.modChan ch (fun c => { c with wantDuty := d })

/-- The channel whose current `CHK_SNS` carries: `CHK_SEL` balls or `SEL` (R373). -/
def State.snsSelected (s : State) (balls : Nat) : Nat :=
  if s.chk.snsCfg.getLsbD 0 then (s.chk.snsCfg.toNat / 2) % 32 else balls % 32

/-- The nominal current of `CHK_SNS` in µA: a 4,000th, at most 3.0 mA; 5.0 mA for a fault (R373). -/
def State.snsCurrent (s : State) (balls : Nat) : Nat :=
  let c := s.chan (s.snsSelected balls)
  let stopped := c.st = .retryWait || c.st = .thermLatch || c.st = .latchedOff || c.st = .supplyOff
  if s.chk.snsCfg.getLsbD 6 && stopped then 5000
  else if chConducts c.st then min (c.mA / 4) 3000 else 0

end Sys2Proof.Machine
end

