-- ==== Sys2Proof/Machine/Keys.lean ====
section
/-! DEFINITION. The Key Register, key-update messages and the life cycle (R440 to R455). A key is named by its
identity; a signature verifies when its signer is the identity expected (assumption 3). -/
namespace Sys2Proof.Machine

/-- The class of a slot (R443). -/
def classOf (slot : Nat) : KeyClass :=
  if slot < 16 then .device else if slot < 48 then .metro else if slot < 112 then .transport
  else if slot < 128 then .customer else .session

/-- The first slot of a class and the one after its last (R443). -/
def classRange : KeyClass → Nat × Nat
  | .device => (0, 16)
  | .metro => (16, 48)
  | .transport => (48, 112)
  | .customer => (112, 128)
  | .session => (128, 512)

/-- The usages a class allows, as a mask (R443, R444). -/
def classUsage : KeyClass → BitVec 16
  | .device => 0
  | .metro => 0x01
  | .transport => 0x0E
  | .customer => 0x30
  | .session => 0x40

/-- The class whose allowed usages include every bit of a usage (R448 step 7). -/
def usageClass (u : BitVec 16) : Option KeyClass :=
  [KeyClass.metro, .transport, .customer].find? (fun c => decide (u ≠ 0) && decide (u &&& ~~~ classUsage c = 0))

/-- The length in bits of a key of an algorithm (R444); 0 for an unlisted code. -/
def algBits : Nat → Nat
  | 1 => 128 | 2 => 256 | 3 => 256 | 4 => 384 | 5 => 528 | 6 => 456 | 7 => 448 | 8 => 528 | 9 => 384 | _ => 0

/-- The slots a filled slot's key occupies. -/
def KeySlot.filled (k : KeySlot) : Bool := decide (k.st ≠ .empty)

/-- Whether slot `n` is covered by a key, its own or one that spans it (R443). -/
def State.slotTaken (s : State) (n : Nat) : Bool :=
  (List.range 4).any (fun i => decide (i ≤ n) && (s.slot (n - i)).filled && decide (i < max 1 (s.slot (n - i)).span)
    && decide (classOf (n - i) = classOf n))

/-- The lowest run of `span` empty slots of a class (R447). -/
def State.emptyRun (s : State) (c : KeyClass) (span : Nat) : Option Nat :=
  let r := classRange c
  ((List.range (r.2 - r.1)).map (fun i => r.1 + i)).find? (fun n =>
    decide (n + span ≤ r.2) && (List.range span).all (fun i => !s.slotTaken (n + i)))

/-- A key can serve an operation: its `USAGE` includes it and it is VALID (R444). -/
def State.keyFor (s : State) (slot bit : Nat) : Bool := decide ((s.slot slot).st = .valid) && (s.slot slot).usage.getLsbD bit

/-- METRO keys are VALID in FIELD and LOCKED in every other state (R450). -/
def State.lockMetro (s : State) : State :=
  let toSt : KeySt := if s.key.lc = .field then .valid else .locked
  { s with key := { s.key with slots := tmap {} (fun n (k : KeySlot) => if classOf n = .metro && k.filled then { k with st := toSt } else k) s.key.slots } }

/-- Destroy the keys of the classes a test names (R450). -/
def State.destroy (s : State) (sel : KeyClass → Bool) : State :=
  { s with key := { s.key with slots := tmap {} (fun n (k : KeySlot) => if sel (classOf n) then {} else k) s.key.slots } }

/-- The authority that signs a message of `KIND` 1 or 2 for a class (R446's table). -/
def classAuth : KeyClass → Option Nat
  | .metro => some 1
  | .transport => some 0
  | .customer => some 0
  | _ => none

/-- The class a `KIND` 1 or 2 message addresses: its slot's, or for 0xFFFF the one its `USAGE` names. -/
def msgClass (m : KeyMsg) : Option KeyClass :=
  if m.slot = 0xFFFF then (if m.kind = 1 then usageClass m.usage else none)
  else if m.slot < 512 then some (classOf m.slot) else none

/-- Whether an authority may sign a message (the table of authorities, R446). A class that cannot be told leaves
the message to the range check. -/
def authMay (m : KeyMsg) : Bool :=
  if m.kind = 1 || m.kind = 2 then
    match msgClass m with
    | some c => decide (classAuth c = some m.auth)
    | none => decide (m.auth ≤ 1)
  else if m.kind = 3 || m.kind = 6 then decide (m.auth = 0)
  else if m.kind = 4 then decide (m.auth ≤ 2)
  else if m.kind = 5 then (decide (m.auth = 0) && (decide (m.num = 2) || decide (m.num = 4))) || (decide (m.auth = 2) && (decide (m.num = 2) || decide (m.num = 3)))
    || (decide (4 < m.num) && (decide (m.auth = 0) || decide (m.auth = 2)))
  else if 16 ≤ m.kind && m.kind ≤ 18 then decide (m.auth = 1)
  else if m.kind = 19 || m.kind = 20 then decide (m.auth = 2)
  else false

/-- Whether a message's fields are in range (R448 step 7). -/
def msgInRange (m : KeyMsg) : Bool :=
  if !m.bodyOk then false
  else if m.kind = 1 then
    let span := decide (1 ≤ m.span) && decide (m.span ≤ 4) && decide (m.keyBits ≤ 512 * m.span)
    let alg := decide (algBits m.alg ≠ 0) && decide (algBits m.alg = m.keyBits)
    match msgClass m with
    | some c =>
      let r := classRange c
      span && alg && decide (m.usage &&& ~~~ classUsage c = 0) &&
        (decide (m.slot = 0xFFFF) || (decide (r.1 ≤ m.slot) && decide (m.slot + m.span ≤ r.2)))
    | none => false
  else if m.span ≠ 0 || m.alg ≠ 0 then false
  else if m.kind = 2 then decide (m.slot < 512)
  else if m.kind = 3 then decide (m.slot < 8) && (decide (m.op = 1) || decide (m.op = 2))
  else if m.kind = 5 then decide (m.slot = 0xFFFF) && decide (m.num ≤ 4)
  else decide (m.slot = 0xFFFF)

/-- The checks of R448 in order for a command that accepts the kinds `kinds` in the life-cycle states `lcs`.
Answers the status of the first failing one. -/
def State.checkMsg (s : State) (m : KeyMsg) (kinds : List Nat) (lcs : List Lc) : Option Status :=
  let k := tget 0 s.key.authKeys m.auth
  if m.ver ≠ 1 then some .version
  else if m.devId ≠ s.key.devId then some .auth
  else if k = 0 || !authMay m then some .auth
  else if m.signer ≠ k then some .auth
  else if m.ctr ≤ tget 0 s.key.authCtrs m.auth then some .auth
  else if !lcs.contains s.key.lc then some .locked
  else if !kinds.contains m.kind || !msgInRange m then some .range
  else if m.kind = 1 && m.slot = 0xFFFF && (match msgClass m with | some c => (s.emptyRun c m.span).isNone | none => false) then some .nospace
  else if m.kind = 1 && !m.unwrapOk then some .auth
  else none

/-- An accepted message stores its `CTR` as the authority's counter (R448) and sets MSG_OK (R456). -/
def State.storeCtr (s : State) (m : KeyMsg) : State :=
  ({ s with key := { s.key with authCtrs := tset 0 s.key.authCtrs m.auth m.ctr } }).setEvt 0x11 0

/-- A key-update message is refused: only MSG_REJ is set (R448, R456). -/
def msgRej (s : State) (st : Status) (detail : Nat := 0) : Answer :=
  .done { st := s.setEvt 0x11 1, status := st, detail := detail, keep := true }

/-- A session context is allocated (R450, R481). -/
def State.anyContext (s : State) : Bool := s.vlk.ctxs.any (fun p => p.2.st ≠ .free)

/-- A contactor is closed: a coil channel K1, K2 or K3 of a bay conducts (assumption 22). -/
def State.contactorClosed (s : State) : Bool :=
  s.img.bays.any (fun p => p.2.enabled &&
    (chConducts (s.chan p.2.chK1).st || chConducts (s.chan p.2.chK2).st || chConducts (s.chan p.2.chK3).st))

/-- Whether a transition is one of R450's, by the authority that makes it (3 stands for KEY_LC_ADVANCE). -/
def lcMove (a b : Lc) (by_ : Nat) : Bool :=
  match a, b with
  | .manufacture, .personalised => decide (by_ = 3)
  | .personalised, .field => decide (by_ = 0)
  | .field, .service => decide (by_ = 2)
  | .service, .field => decide (by_ = 2)
  | .manufacture, .scrapped => decide (by_ = 0) || decide (by_ = 3)
  | .scrapped, .scrapped => false
  | _, .scrapped => decide (by_ = 0)
  | _, _ => false

/-- A transition's preconditions (R450). -/
def State.lcReady (s : State) (b : Lc) : Bool :=
  match b with
  | .personalised => (List.range 3).all (fun a => decide (tget 0 s.key.authKeys a ≠ 0)) && !s.key.imgKeys.isEmpty
  | .field => if s.key.lc = .service then !s.anyContext && !s.contactorClosed
      else s.key.slots.any (fun p => decide (classOf p.1 = .metro) && p.2.filled)
  | _ => !s.anyContext && !s.contactorClosed

/-- The state with a code (R456). -/
def lcOf : Nat → Lc
  | 0 => .manufacture
  | 1 => .personalised
  | 2 => .field
  | 3 => .service
  | _ => .scrapped

/-- The destructions and locks of the state now in force; they clear the pending-destruction flag (R450, R451). -/
def State.lcEffects (s : State) (from_ : Lc) : State :=
  let s1 := match s.key.lc with
    | .service => if from_ = Lc.field then s.destroy (fun c => decide (c = KeyClass.session) || decide (c = KeyClass.customer)) else s
    | .scrapped => { s with key := { (s.destroy (fun _ => true)).key with authKeys := [], authCtrs := [], imgKeys := [], imgRevoked := [], chains := [], helperA := false, helperB := false } }
    | _ => s
  let s2 := s1.lockMetro
  let s3 := { s2 with key := { s2.key with pendDestr := false } }
  if s.key.lc = .field then s3.signLate else s3

/-- Make a transition: its legal-log entry first (but to SCRAPPED), then the state, then its effects (R451). -/
def State.lcTransition (s : State) (b : Lc) (ctr : Nat) : State :=
  let s1 := if b = .scrapped then s else s.legalChange 6 (le 1 s.key.lc.ctorIdx ++ le 1 b.ctorIdx ++ le 8 ctr)
  let s2 := { s1 with key := { s1.key with lc := b, pendDestr := true } }
  (s2.lcEffects s.key.lc).setEvt 0x11 2

/-- The first slots of the keys that lie in a run of slots, wholly or in part (R443). -/
def State.headsIn (s : State) (slot span : Nat) : List Nat :=
  ((List.range (span + 3)).map (fun i => slot + i - 3)).filter (fun h => (s.slot h).filled && decide (classOf h = classOf slot)
    && decide (h < slot + span) && decide (slot < h + max 1 (s.slot h).span))

/-- Install a key in its slot, removing keys and the chain it replaces (R445, R449, R455). -/
def State.installKey (s : State) (m : KeyMsg) (slot : Nat) : State :=
  let st : KeySt := if classOf slot = .metro && s.key.lc ≠ .field then .locked else .valid
  let k : KeySlot := { st := st, alg := m.alg, span := m.span, usage := m.usage, label := m.label, ctr := m.ctr, key := m.keyId }
  let cleared := (s.headsIn slot m.span).foldl (fun t h => tset {} t h ({} : KeySlot)) s.key.slots
  { s with key := { s.key with slots := tset {} cleared slot k, chains := (s.headsIn slot m.span).foldl (fun t h => tset {} t h ({} : Chain)) s.key.chains } }

/-- The slot a KEY_INSTALL takes (R447). -/
def State.installSlot (s : State) (m : KeyMsg) : Nat :=
  if m.slot = 0xFFFF then (match msgClass m with | some c => (s.emptyRun c m.span).getD m.slot | none => m.slot) else m.slot

/-- The slot of a message addresses METRO keys. -/
def State.metroMsg (s : State) (m : KeyMsg) : Bool :=
  (decide (m.kind = 1) && decide (classOf (s.installSlot m) = .metro)) || (decide (m.kind = 2) && decide (classOf m.slot = .metro))

/-- The DEVICE keys derived at a start (R442). -/
def deviceKeys (devId : Nat) (t : Tab KeySlot) : Tab KeySlot :=
  let mk (alg i : Nat) : KeySlot := { st := .valid, alg := alg, span := 1, key := Config.deviceKey devId i }
  tset {} (tset {} (tset {} t 0 (mk 9 0)) 1 (mk 4 1)) 2 (mk 2 2)

/-- What the helper data yields at a start: the copy used (`true` = A, tried first) and the most errors corrected in a
block; none where neither copy gives the root secret: at most 24 errors of a 128-bit block are corrected (R440, R441). -/
def Key.puf (k : Key) (env : BootEnv) : Option (Bool × Nat) :=
  if k.helperA && env.pufA ≤ 24 then some (true, env.pufA) else if k.helperB && env.pufB ≤ 24 then some (false, env.pufB) else none

/-- What the debug port and boundary scan can use (R453). -/
inductive DebugUse | scan | extest | appCore | engine
deriving DecidableEq, Repr

/-- Debug access in the present life-cycle state; `scan` is IDCODE, BYPASS and SAMPLE/PRELOAD, `engine` the debug of SEC,
Spar, Scaler, Tally and Skidline DSP. A halt of an application core has no effect on the engines (R453). -/
def State.debugOpen (s : State) (u : DebugUse) : Bool :=
  match u with
  | .scan => true
  | .extest => decide (s.key.lc = .manufacture) || decide (s.key.lc = .scrapped)
  | .appCore => decide (s.key.lc = .manufacture) || (decide (s.key.lc ≠ .scrapped) && s.key.dbgAc)
  | .engine => decide (s.key.lc = .manufacture)

/-- The performance counters, which only the debug port reads: the FAB clock's cycles and Skidder's octets, a free value (R488). -/
def State.perf (s : State) : Option (BitVec 48 × BitVec 48) :=
  if s.debugOpen .appCore then some (s.sys.fabCycles, Config.skidBytes s.sys.fabCycles.toNat) else none

/-- The octets of a public value in an algorithm (R444): X ‖ Y of a curve point, or the point's encoding. -/
def pubLen (alg : Nat) : Nat :=
  if alg = 3 then 64 else if alg = 4 || alg = 9 then 96 else if alg = 5 || alg = 8 then 132 else if alg = 6 then 57 else if alg = 7 then 56 else 0

/-- The slot attributes of KEY_SLOT_INFO: class, algorithm, span, usage, state, label and counter, then the first
8 octets of SHA-256 over the public value, 0 for a symmetric key (R444, R457; the packing is assumption 23). -/
def slotInfo (n : Nat) (k : KeySlot) : List Byte :=
  let sym := decide (k.alg = 1) || decide (k.alg = 2) || decide (k.st = .empty)
  le 1 (classOf n).ctorIdx ++ le 1 k.alg ++ le 1 k.span ++ le 1 k.st.ctorIdx ++ le 2 k.usage.toNat ++ le 4 k.label.toNat
    ++ le 8 k.ctr ++ (if sym then le 8 0 else (List.range 8).map (fun i => Config.sha256 ((List.range (pubLen k.alg)).map (fun j => Config.pubByte k.key j)) i))

/-- `n` octets of a key's public value. -/
def pubBytes (k n : Nat) : List Byte := (List.range n).map (fun i => Config.pubByte k i)

end Sys2Proof.Machine
end

