-- ==== Sys2Proof/Machine/Stand.lean ====
section
/-! DEFINITION. The Stand Table engine (R103 to R112): updates, the timeout of a point, what a consumer reads,
publication, and the entry's octets. -/
namespace Sys2Proof.Machine

/-- A binary64's place in the order of numbers; both zeros at 0. -/
def f64Key (x : DWord) : Int :=
  let m : Int := (x.toNat % 2 ^ 63 : Nat)
  if x.getLsbD 63 then -m else m

/-- `a < b` in a point's type; false where a NaN takes part (R104, R106, R517). -/
def ptLess (t : PtType) (a b : DWord) : Bool :=
  match t with
  | .int64 => decide (a.toInt < b.toInt)
  | .float64 => !fpIsNan 11 52 a.toNat && !fpIsNan 11 52 b.toNat && decide (f64Key a < f64Key b)
  | .enum => decide (a.toNat % 2 ^ 32 < b.toNat % 2 ^ 32)
  | _ => false

/-- The number a value stands for, where it stands for a finite one. -/
def ptNum (t : PtType) (v : DWord) : Option Rat :=
  match t with
  | .int64 => some (v.toInt : Rat)
  | .float64 => f64 v
  | .bool => some ((v.toNat % 2 : Nat) : Rat)
  | .enum => some ((v.toNat % 2 ^ 32 : Nat) : Rat)
  | .raw => some ((v.toNat : Nat) : Rat)

/-- The pattern of a number in a point's type; outside an integer type's range a free value (R106). -/
def ptPattern (t : PtType) (q : Rat) : DWord :=
  match t with
  | .float64 => toF64 q
  | .int64 => if -(2 ^ 63 : Int) ≤ ratRound q ∧ ratRound q < 2 ^ 63 then BitVec.ofInt 64 (ratRound q) else Config.offFormat (ratRound q) 0
  | .bool => if q = 0 then 0 else 1
  | _ => BitVec.ofInt 64 (ratRound q)

/-- The range check of R106, for the types R104 names. -/
def outOfRange (c : PtCfg) (x : DWord) : Bool := ptLess c.typ x c.min || ptLess c.typ c.max x

/-- Nanoseconds from one stamp to another. -/
def nsBetween (a b : Stamp) : Int := b.toNs - a.toNs

/-- The rate check of R106, for INT64 and FLOAT64 points: |x - VALUE| / Δt > RATE. An infinity against a number
exceeds every rate. -/
def tooFast (c : PtCfg) (v : PtVal) (x : DWord) (t : Stamp) : Bool :=
  if f32z c.rate = 0 || v.qual = .uninit || !(c.typ = .int64 || c.typ = .float64) then false
  else match ptNum c.typ x, ptNum c.typ v.value with
    | some a, some b => decide (f32z c.rate * (nsBetween v.stamp t : Rat) < ratAbs (a - b) * 1000000000)
    | _, _ => !fpIsNan 11 52 x.toNat && !fpIsNan 11 52 v.value.toNat && decide (x ≠ v.value)

/-- A binary64 NaN whose payload is free: R103's format names none for a result. -/
def freeNan (a b : DWord) : DWord := 0x7FF8000000000000 ||| (Config.offFormat a.toInt b.toInt &&& 0x0007FFFFFFFFFFFF)

/-- The first-order low-pass of R106, exact and rounded once (assumption 8). By binary64's rules an infinite raw value on a
finite one gives that infinity, and every other case with an infinity or a NaN gives a NaN (R103). -/
def lowPass (tau : Nat) (v : PtVal) (x : DWord) (t : Stamp) : DWord :=
  match f64 x, f64 v.value with
  | some a, some b =>
    let dt : Rat := (nsBetween v.stamp t : Rat) / 1000000
    toF64 (b + (a - b) * dt / ((tau : Rat) + dt))
  | none, some _ => if fpIsNan 11 52 x.toNat then freeNan x v.value else x
  | _, _ => freeNan x v.value

/-- One update of a point under R106, and whether it was stale. -/
def ptStep (c : PtCfg) (v : PtVal) (x : DWord) (t : Stamp) (bad : Bool) : PtVal × Bool :=
  if v.qual ≠ .uninit && decide (t.toNs ≤ v.stamp.toNs) then (v, true)
  else
    let v1 := { v with updCtr := v.updCtr + 1 }
    if bad then ({ v1 with qual := .source }, false)
    else if outOfRange c x then ({ v1 with qual := .range }, false)
    else if tooFast c v x t then ({ v1 with qual := .rate }, false)
    else
      let value := if c.filter = 1 && c.typ = .float64 && v.qual = .good then lowPass c.tau v x t else x
      ({ v1 with value := value, stamp := t, qual := .good }, false)

/-- The 64 octets of an entry (R103). -/
def entryBytes (c : PtCfg) (v : PtVal) (srcKind srcAddr : Nat) : List Byte :=
  le 8 v.value.toNat ++ le 8 c.safe.toNat ++ le 8 c.min.toNat ++ le 8 c.max.toNat ++ le 8 v.stamp.pack
    ++ le 4 v.updCtr.toNat ++ le 4 (srcKind + 256 * srcAddr) ++ le 4 c.rate.toNat ++ le 2 c.timeout
    ++ le 2 (c.filter + 4 * c.tau) ++ le 2 (c.pub + 4 * c.period) ++ le 1 v.qual.code
    ++ le 1 (c.typ.ctorIdx + 8 * c.safetyPt.toNat) ++ le 4 c.deadband.toNat

/-- The address of an entry in DRAM (R103). -/
def ptAddr (n : Nat) : Nat := 0x0800000000 + 64 * n

/-- The global ID of a local point (R24): device number above 20 bits. -/
def State.globalId (s : State) (n : Nat) : Nat := s.devNum * 2 ^ 20 + n

/-- Whether a global ID names this device, and its point number. -/
def State.isLocal (s : State) (gid : Nat) : Bool := decide (gid / 2 ^ 20 = s.devNum)
def localPt (gid : Nat) : Nat := gid % 2 ^ 20

/-- The entry that stands for a global ID here: the point, or its shadow (R111). -/
def State.entryOf (s : State) (gid : Nat) : Point :=
  if s.isLocal gid then (if localPt gid < s.lnd.points then s.point (localPt gid) else {}) else s.shadow gid

/-- Whether a consumer takes a point as INVALID (R105, R108). -/
def State.invalid (s : State) (gid : Nat) : Bool := decide ((s.entryOf gid).val.qual ≠ .good)

/-- What a consumer uses: `VALUE`, or `SAFE` while the point is INVALID (R108). -/
def State.consumed (s : State) (gid : Nat) : Rat :=
  let e := s.entryOf gid
  (ptNum e.cfg.typ (if e.val.qual = .good then e.val.value else e.cfg.safe)).getD 0

/-! ### The points the image names, and the cache -/

/-- An optional global ID as a list. -/
def optPt (o : Option Nat) : List Nat := match o with | some g => [g] | none => []

/-- The points that an input of a lane consumes. -/
def inPt (x : LaneIn) : List Nat := if x.kind = 1 then [x.point] else []

/-- The global IDs that Yarder, Peavey, Choker and the Hinge publication consume (R109). -/
def enginePts (c : ImageContent) : List Nat :=
  c.yarder.nodes.foldl (fun l p => l ++ optPt p.2.limitPt ++ optPt p.2.availPt ++ optPt p.2.basePt ++ optPt p.2.socPt) []
    ++ c.bays.foldl (fun l p => l ++ optPt p.2.limitPt) []
    ++ c.lanes.foldl (fun l p => l ++ inPt p.2.inA ++ inPt p.2.inB ++ inPt p.2.inC) [] ++ c.chkPts ++ c.hingePts

/-- Every global ID that the image names as an input or a target of an engine (R518). -/
def namedPoints (c : ImageContent) : List Nat :=
  enginePts c ++ c.lanes.foldl (fun l p => if p.2.outKind = 1 then l ++ [p.2.outPt] else l) []
    ++ c.metro.bays.foldl (fun l p => l ++ optPt p.2.ptV ++ optPt p.2.ptI ++ optPt p.2.ptP) []
    ++ optPt c.metro.demandImp ++ optPt c.metro.demandExp
    ++ c.brand.panels.foldl (fun l p => if p.2.used then l ++ [p.2.tempPt] else l) []

/-- The local points that the cache pins: those the engines consume, those the STAND section marks, and every SAFETY point
(R109). -/
def pinnedPts (c : ImageContent) : List Nat :=
  let own := ((enginePts c).filter (fun g => decide (g / 2 ^ 20 = c.struct_.devNum))).map localPt
  let listed := (c.stand.cfg.filter (fun p => p.2.pinned || p.2.safetyPt)).map (fun p => p.1)
  tkeys (tofList 0 ((own ++ listed).map (fun n => (n, 1))))

/-- MRAM or DRAM lines written in full are good again (R480). -/
def State.lineWritten (s : State) (mram : Bool) (a n : Nat) : State :=
  { s with crs := { s.crs with uncorrLines := s.crs.uncorrLines.filter (fun l => !(l.1 == mram && decide (a ≤ l.2) && decide (l.2 + 32 ≤ a + n))) } }

/-- A dirty entry goes to DRAM (R103, R109). -/
def State.writeBack (s : State) (n : Nat) : State :=
  let p := s.point n
  if p.dirty then
    ((s.writeMem (ptAddr n) (entryBytes p.cfg p.val p.cfg.srcKind p.cfg.srcAddr)).lineWritten false (ptAddr n) 64).setPoint n { p with dirty := false }
  else s

/-- A local entry is used: it enters the cache as the most recent, and of the 16,384 entries the least recently used one
that is not pinned is replaced, written back where it is dirty (R109). -/
def State.touch (s : State) (n : Nat) : State :=
  let pins := pinnedPts s.img
  if pins.contains n then s
  else
    let l := n :: s.lnd.cache.filter (fun k => k ≠ n)
    let room := 16384 - pins.length
    let s1 := (l.drop room).foldl (fun (a : State) k => a.writeBack k) s
    { s1 with lnd := { s1.lnd with cache := l.take room } }

/-- The cache holds a local entry (R109). -/
def State.cached (s : State) (n : Nat) : Bool := (pinnedPts s.img).contains n || s.lnd.cache.contains n

/-- A device keeps a shadow of a remote point that an engine consumes or a subscription names (R111). -/
def State.shadowed (s : State) (gid : Nat) : Bool :=
  (namedPoints s.img).contains gid || s.lnd.subs.any (fun p => p.2.used && decide (p.2.first ≤ gid) && decide (gid ≤ p.2.last))

/-! ### Publication -/

/-- Every device but its sender passes a ring frame on unchanged (R19, R22). -/
def State.passOn (s : State) (own : Bool) (f : RingFrame) : State :=
  if s.awake && s.img.stack.present && !own && (s.net.boom0 || s.net.boom1) then s.send (.boomForward f) else s

/-- Deliver a publication to one subscription: a full ring drops and counts it, and the next entry delivered
carries the drops with kind 0xFF (R112). Whether the ring is full is a free value: the spec gives software no index (assumption 9). -/
def State.deliver (s : State) (h gid : Nat) (p : Point) : State :=
  let u := s.sub h
  if !u.used || decide (gid < u.first) || decide (u.last < gid) then s
  else
    let d := s.draw
    if Config.freeBit d.1 then ((d.2.setSub h { u with drops := u.drops + 1 }).setEvt 0x02 1)
    else
      let src := if u.drops = 0 then (p.cfg.srcKind, p.cfg.srcAddr) else (0xFF, u.drops)
      let place := u.off + 64 * (u.count % max 1 (u.len / 64))
      (d.2.writeGen place (entryBytes p.cfg p.val src.1 src.2)).setSub h { u with count := u.count + 1, drops := 0 }

/-- Publish a point with its whole entry: to the subscriptions, and for a point of its own over Boom and, from the active
master of a pair, to the standby's mirror (R22, R27, R110). -/
def State.publish (s : State) (gid : Nat) (p : Point) : State :=
  let s1 := (List.range 16).foldl (fun a h => a.deliver h gid p) s
  if s.ringTalks && s.isLocal gid then
    let s2 := s1.send (.boomPoint gid p.cfg p.val)
    if s.net.pair = .active then s2.send (.boomMirror { kind := 1, points := [(localPt gid, p.val)] }) else s2
  else s1

/-- Publish a local point and take what was sent as its last published content (R110). -/
def State.publishOwn (s : State) (n : Nat) : State :=
  let p := s.point n
  (s.setPoint n { p with pubValue := p.val.value, pubQual := p.val.qual, pubDue := false }).publish (s.globalId n) p

/-- Whether a point publishes on change now (R110). -/
def changed (p : Point) : Bool :=
  decide (p.val.qual ≠ p.pubQual) ||
  match ptNum p.cfg.typ p.val.value, ptNum p.cfg.typ p.pubValue with
  | some a, some b => decide (f32z p.cfg.deadband < ratAbs (a - b))
  | _, _ => decide (p.val.value ≠ p.pubValue)

/-- Whether an open entry takes the site's demand (R259): channel 16 stands for the site itself (R262). -/
def siteEntry (s : State) (ch dir : Nat) : Bool :=
  (decide (ch = 16) && decide (dir = 0)) || decide ((tget (0, 0) s.img.metro.profiles ch).1 = 3 + dir)

/-- The open entries of the site's demand in a direction carry CATCH_UP (R265). -/
def State.catchMark (s : State) (dir : Nat) : State :=
  { s with tly := { s.tly with opened := tmap {} (fun ch e => if siteEntry s ch dir then { e with flags := e.flags ||| 0x800 } else e) s.tly.opened } }

/-- The tariff in force at a time stamp (R251, R272). -/
def State.tariffAt (s : State) (t : Stamp) : Nat := if t.toNs < s.tly.tariffSince.toNs then s.tly.tariffPrev else s.tly.tariff

/-- An increase of the site's energy in a direction joins the tariff in force at its time (R251). -/
def State.siteAdd (s : State) (dir inc : Nat) (t : Stamp) : State :=
  { s with tly := { s.tly with siteInc := tadd s.tly.siteInc (8 * dir + s.tariffAt t) inc } }

/-- An accepted value of a demand counter: its increase joins the site's energy; a decrease is ignored (the last accepted
value stands, assumption 49) and sets DEMAND_INV; the first increase after an invalid time marks the open entry CATCH_UP
(R251, R265). -/
def State.demandTake (s : State) (dir : Nat) (last : Option Nat) (v : DWord) (t : Stamp) : State :=
  let x := v.toInt.toNat
  let l := last.getD x
  let s1 := s.siteAdd dir (x - l) t
  let mark := s.tly.catchDue && decide (l < x) && decide (dir = 0)
  let s2 := if mark then s1.catchMark dir else s1
  let s3 := { s2 with tly := { s2.tly with catchDue := s.tly.catchDue && !mark, demandLast := if dir = 0 then some (max l x) else s.tly.demandLast,
                                           demandLastExp := if dir = 0 then s.tly.demandLastExp else some (max l x) } }
  s3.setEvtIf (decide (x < l)) 0x08 7

/-- Sum mode: a stack member's bay registers join the site's energy by their increase; after data that was missing for more
than 2 s the entry carries CATCH_UP (R251, R265, assumption 49). -/
def State.memberTake (s : State) (dev bay imp exp : Nat) (t : Stamp) : State :=
  let k := 32 * dev + 4 * bay
  let known := s.tly.memberAt.any (fun p => p.1 = k)
  let late := known && decide (2000000000 < nsBetween (tget {} s.tly.memberAt k) t)
  let di := if known then imp - tget 0 s.tly.members k else 0
  let de := if known then exp - tget 0 s.tly.members (k + 1) else 0
  let s1 := (s.siteAdd 0 di t).siteAdd 1 de t
  let s2 := if late then (s1.catchMark 0).catchMark 1 else s1
  { s2 with tly := { s2.tly with members := tset 0 (tset 0 s.tly.members k imp) (k + 1) exp, memberAt := tset {} s.tly.memberAt k t } }

/-- Show an accepted value to Tally where METROMAP names its point as a demand counter (R251). -/
def State.demandSeen (s : State) (gid : Nat) (v : DWord) (t : Stamp) : State :=
  let s1 := if s.img.metro.demandImp = some gid then s.demandTake 0 s.tly.demandLast v t else s
  if s.img.metro.demandExp = some gid then s1.demandTake 1 s.tly.demandLastExp v t else s1

/-- A point publishes on change (R110). -/
def onChange (c : PtCfg) : Bool := decide (c.pub = 1) || decide (c.pub = 3)

/-- Store a point's new content, with the events and the publication on change that follow; a second change within the
millisecond waits for its end (R105, R110). -/
def State.storePoint (s : State) (n : Nat) (old new : Point) : State :=
  let p := { new with dirty := true }
  let s1 := (s.setEvtIf (decide (old.val.qual = .good) && decide (p.val.qual ≠ .good)) 0x02 3).touch n
  if onChange p.cfg && changed p then
    (if p.pubHeld then s1.setPoint n { p with pubDue := true } else (s1.setPoint n { p with pubHeld := true }).publishOwn n)
  else s1.setPoint n p

/-- A millisecond ends: what changed again within it publishes now with the latest content (R110). -/
def State.pubNext (s : State) (n : Nat) : State :=
  let p := s.point n
  if p.pubDue && changed p then s.publishOwn n
  else if p.pubHeld || p.pubDue then s.setPoint n { p with pubHeld := false, pubDue := false } else s

/-- An update of a local point (R106). Before step 6, and beyond the table, it is discarded. -/
def State.ptUpdate (s : State) (n : Nat) (x : DWord) (t : Stamp) (bad : Bool) : State :=
  if s.lnd.points ≤ n then s
  else
    let p := s.point n
    let r := ptStep p.cfg p.val x t bad
    if r.2 then s.setEvt 0x02 2
    else
      let s1 := s.storePoint n p { p with val := r.1, accepted := p.accepted || decide (r.1.qual = .good) }
      if r.1.qual = .good then s1.demandSeen (s.globalId n) r.1.value t else s1

/-- The sweep's verdict on one point (R107). -/
def timedOut (p : Point) (now : Stamp) : Bool :=
  decide (p.cfg.timeout ≠ 0) && p.accepted && decide (p.val.qual ≠ .timeout) &&
  decide ((p.cfg.timeout : Int) * 1000000 < nsBetween p.val.stamp now)

/-- A swept point (R107). -/
def sweepPoint (p : Point) : Point := { p with val := { p.val with qual := .timeout, updCtr := p.val.updCtr + 1 } }

/-- A moment later: a nanosecond passes, short of the next 10 ms boundary (assumption 5). -/
def State.later (s : State) : State :=
  if (s.tim.ns + 1) % 10000000 = 0 then s else { s with tim := { s.tim with ns := s.tim.ns + 1 } }

/-- An update that arrives now (R106). -/
def State.ptArrive (s : State) (n : Nat) (x : DWord) (bad : Bool) : State := s.later.ptUpdate n x s.later.now bad

/-- An engine's value for a point target: an update of source kind 0 stamped with the present time (R350). -/
def State.engineUpdate (s : State) (gid : Nat) (q : Rat) (bad : Bool) : State :=
  if s.isLocal gid then s.ptArrive (localPt gid) (ptPattern (s.point (localPt gid)).cfg.typ q) bad
  else if s.ringTalks then s.send (.boomUpdate gid (toF64 q) bad) else s

end Sys2Proof.Machine
end

