-- ==== Sys2Proof/Machine/Wire.lean ====
section
/-! DEFINITION. The octets of Thoqua's own frames, all big-endian (R11): Hinge (R215, R331, R335, R336), Skidline down to
its tones (R380 to R385, R394, R395) and the satellite tunnel (R190, R191); a vehicle's link-local address (R174); and a
command descriptor (R114), which is little-endian (R10). -/
namespace Sys2Proof

/-- A signed value in `n` octets, two's complement, big-endian. -/
def beInt (n : Nat) (v : Int) : List Byte := (leInt n v).reverse

/-! ### Hinge -/

/-- `BAY_REF`: [15:13] device number, [12] bridged, [7:0] bay number (R198). -/
def bayRef (dev : Nat) (bridged : Bool) (bay : Nat) : Nat := dev % 8 * 8192 + bridged.toNat * 4096 + bay % 256

/-- The octets of a payload (R336). -/
def payLen : HPay → Nat
  | .request _ _ _ _ _ _ _ _ _ _ => 21
  | .setpoint _ _ _ _ _ _ => 20
  | .module _ _ _ _ _ _ => 20
  | .reading _ _ _ => 64
  | .step _ _ _ _ _ _ _ _ _ => 24
  | .signals _ _ => 9
  | .malformed => 65

/-- A payload as it stands in a frame (R215, R336). -/
def HPay.octets : HPay → List Byte
  | .request dev br bay sess iReq vOut limit iMeas inv exp =>
    be 1 1 ++ be 1 sess ++ be 2 (bayRef dev br bay) ++ be 4 iReq ++ be 4 vOut ++ be 4 limit ++ be 4 iMeas ++ be 1 (inv.toNat + 2 * exp.toNat)
  | .setpoint dev br bay cycle iSet pSet => be 1 2 ++ be 1 0 ++ be 2 (bayRef dev br bay) ++ be 4 cycle.toNat ++ be 4 iSet ++ be 4 pSet ++ be 4 0
  | .module cmd node cycle iSet vTgt outlet => be 1 3 ++ be 1 cmd ++ be 2 node ++ be 4 cycle.toNat ++ be 4 iSet ++ be 4 vTgt ++ be 4 outlet
  | .reading idx last _ => be 1 4 ++ be 1 (16 * idx + last) ++ (List.range 62).map (Config.readingByte idx)
  | .step bb st result cause uTgt vMeas iMeas rF fb =>
    be 1 5 ++ be 1 bb ++ be 1 st ++ be 1 result ++ be 1 cause ++ be 3 0 ++ be 4 uTgt ++ be 4 vMeas ++ beInt 4 iMeas ++ be 2 rF ++ be 1 fb ++ be 1 0
  | .signals state valid => be 1 16 ++ be 4 state.toNat ++ be 4 valid.toNat
  | .malformed => []

/-- The payload of a frame of a type: payloads back to back; for CONNECT the versions, the initial `SEQ` and the period;
for CONNECT_ACK the version selected and the connection acknowledged (R335). -/
def HFrame.payload (kind : Nat) (f : HFrame) : List Byte :=
  if kind = 0 then f.pays.foldl (fun l p => l ++ p.octets) []
  else if kind = 1 then be 1 f.verLo ++ be 1 f.verHi ++ be 2 f.initSeq.toNat ++ be 2 f.texp
  else be 1 f.verLo ++ be 4 f.ackId

/-- A Hinge frame up to its CRC, and whole (R331). -/
def HFrame.body (kind : Nat) (f : HFrame) : List Byte :=
  let p := f.payload kind
  be 1 (16 * f.version + kind) ++ be 1 p.length ++ be 4 f.connId ++ be 2 f.seq.toNat ++ be 2 f.texp ++ p

def HFrame.octets (kind : Nat) (f : HFrame) : List Byte := f.body kind ++ be 4 (crc32c (f.body kind)).toNat

/-! ### Skidline -/

/-- The transmit and receive address of everybody (R385). -/
def everyone : Nat := 0xFFFF

/-- The payload of a frame (R385, R394). -/
def SFrame.body (f : SFrame) : List Byte :=
  let r := f.route
  match f.typ with
  | .data => be 1 f.proto ++ (match f.hinge with | some h => h.octets f.hKind | none => f.payload)
  | .ack => be 4 f.ackCtr
  | .route => be 2 r.parent ++ be 1 r.hops ++ be 2 r.cost ++ be 1 r.verLo ++ be 1 r.verHi ++ be 1 r.nextEpoch ++ be 8 r.actTime ++ be 1 r.entries.length
      ++ r.entries.foldl (fun l e => l ++ be 3 (e.1 % 4096 * 4096 + e.2.1 % 256 * 16 + e.2.2 % 16)) []
  | .path => be 2 r.parent ++ be 1 r.hops ++ be 2 r.cost ++ be 1 r.verLo ++ be 1 r.verHi ++ be 1 r.nbrs

/-- The payload's length, without laying it out. -/
def SFrame.bodyLen (f : SFrame) : Nat :=
  match f.typ with
  | .data => 1 + (match f.hinge with
    | some h => 14 + (if f.hKind = 0 then h.pays.foldl (fun n p => n + payLen p) 0 else if f.hKind = 1 then 6 else 5)
    | none => f.payload.length)
  | .ack => 4
  | .route => 17 + 3 * f.route.entries.length
  | .path => 8

/-- Blocks of a frame: what holds header, payload and tag; in band plan C a ROUTE frame always has two, a PATH or ACK
frame one (R381, R385, R394). -/
def SFrame.blocks (planW : Bool) (f : SFrame) : Nat := if !planW && decide (f.typ = .route) then 2 else divUp (f.bodyLen + 30) 96

/-- The 22 octets of the header (R385). -/
def SFrame.header (f : SFrame) : List Byte :=
  be 1 (16 * f.ver + f.typ.ctorIdx) ++ be 1 (f.cls.ctorIdx + 4 * f.ackReq.toNat + 8 * f.noFwd.toNat) ++ be 2 f.domain ++ be 2 f.src ++ be 2 f.dst
    ++ be 2 f.orig ++ be 2 f.final ++ be 2 f.mseq ++ be 1 f.hops ++ be 1 f.epoch ++ be 4 f.ctr ++ be 2 f.bodyLen

/-- The nonce: `DOMAIN`, `SRC_LINK`, `DST_LINK`, `CTR`, `EPOCH` and two zero octets (R395). -/
def SFrame.nonce (f : SFrame) : List Byte := be 2 f.domain ++ be 2 f.src ++ be 2 f.dst ++ be 4 f.ctr ++ be 1 f.epoch ++ be 2 0

/-- The data of all blocks: header, payload encrypted with its 8-octet tag, zeros (R385, R395). -/
def SFrame.octets (planW : Bool) (f : SFrame) : List Byte :=
  padTo (96 * f.blocks planW) (f.header ++ (List.range (f.bodyLen + 8)).map (Config.ccmByte f.signer f.nonce f.header f.body))

/-- Codeword `w` of block `b`: 48 octets of data and 16 check octets (R382). -/
def codewordOf (data : List Byte) (b w : Nat) : List Byte :=
  let d := (data.drop (96 * b + 48 * w)).take 48
  d ++ (List.range 16).map (Config.sklCheck d)

/-- What symbol `j` of a block carries: its codeword, its byte and the position in the byte (R383). -/
def symbolPlace (j : Nat) : Nat × Nat × Nat := (j % 2, j % 128 / 2, j / 128)

/-- The symbol of a block that carries a position of a byte of a codeword (R383). -/
def symbolAt (w byte pos : Nat) : Nat := 128 * pos + 2 * byte + w

/-- The dibit at a position of a byte, the most significant first (R380). -/
def dibit (b : Byte) (pos : Nat) : Nat := b.toNat / 4 ^ (3 - pos) % 4

/-- The tone of a dibit, in Gray order (R380). -/
def toneOf (d : Nat) : Nat := if d = 3 then 2 else if d = 2 then 3 else d

/-- The frequency of a tone in Hz; `fc` in kHz (R380). -/
def toneHz (planW : Bool) (fc tone : Nat) : Nat := if planW then 1000 * fc + 24000 * tone - 36000 else 128500 + 3000 * tone

/-- Symbols of preamble and sync word (R381). -/
def sklPreamble : Nat := 64

/-- The tone of symbol `n` of a frame, from the preamble's first (R380 to R383). -/
def SFrame.tone (planW : Bool) (f : SFrame) (n : Nat) : Nat :=
  if n < 48 then 3 * (n % 2)
  else if n < sklPreamble then Config.sklSync (f.blocks planW) (n - 48)
  else
    let b := (n - sklPreamble) / 512
    let p := symbolPlace ((n - sklPreamble) % 512)
    toneOf (dibit ((codewordOf (f.octets planW) b p.1).getD p.2.1 0) p.2.2)

/-- Symbols of a frame, the symbol in counts of the SKID clock, and the frame's length in them (R380, R381). -/
def sklSymbols (blocks : Nat) : Nat := sklPreamble + 512 * blocks
def sklSymbol (planW : Bool) : Nat := if planW then 1280 else 10240
def sklSpan (planW : Bool) (blocks : Nat) : Nat := sklSymbols blocks * sklSymbol planW

/-! ### Tunnel -/

/-- `VER_TYPE`'s type and the payload of a tunnel frame under a counter (R190). -/
def TunBody.octets (sat ctr : Nat) : TunBody → Nat × List Byte
  | .grant v => (2, be 1 v)
  | .refuse c => (3, be 1 c)
  | .release => (6, [])
  | .answer _ _ => (0, (List.range (min 1518 (Config.frameLen sat ctr))).map (Config.frameByte sat ctr))
  | .sdp _ => (0, (List.range (min 1518 (Config.frameLen sat ctr))).map (Config.frameByte sat ctr))

/-- A tunnel frame under a key: header, payload encrypted, 16-octet tag (R190, R191). -/
def tunOctets (key sat bb ctr : Nat) (b : TunBody) : List Byte :=
  let p := b.octets sat ctr
  let h := be 1 (16 + p.1) ++ be 1 bb ++ be 2 p.2.length ++ be 4 sat ++ be 8 ctr
  h ++ (List.range (p.2.length + 16)).map (Config.gcmByte key (be 4 sat ++ be 8 ctr) h p.2)

/-! ### Messages, addresses and descriptors -/

/-- A key-update message up to its signature: its header, little-endian, and the body of its `KIND` (R447). -/
def KeyMsg.octets (m : KeyMsg) (body : List Byte) : List Byte :=
  le 2 m.ver ++ le 1 m.kind ++ le 1 m.auth ++ le 2 m.slot ++ le 1 m.span ++ le 1 m.alg ++ le 16 m.devId ++ le 8 m.ctr ++ le 2 m.usage.toNat
    ++ le 2 body.length ++ le 4 m.label.toNat ++ body

/-- `BODY_LEN` of a `KIND`; for KIND 1 of a wrapped key of a length, for KIND 3 by operation (R447). -/
def bodyLen (kind op wrapped : Nat) : Nat :=
  match kind with
  | 1 => 96 + wrapped
  | 3 => if op = 1 then 97 else 1
  | 4 => 96
  | 5 => 1
  | 16 => 48
  | 17 => 33
  | 18 => 4
  | 19 => 4
  | _ => 0

/-- The IPv6 link-local address made from a MAC: fe80::/64 and the modified EUI-64 (R174; PRESUMED, assumption 69). -/
def linkLocal (mac : Nat) : List Byte :=
  let m := be 6 mac
  [0xFE, 0x80, 0, 0, 0, 0, 0, 0] ++ [m.getD 0 0 ^^^ 0x02, m.getD 1 0, m.getD 2 0, 0xFF, 0xFE] ++ m.drop 3

/-- A command descriptor: opcode, tag, flags, two reserved octets, 56 octets of parameters (R114). -/
def descriptor (opcode tag : Nat) (irq : Bool) (param : List Byte) : List Byte :=
  le 2 opcode ++ le 2 tag ++ le 2 irq.toNat ++ le 2 0 ++ padTo 56 param

/-- What the part reads of a descriptor: opcode, tag, `IRQ` and the parameters; reserved bits are not looked at (R8, R114). -/
def readDescriptor (l : List Byte) : Nat × Nat × Bool × List Byte :=
  (unle (l.take 2), unle ((l.drop 2).take 2), (unle ((l.drop 4).take 2)).testBit 0, (l.drop 8).take 56)

end Sys2Proof
end

