-- ==== Sys2Proof/Machine/Skidline.lean ====
section
/-! DEFINITION. Skidline: links, routing, the transmit queue and what a received frame does before it is delivered
(R381 to R399). -/
namespace Sys2Proof

/-! ### Reception of the symbols (R378, R382 to R384) -/

/-- The phase a frame is taken from: the one wired, or with three-phase coupling the one with the highest SNR over the
preamble (R378). -/
def SRx.best (r : SRx) (coupling : Nat) : SPhase :=
  match if coupling = 2 then r.phases.take 3 else r.phases.take 1 with
  | [] => {}
  | p :: l => l.foldl (fun a q => if a.snr < q.snr then q else a) p

/-- A symbol is impulse-hit: the envelope exceeds the noise floor by more than 20 dB (R384). -/
def SPhase.hit (p : SPhase) (e : Nat × Nat) : Bool := decide (p.noise + 20 < e.2)

/-- A symbol is erased: hit, or one of the two on either side of a hit run (R384). -/
def SPhase.erased (p : SPhase) (n : Nat) : Bool := p.peaks.any (fun e => p.hit e && decide (e.1 ≤ n + 2) && decide (n ≤ e.1 + 2))

/-- A byte is erased when any of its four symbols is (R382, R383). -/
def SPhase.byteLost (p : SPhase) (b w i : Nat) : Bool := (List.range 4).any (fun k => p.erased (sklPreamble + 512 * b + symbolAt w i k))

/-- Erroneous bytes `e` and erased bytes `s` of a codeword (R382). -/
def SPhase.damage (p : SPhase) (b w : Nat) : Nat × Nat :=
  (countIf (List.range 64) (fun i => p.wrong.contains (b, w, i) && !p.byteLost b w i), countIf (List.range 64) (p.byteLost b w))

/-- The damage of every codeword of a frame, two in each block. -/
def SRx.codewords (r : SRx) (coupling : Nat) : List (Nat × Nat) :=
  (List.range (2 * r.blocks)).map (fun n => (r.best coupling).damage (n / 2) (n % 2))

/-- Whether a codeword decodes: 2e + s ≤ 16 (R382). -/
def codewordOk (c : Nat × Nat) : Bool := decide (2 * c.1 + c.2 ≤ 16)

end Sys2Proof

namespace Sys2Proof.Machine

/-- This node's address. -/
def State.sklAddr (s : State) : Nat := s.img.skl.addr

/-- The key of an epoch: the slot the SKIDLINE section names where its label is that epoch, else another VALID slot
with SKIDLINE usage whose label is (R395, R444; assumption 24). -/
def State.sklKey (s : State) (e : Nat) : Option Nat :=
  let good (n : Nat) : Bool := s.keyFor n 3 && decide ((s.slot n).label.toNat % 256 = e)
  let n := s.img.skl.keySlot
  if good n then some (s.slot n).key
  else (((List.range 64).map (fun i => 48 + i)).find? good).map (fun n => (s.slot n).key)

/-! ### Links and routes -/

/-- `C_SNR` of R391, from the last frames' SNR. -/
def cSnr (l : List Nat) : Nat :=
  let n := l.length
  let t := l.foldl (fun a b => a + b) 0
  if 18 * n ≤ t then 1 else if 15 * n ≤ t then 2 else if 12 * n ≤ t then 4 else if 9 * n ≤ t then 8
  else if 6 * n ≤ t then 16 else if 3 * n ≤ t then 32 else 64

/-- Both sides share a protocol version; this side has 1 and 2 (R397). -/
def sklShares (lo hi : Nat) : Bool := decide (lo ≤ 2) && decide (1 ≤ hi) && decide (lo ≤ hi)

/-- The cost of the link from a neighbour to this node: `C_SNR` x `F_RT` rounded up, at most 255; a node no neighbour
counts as unusable (R391, R397). -/
def linkCost (n : SklNode) : Nat := if n.neighbour && sklShares n.verLo n.verHi then min 255 (divUp (cSnr n.snrs * (4 + n.frt)) 4) else 255

/-- The `F_RT` code this node reports of its attempts to a neighbour: the smallest `k` with 1 + k/4 at or above
attempts / acknowledged; 15 where there is none (R391). -/
def frtCode (l : List Bool) : Nat :=
  let a := l.length
  let k := (l.filter id).length
  if a = 0 then 0 else if k = 0 then 15 else min 15 (divUp (4 * (a - k)) k)

/-- Whether a neighbour can be this node's parent (R392): a usable link, a path of its own, not beyond 13 hops, and
not through this node. -/
def State.sklEligible (s : State) (a : Nat) (n : SklNode) : Bool :=
  n.neighbour && decide (linkCost n < 255) && decide (n.hops < 14) && decide (n.parent ≠ s.sklAddr) &&
  (decide (a = 0) || decide (n.parent ≠ everyone))

/-- The path cost through a neighbour. -/
def pathVia (n : SklNode) : Nat := linkCost n + n.cost

/-- The best parent among the neighbours but those a test rules out; the lowest address on equal cost. -/
def State.sklBest (s : State) (not_ : Nat → Bool) : Option Nat :=
  s.skl.nodes.foldl (fun b p =>
    if s.sklEligible p.1 p.2 && !not_ p.1 then
      match b with
      | none => some p.1
      | some q => if pathVia p.2 < pathVia (s.sklNode q) then some p.1 else b
    else b) none

/-- Take a parent, or none: then the node is ORPHAN (R392). -/
def State.sklTake (s : State) : Option Nat → State
  | some p =>
    let n := s.sklNode p
    { s with skl := { s.skl with parent := p, hops := n.hops + 1, cost := pathVia n, orphan := false } }
  | none => ({ s with skl := { s.skl with parent := 0xFFF, hops := 0, cost := 0, orphan := true } }).setEvtIf (!s.skl.orphan) 0x0E 2

/-- Choose the parent again: a new one only where its path is cheaper by 10 % or by 2, whichever is larger (R392). -/
def State.sklParent (s : State) : State :=
  if s.img.skl.coord || !s.skl.run then s
  else
    let p := s.skl.parent
    let cur := s.sklNode p
    match s.sklBest (fun _ => false) with
    | none => s.sklTake none
    | some b =>
      if s.skl.orphan || !s.sklEligible p cur then s.sklTake (some b)
      else if 10 * pathVia (s.sklNode b) + max (pathVia cur) 20 ≤ 10 * pathVia cur then s.sklTake (some b)
      else s.sklTake (some p)

/-- Three consecutive frames to the parent failed: another parent, where there is one (R392, assumption 25). -/
def State.sklReparent (s : State) : State :=
  match s.sklBest (fun a => decide (a = s.skl.parent)) with
  | some b => s.sklTake (some b)
  | none => s

/-- The retries of a class (R388). -/
def sklRetries : SklClass → Nat
  | .alarm => 0
  | .control => 3
  | .bulk => 7

/-- The next hop of a frame to a final node: down along a recorded entry, else up; none from the coordinator (R393). -/
def State.sklHop (s : State) (final : Nat) : Option Nat :=
  if final = everyone then some everyone
  else
    let r := tget 0 s.skl.routes final
    if r ≠ 0 then some r else if s.img.skl.coord || s.skl.orphan then none else some s.skl.parent

/-- A link's counter has reached its end (R396). -/
def State.sklStopped (s : State) (link : Nat) : Bool := decide (0xFFFFFFFF ≤ tget 0 s.skl.ctrs link)

/-- Queue a frame. -/
def State.sklQueue (s : State) (f : TxFrame) : State :=
  let k := s.skl
  { s with skl := { k with txq := k.txq ++ [{ f with id := k.nextTx }], nextTx := k.nextTx + 1 } }

/-- The protocol version of a frame to a node: the highest that both ROUTE frames list; 1 for a broadcast, and before a
ROUTE frame of the neighbour is heard (R397, assumption 25). -/
def State.sklVersion (s : State) (dst : Nat) : Nat :=
  if dst = everyone then 1 else if (s.sklNode dst).route.isSome then min 2 (s.sklNode dst).verHi else 1

/-- The addresses of the neighbours with the lowest link cost, up to a number: a neighbour goes in behind those of the same
cost (R394). -/
def State.sklNearest (s : State) (n : Nat) : List Nat :=
  let put (l : List (Nat × Nat)) (x : Nat × Nat) : List (Nat × Nat) := l.filter (fun y => y.2 ≤ x.2) ++ x :: l.filter (fun y => x.2 < y.2)
  (((s.skl.nodes.filter (fun p => p.2.neighbour)).foldl (fun l p => put l (p.1, linkCost p.2)) []).take n).map (fun x => x.1)

/-- What this node says of itself: its parent and path, its versions, the next epoch announced, and its neighbours (R392,
R394). -/
def State.sklSelf (s : State) : SRoute :=
  let k := s.skl
  { parent := if s.img.skl.coord || k.orphan then everyone else k.parent, hops := k.hops, cost := k.cost, verLo := 1, verHi := 2,
    nextEpoch := if k.actTime ≠ 0 then k.nextEpoch else k.epoch, actTime := k.actTime,
    entries := (s.sklNearest (if s.img.skl.planW then 200 else 40)).map (fun a => (a, linkCost (s.sklNode a), frtCode (s.sklNode a).attempts)),
    nbrs := satTo 255 (countIf k.nodes (fun p => p.2.neighbour)) }

/-- Queue a frame of this node's own with a new message number. -/
def State.sklOwn (s : State) (f : TxFrame) : State :=
  let s1 := s.sklQueue { f with orig := s.sklAddr, mseq := s.skl.mseq }
  { s1 with skl := { s1.skl with mseq := (s.skl.mseq + 1) % 65536 } }

/-- Count a frame that could not be sent (R388). -/
def State.sklFailed (s : State) : State :=
  ({ s with skl := { s.skl with txFails := s.skl.txFails + 1 } }).setEvt 0x0E 1

/-- Take a frame out of the queue. -/
def State.sklUnqueue (s : State) (id : Nat) : State :=
  { s with skl := { s.skl with txq := s.skl.txq.filter (fun f => f.id ≠ id),
                               ackWait := if s.skl.ackWait = some id then none else s.skl.ackWait,
                               busy := s.skl.busy && decide (s.skl.ackWait ≠ some id) } }

/-- The wait of a SKL_SEND for a frame. -/
def sklFlight (id : Nat) (f : Flight) : Bool := decide (f.waits = Waiting.sklFrame id)

/-- Drop a frame after its last retry or at the end of its lifetime (R388). -/
def State.sklDrop (s : State) (f : TxFrame) : State :=
  let s1 := (s.sklUnqueue f.id).sklFailed
  let dst := match f.sent with | some d => d.1 | none => (s.sklHop f.final).getD everyone
  let s2 := if dst = s1.skl.parent && !s1.img.skl.coord then
      let n := s1.sklNode dst
      let s' := s1.setSklNode dst { n with failsRow := n.failsRow + 1 }
      if 3 ≤ n.failsRow + 1 then (s'.sklReparent).modSklNode dst (fun n => { n with failsRow := 0 }) else s'
    else s1
  s2.finish (sklFlight f.id) .timeout

/-- A neighbour answers, or not, to an attempt (R391). -/
def State.sklAttempt (s : State) (dst : Nat) (ok : Bool) : State :=
  s.modSklNode dst (fun n => { n with attempts := (ok :: n.attempts).take 32, failsRow := if ok then 0 else n.failsRow })

/-- A frame is acknowledged (R387, R401). -/
def State.sklAcked (s : State) (f : TxFrame) (dst : Nat) : State :=
  ((s.sklUnqueue f.id).sklAttempt dst true).finish (sklFlight f.id) .ok

/-- The next hop of a queued frame: Hinge goes to its peer direct, ROUTE to everybody (R390, R392). -/
def State.sklNext (s : State) (f : TxFrame) : Option Nat := if f.noFwd && f.final ≠ everyone then some f.final else s.sklHop f.final

/-- The counts of the SKID clock of a pause after a frame of this node's own (R386). -/
def sklPause (planW : Bool) : Nat := if planW then 122880 else 1536000

/-- A frame goes out on its link from a count of the SKID clock: a new `CTR`, the driver enabled 0.5 ms before the
preamble until 0.5 ms after the last symbol, and the pause behind it (R379, R386, R395, R396). -/
def State.sklOut (s : State) (start : Nat) (f : SFrame) : State :=
  let w := s.img.skl.planW
  let c := tget 0 s.skl.ctrs f.dst + 1
  let fin := start + sklSpan w (f.blocks w)
  let g : SFrame := { f with ver := s.sklVersion f.dst, domain := s.img.skl.domain, src := s.sklAddr, epoch := s.skl.epoch, ctr := c,
                             signer := (s.sklKey s.skl.epoch).getD 0 }
  let s1 := { s with skl := { s.skl with ctrs := tset 0 s.skl.ctrs f.dst c, txFrames := s.skl.txFrames + 1, pauseTo := fin + sklPause w } }
  let s2 := (s1.setEvtIf (decide (c = 2 ^ 31)) 0x0E 3).setEvtIf (decide (c = 0xFFFFFFFF)) 0x0E 4
  ((s2.send (.sklTxen (start - 6144) true)).send (.skl (if s.img.skl.coupling = 2 then 3 else 1) (f.blocks w) g)).send (.sklTxen (fin + 6144) false)

/-- The frame that a queued one stands for on a link (R385). -/
def TxFrame.frame (f : TxFrame) (dst : Nat) : SFrame :=
  { typ := f.typ, cls := f.cls, ackReq := f.ackReq && decide (dst ≠ everyone), noFwd := f.noFwd, dst := dst, orig := f.orig, final := f.final,
    mseq := f.mseq, hops := f.hops, proto := f.proto, payload := f.payload, hinge := f.hinge, hKind := f.hKind, route := f.route }

/-- Send a frame (R388): a broadcast, or a frame without ACK request, is then done; any other waits for its
acknowledgement. Without the epoch's key nothing is sent (assumption 24). -/
def State.sklTransmit (s : State) (start : Nat) (f : TxFrame) : State :=
  match s.sklNext f with
  | none => s.sklDrop f
  | some dst =>
    if s.sklStopped dst then s.sklDrop f
    else if (s.sklKey s.skl.epoch).isNone then s
    else
      let s1 := s.sklOut start (f.frame dst)
      if f.ackReq && dst ≠ everyone then
        let f1 := { f with attempts := f.attempts + 1, sent := some (dst, tget 0 s1.skl.ctrs dst) }
        { s1 with skl := { s1.skl with txq := s1.skl.txq.map (fun g => if g.id = f.id then f1 else g), ackWait := some f.id, busy := true } }
      else (s1.sklUnqueue f.id).finish (sklFlight f.id) .ok

/-- The frame a slot of a class takes: forwarded ones first, then in order; only ROUTE frames while ORPHAN (R386,
R388, R392). -/
def State.sklPick (s : State) (c : SklClass) : Option TxFrame :=
  let l := s.skl.txq.filter (fun f => decide (f.cls = c) && (!s.skl.orphan || decide (f.typ = .route)))
  match l.find? (fun f => f.forwarded) with
  | some f => some f
  | none => l.head?

/-- A SIGNALS payload is in demand: a signal it marks valid reads 0 (R331, R336; assumption 25). -/
def hingeDemand (l : List HPay) : Bool :=
  l.any (fun p => match p with | .signals st v => decide (v &&& ~~~ st ≠ 0) | _ => false)

/-- Queue a Hinge frame for a peer node: ALARM in demand, else CONTROL; no ACK, no forwarding (R331, R388, R390). -/
def State.sklHinge (s : State) (peer kind : Nat) (f : HFrame) : State :=
  s.sklOwn { cls := if hingeDemand f.pays then .alarm else .control, final := peer, ackReq := false, noFwd := true, proto := 1, hinge := some f, hKind := kind }

/-! ### Receiving -/

/-- The window's key of a link in an epoch. -/
def winKey (epoch src dst : Nat) : Nat := (epoch * 65536 + src) * 65536 + dst

/-- A counter is new in a window of `n` frames. -/
def Window.fresh (w : Window) (n c : Nat) : Bool := decide (w.top < c + n) && decide (0 < c) && !w.seen.contains c && (decide (w.top < c) || decide (c < w.top))

/-- Take a counter into a window of `n` frames. -/
def Window.take (w : Window) (n c : Nat) : Window :=
  let top := max w.top c
  { top := top, seen := (c :: w.seen).filter (fun x => decide (top < x + n)) }

/-- What a ROUTE or PATH frame says of a node (R392, R394). -/
def State.sklHear (s : State) (a : Nat) (f : SFrame) : State :=
  let r := f.route
  s.modSklNode a (fun n =>
    let n1 := { n with parent := r.parent, hops := r.hops, cost := r.cost, verLo := r.verLo, verHi := r.verHi, heard := s.now }
    if f.typ = .route then
      match r.entries.find? (fun x => x.1 = s.sklAddr) with
      | some e => { n1 with route := some r, frt := e.2.2, costFrom := e.2.1 }
      | none => { n1 with route := some r }
    else { n1 with path := some r, nbrs := r.nbrs })

/-- A ROUTE frame: the neighbour's figures, the epoch it announces, and the parent chosen again (R392, R396, R397). -/
def State.sklRouteRx (s : State) (f : SFrame) : State :=
  let r := f.route
  let s1 := (s.sklHear f.src f).setEvtIf (!sklShares r.verLo r.verHi) 0x0E 5
  let s2 := if !s.img.skl.coord && r.nextEpoch ≠ f.epoch && r.nextEpoch ≠ s.skl.epoch && r.actTime ≠ 0 then
      { s1 with skl := { s1.skl with nextEpoch := r.nextEpoch, actTime := r.actTime } } else s1
  s2.sklParent

/-- Frames this node passes on (R393): not a Hinge or otherwise unforwardable one, and not past 15 hops. -/
def State.sklForward (s : State) (f : SFrame) : State :=
  if f.noFwd || 15 ≤ f.hops then s
  else
    let g : TxFrame := { cls := f.cls, typ := f.typ, final := f.final, orig := f.orig, mseq := f.mseq, hops := f.hops + 1, ackReq := f.ackReq, proto := f.proto, payload := f.payload, hinge := f.hinge, hKind := f.hKind, route := f.route, forwarded := true }
    if f.final = everyone then
      (if s.skl.nodes.any (fun p => p.2.neighbour && decide (p.2.parent = s.sklAddr)) then s.sklQueue g else s)
    else if (s.sklHop f.final).isNone && s.img.skl.coord then s.sklFailed
    else s.sklQueue g

/-- One POINTS record (R398): point number in [19:0] of 3 octets, value, flags with the bad mark in bit 0. -/
def State.sklPoint (s : State) (orig : Nat) (r : List Byte) : State :=
  let pt := unle (r.take 3).reverse % 2 ^ 20
  let value : DWord := BitVec.ofNat 64 (unle ((r.drop 3).take 8).reverse)
  let c := (s.point pt).cfg
  if decide (pt < s.lnd.points) && decide (c.srcKind = 2) && decide (c.srcAddr = orig) then s.ptUpdate pt value s.now ((r.getD 11 0).getLsbD 0)
  else { s with skl := { s.skl with pointRej := s.skl.pointRej + 1 } }

/-- The whole 12-octet records of a POINTS payload. -/
def pointRecords (l : List Byte) : List (List Byte) := (List.range (l.length / 12)).map (fun i => (l.drop (12 * i)).take 12)

/-- Deliver POINTS and application payloads (R398). -/
def State.sklDeliver (s : State) (snr : Nat) (f : SFrame) : State :=
  if f.proto = 2 then (pointRecords f.payload).foldl (fun a r => a.sklPoint f.orig r) s
  else if f.proto = 3 then
    if 64 ≤ s.skl.appq.length then s.setEvt 0x0E 0
    else { s with skl := { s.skl with appq := s.skl.appq ++ [{ orig := f.orig, cls := f.cls, hops := f.hops, snr := snr, payload := f.payload, time := s.now }] } }
  else s

/-- What passes the checks of a receiver: decoded, of this domain, verified and counted (R382, R385, R395). -/
def State.sklVerify (s : State) (r : SRx) (f : SFrame) : Except State State :=
  let k := s.skl
  let p := r.best s.img.skl.coupling
  let l := r.codewords s.img.skl.coupling
  let eras := countIf l (fun c => codewordOk c && decide (0 < c.2))
  let s0 := { s with skl := { k with erasCorr := k.erasCorr + BitVec.ofNat 16 eras, snr := BitVec.ofNat 8 p.snr, noise := BitVec.ofNat 8 p.noise } }
  if !l.all codewordOk then .error { s0 with skl := { s0.skl with rxLost := k.rxLost + 1 } }
  else if f.domain ≠ s.img.skl.domain then .error s0
  else if (f.epoch = k.epoch || k.prevEpoch = some f.epoch) && (match s.sklKey f.epoch with | some x => decide (f.signer = x) | none => false) then
    let s1 := { s0 with skl := { s0.skl with rxOk := k.rxOk + 1 } }
    .ok (s1.modSklNode f.src (fun n => { n with snrs := (p.snr :: n.snrs).take 8, neighbour := true, heard := s.now }))
  else .error { s0 with skl := { s0.skl with micFail := k.micFail + 1 } }

/-- A frame for another node: one with ACK request keeps the medium busy for its ACK interval, an ACK ends that (R387). -/
def State.sklOverhear (s : State) (f : SFrame) : State :=
  if f.typ = .ack then { s with skl := { s.skl with busy := s.skl.ackWait.isSome || s.skl.ackDue.isSome } }
  else if f.ackReq && f.dst ≠ everyone then { s with skl := { s.skl with busy := true } }
  else s

/-- The acknowledgement of a frame this node sent (R387). -/
def State.sklAckRx (s : State) (f : SFrame) : State :=
  match s.skl.ackWait.bind (fun id => s.skl.txq.find? (fun g => g.id = id)) with
  | some g => if g.sent = some (f.src, f.ackCtr) then s.sklAcked g f.src else s
  | none => s

/-- Record the way down to an originator from an upward frame (R393): one that comes to this node alone, is meant to be
forwarded and does not come from the parent. -/
def State.sklLearn (s : State) (f : SFrame) : State :=
  if f.dst ≠ everyone && !f.noFwd && (s.img.skl.coord || f.src ≠ s.skl.parent) && f.orig ≠ s.sklAddr then
    { s with skl := { s.skl with routes := tset 0 s.skl.routes f.orig f.src } } else s

/-- The acknowledgement asked for by a frame to this node falls due (R387); one that came while the part slept gets none (R399). -/
def State.sklOweAck (s : State) (f : SFrame) (awake : Bool) : State :=
  if f.ackReq && f.dst = s.sklAddr && awake then { s with skl := { s.skl with ackDue := some (f.src, f.ctr), busy := true } } else s

/-- A DATA or PATH frame, once per originator and number: delivered, forwarded or both; true where it holds a Hinge frame for
this node (R385, R390, R393, R398). -/
def State.sklPass (s : State) (snr : Nat) (f : SFrame) : State × Bool :=
  if f.orig = s.sklAddr || s.skl.dups.contains (f.orig, f.mseq) then (s, false)
  else
    let s1 := { s with skl := { s.skl with dups := ((f.orig, f.mseq) :: s.skl.dups).take 64 } }
    let mine := decide (f.final = s.sklAddr) || decide (f.final = everyone)
    if f.typ = .path then (if mine then s1.sklHear f.orig f else s1.sklForward f, false)
    else
      let s2 := if mine then s1.sklDeliver snr f else s1
      (if f.final = s.sklAddr then s2 else s2.sklForward f, mine && decide (f.proto = 1))

/-- An authentic frame to this node or to everybody, checked against replay (R395) and handled by its type. -/
def State.sklAccept (s : State) (snr : Nat) (f : SFrame) (awake : Bool) : State × Bool :=
  let key := winKey f.epoch f.src f.dst
  let w := tget {} s.skl.windows key
  if !w.fresh 32 f.ctr then (s.setEvt 0x0E 6, false)
  else
    let s1 := { s with skl := { s.skl with windows := tset {} s.skl.windows key (w.take 32 f.ctr) } }
    match f.typ with
    | .ack => (s1.sklAckRx f, false)
    | .route => (s1.sklRouteRx f, false)
    | _ => ((s1.sklOweAck f awake).sklLearn f).sklPass snr f

/-- A received frame up to its delivery: the state, and whether it holds a Hinge frame for this node (R385 to R399). -/
def State.sklRx (s : State) (r : SRx) (f : SFrame) (awake : Bool) : State × Bool :=
  match s.sklVerify r f with
  | .error s1 => (s1, false)
  | .ok s1 =>
    if f.dst ≠ s.sklAddr && f.dst ≠ everyone then (s1.sklOverhear f, false)
    else s1.sklAccept (r.best s.img.skl.coupling).snr f awake

end Sys2Proof.Machine
end

