-- ==== Sys2Proof/Machine/Spar.lean ====
section
/-! DEFINITION. Guyline's enables, the safety inputs, Spar's requests and the Hinge checks (R317 to R337). What
reaching a demand does to a session is added in Session.lean. -/
namespace Sys2Proof.Machine

/-- A safety parameter's value. -/
def State.param (s : State) (id : Nat) : Nat := ((tget none s.saf.params id).getD 0).toNat

/-- A set of parameters holds an ID (R337). -/
def hasParam (t : Tab (Option DWord)) (id : Nat) : Bool := (tget none t id).isSome

/-- A bit field of a number. -/
def field (v lo w : Nat) : Nat := v / 2 ^ lo % 2 ^ w

/-- Parameters of an input (R337; the packing is assumption 10): mode, TPO, reset mode, RESET input, discrepancy time. -/
def siMode (v : Nat) : SiMode :=
  match field v 0 3 with
  | 1 => .single | 2 => .pairEq | 3 => .pairAnti | 4 => .ossd | 5 => .feedback | 6 => .reset | _ => .unused
def siTpo (v : Nat) : Nat := field v 3 2
def siReset (v : Nat) : SiReset := match field v 5 2 with | 1 => .button | 2 => .command | _ => .auto
def siButton (v : Nat) : Nat := field v 7 4
def siDisc (v : Nat) : Nat := field v 11 16

/-- Parameters of a gated output (assumption 10): `SI_MASK`, remote signal mask and its connection, bay, IMD and
lock terms, dark pulse disabled. -/
def outMask (v : Nat) : Nat := field v 0 16
def outRemote (v : Nat) : Nat := field v 16 32
def outConn (v : Nat) : Nat := field v 48 10
def outBay (v : Nat) : Nat := field v 58 3
def outImd (v : Nat) : Bool := decide (field v 61 1 = 1)
def outLock (v : Nat) : Bool := decide (field v 62 1 = 1)
def outNoDark (v : Nat) : Bool := decide (field v 63 1 = 1)

/-- The parameter of input `i` and of gated output `j` (R337). -/
def State.inPar (s : State) (i : Nat) : Nat := s.param (0x10 + i)
def State.outPar (s : State) (j : Nat) : Nat := s.param (0x40 + j)

/-- A pair mode (R325). -/
def pairMode : SiMode → Bool
  | .pairEq => true
  | .pairAnti => true
  | .ossd => true
  | _ => false

/-- Modes whose faults and open contacts are demands (R325 to R327). -/
def demandMode (m : SiMode) : Bool := decide (m = .single) || pairMode m

/-- Modes that take a test pulse (R325). -/
def pulsedMode (m : SiMode) : Bool := decide (m = .single) || decide (m = .pairEq) || decide (m = .pairAnti) || decide (m = .feedback) || decide (m = .reset)

/-- The parameters that govern an input: a pair's come from its even input (R325). -/
def State.govPar (s : State) (i : Nat) : Nat :=
  if pairMode (siMode (s.inPar i)) then s.inPar (2 * (i / 2)) else s.inPar i

/-- The inputs that latch together: the pair's two, or the one. -/
def State.siGroup (s : State) (i : Nat) : List Nat :=
  if pairMode (siMode (s.inPar i)) then [2 * (i / 2), 2 * (i / 2) + 1] else [i]

/-- An input or pair is in demand now (R326, R327). -/
def State.inDemand (s : State) (i : Nat) : Bool :=
  let m := siMode (s.inPar i)
  let e := 2 * (i / 2)
  if m = .single then (s.sin i).isOpen || (s.sin i).fault
  else if m = .pairAnti then (s.sin e).isOpen || !(s.sin (e + 1)).isOpen || (s.sin e).fault || (s.sin (e + 1)).fault
  else if pairMode m then (s.sin e).isOpen || (s.sin (e + 1)).isOpen || (s.sin e).fault || (s.sin (e + 1)).fault
  else false

/-- The safety-input term of an output (R318). -/
def State.inputsOk (s : State) (mask : Nat) : Bool :=
  (List.range 16).all (fun i => decide (field mask i 1 = 0) || (!(s.sin i).trip && !(s.sin i).fault && !s.inDemand i))

/-- The bay one of whose contactors K1 to K3 a channel drives, and the bay whose lock it drives. -/
def State.bayOfK (s : State) (ch : Nat) : Option Nat :=
  (s.img.bays.find? (fun p => p.2.enabled && (decide (p.2.chK1 = ch) || decide (p.2.chK2 = ch) || decide (p.2.chK3 = ch)))).map (fun p => p.1)
def State.bayOfLock (s : State) (ch : Nat) : Option Nat :=
  (s.img.bays.find? (fun p => p.2.enabled && decide (p.2.chLock = ch))).map (fun p => p.1)

/-- The lock feedback of a bay reports locked; an input in FAULT reads as open (R318, R327). -/
def State.lockOk (s : State) (n : Nat) : Bool := (s.bay n).locked && !(s.sin (s.cBay n).siLock).fault

/-- The terms of R318 in the table's order. -/
inductive Term | clock | heartbeat | inputs | imd | lock | readback
deriving DecidableEq, Repr

/-- The first false term of an output's enable, none where all hold (R318, R329). -/
def State.falseTerm (s : State) (j : Nat) : Option Term :=
  let v := s.outPar j
  let k := if j < 32 then s.bayOfK j else none
  let imd := k.isSome || outImd v
  let lock := k.isSome || outLock v
  let n := k.getD (outBay v)
  if !s.saf.safeClk then some .clock
  else if !s.saf.heartbeat then some .heartbeat
  else if !s.inputsOk (outMask v) then some .inputs
  else if imd && (s.imdB n).lineSeen then some .imd
  else if lock && !s.lockOk n then some .lock
  else if (s.gate j).rbFlt then some .readback
  else none

/-- The level of `TPO`*k* outside its own pulse, and the state of `SO`*m* outside its dark pulse (R324, R329). -/
def State.tpoHigh (s : State) : Bool := s.saf.tpRun
def State.soOn (s : State) (m : Nat) : Bool := (s.gate (32 + m)).req && (s.gate (32 + m)).en

/-- Gated outputs: safety-designated channels and SO0 to SO3 (R317). -/
def State.gated (s : State) (j : Nat) : Bool := (decide (j < 32) && (s.cChan j).safety) || (decide (32 ≤ j) && decide (j < 36))

/-- Spar drops its request for an output; the channel turns off without a permit (R317, R69). -/
def State.dropReq (s : State) (j : Nat) : State :=
  let s1 := s.modGate j (fun g => { g with req := false })
  if j < 32 then
    (if s.chan j = {} then s1 else if chConducts (s.chan j).st || (s.chan j).st = .permitWait then s1.chkOff j
     else s1.modChan j (fun c => { c with want := false }))
  else s1

/-- The restart interlock holds: the request is high, or has not been low for 10 ms since the enable fell (R318,
assumption 11). -/
def State.interlocked (s : State) (g : Gate) : Bool :=
  g.req || (match g.fell with | some t => decide (nsBetween t s.now ≤ 10000000) | none => false)

/-- Bring one enable up to date: it falls with its terms, and returns only once the restart interlock is over. A fall while
requested sets GATE_DROP and Spar drops its request (R319). Answers the output with the term that fell. -/
def State.gateOne (s : State) (j : Nat) : State × Option Term :=
  let g := s.gate j
  match s.falseTerm j with
  | none => (if g.en || s.interlocked g then s else s.setGate j { g with en := true, fell := none }, none)
  | some t =>
    let s1 := if g.en then s.setGate j { g with en := false, fell := some s.now } else s
    if g.req then ((s1.setEvt 0x0B 2).dropReq j, some t) else (s1, none)

/-- Bring every enable up to date; the outputs whose requests fell, with their terms (R318, R319). -/
def State.gateAll (s : State) : State × List (Nat × Term) :=
  (List.range 36).foldl (fun acc j =>
    if acc.1.gated j then
      let r := acc.1.gateOne j
      (r.1, match r.2 with | some t => acc.2 ++ [(j, t)] | none => acc.2)
    else acc) (s, [])

/-- Remote signals whose demand drops an output's request: a bit 0, not valid, or a connection that is not OPEN (R334, R336). -/
def State.remoteDemand (s : State) (j : Nat) : Bool :=
  let v := s.outPar j
  let h := s.conn (outConn v)
  decide (outRemote v ≠ 0) && (decide (h.st ≠ .opened) ||
    decide (BitVec.ofNat 32 (outRemote v) &&& ~~~ (h.state &&& h.valid) ≠ 0))

/-- Spar asks for no close on an output yet: its gate is untested or overdue, or an unconfirmed parameter set affects
it (R323, R340). -/
def State.closeHeld (s : State) (j : Nat) : Bool :=
  let g := s.gate j
  !g.tested || g.testDue || (s.saf.unconfirmed && s.saf.affected.contains j)

/-- A close asked for now does not fail at once: Spar runs, the output is enabled and under no remote demand, and a
channel is neither latched nor under a supply anomaly (R319, R334, R363, R374). -/
def State.closeOk (s : State) (j : Nat) : Bool :=
  let c := s.chan j
  decide (s.saf.spar = .run) && (s.gate j).en && !s.remoteDemand j &&
  (decide (32 ≤ j) || (decide (c.st ≠ .thermLatch) && decide (c.st ≠ .latchedOff) && decide (c.st ≠ .supplyOff) && decide (s.chk.supply = .normal)))

/-- Spar requests an output: the channel asks for its permit (R317, R363). -/
def State.request (s : State) (j : Nat) : State :=
  let s1 := s.modGate j (fun g => { g with req := true })
  if j < 32 then (if chConducts (s.chan j).st || (s.chan j).st = .permitWait then s1 else s1.chkAsk j 1000 false) else s1

/-- Latch TRIP for an input or its pair (R326). -/
def State.latchTrip (s : State) (i : Nat) : State :=
  let g := s.siGroup i
  let new := g.any (fun k => !(s.sin k).trip)
  (g.foldl (fun a k => a.modSin k (fun x => { x with trip := true })) s).setEvtIf new 0x0B 0

/-- Latch FAULT for an input with a cause; on a demand mode it acts as a demand (R327). -/
def State.latchFault (s : State) (i : Nat) (c : SiCause) : State :=
  let new := !(s.sin i).fault
  let s1 := (s.modSin i (fun x => { x with fault := true, cause := c, passRun := 0 })).setEvtIf new 0x0B 1
  if demandMode (siMode (s.inPar i)) then s1.latchTrip i else s1

/-- Reach SAFE_STOP: every request dropped, the heartbeat stopped, the cause recorded (R320, R322). -/
def State.safeStopCore (s : State) (cause detail : Nat) : State :=
  let s1 := { s with saf := { s.saf with spar := .safeStop, heartbeat := false, diagCause := cause, diagDetail := detail } }
  (List.range 36).foldl (fun a j => if (a.gate j).req then a.dropReq j else a) s1

/-! ### Hinge -/

/-- The link code of Skidline in a Hinge connection's settings (assumption 12). -/
def sklLink : Nat := 2

/-- The receiving connection a frame names, from its bound link and peer (R333 check 3). -/
def State.rxConn (s : State) (f : HFrame) : Option Nat :=
  (s.img.safety.conns.find? (fun p => p.2.used && !p.2.tx && decide (p.2.connId = f.connId) && decide (p.2.link = f.link) && decide (p.2.peer = f.peer))).map (fun p => p.1)

/-- A receiving connection of that ID, whatever its link (for the count of check 3). -/
def State.rxById (s : State) (f : HFrame) : Option Nat :=
  (s.img.safety.conns.find? (fun p => p.2.used && !p.2.tx && decide (p.2.connId = f.connId))).map (fun p => p.1)

/-- A connection enters TIMED_OUT (R334). -/
def State.connTimeout (s : State) (c : Nat) : State :=
  (s.modConn c (fun h => { h with st := .timedOut, timeouts := h.timeouts + 1, frags := 0 })).setEvt 0x0B 3

/-- Count a CRC failure; the eighth within 1 s on one connection acts as a timeout (R333 check 2, R334).
Answers the connection it timed out. -/
def State.crcFail (s : State) (f : HFrame) : State × Option Nat :=
  let s1 := { s with saf := { s.saf with crcErr := s.saf.crcErr + 1 } }
  match s.rxConn f with
  | none => (s1, none)
  | some c =>
    let h := s1.conn c
    let times := (s.now :: h.crcTimes).take 8
    let burst := decide (times.length = 8) && decide (nsBetween (times.getLast?.getD {}) s.now ≤ 1000000000)
    let s2 := s1.setConn c { h with crcErr := h.crcErr + 1, crcTimes := if burst then [] else times }
    if burst && h.st = .opened then (s2.connTimeout c, some c) else (s2, none)

/-- A payload that a connection's version carries (R333 check 7, R335). -/
def payOk (ver : Nat) : HPay → Bool
  | .malformed => false
  | .reading _ _ _ => decide (ver = 2)
  | _ => true

/-- Checks 1 to 3 of R333, shared by every frame type: the connection, or the state with the failure counted and
a connection that timed out. -/
def State.hingeHead (s : State) (f : HFrame) : Except (State × Option Nat) (State × Nat) :=
  if !f.fmtOk || !(f.version = 1 || f.version = 2) then
    .error (match s.rxConn f with | some c => s.modConn c (fun h => { h with fmtErr := h.fmtErr + 1 }) | none => s, none)
  else if !f.crcOk then .error (s.crcFail f)
  else match s.rxConn f with
    | none => .error (match s.rxById f with | some c => s.modConn c (fun h => { h with idErr := h.idErr + 1 }) | none => s, none)
    | some c => .ok (s.modConn c (fun h => if h.st = .timedOut then { h with st := .connecting } else h), c)

/-- A connection's timeout in ms and its window: the parameter's, else the SAFETY section's (R332, R337). -/
def State.connTimeoutMs (s : State) (c : Nat) : Nat := if s.param (0x100 + c) = 0 then (s.cConn c).timeout else field (s.param (0x100 + c)) 16 16
def State.connWindow (s : State) (c : Nat) : Nat := if s.param (0x100 + c) = 0 then (s.cConn c).window else field (s.param (0x100 + c)) 32 8
def State.connPeriod (s : State) (c : Nat) : Nat := if s.param (0x100 + c) = 0 then (s.cConn c).period else field (s.param (0x100 + c)) 0 16

/-- Checks 4 to 7 of R333 for DATA: the state with the frame accepted, or with its failure counted. -/
def State.hingeData (s : State) (c : Nat) (f : HFrame) : State × Bool :=
  let h := s.conn c
  let d := (f.seq - h.seq).toNat
  if h.st ≠ .opened then (s.setConn c { h with stateErr := h.stateErr + 1 }, false)
  else if d = 0 || s.connWindow c < d then
    let s1 := s.setConn c { h with seqErr := h.seqErr + 1 }
    ({ s1 with saf := { s1.saf with seqErr := s1.saf.seqErr + 1 } }, false)
  else if s.connTimeoutMs c * 10 < f.texp then (s.setConn c { h with texpErr := h.texpErr + 1 }, false)
  else if !f.pays.all (payOk h.ver) then (s.setConn c { h with fmtErr := h.fmtErr + 1 }, false)
  else (s.setConn c { h with seq := f.seq, lost := h.lost + BitVec.ofNat 32 (d - 1) }, true)

/-- The version both sides support, highest first; 0 where there is none (R335). -/
def hingeVersion (lo hi : Nat) : Nat := if lo ≤ 2 && 2 ≤ hi then 2 else if lo ≤ 1 && 1 ≤ hi then 1 else 0

/-- Send a frame on a sending connection, `kind` 0 = DATA, 1 = CONNECT, 2 = CONNECT_ACK: natively, or through
Skidline's queue (R331). -/
def State.sendHinge (s : State) (c kind : Nat) (f : HFrame) : State :=
  if (s.cConn c).link = sklLink then (if s.skl.run then s.sklHinge (s.cConn c).peer kind f else s) else s.send (.hinge c kind f)

/-! ### Parameters -/

/-- The parameter-set CRC: CRC-32C over all parameters in ID order, each as 2 octets of ID and 8 of value (R337). -/
def paramCrc (t : Tab (Option DWord)) : Word := crc32c (t.foldl (fun l p => l ++ le 2 p.1 ++ le 8 (p.2.getD 0).toNat) [])

/-- The SAFETY points in point order: the k-th takes the five parameters from 0x1000 + 5 k (R337, assumption 10). -/
def State.safetyPoints (s : State) : List Nat := (s.lnd.pts.filter (fun p => p.2.cfg.safetyPt)).map (fun p => p.1)

/-- Apply the parameters of SAFETY points to the Stand Table (R337). -/
def State.applyPointParams (s : State) : State :=
  (s.safetyPoints.zip (List.range s.safetyPoints.length)).foldl (fun a x =>
    let id := 0x1000 + 5 * x.2
    if hasParam s.saf.params id then
      a.modPoint x.1 (fun p => { p with cfg := { p.cfg with
        min := BitVec.ofNat 64 (s.param id), max := BitVec.ofNat 64 (s.param (id + 1)), rate := BitVec.ofNat 32 (s.param (id + 2)),
        timeout := s.param (id + 3) % 65536, safe := BitVec.ofNat 64 (s.param (id + 4)) } })
    else a) s

/-- Fault and warning thresholds of a bay in Ω/V, with their defaults (R305, R337). -/
def State.isoFault (s : State) (n : Nat) : Nat := if hasParam s.saf.params (0x80 + n) then field (s.param (0x80 + n)) 0 32 else 100
def State.isoWarn (s : State) (n : Nat) : Nat := if hasParam s.saf.params (0x80 + n) then field (s.param (0x80 + n)) 32 32 else 500

/-- Earth-current levels of a bay in mA and the trip delay in ms, with their defaults (R312, R337, assumption 10). -/
def State.efPar (s : State) (n lo d : Nat) : Nat := if hasParam s.saf.params (0x90 + n) then field (s.param (0x90 + n)) lo 16 else d
def State.efWarn (s : State) (n : Nat) : Nat := s.efPar n 0 10
def State.efTrip (s : State) (n : Nat) : Nat := s.efPar n 16 30
def State.efDly (s : State) (n : Nat) : Nat := s.efPar n 32 100
def State.efFast (s : State) (n : Nat) : Nat := s.efPar n 48 300

/-- A number lies in a range. -/
def within (lo hi n : Nat) : Bool := decide (lo ≤ n) && decide (n ≤ hi)

/-- A value within its own fields' ranges (R305, R312, R325, R328, R332, R337; packing of assumption 10). -/
def paramInRange (id v : Nat) : Bool :=
  if 0x10 ≤ id && id < 0x20 then decide (field v 0 3 ≤ 6) && decide (field v 5 2 ≤ 2) && decide (v < 2 ^ 27)
  else if 0x80 ≤ id && id < 0x88 then within 50 500 (field v 0 32) && within (field v 0 32 + 1) 1000 (field v 32 32)
  else if 0x90 ≤ id && id < 0x98 then within 2 500 (field v 0 16) && within 5 500 (field v 16 16) && within 10 1000 (field v 32 16) && decide (50 ≤ field v 48 16)
  else if 0x100 ≤ id && id < 0x500 then within 1 1000 (field v 0 16) && within 5 1000 (field v 16 16) && within 1 255 (field v 32 8) && decide (v < 2 ^ 40)
  else if 0x1000 ≤ id && id % 5 = 0x1002 % 5 then decide (v < 2 ^ 32)
  else if 0x1000 ≤ id && id % 5 = 0x1003 % 5 then decide (v < 2 ^ 16)
  else true

/-- `EF_FAST` is at most 0.9 of a bay's earth-current full scale (R312). -/
def efOk (m : MetroCfg) (t : Tab (Option DWord)) : Bool :=
  (List.range 8).all (fun n => !hasParam t (0x90 + n) || !(tget {} m.bays n).meEn
    || decide (10 * field ((tget none t (0x90 + n)).getD 0).toNat 48 16 ≤ 9 * (tget {} m.bays n).fsE))

/-- A parameter set's rules that the spec states: pair modes and RESET inputs (R325, R328). -/
def paramsOk (get : Nat → Nat) : Bool :=
  (List.range 16).all (fun i =>
    let v := get (0x10 + i)
    let m := siMode v
    let e := 2 * (i / 2)
    let pair := !pairMode m || (decide (siMode (get (0x10 + e)) = m) && decide (siMode (get (0x10 + e + 1)) = m)
      && (decide (m = .ossd) || decide (siTpo (get (0x10 + e)) ≠ siTpo (get (0x10 + e + 1)))))
    let gov := if pairMode m then get (0x10 + e) else v
    let btn := decide (siReset gov ≠ .button) || !demandMode m || decide (siMode (get (0x10 + siButton gov)) = .reset)
    let disc := !pairMode m || (decide (10 ≤ siDisc gov) && decide (siDisc gov ≤ 500))
    pair && btn && disc)

end Sys2Proof.Machine
end

