-- ==== Sys2Proof/Machine/SafLog.lean ====
section
/-! DEFINITION. The safety change log (R341, R342) and the values an image gives the safety parameters (R92, R337). -/
namespace Sys2Proof.Machine

/-- Free places of the safety change log: 1,024 less the unarchived entries (R341, R342). -/
def State.safRoom (s : State) : Nat := 1024 - (s.saf.last - s.saf.archived)

/-- The side a log entry names: 0 = cores, 1 = PCIe, 2 = image, in bits 2:1 of FLAGS (R341). -/
def sideFlags (n : Nat) : BitVec 8 := BitVec.ofNat 8 (2 * n)

/-- Write one entry: number, version, time and TIME_UNVERIFIED are set here (R341). -/
def State.safLogPut (s : State) (e : SafLog) : State :=
  let l := s.saf.last + 1
  let e1 := { e with ver := s.fmtVer 0x02, time := s.now, flags := e.flags ||| BitVec.ofNat 8 (!s.verified).toNat }
  let s1 := { s with saf := { s.saf with log := tset {} (tset {} s.saf.log (l - 1024) {}) l e1, last := l } }
  s1.setEvtIf (decide (s1.safRoom < 64)) 0x0B 6

/-- The entry of a migration of the safety parameters (R92). -/
def State.safMigrated (s : State) : State :=
  s.safLogPut { kind := 3, flags := sideFlags 2, crcOld := paramCrc s.saf.params, crcNew := paramCrc s.saf.params }

/-- The 64 octets of an entry (R341). -/
def SafLog.bytes (cseq : Nat) (e : SafLog) : List Byte :=
  let b := le 2 e.ver ++ le 1 e.kind ++ le 1 e.flags.toNat ++ le 4 cseq ++ le 8 e.time.pack ++ le 2 e.paramId ++ le 2 e.count
    ++ le 8 e.old.toNat ++ le 8 e.new.toNat ++ le 4 e.crcOld.toNat ++ le 4 e.crcNew.toNat ++ List.replicate 16 0
  b ++ le 4 (crc32c b).toNat

/-- Take the parameters from the SAFETY section where its content is new, with its entry (R92, R337). -/
def State.safetyFromImage (s : State) : State :=
  if s.cfg.safetyDigest = some s.img.safety.digest then s
  else
    let t := tofList none (s.img.safety.params.map (fun p => (p.1, some p.2)))
    let kind := if s.saf.hasParams then 4 else 2
    let e : SafLog := { kind := kind, flags := sideFlags 2, count := t.length, crcOld := paramCrc s.saf.params, crcNew := paramCrc t }
    let s1 := { s with saf := { s.saf with params := t, hasParams := true, unconfirmed := false, affected := [] },
                       cfg := { s.cfg with safetyDigest := some s.img.safety.digest } }
    s1.safLogPut e

end Sys2Proof.Machine
end

