-- ==== Sys2Proof/Machine/Brand.lean ====
section
/-! DEFINITION. Brand: bus load, panel memory, updates and waveforms, temperature bands (R423 to R437). -/
namespace Sys2Proof.Machine

/-- Region `r` of panel `p`, as configured and at run time. -/
def State.cRegion (s : State) (p r : Nat) : RegionCfg := tget {} (s.cPanel p).regions r
def State.region (s : State) (p r : Nat) : Region := tget {} (s.panel p).regions r
def State.setRegion (s : State) (p r : Nat) (x : Region) : State := s.modPanel p (fun a => { a with regions := tset {} a.regions r x })

/-- Whether a region is a panel's legal region (R430). -/
def State.legalRegion (s : State) (p r : Nat) : Bool := (s.cPanel p).legal && decide (r = 0)

/-- Regions of a panel with a running waveform, INIT taking the whole panel (R436). -/
def State.runningRows (s : State) (p : Nat) (extra : Option Nat) : List (Nat × Nat) :=
  if (s.panel p).init.isSome then [(0, (s.cPanel p).height)]
  else ((List.range 16).filter (fun r => (s.region p r).running.isSome || extra = some r)).map
    (fun r => ((s.cRegion p r).y, (s.cRegion p r).h))

/-- The scan time of a panel's frame in 1/1280 µs: 60 µs, W/320 + 1 µs per driven row, 0.25 µs per other row (R424). -/
def scanUnits (width height : Nat) (rows : List (Nat × Nat)) : Nat :=
  let driven := ((List.range height).filter (fun y => rows.any (fun a => decide (a.1 ≤ y) && decide (y < a.1 + a.2)))).length
  76800 + driven * (4 * width + 1280) + (height - driven) * 320

/-- A panel's share of the bus load with its running waveforms (R425). -/
def loadShare (c : PanelCfg) (rows : List (Nat × Nat)) : Rat :=
  if rows.isEmpty then 0 else (scanUnits c.width c.height rows : Rat) / (c.tFrame * 1280000 : Nat)

/-- The bus load with one more waveform: on a region, or the whole panel for INIT (R425). -/
def State.busLoad (s : State) (add : Option (Nat × Option Nat)) : Rat :=
  (List.range 8).foldl (fun a p =>
    let c := s.cPanel p
    let rows := match add with
      | some (q, r) => if q = p then (match r with | none => [(0, c.height)] | some _ => s.runningRows p r) else s.runningRows p none
      | none => s.runningRows p none
    a + loadShare c rows) 0

/-- Waveforms running across all panels, INIT included (R433, R438). -/
def State.runningCount (s : State) : Nat :=
  (List.range 8).foldl (fun n p => n + (if (s.panel p).init.isSome then 1 else 0)
    + ((List.range 16).filter (fun r => (s.region p r).running.isSome)).length) 0

/-- Updates waiting across all panels (R438). -/
def State.waitingCount (s : State) : Nat :=
  (List.range 8).foldl (fun n p => n + ((List.range 16).filter (fun r => (s.region p r).waiting.isSome)).length) 0

/-- A panel has a running waveform. -/
def State.panelRuns (s : State) (p : Nat) : Bool :=
  (s.panel p).init.isSome || (List.range 16).any (fun r => (s.region p r).running.isSome)

/-- A panel has an update or an INIT waiting. -/
def State.panelWaits (s : State) (p : Nat) : Bool :=
  (s.panel p).initWait || (List.range 16).any (fun r => (s.region p r).waiting.isSome)

/-- A number of octets rounded up to 4 KiB (R432). -/
def up4k (n : Nat) : Nat := 4096 * divUp n 4096

/-- What a captured update of a region takes (R432). -/
def captureSpace (c : RegionCfg) : Nat := up4k (c.w * c.h * 3)

/-- The planes and legal reserves of all panels (R432). -/
def fixedSpace (b : BrandCfg) : Nat :=
  b.panels.foldl (fun n p => if p.2.used then n + p.2.width * p.2.height / 2
    + (if p.2.legal then captureSpace (tget {} p.2.regions 0) else 0) else n) 0

/-- What the waiting updates take of the capture pool (R432). -/
def State.poolUsed (s : State) : Nat :=
  (List.range 8).foldl (fun n p => (List.range 16).foldl (fun m r =>
    match (s.region p r).waiting with | some u => m + u.space | none => m) n) 0

/-- Whether a capture fits, counting what the replaced update returns (R432). -/
def State.captureFits (s : State) (p r : Nat) : Bool :=
  let back := match (s.region p r).waiting with | some u => u.space | none => 0
  decide (fixedSpace s.img.brand + s.poolUsed - back + captureSpace (s.cRegion p r) ≤ 16777216)

/-- The next update number: 32 bits from 1, wrapping (R439). -/
def nextUpd (n : Nat) : Nat := if n = 0xFFFFFFFF then 1 else n + 1

/-- The disposition of a new update of a region (R431). -/
def dispOf (g : Region) : Nat := if g.waiting.isSome then 2 else if g.running.isSome then 1 else 0

/-- Place a captured update (R431): it waits, or replaces the waiting one, which ends without running and whose place it
keeps. -/
def State.placeUpd (s : State) (p r : Nat) (u : Upd) : State :=
  let g := s.region p r
  let place := match g.waiting with | some w => w.place | none => s.brd.nextNo
  let s1 := s.setRegion p r { g with waiting := some { u with no := s.brd.nextNo, place := place } }
  let s2 := { s1 with brd := { s1.brd with nextNo := nextUpd s.brd.nextNo } }
  if g.waiting.isSome then (s2.modPanel p (fun a => { a with superseded := a.superseded + 1 })).setEvt 0x10 4 else s2

/-- A panel without a running waveform is idle and gives its permit back (R435). -/
def State.panelRest (s : State) (p : Nat) : State :=
  if s.panelRuns p then s
  else (s.release (.brandPanel p)).modPanel p (fun a => { a with permit := false, st := if a.st = .running then .idle else a.st })

/-- Ask for the rail permit where something waits and the rails are off (R435). -/
def State.askRails (s : State) : State :=
  if s.brd.rail = .off && !s.brd.askLater && (List.range 8).any (fun p => s.panelWaits p) && !s.asks .brandRail && !s.holds .brandRail then
    let p := s.permitCfg .brandRail
    s.present .brandRail p.power 0 p.prio p.wait
  else s

/-- Ask for the permits of panels that have something waiting while the rails are up; one with nothing running or waiting
gives its permit back (R435). -/
def State.askPanels (s : State) : State :=
  (List.range 8).foldl (fun a p =>
    if (a.panel p).permit && !a.panelWaits p then a.panelRest p
    else if decide (a.brd.rail = .up) && a.panelWaits p && !(a.panel p).permit && !(a.panel p).askLater && !a.asks (.brandPanel p) then
      let c := a.permitCfg .brandPanel
      a.present (.brandPanel p) c.power 0 c.prio c.wait
    else a) s

/-- The band of a temperature, from the present one: left only when a boundary is passed by 0.5 K (R429). -/
def nextBand (bounds : List Int) (hi : Int) (known : Bool) (b : Nat) (t : Int) : Nat :=
  if hi < t then 7
  else if !known then (bounds.filter (fun x => decide (x ≤ t))).length
  else
    let up := ((bounds.drop b).filter (fun x => decide (x + 5 ≤ t))).length
    let dn := ((bounds.take b).filter (fun x => decide (t ≤ x - 5))).length
    b + up - dn

/-- Bring a panel's temperature, band and flags up to date from its point (R429, R434). -/
def State.panelTemp (s : State) (p : Nat) : State :=
  let c := s.cPanel p
  if !c.used then s
  else
    let a := s.panel p
    let t := ratRound (s.consumed c.tempPt * 10)
    let inv := s.invalid c.tempPt
    (s.setPanel p { a with tNow := t, band := nextBand c.bounds c.tHi a.bandKnown a.band t, bandKnown := true,
                           tempInv := inv, cold := decide (t < c.tLo), hot := decide (c.tHi < t) }).setEvtIf (inv && !a.tempInv) 0x10 6

/-- Drop the waiting updates of a panel that reads COLD as they reach their start (R434). -/
def State.refuseCold (s : State) (p : Nat) : State :=
  (List.range 16).foldl (fun a r =>
    let g := a.region p r
    if g.waiting.isSome && g.running.isNone then (a.setRegion p r { g with waiting := none, last := .refused }).setEvt 0x10 1 else a) s

/-- Whether a panel may start a waveform now: permit, rails, not in INIT, idle or at its frame boundary (R433). -/
def State.panelReady (s : State) (boundary : Option Nat) (p : Nat) : Bool :=
  (s.cPanel p).used && (s.panel p).permit && decide (s.brd.rail = .up) && (s.panel p).init.isNone &&
  decide (s.runningCount < 16) && (!s.panelRuns p || boundary = some p)

/-- A waiting update that qualifies to start (R433). -/
def State.qualifies (s : State) (boundary : Option Nat) (p r : Nat) : Bool :=
  (s.region p r).waiting.isSome && (s.region p r).running.isNone && s.panelReady boundary p &&
  decide ((s.panel p).st ≠ .needsInit) && !(s.panel p).initWait && decide (s.busLoad (some (p, some r)) ≤ 4 / 5)

/-- The update to start first: legal regions, then by update number, a replacement in the place it kept (R431, R433). -/
def State.nextStart (s : State) (boundary : Option Nat) : Option (Nat × Nat) :=
  let all := (List.range 128).map (fun i => (i / 16, i % 16))
  (all.filter (fun x => s.qualifies boundary x.1 x.2)).foldl (fun b x =>
    match b with
    | none => some x
    | some y =>
      let key (z : Nat × Nat) : Nat := match (s.region z.1 z.2).waiting with | some u => u.place | none => 0
      if s.legalRegion x.1 x.2 && !s.legalRegion y.1 y.2 then some x
      else if s.legalRegion y.1 y.2 && !s.legalRegion x.1 x.2 then some y
      else if serialAfter (BitVec.ofNat 32 (key y)) (BitVec.ofNat 32 (key x)) then some x else some y) none

/-- Start an update: it takes its band and gives its space back (R432, R433). A legal region's first after INIT is
FULL (R437). -/
def State.startUpd (s : State) (p r : Nat) : State :=
  let g := s.region p r
  match g.waiting with
  | none => s
  | some u =>
    let a := s.panel p
    let m : BrdMode := if s.legalRegion p r && a.firstAfterInit then .full else u.mode
    (s.setRegion p r { g with running := some { u with band := a.band, frame := 0, mode := m, space := 0 }, waiting := none }).modPanel p
      (fun x => { x with st := .running, firstAfterInit := x.firstAfterInit && !s.legalRegion p r })

/-- Start INIT on the panels that need it before their waiting updates, or were asked for it (R433, R436). -/
def State.startInits (s : State) (boundary : Option Nat) : State :=
  (List.range 8).foldl (fun a p =>
    let x := a.panel p
    let due := (x.initWait || (decide (x.st = .needsInit) && a.panelWaits p))
    if due && a.panelReady boundary p && !a.panelRuns p && decide (a.busLoad (some (p, none)) ≤ 4 / 5) then
      a.setPanel p { x with init := some (0, x.band), st := .init, initWait := false }
    else a) s

/-- Start every qualifying update, one after another (R433). -/
def startLoop (boundary : Option Nat) : Nat → State → State
  | 0, s => s
  | n + 1, s => match s.nextStart boundary with
    | none => s
    | some x => startLoop boundary n (s.startUpd x.1 x.2)

/-- Every panel's temperature (R429). -/
def State.panelTemps (s : State) : State := (List.range 8).foldl (fun (a : State) p => a.panelTemp p) s

/-- Bring temperatures up to date, refuse what is cold, start what qualifies, and ask for permits (R429 to R435). -/
def State.brandRun (s : State) (boundary : Option Nat) : State :=
  let s1 := (List.range 8).foldl (fun (a : State) p => if (a.panel p).cold && a.panelReady boundary p then a.refuseCold p else a) s.panelTemps
  ((startLoop boundary 16 (s1.startInits boundary)).askRails).askPanels

/-- The curve output of a colour (R428). -/
def curveOut (c : PanelCfg) (band col v : Nat) : Nat := tget 0 c.curves (768 * band + 256 * col + v)

/-- Squared RGB distance of a pixel to reference colour `i` of a band (R428). -/
def distTo (c : PanelCfg) (band i : Nat) (r g b : Nat) : Int :=
  let q := tget (0, 0, 0) c.palette (4 * band + i)
  ((r : Int) - q.1) ^ 2 + ((g : Int) - q.2.1) ^ 2 + ((b : Int) - q.2.2) ^ 2

/-- The nearest reference colour; on equal distance the first of black, white, red, yellow (R428). Colours are
coded 0 = white, 1 = black, 2 = red, 3 = yellow. -/
def nearest (c : PanelCfg) (band r g b : Nat) : BitVec 2 :=
  let i := [1, 2, 3].foldl (fun best k => if distTo c band k r g b < distTo c band best r g b then k else best) 0
  match i with | 0 => 1 | 1 => 0 | 2 => 2 | _ => 3

/-- The target colour of a region's pixel at panel place (x, y) under an update (R428, R437). -/
def targetColour (c : PanelCfg) (g : RegionCfg) (u : Upd) (x y : Nat) : BitVec 2 :=
  match u.legal with
  | some l => Config.glyph l x y
  | none =>
    let o := 3 * ((y - g.y) * g.w + (x - g.x))
    let px (i : Nat) : Nat := (u.pixels.getD (o + i) 0).toNat
    let r := curveOut c u.band 0 (px 0)
    let gr := curveOut c u.band 1 (px 1)
    let b := curveOut c u.band 2 (px 2)
    let n := nearest c u.band r gr b
    if u.dither then Config.dithered r gr b (x % 4) (y % 4) n else n

/-- Change the pixels of a rectangle of a panel's image. -/
def paint (c : PanelCfg) (g : RegionCfg) (f : Nat → Nat → BitVec 2) (im : Tab (BitVec 2)) : Tab (BitVec 2) :=
  (List.range g.h).foldl (fun a j => (List.range g.w).foldl (fun b i =>
    tset 0 b ((g.y + j) * c.width + g.x + i) (f (g.x + i) (g.y + j))) a) im

/-- A region's waveform completes: its pixels have their target colours (R429, R431). -/
def State.waveDone (s : State) (p r : Nat) (u : Upd) : State :=
  let g := s.region p r
  let s1 := s.setRegion p r { g with running := none, last := .done }
  (s1.modPanel p (fun a => { a with runs := a.runs + 1, legalShown := if s.legalRegion p r then u.legal else a.legalShown, image := paint (s.cPanel p) (s.cRegion p r) (targetColour (s.cPanel p) (s.cRegion p r) u) a.image })).setEvt 0x10 0

/-- A running waveform is cut: what its pixels show is a free value (R427, R436). -/
def State.waveCut (s : State) (p r : Nat) : State :=
  let g := s.region p r
  let d := s.draw
  let s1 := d.2.setRegion p r { g with running := none, last := .cut }
  let f : Nat → Nat → BitVec 2 := fun x y => (Config.freeByte d.1 (y * 2048 + x)).setWidth 2
  (s1.modPanel p (fun a => { a with image := paint (s.cPanel p) (s.cRegion p r) f a.image })).setEvt 0x10 5

/-- The frames of a band's waveform (R429). -/
def framesOf (c : PanelCfg) (band : Nat) : Nat := max 1 (c.nFrames.getD band 1)

/-- Advance the waveforms of a panel by one frame (R424, R431). -/
def State.advanceFrame (s : State) (p : Nat) : State :=
  let c := s.cPanel p
  let s0 := s.modPanel p (fun a => { a with scan := scanUnits c.width c.height (s.runningRows p none) / 1280 })
  let s1 := match (s0.panel p).init with
    | some (f, b) =>
      if framesOf c b ≤ f + 1 then
        (s0.modPanel p (fun a => { a with init := none, st := .idle, runs := a.runs + 1, image := [], firstAfterInit := true, legalShown := none })).setEvt 0x10 0
      else s0.modPanel p (fun a => { a with init := some (f + 1, b) })
    | none => s0
  (List.range 16).foldl (fun a r =>
    match (a.region p r).running with
    | some u => if framesOf c u.band ≤ u.frame + 1 then a.waveDone p r u
        else a.setRegion p r { a.region p r with running := some { u with frame := u.frame + 1 } }
    | none => a) s1

/-- Cut every running waveform and, where asked, drop what waits (R427, R436). -/
def State.brandCut (s : State) (drop : Bool) : State :=
  (List.range 8).foldl (fun a p =>
    let a0 := if (a.panel p).init.isSome then
        let d := a.draw
        let f : Nat → Nat → BitVec 2 := fun i j => (Config.freeByte d.1 (j * 2048 + i)).setWidth 2
        let whole : RegionCfg := { w := (a.cPanel p).width, h := (a.cPanel p).height }
        (d.2.modPanel p (fun x => { x with init := none, st := .needsInit, image := paint (a.cPanel p) whole f x.image })).setEvt 0x10 5
      else a
    let a1 := (List.range 16).foldl (fun b r =>
      let b1 := if (b.region p r).running.isSome then b.waveCut p r else b
      if drop then b1.setRegion p r { b1.region p r with waiting := none } else b1) a0
    ((a1.release (.brandPanel p)).modPanel p (fun x => { x with permit := false, initWait := x.initWait && !drop, st := if x.st = .running then .idle else x.st }))) s

/-- The rails stop in reverse order and their permit goes back; the order and the discharge take no command of their own
(R426, R435). -/
def State.railsStop (s : State) (r : RailSt) : State :=
  let s1 := s.release .brandRail
  { s1 with brd := { s1.brd with rail := r, railPermit := false } }

/-- The nominal values of the rails in mV, in the order they start: VGL, VGH, VSL, VSH, VCOM of a panel (R423, R426). -/
def railMv (c : PanelCfg) (rail : Nat) : Int := [-20000, 22000, -15000, 15000, -(10 * (c.vcom : Int))].getD rail 0

/-- A rail at fault: while the rails start it misses 90 % of its value at its 5 ms; once they are up it leaves ±10 % (R427). -/
def State.railBad (s : State) (panel rail : Nat) (mv : Int) : Bool :=
  let v := railMv (s.cPanel panel) rail
  decide (rail < 5) && ((decide (s.brd.rail = .starting) && decide ((if v < 0 then -mv else mv) * 10 < 9 * (v.natAbs : Int)))
    || (decide (s.brd.rail = .up) && decide (v.natAbs < (mv - v).natAbs * 10)))

/-- The drive code of a waveform frame for a pixel: 0b00 in PARTIAL where the pixel has its target already (R424, R429). -/
def driveCode (c : PanelCfg) (band : Nat) (mode : BrdMode) (frame : Nat) (present target : BitVec 2) : BitVec 2 :=
  if mode = .partly && present = target then 0
  else tget 0 c.waves (((3 * band + (match mode with | .init => 0 | .partly => 2 | _ => 1)) * 4096 + frame) * 16 + 4 * present.toNat + target.toNat)

/-- What `BRD_D` carries for a pixel in the panel's present frame: the code of the waveform that runs there, 0b00 (VCOM)
where none does (R424, R429, R436). -/
def State.drive (s : State) (p x y : Nat) : BitVec 2 :=
  let c := s.cPanel p
  let now := tget 0 (s.panel p).image (y * c.width + x)
  match (s.panel p).init with
  | some (f, b) => driveCode c b .init f now 0
  | none =>
    let at_ (r : Nat) : Bool := let g := s.cRegion p r
      g.used && decide (g.x ≤ x) && decide (x < g.x + g.w) && decide (g.y ≤ y) && decide (y < g.y + g.h)
    match (List.range 16).find? (fun r => at_ r && (s.region p r).running.isSome) with
    | some r => (match (s.region p r).running with
      | some u => driveCode c u.band u.mode u.frame now (targetColour c (s.cRegion p r) u x y)
      | none => 0)
    | none => 0

/-- The captured octets of a region: its rows from General (R431, R439). -/
def State.captureRows (s : State) (off stride : Nat) (g : RegionCfg) : List Byte :=
  (List.range g.h).foldl (fun l j => l ++ s.readMem (landing (off + j * stride)) (3 * g.w)) []

/-- Tally asks for its legal region to show something (R437). -/
def State.legalRequest (s : State) (p : Nat) (shown : List Nat) : State :=
  if (s.cPanel p).used && (s.cPanel p).legal && s.brd.rail ≠ .fault then
    (s.placeUpd p 0 { mode := .partly, legal := some shown }).brandRun none
  else s

end Sys2Proof.Machine
end

