-- ==== Sys2Proof/Machine/Imd.lean ====
section
/-! DEFINITION. The IMD: values of a half-period, decisions, the reference check and coupling groups (R301 to R314).
What a decision does to a session is in Session.lean. -/
namespace Sys2Proof.Machine

/-- A contactor's feedback as the functions that use it read it: an input in FAULT reads as open (R327). -/
def State.fb1 (s : State) (n : Nat) : Bool := (s.bay n).fbK1 && !(s.sin (s.cBay n).siK1).fault
def State.fb2 (s : State) (n : Nat) : Bool := (s.bay n).fbK2 && !(s.sin (s.cBay n).siK2).fault
def State.fb3 (s : State) (n : Nat) : Bool := (s.bay n).fbK3 && !(s.sin (s.cBay n).siK3).fault

/-- A contactor of a bay is closed as the IMD sees it: its coil conducts or its feedback reports closed (R303, R305). -/
def State.k1On (s : State) (n : Nat) : Bool := chConducts (s.chan (s.cBay n).chK1).st || s.fb1 n
def State.k2On (s : State) (n : Nat) : Bool := chConducts (s.chan (s.cBay n).chK2).st || s.fb2 n
def State.k3On (s : State) (n : Nat) : Bool := chConducts (s.chan (s.cBay n).chK3).st || s.fb3 n
def State.kOn (s : State) (n : Nat) : Bool := s.k1On n || s.k2On n

/-- A contactor coil of a bay is energised. -/
def State.coilOn (s : State) (n : Nat) : Bool :=
  chConducts (s.chan (s.cBay n).chK1).st || chConducts (s.chan (s.cBay n).chK2).st || chConducts (s.chan (s.cBay n).chK3).st

/-- `U_REF` of a bay: while it follows, that of the injecting bay (R305, R311). -/
def State.uRefNow (s : State) (n : Nat) : Nat :=
  if (s.imdB n).st = .following then (s.imdB (s.imdB n).groupSrc).uRef else (s.imdB n).uRef

/-- The reference voltage of a bay's thresholds in V: `U_REF`, else the rated voltage (R305). -/
def State.uRef (s : State) (n : Nat) : Nat := if s.uRefNow n = 0 then (s.cBay n).ratedV else s.uRefNow n

/-- The absolute thresholds in ohm (R305). -/
def State.faultOhm (s : State) (n : Nat) : Nat := s.isoFault n * s.uRef n
def State.warnOhm (s : State) (n : Nat) : Nat := s.isoWarn n * s.uRef n

/-- What an IMD decision tells the session engine. -/
inductive ImdAct | alarm | warn | measFault | refPass | result (ohm : Nat)
deriving DecidableEq, Repr

/-- A resistance as reported (R304). -/
def reportOhm (r : Int) : Nat := if r < 1000 then 0 else if 10000000 < r then 0xFFFFFFFF else r.toNat

/-- The insulation from the difference of two settled currents in nA, the series resistance in ohm not yet taken off;
none for no difference (R303). -/
def loopOhm (d : Nat) : Option Int := if d = 0 then none else some (divRound 40000000000 d)

/-- `C_Y` in nF from τ in 0.1 ms, with `R_CPL` parallel to R_F, saturating (R303, R315). -/
def capNf (tau rc : Nat) (rf : Option Int) : Nat :=
  match rf with
  | none => satTo 65535 (if rc = 0 then 65535 else (divRound (tau * 100000) rc).toNat)
  | some r => if r ≤ 0 || rc = 0 then 65535 else satTo 65535 (divRound (tau * 100000 * (rc + r)) (rc * r.toNat)).toNat

/-- The next half-period in 10 ms: 1.5 τ rounded up, 50 to 200 ms (R303). -/
def nextTh (tau : Nat) : Nat := max 5 (min 20 (divUp (3 * tau) 200))

/-- Raise a measuring fault: latched, it acts as an alarm (R306, R314). -/
def ImdBay.fault (b : ImdBay) (c : ImdCause) : ImdBay :=
  if b.measFault then b
  else { b with measFault := true, cause := c, lineHeld := true, st := if b.st = .refCheck then .refCheck else .held, alarms := satTo 65535 (b.alarms + 1) }

/-- Latch the isolation alarm (R306, R314). -/
def ImdBay.isoAlarm (b : ImdBay) : ImdBay :=
  if b.alarm then b else { b with alarm := true, lineHeld := true, st := .held, alarms := satTo 65535 (b.alarms + 1) }

/-- A value of the reference check within 5 % of 1 MΩ (R309). -/
def refOk (v : Option Int) : Bool := match v with | some r => decide (950000 ≤ r) && decide (r ≤ 1050000) | none => false

/-- The settings and thresholds a half-period is judged by. -/
structure ImdEnv where
  rCpl : Nat := 300000
  cyMin : Nat := 0
  cyMax : Nat := 100
  fault : Nat := 0
  warn : Nat := 0
  /-- The cable check's output has settled (R309 step 3). -/
  settled : Bool := false

/-- A rejected value (R306): three among the last four raise a measuring fault. -/
def ImdBay.reject (b : ImdBay) : ImdBay × List ImdAct :=
  let l := (true :: b.last4).take 4
  let b1 := { b with last4 := l, rejects := b.rejects + 1, clearMs := 0 }
  if 3 ≤ (l.filter id).length && !b1.measFault then (b1.fault .rejections, [.measFault]) else (b1, [])

/-- One half-period of the reference check (R309 step 1): 250 ms hold five half-periods, and the first forms no value. -/
def ImdBay.refHalf (b : ImdBay) (valid : Bool) (v : Option Int) : ImdBay × List ImdAct :=
  let b1 := { b with refHalves := b.refHalves + 1 }
  if valid && refOk v && b.lastVal.isSome then ({ b1 with refFailed := false, lastVal := none }, [.refPass])
  else if (valid && !refOk v) || 4 ≤ b1.refHalves then
    (({ b1 with refFailed := true, lastVal := none }).fault .ref, [.measFault])
  else ({ b1 with lastVal := if valid then v.map Int.toNat else none }, [])

/-- A valid value's decisions (R306): alarm, warning and its clearing, capacitance limits. In the cable check a value counts
once the output has settled (R309 step 3). -/
def ImdBay.decide (b : ImdBay) (e : ImdEnv) (counts : Bool) (rf cy : Nat) : ImdBay × List ImdAct :=
  let nf := if counts && Decidable.decide (rf ≤ e.fault) then b.lowFault + 1 else 0
  let nw := if counts && Decidable.decide (rf ≤ e.warn) then b.lowWarn + 1 else 0
  let above := Decidable.decide (12 * e.warn < 10 * rf)
  let cl := if above then b.clearMs + 10 * b.tH else 0
  let newWarn := Decidable.decide (2 ≤ nw) && !b.warn
  let b1 := { b with lowFault := nf, lowWarn := nw, clearMs := cl, warn := (b.warn || newWarn) && !(Decidable.decide (2000 ≤ cl)), last4 := (false :: b.last4).take 4 }
  let bad := counts && (Decidable.decide (10 * e.cyMax < cy) || Decidable.decide (cy < e.cyMin))
  let b2 := if bad && !b1.measFault then b1.fault (if 10 * e.cyMax < cy then .cyHigh else .cyLow) else b1
  let al := Decidable.decide (2 ≤ nf) && !b.alarm
  let b3 := if al then b2.isoAlarm else b2
  let a1 := if newWarn then [ImdAct.warn] else []
  let a2 := if bad && !b1.measFault then [ImdAct.measFault] else []
  let a3 := if al then [ImdAct.alarm] else []
  (b3, a1 ++ a2 ++ a3)

/-- The cable check's result (R309 step 4): the lower of two consecutive counted values no more than 10 % apart, both
with `C_Y` within limits. -/
def ImdBay.cable (b : ImdBay) (e : ImdEnv) (rf cy : Nat) : ImdBay × List ImdAct :=
  if !e.settled then ({ b with lastVal := none }, [])
  else
    let cOk := Decidable.decide (e.cyMin ≤ cy) && Decidable.decide (cy ≤ 10 * e.cyMax)
    match b.lastVal with
    | some p =>
      let lo := min p rf
      if cOk && Decidable.decide (10 * (max p rf - lo) ≤ lo) then (b, [.result lo]) else ({ b with lastVal := if cOk then some rf else none }, [])
    | none => ({ b with lastVal := if cOk then some rf else none }, [])

/-- The end of one injection half-period: settled current in nA, fit residual in nA, τ in 0.1 ms, and whether the
current reached ±2.0 mA (R303 to R309). -/
def ImdBay.half (b' : ImdBay) (e : ImdEnv) (check : Bool) (iInf : Int) (residual tau : Nat) (ovr : Bool) : ImdBay × List ImdAct :=
  let b := { b' with pos := !b'.pos }
  match b.prevI with
  | none => ({ b with prevI := some iInf, prevRej := ovr }, [])
  | some p =>
    let d := (iInf - p).natAbs
    let rej := ovr || Decidable.decide (d < 50 * residual)
    let b0 := { b with prevI := some iInf, prevRej := rej }
    let valid := !rej && !b.prevRej
    if b.st = .refCheck then b0.refHalf valid (loopOhm d)
    else if !valid then b0.reject
    else
      let rf : Option Int := (loopOhm d).map (fun (r : Int) => r - (e.rCpl : Int))
      let rep := match rf with | some r => reportOhm r | none => 0xFFFFFFFF
      let cy := capNf tau e.rCpl rf
      let r := b0.decide e (!check || e.settled) rep cy
      let c := if check then r.1.cable e rep cy else (r.1, [])
      ({ c.1 with valid := true, rF := rep, cY := cy, tau := satTo 65535 tau, tH := nextTh tau }, r.2 ++ c.2)

/-- Start measuring anew: counts and latches of the last injection are cleared (R306, R311). -/
def ImdBay.fresh (b : ImdBay) (st : ImdSt) : ImdBay :=
  { b with st := st, prevI := none, prevRej := true, last4 := [], lowFault := 0, lowWarn := 0, clearMs := 0, lastVal := none,
           settledMs := 0, refHalves := 0, efPeak := 0, valid := false, pos := true, tH := if st = .refCheck then 5 else b.tH }

/-- Injection stops: latches end; a failed reference check and a lost or standing earth current stay (R306, R310, R313). -/
def ImdBay.stop (b : ImdBay) : ImdBay :=
  let b1 := b.fresh .off
  let keep := b.refFailed || Decidable.decide (b.cause = .menLost) || Decidable.decide (b.cause = .standing)
  { b1 with alarm := false, warn := false, efAlarm := false, lineHeld := false, lineSeen := false,
            measFault := b.measFault && keep, cause := if keep then b.cause else .none }

/-- The bay that injects for a bay's group: the lowest-numbered one of the group with K2 closed (R311). -/
def State.injector (s : State) (n : Nat) : Nat :=
  let g := (s.cBay n).group
  if g = 0 then n
  else ((List.range 8).find? (fun m => (s.cBay m).enabled && decide ((s.cBay m).group = g) && s.k2On m)).getD n

/-- The injection driver's level on `IMDn_INJ` in units of 20 V: none, high impedance, while it is off or on the internal
reference (R47, R301, R309). -/
def State.imdInj (s : State) (n : Nat) : Option Int :=
  let b := s.imdB n
  if s.sys.inReset || b.st = .off || b.st = .refCheck || b.st = .following then none else some (if b.pos then 1 else -1)

/-- Bring one bay's injection up to date with its contactors: of a group whose outputs are joined only one bay injects (R303,
R311). -/
def State.imdSyncOne (s : State) (n : Nat) : State :=
  let b := s.imdB n
  if !(s.cBay n).enabled || b.st = .refCheck then s
  else if s.kOn n then
    let m := s.injector n
    if m ≠ n && s.k2On n then (if b.st = .following then s.setImdB n { b with groupSrc := m } else s.setImdB n { b.fresh .following with groupSrc := m })
    else if m ≠ n then (if b.st = .off then s else s.setImdB n b.stop)
    else if b.st = .off || b.st = .following then s.setImdB n (b.fresh .measuring)
    else s
  else if b.st = .off then s
  else s.setImdB n b.stop

/-- Bring every bay's injection up to date. -/
def State.imdSync (s : State) : State := (List.range 8).foldl (fun a n => a.imdSyncOne n) s

/-- The settings a bay's half-period is judged by. -/
def State.imdEnv (s : State) (n : Nat) : ImdEnv :=
  let c := s.cBay n
  { rCpl := c.rCpl * 1000, cyMin := c.cyMin, cyMax := c.cyMax, fault := s.faultOhm n, warn := s.warnOhm n, settled := decide (100 ≤ (s.imdB n).settledMs) }

/-- The events of a bay's decision (R315). -/
def State.imdEvents (s : State) (n : Nat) (acts : List ImdAct) : State :=
  ((s.setEvtIf (acts.contains .alarm) 0x0A n).setEvtIf (acts.contains .warn) 0x0A (8 + n)).setEvtIf (acts.contains .measFault) 0x0A (16 + n)

/-- A following bay takes the injecting bay's values and decisions (R311). -/
def ImdBay.follow (b src : ImdBay) : ImdBay :=
  { b with valid := src.valid, rF := src.rF, cY := src.cY, tau := src.tau, warn := src.warn,
           alarm := src.alarm, measFault := src.measFault, cause := src.cause, lineHeld := src.lineHeld }

/-- A bay's earth current stands above `EF_TRIP` with its contactors open, `MEn` is lost, or its last reference check
failed: no session passes into CABLE_CHECK (R310, R313). -/
def State.imdBlocked (s : State) (n : Nat) : Bool :=
  let b := s.imdB n
  b.refFailed || (b.measFault && (decide (b.cause = .menLost) || decide (b.cause = .standing)))

end Sys2Proof.Machine
end

