-- ==== Sys2Proof/Machine/Calendar.lean ====
section
/-! DEFINITION. Dates, local time and the calendar tariff (R256 to R258, R266). UTC is counted in seconds since
2000-01-01T00:00:00. -/
namespace Sys2Proof.Machine

/-- A year's length and a month's. -/
def leapYear (y : Nat) : Bool := decide (y % 4 = 0) && (decide (y % 100 ≠ 0) || decide (y % 400 = 0))
def monthDays (y m : Nat) : Nat :=
  if m = 2 then (if leapYear y then 29 else 28) else if m = 4 || m = 6 || m = 9 || m = 11 then 30 else 31

/-- Days from 2000-01-01 to the first of a year. -/
def yearDay (y : Nat) : Nat := let n := y - 2000; 365 * n + (n + 3) / 4 - (n + 99) / 100 + (n + 399) / 400

/-- Days from 2000-01-01 to a date. -/
def dateDay (y m d : Nat) : Nat := yearDay y + ((List.range (m - 1)).map (fun i => monthDays y (i + 1))).foldl (fun a b => a + b) 0 + (d - 1)

/-- The year of a day number. -/
def yearOf (n : Nat) : Nat :=
  let y := 2000 + n / 366
  if n < yearDay (y + 1) then y else if n < yearDay (y + 2) then y + 1 else
    ((List.range (n / 366 + 2)).map (fun i => y + 2 + i)).find? (fun z => decide (n < yearDay (z + 1))) |>.getD y

/-- Month and day of a day of a year. -/
def monthDay (y : Nat) : Nat → Nat → Nat → Nat × Nat
  | 0, m, d => (m, d + 1)
  | n + 1, m, d => if d < monthDays y m then (m, d + 1) else monthDay y n (m + 1) (d - monthDays y m)

/-- Year, month and day of a day number. -/
def civil (n : Nat) : Nat × Nat × Nat :=
  let y := yearOf n
  (y, monthDay y 12 1 (n - yearDay y))

/-- The weekday of a day number, Monday = 0; 2000-01-01 was a Saturday. -/
def weekday (n : Nat) : Nat := (n + 5) % 7

/-- The day number of a daylight rule's point in a year; week 5 is the last (R256). -/
def dstDay (y : Nat) (p : DstPoint) : Nat :=
  let first := dateDay y p.month 1
  let d := first + (p.weekday + 7 - weekday first) % 7 + 7 * (p.week - 1)
  if d < first + monthDays y p.month then d else d - 7

/-- Minutes since 2000 in local standard time. -/
def stdMinute (c : CalCfg) (utc : Int) : Int := (utc + 60 * c.offsetMin) / 60

/-- Daylight time holds at a standard local minute: from the start point on the standard clock to the end point on
the daylight clock (R256). -/
def dstAt (c : CalCfg) (m : Int) : Bool :=
  match c.dst with
  | none => false
  | some (a, b) =>
    let y := yearOf (m / 1440).toNat
    let st : Int := dstDay y a * 1440 + a.minute
    let en : Int := dstDay y b * 1440 + b.minute - 60
    if st < en then decide (st ≤ m) && decide (m < en) else decide (st ≤ m) || decide (m < en)

/-- The local minute that decides the tariff: in the second pass of a repeated hour its last minute, so that a
switch time inside it applies at its first pass only (R257). -/
def localMinute (c : CalCfg) (utc : Int) : Int :=
  let m := stdMinute c utc
  if dstAt c m then m + 60
  else if dstAt c (m - 60) then
    match c.dst with
    | some (_, b) => dstDay (yearOf (m / 1440).toNat) b * 1440 + b.minute - 1
    | none => m
  else m

/-- The week profile of the season of a month and day (R257). -/
def seasonOf (l : List (Nat × Nat × Nat)) (m d : Nat) : Nat :=
  let key (x : Nat × Nat × Nat) : Nat := 32 * x.1 + x.2.1
  let best (t : List (Nat × Nat × Nat)) : Option (Nat × Nat × Nat) :=
    t.foldl (fun b x => match b with | none => some x | some y => if key y ≤ key x then some x else some y) none
  match best (l.filter (fun x => key x ≤ 32 * m + d)) with
  | some x => x.2.2
  | none => (match best l with | some x => x.2.2 | none => 0)

/-- The day profile of a day number (R257). -/
def dayProfile (c : CalCfg) (n : Nat) : Nat :=
  let x := civil n
  match c.specials.find? (fun p => decide (p.1 = x.1) && decide (p.2.1 = x.2.1) && decide (p.2.2.1 = x.2.2)) with
  | some p => p.2.2.2
  | none => match c.specials.find? (fun p => decide (p.1 = 0) && decide (p.2.1 = x.2.1) && decide (p.2.2.1 = x.2.2)) with
    | some p => p.2.2.2
    | none => (c.weeks.getD (seasonOf c.seasons x.2.1 x.2.2) []).getD (weekday n) 0

/-- The calendar tariff at a time, 0 to 7 (R257). -/
def calTariff (c : CalCfg) (utc : Int) : Nat :=
  let m := (localMinute c utc).toNat
  let sw := c.days.getD (dayProfile c (m / 1440)) []
  match (sw.filter (fun x => x.1 ≤ m % 1440)).getLast? with
  | some x => x.2 - 1
  | none => 0

/-- A monthly billing boundary lies at a UTC second (R256, R266). -/
def periodAt (c : CalCfg) (utc : Int) : Bool :=
  match c.period with
  | none => false
  | some (d, minute) =>
    let m := stdMinute c utc
    let l := if dstAt c m then m + 60 else m
    decide (utc % 60 = 0) && decide ((civil (l.toNat / 1440)).2.2 = d) && decide (l.toNat % 1440 = minute) && !(dstAt c (m - 60) && !dstAt c m)

/-- A demand interval ends here: a UTC instant that is a multiple of 900 s (R258). -/
def State.onInterval (s : State) : Bool := decide (s.tim.ns = 0) && decide (s.utcSince2000 % 900 = 0)

/-- The present UTC in units of 10 ms since 2000 (R260). -/
def State.utc10ms (s : State) : Nat := (s.utcSince2000 * 100).toNat + s.tim.ns / 10000000

end Sys2Proof.Machine
end

