-- ==== Sys2Proof/Machine/Scaler.lean ====
section
/-! DEFINITION. Scaler: calibration, ranges, energy of a sample and of a tick, checks and pulse outputs (R222 to
R245). What a lost channel or a limit does to a session is in the commands' own files. -/
namespace Sys2Proof.Machine

/-- The code limit of ±0.85 x 2^23, in tenths of a code (R229). -/
def clip10 : Nat := 71303168

/-- A code is beyond the overrange limit (R229). -/
def overrange (code : Int) : Bool := decide (clip10 < 10 * code.natAbs)

/-- A code in tenths, clipped (R229). -/
def clipped (code : Int) : Int := clampInt (-(clip10 : Int)) clip10 (10 * code)

/-- A calibrated value in units of 2^-16 from a code in tenths; `fs` is the full scale and `div` what divides it
(R232, rounding assumption 8). -/
def calibrate (gain off : Int) (fs div : Nat) (code10 : Int) : Int :=
  divRound ((code10 - 10 * off) * gain * fs) (10 * 16384 * 6710886 * div)

/-- The calibration of a bay. -/
def State.calOf (s : State) (n : Nat) : CalVals := tget {} s.scl.cal n

/-- A bay's metering runs: enabled and validly calibrated (R220, R232). -/
def State.meters (s : State) (n : Nat) : Bool := (s.cBay n).enabled && s.scl.calOk.getLsbD n

/-- A bay's range is locked to HIGH (R229, R247). -/
def lockedHigh (b : MBay) : Bool := b.lockHigh || b.lossIl

/-- A sample counts for energy: voltage and high-range current are not lost (R229, R236). -/
def sampleValid (b : MBay) : Bool := !b.lossV && !b.lossIh

/-- What one sample of a bay comes to: voltage, selected current, whether the low range gave it, clipping, and the
bay's range state after it (R226, R229, R232). -/
structure Sampled where
  v : Int := 0
  i : Int := 0
  e : Int := 0
  lowUsed : Bool := false
  ovr : Bool := false
  low : Bool := false
  switched : Bool := false
  below : Bool := false
  /-- Both current values, and whether the sample keeps a cross-check window from counting (R229). -/
  ih : Int := 0
  il : Int := 0
  void : Bool := false

/-- Calibrate a bay's sample and choose its range; a disabled channel's input is ignored (R220, R226, R227, R232). -/
def sampleOf (m : MeterCfg) (k : CalVals) (b : MBay) (c : BayCodes) : Sampled :=
  let v := if m.mvEn then calibrate k.gainV k.offV m.fsV 1 (clipped c.v) else 0
  let ih := if m.mihEn then calibrate k.gainIh k.offIh m.fsIh 1 (clipped c.ih) else 0
  let il := if m.milEn then calibrate k.gainIl k.offIl m.fsIh 64 (clipped c.il) else 0
  let beyond := decide (m.fsIh * 9216 < 10 * il.natAbs)
  let ovr := beyond || (m.milEn && overrange c.il)
  let useLow := b.low && !ovr
  { v := v, i := if useLow then il else ih, e := if m.meEn then calibrate k.gainE k.offE m.fsE 1000 (clipped c.e) else 0, lowUsed := useLow,
    ovr := (m.mvEn && overrange c.v) || (m.mihEn && overrange c.ih), low := useLow, switched := b.low && ovr,
    below := decide (100 * il.natAbs < m.fsIh * 65536), ih := ih, il := il, void := beyond || b.lossIh || b.lossIl }

/-- The power at the connector in units of 2^-32 x 10^-6 W (R236). -/
def powerNum (v i : Int) (rCable : Nat) : Int := v * i * 1000000 - i * i * rCable

/-- What divides a tick's sum into microjoules (R237). -/
def uJden : Nat := 8589934592 * 1000000

/-- A mean over `n` samples; 0 of none. -/
def meanOf (sum : Int) (n : Nat) : Int := if n = 0 then 0 else divRound sum n

/-- One of the four quantities over the newest samples, as a mean of those there are (R224). -/
def histMean (l : List (Int × Int × Int × Int)) (n : Nat) (f : Int × Int × Int × Int → Int) : Int :=
  let t := l.take n
  meanOf (t.foldl (fun a x => a + f x) 0) t.length

/-- The running means with one more sample (R224). -/
def means (b : MBay) (v i e p : Int) : MBay :=
  let h := ((v, i, e, p) :: b.hist).take 1600
  { b with hist := h, tickE := b.tickE + e, n1 := (b.n1 + 1) % 16, n100 := (b.n100 + 1) % 1600,
           mean1V := histMean h 16 (fun x => x.1), mean1I := histMean h 16 (fun x => x.2.1), mean1E := histMean h 16 (fun x => x.2.2.1),
           mean100V := histMean h 1600 (fun x => x.1), mean100I := histMean h 1600 (fun x => x.2.1),
           mean100P := divRound (histMean h 1600 (fun x => x.2.2.2)) (4294967296 * 1000000) }

/-- The length of a cross-check window (R229). -/
def xchkLen : Nat := 16000

/-- One more sample of the cross-check window; a full window that was judged or not makes way for the next (R229). -/
def xchkAdd (b : MBay) (x : Sampled) : MBay :=
  if b.xchkN < xchkLen then { b with xchkN := b.xchkN + 1, xchkHi := b.xchkHi + x.ih, xchkLo := b.xchkLo + x.il, xchkVoid := b.xchkVoid || x.void }
  else { b with xchkN := 1, xchkHi := x.ih, xchkLo := x.il, xchkVoid := x.void }

/-- One sample of one bay (R222 to R237). -/
def bayUpdate (metered : Bool) (k : CalVals) (b : MBay) (x : Sampled) : MBay :=
  let p := powerNum x.v x.i k.rCable
  let ok := sampleValid b
  let b0 := { b with low := x.low, rangeSw := if x.switched then b.rangeSw + 1 else b.rangeSw,
                     lowCnt := if x.low || !x.below || lockedHigh b then 0 else b.lowCnt + 1 }
  let b1 := means (xchkAdd b0 x) x.v x.i x.e p
  if metered then
    { b1 with eSum := if ok then b.eSum + 125 * p else b.eSum, tickI := if ok then b.tickI + x.i else b.tickI,
              tickV := b.tickV + x.v, tickN := b.tickN + 1, tickGap := if ok then b.tickGap else b.tickGap + 1,
              tickOvr := b.tickOvr || x.ovr, tickMflt := b.tickMflt || b.mfault, tickLow := b.tickLow || x.lowUsed }
  else { b1 with tickI := b.tickI + x.i, tickV := b.tickV + x.v, tickN := b.tickN + 1, fillI := b.fillI + x.i, fillN := b.fillN + 1 }

/-- Give the bay's 100 ms means to the points that METROMAP names, in V, A and W (R224, assumption 26). -/
def State.meanPoints (s : State) (n : Nat) : State :=
  let m := s.cMeter n
  let b := s.mbay n
  let put (a : State) (p : Option Nat) (q : Rat) : State := match p with | some g => a.engineUpdate g q false | none => a
  put (put (put s m.ptV ((b.mean100V : Rat) / 65536)) m.ptI ((b.mean100I : Rat) / 65536)) m.ptP (b.mean100P : Rat)

/-- One sample of a bay in the state. -/
def State.sampleBay (s : State) (n : Nat) (c : BayCodes) : State :=
  if s.meters n then
    let b := s.mbay n
    let x := sampleOf (s.cMeter n) (s.calOf n) b c
    let s0 := (s.setMbay n (bayUpdate s.scl.metered (s.calOf n) b x)).setEvtIf x.ovr 0x07 (8 + n)
    let s1 := if (s.cMeter n).meEn && (s.imdB n).st ≠ .off then
      s0.modImdB n (fun i => { i with efPeak := max i.efPeak (satTo 65535 (divRound ((s0.mbay n).mean1E.natAbs * 10000 : Nat) 65536).toNat) }) else s0
    if (s0.mbay n).n100 = 0 then s1.meanPoints n else s1
  else s

/-- One sample of every bay; the first 16 after a start of the domain only fill the filters (R223, R224). -/
def State.sampleAll (s : State) (codes : List BayCodes) : State :=
  if s.scl.fill < 16 then { s with scl := { s.scl with fill := s.scl.fill + 1, run := decide (16 ≤ s.scl.fill + 1) } }
  else (List.range 8).foldl (fun a n => a.sampleBay n (codes.getD n {})) s

/-- What a bay hands to Tally for a tick: import and export in µJ, and the tick's flags (R237 to R239). -/
structure TickOut where
  imp : Nat := 0
  exp : Nat := 0
  gap : Bool := false
  ovr : Bool := false
  mflt : Bool := false
  low : Bool := false
deriving DecidableEq, Repr

/-- The tick's mean selected current lies below `I_START` (R238). -/
def creeps (iStart : Nat) (b : MBay) : Bool := decide (b.tickI.natAbs * 1000 < iStart * 65536 * (b.tickN - b.tickGap)) || decide (b.tickN ≤ b.tickGap)

/-- The whole microjoules of a sum, towards zero (R237, assumption 8). -/
def wholeUJ (e : Int) : Int := if 0 ≤ e then ((e.toNat / uJden : Nat) : Int) else -(((-e).toNat / uJden : Nat) : Int)

/-- Close a bay's tick: what it hands over, and the bay with its tick empty and its remainder carried (R237 to R239). -/
def closeTick (iStart : Nat) (b : MBay) : TickOut × MBay :=
  let cr := creeps iStart b
  let e := if cr then 0 else wholeUJ b.eSum
  let gapMs := divUp (b.tickGap * 625) 10000
  let o : TickOut := { imp := e.toNat, exp := (-e).toNat, gap := decide (0 < b.tickGap) || b.gapNext, ovr := b.tickOvr, mflt := b.tickMflt || b.mfault, low := b.tickLow }
  (o, { b with eSum := if cr then 0 else b.eSum - e * uJden, creep := cr, dirExp := if e = 0 then b.dirExp else decide (e < 0),
               mean10V := meanOf b.tickV b.tickN, mean10I := meanOf b.tickI (b.tickN - b.tickGap), mean10E := meanOf b.tickE b.tickN, tickE := 0, tickI := 0, tickV := 0, tickN := 0, tickGap := 0,
               tickOvr := false, tickMflt := false, tickLow := false, gapNext := false,
               gapMs := BitVec.ofNat 32 (satTo 0xFFFFFFFF (b.gapMs.toNat + gapMs)) })

/-- One kWh in µJ (R242). -/
def kWh : Nat := 3600000000000

/-- Spill whole pulses into the backlog, up to its limit (R242, R244). -/
def spill (p : Pulse) : Pulse :=
  let n := min (p.acc / kWh) (0xFFFFFFFF - p.backlog)
  { p with acc := p.acc - n * kWh, backlog := p.backlog + n, saturated := decide (p.backlog + n = 0xFFFFFFFF) }

/-- Feed a pulse output with energy in µJ (R242). -/
def feed (c : PulseCfg) (p : Pulse) (uJ : Nat) : Pulse := spill { p with acc := p.acc + uJ * c.const }

/-- Emit the pulses of the tick that starts (R243). -/
def emit (p : Pulse) : Pulse :=
  let n := min p.backlog (if p.test then 200 else 4)
  { p with backlog := p.backlog - n, emitted := p.emitted + BitVec.ofNat 32 n }

/-- A pending mode change resets the output at the tick where it takes effect (R245, R246). -/
def pulseMode (p : Pulse) : Pulse :=
  match p.testDue with
  | some t => if t = p.test then { p with testDue := none } else { test := t }
  | none => p

/-- The pulse stage at a tick, `hand` giving each bay's pair (R242 to R245). -/
def State.pulseTick (s : State) (hand : Nat → TickOut) : State :=
  (List.range 4).foldl (fun a m =>
    let c := a.cPulse m
    if c.en then
      let o := hand c.bay
      let p := pulseMode (a.pulse m)
      let q := feed c p (if c.exp then o.exp else o.imp)
      (a.setPulse m (emit q)).setEvtIf (q.saturated && !p.saturated) 0x07 (16 + m)
    else a) s

/-- Enter MFAULT (R230). -/
def State.mfaultCore (s : State) (n cause : Nat) : State :=
  let b := s.mbay n
  if b.mfault then s
  else (s.setMbay n { b with mfault := true, mfCause := cause, tickMflt := true }).setEvt 0x07 n

/-- Lock a bay's range to HIGH, counting a change of range (R228, R229). -/
def toHigh (b : MBay) : MBay :=
  if b.low then { b with low := false, rangeSw := b.rangeSw + 1, lowCnt := 0, lockHigh := true } else { b with lowCnt := 0, lockHigh := true }

/-- A bay's voltage of the 1 ms mean is below 60 V (R137, R145, R224). -/
def State.below60 (s : State) (n : Nat) : Bool := decide ((s.mbay n).mean1V.natAbs < 60 * 65536)

/-- A value's range for a gain, an offset and the cable's resistance (R232). -/
def gainOk (g : Int) : Bool := decide (536870912 ≤ g.natAbs) && decide (1000 * g.natAbs ≤ 1999 * 1073741824)
def offsetOk (o : Int) : Bool := decide (o.natAbs ≤ 1048576)

/-- A calibration's values are in range and its current gains carry one sign (R232, R235). -/
def calValid (k : CalVals) : Bool :=
  gainOk k.gainV && gainOk k.gainIh && gainOk k.gainIl && gainOk k.gainE && offsetOk k.offV && offsetOk k.offIh
    && offsetOk k.offIl && offsetOk k.offE && decide (k.rCable ≤ 100000) && decide (decide (k.gainIh < 0) = decide (k.gainIl < 0))

end Sys2Proof.Machine
end

