-- ==== Sys2Proof/Machine/Tag.lean ====
section
/-! DEFINITION. The Service Tag's memory, its published totals and excerpt, and the latch (R410 to R418). -/
namespace Sys2Proof.Machine

/-- The octets of a page of the tag's memory. -/
def State.page (s : State) (p : Nat) : List Byte := (List.range 32).map (fun i => tget 0 s.nfc.tag (32 * p + i))

/-- Write octets from the start of a page on. -/
def State.writeTag (s : State) (p : Nat) (l : List Byte) : State := { s with nfc := { s.nfc with tag := writeTab s.nfc.tag (32 * p) l } }

/-- The host side runs: ACTIVE or FULL, with the 27.12 MHz reference (R417). -/
def State.tagHost (s : State) : Bool := !s.sys.inReset && (decide (s.sys.pstate = .active) || decide (s.sys.pstate = .full)) && !s.sys.refLost

/-- A mask of the enabled bays. -/
def State.bayMask (s : State) : Nat := (List.range 8).foldl (fun m n => m + (if (s.cBay n).enabled then 2 ^ n else 0)) 0

/-- The running image's metrology digest identity. -/
def State.metroDigest (s : State) : Nat := match s.cfg.runHdr with | some h => h.metroDigest | none => 0

/-- The signed octets 0 to 1,087 of a totals snapshot (R412); its format version is a free value: the
spec states none (R412). -/
def State.totalsHead (s : State) (seq : Word) (late : Bool) : List Byte :=
  let mf := (List.range 8).any (fun n => (s.mbay n).mfault)
  let fl := s.tly.abrupt.toNat + 2 * s.tly.resLost.toNat + 4 * (!s.verified).toNat + 8 * s.cfg.reverify.toNat + 16 * mf.toNat
    + 32 * (decide (s.blz.tampered ≠ 0)).toNat + 64 * late.toNat
  let regs := (List.range 128).foldl (fun l i => l ++ le 8 (tget 0 s.tly.regs i)) []
  le 2 (Config.pageVer 0) ++ le 2 fl ++ le 4 seq.toNat ++ le 8 s.tly.lastCommit.pack ++ le 4 s.tly.slotSeq
    ++ le 1 s.bayMask ++ le 1 s.tly.tariff ++ le 2 s.scl.calCnt ++ le 16 s.key.devId ++ digestBytes s.metroDigest 8
    ++ List.replicate 16 0 ++ regs

/-- The publication page: active buffer, `SNAP_SEQ`, excerpt head (R411; its inner layout is assumption 13). -/
def State.pubPage (s : State) : State :=
  s.writeTag 0xB0 (padTo 32 (le 4 s.nfc.activeBuf.toNat ++ le 4 s.nfc.snapSeq.toNat ++ le 4 s.nfc.exLseq ++ le 4 s.nfc.exHead))

/-- Write a snapshot into the inactive buffer, then make that buffer active (R413). -/
def State.writeTotals (s : State) : State :=
  let g := s.metroSign
  let seq := s.nfc.snapSeq + 1
  let head := s.totalsHead seq g.1.isNone
  let s1 := g.2.writeTag (if s.nfc.activeBuf then 0x10 else 0x40) (padTo 1536 (head ++ sigBytes g.1 head 64))
  let s2 := { s1 with nfc := { s1.nfc with activeBuf := !s.nfc.activeBuf, snapSeq := seq, pubDue := false, regsChanged := false } }
  s2.pubPage

/-- Publish the totals, or defer it while the host side rests or the buffer to write is latched (R413, R415, R417). -/
def State.publishTotals (s : State) : State :=
  if !s.tagHost then { s with nfc := { s.nfc with pubDue := true } }
  else if s.nfc.latchBuf = some (!s.nfc.activeBuf) then
    ({ s with nfc := { s.nfc with pubDue := true, deferrals := s.nfc.deferrals + 1 } }).setEvt 0x0F 11
  else s.writeTotals

/-- Copy one legal-log entry into the oldest slot of the excerpt and advance the head (R414). -/
def State.copyEntry (s : State) (l : Nat) : State :=
  let e := s.legalAt l
  let s1 := s.writeTag (0x70 + 4 * (s.nfc.exHead % 16)) (padTo 128 (e.bytes))
  ({ s1 with nfc := { s1.nfc with exHead := (s.nfc.exHead + 1) % 16, exLseq := l } }).pubPage

/-- Copy every new entry, at most the 16 most recent (R414). -/
def State.copyExcerpt (s : State) : State :=
  let last := s.blz.last
  let from_ := max (s.nfc.exLseq + 1) (last + 1 - min last 16)
  let s1 := (List.range (last + 1 - from_)).foldl (fun a i => a.copyEntry (from_ + i)) s
  { s1 with nfc := { s1.nfc with exDue := false } }

/-- The excerpt is brought up to date, or its copying deferred (R414, R415, R417). -/
def State.publishExcerpt (s : State) : State :=
  if s.blz.last ≤ s.nfc.exLseq then { s with nfc := { s.nfc with exDue := false } }
  else if !s.tagHost then { s with nfc := { s.nfc with exDue := true } }
  else if s.nfc.latchHead.isSome then
    ({ s with nfc := { s.nfc with exDue := true, deferrals := s.nfc.deferrals + 1 } }).setEvt 0x0F 11
  else s.copyExcerpt

/-- What was deferred proceeds once the host side runs (R415, R417). -/
def State.publishDue (s : State) : State :=
  let s1 := if s.nfc.pubDue then s.publishTotals else s
  if s1.nfc.exDue then s1.publishExcerpt else s1

/-- The latch ends: what was deferred is published at once with the present content (R415). -/
def State.unlatch (s : State) : State :=
  let s1 := { s with nfc := { s.nfc with latchBuf := none, latchHead := none } }
  let s2 := if s1.nfc.pubDue && s1.tagHost then s1.writeTotals else s1
  if s2.nfc.exDue && s2.tagHost then s2.copyExcerpt else s2

/-- The live tamper page, generated at a read (R418); `absent` says that VBAT and main supplies are gone: then every other
field reads 0, but for the CRC over what is read. -/
def State.livePage (s : State) (absent : Bool) : List Byte :=
  let b := if absent then le 2 0 ++ le 1 1 ++ List.replicate 25 0
    else le 2 (Config.pageVer 1) ++ le 1 (2 * (!s.tim.rtcValid).toNat + 4 * s.blz.vbatLow.toNat)
      ++ le 1 (s.blz.active.toNat + 16 * s.blz.tampered.toNat) ++ le 1 s.blz.pendingT.length ++ le 1 0 ++ le 2 s.blz.lost
      ++ le 2 s.blz.aseq ++ List.replicate 6 0 ++ le 8 (rtcGrain { sec := s.tim.rtcSec, ns := s.tim.rtcNs }).pack ++ le 4 0
  b ++ le 4 (crc32c b).toNat

/-- What the field reads of a page: a latched file as latched, the live page, the rest as stored (R411, R415). -/
def State.fieldPage (s : State) (p : Nat) : List Byte :=
  if p = 0xB1 then s.livePage (decide (s.sys.pstate = .off))
  else if p = 0xB0 || (0xB2 ≤ p && p < 0xC0) then List.replicate 32 0
  else if 0x10 ≤ p && p < 0x70 then
    match s.nfc.latchBuf with
    | some b => s.page ((p - 0x10) % 0x30 + (if b then 0x40 else 0x10))
    | none => s.page p
  else s.page p

/-- What the host reads of a page (R422). -/
def State.hostPage (s : State) (p : Nat) : List Byte := if p = 0xB1 then s.livePage false else s.page p

/-- Pages software may write (R411, R422). -/
def hostWritable (p : Nat) : Bool := (decide (1 ≤ p) && decide (p ≤ 0x0F)) || (decide (0xC0 ≤ p) && decide (p ≤ 0xFF))

/-- `VHARV` in mV at a field strength in 0.1 A/m: 0 without a field or where the NFC section does not enable it, 3,000 from
3.0 A/m on; what a weaker field leaves is open (R420). -/
def State.vharv (s : State) (field : Nat) : Option Nat :=
  if field = 0 || !s.img.nfc.vharv then some 0 else if 30 ≤ field then some 3000 else none

/-! ### The reader's field -/

/-- A transaction runs or waits for its permit, or a card is held. -/
def State.readerBusy (s : State) : Bool := s.nfc.fieldOn || (List.range 8).any (fun n => s.asks (.reader n))

/-- Ask for a transaction's permit (R407). -/
def State.readerAsk (s : State) (ant : Nat) : State :=
  let p := s.permitCfg .reader
  s.present (.reader ant) p.power 0 p.prio p.wait

/-- The field goes off and the permit with it (R407). -/
def State.fieldOff (s : State) : State :=
  let s1 := s.release (.reader s.nfc.ant)
  { s1 with nfc := { s1.nfc with fieldOn := false, heldCard := none } }

/-- An antenna differs from its reference by more than its thresholds (R404). -/
def detects (a : Ant) (amp ph : Int) : Bool :=
  decide ((a.ampThr.toNat : Rat) < ratAbs ((amp : Rat) - a.refAmp)) || decide ((a.phThr.toNat : Rat) < ratAbs ((ph : Rat) - a.refPh))

/-- A reference moved 1/32 of the way towards a reading (R404). -/
def moveRef (r : Rat) (x : Int) : Rat := r + ((x : Rat) - r) / 32

end Sys2Proof.Machine
end

