-- ==== Sys2Proof/Machine/Tally.lean ====
section
/-! DEFINITION. Tally: registers, records, readings, entries, tariffs and the commit (R248 to R283). -/
namespace Sys2Proof.Machine

/-- A device with a site: hub or combined role (R249). -/
def State.hubRole (s : State) : Bool := decide (s.img.struct_.role = .hub) || decide (s.img.struct_.role = .combined)

/-- The key of a bay's register: direction 0 = import, 1 = export (R249). -/
def regKey (n d t : Nat) : Nat := 16 * n + 8 * d + t

/-- A bay's register over all tariffs (R270). -/
def State.regSum (s : State) (n d : Nat) : Nat := (List.range 8).foldl (fun a t => a + tget 0 s.tly.regs (regKey n d t)) 0

/-- Add a tick's energy in µJ to a bay's registers; answers the whole mWh added (R250). -/
def State.tlyAdd (s : State) (n d t e : Nat) : State × Nat :=
  let r := tget 0 s.tly.rems (2 * n + d) + e
  let w := r / 3600000
  ({ s with tly := { s.tly with regs := tadd s.tly.regs (regKey n d t) w, rems := tset 0 s.tly.rems (2 * n + d) (r % 3600000) },
            nfc := { s.nfc with regsChanged := s.nfc.regsChanged || decide (w ≠ 0) } }, w)

/-- `E_INT` in mJ (R262). -/
def State.eInt (s : State) : Nat := tget 0 s.tly.ivlSum (s.tly.ivl / 900)

/-! ### Signatures and readings -/

/-- Flags shared by readings and records that hold now: ABRUPT_LOSS, TIME_UNVERIFIED, REVERIFY, CALENDAR and
RESIDUAL_LOST (R267, R270, R278). -/
def State.lossFlags (s : State) : BitVec 16 := BitVec.ofNat 16 (2 * s.tly.abrupt.toNat + 4096 * s.tly.resLost.toNat)
def State.nowFlags (s : State) : BitVec 16 := BitVec.ofNat 16 (4 * (!s.verified).toNat + 8 * s.cfg.reverify.toNat + 2048 * (decide (s.tly.mode ≠ .remote)).toNat)

/-- Set LATE_SIGN where no signature was made (R267). -/
def lateFlag (sig : Option (Nat × Nat)) (f : BitVec 16) : BitVec 16 := if sig.isNone then f ||| 0x4000 else f

/-- The registers of a bay (0 to 7) or of the site (0xFE), by tariff. -/
def State.regTab (s : State) (bay d : Nat) : Tab Nat :=
  tofList 0 ((List.range 8).map (fun t => (t, if bay = 0xFE then tget 0 s.tly.site (8 * d + t) else tget 0 s.tly.regs (regKey bay d t))))

/-- The highest maximum demand of the period with its entry's SEQ (R263). -/
def State.mdMax (s : State) : Nat × Nat := s.tly.md.foldl (fun b p => if b.1 < p.2.1 then p.2 else b) (0, 0)

/-- Make a signed reading; it consumes an `RSEQ` (R267). -/
def State.reading (s : State) (kind bay : Nat) (ref : Stamp) (loss : BitVec 16) : Reading × State :=
  let g := s.metroSign
  let md := if bay = 0xFE then s.mdMax else (0, 0)
  let r : Reading := { ver := s.fmtVer 0x14, flags := lateFlag g.1 (s.nowFlags ||| loss), kind := kind, bay := bay, tariff := s.tly.tariff, mode := s.tly.mode,
                       rseq := s.tly.rseq, period := s.tly.period, calCnt := s.scl.calCnt, time := s.now, ref := ref,
                       md := md.1, mdSeq := md.2, metroDig := s.metroDigest, imp := s.regTab bay 0, exp := s.regTab bay 1, sig := g.1 }
  let s0 := g.2
  (r, { s0 with tly := { s0.tly with rseq := s.tly.rseq + 1 } })

/-- Make a reading and keep it in the store of 4,096, by `RSEQ`: the oldest is overwritten (R268). -/
def State.readingStore (s : State) (kind bay : Nat) (ref : Stamp) (loss : BitVec 16) : State :=
  let r := s.reading kind bay ref loss
  let s1 := r.2
  let t := tset {} s1.tly.readings r.1.rseq r.1
  { s1 with tly := { s1.tly with readings := if 4096 < t.length then t.tail else t } }

/-- One reading for each enabled bay, and for the site on a hub or combined device (R266, R278). -/
def State.readAll (s : State) (kind : Nat) (ref : Stamp) (loss : BitVec 16) : State :=
  let s1 := (List.range 8).foldl (fun a n => if (a.cBay n).enabled then a.readingStore kind n ref loss else a) s
  if s1.hubRole then s1.readingStore kind 0xFE ref loss else s1

/-- Eight registers as octets. -/
def regBytes (t : Tab Nat) (w : Nat) : List Byte := (List.range 8).foldl (fun l i => l ++ le w (tget 0 t i)) []

/-- The signed octets 0 to 191 of a reading (R267). -/
def Reading.head (devId : Nat) (r : Reading) : List Byte :=
  le 2 r.ver ++ le 2 r.flags.toNat ++ le 1 r.kind ++ le 1 r.bay ++ le 1 r.tariff ++ le 1 r.mode.ctorIdx ++ le 16 devId ++ le 4 r.rseq
    ++ le 2 r.period ++ le 2 r.calCnt ++ le 8 r.time.pack ++ le 8 r.ref.pack ++ le 4 r.md ++ le 4 r.mdSeq ++ digestBytes r.metroDig 8
    ++ regBytes r.imp 8 ++ regBytes r.exp 8

/-- The 256 octets of a reading. -/
def Reading.bytes (devId : Nat) (r : Reading) : List Byte := r.head devId ++ sigBytes r.sig (r.head devId) 64

/-- The signed octets 0 to 191 of a record (R270). -/
def Rec.head (devId : Nat) (r : Rec) : List Byte :=
  le 2 r.ver ++ le 2 r.flags.toNat ++ le 4 r.recno ++ le 16 devId ++ le 2 (r.bay + 256 * r.bridged.toNat) ++ le 1 r.ending.code ++ le 1 r.method.ctorIdx
    ++ le 1 r.ident.length ++ le 1 r.mode.ctorIdx ++ le 2 r.calCnt ++ padTo 24 r.ident ++ le 8 r.tStart.pack ++ le 8 r.tEnd.pack
    ++ le 8 r.rStartImp ++ le 8 r.rStartExp ++ le 8 r.rEndImp ++ le 8 r.rEndExp ++ regBytes r.impT 5 ++ regBytes r.expT 5 ++ digestBytes r.metroDig 8

/-- The 256 octets of a record. -/
def Rec.bytes (devId : Nat) (r : Rec) : List Byte := r.head devId ++ sigBytes r.sig (r.head devId) 64

/-! ### Records -/

/-- The lowest slot not listed: FREE slots are the table's default. -/
def lowestFree : Nat → Tab Rec → Nat
  | k, [] => k
  | k, (a, _) :: r => if a = k then lowestFree (k + 1) r else k

/-- The ACKED slot with the lowest record number (R269). -/
def oldestAcked (t : Tab Rec) : Option Nat :=
  (t.foldl (fun b p => if p.2.st = .acked then
      (match b with | none => some p | some q => if p.2.recno < q.2.recno then some p else b) else b) (none : Option (Nat × Rec))).map (fun p => p.1)

/-- The slot a reservation takes: a FREE one, otherwise the oldest ACKED (R269). -/
def State.recFree (s : State) : Option Nat :=
  let k := lowestFree 0 s.tly.recs
  if k < 32768 then some k else oldestAcked s.tly.recs

/-- Slots in a state. -/
def State.recCount (s : State) (x : RecSt) : Nat := (s.tly.recs.filter (fun p => p.2.st = x)).length

/-- Slots FREE or ACKED (R269, R284). -/
def State.recAvail (s : State) : Nat := 32768 - s.recCount .reserved - s.recCount .opened - s.recCount .closed

/-- Reserve a slot (R132, R269); none where no slot is left, with NOSPACE set. -/
def State.recReserve (s : State) : State × Option Nat :=
  match s.recFree with
  | some n =>
    let s1 := s.setRcd n { st := .reserved }
    (s1.setEvtIf (decide (s1.recAvail < 1024)) 0x08 5, some n)
  | none => (s.setEvt 0x08 6, none)

/-- Release a reservation (R132). -/
def State.recRelease (s : State) (n : Nat) : State := if (s.rcd n).st = .reserved then s.setRcd n {} else s

/-- Open a reserved record (R136, R269, R270); for a bridged bay the satellite's registers stand (R272). -/
def State.recOpen (s : State) (n bay : Nat) (bridged : Bool) (m : Method) (ident : List Byte) (satImp satExp : Nat) : State :=
  let t := s.tly.tariff
  let r : Rec := { ver := s.fmtVer 0x11, st := .opened, flags := s.nowFlags ||| BitVec.ofNat 16 bridged.toNat, recno := s.tly.recNext, bay := bay, bridged := bridged,
                   method := m, ident := ident.take 24, mode := s.tly.mode, calCnt := s.scl.calCnt, tStart := s.now, metroDig := s.metroDigest,
                   rStartImp := if bridged then satImp else s.regSum bay 0, rStartExp := if bridged then satExp else s.regSum bay 1,
                   rEndImp := if bridged then satImp else tget 0 s.tly.regs (regKey bay 0 t),
                   rEndExp := if bridged then satExp else tget 0 s.tly.regs (regKey bay 1 t) }
  let s1 := s.setRcd n r
  { s1 with tly := { s1.tly with recNext := s.tly.recNext + 1, dirty := true } }

/-- End a local record's tariff segment: its increase joins the old tariff's sums and the segment starts anew (R271). -/
def State.segment (s : State) (n old new : Nat) : State :=
  s.modRcd n (fun r =>
    if r.st = .opened && !r.bridged then
      { r with impT := tadd r.impT old (tget 0 s.tly.regs (regKey r.bay 0 old) - r.rEndImp),
               expT := tadd r.expT old (tget 0 s.tly.regs (regKey r.bay 1 old) - r.rEndExp),
               rEndImp := tget 0 s.tly.regs (regKey r.bay 0 new), rEndExp := tget 0 s.tly.regs (regKey r.bay 1 new) }
    else r)

/-- The slots that hold an open record. -/
def State.openRecs (s : State) : List Nat := (s.tly.recs.filter (fun p => p.2.st = .opened)).map (fun p => p.1)

/-- A record's session energy in a direction and tariff so far (R271). -/
def State.recTariff (s : State) (n d t : Nat) : Nat :=
  let r := s.rcd n
  let sum := tget 0 (if d = 0 then r.impT else r.expT) t
  if r.st = .opened && !r.bridged && t = s.tly.tariff then sum + (tget 0 s.tly.regs (regKey r.bay d t) - (if d = 0 then r.rEndImp else r.rEndExp)) else sum

/-- A record's session energy (R142, R155, R271). -/
def State.recEnergy (s : State) (n d : Nat) : Nat := (List.range 8).foldl (fun a t => a + s.recTariff n d t) 0

/-- A bridged record takes up a verified reading (R272): the increase goes to the tariff of the reading's time. -/
def State.recSat (s : State) (n imp exp : Nat) (t : Stamp) (gap : Bool) : State :=
  let k := s.tariffAt t
  let s1 := s.modRcd n (fun r => if r.st = .opened && r.bridged then
    { r with impT := tadd r.impT k (imp - r.rEndImp), expT := tadd r.expT k (exp - r.rEndExp), rEndImp := imp, rEndExp := exp,
             flags := if gap then r.flags ||| 0x2000 else r.flags } else r)
  if s.img.metro.demandImp.isNone && s.hubRole && (s.rcd n).st = .opened then
    let s2 := (s1.siteAdd 0 (imp - (s.rcd n).rEndImp) t).siteAdd 1 (exp - (s.rcd n).rEndExp) t
    if gap then (s2.catchMark 0).catchMark 1 else s2
  else s1

/-- Close an open record (R146, R270, R271) and publish the totals (R413). -/
def State.recClose (s : State) (n : Nat) (e : EndReason) (tEnd : Stamp) (weld warn : Bool) (loss : BitVec 16) : State :=
  if (s.rcd n).st ≠ .opened then s
  else
    let s1 := s.segment n s.tly.tariff s.tly.tariff
    let g := s1.metroSign
    let s2 := g.2
    let r := s2.rcd n
    let fl := r.flags ||| loss ||| BitVec.ofNat 16 (4 * (!s.verified).toNat + 8 * s.cfg.reverify.toNat + 512 * weld.toNat + 1024 * warn.toNat)
    let r1 : Rec := { r with st := .closed, ending := e, tEnd := tEnd, flags := lateFlag g.1 fl, sig := g.1,
                             rEndImp := if r.bridged then r.rEndImp else s.regSum r.bay 0, rEndExp := if r.bridged then r.rEndExp else s.regSum r.bay 1 }
    let s3 := s2.setRcd n r1
    ({ s3 with tly := { s3.tly with dirty := true } }).publishTotals

/-- Late signatures of records and readings at the return to FIELD; LATE_SIGN stays (R267). -/
def State.tlySignLate (s : State) : State :=
  let s1 := s.tly.recs.foldl (fun a p =>
    if (p.2.st = .closed || p.2.st = .acked) && p.2.sig.isNone then
      let g := a.metroSign
      g.2.modRcd p.1 (fun r => { r with sig := g.1 })
    else a) s
  s.tly.readings.foldl (fun a p =>
    if p.2.sig.isNone then
      let g := a.metroSign
      { g.2 with tly := { g.2.tly with readings := tmod {} g.2.tly.readings p.1 (fun r => { r with sig := g.1 }) } }
    else a) s1

/-! ### Profile entries -/

/-- The site-import entries are kept on every hub or combined device, whether or not a channel records them (R262):
they are channel 16 here. -/
def siteChan : Nat := 16

/-- A channel's source code and bay (R259). -/
def State.source (s : State) (ch : Nat) : Nat × Nat :=
  if ch = siteChan then (if s.hubRole then (3, 0) else (0, 0)) else tget (0, 0) s.img.metro.profiles ch

/-- The channels that write entries. -/
def State.channels (s : State) : List Nat := (List.range 17).filter (fun ch => (s.source ch).1 ≠ 0)

/-- An open entry. -/
def State.entry (s : State) (ch : Nat) : Entry := tget {} s.tly.opened ch

/-- Change an open entry. -/
def State.modEntry (s : State) (ch : Nat) (f : Entry → Entry) : State :=
  { s with tly := { s.tly with opened := tmod {} s.tly.opened ch (fun e => if e.opened then f e else e) } }

/-- Set flags on every open entry. -/
def State.flagEntries (s : State) (f : BitVec 16) : State :=
  { s with tly := { s.tly with opened := tmap {} (fun _ e => { e with flags := e.flags ||| f }) s.tly.opened } }

/-- Open an entry on a channel now (R260, R261). -/
def State.openEntry (s : State) (ch : Nat) (flags : BitVec 16) : State :=
  let q := tget 0 s.tly.seqs ch + 1
  let fl := flags ||| BitVec.ofNat 16 (16 * (!s.verified).toNat + 32 * s.cfg.reverify.toNat + (decide (s.utc10ms % 90000 ≠ 0)).toNat)
  let e : Entry := { ver := s.fmtVer 0x12, flags := fl, seq := q, start := s.utc10ms, since := s.now, tariff := s.tly.tariff, chan := ch, opened := true }
  { s with tly := { s.tly with opened := tset {} s.tly.opened ch e, seqs := tset 0 s.tly.seqs ch q } }

/-- Open an entry on every channel, at the present nominal start (R261, R262). -/
def State.openEntries (s : State) (flags : BitVec 16) : State :=
  let s1 := { s with tly := { s.tly with ivl := (s.utc10ms / 90000) * 900 } }
  s.channels.foldl (fun a ch => a.openEntry ch flags) s1

/-- The ring's key of a stored entry: its `SEQ` wraps at 32 bits (R260). -/
def entryKey (ch q : Nat) : Nat := ch * 2 ^ 32 + q % 2 ^ 32

/-- The site's demand points are INVALID: meter mode without its import counter (R265). -/
def State.demandLost (s : State) : Bool :=
  s.hubRole && (match s.img.metro.demandImp with | some g => s.invalid g | none => false)

/-- The sequence number a site-import maximum is stored with: that of the channel recording site import (R263). -/
def State.siteSeq (s : State) : Nat :=
  match (List.range 16).find? (fun ch => (s.source ch).1 = 3) with
  | some ch => tget 0 s.tly.seqs ch
  | none => tget 0 s.tly.seqs siteChan

/-- Close a channel's entry at an instant (R261, R263). -/
def State.closeEntry (s : State) (ch : Nat) (t : Stamp) (flags : BitVec 16) : State :=
  let e := s.entry ch
  if !e.opened then s
  else
    let dur := divUp (t.toNs - e.since.toNs).toNat 10000000
    let src := if (s.source ch).1 = 3 && s.demandLost then 0x400#16 else 0
    let e1 := { e with flags := e.flags ||| flags ||| src, dur := dur, opened := false }
    let s1 := { s with tly := { s.tly with opened := tset {} s.tly.opened ch {} } }
    if ch = siteChan then
      let d := divRound (e.energy * 4) 1000
      let old := tget (0, 0) s.tly.md e.tariff
      { s1 with tly := { s1.tly with md := if (old.1 : Int) < d then tset (0, 0) s1.tly.md e.tariff (d.toNat, s.siteSeq) else s1.tly.md } }
    else
      { s1 with tly := { s1.tly with stored := tset {} (tset {} s1.tly.stored (entryKey ch (e.seq + 2 ^ 32 - 48000)) {}) (entryKey ch e.seq) e1 } }

/-- Close every open entry. -/
def State.closeEntries (s : State) (t : Stamp) (flags : BitVec 16) : State := (List.range 17).foldl (fun a ch => a.closeEntry ch t flags) s

/-- The 24 octets of an entry (R260). -/
def Entry.bytes (e : Entry) : List Byte :=
  le 2 e.ver ++ le 2 e.flags.toNat ++ le 4 e.seq ++ le 5 e.start ++ le 3 e.dur ++ le 6 e.energy ++ le 1 e.tariff ++ le 1 e.chan

/-- Add a tick's energies to the open entries; `d` gives the mWh of bay and direction, `site` those of the site (R259,
R261). -/
def State.feedEntries (s : State) (d : Nat → Nat → Nat) (site : Nat → Nat) (flagsOf : Nat → BitVec 16) : State :=
  let q : BitVec 16 := BitVec.ofNat 16 (16 * (!s.verified).toNat + 32 * s.cfg.reverify.toNat)
  let all (dir : Nat) : Nat := (List.range 8).foldl (fun a n => a + d n dir) 0
  let allF : BitVec 16 := (List.range 8).foldl (fun a n => a ||| flagsOf n) 0
  let siteF : BitVec 16 := if s.img.metro.demandImp.isNone then allF else 0
  s.channels.foldl (fun a ch =>
    let src := s.source ch
    let x := match src.1 with | 1 => d src.2 0 | 2 => d src.2 1 | 3 => site 0 | 4 => site 1 | 5 => all 0 | 6 => all 1 | _ => 0
    let f := match src.1 with | 1 => flagsOf src.2 | 2 => flagsOf src.2 | 3 => siteF | 4 => siteF | _ => allF
    a.modEntry ch (fun e => { e with energy := e.energy + x, flags := e.flags ||| f ||| q })) s

/-! ### Tariffs and messages -/

/-- The tariff-authority key of the CALENDAR section is installed (R252). -/
def State.authKeyOk (s : State) : Bool := s.keyFor s.img.cal.authSlot 4

/-- The tariff in force in a mode (R252). -/
def State.tariffOf (s : State) (m : TMode) : Nat :=
  let c := calTariff s.img.cal s.utcSince2000
  if m = .remote then s.tly.sched.remote.getD c else c

/-- Insert a message in the order of `EFFECTIVE`, then `CTR` (R255). -/
def queueMsg (m : TlyMsgOp) : List TlyMsgOp → List TlyMsgOp
  | [] => [m]
  | x :: r => if x.effective < m.effective || (x.effective = m.effective && x.ctr < m.ctr) then x :: queueMsg m r else m :: x :: r

/-- Note an event of the journal for the next commit (R275). -/
def State.noteEv (s : State) (e : JEvent) : State := { s with tly := { s.tly with toJournal := s.tly.toJournal ++ [e] } }
def State.note (s : State) (ev : Nat) : State := s.noteEv { ev := ev }

/-- Change the tariff in force: record segments end, entries are marked (R255, R261, R271). -/
def State.setTariff (s : State) (t : Nat) : State :=
  if t = s.tly.tariff then s
  else
    let s1 := s.openRecs.foldl (fun a n => a.segment n s.tly.tariff t) s
    let s2 := s1.flagEntries 0x200
    ({ s2 with tly := { s2.tly with tariff := t, tariffPrev := s.tly.tariff, tariffSince := s.now } }).setEvt 0x08 0

/-- Change the tariff mode (R252). -/
def State.setMode (s : State) (m : TMode) : State :=
  if m = s.tly.mode then { s with tly := { s.tly with modeDue := none } }
  else ({ s with tly := { s.tly with mode := m, modeDue := none } }.note 3).setEvt 0x08 1

/-- The mode due at a tick boundary (R252). -/
def State.modeNext (s : State) : TMode :=
  if s.key.lc = .service then .test
  else if s.tly.mode = .test then .start
  else
    let m := s.tly.modeDue.getD s.tly.mode
    if m = .remote && !s.authKeyOk then .recovery else m

/-- The schedule once a message is accepted (R254), and once it is applied (R255). -/
def Sched.accepted (q : Sched) (m : TlyMsgOp) : Sched :=
  { q with ctr := m.ctr, lease := m.leaseEnd, queue := if m.kind = 2 then q.queue else queueMsg m q.queue }
def Sched.applied (q : Sched) (m : TlyMsgOp) : Sched :=
  { q with remote := some (m.tariff - 1), lastEff := m.effective, queue := q.queue.filter (fun x => x ≠ m) }

/-- Apply one due tariff message (R255). -/
def State.applyMsg (s : State) (m : TlyMsgOp) : State :=
  { s with tly := { s.tly with sched := s.tly.sched.applied m } }.noteEv { ev := 2, msg := some m }

/-- Close the billing period at a boundary (R266). -/
def State.closePeriod (s : State) (ref : Stamp) (sec : Nat) : State :=
  let s1 := { s with tly := { s.tly with period := (s.tly.period + 1) % 65536, lastPeriodEnd := sec } }
  let s2 := s1.readAll 1 ref 0
  (({ s2 with tly := { s2.tly with md := [] } }).note 5).setEvt 0x08 3

/-- The demand interval closes (R258, R261, R264). -/
def State.closeInterval (s : State) : State :=
  let s1 := s.closeEntries s.now 0
  let s2 := match s.tly.pNext with
    | some p => { s1 with tly := { s1.tly with pCeil := p, pNext := none } }.note 6
    | none => s1
  s2.setEvt 0x08 2

/-- Take the due messages of a kind out of the queue, in order. -/
def State.dueMsgs (s : State) (kind : Nat) : List TlyMsgOp × State :=
  let due := s.tly.sched.queue.filter (fun m => m.kind = kind && m.effective ≤ s.tim.sec)
  (due, { s with tly := { s.tly with sched := { s.tly.sched with queue := s.tly.sched.queue.filter (fun m => !(m.kind = kind && m.effective ≤ s.tim.sec)) } } })

/-- Period closes due now by message or by the calendar, each boundary at most once (R266, R281). -/
def State.periodDue (s : State) : State :=
  let d := s.dueMsgs 3
  let s1 := d.1.foldl (fun a m => if a.tly.lastPeriodEnd < m.effective then a.closePeriod { sec := m.effective } m.effective else a) d.2
  if s.tim.ns = 0 && periodAt s.img.cal s.utcSince2000 && s1.tly.lastPeriodEnd < s.tim.sec then s1.closePeriod s.now s.tim.sec else s1

/-- The changes of a tick boundary in the order of R280: interval, period, mode, messages, tariff; then new entries. -/
def State.boundaries (s : State) (ivl : Bool) : State :=
  let s1 := if ivl then s.closeInterval else s
  let s2 := s1.periodDue
  let s3 := s2.setMode s2.modeNext
  let d := s3.dueMsgs 1
  let s4 := d.1.foldl (fun a m => a.applyMsg m) d.2
  let s5 := s4.setTariff (s4.tariffOf s4.tly.mode)
  if ivl then s5.openEntries 0 else s5

/-! ### The commit -/

/-- The address of a journal slot in MRAM (R274, R298). -/
def slotAddr (q : Nat) : Nat := 0x22000000 + 256 * (q % 4096)

/-- An uncorrectable line makes a journal slot undecodable (R278, R480). -/
def State.slotBad (s : State) (q : Nat) : Bool :=
  s.crs.uncorrLines.any (fun l => l.1 && decide (slotAddr q ≤ l.2) && decide (l.2 < slotAddr q + 256))

/-- Write a journal slot (R274, R275); its lines are written in full (R480). -/
def State.slotWrite (s : State) (j : JSlot) : State :=
  let q := (s.tly.slotSeq + 1) % 2 ^ 32
  { s with tly := { s.tly with slotSeq := q, journal := tset {} s.tly.journal (q % 4096) { j with seq := q, ver := s.fmtVer 0x20 } },
           crs := { s.crs with uncorrLines := s.crs.uncorrLines.filter (fun l => !(l.1 && decide (slotAddr q ≤ l.2) && decide (l.2 < slotAddr q + 256))) } }

/-- The slot that records a tick under a tariff and mode (R275). -/
def State.tickSlot (s : State) (t : Nat) (m : TMode) (fin : Bool) (time : Stamp) (extra : Nat) : JSlot :=
  { final := fin, tariff := t, mode := m, time := time, eInt := s.eInt, pCeil := s.tly.pCeil,
    siteImp := tget 0 s.tly.site t, siteExp := tget 0 s.tly.site (8 + t), siteSeq := if s.hubRole then s.siteSeq else 0,
    flags := BitVec.ofNat 16 (t + 8 * m.ctorIdx + 64 * fin.toNat + 128 * (!s.verified).toNat + 256 * s.cfg.reverify.toNat + extra),
    regs := tofList 0 ((List.range 16).map (fun i => (i, tget 0 s.tly.regs (regKey (i / 2) (i % 2) t)))), rems := s.tly.rems }

/-- Write the EVENT slots of a commit (R276): each holds the bay block of the tariff in force. -/
def State.eventSlots (s : State) : State :=
  let s1 := s.tly.toJournal.foldl (fun a e => a.slotWrite { a.tickSlot a.tly.tariff a.tly.mode false a.now 32 with event := some e }) s
  { s1 with tly := { s1.tly with toJournal := [] } }

/-- The octets 0 to 47 of an authority message (R253). -/
def msgHead (m : TlyMsgOp) : List Byte :=
  le 2 m.ver ++ le 1 m.kind ++ le 1 m.tariff ++ le 4 0 ++ le 16 m.devId ++ le 8 m.ctr ++ le 8 m.effective ++ le 8 m.leaseEnd

/-- The 112 octets of an authority message (R253). -/
def msgBytes (m : TlyMsgOp) : List Byte := msgHead m ++ sigBytes (some (m.signer, m.sigDraw)) (msgHead m) 64

/-- The 48 octets of an event body: message octets 2 to 48, or a step's times; what the other codes' 47 octets hold the
spec does not say (assumption 49). -/
def JEvent.bytes (e : JEvent) (seq : Nat) : List Byte :=
  le 1 e.ev ++ (if e.ev = 1 then ((msgBytes (e.msg.getD {})).drop 2).take 47
    else if e.ev = 4 then padTo 47 (le 8 e.old.pack ++ le 8 e.new.pack)
    else (List.range 47).map (fun i => Config.freeByte (2 ^ 64 + seq) i))

/-- The 256 octets of a journal slot (R275). -/
def JSlot.bytes (j : JSlot) : List Byte :=
  le 2 j.ver ++ le 2 j.flags.toNat ++ le 4 j.seq ++ le 8 j.time.pack
    ++ (List.range 8).foldl (fun l n => l ++ le 8 (tget 0 j.regs (2 * n)) ++ le 8 (tget 0 j.regs (2 * n + 1)) ++ le 4 (tget 0 j.rems (2 * n)) ++ le 4 (tget 0 j.rems (2 * n + 1))) []
    ++ (match j.event with
        | some e => e.bytes j.seq
        | none => le 8 j.siteImp ++ le 8 j.siteExp ++ le 8 j.eInt ++ le 4 j.siteSeq ++ le 4 j.pCeil ++ List.replicate 16 0)

/-- Write a checkpoint (R274). -/
def State.checkpointNow (s : State) : State :=
  { s with tly := { s.tly with checkpoint := s.tly.slotSeq, lastCheckpoint := s.tim.sec, ckptSched := s.tly.sched } }

/-- A checkpoint is due: an event asks for one, every 20 s, or 2,048 slots (R274). -/
def State.checkpointDue (s : State) (asked : Bool) : Bool :=
  asked || decide (s.tly.lastCheckpoint + 20 ≤ s.tim.sec) || decide (2048 ≤ (s.tly.slotSeq + 2 ^ 32 - s.tly.checkpoint) % 2 ^ 32)

/-- Close the tick of every metered bay: what each hands over (R237). -/
def State.closeTicks (s : State) : Tab TickOut × State :=
  (List.range 8).foldl (fun acc n =>
    if acc.2.meters n then
      let r := closeTick s.img.metro.iStart (acc.2.mbay n)
      let ef := if (s.cMeter n).meEn then divRound (r.2.mean10E * 10000) 65536 else 0
      (tset {} acc.1 n (if s.scl.metered then r.1 else {}), (acc.2.setMbay n r.2).modImdB n (fun i => { i with ef10 := ef }))
    else acc) ([], s)

/-- Metering starts with the next tick once the filters are full and Tally runs; a start's current that reached
`I_START` marks that tick GAP (R224). -/
def State.meterStart (s : State) : State :=
  if s.scl.metered || !s.scl.run || !s.tly.running then s
  else
    let gap (b : MBay) : Bool := decide (0 < b.fillN) && decide (s.img.metro.iStart * 65536 * b.fillN ≤ b.fillI.natAbs * 1000)
    { s with scl := { s.scl with metered := true,
                                 bays := tmap {} (fun _ b => { b with gapNext := gap b, fillI := 0, fillN := 0, eSum := 0, tickI := 0, tickV := 0, tickN := 0, tickGap := 0 }) s.scl.bays } }

/-- Add a tick's hand-over to registers, site, entries and records (R250, R251, R261, R265, R270). -/
def State.tickEnergy (s : State) (hand : Tab TickOut) : State :=
  let t := s.tly.tariff
  let r := (List.range 8).foldl (fun (acc : State × Tab Nat) n =>
    let o := tget {} hand n
    let a := acc.1.tlyAdd n 0 t o.imp
    let b := a.1.tlyAdd n 1 t o.exp
    (b.1, tset 0 (tset 0 acc.2 (2 * n) a.2) (2 * n + 1) b.2)) (s, [])
  let s1 := r.1
  let d (n dir : Nat) : Nat := tget 0 r.2 (2 * n + dir)
  let sumMode := s.img.metro.demandImp.isNone
  let inc0 := if sumMode then (List.range 8).foldl (fun x n => tadd (tadd x t (d n 0)) (8 + t) (d n 1)) s1.tly.siteInc else s1.tly.siteInc
  let inc := if s.hubRole then inc0 else []
  let site (dir : Nat) : Nat := (List.range 8).foldl (fun a k => a + tget 0 inc (8 * dir + k)) 0
  let fl (n : Nat) : BitVec 16 := let o := tget {} hand n; BitVec.ofNat 16 (64 * o.gap.toNat + 128 * o.ovr.toNat + 256 * o.mflt.toNat)
  let lost := s.demandLost
  let add := site 0 * 3600 + (if lost then s.tly.pCeil * 10 else 0)
  let s2 := s1.feedEntries d site fl
  let s5 := { s2 with tly := { s2.tly with site := (List.range 16).foldl (fun x k => tadd x k (tget 0 inc k)) s2.tly.site, siteInc := [],
                                           ivlSum := if s.hubRole then tadd s2.tly.ivlSum (s2.tly.ivl / 900) add else s2.tly.ivlSum,
                                           demandInv := lost, catchDue := s2.tly.catchDue || lost } }
  let s6 := s5.setEvtIf (lost && !s.tly.demandInv) 0x08 7
  let rf (n : Nat) : BitVec 16 := let o := tget {} hand n; BitVec.ofNat 16 (32 * o.gap.toNat + 64 * o.ovr.toNat + 128 * o.mflt.toNat + 256 * o.low.toNat)
  s6.openRecs.foldl (fun a n => a.modRcd n (fun r => { r with flags := r.flags ||| s6.nowFlags ||| (if r.bridged then 0 else rf r.bay) })) s6

/-- An open record of a bridged bay as the mirror carries it (R27, R28). -/
def mirrored (r : Rec) : MirRec :=
  { bay := r.bay, method := r.method, ident := r.ident, tStart := r.tStart, startImp := r.rStartImp, startExp := r.rStartExp, imp := r.rEndImp, exp := r.rEndExp }

/-- Tally's part of the mirror: the aggregation, the ceiling, and the open records of bridged bays (R27, R28, R262). -/
def State.mirTally (s : State) : MirrorFrame :=
  { kind := 2, site := s.tly.site, ivlSum := s.tly.ivlSum, pCeil := s.tly.pCeil,
    recs := ((s.tly.recs.filter (fun p => decide (p.2.st = .opened) && p.2.bridged)).map (fun p => mirrored p.2)) }

/-- A TLY register's value as a commit sets it (R284); the energy registers and `TLY_EVT` apart. -/
def State.tlyReg (s : State) (off : Nat) : Word :=
  let t := s.tly
  match off with
  | 0x0000 => bits [(0, 2, t.mode.ctorIdx), (2, 3, t.tariff), (5, 1, (!s.verified).toNat), (6, 1, s.cfg.reverify.toNat), (7, 1, t.abrupt.toNat),
      (8, 1, t.resLost.toNat), (9, 1, t.demandInv.toNat), (10, 5, t.sched.queue.length), (15, 1, s.authKeyOk.toNat)]
  | 0x0004 => bits [(0, 16, s.recAvail), (16, 16, s.recCount .closed)]
  | 0x0008 => bits [(0, 8, s.recCount .reserved), (8, 8, s.recCount .opened)]
  | 0x000C => bits [(0, 32, t.recNext)]
  | 0x0010 => bits [(0, 32, t.slotSeq)]
  | 0x0014 => bits [(0, 32, t.ivl)]
  | 0x0018 => bits [(0, 32, if s.hubRole then s.eInt / 3600000 else 0)]
  | 0x001C => bits [(0, 32, t.pCeil)]
  | 0x0020 => bits [(0, 32, t.pNext.getD 0xFFFFFFFF)]
  | 0x0024 => bits [(0, 32, s.mdMax.1)]
  | 0x0028 => bits [(0, 32, t.sched.lease - s.tim.sec)]
  | 0x002C => bits [(0, 16, t.period)]
  | _ => 0

/-- The registers take the values of this commit (R284). -/
def State.showTally (s : State) : State :=
  { s with tly := { s.tly with view := (List.range 12).foldl (fun v i => tset 0 v (4 * i) (s.tlyReg (4 * i))) [],
                               viewRegs := s.tly.regs, viewSite := if s.hubRole then s.tly.site else [] } }

/-- A stack member publishes its bay registers over Boom (R251). -/
def State.sendEnergy (s : State) : State :=
  if s.img.stack.present && !s.stackMaster && s.ringTalks then
    ((List.range 8).filter (fun n => (s.cBay n).enabled)).foldl (fun (a : State) n =>
      a.send (.boomEnergy s.img.struct_.devNum n (s.regSum n 0) (s.regSum n 1) s.now)) s
  else s

/-- The commit of the tick that ends now (R276, R280). The time base stands at the tick's end. -/
def State.commit (s : State) : State :=
  let c := s.closeTicks
  let t := s.tly.tariff
  let m := s.tly.mode
  let s1 := (c.2.tickEnergy c.1).pulseTick (fun n => tget {} c.1 n)
  let ivl := s.onInterval
  let s2 := s1.boundaries ivl
  let per := decide (s2.tly.period ≠ s.tly.period)
  let chg := decide (s2.tly.tariff ≠ t)
  let s3 := (s2.slotWrite (s1.tickSlot t m false s.now (512 * ivl.toNat + 1024 * per.toNat + 2048 * chg.toNat))).eventSlots
  let asked := chg || per || decide (s2.tly.mode ≠ m)
  let s4 := if s3.checkpointDue asked then s3.checkpointNow else s3
  let s5 := ({ s4 with tly := { s4.tly with lastCommit := s.now, dirty := false } }).showTally.sendEnergy
  (if s5.net.pair = .active && s5.ringTalks then s5.send (.boomMirror s5.mirTally) else s5).meterStart

end Sys2Proof.Machine
end

