-- ==== Sys2Proof/Machine/Session.lean ====
section
/-! DEFINITION. Session contexts: events, the states and the transitions between them, the end path, the pilot
generator (R127 to R159, R168 to R172). What starts or ends a session calls these operations. -/
namespace Sys2Proof.Machine

/-! ### Session events -/

/-- The 64 octets of a session event (R155). -/
def EvEntry.bytes (e : EvEntry) : List Byte :=
  le 1 e.typ ++ le 1 e.state ++ le 1 e.sc ++ le 1 e.flags ++ le 2 e.bay ++ le 2 e.reqId ++ le 8 e.time.pack ++ le 1 e.method
    ++ le 1 (min 24 e.ident.length) ++ le 2 0 ++ padTo 24 e.ident ++ le 1 e.ending ++ le 3 0 ++ le 8 e.eImp
    ++ le 4 e.recno ++ le 4 (satTo 0xFFFFFFFF e.eExp)

/-- The event ring has no space: full, or disabled (R154, assumption 27). -/
def State.evqFull (s : State) : Bool :=
  !s.vlk.evqEn || decide (2 ^ s.vlk.evqLog2 ≤ (s.vlk.evqPi + 65536 - s.vlk.evqCi) % 65536)

/-- Write one event to the ring (R154, R156). -/
def State.evqPut (s : State) (e : EvEntry) : State :=
  let s1 := s.writeGen (s.vlk.evqBase + 64 * (s.vlk.evqPi % 2 ^ s.vlk.evqLog2)) e.bytes
  let s2 := { s1 with vlk := { s1.vlk with evqPi := (s.vlk.evqPi + 1) % 65536 } }.send (.irq s.vlk.evqVector)
  (s2.setEvtIf (decide (e.typ = 2)) 0x05 0).setEvtIf (decide (e.typ = 3)) 0x05 1

/-- An event to the ring, or dropped or held where the ring is full (R154). -/
def State.evqEmit (s : State) (e : EvEntry) : State :=
  if s.evqFull || decide (s.vlk.evqHeld ≠ []) then
    let s1 := s.setEvt 0x05 3
    if e.typ = 1 || e.typ = 5 then { s1 with vlk := { s1.vlk with evqDrops := satTo 65535 (s1.vlk.evqDrops + 1) } }
    else { s1 with vlk := { s1.vlk with evqHeld := s1.vlk.evqHeld ++ [e] } }
  else s.evqPut e

/-- Write held events in order while there is space (R154). -/
def evqDrain : Nat → State → State
  | 0, s => s
  | n + 1, s =>
    match s.vlk.evqHeld with
    | [] => s
    | e :: r => if s.evqFull then s else evqDrain n ({ s with vlk := { s.vlk with evqHeld := r } }.evqPut e)

/-- The event of a context as it stands (R155). -/
def State.evOf (s : State) (k typ : Nat) : EvEntry :=
  let c := s.ctx k
  let r := match c.recno, c.slot with
    | some n, some i => if (s.rcd i).recno = n then (n, s.recEnergy i 0, s.recEnergy i 1) else (n, 0, 0)
    | _, _ => (0xFFFFFFFF, 0, 0)
  { typ := typ, state := c.st.ctorIdx, sc := k, flags := c.bridged.toNat + 2 * c.weld.toNat + 4 * c.warnIso.toNat + 8 * s.cfg.reverify.toNat,
    bay := c.bay, time := s.now, method := if c.authorised then c.method.ctorIdx else 0, ident := if c.authorised then c.ident else [],
    ending := c.ending.code, recno := r.1, eImp := r.2.1, eExp := r.2.2 }

/-- Raise an event of a context. -/
def State.sessEvent (s : State) (k typ : Nat) : State := s.evqEmit (s.evOf k typ)

/-! ### Contexts, the gate and the pilot generator -/

/-- Context `k` is reserved for the enabled local bay of its number (R127). -/
def State.localCtx (s : State) (k : Nat) : Bool := decide (k < 8) && (s.cBay k).enabled

/-- The lowest free context of the bridged pool; a post has none (R127, R128, R479). -/
def State.poolCtx (s : State) : Option Nat :=
  if s.img.struct_.role = .post then none
  else (List.range 128).find? (fun k => !s.localCtx k && decide ((s.ctx k).st = .free) && !s.vlk.withdrawn.contains k)

/-- The context of a bridged bay's session. -/
def State.bridgedCtx (s : State) (bb : Nat) : Option Nat :=
  (s.vlk.ctxs.find? (fun p => p.2.bridged && decide (p.2.bay = bb) && decide (p.2.st ≠ .free))).map (fun p => p.1)

/-- The context that serves a bay, local or bridged. -/
def State.ctxOf (s : State) (bridged : Bool) (bay : Nat) : Option Nat :=
  if bridged then s.bridgedCtx bay else if (s.ctx bay).st ≠ .free && !(s.ctx bay).bridged then some bay else none

/-- A post's setpoints are valid (R16, R133). -/
def State.setpointsOk (s : State) : Bool := !s.yrd.bayCycle.isEmpty && !s.yrd.clientHold && !s.yrd.clientRamp

/-- This device is an active master, or hears one (R31, R133). -/
def State.masterOk (s : State) : Bool :=
  !s.img.stack.present || s.net.masterSeen || s.activeMaster

/-- The start gate (R133). -/
def State.gateOpen (s : State) : Bool :=
  (decide (s.img.struct_.role ≠ .post) || s.setpointsOk) && s.masterOk && decide (s.net.ring ≠ .conflict)

/-- What a bay's generator puts out (R159, R163). While the bay has a session its row stands before the rows of a bay
out of service (assumption 28). -/
def State.genFor (s : State) (n : Nat) : PilotGen :=
  let b := s.bay n
  let st := (s.ctx n).st
  if b.manual then (if b.manOut = 0 then .pwm b.manDuty else if b.manOut = 1 then .plus12 else .minus12)
  else if !(s.cBay n).enabled then .minus12
  else if (s.cBay n).mcs then .plus12
  else if st ≠ .free && st ≠ .plugged then .pwm 100
  else if st = .free && (!b.inService || b.weldLock) then .minus12
  else .plus12

/-- Drive a bay's pilot as its condition asks. -/
def State.pilotGen (s : State) (n : Nat) : State := s.modBay n (fun b => { b with gen := s.genFor n })

/-! ### Legal regions -/

/-- What the legal region of a bay shows (R437): import and session import in Wh, record number, tariff, mark. -/
def State.legalContent (s : State) (n : Nat) : List Nat :=
  let r := (s.tly.recs.find? (fun p => p.2.st = .opened && !p.2.bridged && p.2.bay = n))
  let ses := match r with | some p => [s.recEnergy p.1 0 / 1000, p.2.recno] | none => []
  [s.regSum n 0 / 1000] ++ ses ++ [s.tly.tariff, (s.cfg.reverify || !s.verified || (s.mbay n).mfault).toNat]

/-- The panel whose legal region serves a bay. -/
def State.legalPanel (s : State) (n : Nat) : Option Nat :=
  (s.img.brand.panels.find? (fun p => p.2.used && p.2.legal && decide (p.2.bay = some n))).map (fun p => p.1)

/-- Ask for a bay's legal region (R437). -/
def State.legalBay (s : State) (n : Nat) : State :=
  match s.legalPanel n with | some p => s.legalRequest p (s.legalContent n) | none => s

/-! ### Hinge payloads -/

/-- Send payloads on a connection that is OPEN (R331, R332). -/
def State.hingeSend (s : State) (c : Nat) (l : List HPay) : State :=
  let h := s.conn c
  if (s.cConn c).used && (s.cConn c).tx && h.st = .opened then
    let q := h.seq + 1
    (s.setConn c { h with seq := q, lastPay := l }).sendHinge c 0
      { link := (s.cConn c).link, peer := (s.cConn c).peer, version := h.ver, connId := (s.cConn c).connId, seq := q,
        texp := 10 * s.connPeriod c, pays := l }
  else s

/-- Command a bridged bay's satellite to a step (R151, R336). -/
def State.stepCmd (s : State) (k step : Nat) : State :=
  let c := s.ctx k
  s.hingeSend (s.cBridged c.bay).tx [.step c.bay step 0 0xFF (if step = 3 then c.vTgt else c.uTest) 0 0 0 0]

/-! ### State changes -/

/-- Enter a session state: the seconds in CHARGING are kept, the pilot follows, and every state but
PLUGGED raises a STATE event (R130, R157, R159). -/
def State.setSt (s : State) (k : Nat) (st : Sess) : State :=
  let s1 := s.modCtx k (fun c =>
    let on := decide (st = .charging)
    match c.chargeFrom with
    | some t => if on then { c with st := st } else { c with st := st, chargeSec := c.chargeSec + (s.tim.sec - t), chargeFrom := none }
    | none => { c with st := st, chargeFrom := if on then some s.tim.sec else none })
  let s2 := if (s.ctx k).bridged then s1 else s1.pilotGen (s.ctx k).bay
  if st = .plugged then s2 else s2.sessEvent k 1

/-- Destroy the SESSION slots of a context (R186). -/
def State.dropKeys (s : State) (k : Nat) : State :=
  let s1 := (s.ctx k).keySlots.foldl (fun a n => a.setSlot n {}) s
  s1.modCtx k (fun c => { c with keySlots := [] })

/-- Withdraw a context that a failed row took (R479). -/
def State.withdrawDue (s : State) (k : Nat) : State :=
  if s.vlk.withdrawAtFree.contains k then
    { s with vlk := { s.vlk with withdrawn := s.vlk.withdrawn ++ [k], withdrawAtFree := s.vlk.withdrawAtFree.filter (fun x => x ≠ k) } }
  else s

/-- What a bay does once its context is free: the link ends, the permit goes back, drain and other pending leaves take
effect, and a vehicle still there must pass through state A (R146, R157, R168, R170). -/
def State.bayFree (s : State) (n : Nat) : State :=
  let b := s.bay n
  let b1 := { b with lstate := .idle, lowPwr := false, runId := none, vehMac := 0, sounds := 0, groupSums := [], announced := 0,
                     nmk := [], nid := 0, needA := decide (b.pilot ≠ .a), inService := b.inService && !b.drain && !b.outAtFree,
                     drain := false, outAtFree := false }
  (((s.release (.greenPhy n)).setBay n b1).modImdB n (fun i => { i with uRef := 0 })).pilotGen n

/-- Send a tunnel frame under the next counter, which starts at 1 (R190, R191). -/
def State.tunSend (s : State) (sat bb : Nat) (b : TunBody) : State :=
  ({ s with vlk := { s.vlk with tunTx := tadd s.vlk.tunTx sat 1 } }).send (.tunnel sat bb (tget 0 s.vlk.tunTx sat + 1) b)

/-- The context returns to FREE (R130, R146, R183). -/
def State.freeSess (s : State) (k : Nat) : State :=
  let c := s.ctx k
  let s1 := ((s.setSt k .free).dropKeys k).setCtx k {}
  let s2 := s1.withdrawDue k
  if c.bridged then s2.tunSend (s.cBridged c.bay).sat c.bay .release else s2.bayFree c.bay

/-- Release the lock once it may fall: in UNPLUG_WAIT or FREE and below 60 V (R137, R145). -/
def State.unlockDue (s : State) (n : Nat) : State :=
  let st := (s.ctx n).st
  if (s.cBay n).enabled && (decide (st = .free) || decide (st = .unplugWait)) && s.below60 n
    && ((s.gate (s.cBay n).chLock).req || chConducts (s.chan (s.cBay n).chLock).st || decide ((s.chan (s.cBay n).chLock).st = .permitWait))
  then s.dropReq (s.cBay n).chLock else s

/-- UNPLUG_WAIT: the lock may fall, and pilot state A ends the wait at once (R137, R146). -/
def State.toUnplug (s : State) (k : Nat) : State :=
  let c := s.ctx k
  let s1 := s.setSt k .unplugWait
  if c.bridged then s1.stepCmd k 7
  else
    let s2 := s1.unlockDue c.bay
    if (s2.bay c.bay).pilot = .a then s2.freeSess k else s2

/-- Close the record or release its reservation (R132, R146). -/
def State.closeRec (s : State) (k : Nat) : State :=
  let c := s.ctx k
  match c.slot with
  | none => s
  | some n => if c.recno.isSome then s.recClose n c.ending s.now c.weld c.warnIso 0 else s.recRelease n

/-- FINISHING (R146): the record closes, END is raised and UNPLUG_WAIT follows. -/
def State.toFinishing (s : State) (k : Nat) : State :=
  let c := s.ctx k
  let s1 := ((s.setSt k .finishing).closeRec k).modCtx k (fun x => { x with reqOut := none })
  let s2 := if c.bridged then s1 else s1.modBay c.bay (fun b => { b with sessions := b.sessions + 1, lastEnd := c.ending })
  let s3 := if c.bridged || c.recno.isNone then s2 else s2.legalBay c.bay
  (s3.sessEvent k 3).toUnplug k

/-- The magnitude of a session's output current is above 5 A (R144). -/
def State.above5A (s : State) (k : Nat) : Bool :=
  let c := s.ctx k
  if c.bridged then decide (50 < c.satI.natAbs) else decide (5 * 65536 < (s.mbay c.bay).mean1I.natAbs)

/-- Drop the three contactors of a bay and its lock's waiting turn-on stays (R145). -/
def State.dropK (s : State) (n : Nat) : State := ((s.dropReq (s.cBay n).chK1).dropReq (s.cBay n).chK2).dropReq (s.cBay n).chK3

/-- OPENING, and WELD_CHECK once the coils are off (R144, R145). -/
def State.toOpening (s : State) (k : Nat) : State :=
  let c := s.ctx k
  let hot := s.above5A k
  let s1 := s.setEvtIf hot 0x05 5
  let s2 := if hot && !c.bridged then s1.modBay c.bay (fun b => { b with openLoadCnt := satTo 65535 (b.openLoadCnt + 1) }) else s1
  let s3 := s2.setSt k .opening
  if c.bridged then s3.stepCmd k 5 else (s3.dropK c.bay).setSt k .weldCheck

/-- A contactor of K2 and K3 has been granted its permit, or reports closed (R149). -/
def State.kGranted (s : State) (n : Nat) : Bool := s.k2On n || s.k3On n || s.k1On n

/-- End a session with a cause (R147 to R149): the first cause fixes the end reason; `fast` marks an "open" fault. -/
def State.endSess (s : State) (k : Nat) (r : EndReason) (fast : Bool) : State :=
  let c := s.ctx k
  let s0 := if c.ending = .none then s.modCtx k (fun x => { x with ending := r }) else s
  match c.st with
  | .plugged => s0.toFinishing k
  | .link => s0.toFinishing k
  | .negotiate => s0.toFinishing k
  | .authorise => s0.toFinishing k
  | .locking => s0.toFinishing k
  | .cableCheck => if !c.bridged && !s.kGranted c.bay then (s0.dropK c.bay).toFinishing k else s0.toOpening k
  | .precharge => s0.toOpening k
  | .closing => s0.toOpening k
  | .charging => if fast then s0.toOpening k else s0.setSt k .stopping
  | .renegotiate => if fast then s0.toOpening k else s0.setSt k .stopping
  | .stopping => if fast then s0.toOpening k else s
  | _ => s

/-- End a session at once, whatever its contactors: a bridged one whose satellite is out of reach (R147, R152). -/
def State.endNow (s : State) (k : Nat) (r : EndReason) : State :=
  let c := s.ctx k
  if c.st = .free || c.st = .finishing || c.st = .unplugWait then s
  else (if c.ending = .none then s.modCtx k (fun x => { x with ending := r }) else s).toFinishing k

/-- End a local bay's session. -/
def State.endBay (s : State) (n : Nat) (r : EndReason) (fast : Bool) : State :=
  match s.ctxOf false n with | some k => s.endSess k r fast | none => s

/-- Lock a session's bay as weld-suspect, with the record's flag and a WARN event (R145). -/
def State.weldSuspect (s : State) (k : Nat) : State :=
  let c := s.ctx k
  let s1 : State := if c.bridged then { s with vlk := { s.vlk with weldB := if s.vlk.weldB.contains c.bay then s.vlk.weldB else c.bay :: s.vlk.weldB } }
    else s.modBay c.bay (fun b => { b with weldLock := true })
  ((s1.modCtx k (fun c => { c with weld := true })).setEvt 0x05 4).sessEvent k 5

/-- A local bay's weld check completes (R145): a feedback that still reported closed 100 ms after coil release, or 60 V and
more now, at 200 ms, with the vehicle's contactors open. -/
def State.weldDone (s : State) (k : Nat) (closedAt100 : Bool) : State :=
  let c := s.ctx k
  if c.st ≠ .weldCheck || c.bridged then s
  else
    let bad := closedAt100 || (!s.below60 c.bay && c.vehOpen)
    (if bad then s.weldSuspect k else s).toFinishing k

/-! ### From lock to charging -/

/-- Ask for a contactor to close (R138, R140, R319): a request that cannot be made now waits; one whose enable is absent
ends the session with CLOSE_FAIL. -/
def State.tryClose (s : State) (k j : Nat) : State :=
  if (s.gate j).req || s.closeHeld j then s
  else if s.closeOk j then s.request j
  else s.endSess k .closeFail true

/-- Ask for K2 and K3 (R138). -/
def State.askK23 (s : State) (k : Nat) : State :=
  let c := s.cBay (s.ctx k).bay
  let s1 := s.tryClose k c.chK2
  if (s1.ctx k).st = .cableCheck then s1.tryClose k c.chK3 else s1

/-- The test voltage in 0.1 V (R138): the vehicle's maximum limited to the outlet's rating, or the rating where the vehicle
gave none. DESIGN CHOICE (assumption 41): no section gives this device a bridged bay's rating, so the vehicle's maximum
stands alone there, and the satellite limits it. -/
def State.testVolt (s : State) (k : Nat) : Nat :=
  let c := s.ctx k
  let r := 10 * (s.cBay c.bay).ratedV
  if c.bridged then c.vMax else if c.vMax = 0 then r else min c.vMax r

/-- CABLE_CHECK: the reference check comes first (R138, R305, R309, R310). -/
def State.enterCable (s : State) (k : Nat) : State :=
  let c := s.ctx k
  let u := s.testVolt k
  let s1 := (s.setSt k .cableCheck).modCtx k (fun c => { c with uTest := u, refOk := false })
  if c.bridged then s1.stepCmd k 2
  else if s.imdBlocked c.bay then s1.endSess k .cableCheckFail true
  else s1.modImdB c.bay (fun b => { b.fresh .refCheck with uRef := u / 10 })

/-- LOCKING (R137): ask for the lock; once its channel is driven and its feedback reports locked, CABLE_CHECK follows. A
lock that already reports locked passes as soon as it is driven (assumption 28). -/
def State.lockStep (s : State) (k : Nat) : State :=
  let c := s.ctx k
  let ch := (s.cBay c.bay).chLock
  let s1 := s.tryClose k ch
  if (s1.ctx k).st = .locking && (s1.gate ch).req && chConducts (s1.chan ch).st && s1.lockOk c.bay then s1.enterCable k else s1

/-- Entry to LOCKING (R137, R151). -/
def State.enterLock (s : State) (k : Nat) : State :=
  let s1 := s.setSt k .locking
  if (s.ctx k).bridged then s1.stepCmd k 1 else s1.lockStep k

/-- An authorised session passes the open gate (R133). -/
def State.tryGate (s : State) (k : Nat) : State :=
  let c := s.ctx k
  if c.st = .authorise && c.authorised && s.gateOpen then s.enterLock k else s

/-- Authorise a session: its record opens with the start reading (R136, R269). -/
def State.authorise (s : State) (k : Nat) (m : Method) (ident : List Byte) (wh min : Nat) : State :=
  let c := s.ctx k
  let n := s.tly.recNext
  let s1 := match c.slot with | some i => s.recOpen i c.bay c.bridged m ident c.satImp c.satExp | none => s
  let s2 := s1.modCtx k (fun c => { c with authorised := true, reqOut := none, conDue := none, method := m, ident := ident, limWh := wh, limMin := min,
                                           recno := if c.slot.isSome then some n else none })
  (if c.bridged then s2 else s2.legalBay c.bay).tryGate k

/-- A method of R134 is enabled for the session's bay; a bridged bay, which BAYMAP does not list, takes contract and
remote (assumption 28). -/
def State.methodOn (s : State) (k : Nat) (m : Method) : Bool :=
  let c := s.ctx k
  if c.bridged then decide (m = .contract) || decide (m = .remote)
  else decide (m ≠ .none) && (s.cBay c.bay).methods.getLsbD (m.ctorIdx - 1)

/-- Raise an authorisation request with a fresh `REQ_ID` (R135). -/
def State.authReq (s : State) (k : Nat) (m : Method) (ident : List Byte) : State :=
  let q := (tget 0 s.vlk.reqIds k + 1) % 65536
  let s1 := { s with vlk := { s.vlk with reqIds := tset 0 s.vlk.reqIds k q } }
  let s2 := s1.modCtx k (fun c => { c with reqOut := some q, method := m, ident := ident })
  s2.evqEmit { s2.evOf k 2 with reqId := q, method := m.ctorIdx, ident := ident }

/-- The vehicle's present current limit in 0.1 A: the lower of the setpoint and a cap, 0 before the first setpoint (R141). -/
def State.evLimit (s : State) (k : Nat) : Nat :=
  let c := s.ctx k
  let i := c.iSet.getD 0
  if c.cap = 0 then i else min i c.cap

/-- Answer the vehicle, with the current limit: over its link, or in a tunnel frame where its bay is bridged (R141, R190). The
context keeps the answer and counts a TLS record sent (R183, R186). -/
def State.answerEv (s : State) (k : Nat) (r : Resp) : State :=
  let c := s.ctx k
  let s1 := s.setCtx k { c with lastAns := some r, tlsTx := if c.transport = .tcp then c.tlsTx else c.tlsTx + 1 }
  if c.bridged then s1.tunSend (s.cBridged c.bay).sat c.bay (.answer r (s.evLimit k)) else s1.send (.vehicle k r (s.evLimit k))

/-- A pre-authorisation for the session's bay, and its removal. -/
def State.preOf (s : State) (k : Nat) : Option Preauth :=
  let c := s.ctx k
  if c.bridged then (s.vlk.preBridged.find? (fun p => p.1 = c.bay)).map (fun p => p.2) else (s.bay c.bay).pre
def State.clearPre (s : State) (bridged : Bool) (bay : Nat) : State :=
  if bridged then { s with vlk := { s.vlk with preBridged := s.vlk.preBridged.filter (fun p => p.1 ≠ bay) } }
  else s.modBay bay (fun b => { b with pre := none })

/-- AUTHORISE (R132 to R134, R187): a record is reserved, or the session is refused; the session's challenge is drawn; a
pre-authorisation or free vend authorises at once. -/
def State.enterAuth (s : State) (k : Nat) : State :=
  let r := (s.setSt k .authorise).recReserve
  match r.2 with
  | none => (r.1.answerEv k .authFailed).endSess k .nospace true
  | some i =>
    let d := r.1.draw
    let s1 := d.2.modCtx k (fun c => { c with slot := some i, challenge := freeBytes d.1 16 })
    let c := s1.ctx k
    match (if s1.methodOn k .remote then s1.preOf k else none) with
    | some p => (s1.clearPre c.bridged c.bay).authorise k .remote p.ident p.wh p.min
    | none => if s1.methodOn k .freeVend then s1.authorise k .freeVend [] 0 0 else s1

/-- A card at a bay's antenna (R134 to R136). -/
def State.cardTap (s : State) (n : Nat) (uid : List Byte) : State :=
  match s.ctxOf false n with
  | some k =>
    let c := s.ctx k
    if c.st = .authorise && !c.authorised && s.methodOn k .card && c.reqOut.isNone then s.authReq k .card uid
    else s.evqEmit { s.evOf k 4 with method := 1, ident := uid }
  | none => s.evqEmit { typ := 4, bay := n, time := s.now, flags := 8 * s.cfg.reverify.toNat, method := 1, ident := uid }

/-- After a rejection: a method may still authorise the session (R136). -/
def State.methodLeft (s : State) (k : Nat) : Bool :=
  let c := s.ctx k
  s.methodOn k .card || s.methodOn k .remote || c.conDue.isSome ||
    (s.methodOn k .contract && !c.contractSeen && decide (c.proto ≠ .din))

/-- A rejection (R135, R136): a verified contract that waits raises its request; with no method left the session ends. -/
def State.reject (s : State) (k : Nat) : State :=
  let s1 := s.modCtx k (fun c => { c with reqOut := none, method := .none, ident := [] })
  match (s.ctx k).conDue with
  | some e => (s1.modCtx k (fun c => { c with conDue := none })).authReq k .contract e
  | none => if s1.methodLeft k then s1 else (s1.answerEv k .authFailed).endSess k .authReject true

/-- The cable check's result (R138): below the fault threshold it fails; below the warning threshold it passes with a
warning. -/
def State.cableResult (s : State) (k ohm : Nat) : State :=
  let n := (s.ctx k).bay
  if ohm < s.faultOhm n then s.endSess k .cableCheckFail true
  else if ohm < s.warnOhm n then (((s.modCtx k (fun c => { c with warnIso := true })).sessEvent k 5)).setSt k .precharge
  else s.setSt k .precharge

/-- Power delivery start (R140): the pilot must be in C or D. -/
def State.powerStart (s : State) (k : Nat) : State :=
  let c := s.ctx k
  if c.bridged then (s.setSt k .closing).stepCmd k 4
  else
    let p := (s.bay c.bay).pilot
    if p = .c || p = .d then (s.setSt k .closing).tryClose k (s.cBay c.bay).chK1
    else s.endSess k .pilotFault true

/-- K1 reports closed: K3 opens and the session charges (R140). -/
def State.enterCharging (s : State) (k : Nat) : State :=
  let c := s.ctx k
  (if c.bridged then s else s.dropReq (s.cBay c.bay).chK3).setSt k .charging

/-! ### Plugging in -/

/-- A bay can begin a session (R127, R130, R145, R146, R479). -/
def State.canPlug (s : State) (n : Nat) : Bool :=
  let b := s.bay n
  s.localCtx n && b.inService && !b.weldLock && !b.needA && decide ((s.ctx n).st = .free) && !s.vlk.withdrawn.contains n

/-- Ask for full-power transmission (R168). -/
def State.greenAsk (s : State) (n : Nat) : State :=
  if s.holds (.greenPhy n) || s.asks (.greenPhy n) then s
  else
    let p := s.permitCfg .greenPhy
    (s.modBay n (fun b => { b with lowPwr := true })).present (.greenPhy n) p.power 0 p.prio p.wait

/-- PLUGGED and then LINK (R130, R159, R168, R169, R172). -/
def State.plugIn (s : State) (n : Nat) : State :=
  let s1 := (s.setCtx n { bay := n, st := .plugged, ownMac := tget 0 s.img.net.macs n }).pilotGen n
  let s2 := s1.setSt n .link
  if (s.cBay n).mcs then s2.modBay n (fun b => { b with lstate := .t1sListen })
  else (s2.modBay n (fun b => { b with lstate := .waitParm, runId := none })).greenAsk n

/-- Link up (R130, R169, R172). -/
def State.linkIsUp (s : State) (k : Nat) : State :=
  (s.modCtx k (fun c => { c with linkUp := true })).setSt k .negotiate

/-- A bay enters or leaves service (R157). -/
def State.bayOut (s : State) (n : Nat) : State := (s.modBay n (fun b => { b with inService := false, drain := false })).pilotGen n

/-- MFAULT and the failing row end a bay's service: at once without a session, else at FREE (R230, R479). -/
def State.leaveService (s : State) (n : Nat) : State :=
  if (s.ctx n).st = .free then s.bayOut n else s.modBay n (fun b => { b with outAtFree := true })

/-! ### Safety decisions -/

/-- The end reason of the first false term of a K channel's enable (R147, R319). -/
def State.termReason (s : State) (n : Nat) : Term → EndReason
  | .clock => .fault
  | .heartbeat => .fault
  | .inputs => .safetyTrip
  | .imd => if (s.imdB n).efAlarm then .earthCurrent else if (s.ctx n).st = .cableCheck then .cableCheckFail else .isolation
  | .lock => .lockFail
  | .readback => .fault

/-- End the session that an output's fallen enable affects (R319). -/
def State.gateEnd (s : State) (x : Nat × Term) : State :=
  match s.bayOfK x.1 with
  | some n => s.endBay n (s.termReason n x.2) true
  | none => match s.bayOfLock x.1 with
    | some n => s.endBay n (s.termReason n x.2) true
    | none => s

/-- Bring the enables up to date and end what their fall ends (R318, R319). -/
def State.guard (s : State) : State :=
  let r := s.gateAll
  r.2.foldl (fun a x => a.gateEnd x) r.1

/-- Reaching the safe state ends every session (R320). -/
def State.endAllSafe (s : State) : State := (tkeys s.vlk.ctxs).foldl (fun a k => a.endSess k .fault true) s

/-- SAFE_STOP with its cause (R322). -/
def State.safeStop (s : State) (cause detail : Nat) : State :=
  if s.saf.spar = .safeStop || s.saf.spar = .off then s else (s.safeStopCore cause detail).endAllSafe.guard

/-- Transfer states and those around them, PRECHARGE to STOPPING (R308). -/
def underVoltage (x : Sess) : Bool :=
  x = .precharge || x = .closing || x = .charging || x = .renegotiate || x = .stopping

/-- An alarm or measuring fault of a bay's IMD (R308): a reference check that failed ends with it. -/
def State.imdStop (s : State) (n : Nat) : State :=
  let c := s.ctx n
  let s1 := if (s.imdB n).st = .refCheck then s.modImdB n (fun b => b.stop) else s
  if c.st = .cableCheck then s1.endSess n .cableCheckFail true
  else if underVoltage c.st then s1.endSess n .isolation true else s1

/-- What IMD decisions do to a bay's session (R138, R308 to R310). -/
def State.imdAct (s : State) (n : Nat) (a : ImdAct) : State :=
  let c := s.ctx n
  if !s.localCtx n || c.st = .free then s
  else match a with
  | .refPass =>
    if c.st = .cableCheck && c.ending = .none then ((s.modCtx n (fun c => { c with refOk := true })).modImdB n (fun b => { b with st := .off })).askK23 n
    else s
  | .alarm => s.imdStop n
  | .measFault => s.imdStop n
  | .warn =>
    if underVoltage c.st then
      (s.modCtx n (fun c => { c with warnIso := true })).sessEvent n 5
    else s
  | .result ohm => if c.st = .cableCheck && c.ending = .none then s.cableResult n ohm else s

end Sys2Proof.Machine
end

