-- ==== Sys2Proof/Machine/Grants.lean ====
section
/-! DEFINITION. Granting permits: what a grant starts and what a failed request means to its owner (R64 to R67), the
reader's transaction, and `settle`, which brings permits, enables, injections and the start gate up to date. -/
namespace Sys2Proof.Machine

/-! ### The reader's transaction -/

/-- The protocol is enabled at an antenna (R402). -/
def protoOn (a : AntCfg) (p : NfcProto) : Bool := a.proto.getLsbD p.ctorIdx

/-- The cards a transaction reaches: the enabled protocols in the order A, B, V (R402, R407). -/
def reached (a : AntCfg) (l : List Card) : List Card :=
  [NfcProto.a, .b, .v].foldl (fun acc p => acc ++ (if protoOn a p then l.filter (fun c => c.proto = p) else [])) []

/-- A transaction on the antenna whose field is on (R405, R407): at most 8 cards, each to the session engine, and a
last ISO/IEC 14443-4 card stays held. Answers the number of cards read. -/
def State.nfcRun (s : State) (ant : Nat) (cards : List Card) : State × Nat :=
  let all := reached (s.cAnt ant) cards
  let l := all.take 8
  let more := decide (8 < all.length)
  let s1 := l.foldl (fun a c => match (s.cAnt ant).bay with | some n => a.cardTap n c.uid | none => a) s
  let s2 := (s1.modAnt ant (fun a => { a with cards := a.cards + BitVec.ofNat 16 l.length, retake := a.retake || !more })).setEvtIf more 0x0F 8
  match l.getLast? with
  | some c => if c.iso4 then ({ s2 with nfc := { s2.nfc with heldCard := some c } }, l.length) else (s2.fieldOff, l.length)
  | none => (s2.fieldOff, 0)

/-- The commands that wait for a transaction on an antenna. -/
def pollOn (ant : Nat) (f : Flight) : Bool := match f.waits with | .poll a _ => decide (a = ant) | _ => false

/-- The reader's permit is granted: the field goes on; a poll runs its transaction (R407, R422). -/
def State.readerGrant (s : State) (ant : Nat) : State :=
  let s1 := { s with nfc := { s.nfc with fieldOn := true, ant := ant } }
  match s.hst.flights.find? (pollOn ant) with
  | some f => match f.waits with
    | .poll _ cards => let r := s1.nfcRun ant cards; r.1.finish (pollOn ant) .ok 0 (le 1 r.2)
    | _ => s1
  | none => s1

/-! ### What a grant starts -/

/-- The lowest software handle that no grant holds (R71). -/
def State.freeHandle (s : State) : Nat :=
  ((List.range 65536).find? (fun h => !s.holds (.held h))).getD 0

/-- Commands that wait for a channel. -/
def chanWait (ch : Nat) (f : Flight) : Bool := decide (f.waits = Waiting.channel ch)

/-- Program the fuses and complete the command (R481, R483). -/
def State.fuseNow (s : State) : State :=
  let r := s.crs.fuse
  ({ s with crs := r.1 }).finish (fun f => decide (f.waits = Waiting.fuse)) .ok 0 (le 2 r.2.1 ++ le 2 r.2.2)

/-- A granted bulk write migrates its records; a migration of the safety parameters has its entry (R89, R92). -/
def State.bulkRun (s : State) : State :=
  let s1 := s.migrateRecords s.cfg.bulk
  let s2 := if s1.verOf 0x01 = s.verOf 0x01 then s1 else s1.safMigrated
  ({ s2 with cfg := { s2.cfg with bulk := 0 } }).showPending

/-- What a grant starts, by its owner. -/
def State.granted (s : State) (r : PReq) : State :=
  match r.owner with
  | .software _ _ =>
    let h := s.freeHandle
    let p := { s.permits with grants := s.permits.grants.map (fun g => if g.id = r.id then { g with owner := .held h } else g) }
    ({ s with permits := p }).finish (fun f => decide (f.waits = Waiting.permit r.id)) .ok 0 (le 2 h ++ le 8 s.now.pack)
  | .held _ => s
  | .inrush ch => (s.chkInrush ch).finish (chanWait ch) .ok
  | .retry ch => s.chkInrush ch
  | .conduction ch =>
    let waited := decide ((s.chan ch).st = .permitWait)
    let s1 := s.chkConduct ch r.power
    if waited then s1.finish (chanWait ch) .ok else s1
  | .extra ch => s.modChan ch (fun c => { c with permitCond := c.permitCond + r.power })
  | .greenPhy n => s.modBay n (fun b => { b with lowPwr := false })
  | .reader n => s.readerGrant n
  | .brandRail => { s with brd := { s.brd with railPermit := true, rail := if s.brd.rail = .off then .starting else s.brd.rail } }
  | .brandPanel p => (s.modPanel p (fun a => { a with permit := true })).brandRun none
  | .cruise => s.sliceStart
  | .fuse _ _ => s.fuseNow
  | .mramBulk => s.bulkRun

/-- A turn-on whose permit fails (R363). -/
def State.turnOnFailed (s : State) (ch : Nat) : State :=
  let s1 := s.setEvt 0x0D 6
  match (s.cChan ch).owner with
  | .software => (s1.chkOff ch).finish (chanWait ch) .permit
  | .peavey => (s1.chkOff ch).modChan ch (fun c => { c with dutyHeld := true })
  | .spar =>
    let s2 := s1.dropReq ch
    match s.bayOfK ch with
    | some n => s2.endBay n .closeFail true
    | none => match s.bayOfLock ch with
      | some n => s2.endBay n .closeFail true
      | none => s2

/-- A retry whose permit fails goes back to RETRY_WAIT; with its budget used up it is LATCHED_OFF (R370). -/
def State.retryFailed (s : State) (ch : Nat) : State :=
  let s1 := s.setEvt 0x0D 6
  if (s.chan ch).left = 0 then s1.chkLatch ch (s.chan ch).cause
  else (s1.chkRelease ch).modChan ch (fun c => { c with st := .retryWait, retrying := false })

/-- What a failed request means to its owner (R66). -/
def State.permitFailed (s : State) (r : PReq) : State :=
  match r.owner with
  | .software _ _ => s.finish (fun f => decide (f.waits = Waiting.permit r.id)) .permit
  | .held _ => s
  | .inrush ch => s.turnOnFailed ch
  | .retry ch => s.retryFailed ch
  | .conduction ch =>
    if (s.chan ch).st = .permitWait then (if (s.chan ch).retrying then s.retryFailed ch else s.turnOnFailed ch)
    else s.modChan ch (fun c => { c with pwrOvr := chConducts c.st })
  | .extra ch => s.modChan ch (fun c => { c with pwrOvr := chConducts c.st })
  | .greenPhy _ => s
  | .reader n => (s.setEvt 0x0F 9).finish (pollOn n) .permit
  | .brandRail => ({ s with brd := { s.brd with askLater := true } }).setEvt 0x10 3
  | .brandPanel p => (s.modPanel p (fun a => { a with askLater := true })).setEvt 0x10 3
  | .cruise => s.nextUnit
  | .fuse _ _ => s.finish (fun f => decide (f.waits = Waiting.fuse)) .permit
  | .mramBulk => { s with cfg := { s.cfg with bulk := 0 } }

/-- One request decided: one that fails at once, else the next to grant (R57, R64, R65). -/
def State.settleOne (s : State) : Option State :=
  match s.doomed with
  | some r => some (((if s.sys.pfail then s.countFail else s).unwait r.id).permitFailed r)
  | none => match s.grantable with
    | some r => some ((s.grantReq r).granted r)
    | none => none

/-- Decide requests until none can be decided. -/
def grantLoop : Nat → State → State
  | 0, s => s
  | n + 1, s => match s.settleOne with
    | some s1 => grantLoop n s1
    | none => s

/-- Requests with a wait limit of 0 that were not granted fail (R66). -/
def State.failNow (s : State) : State :=
  (s.permits.waiting.filter (fun r => r.wait = 0)).foldl (fun a r => ((a.countFail).unwait r.id).permitFailed r) s

/-- SO outputs that a parameter maps are requested whenever they may be (assumption 29). -/
def State.soKick (s : State) : State :=
  (List.range 4).foldl (fun a m =>
    let j := 32 + m
    let v := a.outPar j
    let mapped := decide (outMask v ≠ 0) || decide (outRemote v ≠ 0) || outImd v || outLock v
    if mapped && !(a.gate j).req && a.closeOk j && !a.closeHeld j then a.request j
    else if (a.gate j).req && a.remoteDemand j then a.dropReq j else a) s

/-- One context's next move where something has become free for it (R133, R137, R138, R140). -/
def State.kickCtx (s : State) (k : Nat) : State :=
  let c := s.ctx k
  if c.st = .authorise then s.tryGate k
  else if c.bridged || c.ending ≠ .none then s
  else if c.st = .locking then s.lockStep k
  else if c.st = .cableCheck && c.refOk then s.askK23 k
  else if c.st = .closing then s.tryClose k (s.cBay c.bay).chK1
  else s

/-- Enables, injections, contexts and SO outputs brought up to date. -/
def State.kick (s : State) : State :=
  let s1 := s.guard
  let s2 := (tkeys s1.vlk.ctxs).foldl (fun a k => a.kickCtx k) s1
  s2.soKick.imdSync

/-- One round of `settle`. -/
def State.settleRound (s : State) : State := (grantLoop (64 + s.permits.waiting.length) s).failNow.kick

/-- After a command or event: permits, enables, injections and the start gate up to date. -/
def State.settle (s : State) : State := s.settleRound.settleRound.settleRound

end Sys2Proof.Machine
end

