-- ==== Sys2Proof/Machine/ChokerCmd.lean ====
section
/-! DEFINITION. The meanings of Choker's commands and events (R360 to R377). -/
namespace Sys2Proof.Machine

/-- Run a host command that may wait, and what it sets going. -/
def State.runSettle (s : State) (c : Cmd) (opcode : Nat) (body : State → Answer) : State :=
  if s.canStart (queueOf (opcode / 256) c.side) then (s.runCmd c opcode body).settle else s

/-- A channel the part runs: out of reset and configured (R360). -/
def State.chanLive (s : State) (ch : Nat) : Bool := !s.sys.inReset && decide (ch < 32) && (s.cChan ch).configured

/-- A safety-designated channel failed: Spar's request drops and its bay's session ends with FAULT (R370, R374). -/
def State.safetyFail (s : State) (ch : Nat) : State :=
  if (s.cChan ch).safety then
    let s1 := s.modGate ch (fun g => { g with req := false })
    match s1.bayOfK ch with
    | some n => s1.endBay n .fault true
    | none => match s1.bayOfLock ch with
      | some n => s1.endBay n .fault true
      | none => s1
  else s

/-- Begin a retry or a restart: in IDLE-SITE it waits for ACTIVE (R370, R375). -/
def State.chkRetry (s : State) (ch : Nat) : State :=
  let c := s.chan ch
  if s.chk.supply ≠ .normal then s.modChan ch (fun c => { c with st := .supplyOff, cause := .supply, before := .retryWait })
  else if !s.awake then s.modChan ch (fun c => { c with retrying := true })
  else if c.left = 0 then s.chkLatch ch c.cause
  else if c.wantDuty = 0 then s.chkOff ch
  else (s.modChan ch (fun c => { c with left := c.left - 1, retries := c.retries + 1 })).chkAsk ch c.wantDuty true

/-- What waits for ACTIVE goes on at a wake (R375). -/
def State.chkWake (s : State) : State :=
  (List.range 32).foldl (fun a ch =>
    let c := a.chan ch
    if c.st = .permitWait && !a.asks (.inrush ch) && !a.asks (.conduction ch) && !a.asks (.retry ch) then a.chkAsk ch c.wantDuty false
    else if c.retrying && (c.st = .retryWait || c.st = .thermLatch) then a.chkRetry ch else a) s

/-- CHK_CH_SET (R361, R363, R377). An on issued under a supply anomaly fails with STATE (assumption 30). -/
def execChkChSet (c : Cmd) (ch on duty : Nat) (s : State) : Res :=
  .next (s.runSettle c 0x0D01 (fun s =>
    let k := s.cChan ch
    let x := s.chan ch
    if 31 < ch || 1000 < duty || 1 < on then fail s .range
    else if !k.configured || k.owner ≠ .software then fail s .state
    else if x.st = .thermLatch || x.st = .latchedOff || x.st = .supplyOff then fail s .state
    else if on = 0 then okay ((s.chkOff ch).finish (chanWait ch) .state)
    else if x.st = .on then okay (s.modChan ch (fun x => { x with duty := duty, wantDuty := duty, want := true }))
    else if chConducts x.st || x.st = .retryWait then okay (s.modChan ch (fun x => { x with wantDuty := duty, want := true }))
    else if x.st = .permitWait then
      let s1 := s.modChan ch (fun x => { x with wantDuty := duty, want := true })
      if x.retrying then okay s1 else .wait (.channel ch) s1
    else if duty = 0 then okay (s.modChan ch (fun x => { x with wantDuty := 0 }))
    else if s.chk.supply ≠ .normal then fail s .state
    else if !s.awake then .wait (.channel ch) (s.modChan ch (fun x => { x with st := .permitWait, wantDuty := duty, want := true }))
    else .wait (.channel ch) (s.chkAsk ch duty false)))

/-- CHK_CH_CLEAR (R370, R377). -/
def execChkChClear (c : Cmd) (ch : Nat) (s : State) : Res :=
  .next (s.runCmd c 0x0D02 (fun s =>
    let x := s.chan ch
    if 31 < ch then fail s .range
    else if !(s.cChan ch).configured || !(x.st = .latchedOff || x.shed) then fail s .state
    else okay (s.modChan ch (fun x => { x with st := .off, left := (s.cChan ch).retryMax, shed := false, dutyHeld := false, want := false }))))

/-- CHK_CH_INFO (R377); an unconfigured channel returns zeros (R360). -/
def execChkChInfo (c : Cmd) (ch : Nat) (s : State) : Res :=
  .next (s.runCmd c 0x0D03 (fun s =>
    let x := s.chan ch
    if 31 < ch then fail s .range
    else if !(s.cChan ch).configured then okay s (List.replicate 25 0)
    else okay s ((List.range 6).foldl (fun l i => l ++ le 2 (tget 0 x.faultsBy (i + 1))) [] ++ le 4 x.retries ++ le 4 x.secs
      ++ leInt 1 x.tjMax ++ le 2 x.permitInrush ++ le 2 x.permitCond)))

/-- INRUSH_END (R362, R364, R367, R368): the inrush grant ends; a current above the overload level is an overload. -/
def execInrushEnd (ch mA : Nat) (s : State) : Res :=
  let k := s.cChan ch
  if !s.chanLive ch || (s.chan ch).st ≠ .inrush then .next s
  else
    let s1 := ((s.release (.inrush ch)).release (.retry ch)).modChan ch (fun c => { c with mA := mA })
    if overloadLevel k false < mA then .next ((s1.chkFault ch .overload).safetyFail ch).settle
    else
      let s2 := s1.modChan ch (fun c => if k.profile = .coil then { c with st := .hold, duty := 10 * k.dHold, retrying := false }
        else { c with st := .on, duty := c.wantDuty, retrying := false })
      .next (s2.askConduction ch).settle

/-- CHANNEL_SHORT (R368): 12 A with more than 2.0 V across the switch, outside an inrush window. -/
def execChannelShort (ch mA mvDs : Nat) (s : State) : Res :=
  let x := s.chan ch
  if s.chanLive ch && (x.st = .on || x.st = .hold) && decide (12000 ≤ mA) && decide (2000 < mvDs) && s.chk.supply ≠ .reverse then
    .next ((s.chkFault ch .short).safetyFail ch).settle
  else .next s

/-- CHANNEL_OVERLOAD (R368): above the overload level for 10 ms. -/
def execChannelOverload (ch mA ms : Nat) (first2s : Bool) (s : State) : Res :=
  let x := s.chan ch
  if s.chanLive ch && (x.st = .on || x.st = .hold) && decide (overloadLevel (s.cChan ch) first2s < mA) && decide (10 ≤ ms) then
    .next ((s.chkFault ch .overload).safetyFail ch).settle
  else .next s

/-- The four channels of a channel's cluster (R360). -/
def cluster (ch : Nat) : List Nat := (List.range 4).map (fun i => 4 * (ch / 4) + i)

/-- The ΔT sensor of a channel's cluster: its hottest junction less the power die's reference (R368). -/
def State.deltaT (s : State) (ch : Nat) (refTj : Int) : Int :=
  (cluster ch).foldl (fun a k => max a ((s.chan k).tj - refTj)) ((s.chan ch).tj - refTj)

/-- A channel is the hottest of its cluster (R368). -/
def State.hottest (s : State) (ch : Nat) : Bool := (cluster ch).all (fun k => decide ((s.chan k).tj ≤ (s.chan ch).tj))

/-- CHANNEL_THERMAL (R368): a junction and the reference are measured; above 170 °C, or the hottest of a cluster more than 60 K
above the reference, the channel latches. -/
def execChannelThermal (ch : Nat) (tj refTj : Int) (s : State) : Res :=
  if !s.chanLive ch then .next s
  else
    let s1 := s.modChan ch (fun c => { c with tj := tj, tjMax := max c.tjMax tj })
    if !chConducts (s.chan ch).st then .next s1
    else if 170 < tj then .next ((s1.chkThermal ch .thermal).safetyFail ch).settle
    else if s1.hottest ch && decide (60 < s1.deltaT ch refTj) then .next ((s1.chkThermal ch .deltaT).safetyFail ch).settle
    else .next s1

/-- THERMAL_RELEASE (R369): the latch ends at 150 °C, or at 40 K for DELTA_T. -/
def execThermalRelease (ch : Nat) (tj refTj : Int) (s : State) : Res :=
  let x := s.chan ch
  let s1 := s.modChan ch (fun c => { c with tj := tj })
  let cooled := if x.cause = .deltaT then decide (s1.deltaT ch refTj ≤ 40) else decide (tj ≤ 150)
  if s.chanLive ch && x.st = .thermLatch && cooled then
    .next (if x.left = 0 then s1.chkLatch ch x.cause else s1.chkRetry ch).settle
  else .next s

/-- RETRY_TIMER_EXPIRY (R370). -/
def execRetryTimerExpiry (ch : Nat) (s : State) : Res :=
  if s.chanLive ch && (s.chan ch).st = .retryWait then .next (s.chkRetry ch).settle else .next s

/-- RETRY_BUDGET_REFILL (R370): 10 s of conduction without a fault. -/
def execRetryBudgetRefill (ch : Nat) (s : State) : Res :=
  if s.chanLive ch && chConducts (s.chan ch).st then .next (s.modChan ch (fun c => { c with left := (s.cChan ch).retryMax })) else .next s

/-- A channel's measured conduction in mW, rounded to the nearest (R364, R376). -/
def Chan.watts (c : Chan) : Nat := if chConducts c.st then (divRound (dissip c.mA c.tj) (10 ^ 8)).toNat else 0

/-- Ask for a channel's missing or further conduction power (R364). -/
def State.askMore (s : State) (ch : Nat) : State :=
  let c := s.chan ch
  let p := s.permitCfg .conduction
  if !chConducts c.st || c.st = .inrush then s
  else if !s.holds (.conduction ch) then s.askConduction ch
  else if c.permitCond + 50 ≤ c.watts && !s.asks (.extra ch) then s.present (.extra ch) (up50 (c.watts - c.permitCond) 1) 0 p.prio p.wait
  else s

/-- CONDUCTION_RECOMPUTE (R364): the measured dissipations, further permits, and shedding where the total has stood
above 5,500 mW since the last recompute. -/
def execConductionRecompute (meas : List ChMeas) (s : State) : Res :=
  if s.sys.inReset then .next s
  else
    let s1 := meas.foldl (fun a m => if a.chanLive m.ch then
        a.modChan m.ch (fun c => { c with mA := m.mA, tj := m.tj, tjMax := max c.tjMax m.tj, secs := if chConducts c.st then c.secs + 1 else c.secs }) else a) s
    let total := (List.range 32).foldl (fun n ch => n + (s1.chan ch).watts) 0
    let s2 := (List.range 32).foldl (fun a ch => a.askMore ch) s1
    let s3 := { s2 with chk := { s2.chk with pCond := total } }
    let s4 := if 5500 < s.chk.pCond && 5500 < total then s3.shedUntil 5500 (fun ch => (s1.chan ch).watts) 32 total else s3
    .next s4.settle

/-- CURRENT_SUM_SHED (R365): the sum above 38 A for 10 ms. -/
def execCurrentSumShed (meas : List ChMeas) (s : State) : Res :=
  if s.sys.inReset then .next s
  else
    let s1 := meas.foldl (fun a m => if a.chanLive m.ch then a.modChan m.ch (fun c => { c with mA := m.mA, tj := m.tj }) else a) s
    let fig (ch : Nat) : Nat := if (s1.chan ch).st = .inrush then 100 * (s1.cChan ch).iNom else if chConducts (s1.chan ch).st then (s1.chan ch).mA else 0
    let total := (List.range 32).foldl (fun n ch => n + fig ch) 0
    .next (s1.shedUntil 38000 fig 32 total).settle

/-- DUTY_ZERO_TIMEOUT (R361): a duty of 0 for 1 s counts as off; the permits go back. -/
def execDutyZeroTimeout (ch : Nat) (s : State) : Res :=
  if s.chanLive ch && ((s.chan ch).st = .on || (s.chan ch).st = .hold) && (s.chan ch).duty = 0 then .next (s.chkOff ch).settle else .next s

/-- OPEN_LOAD (R372): below, or back above, 5 % of `I_NOM` for 100 ms. -/
def execOpenLoad (ch mA ms : Nat) (s : State) : Res :=
  let low := decide (mA < 5 * (s.cChan ch).iNom)
  if s.chanLive ch && chConducts (s.chan ch).st && decide (100 ≤ ms) then
    .next ((s.modChan ch (fun c => { c with openLoad := low })).setEvtIf (low && !(s.chan ch).openLoad) 0x0D 5)
  else .next s

/-- STUCK_ON (R372): the output of an off channel within 2 V of `VAUX`, or again more than 2 V below it, for 10 ms; on a
safety-designated channel it puts Spar into SAFE_STOP. -/
def execStuckOn (ch : Nat) (near : Bool) (ms : Nat) (s : State) : Res :=
  if s.chanLive ch && !chConducts (s.chan ch).st && decide (10 ≤ ms) then
    let s1 := (s.modChan ch (fun c => { c with stuckOn := near })).setEvtIf (near && !(s.chan ch).stuckOn) 0x0D 5
    .next (if near && (s.cChan ch).safety then s1.safeStop 4 ch else s1).settle
  else .next s

/-- One channel under a supply anomaly (R374, R377). -/
def State.chanSupply (s : State) (kind : Supply) (ch : Nat) : State :=
  let x := s.chan ch
  let live := chConducts x.st || decide (x.st = .permitWait)
  if !(s.cChan ch).configured || x.st = .supplyOff || (!live && kind ≠ .reverse) then s
  else
    let waited := s.hst.flights.any (chanWait ch)
    let s1 := (s.chkStop ch .supplyOff .supply).modChan ch (fun c =>
      { c with before := if live then .on else x.st, want := c.want && !(s.cChan ch).safety && !waited, faultsBy := if live then (c.countFault .supply).faultsBy else c.faultsBy })
    let s2 := s1.finish (chanWait ch) .state
    if live || (s.gate ch).req then s2.safetyFail ch else s2

/-- The anomaly that a measured `VAUX` in 0.1 V and a shift of `CHK_GND` over the package ground in mV amount to (R374): a lost
ground first, for the other figures are measured against it. -/
def supplyOf (vaux gndMv : Int) : Supply :=
  if 2000 < gndMv then .groundLoss else if vaux < -10 then .reverse else if 380 < vaux then .surge else if vaux < 60 then .undervoltage else .normal

/-- An anomaly has ended (R374). -/
def supplyEnds (k : Supply) (vaux gndMv : Int) : Bool :=
  match k with
  | .normal => false
  | .undervoltage => decide (70 < vaux)
  | .surge => decide (vaux < 360)
  | .groundLoss => decide (gndMv ≤ 2000)
  | .reverse => decide (0 < vaux)

/-- Channels under an anomaly that sets in (R374). -/
def State.supplyFails (s : State) (kind : Supply) : State :=
  let s0 : State := { s with chk := { s.chk with supply := kind } }
  let s1 := s0.setEvtIf (decide (s.chk.supply = .normal)) 0x0D 3
  (List.range 32).foldl (fun a ch => a.chanSupply kind ch) s1

/-- SUPPLY_ANOMALY (R374): what is measured at `VAUX` and `CHK_GND`. -/
def execSupplyAnomaly (vaux gndMv : Int) (s : State) : Res :=
  let kind := supplyOf vaux gndMv
  if s.sys.inReset then .next s
  else
    let s0 : State := { s with sys := { s.sys with vaux := vaux } }
    if kind = .normal || kind = s.chk.supply then .next s0 else .next (s0.supplyFails kind).settle

/-- One channel at the end of an anomaly (R374): the owner's request turns it on again; a state of rest returns. -/
def State.chanRestore (s : State) (ch : Nat) : State :=
  let x := s.chan ch
  if x.st ≠ .supplyOff then s
  else if x.before = .retryWait then s.modChan ch (fun c => { c with st := .retryWait })
  else if x.before = .thermLatch || x.before = .latchedOff then s.modChan ch (fun c => { c with st := x.before })
  else if x.want && !(s.cChan ch).safety && x.wantDuty ≠ 0 then
    (if s.awake then s.chkAsk ch x.wantDuty false else s.modChan ch (fun c => { c with st := .permitWait }))
  else s.modChan ch (fun c => { c with st := .off })

/-- SUPPLY_ANOMALY_END (R374): the condition that ends the anomaly has held for 10 ms; where the supply is then another
anomaly's, that one sets in. -/
def execSupplyAnomalyEnd (vaux gndMv : Int) (s : State) : Res :=
  if s.sys.inReset || !supplyEnds s.chk.supply vaux gndMv then .next s
  else
    let s0 : State := { s with sys := { s.sys with vaux := vaux } }
    let next := supplyOf vaux gndMv
    if next ≠ .normal then .next (s0.supplyFails next).settle
    else
      let s1 := { s0 with chk := { s0.chk with supply := .normal } }
      .next ((List.range 32).foldl (fun a ch => a.chanRestore ch) s1).settle

end Sys2Proof.Machine
end

