-- ==== Sys2Proof/Machine/SessionCmd.lean ====
section
/-! DEFINITION. The meanings of the session commands of the VLK block and of the event ring's registers (R134 to R157). -/
namespace Sys2Proof.Machine

/-- The context of a session that a command names is in one of some states. -/
def State.ctxIn (s : State) (k : Nat) (l : List Sess) : Bool := l.contains (s.ctx k).st

/-- VLK_BAY_SET (R157, R164, R230): target 1 = in service, 0 = out of service, 2 = drain. -/
def execVlkBaySet (c : Cmd) (bay target : Nat) (s : State) : Res :=
  .next (s.runCmd c 0x0501 (fun s =>
    if s.noBays then fail s .state
    else if !s.localCtx bay || 2 < target then fail s .range
    else if target = 1 then
      (if (s.bay bay).weldLock || (s.mbay bay).mfault || (s.bay bay).tripTestBad then fail s .state
       else okay ((s.modBay bay (fun b => { b with inService := true, drain := false, manual := false, outAtFree := false })).pilotGen bay))
    else if target = 0 then
      (if (s.ctx bay).st ≠ .free then fail s .state else okay (s.bayOut bay))
    else if (s.ctx bay).st = .free then okay (s.bayOut bay)
    else okay (s.modBay bay (fun b => { b with drain := true }))))

/-- VLK_AUTH_DECIDE (R136, R142, R157): it answers the outstanding request it names; decision 1 accepts, 0 rejects
(assumption 28). -/
def execVlkAuthDecide (c : Cmd) (k reqId decision limWh limMin : Nat) (s : State) : Res :=
  .next (s.runSettle c 0x0502 (fun s =>
    let x := s.ctx k
    if 127 < k || 1 < decision then fail s .range
    else if x.st ≠ .authorise || x.reqOut ≠ some reqId then fail s .state
    else if decision = 1 then okay (s.authorise k x.method x.ident limWh limMin)
    else okay (s.reject k)))

/-- A session has passed the point where a pre-authorisation could serve it (R157). -/
def State.preLate (s : State) (k : Nat) : Bool :=
  let x := s.ctx k
  decide (4 < x.st.ctorIdx) || x.authorised

/-- The role enables no bay of a kind: 0 = local, 1 = bridged (R14, R15). -/
def State.noKind (s : State) (bridged : Nat) : Bool := if bridged = 1 then decide (s.img.struct_.role = .post) else s.noBays

/-- VLK_PREAUTH (R15, R134, R136, R157). -/
def execVlkPreauth (c : Cmd) (bridged bay : Nat) (ident : List Byte) (limWh limMin : Nat) (s : State) : Res :=
  .next (s.runSettle c 0x0503 (fun s =>
    let br := decide (bridged = 1)
    let known := if br then decide (bay < 256) && (s.cBridged bay).used else s.localCtx bay
    let usable := if br then !s.vlk.weldB.contains bay else (s.bay bay).inService && !(s.bay bay).weldLock && (s.cBay bay).methods.getLsbD 2
    let p : Preauth := { ident := ident, wh := limWh, min := limMin }
    let pending := if br then s.vlk.preBridged.any (fun x => x.1 = bay) else (s.bay bay).pre.isSome
    let put := if br then { s with vlk := { s.vlk with preBridged := tset {} s.vlk.preBridged bay p } } else s.modBay bay (fun b => { b with pre := some p })
    if 1 < bridged then fail s .range
    else if s.noKind bridged then fail s .state
    else if !known || 24 < ident.length then fail s .range
    else if !usable || pending then fail s .state
    else match s.ctxOf br bay with
      | none => okay put
      | some k =>
        if s.preLate k then fail s .state
        else if (s.ctx k).st = .authorise then okay (s.authorise k .remote ident limWh limMin)
        else okay put))

/-- PREAUTH_EXPIRY (R134): 120 s after the command. -/
def execPreauthExpiry (bridged : Bool) (bay : Nat) (s : State) : Res :=
  if s.sys.inReset then .next s else .next (s.clearPre bridged bay)

/-- VLK_SESS_STOP (R148, R149, R157). -/
def execVlkSessStop (c : Cmd) (k reason : Nat) (s : State) : Res :=
  .next (s.runSettle c 0x0504 (fun s =>
    if 127 < k || (reason ≠ 1 && reason ≠ 2) then fail s .range
    else if !s.ctxIn k [.authorise, .locking, .cableCheck, .precharge, .closing, .charging, .renegotiate] then fail s .state
    else okay (s.endSess k (if reason = 1 then .hostStop else .userStop) false)))

/-- VLK_SESS_LIMIT (R141, R157). -/
def execVlkSessLimit (c : Cmd) (k cap : Nat) (s : State) : Res :=
  .next (s.runCmd c 0x0505 (fun s =>
    if 127 < k then fail s .range
    else if !s.ctxIn k [.charging, .renegotiate] then fail s .state
    else okay (s.modCtx k (fun x => { x with cap := cap }))))

/-- The session's output in 0.1 A and 0.1 V: Scaler's 10 ms means, or what the satellite reports (R151, R157, R224). -/
def State.sessAmps (s : State) (k : Nat) : Int :=
  let x := s.ctx k
  if x.bridged then x.satI else divRound ((s.mbay x.bay).mean10I * 10) 65536
def State.sessVolts (s : State) (k : Nat) : Int :=
  let x := s.ctx k
  if x.bridged then (x.satV : Int) else divRound ((s.mbay x.bay).mean10V * 10) 65536

/-- Seconds in CHARGING (R157). -/
def State.sessSecs (s : State) (k : Nat) : Nat :=
  let x := s.ctx k
  x.chargeSec + (match x.chargeFrom with | some t => s.tim.sec - t | none => 0)

/-- VLK_SESS_INFO (R157). -/
def execVlkSessInfo (c : Cmd) (k : Nat) (s : State) : Res :=
  .next (s.runCmd c 0x0506 (fun s =>
    if 127 < k then fail s .range
    else
      let x := s.ctx k
      let e := s.evOf k 1
      okay s (le 1 x.st.ctorIdx ++ le 2 x.bay ++ le 8 e.eImp ++ le 8 e.eExp ++ le 4 (x.iSet.getD 0) ++ leInt 4 (s.sessAmps k)
        ++ leInt 4 (s.sessVolts k) ++ le 4 (s.sessSecs k) ++ le 4 e.recno)))

/-- A bay's weld lock stands and may be cleared: `MVn` is a local bay's own measurement (R145, R157, assumption 28). -/
def State.weldClearable (s : State) (bridged bay : Nat) : Bool :=
  if bridged = 1 then s.vlk.weldB.contains bay else s.localCtx bay && (s.bay bay).weldLock && s.below60 bay

/-- VLK_WELD_CLEAR (R145, R155, R157). -/
def execVlkWeldClear (c : Cmd) (bridged bay : Nat) (s : State) : Res :=
  .next (s.runCmd c 0x0507 (fun s =>
    if 1 < bridged then fail s .range
    else if s.noKind bridged then fail s .state
    else if s.key.lc ≠ .service then fail s .locked
    else if !s.weldClearable bridged bay then fail s .state
    else
      let s1 := if bridged = 1 then { s with vlk := { s.vlk with weldB := s.vlk.weldB.filter (fun x => x ≠ bay) } }
        else (s.modBay bay (fun b => { b with weldLock := false })).pilotGen bay
      okay (s1.evqEmit { typ := 5, bay := bay, time := s.now, flags := bridged + 8 * s.cfg.reverify.toNat })))

/-! ### The event ring's registers -/

/-- A write of `VLK_EVQ_BASE` (R156): only while the ring is disabled, and 64-byte aligned. -/
def State.evqArea (s : State) (value : Word) : State :=
  if s.vlk.evqEn || value.toNat % 64 ≠ 0 then s else { s with vlk := { s.vlk with evqBase := value.toNat % 2 ^ 24 } }

/-- EVQ_BASE_WRITE. -/
def execEvqBaseWrite (value : Word) (s : State) : Res := if s.closedOff then .next s else .next (s.evqArea value)

/-- The ring fits the General region (R156). -/
def State.evqFits (s : State) (log2 : Nat) : Bool := decide (log2 ≠ 0) && inGeneral s.vlk.evqBase (64 * 2 ^ log2)

/-- A write of `VLK_EVQ_CTRL` (R156): size while disabled, vector, enabling with both indices at 0, and CFG_ERR cleared
by 1. -/
def State.evqCtrl (s : State) (value : Word) : State :=
  let v := s.vlk
  let l := value.toNat % 16
  let log2 := if !v.evqEn && 4 ≤ l && l ≤ 12 then l else v.evqLog2
  let v1 := { v with evqLog2 := log2, evqVector := value.toNat / 32 % 32, evqCfgErr := v.evqCfgErr && !value.getLsbD 10 }
  if !value.getLsbD 4 then { s with vlk := { v1 with evqEn := false } }
  else if v.evqEn then { s with vlk := v1 }
  else if s.evqFits log2 then evqDrain v.evqHeld.length { s with vlk := { v1 with evqEn := true, evqPi := 0, evqCi := 0 } }
  else { s with vlk := { v1 with evqCfgErr := true } }

/-- EVQ_ENABLE. -/
def execEvqEnable (value : Word) (s : State) : Res := if s.closedOff then .next s else .next (s.evqCtrl value)

/-- A write of `VLK_EVQ_CI` (R154, R156): one that passes `PI` is ignored; held events follow as space frees. -/
def State.evqConsume (s : State) (value : Word) : State :=
  let v := s.vlk
  let ci := value.toNat % 65536
  if (v.evqPi + 65536 - v.evqCi) % 65536 < (ci + 65536 - v.evqCi) % 65536 then s
  else evqDrain v.evqHeld.length { s with vlk := { v with evqCi := ci } }

/-- EVQ_CI_WRITE. -/
def execEvqCiWrite (value : Word) (s : State) : Res := if s.closedOff then .next s else .next (s.evqConsume value)

end Sys2Proof.Machine
end

