-- ==== Sys2Proof/Machine/BayEv.lean ====
section
/-! DEFINITION. The meanings of a bay's events: pilot and proximity, lock and contactor feedback, and the timers of a
session (R131, R137 to R148, R158 to R166, R168). -/
namespace Sys2Proof.Machine

/-! ### Pilot -/

/-- The pilot state whose band a high level lies in, boundaries given from the highest down (R160). -/
def bandOf : List Int → Int → Nat
  | [], _ => 0
  | b :: r, v => if b ≤ v then 0 else 1 + bandOf r v

/-- The codes of the eight bands, from above 13.5 V down to below -10.5 V (R160). -/
def bandCode : Nat → Pilot
  | 1 => .a
  | 2 => .b
  | 3 => .c
  | 4 => .d
  | 7 => .f
  | _ => .e

/-- The limits of a CCS bay's bands in mV, from 13.5 V down (R160). -/
def ccsBands : List Int := [13501, 10500, 7500, 4500, 1500, -1500, -10500]

/-- The limits of a bay's bands: BAYMAP's on an MCS bay (R160, R163). -/
def State.bandsOf (s : State) (n : Nat) : List Int := if (s.cBay n).mcs then (s.cBay n).bands else ccsBands

/-- The band of a high level: it must pass a boundary by 0.2 V to leave the band it is in (R160). -/
def bandNext (bands : List Int) (now : Nat) (v : Int) : Nat :=
  if [v - 200, v, v + 200].any (fun x => decide (bandOf bands x = now)) then now else bandOf bands v

/-- The band and state one agreeing run of samples shows (R160, R161, R163): F while the generator is at -12 V, the diode
fault where the low phase of the PWM does not reach -10.5 V. -/
def State.pilotSeen (s : State) (n : Nat) (high low : Int) : Nat × Pilot :=
  let b := s.bay n
  let k := bandNext (s.bandsOf n) b.band high
  let p := bandCode k
  match b.gen with
  | .minus12 => (7, .f)
  | .plus12 => (k, p)
  | .zero => (k, p)
  | .pwm _ => (k, if !(s.cBay n).mcs && (p = .b || p = .c || p = .d) && decide (-10500 < low) then .diode else p)

/-- What an accepted pilot state does to the bay's session (R130, R146, R147). -/
def State.pilotAct (s : State) (n : Nat) (p : Pilot) : State :=
  let st := (s.ctx n).st
  match p with
  | .a =>
    let s1 := s.modBay n (fun b => { b with needA := false })
    if !s.localCtx n || st = .free then s1
    else if st = .unplugWait then s1.freeSess n else s1.endSess n .unplug true
  | .b => if s.canPlug n then s.plugIn n else s
  | .c => s
  | .d => s
  | _ => if !s.localCtx n || st = .free || st = .unplugWait then s else s.endSess n .pilotFault true

/-- PILOT_STATE_CHANGE (R160 to R163): `samples` agreeing samples with these levels in mV. -/
def execPilotStateChange (bay : Nat) (high low : Int) (samples : Nat) (s : State) : Res :=
  if !s.awake || !s.localCtx bay then .next s
  else
    let b := s.bay bay
    let pwm := match b.gen with | .pwm _ => true | _ => false
    let q := s.pilotSeen bay high low
    let p := q.2
    let s1 := s.modBay bay (fun b => { b with vHigh := high, vLow := if pwm then low else 0, diodeOk := if pwm then decide (low ≤ -10500) else b.diodeOk })
    if samples < (s.cBay bay).cpFilt then .next s1
    else if p = b.pilot then .next (s1.modBay bay (fun b => { b with band := q.1 }))
    else
      let s2 := s1.modBay bay (fun b => { b with pilot := p, band := q.1, changes := b.changes + 1 })
      let s3 := (s2.setEvt 0x04 bay).setEvtIf (decide (p = .diode)) 0x04 (16 + bay)
      .next (s3.pilotAct bay p).settle

/-- A write of `BAY_CPn_CTRL` (R164, R193): in SERVICE, on a bay out of service without a session; a field written with a
value it does not list keeps its own (R8). -/
def State.manualWrite (s : State) (bay : Nat) (value : Word) : State :=
  let out := value.toNat / 2 % 4
  let duty := value.toNat / 8 % 2048
  if s.sys.inReset || s.key.lc ≠ .service || !s.localCtx bay || (s.bay bay).inService || (s.ctx bay).st ≠ .free then s
  else (s.modBay bay (fun b => { b with
    manual := value.getLsbD 0, manOut := if out = 3 then b.manOut else out, manDuty := if 2000 < duty then b.manDuty else duty })).pilotGen bay

/-- PILOT_MANUAL_WRITE. -/
def execPilotManualWrite (bay : Nat) (value : Word) (s : State) : Res := .next (s.manualWrite bay value)

/-- PROXIMITY_CHANGE (R165, R166): a filtered voltage in mV; a voltage in no band counts as OPEN. -/
def execProximityChange (bay mv : Nat) (s : State) : Res :=
  if s.sys.inReset || !s.localCtx bay then .next s
  else
    let p := match (s.cBay bay).ppBands.find? (fun x => decide (x.1 ≤ mv) && decide (mv ≤ x.2.1)) with | some x => x.2.2 | none => .opened
    .next ((s.modBay bay (fun b => { b with prox := p, ppMv := min mv 8191 })).setEvtIf (decide (p ≠ (s.bay bay).prox)) 0x04 (8 + bay))

/-- GREENPHY_PERMIT_RETRY (R168): once a second without the permit. -/
def execGreenphyPermitRetry (bay : Nat) (s : State) : Res :=
  if s.awake && s.localCtx bay && !(s.cBay bay).mcs && s.ctxIn bay [.link, .negotiate, .authorise, .locking, .cableCheck, .precharge, .closing,
      .charging, .renegotiate, .stopping, .opening, .weldCheck, .finishing, .unplugWait] then .next (s.greenAsk bay).settle
  else .next s

/-! ### Feedbacks -/

/-- LOCK_FEEDBACK (R137, R147): a change on the bay's lock input; `settle` takes a session in LOCKING on. -/
def execLockFeedback (bay : Nat) (locked : Bool) (s : State) : Res :=
  if s.sys.inReset || !s.localCtx bay then .next s
  else
    let s1 := (s.modSin (s.cBay bay).siLock (fun x => { x with isOpen := !locked })).modBay bay (fun b => { b with locked := locked })
    let late := s.ctxIn bay [.cableCheck, .precharge, .closing, .charging, .renegotiate, .stopping, .opening, .weldCheck, .finishing]
    if locked then .next s1.settle
    else if late then .next (s1.endSess bay .lockFail true).settle
    else .next s1.settle

/-- CONTACTOR_FEEDBACK (R140, R145): K1 closed in CLOSING starts the charging. -/
def execContactorFeedback (bay : Nat) (kon : Kon) (closed : Bool) (s : State) : Res :=
  if s.sys.inReset || !s.localCtx bay then .next s
  else
    let si := match kon with | .k1 => (s.cBay bay).siK1 | .k2 => (s.cBay bay).siK2 | .k3 => (s.cBay bay).siK3
    let s1 := (s.modSin si (fun x => { x with isOpen := !closed })).modBay bay (fun b => match kon with
      | .k1 => { b with fbK1 := closed }
      | .k2 => { b with fbK2 := closed }
      | .k3 => { b with fbK3 := closed })
    if kon = .k1 && s1.fb1 bay && (s.ctx bay).st = .closing && chConducts (s.chan (s.cBay bay).chK1).st then .next (s1.enterCharging bay).settle
    else .next s1.settle

/-- K1_FEEDBACK_TIMEOUT (R140): 100 ms after the coil was energised. -/
def execK1FeedbackTimeout (k : Nat) (s : State) : Res :=
  let c := s.ctx k
  if !s.sys.inReset && c.st = .closing && (c.bridged || (chConducts (s.chan (s.cBay c.bay).chK1).st && !s.fb1 c.bay)) then
    .next (s.endSess k .closeFail true).settle
  else .next s

/-- PRECHARGE_COMPLETE (R139): within 20 V of the target for 100 ms. -/
def execPrechargeComplete (k : Nat) (s : State) : Res :=
  let c := s.ctx k
  if !s.sys.inReset && c.st = .precharge && c.ending = .none then .next (s.modCtx k (fun c => { c with preDone := true })) else .next s

/-- WELD_CHECK_DONE (R145), 200 ms after coil release. -/
def execWeldCheckDone (k : Nat) (closedAt100 : Bool) (s : State) : Res :=
  if s.sys.inReset then .next s else .next (s.weldDone k closedAt100).settle

/-! ### Timers (R131, R142, R146) -/

/-- A timer that expires ends a session that stands in its state. -/
def State.timerEnd (s : State) (k : Nat) (st : Sess) (r : EndReason) : State :=
  if !s.sys.inReset && (s.ctx k).st = st then (s.endSess k r false).settle else s

/-- T_LINK_EXPIRY (R131, R194): a local bay counts it. -/
def execTLinkExpiry (k : Nat) (s : State) : Res :=
  let c := s.ctx k
  if s.sys.inReset || c.st ≠ .link then .next s
  else
    let s1 := if c.bridged then s else s.modBay c.bay (fun b => { b with slacFails := b.slacFails + 1 })
    .next (s1.timerEnd k .link .linkTimeout)

/-- T_NEG_EXPIRY (R131). -/
def execTNegExpiry (k : Nat) (s : State) : Res := .next (s.timerEnd k .negotiate .negotiateFail)

/-- T_AUTH_EXPIRY (R131, R133): an authorised session had waited for the gate. -/
def execTAuthExpiry (k : Nat) (s : State) : Res :=
  .next (s.timerEnd k .authorise (if (s.ctx k).authorised then .noMaster else .authTimeout))

/-- T_LOCK_EXPIRY (R131, R137). -/
def execTLockExpiry (k : Nat) (s : State) : Res := .next (s.timerEnd k .locking .lockFail)

/-- T_CABLE_EXPIRY (R131). -/
def execTCableExpiry (k : Nat) (s : State) : Res := .next (s.timerEnd k .cableCheck .cableCheckFail)

/-- T_PRE_EXPIRY (R131): the voltage is not within tolerance. -/
def execTPreExpiry (k : Nat) (s : State) : Res :=
  if (s.ctx k).preDone then .next s else .next (s.timerEnd k .precharge .prechargeFail)

/-- T_PDWAIT_EXPIRY (R131, R139): it runs from the end of precharge. -/
def execTPdwaitExpiry (k : Nat) (s : State) : Res :=
  if (s.ctx k).preDone then .next (s.timerEnd k .precharge .msgTimeout) else .next s

/-- T_RENEG_EXPIRY (R131, R143): the session goes to STOPPING. -/
def execTRenegExpiry (k : Nat) (s : State) : Res := .next (s.timerEnd k .renegotiate .msgTimeout)

/-- T_STOP_EXPIRY (R131, R144): OPENING proceeds, with no end reason of its own. -/
def execTStopExpiry (k : Nat) (s : State) : Res :=
  if !s.sys.inReset && (s.ctx k).st = .stopping then .next (s.toOpening k).settle else .next s

/-- DURATION_LIMIT_EXPIRY (R142). -/
def execDurationLimitExpiry (k : Nat) (s : State) : Res :=
  if !s.sys.inReset && (s.ctx k).limMin ≠ 0 && s.ctxIn k [.charging, .renegotiate] then .next (s.endSess k .limit false).settle else .next s

/-- UNPLUG_WAIT_EXPIRY (R146): 10 s. -/
def execUnplugWaitExpiry (k : Nat) (s : State) : Res :=
  if !s.sys.inReset && (s.ctx k).st = .unplugWait then .next (s.freeSess k).settle else .next s

end Sys2Proof.Machine
end

