-- ==== Sys2Proof/Machine/ImageRules.lean ====
section
/-! DEFINITION. The rules an image's sections must meet, by chapter: an image that breaks one fails the body check
(R77). Each rule is a Bool over the settings. -/
namespace Sys2Proof.Machine

/-- Every pair of a list, the earlier one first, satisfies a relation. -/
def pairwise {α : Type} (f : α → α → Bool) : List α → Bool
  | [] => true
  | a :: r => r.all (fun b => f a b) && pairwise f r

/-- STRUCT: a role, a device number of the ring, the budget (R510), the threshold (R70), the gap (R477), the drift (R463). -/
def structOk (c : StructCfg) : Bool :=
  decide (c.role ≠ .none) && decide (c.devNum < 8) && decide (c.pBudget ≤ 9750) && decide (70 ≤ c.vauxThr) && decide (c.vauxThr ≤ 300)
    && decide (20 ≤ c.crsGap) && decide (c.crsGap ≤ 10000) && decide (1 ≤ c.holdPpm) && decide (c.holdPpm ≤ 500)

/-- The device number agrees with the stack sections: 0 in no stack, 1 to 7 for a post in one, which is a member (R18, R24). -/
def stackOk (c : ImageContent) : Bool :=
  (c.stack.present || decide (c.struct_.devNum = 0)) && (!c.stack.present || decide (c.struct_.role ≠ .post) || decide (c.struct_.devNum ≠ 0))
    && c.stack.members.all (fun p => decide (1 ≤ p.1) && decide (p.1 < 8))

/-- PERMITS: contactor closing keeps priority 0 and every override lies within R64; a power of 0 leaves a profile's
power in place (R68). -/
def permitsOk (t : Tab PermitCfg) : Bool :=
  t.all (fun p => decide (p.1 < 10) && (decide (p.1 ≠ 0) || decide (p.2.prio = 0)) && (decide (0 < p.2.power) || decide (p.1 < 4))
    && decide (p.2.power ≤ 65535) && decide (p.2.prio ≤ 7) && decide (p.2.wait ≤ 10000))

/-- VLINK: the timers of R131, and no bridged bay on a post (R151). -/
def vlinkOk (role : Role) (c : VlinkCfg) : Bool :=
  within 20000 60000 c.tLink && within 5000 60000 c.tNeg && within 10000 300000 c.tAuth && within 200 5000 c.tLock
    && within 10000 60000 c.tCable && within 2000 20000 c.tPre && within 2000 60000 c.tPdwait && within 5000 120000 c.tReneg
    && within 500 5000 c.tStop && (decide (role ≠ .post) || c.bridged.all (fun p => !p.2.used)) && c.bridged.all (fun p => decide (p.1 < 256))

/-- The settings of one point (R517). -/
def ptCfgOk (c : PtCfg) : Bool :=
  let finite (w : Word) : Bool := match f32 w with | some q => decide (0 ≤ q) | none => false
  let nan := decide (c.typ = .float64) && (fpIsNan 11 52 c.min.toNat || fpIsNan 11 52 c.max.toNat)
  !nan && !ptLess c.typ c.max c.min && finite c.rate && finite c.deadband && decide (c.filter < 2) && decide (c.pub < 4)
    && (decide (c.filter ≠ 1) || within 1 16383 c.tau) && (decide (c.pub < 2) || within 1 16383 c.period)

/-- STAND (R103, R517). -/
def standOk (c : StandCfg) : Bool :=
  decide (c.points ≤ 1048576) && c.cfg.all (fun p => decide (p.1 < c.points) && ptCfgOk p.2)

/-- Local points lie below the table's size (R518). -/
def pointsOk (c : ImageContent) : Bool :=
  (namedPoints c).all (fun g => decide (g / 2 ^ 20 ≠ c.struct_.devNum) || decide (localPt g < c.stand.points))

/-- At most 12,288 points need a pin (R109). -/
def pinsOk (c : ImageContent) : Bool := decide ((pinnedPts c).length ≤ 12288)

/-- The types a node may hang below (R196). -/
def parentOk (child parent : NodeType) : Bool :=
  match child with
  | .trafo => decide (parent = .grid) || decide (parent = .trafo)
  | .cabinet => decide (parent = .grid) || decide (parent = .trafo)
  | .bus => decide (parent = .grid) || decide (parent = .trafo) || decide (parent = .cabinet)
  | .matrix => decide (parent = .trafo) || decide (parent = .cabinet)
  | .module => decide (parent = .matrix)
  | .dispenser => decide (parent = .matrix) || decide (parent = .bus)
  | .outlet => decide (parent = .dispenser) || decide (parent = .matrix) || decide (parent = .bus)
  | .storage => decide (parent = .grid) || decide (parent = .trafo) || decide (parent = .bus)
  | .pv => decide (parent = .grid) || decide (parent = .trafo) || decide (parent = .bus)
  | _ => false

/-- A node of the tree. -/
def yNode (y : YarderCfg) (n : Nat) : NodeCfg := tget {} y.nodes n

/-- The MATRIX above an outlet, direct or through a DISPENSER (R198). -/
def yMatrixOf (y : YarderCfg) (n : Nat) : Option Nat :=
  let p := (yNode y n).parent
  if (yNode y p).typ = .matrix then some p
  else if (yNode y p).typ = .dispenser && (yNode y (yNode y p).parent).typ = .matrix then some (yNode y p).parent else none

/-- Levels from a node up to the root, counting both. -/
def yDepth (y : YarderCfg) : Nat → Nat → Nat
  | 0, _ => 99
  | f + 1, n => if n = 0 then 1 else 1 + yDepth y f (yNode y n).parent

/-- One node's parameters lie in the ranges of R198. -/
def yNodeOk (y : YarderCfg) (n : Nat) : Bool :=
  let c := yNode y n
  let t := c.typ
  let is (l : List NodeType) : Bool := l.contains t
  decide (t ≠ .none) && decide (decide (t = .grid) = decide (n = 0)) && (decide (n = 0) || (decide (c.parent < n) && parentOk t (yNode y c.parent).typ))
    && decide (yDepth y 13 n ≤ 12) && decide (c.pMax ≤ 4000000000)
    && (!is [.grid, .storage] || decide (c.pRev ≤ 4000000000))
    && (!is [.module, .outlet] || decide (c.iMax ≤ 60000))
    && (!is [.bus, .module] || within 0x8000 0xFFFF c.eff)
    && (!is [.outlet, .storage] || (decide (c.cls ≤ 7) && decide (c.gMin ≤ c.pMax)))
    && (!is [.outlet] || decide (c.safeMin ≤ c.pMax))
    && (!is [.outlet, .storage, .pv] || (within 1 0xFFFFFFFF c.rampUp && within 1 0xFFFFFFFF c.rampDn))
    && (!is [.outlet] || (yMatrixOf y n).isNone || within 1 64 c.maxMod)
    && (!is [.matrix] || within 100 1000 c.swT)
    && (!is [.storage] || (decide (c.socRes ≤ 100) && decide (c.socTgt ≤ 100)))

/-- A MATRIX's modules and outlet slots (R196, R198). -/
def yMatrixOk (y : YarderCfg) (n : Nat) : Bool :=
  let all := List.range y.count
  let mods := all.filter (fun k => (yNode y k).typ = .module && (yNode y k).parent = n)
  let outs := all.filter (fun k => (yNode y k).typ = .outlet && yMatrixOf y k = some n)
  decide (mods.length ≤ 64) && decide (outs.length ≤ 32) &&
    pairwise (fun a b => decide ((yNode y a).pMax = (yNode y b).pMax) && decide ((yNode y a).iMax = (yNode y b).iMax) && decide ((yNode y a).eff = (yNode y b).eff)) mods

/-- `T_MAX` of a tree of `n` nodes, in µs, rounded up (R201). -/
def tMax (n : Nat) : Nat := if n ≤ 512 then 400 else 400 + divUp (1600 * (n - 512)) 3584

/-- YARDER (R196 to R201). -/
def yarderOk (y : YarderCfg) : Bool :=
  within 1 4096 y.count && within 1 100 y.tCyc && decide (tMax y.count + 200 ≤ 1000 * y.tCyc)
    && (List.range y.count).all (fun n => yNodeOk y n && (decide ((yNode y n).typ ≠ .matrix) || yMatrixOk y n))

/-- METROMAP (R77, R220, R225, R242, R259): a hub has no metering channels, and an enabled bay has its three. -/
def metroOk (role : Role) (bays : Tab BayCfg) (m : MetroCfg) : Bool :=
  (decide (role ≠ .hub) || (m.bays.isEmpty && m.pulses.isEmpty)) && bays.all (fun p =>
    let f := tget ({} : MeterCfg) m.bays p.1
    !p.2.enabled || (f.mvEn && f.mihEn && f.milEn && decide (p.2.ratedV ≤ f.fsV) && decide (10 * p.2.ratedI ≤ 9 * f.fsIh)))
    && m.pulses.all (fun p => decide (p.1 < 4) && (!p.2.en || within 1 100000 p.2.const))
    && m.profiles.all (fun p => decide (p.1 < 16) && decide (p.2.1 ≤ 6)
      && (decide (role ≠ .post) || !(decide (p.2.1 = 3) || decide (p.2.1 = 4)))
      && (!(decide (p.2.1 = 1) || decide (p.2.1 = 2)) || (tget ({} : BayCfg) bays p.2.2).enabled))

/-- CALENDAR (R256). -/
def calOk (c : CalCfg) : Bool :=
  let date (m d : Nat) : Bool := within 1 12 m && within 1 31 d
  let point (p : DstPoint) : Bool := within 1 12 p.month && within 1 5 p.week && decide (p.weekday < 7) && decide (p.minute < 1440)
  within 1 4 c.seasons.length && within 1 8 c.weeks.length && within 1 16 c.days.length && decide (c.specials.length ≤ 64)
    && c.seasons.all (fun s => date s.1 s.2.1 && decide (s.2.2 < c.weeks.length))
    && c.weeks.all (fun w => decide (w.length = 7) && w.all (fun d => decide (d < c.days.length)))
    && c.days.all (fun d => within 1 12 d.length && d.all (fun x => decide (x.1 < 1440) && decide (x.2 < 8))
        && (match d.head? with | some x => decide (x.1 = 0) | none => false) && pairwise (fun a b => decide (a.1 < b.1)) d)
    && c.specials.all (fun s => date s.2.1 s.2.2.1 && decide (s.2.2.2 < c.days.length))
    && (match c.dst with | some p => point p.1 && point p.2 | none => true)
    && (match c.period with | some p => within 1 28 p.1 && decide (p.2 < 1440) && decide (p.2 % 30 = 0) | none => true)

/-- One Choker channel: nominal current, retries, safety designation, inrush limit and windows (R317, R360 to R362, R370). -/
def chanOk (c : ChanCfg) : Bool :=
  !c.configured ||
  (within 1 30 c.iNom && decide (c.retryMax ≤ 15) && decide (c.shed ≤ 7)
    && (!c.safety || (decide (c.retryMax = 0) && !c.idleKept && decide (c.owner = .spar)))
    && (decide (c.profile ≠ .lamp) || decide (3 * c.iNom ≤ min (10 * c.iNom) 120))
    && (decide (c.profile ≠ .motor) || decide (3 * c.iNom ≤ min (5 * c.iNom) 120))
    && (decide (c.profile ≠ .coil) || within 20 500 c.tWin)
    && (decide (c.profile ≠ .capacitive) || within 1 100 c.tWin))

/-- CHOKER (R317, R360 to R370): the never-shed channels' conduction and current. -/
def chokerOk (t : Tab ChanCfg) : Bool :=
  let never := (t.filter (fun p => p.2.configured && (p.2.safety || decide (p.2.shed = 0)))).map (fun p => p.2)
  t.all (fun p => decide (p.1 < 32) && chanOk p.2)
    && decide (never.foldl (fun n c => n + 7 * condCurrent c ^ 2) 0 ≤ 2200 * 100000)
    && decide (never.foldl (fun n c => n + c.iNom) 0 ≤ 250)

/-- BAYMAP's channels are configured and safety-designated (R317, R360). -/
def baysOk (t : Tab BayCfg) (ch : Tab ChanCfg) : Bool :=
  let safe (j : Nat) : Bool := let c := tget ({} : ChanCfg) ch j; c.configured && c.safety
  t.all (fun p => decide (p.1 < 8) && (!p.2.enabled || (safe p.2.chK1 && safe p.2.chK2 && safe p.2.chK3 && safe p.2.chLock)))

/-- One lane alone (R345, R351, R361). -/
def laneOk (c : ImageContent) (l : LaneCfg) : Bool :=
  let inp (i : LaneIn) : Bool := decide (i.kind ≠ 2) || (tget ({} : LaneCfg) c.lanes i.lane).configured
  let ch := tget ({} : ChanCfg) c.choker l.outCh
  !l.configured ||
  (within 1 8 l.nsec && within 1 20000 l.period && inp l.inA && inp l.inB && inp l.inC && decide (l.outLo.toInt ≤ l.outHi.toInt)
    && (decide (l.outKind ≠ 2) || (ch.configured && !ch.safety && decide (ch.owner = .peavey)))
    && (decide (l.outKind ≠ 1) || !c.metro.bays.any (fun p => [p.2.ptV, p.2.ptI, p.2.ptP].contains (some l.outPt))))

/-- PEAVEY (R345, R351). -/
def lanesOk (c : ImageContent) : Bool :=
  c.lanes.all (fun p => decide (p.1 < 64) && laneOk c p.2)
    && pairwise (fun a b => !(a.2.configured && b.2.configured && decide (a.2.outKind = b.2.outKind)
        && ((decide (a.2.outKind = 1) && decide (a.2.outPt = b.2.outPt)) || (decide (a.2.outKind = 2) && decide (a.2.outCh = b.2.outCh))))) c.lanes

/-- The insulation thresholds of one bay (R305): ranges, and the time constant of the fault threshold with `CY_MAX`. -/
def isoBayOk (b : BayCfg) (fault warn : Nat) : Bool :=
  let rc := b.rCpl * 1000
  let rf := fault * b.ratedV
  within 50 500 fault && within (fault + 1) 1000 warn && decide (rc * rf * (b.cyMax * 10) ≤ 133000000 * (rc + rf))

/-- The insulation parameters of every enabled bay (R305). -/
def isoOk (bays : Tab BayCfg) (t : Tab (Option DWord)) : Bool :=
  bays.all (fun p => !p.2.enabled ||
    (let v := ((tget none t (0x80 + p.1)).getD 0).toNat
     if hasParam t (0x80 + p.1) then isoBayOk p.2 (field v 0 32) (field v 32 32) else isoBayOk p.2 100 500))

/-- The parameters as a table. -/
def paramTab (l : List (Nat × DWord)) : Tab (Option DWord) := tofList none (l.map (fun p => (p.1, some p.2)))

/-- The Hinge connections (R332): pairs, limits, and the frame rate in each direction. -/
def connsOk (planW : Bool) (t : Tab HingeCfg) : Bool :=
  let used := t.filter (fun p => p.2.used)
  let one (k : Nat) (c : HingeCfg) : Bool :=
    let r := tget ({} : HingeCfg) t c.paired
    r.used && decide (r.paired = k) && decide (c.paired ≠ k) && decide (r.link = c.link) && decide (r.peer = c.peer) && decide (r.tx ≠ c.tx)
      && within 1 1000 c.period && within 5 1000 c.timeout && within 1 255 c.window
      && (decide (c.link ≠ sklLink) || (if planW then decide (500 ≤ c.timeout) else decide (c.timeout = 1000)))
  let rate (tx : Bool) : Nat := used.foldl (fun n p => if p.2.tx = tx then n + divUp 1000 p.2.period else n) 0
  decide (used.length ≤ 1024) && used.all (fun p => decide (p.1 < 1024) && one p.1 p.2)
    && pairwise (fun a b => decide (a.2.connId ≠ b.2.connId)) used && decide (rate true ≤ 400000) && decide (rate false ≤ 400000)

/-- SAFETY (R305, R312, R325, R328, R332): an output parameter that maps something names a configured channel (R360). -/
def safetyOk (c : ImageContent) : Bool :=
  let t := paramTab c.safety.params
  let get (i : Nat) : Nat := ((tget none t i).getD 0).toNat
  paramsOk get && isoOk c.bays t && efOk c.metro t && c.safety.params.all (fun p => paramInRange p.1 p.2.toNat) && connsOk c.skl.planW c.safety.conns
    && (List.range 32).all (fun j => decide (get (0x40 + j) = 0) || (tget ({} : ChanCfg) c.choker j).configured)

/-- Two regions share a pixel. -/
def overlap (a b : RegionCfg) : Bool :=
  decide (a.x < b.x + b.w) && decide (b.x < a.x + a.w) && decide (a.y < b.y + b.h) && decide (b.y < a.y + a.h)

/-- BRAND (R423, R429, R430, R432): a panel that serves a bay has its legal region. -/
def brandOk (b : BrandCfg) : Bool :=
  b.panels.all (fun p => decide (p.1 < 8) && (!p.2.used ||
    (within 8 1600 p.2.width && decide (p.2.width % 8 = 0) && within 1 1200 p.2.height && within 10 50 p.2.tFrame && within 50 300 p.2.vcom
      && decide (p.2.bounds.length = 7) && decide (p.2.tLo ≤ p.2.tHi) && decide (p.2.nFrames.length = 8) && p.2.nFrames.all (fun n => within 1 4095 n)
      && (p.2.legal == p.2.bay.isSome) && (!p.2.legal || (tget {} p.2.regions 0).used)
      && p.2.regions.all (fun r => decide (r.1 < 16) && (!r.2.used || (decide (r.2.x % 8 = 0) && decide (r.2.w % 8 = 0) && decide (r.2.x + r.2.w ≤ p.2.width)
          && decide (r.2.y + r.2.h ≤ p.2.height))))
      && pairwise (fun a c => !(a.2.used && c.2.used && overlap a.2 c.2)) p.2.regions)))
    && decide (fixedSpace b ≤ 16777216)

/-- Settings for which a rule gives a range (R162, R205, R238, R302, R315, R361, R367, R370, R392, R437). -/
def rangesOk (c : ImageContent) : Bool :=
  c.bays.all (fun p => !p.2.enabled || (within 1 20 p.2.cpFilt && within 100 2000 p.2.rCpl && within 1 100 p.2.cyMax && decide (p.2.cyMin ≤ 1023)))
    && within 10 500 c.metro.iStart && within 2 60 c.metro.legalPeriod && decide (c.yarder.margin ≤ 10)
    && c.choker.all (fun p => !p.2.configured || (decide (p.2.pwmF < 4) && within 1 1000 p.2.tRetry && (decide (p.2.profile ≠ .coil) || within 10 100 p.2.dHold)))
    && (!c.skl.on || (within 60 3600 c.skl.routePeriod && within 1 3 c.skl.coupling && (!c.skl.planW || within 200 400 c.skl.fc) && decide (c.skl.addr ≤ 4095)
          && (c.skl.coord == decide (c.skl.addr = 0))))

/-- Every rule on the settings (R26, R68, R77, R88, R131, R151, R196 to R201, R225, R256, R259, R305, R317, R325, R332,
R351, R360 to R370, R430, R432, R510, R517, R518). -/
def contentOk (c : ImageContent) : Bool :=
  let role := c.struct_.role
  structOk c.struct_ && stackOk c && permitsOk c.permits && vlinkOk role c.vlink && standOk c.stand && pointsOk c && pinsOk c
    && (decide (role = .post) || yarderOk c.yarder) && metroOk role c.bays c.metro && calOk c.cal && chokerOk c.choker
    && rangesOk c && baysOk c.bays c.choker && lanesOk c && safetyOk c && brandOk c.brand
    && (decide (role = .hub) || c.stack.pair.isNone) && c.migSteps.all (fun p => decide (0x40 ≤ p.1) && decide (p.1 ≤ 0x7F))

end Sys2Proof.Machine
end

