-- ==== Sys2Proof/Machine/ImageCheck.lean ====
section
/-! DEFINITION. Checking an image: the header (R74), the section table (R75 to R79), what a skipped or absent section
leaves unconfigured (R14, R78), stored formats (R87), the logs' room (R90, R92), and the image a flash bank holds. -/
namespace Sys2Proof.Machine

/-- The outcome of R74's checks, in order: status and DETAIL of the first that fails. -/
def State.headerFail (s : State) (h : ImageHeader) : Option (Status × Nat) :=
  let key := tget 0 s.key.imgKeys h.keyId
  if h.magic ≠ 0x44594D4C || h.hdrLen ≠ 256 then some (.range, 1)
  else if h.fmtMajor ≠ 1 || 3 < h.fmtMinor then some (.version, 2)
  else if h.family ≠ 0x0C1D4816 then some (.range, 3)
  else if 8 ≤ h.keyId || key = 0 || tget false s.key.imgRevoked h.keyId then some (.auth, 4)
  else if h.signer ≠ key then some (.auth, 5)
  else if h.arbCtr < s.cfg.arbMin then some (.auth, 6)
  else if 64 * 1024 * 1024 < 0x100 + h.bodyLen || h.secCount = 0 || 256 < h.secCount then some (.range, 7)
  else none

/-- How a section type stands in a role (R77). -/
inductive Marking | required | optional | absent
deriving DecidableEq, Repr

/-- The markings of a type for post, hub and combined; none for an unknown type (R77). -/
def secMarks (t : Nat) : Option (Marking × Marking × Marking) :=
  let req : Marking × Marking × Marking := (.required, .required, .required)
  let opt : Marking × Marking × Marking := (.optional, .optional, .optional)
  if t = 0x01 || t = 0x02 || (0x04 ≤ t && t ≤ 0x06) || t = 0x0A || t = 0x0B || t = 0x0E || t = 0x12 || t = 0x13 || (0x29 ≤ t && t ≤ 0x2C) then some req
  else if t = 0x03 || t = 0x28 then some (.required, .absent, .required)
  else if t = 0x07 then some (.absent, .required, .required)
  else if t = 0x08 || t = 0x09 || t = 0x0C || t = 0x0F || t = 0x11 || t = 0x14 || t = 0x15 || (0x20 ≤ t && t ≤ 0x27) then some opt
  else if t = 0x0D then some (.absent, .optional, .absent)
  else if t = 0x10 then some (.optional, .absent, .optional)
  else none

/-- A type's marking for a role (R77). -/
def secMark (role : Role) (t : Nat) : Option Marking :=
  match secMarks t with
  | none => none
  | some m => some (match role with | .hub => m.2.1 | .combined => m.2.2 | _ => m.1)

/-- The types of R77's table. -/
def secTypes : List Nat := (List.range 0x2D).filter (fun t => (secMarks t).isSome)

/-- The loader supports a section: a known type, a major version it supports and at most its highest minor (R78). -/
def secKnown (x : Section) : Bool :=
  (secMarks x.typ).isSome && (match x.topMinor with | some m => decide (x.verMinor ≤ m) | none => false)

/-- The flags R77's table gives a type: REQUIRED, METRO, SAFETY, SEALED. -/
def secFlags (t : Nat) : Bool × Bool × Bool × Bool :=
  (decide (t = 0x01) || decide (t = 0x02) || decide (t = 0x13),
   decide (t = 0x04) || decide (t = 0x0B) || decide (t = 0x28) || decide (t = 0x29),
   decide (t = 0x0A) || decide (t = 0x2B),
   decide (t = 0x0A) || decide (t = 0x15) || (decide (0x28 ≤ t) && decide (t ≤ 0x2C)))

/-- A section of a known type carries its type's flags: REQUIRED may stand on any other too (R77, assumption 38). -/
def flagsOk (x : Section) : Bool :=
  let f := secFlags x.typ
  (secMarks x.typ).isNone || ((!f.1 || x.required) && decide (x.metro = f.2.1) && decide (x.safety = f.2.2.1) && decide (x.sealed = f.2.2.2))

/-- A section that must not be missing (R78). -/
def secNeeded (role : Role) (x : Section) : Bool := x.required || decide (secMark role x.typ = some .required)

/-- A section is in force: present and supported. -/
def hasSec (img : Image) (t : Nat) : Bool := img.sections.any (fun x => decide (x.typ = t) && secKnown x)

/-- What a role does not enable stays unconfigured: a hub has no reader (R14). -/
def nfcForRole (c : NfcCfg) (role : Role) : NfcCfg := if role = .hub then { c with ants := [] } else c

/-- The settings in force: a section that is absent or skipped, and a function that the role does not enable, leaves its
function unconfigured (R14, R78). -/
def effective (img : Image) : ImageContent :=
  let c := img.content
  { struct_ := if hasSec img 0x01 then c.struct_ else {}
    balls := if hasSec img 0x02 then c.balls else []
    bays := if hasSec img 0x03 then c.bays else []
    metro := if hasSec img 0x04 then c.metro else {}
    choker := if hasSec img 0x05 then c.choker else []
    stand := if hasSec img 0x06 then c.stand else {}
    yarder := if hasSec img 0x07 then c.yarder else {}
    lanes := if hasSec img 0x08 then c.lanes else []
    skl := if hasSec img 0x09 then { c.skl with on := true } else {}
    safety := if hasSec img 0x0A then c.safety else {}
    cal := if hasSec img 0x0B then c.cal else {}
    stack := { present := hasSec img 0x0C, members := if hasSec img 0x0C then c.stack.members else [],
               pair := if hasSec img 0x0D then c.stack.pair else none }
    net := if hasSec img 0x0E then c.net else {}
    permits := if hasSec img 0x0F then c.permits else []
    brand := if hasSec img 0x10 then c.brand else {}
    nfc := if hasSec img 0x11 then nfcForRole c.nfc c.struct_.role else {}
    vlink := if hasSec img 0x12 then c.vlink else {}
    formats := if hasSec img 0x13 then c.formats else []
    migSteps := if hasSec img 0x14 then c.migSteps else []
    migStepsV := if hasSec img 0x15 then c.migStepsV else []
    chkPts := if hasSec img 0x05 then c.chkPts else []
    hingePts := if hasSec img 0x0A then c.hingePts else []
    acFw := BitVec.ofNat 8 ((List.range 8).foldl (fun m i => m + (if hasSec img (0x20 + i) then 2 ^ i else 0)) 0)
    fwScalVer := c.fwScalVer }

/-- The section table's form (R75, R76): places in the body after the table, no overlap, no type twice. -/
def tableOk (img : Image) : Bool :=
  let first := 0x100 + 32 * img.hdr.secCount
  decide (img.sections.length = img.hdr.secCount)
    && img.sections.all (fun x => decide (x.offset % 256 = 0) && decide (first ≤ x.offset) && decide (x.offset + x.length ≤ 0x100 + img.hdr.bodyLen))
    && pairwise (fun a b => decide (a.offset + a.length ≤ b.offset) || decide (b.offset + b.length ≤ a.offset)) img.sections
    && pairwise (fun a b => decide (a.typ ≠ b.typ)) img.sections

/-- The body check (R75 to R80): none where it passes, else the status (VERSION for an unsupported section that is
needed, RANGE otherwise; assumption 31). -/
def bodyFail (img : Image) : Option Status :=
  let role := img.content.struct_.role
  if img.bodyId ≠ img.hdr.bodyDigest || !tableOk img then some .range
  else if !img.sections.all flagsOk then some .range
  else if img.sections.any (fun x => x.sealed && !x.vendorOk) then some .range
  else if img.sections.any (fun x => !secKnown x && secNeeded role x) then some .version
  else if secTypes.any (fun t => decide (secMark role t = some .required) && !hasSec img t) then some .range
  else if img.sections.any (fun x => decide (secMark role x.typ = some .absent)) then some .range
  else if !contentOk (effective img) then some .range
  else none

/-- The running metrology would differ from the verified digest (R90). -/
def State.reverifyFor (s : State) (h : ImageHeader) : Bool := decide (h.metroDigest ≠ s.cfg.verifiedMetro)

/-- Entries the safety change log holds unarchived (R341, R342). -/
def State.safUsed (s : State) : Nat := s.saf.last - s.saf.archived

/-- The SAFETY section's content is new to this device, or the parameters would migrate (R92). -/
def State.safetyNew (s : State) (c : ImageContent) : Bool := decide (s.cfg.safetyDigest ≠ some c.safety.digest)
def State.safetyMigrates (s : State) (c : ImageContent) : Bool := decide (s.verOf 0x01 ≠ 0) && verMoves c false 0x01 (s.verOf 0x01)

/-- The entries a start writes have room: a change of REVERIFY in the legal log (R90), a change of the safety
parameters' origin in the safety change log (R92). -/
def State.logsOk (s : State) (h : ImageHeader) (c : ImageContent) : Bool :=
  (decide (s.reverifyFor h = s.cfg.lastReverify) || !s.changeFull)
    && decide (s.safUsed + (s.safetyNew c).toNat + (s.safetyMigrates c).toNat ≤ 1024)

/-- The number of a stack master by its strap is 0, that of a member 1 to 7 (R18, R24). -/
def State.numberOk (s : State) (c : ImageContent) : Bool :=
  !c.stack.present || (decide (c.struct_.devNum = 0) == (s.sys.straps.boomMstr && decide (c.struct_.role ≠ .post)))

/-- What an image meets at a start up to boot step 6: the failing step, or the settings in force (R50, R83). -/
def State.loadImage (s : State) (img : Image) : Except Nat ImageContent :=
  if (s.headerFail img.hdr).isSome then .error 5
  else if (bodyFail img).isSome || !s.numberOk (effective img) || !s.formatsOk (effective img) || !s.logsOk img.hdr (effective img) then .error 6
  else .ok (effective img)

/-! ### Flash banks -/

/-- What stays uncovered of some intervals once one piece is laid; none where the piece carries another image. -/
def uncover (img : Image) (p : Piece) (l : List (Nat × Nat)) : Option (List (Nat × Nat)) :=
  let hits := l.any (fun r => decide (p.off < r.2) && decide (r.1 < p.off + p.len))
  if hits && p.img ≠ img then none
  else some (l.foldl (fun acc r =>
    if p.off < r.2 && r.1 < p.off + p.len then
      acc ++ (if r.1 < p.off then [(r.1, p.off)] else []) ++ (if p.off + p.len < r.2 then [(p.off + p.len, r.2)] else [])
    else acc ++ [r]) [])

/-- The pieces, newest first, cover some intervals of an image. -/
def covers (img : Image) : List Piece → List (Nat × Nat) → Bool
  | [], l => l.isEmpty
  | p :: r, l => match uncover img p l with
    | none => false
    | some l1 => covers img r l1

/-- Header bytes 0x000 to 0x09F, which the signature covers (R73). -/
def headSigned (h : ImageHeader) : List Byte :=
  be 4 h.magic ++ le 2 h.hdrLen ++ le 1 h.fmtMinor ++ le 1 h.fmtMajor ++ le 4 h.family ++ le 4 h.imageVer ++ le 4 h.arbCtr ++ le 4 h.bodyLen
    ++ le 2 h.secCount ++ le 1 h.keyId ++ List.replicate 5 0 ++ digestBytes h.bodyDigest 48 ++ digestBytes h.metroDigest 48 ++ List.replicate 32 0

/-- The 256 octets of an image header (R73). -/
def headBytes (h : ImageHeader) : List Byte := headSigned h ++ sigBytes (some (h.signer, 0)) (headSigned h) 96

/-- The octet of a bank at an offset of the header: that of the newest piece there, erased flash elsewhere. -/
def Bank.headOctet (b : Bank) (i : Nat) : Byte :=
  match b.pieces.find? (fun p => decide (p.off ≤ i) && decide (i < p.off + p.len)) with
  | some p => (headBytes p.img.hdr).getD i 0
  | none => 0xFF

/-- A header whose octets are no whole image's: its fields as they stand, and a signature that verifies for no key (R73). -/
def Bank.mixedHead (b : Bank) : ImageHeader :=
  let o (i n : Nat) : Nat := unle ((List.range n).map (fun j => b.headOctet (i + j)))
  { magic := unle ((List.range 4).map (fun j => b.headOctet (3 - j))), hdrLen := o 4 2, fmtMinor := o 6 1, fmtMajor := o 7 1, family := o 8 4, imageVer := o 12 4, arbCtr := o 16 4,
    bodyLen := o 20 4, secCount := o 24 2, keyId := o 26 1, signer := 0 }

/-- The image a bank's header octets belong to. -/
def Bank.headImage (b : Bank) : Option Image :=
  match b.pieces.find? (fun p => decide (p.off < 256) && decide (0 < p.len)) with
  | some p => if covers p.img b.pieces [(0, 256)] then some p.img else none
  | none => none

/-- The image a bank holds; a header of pieces does not verify, and a body that was not written whole fails its digest (R73,
R80, R93). -/
def Bank.image (b : Bank) : Image :=
  match b.headImage with
  | some i => if covers i b.pieces [(0, 256 + i.hdr.bodyLen)] then i else { i with bodyId := i.hdr.bodyDigest + 1 }
  | none => { hdr := b.mixedHead }

/-- What CFG_BANK_VERIFY finds (R74, R95): status and DETAIL, none where header, body and formats pass. An empty bank
fails the magic. -/
def State.verifyBank (s : State) (n : Nat) : Option (Status × Nat) :=
  let i := (s.bank n).image
  match s.headerFail i.hdr with
  | some e => some e
  | none => match bodyFail i with
    | some st => some (st, 8)
    | none => if s.formatsOk (effective i) then none else some (.range, 8)

/-- A bank's registers after a check: whether it passed, and the version of the header that passed (R94, R95). -/
def State.checkedBank (s : State) (n : Nat) : State :=
  let h := (s.bank n).image.hdr
  s.modBank n (fun b => { b with verified := (s.verifyBank n).isNone, ver := if (s.headerFail h).isNone then h.imageVer else 0 })

end Sys2Proof.Machine
end

