-- ==== Sys2Proof/Machine/CfgCmd.lean ====
section
/-! DEFINITION. The meanings of the CFG commands (R83, R84, R91 to R95). -/
namespace Sys2Proof.Machine

/-- A CFG command runs in FIELD and SERVICE only (R95), and not during a power failure (R93). -/
def State.runCfg (s : State) (c : Cmd) (opcode : Nat) (body : State → Answer) : State :=
  s.runCmd c opcode (fun s =>
    if s.key.lc ≠ .field && s.key.lc ≠ .service then fail s .locked
    else if s.sys.pfail then fail s .permit
    else body s)

/-- The bank the running image was started from (R94); none after a start over PCIe. -/
def State.bankRuns (s : State) (n : Nat) : Bool := !s.cfg.fromPcie && decide (s.cfg.runBank = n)

/-- CFG_BANK_ERASE (R93, R95). -/
def execCfgBankErase (c : Cmd) (bank : Nat) (s : State) : Res :=
  .next (s.runCfg c 0x0101 (fun s =>
    if 1 < bank then fail s .range
    else if s.bankRuns bank || s.cfg.trial then fail s .state
    else okay (s.modBank bank (fun b => { b with pieces := [], verified := false }))))

/-- CFG_BANK_WRITE (R93, R95): the newest chunk covers what lies below it. -/
def execCfgBankWrite (c : Cmd) (bank off len : Nat) (img : Image) (s : State) : Res :=
  .next (s.runCfg c 0x0102 (fun s =>
    if 1 < bank then fail s .range
    else if s.bankRuns bank || s.cfg.trial then fail s .state
    else if len = 0 || 65536 < len || off % 4096 ≠ 0 || 64 * 1024 * 1024 < off + len then fail s .range
    else okay (s.modBank bank (fun b => { b with pieces := { off := off, len := len, img := img } :: b.pieces, verified := false }))))

/-- CFG_BANK_VERIFY (R74, R95): header, body and formats. A failing check leaves its outcome for CFG_ACTIVATE and the
bank's version register, which describe the last check; METRO_SAME compares with the verified metrology digest (assumption
37). -/
def execCfgBankVerify (c : Cmd) (bank : Nat) (s : State) : Res :=
  .next (s.runCfg c 0x0103 (fun s =>
    if 1 < bank then fail s .range
    else if s.bankRuns bank then fail s .state
    else
      let h := (s.bank bank).image.hdr
      match s.verifyBank bank with
      | none => okay (s.checkedBank bank) (le 4 h.imageVer ++ le 4 h.arbCtr ++ le 1 (decide (h.metroDigest = s.cfg.verifiedMetro)).toNat)
      | some e => .done { st := s.checkedBank bank, status := e.1, detail := e.2, keep := true }))

/-- CFG_ACTIVATE (R83, R95). -/
def execCfgActivate (c : Cmd) (bank : Nat) (s : State) : Res :=
  .next (s.runCfg c 0x0104 (fun s =>
    if 1 < bank then fail s .range
    else if !(s.bank bank).verified then fail s .state
    else okay { s with cfg := { s.cfg with prefBank := bank, trial := true, triesLeft := 3 } }))

/-- CFG_CONFIRM (R84, R95): the running image, on trial, becomes final, and `ARB_MIN` rises to its `ARB_CTR`. -/
def execCfgConfirm (c : Cmd) (s : State) : Res :=
  .next (s.runCfg c 0x0105 (fun s =>
    if !s.cfg.runTrial || s.cfg.migPending then fail s .state
    else
      let a := match s.cfg.runHdr with | some h => h.arbCtr | none => 0
      okay { s with cfg := { s.cfg with trial := false, runTrial := false, arbMin := max s.cfg.arbMin a } }))

/-- CFG_REVERT (R83, R95): the other bank must verify; a failure that R74 or R95 gives as RANGE answers AUTH here, the row's
table naming no other (assumption 37). -/
def execCfgRevert (c : Cmd) (s : State) : Res :=
  .next (s.runCfg c 0x0106 (fun s =>
    if !s.cfg.trial then fail s .state
    else match s.verifyBank (1 - s.cfg.prefBank) with
      | some e => fail s (if e.1 = .version then .version else .auth) e.2
      | none => okay { s with cfg := { s.cfg with prefBank := 1 - s.cfg.prefBank, trial := false, runTrial := false } }))

/-- The running image's metrology digest becomes the verified one (R91). -/
def State.reverified (s : State) (m : KeyMsg) (digest : Nat) : State :=
  let s1 := s.storeCtr m
  let s2 := { s1 with cfg := { s1.cfg with verifiedMetro := digest, reverify := false, lastReverify := false } }
  s2.legalChange 5 (le 1 3 ++ digestBytes digest 16 ++ digestBytes digest 8)

/-- CFG_REVERIFY_CLEAR (R91, R95, R299): a verification statement, KIND 16. -/
def execCfgReverifyClear (c : Cmd) (m : KeyMsg) (s : State) : Res :=
  .next (s.runCfg c 0x0107 (fun s =>
    if !s.cfg.reverify || s.cfg.trial then fail s .state
    else match s.checkMsg m [16] [.field, .service] with
      | some e => msgRej s e
      | none =>
        if m.digest ≠ s.metroDigest then msgRej s .range 9
        else if s.changeFull then logFull s
        else okay (s.reverified m s.metroDigest)))

end Sys2Proof.Machine
end

