-- ==== Sys2Proof/Machine/Peavey.lean ====
section
/-! DEFINITION. Peavey: a lane's sample, its register writes and its commands (R345 to R359). States and signals
are integers in units of 2^-31. -/
namespace Sys2Proof.Machine

/-- Limit to a 40-bit signal, ±256 (R347). -/
def sat40 (x : Int) : Int := clampInt (-(2 ^ 39)) (2 ^ 39 - 1) x

/-- A coefficient (signed Q2.30) times a signal, rounded to 2^-31 (R347). -/
def coefMul (c : Word) (x : Int) : Int := divRound (c.toInt * x) (2 ^ 30)

/-- Coefficient `k` of section `sec`: 0 to 4 are b0, b1, b2, a1, a2 (R358). -/
def laneCoef (c : LaneCfg) (sec k : Nat) : Word := tget 0 c.coef (8 * sec + k)

/-- What one section gives: output, new states, and whether a value saturated. -/
structure SecOut where
  y : Int := 0
  s1 : Int := 0
  s2 : Int := 0
  sat : Bool := false
deriving DecidableEq, Repr

/-- One section in transposed direct form II (R347). -/
def section40 (c : LaneCfg) (sec : Nat) (x s1 s2 : Int) : SecOut :=
  let y0 := coefMul (laneCoef c sec 0) x + s1
  let y := sat40 y0
  let t1 := coefMul (laneCoef c sec 1) x - coefMul (laneCoef c sec 3) y + s2
  let t2 := coefMul (laneCoef c sec 2) x - coefMul (laneCoef c sec 4) y
  { y := y, s1 := sat40 t1, s2 := sat40 t2, sat := decide (y ≠ y0) || decide (sat40 t1 ≠ t1) || decide (sat40 t2 ≠ t2) }

/-- The cascade from section `sec` on, `n` sections: each section's outcome in order, and the last output. -/
def cascade (l : Lane) : Nat → Nat → Int → List SecOut
  | 0, _, _ => []
  | n + 1, sec, x =>
    let o := section40 l.cfg sec x (tget 0 l.s1 sec) (tget 0 l.s2 sec)
    o :: cascade l n (sec + 1) o.y

/-- The number of sections (R358: `NSEC` holds it less 1). -/
def laneSections (c : LaneCfg) : Nat := c.nsec

/-- A Q1.15 setting in units of 2^-31. -/
def q15 (v : BitVec 16) : Int := v.toInt * 65536

/-- A lane's output is INVALID to the lanes that read it (R349). -/
def Lane.badOut (l : Lane) : Bool := (l.cfg.invProp && l.inInvalid) || (l.trip && decide (l.cfg.feAct = 2))

/-- One input's value before scaling, and whether it is INVALID (R348, R349). -/
def State.laneRaw (s : State) (i : LaneIn) (instant : Nat) : Rat × Bool :=
  if i.kind = 1 then (s.consumed i.point, s.invalid i.point)
  else if i.kind = 2 then
    let src := s.lane i.lane
    let same := decide (src.instant = some instant)
    (((if same then src.yPrev else src.y : Int) : Rat) / 2147483648, if same then src.badPrev else src.badOut)
  else (0, false)

/-- An input scaled, squared where asked, and saturated at ±1.0 (R348): value, saturated, INVALID. -/
def State.laneIn (s : State) (i : LaneIn) (instant : Nat) : Int × Bool × Bool :=
  if i.kind = 0 then (0, false, false)
  else
    let r := s.laneRaw i instant
    let v := (r.1 - f32z i.off) * f32z i.gain
    let w := if i.sqr then v * v else v
    if 1 < w then (2 ^ 31, true, r.2) else if w < -1 then (-(2 ^ 31), true, r.2) else (ratRound (w * 2147483648), false, r.2)

/-- A register write to a lane as it will take effect (R351, R355): what a field does not list keeps its value. -/
def applyLane (n : Nat) (c : LaneCfg) (w : Nat × Word) : LaneCfg :=
  let o := w.1 - (0x1000 + 0x80 * n)
  let v := w.2
  let fin := (f32 v).isSome
  if 0x4000 ≤ w.1 then
    let k := (w.1 - (0x4000 + 0x100 * n)) / 4
    if k % 8 < 5 then { c with coef := tset 0 c.coef k v } else c
  else if o = 0x14 then (if fin then { c with inA := { c.inA with gain := v } } else c)
  else if o = 0x18 then (if fin then { c with inA := { c.inA with off := v } } else c)
  else if o = 0x1C then (if fin then { c with inB := { c.inB with gain := v } } else c)
  else if o = 0x20 then (if fin then { c with inB := { c.inB with off := v } } else c)
  else if o = 0x24 then (if fin then { c with inC := { c.inC with gain := v } } else c)
  else if o = 0x28 then (if fin then { c with inC := { c.inC with off := v } } else c)
  else if o = 0x30 then
    let lo := v.setWidth 16
    let hi := (v >>> 16).setWidth 16
    if hi.toInt < lo.toInt then c else { c with outLo := lo, outHi := hi }
  else if o = 0x3C then
    let t := (v >>> 16).toNat
    { c with feLim := (v.setWidth 16).toNat, feTime := if t = 0 || 60000 < t then c.feTime else t }
  else if o = 0x40 then { c with outSafe := v.setWidth 16 }
  else c

/-- The settings a lane's registers show: those in force with the writes that wait for a sample (R355). -/
def Lane.shown (l : Lane) (n : Nat) : LaneCfg := l.pend.foldl (applyLane n) l.cfg

/-- The lane's states all zero (R356, R357). -/
def Lane.zero (l : Lane) : Lane := { l with s1 := [], s2 := [], prev := [] }

/-- Latch the inputs and form x (R348, R349, R356). -/
def State.laneLatch (s : State) (l : Lane) (instant : Nat) : Lane :=
  let a := s.laneIn l.cfg.inA instant
  let b := s.laneIn l.cfg.inB instant
  let c := s.laneIn l.cfg.inC instant
  { l with a := a.1, b := b.1, c := c.1, x := a.1 + b.1, inSat := a.2.1 || b.2.1 || c.2.1,
           inInvalid := a.2.2 || b.2.2 || c.2.2 }

/-- Following-error supervision of one sample (R353). -/
def Lane.supervise (l : Lane) : Lane × Bool :=
  if l.cfg.feLim = 0 || l.x.natAbs ≤ l.cfg.feLim * 65536 then ({ l with timer := 0 }, false)
  else
    let t := l.timer + 1
    if !l.trip && divUp (l.cfg.feTime * 20) l.cfg.period ≤ t then
      ({ l with timer := t, trip := true, feCnt := satInc l.feCnt }, true)
    else ({ l with timer := t }, false)

/-- FE_TRIP holds the output at `OUT_SAFE` and freezes the states (R353). -/
def Lane.safeOut (l : Lane) : Bool := l.trip && decide (l.cfg.feAct ≠ 0)

/-- Whether the integrator clamp keeps a section's states (R352). -/
def Lane.keeps (l : Lane) (u : Int) (sec : Nat) (o : SecOut) : Bool :=
  l.cfg.clamp && l.cfg.integ.getLsbD sec &&
  ((decide (q15 l.cfg.outHi < u) && decide (tget 0 l.prev sec < o.y)) ||
   (decide (u < q15 l.cfg.outLo) && decide (o.y < tget 0 l.prev sec)))

/-- Store the sections' states and outputs, kept where the clamp acts (R352). -/
def Lane.storeSecs (l : Lane) (u : Int) : Nat → List SecOut → Lane → Lane
  | _, [], acc => acc
  | sec, o :: r, acc =>
    let kept := l.keeps u sec o
    let acc1 : Lane := if kept then { acc with clampAct := true }
      else { acc with s1 := tset 0 acc.s1 sec o.s1, s2 := tset 0 acc.s2 sec o.s2 }
    Lane.storeSecs l u (sec + 1) r { acc1 with prev := tset 0 acc1.prev sec o.y }

/-- Compute the sections and the output of a sample (R347, R350, R352, R353). -/
def Lane.compute (l : Lane) : Lane :=
  let os := cascade l (laneSections l.cfg) 0 l.x
  let yLast := (os.getLast?.getD {}).y
  let u := yLast + l.c
  let l1 : Lane := { l with u := u, clampAct := false, stateSat := os.any (fun o => o.sat) }
  let l2 := if l.safeOut then l1 else Lane.storeSecs l u 0 os l1
  let want := if l.safeOut then q15 l.cfg.outSafe else u
  let y := clampInt (q15 l.cfg.outLo) (q15 l.cfg.outHi) want
  { l2 with y := y, outClamped := decide (y ≠ want) }

/-- The duty of an output, in 0.1 % (R350). -/
def dutyOf (y : Int) : Nat := (divRound (clampInt 0 (2 ^ 31) y * 1000) (2 ^ 31)).toNat

/-- Deliver a computed output to its target (R350). -/
def State.laneDeliver (s : State) (l : Lane) : State :=
  if l.cfg.outKind = 1 then s.engineUpdate l.cfg.outPt ((l.y : Rat) / 2147483648 * f32z l.cfg.outScale + f32z l.cfg.outOff) l.badOut
  else if l.cfg.outKind = 2 then s.chkDuty l.cfg.outCh (dutyOf l.y)
  else s

/-- A sample of a held lane: inputs latched, x formed, nothing else (R356). -/
def State.laneHeld (s : State) (n instant : Nat) : State :=
  let l := s.lane n
  let l1 := s.laneLatch { l with held := true } instant
  (s.setLane n { l1 with instant := some instant, yPrev := l.y, badPrev := l.badOut }).setEvtIf l1.inInvalid 0x0C 1

/-- A computed sample (R347 to R356). -/
def State.laneRun (s : State) (n instant : Nat) : State :=
  let l := s.lane n
  let l0 : Lane := { l with cfg := l.shown n, pend := [], held := false, rst := false }
  let l1 := s.laneLatch (if l.rst then l0.zero else l0) instant
  let f := l1.supervise
  let l2 := f.1.compute
  let s1 := s.setLane n { l2 with instant := some instant, yPrev := l.y, badPrev := l.badOut }
  let s2 := (s1.setEvtIf f.2 0x0C 0).setEvtIf l2.inInvalid 0x0C 1
  (s2.setEvtIf l2.stateSat 0x0C 2).laneDeliver l2

/-- The instant of a lane's next sample, none before the first one of all: every lane takes its first at the same instant and
one every `PERIOD` after it (R345). -/
def State.laneDue (s : State) (n : Nat) : Option Nat :=
  match (s.lane n).instant with
  | some t => some (t + (s.lane n).cfg.period)
  | none => s.pvy.first

/-- One sample of a lane, at an instant of the PEAV clock in 50 µs: no lane has a sample at another instant, and none is
skipped (R345, R346). -/
def State.sampleLane (s : State) (n instant : Nat) : State :=
  let l := s.lane n
  if !s.pvy.run || !l.cfg.configured || 64 ≤ n || (s.laneDue n).getD instant ≠ instant then s
  else
    let s1 := { s with pvy := { s.pvy with first := some (s.pvy.first.getD instant) } }
    if l.holdReq then s1.laneHeld n instant else s1.laneRun n instant

/-- The lane a PVY offset belongs to (R358). -/
def laneOf (off : Nat) : Option Nat :=
  if 0x1000 ≤ off && off < 0x3000 then some ((off - 0x1000) / 0x80)
  else if 0x4000 ≤ off && off < 0x8000 then some ((off - 0x4000) / 0x100) else none

/-- Writing a lane's `CTRL`: hold or release, and the states' reset (R356). -/
def Lane.ctrl (l : Lane) (v : Word) : Lane := { l with holdReq := v.getLsbD 0, rst := l.rst || v.getLsbD 1 }

/-- A register of a lane that a write can change (R358). -/
def laneWritable (n off : Nat) : Bool :=
  let o := off - (0x1000 + 0x80 * n)
  decide (0x4000 ≤ off) || (decide (0x14 ≤ o) && decide (o ≤ 0x28)) || decide (o = 0x30) || decide (o = 0x3C) || decide (o = 0x40)

/-- A write to a lane's register (R355, R358): a lane that is not configured ignores it. -/
def State.laneWrite (s : State) (off : Nat) (v : Word) : State :=
  match laneOf off with
  | none => s
  | some n =>
    let l := s.lane n
    if !l.cfg.configured || off % 4 ≠ 0 then s
    else if off = 0x1044 + 0x80 * n then s.setLane n (l.ctrl v)
    else if laneWritable n off then s.setLane n { l with pend := l.pend ++ [(off, v)] }
    else s

/-- The lanes as the image gives them, with all states 0 (R357). -/
def lanesOf (img : ImageContent) : Tab Lane := tofList {} (img.lanes.map (fun p => (p.1, ({ cfg := p.2 } : Lane))))

/-- Every lane restarts from zero states at a wake, its settings as they stand (R357). -/
def State.lanesRestart (s : State) : State :=
  let ls := tmap {} (fun n (l : Lane) => ({ cfg := l.shown n, feCnt := l.feCnt } : Lane)) s.pvy.lanes
  { s with pvy := { run := !s.img.lanes.isEmpty, lanes := ls } }

/-- A value of a sample as signed Q1.31; one outside that format is a free value (R359). -/
def q31Bytes (v : Int) : List Byte :=
  if -(2 ^ 31 : Int) ≤ v ∧ v < 2 ^ 31 then leInt 4 v else le 4 (Config.offFormat v 31).toNat

/-- PVY_LANE_READ's result (R359). -/
def laneReadData (l : Lane) (sec : Nat) : List Byte :=
  q31Bytes l.a ++ q31Bytes l.b ++ q31Bytes l.c ++ q31Bytes l.x ++ q31Bytes l.u ++ q31Bytes l.y
    ++ leInt 5 (tget 0 l.s1 sec) ++ leInt 5 (tget 0 l.s2 sec) ++ le 4 l.timer

end Sys2Proof.Machine
end

