-- ==== Sys2Proof/Machine/Rebuild.lean ====
section
/-! DEFINITION. Tally's rebuild at boot step 9 (R278), and the boundaries that time has skipped (R278 step 4, R282). -/
namespace Sys2Proof.Machine

/-- One skipped boundary: a period close or a due KIND 1 message. -/
inductive Skipped | period (t : Nat) | message (m : TlyMsgOp)
deriving DecidableEq, Repr

/-- When a skipped boundary falls, in TAI seconds. -/
def Skipped.at : Skipped → Nat
  | .period t => t
  | .message m => m.effective

/-- The order of R280 at one boundary: the period first. -/
def Skipped.before (a b : Skipped) : Bool :=
  decide (a.at < b.at) || (decide (a.at = b.at) && (match a, b with
    | .period _, _ => true
    | .message x, .message y => decide (x.ctr ≤ y.ctr)
    | _, _ => false))

/-- Insert in order. -/
def insertSkipped (a : Skipped) : List Skipped → List Skipped
  | [] => [a]
  | b :: r => if a.before b then a :: b :: r else b :: insertSkipped a r

/-- The calendar's period boundaries in whole TAI seconds after `lo` and up to `hi`: each falls on a local minute (R256). -/
def State.calPeriods (s : State) (lo hi : Nat) : List Nat :=
  if s.img.cal.period.isNone then []
  else
    let utc (t : Nat) : Int := (t : Int) - s.tim.utcOff - 946684800
    let first := lo + 1 + ((-(utc (lo + 1))) % 60).toNat
    ((List.range ((hi + 60 - first) / 60)).map (fun i => first + 60 * i)).filter (fun t => decide (t ≤ hi) && periodAt s.img.cal (utc t))

/-- Process one skipped boundary at its nominal time (R278 step 4). -/
def State.skip (s : State) : Skipped → State
  | .period t => if s.tly.lastPeriodEnd < t then s.closePeriod { sec := t } t else s
  | .message m => s.applyMsg m

/-- Process every boundary between an earlier instant and the present time, in order (R278 step 4, R282). -/
def State.catchUp (s : State) (t : Stamp) : State :=
  let d3 := s.dueMsgs 3
  let d1 := d3.2.dueMsgs 1
  let ps := d3.1.map (fun m => m.effective) ++ s.calPeriods t.sec s.tim.sec
  let all := (ps.map Skipped.period ++ d1.1.map Skipped.message).foldl (fun l a => insertSkipped a l) []
  let crossed := decide ((s.utc10ms / 90000) * 900 ≠ s.tly.ivl)
  let s1 := match crossed, s.tly.pNext with
    | true, some p => { d1.2 with tly := { d1.2.tly with pCeil := p, pNext := none } }.note 6
    | _, _ => d1.2
  all.foldl (fun a x => a.skip x) (s1.setEvtIf crossed 0x08 2)

/-- The newest decodable journal slot at or before a sequence number, down to the checkpoint's (R278 steps 1 and 2). -/
def State.newestSlot (s : State) : Nat → Nat → Option JSlot
  | 0, _ => none
  | f + 1, q =>
    let j := tget ({} : JSlot) s.tly.journal (q % 4096)
    let back := (q + 2 ^ 32 - 1) % 2 ^ 32
    if j = {} || j.seq ≠ q then none
    else if s.slotBad q then s.newestSlot f back
    else if j.event.isSome then s.newestSlot f back else some j

/-- The remote schedule after the decodable event slots from `q` on, over the checkpoint's (R278 step 2). -/
def State.replay (s : State) : Nat → Nat → Sched → Sched
  | 0, _, c => c
  | f + 1, q, c =>
    let j := tget ({} : JSlot) s.tly.journal (q % 4096)
    let c1 := if s.slotBad q then c
      else match j.event with
        | some e => (match e.ev, e.msg with | 1, some m => c.accepted m | 2, some m => c.applied m | _, _ => c)
        | none => c
    s.replay f ((q + 1) % 2 ^ 32) c1

/-- The slots after the newest checkpoint (R274). -/
def State.sinceCheckpoint (s : State) : Nat := (s.tly.slotSeq + 2 ^ 32 - s.tly.checkpoint) % 2 ^ 32

/-- The schedule a restart finds (R278). -/
def State.schedFound (s : State) : Sched := s.replay s.sinceCheckpoint ((s.tly.checkpoint + 1) % 2 ^ 32) s.tly.ckptSched

/-- Registers as a slot carries them: an older slot is found where the newest ones are undecodable (R278 step 2). -/
def State.fromSlot (s : State) (j : JSlot) : State :=
  if s.slotBad s.tly.slotSeq then
    let regs := (List.range 16).foldl (fun t i => tset 0 t (regKey (i / 2) (i % 2) j.tariff) (tget 0 j.regs i)) s.tly.regs
    let site := tset 0 (tset 0 s.tly.site j.tariff j.siteImp) (8 + j.tariff) j.siteExp
    { s with tly := { s.tly with regs := regs, rems := j.rems, site := if s.hubRole then site else s.tly.site, pCeil := j.pCeil } }
  else s

/-- Merge the residual into a tariff (R250, R278 step 3): registers, open entries and site in sum mode. -/
def State.mergeResidual (s : State) (r : Residual) (t : Nat) : State :=
  let x := (List.range 8).foldl (fun (acc : State × Tab Nat) n =>
    let a := acc.1.tlyAdd n 0 t (tget 0 r.energy (2 * n))
    let b := a.1.tlyAdd n 1 t (tget 0 r.energy (2 * n + 1))
    (b.1, tset 0 (tset 0 acc.2 (2 * n) a.2) (2 * n + 1) b.2)) (s, [])
  let d (n dir : Nat) : Nat := tget 0 x.2 (2 * n + dir)
  let sum := s.hubRole && s.img.metro.demandImp.isNone
  let site (dir : Nat) : Nat := if sum then (List.range 8).foldl (fun a n => a + d n dir) 0 else 0
  let s1 := x.1.feedEntries d site (fun _ => 0)
  { s1 with tly := { s1.tly with site := tadd (tadd s1.tly.site t (site 0)) (8 + t) (site 1),
                                 ivlSum := if sum then tadd s1.tly.ivlSum (s1.tly.ivl / 900) (site 0 * 3600) else s1.tly.ivlSum } }

/-- The end reason of records a start closes (R278 step 5). -/
def closeCause (c : RstCause) : EndReason := if c = .por || c = .pfailRestart then .powerFail else .fault

/-- Start in mode START with new entries (R278 step 7). -/
def State.tlyStart (s : State) (flags : BitVec 16) : State :=
  let s1 := { s with tly := { s.tly with running := true, mode := .start, modeDue := none } }
  let s2 := s1.setTariff (s1.tariffOf .start)
  let s3 := s2.openEntries flags
  s3.checkpointNow

/-- `P_CEIL` of a METROMAP section that was not started with before (R264): in force at once where there is no journal,
else from the next interval boundary on (assumption 49). -/
def State.ceilFromImage (s : State) (first : Bool) : State :=
  let p := s.img.metro.pCeil
  if first then { s with tly := { s.tly with pCeil := p, ceilImg := some p } }
  else if s.tly.ceilImg = some p then s else { s with tly := { s.tly with pNext := some p, ceilImg := some p } }

/-- The residual that belongs to the newest slot: a final one of the same tag (R240, R278). -/
def State.residualOf (s : State) (j : JSlot) : Option Residual := s.scl.residual.filter (fun r => j.final && decide (r.tag = j.seq))

/-- The newest slot was final but its residual is lost (R278). -/
def State.residualLost (s : State) (j : JSlot) : Bool := j.final && (s.residualOf j).isNone

/-- The flags of a shutdown that lost energy: no final slot, or a lost residual (R278). -/
def State.lossBits (s : State) (j : JSlot) : BitVec 16 := BitVec.ofNat 16 (8 * (!j.final).toNat + 0x1000 * (s.residualLost j).toNat)

/-- The instant at which what was open ends (R278). -/
def State.endOf (s : State) (j : JSlot) : Stamp := match s.residualOf j with | some r => r.stop | none => j.time

/-- The registers as of the newest slot, with its residual (R278). -/
def State.takeUp (s : State) (j : JSlot) : State :=
  let s1 := s.fromSlot j
  let s2 := match s.residualOf j with | some r => s1.mergeResidual r j.tariff | none => s1
  { s2 with tly := { s2.tly with abrupt := !j.final, resLost := s.residualLost j }, scl := { s2.scl with residual := none } }

/-- Steps 2 to 7 of the rebuild from the newest slot (R278). -/
def State.rebuildFrom (s : State) (j : JSlot) : State :=
  let tEnd := s.endOf j
  let fl := s.lossBits j
  let s1 := (((s.takeUp j).closeEntries tEnd (fl ||| 1)).catchUp j.time).ceilFromImage false
  let s2 := s1.openRecs.foldl (fun (a : State) n => a.recClose n (closeCause s.sys.causeCopy) tEnd false false a.lossFlags) s1
  (s2.readAll 2 j.time s2.lossFlags).tlyStart (fl ||| 4)

/-- The rebuild where the journal is empty (R278): there is nothing to apply or to close, and the RESTART readings' `REF` is 0
(assumption 49). -/
def State.rebuildNew (s : State) : State :=
  ((({ s with scl := { s.scl with residual := none } }).ceilFromImage true).readAll 2 {} 0).tlyStart 4

/-- The rebuild of R278. -/
def State.rebuild (s : State) : State :=
  let s1 := { s with tly := { s.tly with recs := s.tly.recs.filter (fun p => p.2.st ≠ RecSt.reserved), sched := s.schedFound } }
  match s1.newestSlot 4096 s1.tly.slotSeq with
  | none => s1.rebuildNew
  | some j => s1.rebuildFrom j

end Sys2Proof.Machine
end

