-- ==== Sys2Proof/Machine/Reset.lean ====
section
/-! DEFINITION. Resets (R44 to R47, R70): what a reset leaves in the always-on domain, in MRAM, in the fuses, in
flash and in the tag, and what every cause does. -/
namespace Sys2Proof.Machine

/-- Bytes that a reset keeps: those of MRAM (R46, R298). -/
def keptMem (m : Tab Byte) : Tab Byte := m.filter (fun p => decide (0x20000000 ≤ p.1) && decide (p.1 < 0x24000000))

/-- CFG keeps flash, the boot control record and the legal partition's digest (R83, R86, R90, R92). -/
def Cfg.kept (c : Cfg) : Cfg :=
  { banks := tmap {} (fun _ (b : Bank) => ({ pieces := b.pieces } : Bank)) c.banks, prefBank := c.prefBank, trial := c.trial,
    triesLeft := c.triesLeft, arbMin := c.arbMin, verifiedMetro := c.verifiedMetro, lastReverify := c.lastReverify,
    storedVer := c.storedVer, swDone := c.swDone, migMark := c.migMark, safetyDigest := c.safetyDigest }

/-- Tally's stores as of the last commit (R274 to R278); a pending ceiling is in no store (R274). -/
def Tly.kept (t : Tly) : Tly :=
  { t with sched := t.ckptSched, toJournal := [], siteInc := [], demandLast := none, demandLastExp := none, members := [], memberAt := [],
           catchDue := false, dirty := false, running := false, modeDue := none, demandInv := false, abrupt := false, resLost := false,
           pNext := none, view := [], viewRegs := [], viewSite := [] }

/-- Spar keeps parameters, password, lockout and change log in MRAM and the diagnostic cause in AON (R322, R337 to R341). -/
def Saf.kept (f : Saf) : Saf :=
  { params := f.params, hasParams := f.hasParams, unconfirmed := f.unconfirmed, affected := f.affected, password := f.password,
    fails := f.fails, lockouts := f.lockouts, lockMin := f.lockMin, log := f.log, last := f.last, archived := f.archived,
    diagCause := f.diagCause, diagDetail := f.diagDetail }

/-- The key store; DEVICE and SESSION slots do not outlast a reset (R443). -/
def Key.kept (k : Key) : Key :=
  { k with dbgAc := false, pufOk := false, slots := k.slots.filter (fun p => decide (16 ≤ p.1) && decide (p.1 < 128)) }

/-- The Service Tag's memory and its radio side, which the field powers (R411, R415). -/
def Nfc.kept (n : Nfc) : Nfc :=
  { tag := n.tag, tagField := n.tagField, mbox := n.mbox, latchBuf := n.latchBuf, latchHead := n.latchHead, selected := n.selected,
    activeBuf := n.activeBuf, snapSeq := n.snapSeq, exHead := n.exHead, exLseq := n.exLseq, pubDue := n.pubDue, exDue := n.exDue }

/-- A reset that cuts a migration under its permit leaves the marker of the record in progress (R88). -/
def State.cutMigration (s : State) : Cfg :=
  if s.holds .mramBulk then { s.cfg with migMark := s.nextRecord } else s.cfg

/-- The state a reset with a cause leaves: every register at its reset value but what AON, MRAM, flash, the fuses and
the tag hold (R46, R70, R516). -/
def State.afterReset (s : State) (c : RstCause) : State :=
  { sys := { inReset := true, pstate := .starting, rstCause := 1#7 <<< c.ctorIdx, causeCopy := c, vauxThr := s.sys.vauxThr,
             straps := s.sys.straps, refLost := s.sys.refLost, x32Lost := s.sys.x32Lost, pfwN := s.sys.pfwN, vaux := s.sys.vaux }
    cfg := s.cutMigration.kept
    vlk := { roots := s.vlk.roots }
    scl := { cal := s.scl.cal, calCnt := s.scl.calCnt, savedPulses := s.scl.savedPulses, savedCfg := s.scl.savedCfg, residual := s.scl.residual }
    tly := s.tly.kept
    blz := { s.blz with aonLost := false, logHold := false }
    saf := s.saf.kept
    nfc := s.nfc.kept
    key := s.key.kept
    tim := { rtcSec := s.tim.rtcSec, rtcNs := s.tim.rtcNs, rtcValid := s.tim.rtcValid, rtcTrim := s.tim.rtcTrim, rtcComp := s.tim.rtcComp }
    crs := { fused := s.crs.fused, uncorrLines := s.crs.uncorrLines.filter (fun l => l.1) }
    elog := s.elog, eseq := s.eseq, elost := s.elost, eSec := s.eSec, eCount := s.eCount
    mem := keptMem s.mem
    sent := s.sent, fresh := s.fresh, pending := s.pending }

/-- A cause of reset; one that arises while a reset is in progress starts no new one, but of two that coincide (`coin`:
within one cycle of the AON clock) the one listed first is named (R70). A start that has halted (stage not 0) is no reset
in progress. -/
def State.enterReset (s : State) (c : RstCause) (coin : Bool := false) : State :=
  if s.sys.inReset && decide (s.sys.bootStage = 0) then
    (if coin && c.ctorIdx < s.sys.causeCopy.ctorIdx then { s with sys := { s.sys with causeCopy := c, rstCause := 1#7 <<< c.ctorIdx } } else s)
  else s.afterReset c

/-- The main supplies fail: AON falls back to VBAT (R53, R58); in BACKUP without its crystal the clock loses its time (R63). -/
def State.mainsOff (s : State) : State :=
  { s with sys := { s.sys with pstate := .backup }, tim := { s.tim with rtcValid := s.tim.rtcValid && !s.sys.x32Lost } }

/-- The level of a bay's pilot output: in a reset -12 V while `VAUX` is present, else 0 V (R47). -/
def State.cpOut (s : State) (n : Nat) : PilotGen := if s.sys.inReset && decide (s.sys.vaux ≤ 0) then .zero else (s.bay n).gen

end Sys2Proof.Machine
end

