-- ==== Sys2Proof/Machine/Boot.lean ====
section
/-! DEFINITION. The boot order (R49 to R52, R83, R85) from the release of reset to bays available. A start that halts
keeps the part in reset (`inReset`) with its stage; only a new cause of reset leaves it (R52). -/
namespace Sys2Proof.Machine

/-- Halt a start in a stage, with its failure code (R52, R70, R441, R452). -/
def State.halt (s : State) (stage code : Nat) : State := { s with sys := { s.sys with bootStage := stage, bootFail := code } }

/-- BOOT_FAIL: outputs are held as in reset (R52). -/
def State.bootFail (s : State) (code : Nat) : State := s.halt 0xE code

/-- A failure in step 9, after the engines ran: what the start has written to MRAM stays, nothing else (R52). -/
def State.bootFail9 (s done : State) : State :=
  let r := done.afterReset s.sys.causeCopy
  ({ r with sys := s.sys, key := done.key, evt := done.evt }).bootFail 9

/-! ### Steps 1 to 3 -/

/-- What a start finds and keeps: straps stand, the real-time clock has run on, the cause of a start from OFF or BACKUP
is POR (R46, R49, R70). -/
def State.bootBegin (s : State) (env : BootEnv) : State :=
  let c : RstCause := if env.mainsLost || s.sys.pstate = .backup || s.sys.pstate = .off then .por else s.sys.causeCopy
  { s with sys := { s.sys with causeCopy := c, rstCause := 1#7 <<< c.ctorIdx, pstate := .starting, bootStage := 1,
                               pfwN := env.pfwN, vaux := env.vaux, x32Lost := env.x32Lost }
           tim := s.tim.rtcRun (env.rtc.sec * 1000000000 + env.rtc.ns)
           blz := { s.blz with aonLost := s.blz.gapDue } }

/-- Step 2: the life cycle; pending destructions are completed (R450 to R452). -/
def State.bootLife (s : State) : State :=
  if s.key.pendDestr then s.lcEffects (if s.key.lc = .service then .field else .service) else s.lockMetro

/-- Step 3: root secret, DEVICE keys, stored keys (R440 to R446). With more than 12 errors corrected in a block the copy not
used gets fresh helper data. -/
def State.bootKeys (s : State) (env : BootEnv) : State :=
  let used := (s.key.puf env).getD (true, 0)
  let weak := decide (12 < used.2)
  let opened := env.sealFail.foldl (fun t n => tset {} t n {}) s.key.slots
  let bad := env.sealFail.any (fun n => (s.slot n).filled)
  let s1 := { s with key := { s.key with
    pufOk := true, helperA := s.key.helperA || (weak && !used.1), helperB := s.key.helperB || (weak && used.1), slots := deviceKeys s.key.devId opened } }
  (s1.setEvtIf weak 0x11 3).setEvtIf bad 0x11 4

/-- Step 4: the DRAM is trained and its size known (R50, R496). -/
def State.dramTrained (s : State) (env : BootEnv) : State := { s with sys := { s.sys with dramGiB := env.dramGiB } }

/-! ### Step 6 -/

/-- The Stand Table as the STAND section lays it out, every point UNINIT (R103, R106). -/
def pointsOf (c : StandCfg) : Tab Point := tofList {} (c.cfg.map (fun p => (p.1, ({ cfg := p.2 } : Point))))

/-- Apply an accepted image: settings, budget, threshold, wake sources, tamper modes, ports, table, figures (R50 step 6). -/
def State.applyImage (s : State) (img : Image) (c : ImageContent) : State :=
  { s with
    img := c
    sys := { s.sys with vauxThr := c.struct_.vauxThr, wakeEn := c.struct_.wakeKeep, rstOutN := true, bootStage := 7, bootBank := decide (s.cfg.runBank = 1) }
    permits := { budget := c.struct_.pBudget }
    cfg := { s.cfg with runHdr := some img.hdr, reverify := s.reverifyFor img.hdr, pcieImg := none, pcieGot := 0 }
    blz := { s.blz with modes := c.metro.tamper, active := s.blz.active &&& BitVec.ofNat 4 ((List.range 4).foldl (fun m i => m + (if tget TamperMode.disabled c.metro.tamper i = .disabled then 0 else 2 ^ i)) 0) }
    net := { s.net with ports := tofList {} [(0, { mode := c.net.port0 }), (1, { mode := c.net.port1 })],
                        svcSpeed := c.net.svcSpeed, pcieGen := c.net.pcieGen, pcieLanes := c.net.pcieLanes,
                        pair := if c.stack.pair.isSome && s.sys.straps.boomMstr then (if s.sys.straps.pairB then .syncing else .active) else .none }
    lnd := { s.lnd with points := c.stand.points, pts := pointsOf c.stand }
    crs := { s.crs with gap := c.struct_.crsGap } }

/-! ### Steps 7 and 8 -/

/-- Step 7 fails: more failing rows than spares in a bank or way, or another memory fails (R473). -/
def State.testsFail (s : State) (env : BootEnv) : Bool :=
  let new := env.badRows.filter (fun r => !s.crs.fused.contains r)
  env.memFail || (List.range 80).any (fun b => decide (s.crs.left b < (new.filter (fun r => r.1 = b)).length))

/-- The failing rows found at step 7 are soft-repaired (R472, R473). -/
def State.bootRepair (s : State) (env : BootEnv) : State :=
  { s with crs := { s.crs with soft := env.badRows.filter (fun r => !s.crs.fused.contains r), st := .idle } }

/-- Bays whose calibration passes both checks: its values as its format gives them, and its stored digest (R232). -/
def State.calMask (s : State) (calBad : List Nat) : BitVec 8 :=
  BitVec.ofNat 8 ((List.range 8).foldl (fun m n => m + (if (s.cBay n).enabled && calValid (s.calOf n) && !calBad.contains n then 2 ^ n else 0)) 0)

/-- Pulse outputs take up what a power failure saved, unless constant, assignment or mode changed (R245). -/
def State.pulsesRestored (s : State) : Tab Pulse :=
  if s.scl.residual.isNone then []
  else tofList {} ((List.range 4).map (fun m =>
    let p := tget ({} : Pulse) s.scl.savedPulses m
    (m, if tget ({} : PulseCfg) s.scl.savedCfg m = s.cPulse m && !p.test then { acc := p.acc, backlog := p.backlog } else {})))

/-- Step 8: the engines are loaded and configured (R81, R224, R357, R411). The capability container's octets are free. -/
def State.bootEngines (s : State) (calBad : List Nat) : State :=
  let hub := decide (s.img.struct_.role = .hub)
  let s1 := { s with
    scl := { s.scl with run := false, sealed := !hub, calOk := s.calMask calBad, pulses := s.pulsesRestored, savedPulses := [], savedCfg := [] }
    pvy := { run := false, lanes := lanesOf s.img }
    skl := { s.skl with run := s.img.skl.on, epoch := (s.slot s.img.skl.keySlot).label.toNat % 256 }
    nfc := { s.nfc with run := (List.range 8).any (fun n => (s.cAnt n).en) && !s.sys.refLost, mbox := s.img.nfc.mbox }
    brd := { s.brd with railHold := s.img.brand.railHold }
    chk := { s.chk with chans := tofList {} ((s.img.choker.filter (fun p => p.2.configured)).map (fun p => (p.1, ({ left := p.2.retryMax } : Chan)))) } }
  let s2 := ((List.range 8).filter (fun n => (s.cBay n).enabled && !s1.scl.calOk.getLsbD n)).foldl (fun (a : State) n => a.mfaultCore n 4) s1
  let d := s2.draw
  let s3 := d.2.writeTag 0 (freeBytes d.1 32)
  if s3.skl.run && !s3.img.skl.coord then s3.sklTake none else s3

/-! ### Migration (R51, R86 to R90) -/

/-- Structures stored for the first time are written at HIGH; the records below HIGH migrate in order for 2.0 s, which is a
free number of records (R51, R86, R89). -/
def State.migrate (s : State) : State :=
  let s1 := (tkeys s.img.formats).foldl (fun (a : State) id =>
    if onceOnly id && tget 0 a.cfg.storedVer id = 0 then { a with cfg := { a.cfg with storedVer := tset 0 a.cfg.storedVer id (a.fmtVer id) } } else a) s
  let todo := s1.migPending
  let d := s1.resumeMark.draw
  let s2 := d.2.migrateRecords (Config.freeNat d.1)
  { s2 with sys := { s2.sys with migrated := todo } }.showPending

/-! ### Steps 9 and 10 -/

/-- The time base starts from the real-time clock, else from the newest journal slot (R283, R469). -/
def State.startTime (s : State) : State :=
  let t : Stamp := if s.tim.rtcValid then { sec := s.tim.rtcSec, ns := s.tim.rtcNs } else s.tly.lastCommit
  { s with tim := { s.tim with sec := t.sec, ns := t.ns, frac := 0, servo := .free, rtcInv := !s.tim.rtcValid, utcOff := s.img.cal.utcOff } }

/-- Spar and Guyline live: gates tested, test pulses, Hinge in CONNECTING (R323, R324, R335). -/
def State.sparStart (s : State) : State :=
  let gs := tofList {} (((List.range 36).filter (fun j => s.gated j)).map (fun j => (j, ({ tested := true } : Gate))))
  { s with saf := { s.saf with spar := .run, safeClk := true, heartbeat := true, tpRun := true, gates := gs } }

/-- The entries a start owes the logs: the change of REVERIFY (R90, R295), the safety parameters' origin and their
migration (R92). -/
def State.startEntries (s : State) (migSafe : Bool) : State :=
  let h := match s.cfg.runHdr with | some h => h.metroDigest | none => 0
  let s1 := if s.cfg.reverify = s.cfg.lastReverify then s
    else s.legalChange 5 (le 1 (if s.cfg.reverify then 1 else 2) ++ digestBytes h 16 ++ digestBytes s.cfg.verifiedMetro 8)
  let s2 := { s1 with cfg := { s1.cfg with lastReverify := s1.cfg.reverify } }
  let s3 := if migSafe then s2.safMigrated else s2
  s3.safetyFromImage.applyPointParams

/-- Step 10: the bays are available and the pilots leave state F (R50, R157, R230). -/
def State.baysUp (s : State) : State :=
  let s1 := { s with sys := { s.sys with inReset := false, bootStage := 0xF, bootFail := 0, pstate := .active, bootEnv := none } }
  (List.range 8).foldl (fun a n =>
    if (a.cBay n).enabled then (a.modBay n (fun b => { b with inService := !(a.mbay n).mfault })).pilotGen n else a) s1

/-- Step 9 and 10 after the engines run: time, rebuild, logs, tamper transfer, tag, panels, lanes, bays (R50, R269 to
R283, R291, R413, R437). -/
def State.bootLive (s : State) (migSafe : Bool) : State :=
  let s1 := (s.sparStart).startTime
  let s2 := (s1.rebuild.startEntries migSafe).transfer []
  let s3 := s2.publishTotals.publishExcerpt
  let s4 := { s3 with pvy := { s3.pvy with run := !s3.img.lanes.isEmpty } }
  let s5 := (List.range 8).foldl (fun (a : State) n => if (a.cBay n).enabled then a.legalBay n else a) s4
  s5.baysUp.settle

/-- The threshold that step 6 has set stands in AON although a later step fails (R58). -/
def State.keepThr (s : State) (c : ImageContent) : State := { s with sys := { s.sys with vauxThr := c.struct_.vauxThr } }

/-- The safety parameters migrated in this start (R92). -/
def State.safetyMigrated (s before : State) : Bool := decide (s.verOf 0x01 ≠ before.verOf 0x01) && decide (before.verOf 0x01 ≠ 0)

/-- Steps 6 to 10 with an accepted image (R50). -/
def State.bootImage (s : State) (img : Image) (c : ImageContent) (env : BootEnv) : State :=
  let s1 := s.applyImage img c
  if s1.testsFail env then (s.keepThr c).bootFail 7
  else
    let s2 := s1.bootRepair env
    if env.loadFail then (s.keepThr c).bootFail 8
    else
      let s3 := (s2.bootEngines env.calBad).migrate
      if env.sparFail then (s.keepThr c).bootFail9 s3 else s3.bootLive (s3.safetyMigrated s2)

/-! ### Bank selection (R83) -/

/-- A bank's image at a start: the step it fails in, or the image with its settings. The bank's version register shows
the header that passed (R94). -/
def State.tryBank (s : State) (n : Nat) : State × Except Nat (Image × ImageContent) :=
  let i := (s.bank n).image
  let s1 := if (s.headerFail i.hdr).isNone then s.modBank n (fun b => { b with ver := i.hdr.imageVer }) else s
  match s.loadImage i with
  | .error e => (s1, .error e)
  | .ok c => (s1, .ok (i, c))

/-- The record's update before the bank is read (R83 steps 1 and 2). -/
def Cfg.trialStep (c : Cfg) : Cfg :=
  if c.trial && c.triesLeft = 0 then { c with trial := false, prefBank := 1 - c.prefBank }
  else if c.trial then { c with triesLeft := c.triesLeft - 1 } else c

/-- Start from flash (R83): the preferred bank, then the other with FALLBACK; the failure code of R52 is that of the
bank tried last. -/
def State.bootFlash (s : State) (env : BootEnv) : State :=
  let s0 := { s with cfg := s.cfg.trialStep }
  let p := s0.cfg.prefBank
  let a := s0.tryBank p
  match a.2 with
  | .ok x => ({ a.1 with cfg := { a.1.cfg with runBank := p, runTrial := a.1.cfg.trial } }).bootImage x.1 x.2 env
  | .error _ =>
    let b := ({ a.1 with cfg := { a.1.cfg with fallback := true } }).tryBank (1 - p)
    match b.2 with
    | .ok x => ({ b.1 with cfg := { b.1.cfg with runBank := 1 - p } }).bootImage x.1 x.2 env
    | .error e => b.1.bootFail e

/-- Wait in step 5 for an image over PCIe (R85). -/
def State.bootPcie (s : State) (env : BootEnv) : State :=
  { s with sys := { s.sys with bootStage := 5, bootEnv := some env }, cfg := { s.cfg with fromPcie := true } }

/-- The boot order from the release of reset (R50). While the SEC core waits in ROM for the debug port, the register shows the
step that read the life-cycle state, with code 0: the spec names none (R49, assumption 37). -/
def State.bootRun (s : State) (env : BootEnv) : State :=
  let s1 := (s.bootBegin env).bootLife
  if s1.key.lc = .scrapped then s1.halt 2 0
  else if s1.sys.straps.bootSrc = 3 && s1.key.lc = .manufacture then (s1.halt 2 0).send .debug
  else if (s1.key.puf env).isNone then { s1 with key := { s1.key with helperA := false, helperB := false } }.halt 3 0
  else
    let s2 := (s1.bootKeys env).dramTrained env
    if s2.sys.straps.bootSrc = 1 then s2.bootPcie env else s2.bootFlash env

end Sys2Proof.Machine
end

