-- ==== Sys2Proof/Machine/SysCmd.lean ====
section
/-! DEFINITION. The meanings of the SYS commands and of the events of supplies, clocks, power states and permits
(R43 to R71). -/
namespace Sys2Proof.Machine

/-! ### Resets and clocks -/

/-- PORST_N_PULSE (R44, R49): a pulse below 10 µs is filtered; the rising edge latches the straps, also during a reset. -/
def execPorstNPulse (lowUs : Nat) (straps : Straps) (coin : Bool) (s : State) : Res :=
  if lowUs < 10 then .next s
  else
    let s1 := s.enterReset .porstPin coin
    .next { s1 with sys := { s1.sys with straps := straps } }

/-- RAIL_FAULT (R45, R58, R498): outside the band for 2 µs or longer; where the main supplies fail with it, AON falls back
to VBAT. -/
def execRailFault (outNs : Nat) (coin mainsFail : Bool) (s : State) : Res :=
  if outNs < 2000 then .next s
  else
    let s1 := s.enterReset .railFault coin
    .next (if mainsFail then s1.mainsOff else s1)

/-- CLK_FAULT (R63): the 25 MHz count outside ±2 % for 100 µs. -/
def execClkFault (permille us : Nat) (coin : Bool) (s : State) : Res :=
  if permille ≤ 20 || us < 100 then .next s else .next (s.enterReset .clkFault coin)

/-- The 27.12 MHz reference is absent; the flag stands unless a reset is in progress (R63). -/
def State.refGone (s : State) : State := { s with sys := { s.sys with nfcLoss := s.sys.nfcLoss || !s.closedOff, refLost := true } }

/-- NFC_LOSS (R63): reader and the tag's host side stop; a poll in progress fails. -/
def execNfcLoss (s : State) : Res :=
  if s.sys.inReset then .next s.refGone
  else
    let s1 := (if s.nfc.fieldOn then s.fieldOff else s)
    let s2 := (List.range 8).foldl (fun (a : State) n => a.release (.reader n)) s1
    let s3 := { s2.refGone with nfc := { s2.nfc with run := false } }
    .next (s3.finish (fun f => match f.waits with | .poll _ _ => true | _ => false) .fault).settle

/-- X32_LOSS (R63, R468): the crystal is absent from now on; in BACKUP the clock's time becomes invalid. -/
def execX32Loss (backup : Bool) (s : State) : Res :=
  let s1 := { s with sys := { s.sys with x32Lost := true, x32Loss := s.sys.x32Loss || !s.closedOff } }
  .next (if s.sys.inReset && (backup || s.sys.pstate = .backup) then s1.mainsOff else s1)

/-- SEC_WDT (R70). -/
def execSecWdt (coin : Bool) (s : State) : Res := .next (s.enterReset .secWdt coin)

/-- SW_RESET (R71): 1 ms after the result of SYS_RESET. -/
def execSwReset (coin : Bool) (s : State) : Res := if s.sys.swResetDue then .next (s.enterReset .swReset coin) else .next s

/-- The AON domain as an AON reset leaves it (R46). -/
def State.aonCleared (s : State) : State :=
  { s with sys := { s.sys with rstCause := 0, causeCopy := .por, vauxThr := 75, straps := {} }
           scl := { s.scl with residual := none, savedPulses := [], savedCfg := [] }
           blz := { log := s.blz.log, last := s.blz.last, released := s.blz.released, lastTamper := s.blz.lastTamper, gapDue := true }
           saf := { s.saf with diagCause := 0, diagDetail := 0 }
           tim := { s.tim with rtcSec := 0, rtcNs := 0, rtcValid := false, rtcTrim := 0, rtcComp := 0 } }

/-- AON_RESET (R46, R499): every supply is absent, so every other domain is reset too. -/
def execAonReset (s : State) : Res := .next (if s.sys.inReset then s.afterReset .por else s.enterReset .por).aonCleared

/-- How long a bulk write's permit lasts, in ms (assumption 37). -/
def bulkMs : Nat := 100

/-! ### Image over PCIe, background migration -/

/-- A block in order: the first must hold the header, whose checks run before any other block is taken (R85); one shorter than
the header is refused (assumption 38). -/
def State.pcieBlock (s : State) (len : Nat) (img : Image) : State :=
  if s.cfg.pcieGot = 0 then
    (if len < 256 || (s.headerFail img.hdr).isSome then { s with cfg := { s.cfg with pcieRej := true } }
     else { s with cfg := { s.cfg with pcieImg := some img, pcieGot := len } })
  else if s.cfg.pcieImg = some img then { s with cfg := { s.cfg with pcieGot := s.cfg.pcieGot + len } }
  else { s with cfg := { s.cfg with pcieImg := (s.cfg.pcieImg.map (fun i => { i with bodyId := i.hdr.bodyDigest + 1 })), pcieGot := s.cfg.pcieGot + len } }

/-- Once the whole image has arrived, the start goes on from step 6 (R85). -/
def State.pcieDone (s : State) (env : BootEnv) : State :=
  match s.cfg.pcieImg with
  | none => s
  | some i =>
    if s.cfg.pcieGot < 256 + i.hdr.bodyLen then s
    else
      let s1 := { s with cfg := { s.cfg with pcieImg := none, pcieGot := 0 } }
      match s1.loadImage i with
      | .ok c => s1.bootImage i c env
      | .error e => s1.bootFail e

/-- MIGRATION_BACKGROUND (R65, R68, R89): records left over ask for an MRAM bulk-write permit; once it is granted, up to
`records` of them migrate in ascending ID order. Nothing is asked for while a request waits or runs, or with none left. -/
def execMigrationBackground (records : Nat) (s : State) : Res :=
  if s.sys.inReset || s.nextRecord.isNone || s.asks .mramBulk || s.holds .mramBulk then .next s
  else
    let p := s.permitCfg .mramBulk
    let s1 := { s with cfg := { s.cfg with bulk := records } }
    .next (s1.present .mramBulk p.power bulkMs p.prio p.wait).settle

/-! ### Commands -/

/-- SYS_PERMIT_REQ (R64, R71). -/
def execSysPermitReq (c : Cmd) (power dur prio wait : Nat) (s : State) : Res :=
  .next (s.runSettle c 0x0001 (fun s =>
    if power = 0 || 65535 < power || 60000 < dur || prio < 4 || 7 < prio || 10000 < wait || s.permits.budget < power then fail s .range
    else if s.sys.pfail then fail s .permit
    else .wait (.permit s.permits.nextId) (s.present (.software (queueOf 0 c.side) s.permits.nextId) power dur prio wait)))

/-- SYS_PERMIT_RELEASE (R67, R71). -/
def execSysPermitRelease (c : Cmd) (handle : Nat) (s : State) : Res :=
  .next (s.runSettle c 0x0002 (fun s => if s.holds (.held handle) then okay (s.release (.held handle)) else fail s .range))

/-- A Choker channel conducts that the image does not mark idle-kept (R55). -/
def State.chkAwake (s : State) : Bool := (List.range 32).any (fun ch => chConducts (s.chan ch).st && !(s.cChan ch).idleKept)

/-- The conditions under which SYS_SLEEP fails (R55). -/
def State.noSleep (s : State) : Bool :=
  s.anyContext || s.contactorClosed || s.chkAwake || (List.range 8).any (fun p => s.panelRuns p) || decide (s.crs.st = .slice)
    || s.tly.dirty || !s.tly.toJournal.isEmpty
    || (s.img.stack.present && !s.activeMaster)

/-- Into IDLE-SITE (R53, R55, R323, R357): Scaler, Peavey and the reader's field stop, Spar is idle with every gated
output off. The active master of a stack sends the ring to sleep (assumption 45). -/
def State.idle (s : State) (timer : Nat) : State :=
  let s1 := (List.range 36).foldl (fun (a : State) j => if a.gated j then a.dropReq j else a) s
  let s2 := if s1.nfc.fieldOn then s1.fieldOff else s1
  let s3 := if s2.activeMaster then s2.send .boomSleep else s2
  { s3 with sys := { s3.sys with pstate := .idleSite, wakeTimer := timer }
            saf := { s3.saf with spar := if s3.saf.spar = .run then .idle else s3.saf.spar }
            scl := { s3.scl with run := false, metered := false, fill := 0 }
            pvy := { s3.pvy with run := false } }

/-- SYS_SLEEP (R55, R71). In a stack only the active master accepts it. -/
def execSysSleep (c : Cmd) (timer : Nat) (s : State) : Res :=
  .next (s.runCmd c 0x0003 (fun s =>
    if s.noSleep || !s.awake then fail s .state else okay (s.idle timer)))

/-- SYS_POWER_MODE (R54, R71): target codes 3 = ACTIVE and 4 = FULL. -/
def execSysPowerMode (c : Cmd) (target : Nat) (s : State) : Res :=
  .next (s.runCmd c 0x0004 (fun s =>
    if target ≠ 3 && target ≠ 4 then fail s .range
    else if !s.awake then fail s .state
    else okay { s with sys := { s.sys with pstate := if target = 4 then .full else .active } }))

/-- SYS_RESET (R71). -/
def execSysReset (c : Cmd) (s : State) : Res :=
  .next (s.runCmd c 0x0005 (fun s =>
    if s.contactorClosed || s.anyContext then fail s .state else okay { s with sys := { s.sys with swResetDue := true } }))

/-! ### Wake -/

/-- A wake source counts: its listener is kept, its enable bit is 1, the part sleeps, and a pilot is an enabled bay's (R56). -/
def State.canWake (s : State) (src bay : Nat) : Bool :=
  !s.sys.inReset && decide (s.sys.pstate = .idleSite) && decide (src < 10) && s.img.struct_.wakeKeep.getLsbD src && s.sys.wakeEn.getLsbD src
    && (decide (src ≠ 0) || (s.cBay bay).enabled)

/-- A detection that woke the part starts its transaction (R405). -/
def State.wakeReader (s : State) : State :=
  match s.nfc.wakeAnt with
  | some a => ({ s with nfc := { s.nfc with wakeAnt := none } }).readerAsk a
  | none => s

/-- End IDLE-SITE (R56): the cause is latched, with the bay where a pilot, a proximity line or a card is the cause (else the
bay shown before stays, assumption 45), the stack wakes, Spar resumes with its gate tests, filters fill again,
lanes restart, skipped boundaries are processed, and what waited for ACTIVE goes on. -/
def State.wakeUp (s : State) (src bay : Nat) : State :=
  let s1 := { s with sys := { s.sys with pstate := .active, wakeSrc := 1#10 <<< src, wakeBay := if src ≤ 2 then bay else s.sys.wakeBay, wakeTimer := 0 }
                     saf := { s.saf with spar := if s.saf.spar = SparSt.idle then SparSt.run else s.saf.spar, gates := tmap {} (fun _ (g : Gate) => { g with tested := true, testDue := false }) s.saf.gates }
                     scl := { s.scl with run := false, fill := 0, metered := false, bays := tmap {} (fun _ (b : MBay) => { b with low := false, lowCnt := 0, hist := [], n1 := 0, n100 := 0, xchkN := 0, xchkHi := 0, xchkLo := 0, xchkVoid := false }) s.scl.bays } }
  let s2 := if s.img.stack.present && src ≠ 5 then s1.send .boomWake else s1
  let s3 := s2.lanesRestart.catchUp s.tly.lastCommit
  ((s3.chkWake.brandRun none).wakeReader).publishDue.settle

/-- WAKE (R56). The timer wakes only where SYS_SLEEP set it. -/
def execWake (src bay : Nat) (s : State) : Res :=
  if s.canWake src bay && (src ≠ 7 || s.sys.wakeTimer ≠ 0) then .next (s.wakeUp src bay) else .next s

/-- A write of `SYS_WAKE` (R56, R70): the host wakes the part. -/
def State.ringBell (s : State) (value : Word) : State := if value.getLsbD 0 && s.canWake 9 0 then s.wakeUp 9 0 else s

/-- DOORBELL. -/
def execDoorbell (value : Word) (s : State) : Res := .next (s.ringBell value)

/-! ### Power failure -/

/-- The instant of the first sample boundary at or after the warning, from the last tick (R240). -/
def State.warnInstant (s : State) (afterNs : Nat) : Stamp := Stamp.ofNs (s.now.toNs + divUp afterNs 62500 * 62500)

/-- Tally's FINAL commit with the partial tick's energy (R240, R277, R280). -/
def State.finalCommit (s : State) (warn : Stamp) : State :=
  if !s.tly.running then s
  else
    let c := s.closeTicks
    let s1 := (c.2.tickEnergy c.1).setTime warn
    let s2 := (List.range 4).foldl (fun (a : State) m =>
      let k := a.cPulse m
      if k.en then
        let o := tget ({} : TickOut) c.1 k.bay
        a.setPulse m (feed k (a.pulse m) (if k.exp then o.exp else o.imp))
      else a) s1
    let s3 := (s2.slotWrite (s2.tickSlot s2.tly.tariff s2.tly.mode true s2.now 0)).eventSlots
    { s3 with tly := { s3.tly with lastCommit := s3.now, dirty := false } }

/-- Scaler samples on until it stops, writes the residual and saves the pulse state (R240, R245). -/
def State.saveResidual (s : State) (warn : Stamp) (post : List (List BayCodes)) : State :=
  let s1 := if s.scl.run then post.foldl (fun (a : State) p => a.sampleAll p) s else s
  let c := s1.closeTicks
  let e := (List.range 8).foldl (fun t n => let o := tget ({} : TickOut) c.1 n; tset 0 (tset 0 t (2 * n) o.imp) (2 * n + 1) o.exp) ([] : Tab Nat)
  let r : Residual := { tag := s.tly.slotSeq, stop := Stamp.ofNs (warn.toNs + 62500 * post.length), energy := e }
  let ps := tofList ({} : Pulse) ((List.range 4).map (fun m =>
    let k := s1.cPulse m
    let o := tget ({} : TickOut) c.1 k.bay
    (m, if k.en then feed k (s1.pulse m) (if k.exp then o.exp else o.imp) else {})))
  { s1 with scl := { s1.scl with residual := some r, savedPulses := ps, savedCfg := s1.img.metro.pulses } }

/-- Waiting permit requests fail with PERMIT (R57). -/
def State.failWaiting (s : State) : State := grantLoop (1 + s.permits.waiting.length) s

/-- The warning condition of R57 stands. -/
def State.pfwStands (s : State) : Bool := !s.sys.pfwN || decide (s.sys.vaux < (s.sys.vauxThr : Int))

/-- The whole power-fail sequence, ending in reset (R57, R240, R245, R277). A start that has halted has no block running, so
only the reset takes place; in a reset there is no warning. -/
def State.powerFail (s : State) (afterNs : Nat) (post : List (List BayCodes)) : State :=
  if s.closedOff then s
  else if s.sys.inReset then s.enterReset .pfailRestart
  else
    let s0 : State := { s with sys := { s.sys with pfail := true } }
    let s1 := (s0.failWaiting.brandCut false).railsStop .off
    let warn := s.warnInstant afterNs
    let s2 := s1.finalCommit warn
    let s3 := if s.tly.running then s2.saveResidual warn post else s2
    s3.enterReset .pfailRestart

/-- A warning condition that already stands is a warning as soon as a start has come this far (R57). -/
def State.warnedBy (s : State) : State := if s.pfwStands then s.powerFail 0 [] else s

/-- POWER_FAIL_WARNING (R57, R58): the power-fail inputs take these levels; where the condition stands, the sequence runs.
`mainsFail` says that the main supplies fail at its end: AON falls back to VBAT. -/
def execPowerFailWarning (pfwN : Bool) (vaux afterNs : Nat) (post : List (List BayCodes)) (mainsFail : Bool) (s : State) : Res :=
  let s1 : State := { s with sys := { s.sys with pfwN := pfwN, vaux := vaux } }
  if s1.pfwStands then
    let s2 := s1.powerFail afterNs post
    .next (if mainsFail then s2.mainsOff else s2)
  else .next s1

/-- BOOT (R50, R58): once the reset's conditions have held, with `PFW_N` high and `VAUX` above `VAUX_THR` for 10 ms, the boot
order runs. A condition that the threshold the image sets makes true is a warning as soon as a block is released (R57). -/
def execBoot (held : Bool) (env : BootEnv) (s : State) : Res :=
  if held && s.closedOff && env.pfwN && s.sys.vauxThr < env.vaux then
    .next (s.bootRun env).warnedBy
  else .next s

/-- PCIE_IMAGE_BLOCK (R85): a write of CFG_PCIE_XFER with OWN = 1; the SEC core consumes the block and clears OWN.
A start that goes on meets the warning condition like any (R57). -/
def execPcieImageBlock (len : Nat) (img : Image) (s : State) : Res :=
  match s.sys.bootEnv with
  | some env =>
    if s.sys.inReset && 1 ≤ len && len ≤ 4194304 then
      let s1 := { s with cfg := { s.cfg with xferLen := len, own := false } }
      .next ((s1.pcieBlock len img).pcieDone env).warnedBy
    else .next s
  | none => .next s

/-! ### Permits -/

/-- PERMIT_WAIT_EXPIRY (R66). -/
def execPermitWaitExpiry (id : Nat) (s : State) : Res :=
  match s.permits.waiting.find? (fun r => r.id = id) with
  | some r => .next (((s.countFail).unwait id).permitFailed r).settle
  | none => .next s

/-- PERMIT_EXPIRY (R67): a grant with a duration ends; after an inrush grant the conduction request is presented (R364). -/
def execPermitExpiry (id : Nat) (s : State) : Res :=
  match s.permits.grants.find? (fun g => decide (g.id = id) && !g.standing) with
  | none => .next s
  | some g =>
    let s1 := { s with permits := { s.permits with grants := s.permits.grants.filter (fun x => x.id ≠ id) } }
    let s2 := match g.owner with
      | .inrush ch => if (s1.chan ch).st = ChState.inrush then s1.askConduction ch else s1
      | .retry ch => if (s1.chan ch).st = ChState.inrush then s1.askConduction ch else s1
      | _ => s1
    .next s2.settle

end Sys2Proof.Machine
end

