-- ==== Sys2Proof/Machine/BlazeCmd.lean ====
section
/-! DEFINITION. Tamper events, their transfer, and the BLZ commands (R286 to R300). -/
namespace Sys2Proof.Machine

/-- TAMPER_EVENT (R287 to R290): the levels of two consecutive samples, of which the second is now. They are accepted where
they agree. Blaze records in every power state and during a reset, where no event register holds anything (R46); in
IDLE-SITE an event is also the Blaze wake source (R56). -/
def execTamperEvent (input : Nat) (first second backup : Bool) (s : State) : Res :=
  if first ≠ second then .next s
  else if s.sys.inReset then
    let s0 : State := if backup then { s with sys := { s.sys with pstate := .backup } } else s
    .next { s0 with blz := (s0.tamperEvent input first).blz }
  else
    let s1 := s.tamperEvent input first
    .next (if s1.blz.aseq ≠ s.blz.aseq && s1.canWake 8 0 then s1.wakeUp 8 0 else s1)

/-- TAMPER_TRANSFER (R291 to R293): in ACTIVE and FULL; `torn` are the entries that fail their CRC. -/
def execTamperTransfer (torn : List Nat) (s : State) : Res := if s.awake then .next (s.transfer torn) else .next s

/-- VBAT_LOW (R299, R468): in BACKUP the real-time clock becomes invalid. -/
def execVbatLow (backup : Bool) (s : State) : Res :=
  let low : State := { s with blz := { s.blz with vbatLow := true } }
  if s.sys.inReset then
    .next (if backup then { low with sys := { low.sys with pstate := .backup }, tim := { low.tim with rtcValid := false } } else low)
  else .next (low.setEvtIf (!s.blz.vbatLow) 0x09 7)

/-- The entries still stored from a number on, at most `n`: none has been overwritten that lies within the last 2,048. -/
def State.legalFrom (s : State) (first n : Nat) : List LegalEntry :=
  let lo := max first (max 1 (s.blz.last + 1 - 2048))
  (List.range (min n (s.blz.last + 1 - lo))).map (fun i => s.legalAt (lo + i))

/-- BLZ_LOG_READ. -/
def execBlzLogRead (c : Cmd) (first count dst : Nat) (s : State) : Res :=
  .next (s.runCmd c 0x0901 (fun s =>
    if count = 0 || 256 < count || s.blz.last < first || !dstOk dst (128 * count) then fail s .range
    else
      let l := s.legalFrom first count
      let at0 := match l with | e :: _ => e.lseq | [] => first
      okay (s.writeGen dst (l.foldl (fun a e => a ++ e.bytes) [])) (le 2 l.length ++ le 4 at0)))

/-- BLZ_TAMPER_READ. -/
def execBlzTamperRead (c : Cmd) (dst : Nat) (s : State) : Res :=
  .next (s.runCmd c 0x0902 (fun s =>
    if !dstOk dst 1024 then fail s .range
    else okay (s.writeGen dst (padTo 1024 (s.blz.pendingT.foldl (fun a e => a ++ e.bytes) []))) (le 1 s.blz.pendingT.length ++ le 2 s.blz.lost)))

/-- The inputs METROMAP enables, as a mask (R286, R299). -/
def State.tamperOn (s : State) : BitVec 4 :=
  BitVec.ofNat 4 ((List.range 4).foldl (fun m i => m + (if tget TamperMode.disabled s.blz.modes i = .disabled then 0 else 2 ^ i)) 0)

/-- BLZ_TAMPER_CLEAR. -/
def execBlzTamperClear (c : Cmd) (mask : BitVec 4) (s : State) : Res :=
  .next (s.runCmd c 0x0903 (fun s =>
    if s.key.lc ≠ .service then fail s .locked
    else if mask &&& ~~~ s.tamperOn ≠ 0 || mask &&& s.blz.active ≠ 0 then fail s .state
    else if s.changeFull then logFull s
    else okay (({ s with blz := { s.blz with tampered := s.blz.tampered &&& ~~~ mask } }).legalChange 8 (le 1 mask.toNat))))

/-- BLZ_LOG_RELEASE (R297): a release statement, KIND 18; the entry goes into the space just freed, and a transfer that
stopped may go on (R293). -/
def execBlzLogRelease (c : Cmd) (m : KeyMsg) (s : State) : Res :=
  .next (s.runCmd c 0x0904 (fun s =>
    match s.checkMsg m [18] [.field, .service] with
    | some e => msgRej s e
    | none =>
      if m.num ≤ s.blz.released || s.blz.last < m.num then msgRej s .range
      else
        let s1 := s.storeCtr m
        let s2 := { s1 with blz := { s1.blz with released := m.num, logHold := false } }
        okay (s2.legalChange 9 (le 4 m.num ++ le 4 (m.num - s.blz.released) ++ le 8 m.ctr)) (le 4 m.num)))

end Sys2Proof.Machine
end

