-- ==== Sys2Proof/Machine/Yarder.lean ====
section
/-! DEFINITION. Yarder's snapshot: what a cycle reads of its nodes, effective limits and invalid inputs, the ceiling and
the bounds (R196 to R207), and the flow through the tree (R197). Powers are exact rationals in W (assumption 8). -/
namespace Sys2Proof.Machine

/-- The device allocates: hub or combined, in a stack only the active master, and not in CONFLICT (R15, R36, R219). -/
def State.allocates (s : State) : Bool :=
  s.hubRole && decide (s.net.ring ≠ .conflict)
    && (!s.img.stack.present || s.activeMaster)

/-- The node indices of the tree. -/
def State.yNodes (s : State) : List Nat := List.range s.img.yarder.count

/-- Nodes of a type. -/
def State.yOf (s : State) (t : NodeType) : List Nat := s.yNodes.filter (fun n => (s.cNode n).typ = t)

/-- A referenced point's value while GOOD (R203, R204). -/
def State.goodVal (s : State) (gid : Nat) : Option Rat :=
  let e := s.entryOf gid
  if s.invalid gid then none else ptNum e.cfg.typ e.val.value

/-- A reference is present and its point INVALID (R204). -/
def State.badRef (s : State) (p : Option Nat) : Bool := match p with | some g => s.invalid g | none => false

/-- An efficiency as a number. -/
def effOf (e : Nat) : Rat := (e : Rat) / 65536

/-- What divides the power that passes upward through a node (R197). -/
def State.yEff (s : State) (n : Nat) : Rat :=
  match (s.cNode n).typ with
  | .bus => effOf (s.cNode n).eff
  | .matrix => match s.yNodes.find? (fun m => decide ((s.cNode m).typ = .module) && decide ((s.cNode m).parent = n)) with
    | some m => effOf (s.cNode m).eff
    | none => 1
  | _ => 1

/-- The ancestors of a node, each with the power one watt at the node means there (R197). -/
def State.yUpFrom (s : State) : Nat → Nat → Rat → List (Nat × Rat)
  | 0, _, _ => []
  | f + 1, n, k =>
    if n = 0 then []
    else
      let p := (s.cNode n).parent
      (p, k) :: State.yUpFrom s f p (k / s.yEff p)
def State.yUp (s : State) (n : Nat) : List (Nat × Rat) := s.yUpFrom 12 n 1

/-- Class and guaranteed minimum in force (R198, R219). -/
def State.yCls (s : State) (n : Nat) : Nat := (s.node n).cls.getD (s.cNode n).cls
def State.yGMin (s : State) (n : Nat) : Nat := (s.node n).gMin.getD (s.cNode n).gMin

/-- What a cycle knows of an outlet: its session's state, demand and voltage, the session's cap, a client's limit. -/
structure OutIn where
  st : Sess := .free
  d : Rat := 0
  v : Rat := 0
  /-- Cap or client limit in 0.1 A, none for none. -/
  cap : Option Nat := none
  inv : Bool := false
  noBay : Bool := false
  ctx : Option Nat := none
  /-- The voltage its modules aim at, in 0.1 V, and whether they may drive it now. -/
  vTgt : Nat := 0
  live : Bool := false
  exp : Bool := false

/-- K2 and K3 of a session's bay are closed: the cable check may raise its output (R138, R151). -/
def State.checkLive (s : State) (k : Nat) : Bool :=
  let x := s.ctx k
  if x.bridged then decide (x.satFb / 4 % 4 = 3)
  else s.fb2 x.bay && s.fb3 x.bay && chConducts (s.chan (s.cBay x.bay).chK2).st && chConducts (s.chan (s.cBay x.bay).chK3).st

/-- A session under ISO 15118-20 DC bidirectional on a bay that BAYMAP lets export (R179, R219). -/
def State.mayExport (s : State) (k : Nat) : Bool :=
  let x := s.ctx k
  decide (x.st = .charging) && decide (x.proto = .iso20) && x.bpt && !x.bridged && (s.cBay x.bay).exportOn

/-- The outlet of one of this device's sessions (R138, R203, R207). -/
def State.outOwn (s : State) (k : Nat) : OutIn :=
  let x := s.ctx k
  let m : Rat := if x.bridged then (x.satV : Rat) / 10 else ((s.mbay x.bay).mean10V : Rat) / 65536
  let v : Rat := if m < 50 then (x.vTgt : Rat) / 10 else m
  { st := x.st, v := v, d := if x.st = .charging then (x.iReq : Rat) / 10 * v else 0, cap := if x.cap = 0 then none else some x.cap,
    ctx := some k, vTgt := if x.st = .cableCheck then x.uTest else x.vTgt, live := if x.st = .cableCheck then s.checkLive k else true,
    exp := s.mayExport k }

/-- An OUTLET of this device itself: a bay of a client is named with the connection to its client (R215). -/
def State.ownOut (s : State) (n : Nat) : Bool := (s.cNode n).conn.isNone && decide ((s.cNode n).bayDev = s.devNum)

/-- An outlet's inputs: its bay's session here, or the client's last REQUEST (R199, R207, R215). DEDUCED (assumption 67): a
client sends a REQUEST for each bay it has, so one that has named no such bay is taken to have none. -/
def State.outIn (s : State) (n : Nat) : OutIn :=
  let c := s.cNode n
  if s.ownOut n then
    if !(if c.bayBridged then (s.cBridged c.bayNum).used else s.localCtx c.bayNum) then { noBay := true }
    else match s.ctxOf c.bayBridged c.bayNum with
      | some k => s.outOwn k
      | none => {}
  else match (s.node n).req with
    | none => { noBay := true }
    | some r =>
      let v : Rat := (r.vOut : Rat) / 10
      { st := Sess.ofCode r.sess, v := v, d := if r.sess = 9 then (r.iReq : Rat) / 10 * v else 0, cap := some r.limit, inv := r.inv, vTgt := r.vOut,
        live := true, exp := r.exp && decide (r.sess = 9) }

/-- The lowest of some bounds with the code of what set it (R219's `BOUND`). -/
def lowest : Rat × Nat → List (Rat × Nat) → Rat × Nat
  | b, [] => b
  | b, x :: r => lowest (if x.1 < b.1 then x else b) r

/-- A node on an uncorrectable line or an unrepaired row of the tree, 256 octets a node, counts as holding INVALID limits
(R102, R479). -/
def State.nodeLost (s : State) (n : Nat) : Bool := s.yrd.lost.contains n || s.crs.bad.contains (28 + n / 1024, n % 1024 / 4)

/-- The STORAGE nodes that are consumers: those not in mode FIXED (R207). -/
def State.freeStor (s : State) : List Nat := (s.yOf .storage).filter (fun n => decide ((s.node n).mode ≠ .fixed))

/-- The sum of the guaranteed minimums of the consumers beneath a node, on its side (R204). -/
def State.gMinBelow (s : State) (n : Nat) : Rat :=
  (s.yOf .outlet ++ s.freeStor).foldl (fun a c => match (s.yUp c).find? (fun p => p.1 = n) with
    | some p => a + p.2 * (s.yGMin c : Rat)
    | none => a) 0

/-- A node's effective limit in W with its code (R203, R204), `o` giving the voltage at an OUTLET, or at the outlet a MODULE is
assigned to. An OUTLET's override is in 0.1 A, as its `I_MAX`. -/
def State.effLimit (s : State) (n : Nat) (o : OutIn) : Rat × Nat :=
  let c := s.cNode n
  let r := s.node n
  let amp (x : Nat) : Rat := (x : Rat) / 10 * o.v
  if c.typ = .outlet then
    lowest ((c.pMax : Rat), 1) ([(amp c.iMax, 1)] ++ (match r.overLim with | some x => [(amp x, 2)] | none => [])
      ++ (if o.inv || s.nodeLost n || s.badRef c.limitPt then [((s.yGMin n : Rat), 4)] else
          match c.limitPt with | some g => [((s.goodVal g).getD 0 * o.v, 3)] | none => []))
  else if c.typ = .module then lowest ((c.pMax : Rat), 1) (if r.outlet.isSome then [(amp c.iMax, 1)] else [])
  else
    lowest ((c.pMax : Rat), 1) ((match r.overLim with | some x => [((x : Rat), 2)] | none => [])
      ++ (match (if s.nodeLost n then some none else c.limitPt.map some) with
        | none => []
        | some g => if !s.nodeLost n && !s.badRef g then [((match g with | some p => (s.goodVal p).getD 0 | none => 0), 3)]
          else if c.typ = .grid then [] else if c.typ = .storage then [(0, 4)] else [(s.gMinBelow n, 4)]))

/-- GRID's inputs are INVALID: headroom 0 both ways (R204). -/
def State.gridBad (s : State) : Bool := s.nodeLost 0 || s.badRef (s.cNode 0).limitPt || s.badRef (s.cNode 0).basePt

/-- The open interval's length in ms: 901 s or 899 s where an announced leap takes effect at its end (R258, R466). -/
def State.ivlMs (s : State) : Nat :=
  if s.tim.leap = 0 || s.tly.ivl % 86400 ≠ 85500 then 900000 else if s.tim.leap = 1 then 901000 else 899000

/-- Milliseconds of the interval that have passed (R200). -/
def State.ivlPos (s : State) : Nat := ((s.tim.utcRaw + s.tim.leapDone.toNat).toNat * 1000 + s.tim.ns / 1000000) - s.tly.ivl * 1000

/-- The length of the cycle that starts now, in ms (R200). -/
def State.cycleMs (s : State) : Nat :=
  let t := max 1 s.img.yarder.tCyc
  if s.ivlMs / t ≤ s.ivlPos / t + 1 then t + s.ivlMs % t else t

/-- The allowed import power (R205). -/
def State.pAllow (s : State) (gridMax : Rat) : Rat :=
  if s.tly.pCeil = 0 then gridMax
  else
    let rem : Rat := (max (s.ivlMs - s.ivlPos) s.img.yarder.tCyc : Nat) / 1000
    let budget : Rat := (s.tly.pCeil : Rat) * 900 * (1 - (s.img.yarder.margin : Rat) / 100)
    let p := (budget - (s.eInt : Rat) / 1000) / rem
    if p < 0 then 0 else if gridMax < p then gridMax else p

/-- The larger and the smaller of two powers. -/
def rmax (a b : Rat) : Rat := if a < b then b else a
def rmin (a b : Rat) : Rat := if b < a then b else a

/-- One ramp step of an OUTLET in W (R207). -/
def rampStep (ramp : Nat) (v dt : Rat) : Rat := (ramp : Rat) / 10 * v * dt

/-- The lowest and the highest setpoint that ramps allow after `dt`, from a present one; `up` and `dn` are in W/s. A magnitude
rises by `up` and falls by `dn`; a change of direction passes 0. DESIGN CHOICE (assumption 67): the spec gives one ramp
each way and does not say which way is up for a setpoint of two signs. -/
def rampSpan (prev up dn dt : Rat) : Rat × Rat :=
  let cross (m : Rat) : Rat := if dn * dt ≤ m then -(m - dn * dt) else up * (dt - m / dn)
  if 0 ≤ prev then (-(cross prev), prev + up * dt) else (prev - up * dt, cross (-prev))

/-- The span of a node's setpoint: an OUTLET's ramps are in 0.1 A/s at its voltage (R207, R210). -/
def State.spanOf (s : State) (n : Nat) (o : OutIn) (dt : Rat) : Rat × Rat :=
  let c := s.cNode n
  let k : Rat := if c.typ = .outlet then o.v / 10 else 1
  let prev : Rat := ((s.node n).alloc : Rat)
  if k = 0 then (rmin 0 prev, rmax 0 prev) else rampSpan prev ((c.rampUp : Rat) * k) ((c.rampDn : Rat) * k) dt

/-- An outlet's bound without the module capacity, with its code (R207). -/
def State.outBound (s : State) (n : Nat) (o : OutIn) (dt : Rat) : Rat × Nat :=
  let w := s.spanOf n o dt
  let b := lowest (rmax o.d w.1, if o.d < w.1 then 7 else 0) [(w.2, 7), s.effLimit n o]
  let b1 := match o.cap with | some x => lowest b [((x : Rat) / 10 * o.v, 0)] | none => b
  (rmax 0 b1.1, b1.2)

/-! ### Flow and filling (R197, R208) -/

/-- The state of a filling: allocation of each consumer, flow through each node, and by which node a consumer was
frozen (its index plus 1, 0 where it reached its target). -/
structure Fill where
  alloc : Tab Rat := []
  flow : Tab Rat := []
  why : Tab Nat := []

/-- Add power at a node to the flow through its ancestors. -/
def State.addFlow (s : State) (n : Nat) (p : Rat) (f : Tab Rat) : Tab Rat :=
  (s.yUp n).foldl (fun t x => tset 0 t x.1 (tget 0 t x.1 + x.2 * p)) f

/-- The ancestor that is saturated, nearest first. -/
def State.satAbove (s : State) (lim : Nat → Rat) (f : Tab Rat) (n : Nat) : Option Nat :=
  ((s.yUp n).find? (fun x => decide (lim x.1 ≤ tget 0 f x.1))).map (fun x => x.1)

/-- The largest step a set of unfrozen consumers can take together (R208). -/
def State.fillStep (s : State) (lim : Nat → Rat) (tgt : Nat → Rat) (act : List Nat) (F : Fill) : Rat :=
  let rates : Tab Rat := act.foldl (fun t c => (s.yUp c).foldl (fun t x => tset 0 t x.1 (tget 0 t x.1 + x.2)) t) []
  let a := act.foldl (fun (m : Option Rat) c =>
    let r := tgt c - tget 0 F.alloc c
    match m with | none => some r | some b => some (rmin b r)) none
  rates.foldl (fun m x => rmin m ((lim x.1 - tget 0 F.flow x.1) / x.2)) (a.getD 0)

/-- Progressive max-min filling of one set (R208). -/
def State.fill (s : State) (lim : Nat → Rat) (tgt : Nat → Rat) : Nat → List Nat → Fill → Fill
  | 0, _, F => F
  | f + 1, set, F =>
    let r := set.foldl (fun (acc : List Nat × Fill) c =>
      if tgt c ≤ tget 0 acc.2.alloc c then (acc.1, { acc.2 with why := tset 0 acc.2.why c 0 })
      else match s.satAbove lim acc.2.flow c with
        | some n => (acc.1, { acc.2 with why := tset 0 acc.2.why c (n + 1) })
        | none => (acc.1 ++ [c], acc.2)) ([], F)
    if r.1.isEmpty then r.2
    else
      let d := s.fillStep lim tgt r.1 r.2
      State.fill s lim tgt f r.1 (r.1.foldl (fun (G : Fill) c =>
        { G with alloc := tset 0 G.alloc c (tget 0 G.alloc c + d), flow := s.addFlow c d G.flow }) r.2)

/-- Fill one class: a STORAGE that charges gives up its own discharge, and does so only where its path has room; else what
is saturated stands as the reason (R205). -/
def State.fillClass (s : State) (lim : Nat → Rat) (tgt : Nat → Rat) (avail : Nat → Rat) (set : List Nat) (F : Fill) : Fill :=
  let r := set.foldl (fun (acc : List Nat × Fill) c =>
    if (s.cNode c).typ ≠ .storage || tget 0 acc.2.alloc c ≠ 0 then (acc.1 ++ [c], acc.2)
    else if tgt c ≤ 0 then acc
    else
      let fl := s.addFlow c (avail c) acc.2.flow
      match s.satAbove lim fl c with
      | some n => (acc.1, { acc.2 with why := tset 0 acc.2.why c (n + 1) })
      | none => (acc.1 ++ [c], { acc.2 with flow := fl })) ([], F)
  s.fill lim tgt (r.1.length + 1) r.1 r.2

/-- One pass over the classes (R208). -/
def State.fillPass (s : State) (lim : Nat → Rat) (tgt : Nat → Rat) (avail : Nat → Rat) (all : List Nat) (F : Fill) : Fill :=
  (List.range 8).foldl (fun G k => s.fillClass lim tgt avail (all.filter (fun c => s.yCls c = k)) G) F

end Sys2Proof.Machine
end

