-- ==== Sys2Proof/Machine/Modules.lean ====
section
/-! DEFINITION. Modules and the switch matrix (R212 to R214). -/
namespace Sys2Proof.Machine

/-- The modules of a MATRIX in index order. -/
def State.modulesOf (s : State) (m : Nat) : List Nat :=
  s.yNodes.filter (fun n => decide ((s.cNode n).typ = .module) && decide ((s.cNode n).parent = m))

/-- An outlet's slot on its MATRIX (R198). -/
def State.slotOf (s : State) (m o : Nat) : Nat :=
  (s.yNodes.filter (fun n => decide (n < o) && decide ((s.cNode n).typ = .outlet) && decide (yMatrixOf s.img.yarder n = some m))).length

/-- A module may connect to an outlet (R198, R212). -/
def State.reaches (s : State) (m mod o : Nat) : Bool :=
  decide ((s.cNode mod).parent = m) && (s.cNode mod).reach.getLsbD (s.slotOf m o)

/-- A module is excluded: out of service, or its `AVAIL_PT` INVALID (R204, R214). -/
def State.modOut (s : State) (n : Nat) : Bool := (s.node n).oos || s.nodeLost n || s.badRef (s.cNode n).availPt

/-- A module counts as held by its outlet. -/
def heldSt (x : ModSt) : Bool := x = .closing || x = .settled || x = .joined

/-- The modules an outlet holds, and those it can use (R212). -/
def State.heldMods (s : State) (o : Nat) : List Nat :=
  (s.yOf .module).filter (fun n => decide ((s.node n).outlet = some o) && heldSt (s.node n).sw)
def State.usable (s : State) (o : Nat) : List Nat := (s.heldMods o).filter (fun n => decide ((s.node n).sw = .joined) && !s.modOut n)

/-- An outlet's module capacity (R207, R212). -/
def State.modCap (s : State) (o : Nat) (v : Rat) : Rat :=
  (s.usable o).foldl (fun a n => a + rmin ((s.cNode n).pMax : Rat) (((s.cNode n).iMax : Rat) / 10 * v)) 0

/-- Open the matrix on a module that could not be released in time: out of service with SW_FAULT (R214). -/
def State.modFault (s : State) (n : Nat) : State :=
  let s1 := (s.modNode n (fun x => { x with oos := true, swFault := true, sw := .releasing })).setEvt 0x06 4
  { s1 with yrd := { s1.yrd with swFaults := satTo 65535 (s1.yrd.swFaults + 1) } }

/-- A module between its open command and its joining (R214 steps 2 to 5): it may carry no current. -/
def offLoad (x : ModSt) : Bool := x = .opening || x = .unassigned || x = .closing || x = .settled

/-- One module at a cycle start (R214): it opens once its current is at most 1 A, fails where it carries current after the
open command, joins after its close, and is released where it is excluded. -/
def State.modStart (s : State) (amps : Tab Nat) (n : Nat) : State :=
  let x := s.node n
  let a := tget 0 amps n
  if offLoad x.sw && 10 < a then s.modFault n
  else if x.sw = .settled && !s.modOut n then s.modNode n (fun x => { x with sw := .joined })
  else if x.sw = .releasing && !x.swFault && a ≤ 10 then s.modNode n (fun x => { x with sw := .opening })
  else if heldSt x.sw && s.modOut n then s.modNode n (fun x => { x with sw := .releasing })
  else s

/-- The desired module count of an outlet under a MATRIX (R212). -/
def State.nDes (s : State) (n : Nat) (o : OutIn) (u0 : Rat) : Nat :=
  let c := o.st.ctorIdx
  let weld := match o.ctx with | some k => (if (s.ctx k).bridged then s.vlk.weldB.contains (s.ctx k).bay else (s.bay (s.ctx k).bay).weldLock) | none => false
  if weld then 0
  else if 5 ≤ c && c ≤ 8 then 1
  else if 9 ≤ c && c ≤ 11 then
    match (yMatrixOf s.img.yarder n).bind (fun m => (s.modulesOf m).head?) with
    | some m =>
      let p : Rat := 9 / 10 * ((s.cNode m).pMax : Rat)
      if p = 0 then 1 else max 1 (min (s.cNode n).maxMod (-(ratFloor (-(u0 / p)))).toNat)
    | none => 1
  else 0

/-- An outlet that wants modules: its node, MATRIX, class and desired count. -/
structure Want where
  node : Nat := 0
  mat : Nat := 0
  cls : Nat := 0
  des : Nat := 0
  /-- Its session is in LOCKING to STOPPING: its last module stays. -/
  keep : Bool := false
  deficit : Nat := 0

/-- Class first, then the larger deficit, then the lower index (R212). -/
def Want.before (a b : Want) : Bool :=
  decide (a.cls < b.cls) || (decide (a.cls = b.cls) && (decide (b.deficit < a.deficit) || (decide (a.deficit = b.deficit) && decide (a.node < b.node))))

/-- Insert a wish in its order. -/
def insertWant (a : Want) : List Want → List Want
  | [] => [a]
  | b :: r => if a.before b then a :: b :: r else b :: insertWant a r

/-- Release one module of an outlet (R213, R214). -/
def State.modRelease (s : State) (n : Nat) : State := s.modNode n (fun x => { x with sw := .releasing })

/-- Release an outlet's excess, highest-indexed first (R213). -/
def State.excessOut (s : State) (w : Want) : State :=
  if !(s.node w.node).excess then s
  else
    let h := s.heldMods w.node
    let s1 := (h.reverse.take (h.length - w.des)).foldl (fun a n => a.modRelease n) s
    s1.modNode w.node (fun x => { x with excess := false })

/-- Modules that are free (R212), and those on their way to becoming free (R214). -/
def State.modFree (s : State) (w : Want) : Option Nat :=
  (s.modulesOf w.mat).find? (fun n => decide ((s.node n).sw = .unassigned) && !s.modOut n && s.reaches w.mat n w.node)
def State.modComing (s : State) (used : List Nat) (w : Want) : Option Nat :=
  (s.modulesOf w.mat).find? (fun n => (decide ((s.node n).sw = .releasing) || decide ((s.node n).sw = .opening)) && !s.modOut n && !used.contains n
    && s.reaches w.mat n w.node)

/-- The module a class takes from a class numerically greater, never the last of an outlet in LOCKING to STOPPING (R213).
DESIGN CHOICE (assumption 67): of those that reach, one of the numerically greatest class, and of these the
highest-indexed. -/
def State.modSteal (s : State) (all : List Want) (w : Want) : Option Nat :=
  let donors := all.filter (fun d => decide (d.mat = w.mat) && decide (w.cls < d.cls) &&
    decide ((if d.keep then 1 else 0) < (s.heldMods d.node).length))
  let cand := donors.foldl (fun (l : List (Nat × Nat)) d =>
    l ++ ((s.heldMods d.node).filter (fun n => s.reaches w.mat n w.node && !s.modOut n)).map (fun n => (d.cls, n))) []
  (cand.foldl (fun (b : Option (Nat × Nat)) x => match b with
    | none => some x
    | some y => if y.1 < x.1 || (y.1 = x.1 && y.2 < x.2) then some x else some y) none).map (fun x => x.2)

/-- Serve one outlet's deficit: free modules, then those already coming, then another class's (R212, R213). -/
def State.serve (all : List Want) (w : Want) : Nat → State × List Nat → State × List Nat
  | 0, x => x
  | f + 1, x =>
    let s := x.1
    match s.modFree w with
    | some n => State.serve all w f (s.modNode n (fun x => { x with outlet := some w.node, sw := .closing }), x.2)
    | none => match s.modComing x.2 w with
      | some n => State.serve all w f (s, n :: x.2)
      | none => match s.modSteal all w with
        | some n => State.serve all w f (s.modRelease n, n :: x.2)
        | none => x

/-- Module assignment of a cycle (R212, R213). -/
def State.assign (s : State) (dt : Rat) : State :=
  let wants := (s.yOf .outlet).foldl (fun (l : List Want) n => match yMatrixOf s.img.yarder n with
    | some m =>
      let o := s.outIn n
      l ++ [{ node := n, mat := m, cls := s.yCls n, des := s.nDes n o (s.outBound n o dt).1,
              keep := decide (5 ≤ o.st.ctorIdx) && decide (o.st.ctorIdx ≤ 11) }]
    | none => l) []
  let s1 := wants.foldl (fun (a : State) w => a.excessOut w) s
  let order := (wants.map (fun w => { w with deficit := w.des - (s1.heldMods w.node).length })).foldl (fun l w => insertWant w l) []
  (order.foldl (fun x w => State.serve wants w w.deficit x) (s1, [])).1

end Sys2Proof.Machine
end

