-- ==== Sys2Proof/Machine/YarderCmd.lean ====
section
/-! DEFINITION. The allocation cycle, dispatch of the sources, and the meanings of Yarder's events and commands
(R202 to R219). -/
namespace Sys2Proof.Machine

/-! ### Storage, PV and fixed power (R204, R207, R210, R211) -/

/-- State of charge while GOOD. -/
def State.soc (s : State) (n : Nat) : Option Rat := match (s.cNode n).socPt with | some g => s.goodVal g | none => none

/-- A STORAGE's referenced inputs are INVALID. -/
def State.storBad (s : State) (n : Nat) : Bool := s.nodeLost n || s.badRef (s.cNode n).socPt || s.badRef (s.cNode n).limitPt

/-- The discharge a STORAGE can give now, with what sets it (R204, R210): above its reserve, within limit and ramp. -/
def State.storDis (s : State) (n : Nat) (dt : Rat) : Rat × Nat :=
  match s.soc n with
  | none => (0, if s.storBad n then 4 else 0)
  | some q =>
    if s.storBad n then (0, 4)
    else if q ≤ ((s.cNode n).socRes : Rat) then (0, 0)
    else
      let b := lowest (s.effLimit n {}) [(-(s.spanOf n {} dt).1, 7)]
      (rmax 0 b.1, b.2)

/-- The charge bound of a STORAGE that is a consumer, with what sets it (R204, R207, R210): 0 at or above its target, else
`P_REV`, within its ramps. DESIGN CHOICE (assumption 67): a STORAGE without a `SOC_PT` does not charge. -/
def State.storChg (s : State) (n : Nat) (dt : Rat) : Rat × Nat :=
  let c := s.cNode n
  let w := s.spanOf n {} dt
  let hard : Rat × Nat := if s.storBad n then lowest ((c.pRev : Rat), 1) [((s.yGMin n : Rat), 4)] else ((c.pRev : Rat), 1)
  let want : Rat × Nat := match s.soc n with
    | some q => if (((s.node n).socTgt.getD c.socTgt : Nat) : Rat) ≤ q then (0, 0) else hard
    | none => if s.storBad n then hard else (0, 0)
  let b := lowest (if want.1 < w.1 then (w.1, 7) else want) [hard, (w.2, 7)]
  (rmax 0 b.1, b.2)

/-- The power of a STORAGE in mode FIXED, positive while it charges (R204, R210, R211): its setpoint within its ramps, its hard
limits at once. -/
def State.storFix (s : State) (n : Nat) (dt : Rat) : Rat :=
  let c := s.cNode n
  let w := s.spanOf n {} dt
  let want := rmax w.1 (rmin w.2 ((s.node n).setpoint : Rat))
  let dis : Rat := match s.soc n with | some q => if s.storBad n || q ≤ (c.socRes : Rat) then 0 else (s.effLimit n {}).1 | none => 0
  let chg : Rat := if s.storBad n then rmin (c.pRev : Rat) (s.yGMin n : Rat) else (c.pRev : Rat)
  rmax (-dis) (rmin chg want)

/-- The power a PV node can give now with what sets it, within its upward ramp; 0 while INVALID (R204, R210). -/
def State.pvAvail (s : State) (n : Nat) : Rat := if s.nodeLost n then 0 else match (s.cNode n).availPt with | some g => rmax 0 ((s.goodVal g).getD 0) | none => 0
def State.pvNow (s : State) (n : Nat) (dt : Rat) : Rat × Nat :=
  lowest (s.pvAvail n, if s.nodeLost n || s.badRef (s.cNode n).availPt then 4 else 3)
    [(((s.cNode n).pMax : Rat), 1), (-(s.spanOf n {} dt).1, 7)]

/-- The export of an outlet (R211 step 4): its setpoint within its ramps, its limit and its session's cap at once. -/
def State.outExport (s : State) (n : Nat) (o : OutIn) (dt : Rat) : Rat :=
  let c := o.st.ctorIdx
  if c < 9 || 11 < c then 0
  else
    let w := s.spanOf n o dt
    let want : Rat := if o.exp then ((s.node n).expSet : Rat) else 0
    let x := rmin (rmax want (-w.2)) (-w.1)
    let y := rmin x (s.effLimit n o).1
    rmax 0 (match o.cap with | some k => rmin y ((k : Rat) / 10 * o.v) | none => y)

/-- The allocation a lost client keeps: its last for 100 ms, then down to `SAFE_MIN`; from below, `SAFE_MIN`, to which the
client may rise (R16, R216). -/
def State.lostAlloc (s : State) (n : Nat) (o : OutIn) (dt : Rat) : Rat :=
  let prev : Rat := ((s.node n).alloc : Rat)
  if !(s.node n).clientRamp then prev
  else rmax ((s.cNode n).safeMin : Rat) (prev - rampStep (s.cNode n).rampDn o.v dt)

/-! ### Dispatch (R211) -/

/-- Power taken so far from each source, and the flow that results. -/
structure Disp where
  used : Tab Rat := []
  flow : Tab Rat := []

/-- Take power from a source, as seen at a node where one watt of the source counts `k`. -/
def State.takeSrc (s : State) (avail : Nat → Rat) (src : Nat) (at_ : Nat) (want : Rat) (D : Disp) : Disp :=
  match (s.yUp src).find? (fun p => p.1 = at_) with
  | none => D
  | some p =>
    let x := rmax 0 (rmin (avail src - tget 0 D.used src) (want / p.2))
    { used := tset 0 D.used src (tget 0 D.used src + x), flow := s.addFlow src (-x) D.flow }

/-- Cover what a node's flow exceeds a level by, from sources in order. -/
def State.cover (s : State) (avail : Nat → Rat) (srcs : List Nat) (n : Nat) (level : Rat) (D : Disp) : Disp :=
  srcs.foldl (fun E src => if level < tget 0 E.flow n then s.takeSrc avail src n (tget 0 E.flow n - level) E else E) D

/-- How much more a STORAGE may charge without loading a node beyond its limit, where the power comes from a PV node. -/
def State.roomFor (s : State) (lim : Nat → Rat) (pv st : Nat) (D : Disp) : Rat :=
  (s.yUp st).foldl (fun m x => if (s.yUp pv).any (fun p => p.1 = x.1) then m else rmin m (rmax 0 ((lim x.1 - tget 0 D.flow x.1) / x.2)))
    ((s.cNode st).pRev : Rat)

/-- Charge one STORAGE from one PV node's surplus (R211 step 3). -/
def State.surplus (s : State) (lim avail chg : Nat → Rat) (pv st : Nat) (x : Disp × Tab Rat) : Disp × Tab Rat :=
  match (s.yUp pv).getLast?, (s.yUp st).getLast? with
  | some p, some q =>
    let left := avail pv - tget 0 x.1.used pv
    let c := rmax 0 (rmin (chg st - tget 0 x.2 st) (rmin (s.roomFor lim pv st x.1) (left * p.2 / q.2)))
    let d := c * q.2 / p.2
    ({ used := tset 0 x.1.used pv (tget 0 x.1.used pv + d), flow := s.addFlow st c (s.addFlow pv (-d) x.1.flow) }, tset 0 x.2 st (tget 0 x.2 st + c))
  | _, _ => x

/-! ### The cycle -/

/-- What a cycle decides: allocations (positive loads, negative supply), flows, and why. -/
structure Cycle where
  alloc : Tab Rat := []
  flow : Tab Rat := []
  bound : Tab Nat := []
  short : List Nat := []
  sat : List Nat := []
  pAllow : Rat := 0
  bind : Bool := false
  /-- What the rounding to 1 W took from a consumer's allocation (R207, R209). -/
  cut : Tab Rat := []

/-- Whole watts, rounded down in magnitude (R209). -/
def wholeW (q : Rat) : Int := if 0 ≤ q then ratFloor q else -(ratFloor (-q))

/-- The bound of a consumer in this cycle, with its code (R207). -/
def State.bound (s : State) (n : Nat) (dt : Rat) : Rat × Nat :=
  if (s.cNode n).typ = .storage then s.storChg n dt
  else
    let o := s.outIn n
    let b := s.outBound n o dt
    if (yMatrixOf s.img.yarder n).isSome then lowest b [(s.modCap n o.v, 6)] else b

/-- An outlet whose client is lost, with an allocation of its own (R216). -/
def State.clientGone (s : State) (n : Nat) : Bool := (s.node n).clientTo

/-- Limit the charging of STORAGE nodes in mode FIXED to what their paths have room for, in index order (R205, R206): the
charges as limited, the flow with them, and the nodes the GRID's headroom limits. -/
def State.fixedRoom (s : State) (lim : Nat → Rat) (l : Tab Rat) (f : Tab Rat) : Tab Rat × Tab Rat × List Nat :=
  l.foldl (fun (acc : Tab Rat × Tab Rat × List Nat) p =>
    let room := (s.yUp p.1).foldl (fun m x => rmin m (rmax 0 ((lim x.1 - tget 0 acc.2.1 x.1) / x.2))) p.2
    let grid := (s.yUp p.1).any (fun x => decide (x.1 = 0) && decide ((lim 0 - tget 0 acc.2.1 0) / x.2 < p.2))
    (acc.1 ++ [(p.1, room)], s.addFlow p.1 room acc.2.1, if grid then p.1 :: acc.2.2 else acc.2.2)) ([], f, [])

/-- Compute a cycle of length `dt` on the snapshot (R202 to R211). -/
def State.compute (s : State) (dt : Rat) : Cycle :=
  let outs := s.yOf .outlet
  let stor := s.yOf .storage
  let pvs := s.yOf .pv
  let fixedSt := stor.filter (fun n => (s.node n).mode = .fixed)
  let freeSt := s.freeStor
  let gone := outs.filter (fun n => s.clientGone n)
  let exps : Tab Rat := tofList 0 ((outs.filter (fun n => !s.clientGone n)).map (fun n => (n, s.outExport n (s.outIn n) dt)))
  let cons := (outs.filter (fun n => !s.clientGone n && decide (tget 0 exps n = 0))) ++ freeSt
  let gl := (s.effLimit 0 {}).1
  let pa := s.pAllow gl
  let base : Rat := match (s.cNode 0).basePt with | some g => (s.goodVal g).getD 0 | none => 0
  let head := if s.gridBad then 0 else rmax 0 (pa - base)
  let lims : Tab Rat := tofList 0 (s.yNodes.map (fun n => (n, if n = 0 then head else (s.effLimit n {}).1)))
  let lim (n : Nat) : Rat := tget 0 lims n
  let pvT : Tab Rat := tofList 0 (pvs.map (fun n => (n, rmax 0 (s.pvNow n dt).1)))
  let disT : Tab Rat := tofList 0 (freeSt.map (fun n => (n, (s.storDis n dt).1)))
  let avail (n : Nat) : Rat := tget 0 pvT n + tget 0 disT n
  let bounds : Tab (Rat × Nat) := tofList (0, 0) (cons.map (fun n => (n, s.bound n dt)))
  let u (n : Nat) : Rat := (tget (0, 0) bounds n).1
  let fixT : List (Nat × Rat) := fixedSt.map (fun n => (n, s.storFix n dt))
  let fixedB : List (Nat × Rat) := gone.map (fun n => (n, s.lostAlloc n (s.outIn n) dt)) ++ exps.map (fun p => (p.1, -p.2)) ++ fixT.filter (fun p => decide (p.2 < 0))
  let supply (f : Tab Rat) : Tab Rat := (pvs ++ freeSt).foldl (fun f n => s.addFlow n (-(avail n)) f) f
  let fixC := s.fixedRoom lim (fixT.filter (fun p => decide (0 < p.2))) (supply (fixedB.foldl (fun f p => s.addFlow p.1 p.2 f) []))
  let fixedA : Tab Rat := tofList 0 (fixedB ++ fixC.1)
  let base0 := fixedA.foldl (fun f p => s.addFlow p.1 p.2 f) ([] : Tab Rat)
  let flow0 := supply base0
  let t1 (n : Nat) : Rat := rmin (s.yGMin n : Rat) (u n)
  let F1 := s.fillPass lim t1 avail cons { flow := flow0 }
  let short := cons.filter (fun n => decide (tget 0 F1.alloc n < t1 n))
  let F2 := s.fillPass lim u avail cons F1
  let loads : Tab Rat := tofList 0 (cons.map (fun n => (n, ((wholeW (tget 0 F2.alloc n) : Int) : Rat))))
  let net := loads.foldl (fun f p => s.addFlow p.1 p.2 f) base0
  -- sources in order: PV, storage that goes before GRID, storage behind it
  let srcs := pvs ++ freeSt.filter (fun n => (s.node n).mode = .selfUse) ++ freeSt.filter (fun n => (s.node n).mode ≠ .selfUse)
  let give (n : Nat) : Rat := if tget 0 loads n = 0 then avail n else 0
  let D1 := s.yNodes.reverse.foldl (fun D n => s.cover give srcs n (lim n) D) { flow := net }
  let D2 := s.cover give (pvs ++ freeSt.filter (fun n => (s.node n).mode = .selfUse)) 0 0 D1
  let stNow := freeSt.filter (fun n => decide (tget 0 D2.used n = 0))
  let D3 := pvs.foldl (fun x pv => stNow.foldl (fun y st => s.surplus lim give u pv st y) x) (D2, loads)
  let back : Rat := if s.gridBad then 0 else ((s.cNode 0).pRev : Rat)
  let D4 := s.cover give pvs 0 (-back) D3.1
  -- ramps of falling setpoints; while the GRID's headroom is 0 by R204 no ramp keeps an export up
  let fall (n : Nat) : Rat := if s.gridBad then 0 else rmin (give n) (-(s.spanOf n {} dt).2)
  let outT : Tab Rat := tofList 0 ((pvs ++ freeSt).map (fun n => (n, ((wholeW (rmax (tget 0 D4.used n) (fall n)) : Int) : Rat))))
  let chT : Tab Rat := tofList 0 (D3.2.map (fun p => (p.1, ((wholeW p.2 : Int) : Rat))))
  let alloc := s.yNodes.foldl (fun t n => tset 0 t n (tget 0 chT n + tget 0 fixedA n - tget 0 outT n)) ([] : Tab Rat)
  let flow := alloc.foldl (fun f p => s.addFlow p.1 p.2 f) ([] : Tab Rat)
  let sat := s.yNodes.filter (fun n => decide (lim n ≤ tget 0 F2.flow n) && !cons.contains n)
  let ceil := decide (s.tly.pCeil ≠ 0) && decide (pa < gl)
  let code (n : Nat) : Nat := match tget 0 F2.why n with
    | 0 => (tget (0, 0) bounds n).2
    | k + 1 => if k = 0 && ceil then 5 else 8
  let cut : Tab Rat := tofList 0 (cons.map (fun n => (n, tget 0 F2.alloc n - tget 0 loads n)))
  { alloc := alloc, flow := flow, short := short, sat := sat, pAllow := pa, cut := cut,
    bound := tofList 0 (cons.map (fun n => (n, if tget 0 outT n ≠ 0 then (if tget 0 outT n < avail n - 1 then 0 else (s.storDis n dt).2) else code n))
      ++ pvs.map (fun n => (n, if tget 0 outT n < avail n - 1 then 0 else (s.pvNow n dt).2)) ++ gone.map (fun n => (n, 7))),
    bind := !fixC.2.2.isEmpty || cons.any (fun n => decide (tget 0 F2.why n = 1)) }

/-- An OUTLET's current setpoint in 0.1 A, rounded down (R209). -/
def setAmps (a : Int) (v : Rat) : Nat := if v ≤ 0 || a ≤ 0 then 0 else (ratFloor ((a : Rat) * 10 / v)).toNat

/-- An allocation that falls by more than one ramp step, before the rounding to 1 W (R207): power drawn, not supplied. -/
def State.stepped (s : State) (n : Nat) (o : OutIn) (a dt : Rat) : Bool :=
  let c := s.cNode n
  let stp := if c.typ = .outlet then rampStep c.rampDn o.v dt else (c.rampDn : Rat) * dt
  decide (stp < rmax 0 ((s.node n).alloc : Rat) - rmax 0 a)

/-- A node's inputs were treated under R204. -/
def State.yInvalid (s : State) (n : Nat) : Bool :=
  let c := s.cNode n
  s.nodeLost n || s.badRef c.limitPt || s.badRef c.availPt || s.badRef c.basePt || s.badRef c.socPt

/-- One node as the cycle leaves it (R209, R219). A PV node with an INVALID input keeps its setpoint (R204). -/
def State.yNodeOut (s : State) (C : Cycle) (dt : Rat) (n : Nat) : Node :=
  let c := s.cNode n
  let r := s.node n
  let o := if c.typ = .outlet then s.outIn n else match (if c.typ = .module then r.outlet else none) with | some x => s.outIn x | none => {}
  let a := if c.typ = .pv && s.yInvalid n then r.alloc else wholeW (tget 0 C.alloc n)
  let i := if c.typ = .outlet then setAmps a o.v
    else if c.typ = .module && r.sw = .joined then
      (match r.outlet with
        | some x =>
          let p := s.outIn x
          let base := if !p.live then 0 else if p.st = .cableCheck || p.st = .precharge then 20 else setAmps (wholeW (tget 0 C.alloc x)) p.v
          base / max 1 (s.usable x).length
        | none => 0)
    else 0
  let leaf := c.typ = .outlet || c.typ = .storage || c.typ = .pv || c.typ = .module
  let stp := (c.typ = .outlet || c.typ = .storage) && s.stepped n o ((a : Rat) + tget 0 C.cut n) dt
  let sat := C.sat.contains n || (c.typ = .outlet && decide ((s.effLimit n o).1 ≤ (a : Rat)) && decide (0 < a))
  let moving := decide (r.sw = .releasing) || decide (r.sw = .opening) || decide (r.sw = .closing)
  { r with
    lEff := satTo 0xFFFFFFFF (ratFloor (s.effLimit n o).1).toNat, alloc := a, iSet := i, bound := tget 0 C.bound n,
    demand := satTo 0xFFFFFFFF (ratFloor (if c.typ = .outlet then o.d else if c.typ = .pv then s.pvAvail n else if c.typ = .storage then (s.storDis n dt).1 else 0)).toNat,
    flow := if leaf then a else ratFloor (tget 0 C.flow n),
    clsRead := if c.typ = .outlet || c.typ = .storage then s.yCls n else 0,
    mods := if c.typ = .outlet then (s.heldMods n).length else if c.typ = .module then r.outlet.getD 0xFFFF else 0,
    status := BitVec.ofNat 16 (sat.toNat + 2 * (s.yInvalid n || o.inv).toNat + 4 * (C.short.contains n).toNat + 8 * stp.toNat + 16 * moving.toNat
      + 32 * r.swFault.toNat + 64 * r.oos.toNat + 128 * o.noBay.toNat + 256 * r.clientTo.toNat) }

/-- Hand one outlet its setpoint (R202 step 3, R215). -/
def State.outSend (s : State) (cycle : Word) (n : Nat) : State :=
  let c := s.cNode n
  let r := s.node n
  let pay : HPay := .setpoint c.bayDev c.bayBridged c.bayNum cycle r.iSet r.alloc.toNat
  if s.ownOut n then
    match s.ctxOf c.bayBridged c.bayNum with
    | some k =>
      let on := decide (9 ≤ (s.ctx k).st.ctorIdx) && decide ((s.ctx k).st.ctorIdx ≤ 11)
      let s1 := if on then s.modCtx k (fun x => { x with iSet := some r.iSet }) else s
      if c.bayBridged then s1.hingeSend (s.cBridged c.bayNum).tx [pay] else s1
    | none => s
  else match c.conn with
    | some q => s.hingeSend q [pay]
    | none => s

/-- Send one module its payload (R214, R215). -/
def State.modSend (s old : State) (cycle : Word) (n : Nat) : State :=
  match (s.cNode n).conn with
  | none => s
  | some q =>
    let a := (old.node n).sw
    let b := (s.node n).sw
    let cmd := if b = .opening && a ≠ .opening then 2 else if b = .closing && a ≠ .closing then 3
      else if b = .joined && (match (s.node n).outlet with | some o => (s.outIn o).live && decide (5 ≤ (s.outIn o).st.ctorIdx) && decide ((s.outIn o).st.ctorIdx ≤ 11) | none => false) then 1 else 0
    let v := match (s.node n).outlet with | some o => if (s.outIn o).live then (s.outIn o).vTgt else 0 | none => 0
    s.hingeSend q [.module cmd n cycle (s.node n).iSet v ((s.node n).outlet.getD 0xFFFFFFFF)]

/-- One allocation cycle (R202). -/
def State.yCycle (s : State) (amps : Tab Nat) (us : Nat) : State :=
  let dt : Rat := (s.cycleMs : Rat) / 1000
  let s1 := (s.yOf .module).foldl (fun (a : State) n => a.modStart amps n) s
  let s2 := s1.assign dt
  let C := s2.compute dt
  let nodes : Tab Node := tofList {} (s2.yNodes.map (fun n => (n, s2.yNodeOut C dt n)))
  let cyc := s2.yrd.cycle + 1
  let steps := (nodes.filter (fun p => p.2.status.getLsbD 3)).length
  let y2 : Yrd := { s2.yrd with nodes := nodes, lost := [], cycle := cyc, lastUs := us % 65536, maxUs := max s2.yrd.maxUs (us % 65536) }
  let y3 : Yrd := { y2 with pAllow := satTo 0xFFFFFFFF (ratFloor C.pAllow).toNat, pGrid := ratFloor (tget 0 C.flow 0) }
  let s3 : State := { s2 with yrd := { y3 with limitSteps := y3.limitSteps + BitVec.ofNat 16 steps } }
  let s4 := (((s3.setEvtIf C.bind 0x06 0).setEvtIf (!C.short.isEmpty) 0x06 1).setEvtIf (decide (0 < steps)) 0x06 2).setEvtIf
    (nodes.any (fun p => p.2.status.getLsbD 1)) 0x06 3
  let s5 := (s4.yOf .outlet).foldl (fun (a : State) n => a.outSend cyc n) s4
  let s6a := (s5.yOf .module).foldl (fun (a : State) n => a.modSend s cyc n) s5
  let s6 := (s6a.yOf .storage ++ s6a.yOf .pv).foldl (fun (a : State) n => a.send (.source n (a.node n).alloc)) s6a
  if s6.net.pair = .active && s6.ringTalks then s6.send (.boomMirror { kind := 0, nodes := s6.yrd.nodes, cycle := cyc }) else s6

/-- YARDER_CYCLE (R202): `moduleAmps` are the modules' measured currents in 0.1 A, `us` the compute time. -/
def execYarderCycle (moduleAmps : Tab Nat) (us : Nat) (s : State) : Res :=
  if s.awake && s.allocates then .next (s.yCycle moduleAmps us) else .next s

/-! ### Events -/

/-- MATRIX_SWITCH_DONE (R214): `SW_T` after an open or a close command. -/
def execMatrixSwitchDone (node : Nat) (s : State) : Res :=
  if s.sys.inReset then .next s
  else match (s.node node).sw with
    | .opening => .next (s.modNode node (fun x => { x with sw := .unassigned, outlet := none }))
    | .closing => .next (s.modNode node (fun x => { x with sw := .settled }))
    | _ => .next s

/-- MODULE_RELEASE_TIMEOUT (R214): 500 ms after its release a module still carries more than 1 A. -/
def execModuleReleaseTimeout (node : Nat) (s : State) : Res :=
  if !s.sys.inReset && (s.node node).sw = .releasing && !(s.node node).swFault then .next (s.modFault node) else .next s

/-- MODULE_EXCESS_RELEASE (R213): 5 s with more than `n_des`; the next cycle decides the release. -/
def execModuleExcessRelease (node : Nat) (s : State) : Res :=
  if !s.sys.inReset && (s.cNode node).typ = .outlet then .next (s.modNode node (fun x => { x with excess := true })) else .next s

/-- The OUTLET node of this device's own tree for a local or bridged bay. -/
def State.nodeFor (s : State) (bridged : Bool) (n : Nat) : Option Nat :=
  (s.yOf .outlet).find? (fun x => s.ownOut x && decide ((s.cNode x).bayBridged = bridged) && decide ((s.cNode x).bayNum = n))

/-- The client's REQUEST for one local bay (R215): its limit is the lower of the session's cap and the `LIMIT_PT` value, which
counts while GOOD. -/
def State.requestOf (s : State) (n : Nat) : HPay :=
  let o := s.outOwn n
  let x := s.ctx n
  let pt := match s.nodeFor false n with | some m => (s.cNode m).limitPt | none => (s.cBay n).limitPt
  let cap := o.cap.getD 0xFFFFFFFF
  let lim := match pt.bind (fun g => s.goodVal g) with | some q => min cap (ratFloor (q * 10)).toNat | none => cap
  .request s.devNum false n x.st.ctorIdx (if x.st = .charging then x.iReq else 0) (ratFloor (o.v * 10)).toNat lim
    (divRound ((s.mbay n).mean10I.natAbs * 10 : Nat) 65536).toNat (s.badRef pt) o.exp

/-- A client sends to its hub: a post, or a stack member that does not allocate (R15, R16). -/
def State.isClient (s : State) : Bool := decide (s.img.struct_.role = .post) || (s.img.stack.present && !s.allocates)

/-- REQUEST_PERIODIC (R215): one REQUEST for each enabled bay on the connection to the hub. -/
def execRequestPeriodic (s : State) : Res :=
  if s.awake && s.isClient then
    .next (((List.range 8).filter (fun n => (s.cBay n).enabled)).foldl (fun (a : State) n => a.hingeSend s.img.net.hub [s.requestOf n]) s)
  else .next s

/-- A changed vehicle request of a local bay goes to the hub at once (R215). -/
def State.requestNow (s old : State) (k : Nat) : State :=
  let x := s.ctx k
  let y := old.ctx k
  if s.isClient && !x.bridged && (x.st ≠ y.st || x.iReq ≠ y.iReq || x.vTgt ≠ y.vTgt) then s.hingeSend s.img.net.hub [s.requestOf k] else s

/-- Sessions of a client that transfer power stop where their setpoints have been lost for good (R16, R147). -/
def State.clientStop (s : State) : State :=
  (List.range 8).foldl (fun (a : State) n =>
    let st := (a.ctx n).st
    if st = .charging || st = .renegotiate then a.endSess n .hingeLoss false else a) s

/-! ### Ramps without an allocator (R16, R31, R36, R144) -/

/-- An outlet's safe minimum in W and its ramps in 0.1 A/s: its node's, else BAYMAP's. -/
def State.safeOf (s : State) (bridged : Bool) (n : Nat) : Nat × Nat × Nat :=
  match s.nodeFor bridged n with
  | some m => ((s.cNode m).safeMin, (s.cNode m).rampUp, (s.cNode m).rampDn)
  | none => if bridged then (0, 1, 1) else ((s.cBay n).safeMin, (s.cBay n).rampUp, (s.cBay n).rampDn)

/-- Move a setpoint towards a goal by one 10 ms step of a ramp in 0.1 A/s; `rem` carries hundredths of 0.1 A. -/
def rampTo (goal now up dn rem : Nat) : Nat × Nat :=
  let r := rem + (if goal < now then dn else up)
  let d := r / 100
  if goal < now then (if now - goal ≤ d then (goal, 0) else (now - d, r % 100))
  else if goal - now ≤ d then (goal, 0) else (now + d, r % 100)

/-- Where the setpoint of a session goes that no allocator gives one to: in STOPPING to 0, after the hold of R16, R31 or R36
to the outlet's safe minimum. -/
def State.rampGoal (s : State) (k : Nat) : Option Nat :=
  let x := s.ctx k
  if s.allocates then none
  else if x.st = .stopping then some 0
  else if (x.st = .charging || x.st = .renegotiate) && (s.net.ramped || s.yrd.clientRamp) then some (setAmps (s.safeOf x.bridged x.bay).1 (s.outOwn k).v)
  else none

/-- One 10 ms step of a session's ramp. -/
def State.rampTick (s : State) (k : Nat) : State :=
  match s.rampGoal k, (s.ctx k).iSet with
  | some g, some i =>
    let l := s.safeOf (s.ctx k).bridged (s.ctx k).bay
    let r := rampTo g i l.2.1 l.2.2 (s.ctx k).rampRem
    s.modCtx k (fun x => { x with iSet := some r.1, rampRem := r.2 })
  | _, _ => s

/-- The ramps of every session, and the heartbeats missed while no master is heard: one a millisecond (R29, R41). -/
def State.tickRamps (s : State) : State :=
  let s1 := (tkeys s.vlk.ctxs).foldl (fun (a : State) k => a.rampTick k) s
  if 3 ≤ s1.net.hbMiss then { s1 with net := { s1.net with hbMiss := satTo 255 (s1.net.hbMiss + 10) } } else s1

/-- CLIENT_HOLD_EXPIRY (R16): 100 ms of holding have passed; the post ramps down and stops. -/
def execClientHoldExpiry (s : State) : Res :=
  if !s.sys.inReset && s.yrd.clientHold && !s.yrd.clientRamp then
    .next (({ s with yrd := { s.yrd with clientRamp := true } }).clientStop).settle
  else .next s

/-- CLIENT_LOSS_HOLD_EXPIRY (R216): the allocator lets a lost client's allocation fall. -/
def execClientLossHoldExpiry (node : Nat) (s : State) : Res :=
  if !s.sys.inReset && (s.node node).clientTo then .next (s.modNode node (fun x => { x with clientRamp := true })) else .next s

/-! ### Commands (R219) -/

/-- A YRD command runs on a device that allocates, on a node of its tree. -/
def State.runYrd (s : State) (c : Cmd) (opcode node : Nat) (body : State → Answer) : State :=
  s.runCmd c opcode (fun s =>
    if !s.allocates then fail s .state else if s.img.yarder.count ≤ node then fail s .range else body s)

/-- The first 32 octets of a node's data. -/
def State.yHead (s : State) (n : Nat) : List Byte :=
  let c := s.cNode n
  let r := s.node n
  le 1 c.typ.ctorIdx ++ le 1 r.clsRead ++ le 2 (if n = 0 then 0xFFFF else c.parent) ++ le 4 r.lEff ++ le 4 r.demand ++ leInt 4 r.alloc ++ le 4 r.iSet ++ leInt 4 r.flow
    ++ le 2 r.mods ++ le 2 r.status.toNat ++ le 4 s.yrd.cycle.toNat

/-- YRD_NODE_READ. -/
def execYrdNodeRead (c : Cmd) (node : Nat) (s : State) : Res :=
  .next (s.runYrd c 0x0601 node (fun s => okay s (s.yHead node ++ le 1 (s.node node).bound)))

/-- YRD_LIMIT_SET: an OUTLET's override is in 0.1 A, any other in W; 0xFFFF_FFFF removes it. -/
def execYrdLimitSet (c : Cmd) (node : Nat) (limit : Word) (s : State) : Res :=
  .next (s.runYrd c 0x0602 node (fun s =>
    let k := s.cNode node
    let top := if k.typ = .outlet then k.iMax else k.pMax
    if k.typ = .module || k.typ = .pv then fail s .range
    else if limit = 0xFFFFFFFF then okay (s.modNode node (fun x => { x with overLim := none }))
    else if top < limit.toNat then fail s .range
    else okay (s.modNode node (fun x => { x with overLim := some limit.toNat }))))

/-- YRD_CLASS_SET. -/
def execYrdClassSet (c : Cmd) (node cls gMin : Nat) (s : State) : Res :=
  .next (s.runYrd c 0x0603 node (fun s =>
    let k := s.cNode node
    if !(k.typ = .outlet || k.typ = .storage) || 7 < cls || k.pMax < gMin then fail s .range
    else okay (s.modNode node (fun x => { x with cls := some cls, gMin := some gMin }))))

/-- YRD_STORAGE_SET: positive setpoints charge. -/
def execYrdStorageSet (c : Cmd) (node mode socTgt : Nat) (setpoint : Int) (s : State) : Res :=
  .next (s.runYrd c 0x0604 node (fun s =>
    let k := s.cNode node
    let m : StorMode := if mode = 1 then .selfUse else if mode = 2 then .fixed else .peakShave
    if k.typ ≠ .storage || 2 < mode || 100 < socTgt || setpoint < -(k.pMax : Int) || (k.pRev : Int) < setpoint then fail s .range
    else okay (s.modNode node (fun x => { x with mode := m, socTgt := some socTgt, setpoint := setpoint }))))

/-- YRD_EXPORT_SET. -/
def execYrdExportSet (c : Cmd) (node watts : Nat) (s : State) : Res :=
  .next (s.runYrd c 0x0605 node (fun s =>
    let k := s.cNode node
    if k.typ ≠ .outlet || k.pMax < watts then fail s .range
    else if !(s.outIn node).exp then fail s .state
    else okay (s.modNode node (fun x => { x with expSet := watts }))))

/-- YRD_MODULE_SERVICE (R214): in service makes a module free; out of service releases it and clears SW_FAULT. -/
def execYrdModuleService (c : Cmd) (node inService : Nat) (s : State) : Res :=
  .next (s.runYrd c 0x0606 node (fun s =>
    if (s.cNode node).typ ≠ .module || 1 < inService then fail s .range
    else if inService = 1 then
      okay (s.modNode node (fun x => if x.swFault || x.sw = .unassigned then { x with oos := false, swFault := false, sw := .unassigned, outlet := none }
        else { x with oos := false }))
    else okay (s.modNode node (fun x => { x with oos := true, swFault := false }))))

/-- YRD_SNAPSHOT: all nodes, from one completed cycle. -/
def execYrdSnapshot (c : Cmd) (dst : Nat) (s : State) : Res :=
  .next (s.runYrd c 0x0607 0 (fun s =>
    if !dstOk dst (32 * s.img.yarder.count) then fail s .range
    else okay (s.writeGen dst (s.yNodes.foldl (fun l n => l ++ s.yHead n) []))))

end Sys2Proof.Machine
end

