-- ==== Sys2Proof/Machine/NetCmd.lean ====
section
/-! DEFINITION. The stack and the redundant pair: ring states and discovery, heartbeats and takeover, the mirror, the
network ports, and the NET commands (R17 to R42). -/
namespace Sys2Proof.Machine

/-! ### Who is who -/

/-- What this device's heartbeat carries (R29, R34). -/
def State.heartbeat (s : State) (handover : Bool) : Heartbeat :=
  { epoch := s.net.epoch, ident := s.key.devId, pairB := s.sys.straps.pairB, handover := handover }

/-- The bridged sessions of a device whose mastership changes end at once (R28, R147). -/
def State.takeoverEnds (s : State) : State :=
  (tkeys s.vlk.ctxs).foldl (fun (a : State) k => if (a.ctx k).bridged then a.endNow k .takeover else a) s

/-- A takeover or handover seen (R41). -/
def State.countTakeover (s : State) : State :=
  ({ s with net := { s.net with takeovers := satTo 65535 (s.net.takeovers + 1) } }).setEvt 0x14 1

/-- The hold of R31 and R36 ends. -/
def State.holdEnds (s : State) : State := { s with net := { s.net with holding := false, ramped := false } }

/-- A lost master, from this device's view (R22, R29, R31): the hold starts unless it runs or has ended already. -/
def State.loseMaster (s : State) : State :=
  { s with net := { s.net with masterSeen := false, handoverSeen := false, holding := s.net.holding || !s.net.ramped } }

/-- The hold is over: on every tick the outlets now fall to their safe minimums at their ramp limits (R31, R36). -/
def State.rampDown (s : State) : State := { s with net := { s.net with holding := false, ramped := true } }

/-! ### Discovery (R18, R19, R22, R23) -/

/-- What the ring fields show of a device that runs alone (R22, R41). -/
def Net.alone (n : Net) : Net := { n with members := 0, mask := 0, verMinor := 0, verMajor := 0, breakDev := 0 }

/-- This device moves to a ring state; entering CONFLICT starts its hold (R36); FORMING, ISOLATED and NOMASTER are a lost
master. -/
def State.setRing (s : State) (r : RingSt) : State :=
  if s.net.ring = r then { s with net := { s.net with candidate := none } }
  else
    let n := if r = .down then s.net.alone else s.net
    let s1 := (({ s with net := { n with ring := r, candidate := none } }).setEvt 0x14 0).setEvtIf (decide (r = RingSt.conflict)) 0x14 2
    if r = .conflict then { s1 with net := { s1.net with holding := true, ramped := false } }
    else if (r = .isolated || r = .noMaster || r = .forming) && s1.img.stack.present && !s1.activeMaster then s1.loseMaster
    else if s.net.ring = .conflict && s1.activeMaster then s1.holdEnds
    else s1

/-- The state a round shows. -/
def ringOf (v : DiscView) : RingSt :=
  if 2 ≤ v.masters && !v.pairOk then .conflict
  else if v.masters = 0 then .noMaster
  else if !v.complete then .forming
  else if !v.reachable then .isolated
  else if v.closed then .up else .opened

/-- A round's state is taken up; leaving CONFLICT and reaching UP from FORMING need two rounds that agree (R22, R36). -/
def State.ringRound (s : State) (v : DiscView) : State :=
  let r := ringOf v
  let two := (s.net.ring = .conflict && r ≠ .conflict) || (s.net.ring = .forming && r = .up)
  if s.net.ring = .conflict && v.masters = 0 then { s with net := { s.net with candidate := none } }
  else if two && s.net.candidate ≠ some r then { s with net := { s.net with candidate := some r } }
  else s.setRing r

/-- An entry that a stack section admits: the master itself, or a member under its number and identity (R18, R19). -/
def admits (members : Tab Nat) (master : Nat) (e : DiscEntry) : Bool :=
  if e.num = 0 then decide (e.ident = master) else decide (tget 0 members e.num = e.ident)

/-- The highest minor version that every accepted entry supports (R23). -/
def ringMinor (l : List DiscEntry) : Nat := l.foldl (fun m e => min m e.verHi) 2

/-- An entry shares the ring's version. -/
def speaks (minor : Nat) (e : DiscEntry) : Bool := decide (e.verLo ≤ minor) && decide (minor ≤ e.verHi)

/-- The masters a device accepts at number 0: itself or the other of its pair at a master (R26), the identity of the frame
at a member. -/
def State.pairIdent (s : State) (i : Nat) : Bool :=
  decide (i = s.key.devId) || (match s.img.stack.pair with | some p => decide (i = p.1) || decide (i = p.2) | none => false)

/-- A master's evaluation of a round against its own stack section: rejected entries, the version, the devices connected.
An entry that shares no version of 1.0 to 1.2, or none with all the others, stays unconnected (R23). -/
def State.discMaster (s : State) (v : DiscView) : State :=
  let okIds := v.entries.filter (fun e => if e.num = 0 then s.pairIdent e.ident else admits s.img.stack.members 0 e)
  let able := okIds.filter (fun e => decide (e.verLo ≤ 2) && decide (e.verLo ≤ e.verHi))
  let minor := ringMinor able
  let ok := able.filter (fun e => speaks minor e)
  let mask : BitVec 8 := ok.foldl (fun m e => m ||| (1#8 <<< (e.num % 8))) 0
  let n := { s.net with members := min 8 ok.length, mask := mask, verMajor := 1, verMinor := minor,
                        peerSynced := v.standbySynced && decide (s.net.pair = .active) }
  (({ s with net := n }).setEvtIf (decide (okIds.length < v.entries.length)) 0x14 4).setEvtIf (decide (ok.length < okIds.length)) 0x14 3

/-- A member's evaluation: it is rejected where the stack section does not name it or no version is shared (R19, R23). -/
def State.discMember (s : State) (v : DiscView) : State :=
  let named := decide (s.devNum ≠ 0) && decide (tget 0 v.members s.devNum = s.key.devId)
  let spoken := decide (v.minor ≤ 2)
  let ok := v.entries.filter (fun e => (decide (e.num = 0) || admits v.members 0 e) && speaks v.minor e)
  let mask : BitVec 8 := ok.foldl (fun m e => m ||| (1#8 <<< (e.num % 8))) 0
  if !named || !spoken then
    (({ s with net := { s.net with rejected := true, masterSeen := false } }).setEvtIf (!named) 0x14 4).setEvtIf (named && !spoken) 0x14 3
  else { s with net := { s.net with rejected := false, members := min 8 ok.length, mask := mask, verMajor := 1, verMinor := v.minor } }

/-- The setpoints of a master that yields are discarded (R34, R217). -/
def Yrd.discarded (y : Yrd) : Yrd := { y with nodes := tmap {} (fun _ (n : Node) => { n with alloc := 0, iSet := 0 }) y.nodes }

/-- An active master of a pair that finds a ring under a higher epoch becomes standby and resynchronises; its setpoints are
discarded (R33, R34). -/
def State.stepDown (s : State) (epoch : Word) (ident : Option Nat) : State :=
  ({ s with net := { s.net with pair := .syncing, epoch := epoch, mirror := 0, mirRecs := [], masterSeen := true, masterId := ident, hbMiss := 0, peerSynced := false },
            yrd := s.yrd.discarded }).takeoverEnds

/-- What the master's discovery frame carries (R22, R23). -/
def State.discFrame (s : State) : DiscFrame :=
  { ident := s.key.devId, pair := s.img.stack.pair, epoch := s.net.epoch, minor := if s.net.verMajor = 0 then 2 else s.net.verMinor }

/-- DISCOVERY_ROUND (R22). -/
def execDiscoveryRound (s : State) : Res := if s.awake && s.stackMaster then .next (s.send (.boomDiscovery s.discFrame)) else .next s

/-- This device's own entry (R22, R23). -/
def State.ownEntry (s : State) : DiscEntry := { num := s.devNum, ident := s.key.devId, verLo := 0, verHi := 2 }

/-- A device passes a discovery frame on: the master consumes its own, a rejected device adds nothing (R19, R22, R23). -/
def State.passDiscovery (s : State) (v : DiscView) : State :=
  if s.stackMaster then s
  else if s.net.rejected then s.send (.boomForward (.discovery v))
  else s.send (.boomForward (.discovery { v with entries := v.entries ++ [s.ownEntry] }))

/-- DISCOVERY_FRAME_RX (R18 to R23, R33, R36): a rejected device only forwards. -/
def execDiscoveryFrameRx (v : DiscView) (s : State) : Res :=
  if !s.awake || !s.img.stack.present || !(s.net.boom0 || s.net.boom1) then .next s
  else
    let s1 := (if s.stackMaster then s.discMaster v else s.discMember v).passDiscovery v
    if s1.net.rejected then .next s1.settle
    else
      let s2 := s1.ringRound v
      let s3 := { s2 with net := { s2.net with breakDev := if s2.net.ring = RingSt.opened then v.breakDev else 0 } }
      .next (if s3.net.pair = PairSt.active && v.pairOk && serialAfter v.epoch s3.net.epoch then s3.stepDown v.epoch none else s3).settle

/-- BOOM_LINK_CHANGE (R22): without any link the ring is DOWN, from CONFLICT too (assumption 45); the first link makes it
FORMING. -/
def execBoomLinkChange (port : Nat) (up : Bool) (s : State) : Res :=
  if s.sys.inReset || 2 ≤ port then .next s
  else
    let s1 := { s with net := { s.net with boom0 := if port = 0 then up else s.net.boom0, boom1 := if port = 1 then up else s.net.boom1 } }
    if !s1.net.boom0 && !s1.net.boom1 then
      .next (s1.setRing .down).settle
    else if s1.net.ring = .down then .next (s1.setRing .forming).settle
    else .next s1

/-- BOOM_FRAME_UNCORR (R21): the frame is dropped and counted. -/
def execBoomFrameUncorr (s : State) : Res :=
  if s.awake then .next (({ s with net := { s.net with boomDrops := s.net.boomDrops + 1 } }).setEvt 0x14 5) else .next s

/-! ### Heartbeats, loss and takeover (R29 to R36) -/

/-- HEARTBEAT_SEND (R22, R29). -/
def execHeartbeatSend (s : State) : Res := if s.awake && s.activeMaster && s.ringTalks then .next (s.send (.boomHeartbeat (s.heartbeat false))) else .next s

/-- A heartbeat at an active master of a pair: the higher epoch stays, else the one with `PAIR_B` low (R34). -/
def State.hbActive (s : State) (hb : Heartbeat) : State :=
  if serialAfter hb.epoch s.net.epoch || (decide (hb.epoch = s.net.epoch) && s.sys.straps.pairB && !hb.pairB) then s.stepDown hb.epoch (some hb.ident)
  else s

/-- A heartbeat at the issuer of NET_PAIR_SWITCH: epoch + 1 completes the handover (R35). -/
def State.hbHandover (s : State) (hb : Heartbeat) : State :=
  if hb.epoch = s.net.epoch + 1 then
    ((s.stepDown hb.epoch (some hb.ident)).countTakeover).finish (fun f => decide (f.waits = Waiting.pairSwitch)) .ok
  else s

/-- Of two masters under one epoch the one with `PAIR_B` high yields (R34). -/
def State.yields (s : State) (hb : Heartbeat) : Bool :=
  hb.pairB && decide (hb.epoch = s.net.epoch) && s.net.masterSeen && (match s.net.masterId with | some i => decide (i ≠ hb.ident) | none => false)

/-- A heartbeat at a member or a standby (R31, R34, R35): one of an older epoch, or of a master that yields, is not
followed; a higher epoch ends the hold, and once ramped any active master does, but neither in CONFLICT (R36). -/
def State.hbFollow (s : State) (hb : Heartbeat) : State :=
  if serialAfter s.net.epoch hb.epoch || s.yields hb then s
  else
    let newer := serialAfter hb.epoch s.net.epoch
    let other := match s.net.masterId with | some i => newer && decide (i ≠ hb.ident) | none => false
    let n := { s.net with masterSeen := true, epoch := hb.epoch, masterId := some hb.ident, hbMiss := 0, handoverSeen := hb.handover }
    let s1 := { s with net := n }
    let s2 := if (newer || s.net.ramped) && s.net.ring ≠ .conflict then s1.holdEnds else s1
    let s3 := if other then s2.countTakeover else s2
    if hb.sleep then s3.idle 0 else s3

/-- What a heartbeat does here; without stack traffic it is not consumed (R19, R22). -/
def State.hbTake (s : State) (hb : Heartbeat) : State :=
  if !s.ringTalks then s
  else match s.net.pair with
    | .active => s.hbActive hb
    | .handover => s.hbHandover hb
    | _ => if s.activeMaster then s else s.hbFollow hb

/-- HEARTBEAT_RX (R19, R22, R29 to R35, R55). -/
def execHeartbeatRx (hb : Heartbeat) (s : State) : Res :=
  if !s.awake || !s.img.stack.present then .next s
  else .next ((s.passOn (decide (hb.ident = s.key.devId)) (.heartbeat hb)).hbTake hb).settle

/-- MASTER_LOST (R29, R31, R32): 3.2 ms without a heartbeat, or 8.2 ms after one with HANDOVER (R35). Each tick that
passes afterwards counts ten more missed heartbeats (R41). -/
def execMasterLost (s : State) : Res :=
  if s.awake && s.img.stack.present && !s.activeMaster && s.net.pair ≠ .handover && !s.net.rejected then
    let s1 := s.loseMaster
    .next { s1 with net := { s1.net with hbMiss := max 3 s1.net.hbMiss } }
  else .next s

/-- A mirrored record opens here with the satellite's last verified registers; it closes on the satellite's next signed
reading, or with its connection's timeout (R28, R272). -/
def State.openMirrored (s : State) (r : MirRec) : State :=
  let q := s.recReserve
  match q.2 with
  | none => q.1
  | some n =>
    let s1 := q.1.recOpen n r.bay true r.method r.ident r.startImp r.startExp
    let s2 := (s1.modRcd n (fun x => { x with tStart := r.tStart })).recSat n r.imp r.exp s.now false
    { s2 with net := { s2.net with orphans := s2.net.orphans ++ [(n, r.bay)] } }

/-- TAKEOVER (R28, R30, R35, R217): a synced standby that has declared the master lost, or was handed over to. -/
def execTakeover (s : State) : Res :=
  if s.awake && s.stackMaster && s.net.pair = .synced && (!s.net.masterSeen || s.net.handoverSeen) then
    let s1 := { s with net := { s.net with pair := .active, epoch := s.net.epoch + 1, masterSeen := false, handoverSeen := false,
                                           masterId := some s.key.devId, mirRecs := [], hbMiss := 0, peerSynced := false } }
    let s2 := (s1.holdEnds.countTakeover).takeoverEnds
    let s3 := s.net.mirRecs.foldl (fun (a : State) r => a.openMirrored r) s2
    .next (s3.send (.boomHeartbeat (s3.heartbeat false))).settle
  else .next s

/-- MEMBER_HOLD_EXPIRY (R31): 100 ms without a master. -/
def execMemberHoldExpiry (s : State) : Res :=
  if !s.sys.inReset && s.net.holding && s.net.ring ≠ .conflict then .next s.rampDown else .next s

/-- CONFLICT_HOLD_EXPIRY (R36): 100 ms in CONFLICT. -/
def execConflictHoldExpiry (s : State) : Res :=
  if !s.sys.inReset && s.net.holding && s.net.ring = .conflict then .next s.rampDown else .next s

/-! ### The mirror (R27) -/

/-- What a mirror frame carries is taken over: the Yarder state whole (R217), the points, and Tally's aggregation with the
interval's energy and the open records (R27, R28, R262). -/
def State.mirrorTake (s : State) (f : MirrorFrame) : State :=
  let s1 : State := if f.kind = 0 then { s with yrd := { s.yrd with nodes := f.nodes.filter (fun p => p.1 < s.img.yarder.count), cycle := f.cycle } } else s
  let s2 := f.points.foldl (fun (a : State) p =>
    if p.1 < a.lnd.points then a.modPoint p.1 (fun e => { e with val := p.2, accepted := e.accepted || decide (p.2.qual = .good) }) else a) s1
  if f.kind = 2 then
    { s2 with tly := { s2.tly with site := f.site, ivlSum := f.ivlSum, pCeil := f.pCeil }, net := { s2.net with mirRecs := f.recs } }
  else s2

/-- MIRROR_RX (R19, R22, R27): a gap returns the standby to STANDBY_SYNCING; one complete copy of each kind makes it SYNCED.
Any other device passes the frame on. -/
def execMirrorRx (f : MirrorFrame) (s : State) : Res :=
  if !s.awake || !(s.net.pair = .syncing || s.net.pair = .synced) || 3 ≤ f.kind || !s.ringTalks then .next (s.passOn s.activeMaster (.mirror f))
  else if f.gap then .next { s with net := { s.net with pair := .syncing, mirror := 0 } }
  else
    let s1 := s.mirrorTake f
    let m := if f.complete then s1.net.mirror ||| (1#3 <<< f.kind) else s1.net.mirror
    .next { s1 with net := { s1.net with mirror := m, pair := if m = 7 then .synced else s1.net.pair } }

/-! ### Commands (R35, R42) -/

/-- HANDOVER_TIMEOUT (R35): the issuer returns to ACTIVE with epoch + 2. -/
def execHandoverTimeout (s : State) : Res :=
  if !s.sys.inReset && s.net.pair = .handover then
    let s1 := { s with net := { s.net with pair := .active, epoch := s.net.epoch + 2 } }
    .next ((s1.send (.boomHeartbeat (s1.heartbeat false))).finish (fun f => decide (f.waits = Waiting.pairSwitch)) .timeout).settle
  else .next s

/-- NET_PAIR_SWITCH (R35, R42). -/
def execNetPairSwitch (c : Cmd) (s : State) : Res :=
  .next (s.runCmd c 0x1401 (fun s =>
    if s.net.pair ≠ .active || !s.stackMaster || !s.net.peerSynced || s.net.ring = .conflict then fail s .state
    else .wait .pairSwitch ({ s with net := { s.net with pair := .handover } }.send (.boomHeartbeat (s.heartbeat true)))))

/-- NET_RING_REDISCOVER (R42). -/
def execNetRingRediscover (c : Cmd) (s : State) : Res :=
  .next (s.runCmd c 0x1402 (fun s => if s.stackMaster then okay (s.send (.boomDiscovery s.discFrame)) else fail s .state))

/-! ### Network ports (R37, R41) -/

/-- Write `NET_PORTn_CFG.MODE`: a changed mode takes the link down until it comes up in the new one. -/
def State.portMode (s : State) (n : Nat) (value : Word) : State :=
  let m := value.toNat % 4
  if (s.port n).mode = m then s else s.setPort n { mode := m }

/-- NET_PORT_MODE_WRITE. -/
def execNetPortModeWrite (n : Nat) (value : Word) (s : State) : Res :=
  if s.closedOff || 2 ≤ n then .next s else .next (s.portMode n value)

/-- NET_PORT_LINK_CHANGE: a disabled port has no link; the speeds are those the mode runs (R37). -/
def execNetPortLinkChange (n : Nat) (up : Bool) (speed : Nat) (s : State) : Res :=
  if s.sys.inReset || 2 ≤ n then .next s
  else
    let m := (s.port n).mode
    let sp := if m = 1 then 3 else if m = 2 then 2 else min speed 2
    if m = 0 then .next s else .next (s.setPort n { mode := m, link := up, speed := if up then sp else 0 })

end Sys2Proof.Machine
end

