-- ==== Sys2Proof/Machine/ScalerCmd.lean ====
section
/-! DEFINITION. Samples, checks on the measuring path, ticks, and the SCL commands (R222 to R247). -/
namespace Sys2Proof.Machine

/-! ### A sample and what Spar sees of it -/

/-- States in which the output may be live: what exceeds a limit there is OUTPUT_FAULT (R147). -/
def outputLive (x : Sess) : Bool := x = .cableCheck || underVoltage x

/-- The bay's current limit in 0.1 A: the lower of the vehicle's maximum and the outlet's rating (R147). -/
def State.currentCap (s : State) (n : Nat) : Nat :=
  let c := s.ctx n
  let r := 10 * (s.cBay n).ratedI
  if c.iMax = 0 then r else min c.iMax r

/-- The new 1 ms mean is beyond the current limit by 5 % (R147). -/
def State.overNow (s : State) (n : Nat) : Bool := decide (s.currentCap n * 105 * 65536 < (s.mbay n).mean1I.natAbs * 1000)

/-- How many milliseconds a cable check's output has stood within 5 % of `U_REF` (R309 step 3). -/
def State.settleCount (s : State) (n : Nat) : State :=
  let u := s.uRefNow n * 65536
  let near := decide (20 * ((s.mbay n).mean1V - (u : Int)).natAbs ≤ u)
  if (s.ctx n).st = .cableCheck && (s.imdB n).st ≠ .refCheck && (s.mbay n).n1 = 0 then
    s.modImdB n (fun b => { b with settledMs := if near then min 65535 (b.settledMs + 1) else 0 })
  else s

/-- Consecutive 1 ms means of the earth current's magnitude above `EF_FAST` (R312). -/
def State.efFastCount (s : State) (n : Nat) : State :=
  if (s.cMeter n).meEn && (s.mbay n).n1 = 0 then
    let high := decide (s.efFast n * 65536 < (s.mbay n).mean1E.natAbs * 1000)
    s.modImdB n (fun b => { b with efFastN := if high then min 65535 (b.efFastN + 1) else 0 })
  else s

/-- For how long the 10 ms means of the earth current's magnitude have lain above or below the levels, at a tick (R312). -/
def State.efTick (s : State) (n : Nat) : State :=
  if s.meters n && (s.cMeter n).meEn then
    s.modImdB n (fun b =>
      let x := b.ef10.natAbs
      let high := decide (s.efWarn n * 10 < x)
      { b with efOverMs := if s.efTrip n * 10 < x then min 65535 (b.efOverMs + 10) else 0,
               efHighMs := if high then min 65535 (b.efHighMs + 10) else 0,
               efLowMs := if high then 0 else min 65535 (b.efLowMs + 10) })
  else s

/-- What Spar and the session engine do with a bay's new 1 ms mean (R137, R144, R147, R224, R309): 100 ms are 1,600
samples. -/
def State.supervise (s : State) (n : Nat) : State :=
  if !s.meters n then s
  else
    let s1 := ((s.unlockDue n).settleCount n).efFastCount n
    let c := s1.ctx n
    if c.bridged || c.st = .free then s1
    else if c.st = .stopping && (s1.mbay n).mean1I.natAbs ≤ 5 * 65536 then s1.toOpening n
    else if !outputLive c.st then s1
    else if c.vMax ≠ 0 && c.vMax * 65536 < (s1.mbay n).mean1V.natAbs * 10 then s1.endSess n .outputFault true
    else
      let k := if s1.overNow n then (s1.mbay n).overCur + 1 else 0
      let s2 := s1.modMbay n (fun b => { b with overCur := k })
      if 1600 ≤ k then s2.endSess n .outputFault true else s2

/-- SCALER_SAMPLE (R222 to R226, R236): one sample of every bay. -/
def execScalerSample (codes : List BayCodes) (s : State) : Res :=
  if !s.awake then .next s
  else
    let full := decide (16 ≤ s.scl.fill)
    let s1 := s.sampleAll codes
    .next (if full then ((List.range 8).foldl (fun (a : State) n => a.supervise n) s1).settle else s1)

/-- RANGE_TO_LOW (R227): 1,600 samples below the threshold, and the range is not locked to HIGH. -/
def execRangeToLow (bay : Nat) (s : State) : Res :=
  let b := s.mbay bay
  if s.awake && s.meters bay && !b.low && 1600 ≤ b.lowCnt && !lockedHigh b then
    .next (s.setMbay bay { b with low := true, lowCnt := 0, rangeSw := b.rangeSw + 1 })
  else .next s

/-! ### Checks (R229, R230) -/

/-- Enter MFAULT and take the bay out of service, at once or once its context is FREE (R230). -/
def State.mfault (s : State) (n cause : Nat) : State :=
  if (s.mbay n).mfault then s else (s.mfaultCore n cause).leaveService n

/-- Spar opens a bay whose K1 or K2 is closed: a session ends with FAULT (R229). -/
def State.pathOpens (s : State) (n : Nat) : State := if s.kOn n then s.endBay n .fault true else s

/-- A channel of a bay is enabled in METROMAP (R220). -/
def chanOn (m : MeterCfg) : MChan → Bool
  | .mv => m.mvEn | .mih => m.mihEn | .mil => m.milEn | .me => m.meEn

/-- An earth-current trip: latched, the alarm line held, the session ends with EARTH_CURRENT (R312 to R314). -/
def State.efTripped (s : State) (n : Nat) : State :=
  if (s.imdB n).efAlarm then s
  else
    let s1 := (s.modImdB n (fun b => { b with efAlarm := true, lineHeld := true, alarms := satTo 65535 (b.alarms + 1) })).setEvt 0x0A n
    s1.endBay n .earthCurrent true

/-- `MEn` is lost or restored (R313): with contactors closed a trip, else a measuring fault that lasts until it is back. -/
def State.earthLost (s : State) (n : Nat) (lost : Bool) : State :=
  let s1 := s.modMbay n (fun b => { b with lossE := lost })
  if !lost then s1.modImdB n (fun b => if b.cause = .menLost then { b with measFault := false, cause := .none, lineHeld := b.lineHeld && (b.alarm || b.efAlarm) } else b)
  else if s1.kOn n then s1.efTripped n
  else if (s1.imdB n).measFault then s1
  else (s1.modImdB n (fun b => { b with measFault := true, cause := .menLost, alarms := satTo 65535 (b.alarms + 1) })).setEvt 0x0A (16 + n)

/-- CHANNEL_LOST (R229, R313). -/
def execChannelLost (bay : Nat) (ch : MChan) (s : State) : Res :=
  if !s.awake || 8 ≤ bay || !(s.cBay bay).enabled || !chanOn (s.cMeter bay) ch then .next s
  else match ch with
    | .mv => .next (((s.modMbay bay (fun b => { b with lossV := true })).mfault bay 1).pathOpens bay).settle
    | .mih => .next (((s.modMbay bay (fun b => { b with lossIh := true })).mfault bay 1).pathOpens bay).settle
    | .mil => .next (((s.modMbay bay (fun b => { toHigh b with lossIl := true })).mfault bay 1)).settle
    | .me => .next (s.earthLost bay true).settle

/-- CHANNEL_RESTORED (R229): after 1 s of valid transitions; MFAULT stays (R231). -/
def execChannelRestored (bay : Nat) (ch : MChan) (s : State) : Res :=
  if !s.awake || 8 ≤ bay || !(s.cBay bay).enabled || !chanOn (s.cMeter bay) ch then .next s
  else match ch with
    | .mv => .next (s.modMbay bay (fun b => { b with lossV := false }))
    | .mih => .next (s.modMbay bay (fun b => { b with lossIh := false }))
    | .mil => .next (s.modMbay bay (fun b => { b with lossIl := false }))
    | .me => .next (s.earthLost bay false).settle

/-- A full window's means lie too far apart (R229); the sums are in units of 2^-16 A. -/
def xchkBad (fsIh : Nat) (high low : Int) : Bool := decide (fsIh * 65536 * xchkLen + 10 * low.natAbs < 1000 * (high - low).natAbs)

/-- XCHK_WINDOW (R229): the window of 16,000 samples that ends now is judged; one that does not count changes nothing but
ends. -/
def execXchkWindow (bay : Nat) (s : State) : Res :=
  let b := s.mbay bay
  let e : MBay := { b with xchkN := 0, xchkHi := 0, xchkLo := 0, xchkVoid := false }
  if !s.awake || !s.meters bay || b.xchkN ≠ xchkLen then .next s
  else if b.xchkVoid then .next (s.setMbay bay e)
  else
    let run := if xchkBad (s.cMeter bay).fsIh b.xchkHi b.xchkLo then b.xchkRun + 1 else 0
    if 3 ≤ run then .next ((s.setMbay bay { toHigh e with xchkRun := run, xchkFail := true }).mfault bay 2).settle
    else .next (s.setMbay bay { e with xchkRun := run })

/-- DSP_DEADLINE (R223, R229, R314): the missed sample carries no energy, every bay enters MFAULT, every alarm line stops. -/
def execDspDeadline (s : State) : Res :=
  if !s.awake then .next s
  else .next ((List.range 8).foldl (fun (a : State) n =>
    if (a.cBay n).enabled then
      let a1 := a.modMbay n (fun b => if a.scl.metered then { b with tickGap := b.tickGap + 1, tickN := b.tickN + 1 } else b)
      ((a1.modImdB n (fun b => { b with lineHeld := true })).mfault n 3).pathOpens n
    else a) s).settle

/-! ### The tick -/

/-- A session's import has reached its energy limit, or a record field could pass 2^40 - 1 at the next tick, which
carries at most 12,500 mWh (R142, R485, R486). -/
def State.limitReached (s : State) (k : Nat) : Bool :=
  let c := s.ctx k
  match c.slot, c.recno with
  | some r, some _ =>
    (decide (c.limWh ≠ 0) && decide (c.limWh * 1000 ≤ s.recEnergy r 0))
      || (List.range 8).any (fun t => decide (2 ^ 40 - 1 < s.recTariff r 0 t + 12500) || decide (2 ^ 40 - 1 < s.recTariff r 1 t + 12500))
  | _, _ => false

/-- Sessions that transfer power and have reached a limit stop (R142, R486). -/
def State.energyLimits (s : State) : State :=
  (tkeys s.vlk.ctxs).foldl (fun (a : State) k =>
    let st := (a.ctx k).st
    if (st = .charging || st = .renegotiate) && a.limitReached k then a.endSess k .limit false else a) s

/-- Ten milliseconds of powered time pass for a password lockout; every minute what remains is saved (R339). -/
def State.lockTick (s : State) : State :=
  let f := s.saf
  if f.lockMin = 0 then s
  else if f.lockMs + 10 < 60000 then { s with saf := { f with lockMs := f.lockMs + 10 } }
  else { s with saf := { f with lockMs := 0, lockMin := f.lockMin - 1 } }

/-- The fabric clock's cycles of a tick at 800 MHz, which runs in ACTIVE and FULL (R59, R486). -/
def State.fabTick (s : State) : State := { s with sys := { s.sys with fabCycles := s.sys.fabCycles + (if s.awake then 8000000 else 0) } }

/-- What a tick's passing brings in every power state. -/
def State.passTick (s : State) : State := s.nextBoundary.holdCheck.tickRamps.lockTick.fabTick

/-- What the tick commits while Tally runs: energies, limits, earth-current counters, panel temperatures. -/
def State.commitTick (s : State) : State := ((List.range 8).foldl (fun (a : State) n => a.efTick n) s.commit.energyLimits).panelTemps

/-- TICK_COMMIT (R224, R237, R243, R255, R261, R274, R276, R280): the time base reaches the next 10 ms boundary and, in
ACTIVE and FULL, the tick commits. In IDLE-SITE only time goes on. -/
def execTickCommit (s : State) : Res :=
  if s.sys.inReset then .next s
  else
    let s1 := s.passTick
    if s1.awake && s1.tly.running then .next s1.commitTick.settle else .next s1

/-! ### Pulse test mode (R245, R246) -/

/-- A write of `SCL_PLSm_CFG`: `TEST` is writable in SERVICE alone. -/
def State.pulseCfgWrite (s : State) (m : Nat) (value : Word) : State :=
  if s.key.lc = .service then s.modPulse m (fun p => { p with testDue := some (value.getLsbD 22) }) else s

/-- PULSE_TEST_WRITE. -/
def execPulseTestWrite (m : Nat) (value : Word) (s : State) : Res :=
  if s.sys.inReset || 4 ≤ m then .next s else .next (s.pulseCfgWrite m value)

/-! ### Commands (R247) -/

/-- An SCL command names an enabled local bay; a hub has none (R15, R247). -/
def State.runScl (s : State) (c : Cmd) (opcode bay : Nat) (body : State → Answer) : State :=
  s.runCmd c opcode (fun s => if s.noBays then fail s .state else if 8 ≤ bay || !(s.cBay bay).enabled then fail s .range else body s)

/-- SCL_CAL_READ. -/
def execSclCalRead (c : Cmd) (bay : Nat) (s : State) : Res :=
  .next (s.runScl c 0x0701 bay (fun s =>
    let k := s.calOf bay
    okay s (leInt 4 k.gainV ++ leInt 4 k.offV ++ leInt 4 k.gainIh ++ leInt 4 k.offIh ++ leInt 4 k.gainIl ++ leInt 4 k.offIl ++ leInt 4 k.gainE ++ leInt 4 k.offE
      ++ le 4 k.rCable ++ le 2 s.scl.calCnt)))

/-- A bay has a session: its context is not FREE. -/
def State.bayBusy (s : State) (n : Nat) : Bool := decide ((s.ctx n).st ≠ .free) && !(s.ctx n).bridged

/-- The new calibration applies, with its legal-log entry (R233, R295). -/
def State.calTake (s : State) (bay : Nat) (v : CalVals) : State :=
  let cnt := satTo 65535 (s.scl.calCnt + 1)
  let s1 := { s with scl := { s.scl with cal := tset {} s.scl.cal bay v, calCnt := cnt, calOk := s.scl.calOk ||| (1#8 <<< bay) } }
  s1.legalChange 3 (le 1 bay ++ le 2 cnt ++ digestBytes (s.calOf bay).digest 8 ++ digestBytes v.digest 8)

/-- SCL_CAL_WRITE (R233, R235): in SERVICE with a calibration statement, KIND 17, that names the bay and the values. -/
def execSclCalWrite (c : Cmd) (bay : Nat) (m : KeyMsg) (v : CalVals) (s : State) : Res :=
  .next (s.runScl c 0x0702 bay (fun s =>
    let rest (a : State) : Answer :=
      if a.bayBusy bay then fail s .state
      else if !calValid v then fail s .range
      else if a.changeFull then logFull s
      else okay (a.calTake bay v)
    if s.key.lc = .manufacture then rest s
    else if s.key.lc ≠ .service then fail s .locked
    else match s.checkMsg m [17] [.service] with
      | some e => msgRej s e
      | none => if m.num ≠ bay || m.digest ≠ v.digest then msgRej s .auth else rest (s.storeCtr m)))

/-- SCL_FAULT_CLEAR (R231): `clearMs` is how long every check of the bay has been clear. -/
def execSclFaultClear (c : Cmd) (bay clearMs : Nat) (s : State) : Res :=
  .next (s.runScl c 0x0703 bay (fun s =>
    let b := s.mbay bay
    if s.key.lc ≠ .field && s.key.lc ≠ .service then fail s .locked
    else if !b.mfault || b.lossV || b.lossIh || b.lossIl || b.lossE || !s.scl.calOk.getLsbD bay || clearMs < 1000 || s.bayBusy bay then fail s .state
    else if s.changeFull then logFull s
    else
      let s1 := s.setMbay bay { b with mfault := false, mfCause := 0, xchkFail := false, xchkRun := 0, lockHigh := false }
      let s2 := s1.modImdB bay (fun i => { i with lineHeld := i.lineHeld && (i.alarm || i.measFault || i.efAlarm), lineSeen := i.lineSeen && (i.alarm || i.measFault || i.efAlarm) })
      okay (s2.legalChange 4 (le 1 bay ++ le 1 b.mfCause))))

/-- The calibrated samples of SCL_CAPTURE: voltage, high-range and low-range current in the units of R232. -/
def captureBytes (m : MeterCfg) (k : CalVals) (l : List BayCodes) : List Byte :=
  l.foldl (fun a c => a ++ leInt 4 (calibrate k.gainV k.offV m.fsV 1 (clipped c.v)) ++ leInt 4 (calibrate k.gainIh k.offIh m.fsIh 1 (clipped c.ih))
    ++ leInt 4 (calibrate k.gainIl k.offIl m.fsIh 64 (clipped c.il))) []

/-- SCL_CAPTURE: `codes` are the 1,024 samples from the next one on. -/
def execSclCapture (c : Cmd) (bay dst : Nat) (codes : List BayCodes) (s : State) : Res :=
  .next (s.runScl c 0x0704 bay (fun s =>
    if !dstOk dst 12288 then fail s .range
    else okay (s.writeGen dst (padTo 12288 (captureBytes (s.cMeter bay) (s.calOf bay) (codes.take 1024)))) (le 8 s.now.pack)))

end Sys2Proof.Machine
end

