-- ==== Sys2Proof/Machine/ImdCmd.lean ====
section
/-! DEFINITION. The IMD's events, the alarm lines, and the IMD commands (R303 to R316). -/
namespace Sys2Proof.Machine

/-- A decision of a bay's IMD: its events and what it does to the bay's session (R308, R315). -/
def State.imdActs (s : State) (n : Nat) (acts : List ImdAct) : State := acts.foldl (fun (a : State) x => a.imdAct n x) (s.imdEvents n acts)

/-- The decisions that a following bay takes over: alarm, warning and measuring fault (R311). -/
def followActs (acts : List ImdAct) : List ImdAct := acts.filter (fun a => match a with | .alarm => true | .warn => true | .measFault => true | _ => false)

/-- A bay that follows takes the injecting bay's values and decisions; in its own CABLE_CHECK it counts those values (R309,
R311). -/
def State.imdFollow (s : State) (m n : Nat) (value : Bool) (acts : List ImdAct) : State :=
  let b := s.imdB m
  if b.st = .following && b.groupSrc = n && m ≠ n then
    let b1 := b.follow (s.imdB n)
    let chk := value && decide ((s.ctx m).st = .cableCheck) && (s.ctx m).refOk
    let s0 := s.setImdB m b1
    let r := if chk then b1.cable (s0.imdEnv m) b1.rF b1.cY else (b1, [])
    (s0.setImdB m r.1).imdActs m (followActs acts ++ r.2)
  else s

/-- IMD_HALF_PERIOD (R303 to R311): settled current and residual in nA, τ in 0.1 ms, and whether ±2.0 mA was reached. -/
def execImdHalfPeriod (bay : Nat) (iInf : Int) (residual tau : Nat) (ovr : Bool) (s : State) : Res :=
  let b := s.imdB bay
  if !s.awake || 8 ≤ bay || b.st = .off || b.st = .following then .next s
  else
    let check := decide ((s.ctx bay).st = .cableCheck) && (s.ctx bay).refOk
    let r := b.half (s.imdEnv bay) check iInf residual tau ovr
    let value := decide (b.st ≠ .refCheck) && b.prevI.isSome && decide (r.1.last4.head? = some false)
    let s1 := (s.setImdB bay r.1).imdActs bay r.2
    .next ((List.range 8).foldl (fun (a : State) m => a.imdFollow m bay value r.2) s1).settle

/-- IMD_DRIVER_STUCK (R306): no transitions of the driver current for 2 ms while injecting. -/
def execImdDriverStuck (bay : Nat) (s : State) : Res :=
  let b := s.imdB bay
  if !s.awake || 8 ≤ bay || b.st = .off || b.st = .following || b.measFault then .next s
  else
    let s1 := (s.setImdB bay (b.fault .driver)).imdActs bay [.measFault]
    .next ((List.range 8).foldl (fun (a : State) m => a.imdFollow m bay false [.measFault]) s1).settle

/-- `EF_TRIP` for `EF_DLY`, or `EF_FAST` in two consecutive 1 ms means (R312). -/
def State.efOver (s : State) (n : Nat) : Bool :=
  let b := s.imdB n
  (decide (0 < b.efOverMs) && decide (s.efDly n ≤ b.efOverMs)) || decide (2 ≤ b.efFastN)

/-- Earth current with every contactor of the bay open: above `EF_TRIP` it is a measuring fault that stands until the
current is at or below the level again (R310). -/
def State.standing (s : State) (n : Nat) : State :=
  let b := s.imdB n
  let high := decide (0 < b.efOverMs)
  if high && !b.measFault then
    (s.setImdB n { b with measFault := true, cause := .standing, alarms := satTo 65535 (b.alarms + 1) }).setEvt 0x0A (16 + n)
  else if !high && b.cause = .standing then s.setImdB n { b with measFault := false, cause := .none }
  else s

/-- The earth current of a bay is supervised: `MEn` is enabled and not lost (R312, R313). -/
def State.efOn (s : State) (n : Nat) : Bool := s.awake && decide (n < 8) && (s.cBay n).enabled && (s.cMeter n).meEn && !(s.mbay n).lossE

/-- EARTH_CURRENT_TRIP (R310, R312, R314): the earth current of a bay is judged by the means formed so far. -/
def execEarthCurrentTrip (bay : Nat) (s : State) : Res :=
  if !s.efOn bay then .next s
  else if !s.kOn bay then .next (s.standing bay)
  else if s.efOver bay then .next (s.efTripped bay).settle else .next s

/-- EF_WARNING (R312): above `EF_WARN` for 1 s the warning stands; at or below it for 2 s it clears. -/
def execEfWarning (bay : Nat) (s : State) : Res :=
  let b := s.imdB bay
  if !s.efOn bay || !s.kOn bay then .next s
  else if 1000 ≤ b.efHighMs && !b.efWarn then
    let s1 := (s.setImdB bay { b with efWarn := true }).setEvt 0x0A (8 + bay)
    .next (if s1.localCtx bay && underVoltage (s1.ctx bay).st then s1.sessEvent bay 5 else s1)
  else if 2000 ≤ b.efLowMs then .next (s.setImdB bay { b with efWarn := false })
  else .next s

/-- ALARM_LINE_TIMEOUT (R314): Guyline sees a line that DSP 1 no longer toggles. -/
def execAlarmLineTimeout (bay : Nat) (s : State) : Res :=
  if s.sys.inReset || 8 ≤ bay || !(s.imdB bay).lineHeld || (s.imdB bay).lineSeen then .next s
  else .next (s.modImdB bay (fun b => { b with lineSeen := true })).settle

/-! ### Commands (R316) -/

/-- A bay is enabled, out of service and without a session. -/
def State.bayIdle (s : State) (n : Nat) : Bool := !(s.bay n).inService && !s.bayBusy n

/-- IMD_SELFTEST: the two values in ohm as the reference gives them. -/
def execImdSelftest (c : Cmd) (bay r1 r2 : Nat) (s : State) : Res :=
  .next (s.runCmd c 0x0A01 (fun s =>
    if s.noBays then fail s .state
    else if 8 ≤ bay || !(s.cBay bay).enabled then fail s .range
    else if !s.bayIdle bay then fail s .state
    else if refOk (some (r1 : Int)) && refOk (some (r2 : Int)) then
      okay (s.modImdB bay (fun b => { b with refFailed := false, measFault := b.measFault && decide (b.cause ≠ .ref), cause := if b.cause = .ref then .none else b.cause }))
        (le 4 r1 ++ le 4 r2)
    else
      let b := s.imdB bay
      .done { st := (s.setImdB bay { b with refFailed := true, measFault := true, cause := .ref, alarms := satTo 65535 (b.alarms + 1) }).setEvt 0x0A (16 + bay),
              status := .fault, keep := true }))

/-- IMD_TRIP_TEST: the reaction is measured from DSP 1's last toggle to the fall of Guyline's IMD term; none above 10 ms. -/
def execImdTripTest (c : Cmd) (bay us : Nat) (s : State) : Res :=
  .next (s.runCmd c 0x0A02 (fun s =>
    if s.noBays then fail s .state
    else if s.key.lc ≠ .service then fail s .locked
    else if 8 ≤ bay || !(s.cBay bay).enabled then fail s .range
    else if !s.bayIdle bay then fail s .state
    else if us ≤ 10000 then okay (s.modBay bay (fun b => { b with tripTestBad := false })) (le 4 us)
    else .done { st := s.modBay bay (fun b => { b with tripTestBad := true }), status := .fault, keep := true }))

end Sys2Proof.Machine
end

