-- ==== Sys2Proof/Machine/TallyCmd.lean ====
section
/-! DEFINITION. Tally's mode events and the TLY commands (R252 to R273, R285). -/
namespace Sys2Proof.Machine

/-- LEASE_EXPIRY (R252): the authority's lease has ended. -/
def execLeaseExpiry (s : State) : Res :=
  if s.awake && s.tly.mode = .remote && s.tly.sched.lease ≤ s.tim.sec then .next { s with tly := { s.tly with modeDue := some .recovery } } else .next s

/-- START_MODE_TIMEOUT (R252): 60 s after START was entered, unless REMOTE is already due. -/
def execStartModeTimeout (s : State) : Res :=
  if s.awake && s.tly.mode = .start && s.tly.modeDue.isNone then .next { s with tly := { s.tly with modeDue := some .recovery } } else .next s

/-! ### Tariff-authority messages (R253, R254) -/

/-- Seconds in a day. -/
def daySec : Nat := 86400

/-- The fields of a message are in range (R254 step 5). -/
def State.tlyInRange (s : State) (m : TlyMsgOp) : Bool :=
  let now := s.tim.sec
  decide (1 ≤ m.kind) && decide (m.kind ≤ 3) && decide (now < m.leaseEnd) && decide (m.leaseEnd ≤ now + 31 * daySec)
    && (m.kind ≠ 1 || (decide (1 ≤ m.tariff) && decide (m.tariff ≤ 8) && decide (m.effective ≤ now + 400 * daySec) && decide (s.tly.sched.lastEff ≤ m.effective)))
    && (m.kind ≠ 3 || (decide (now < m.effective) && decide (((m.effective : Int) - s.tim.utcOff - 946684800) % 900 = 0)))

/-- The checks of R254 in order; the life-cycle states come first, for in SERVICE no key is left to verify with. -/
def State.tlyCheck (s : State) (m : TlyMsgOp) : Option Status :=
  if s.key.lc = .service then some .state
  else if s.key.lc ≠ .field then some .locked
  else if m.ver ≠ 1 then some .version
  else if m.devId ≠ s.key.devId then some .auth
  else if !s.authKeyOk || m.signer ≠ (s.slot s.img.cal.authSlot).key then some .auth
  else if m.ctr ≤ s.tly.sched.ctr then some .auth
  else if !s.tlyInRange m then some .range
  else if (m.kind = 1 || m.kind = 3) && 16 ≤ s.tly.sched.queue.length then some .nospace
  else if m.kind = 2 && s.tly.sched.remote.isNone then some .state
  else none

/-- An accepted message (R254): counter, lease, queue, journal, and REMOTE where a remote tariff is known. -/
def State.tlyTake (s : State) (m : TlyMsgOp) : State :=
  let q := s.tly.sched.accepted m
  let s1 : State := { s with tly := { s.tly with sched := q, modeDue := if s.tly.sched.remote.isSome && s.tly.mode ≠ .remote then some .remote
                                                                        else if s.tly.mode = .remote then none else s.tly.modeDue } }
  s1.noteEv { ev := 1, msg := some m }

/-- TLY_MSG (R254). -/
def execTlyMsg (c : Cmd) (m : TlyMsgOp) (s : State) : Res :=
  .next (s.runCmd c 0x0801 (fun s =>
    match s.tlyCheck m with
    | some e => .done { st := s.setEvt 0x08 8, status := e, keep := true }
    | none => okay (s.tlyTake m) (le 1 m.kind ++ le 8 m.ctr)))

/-! ### Records (R269 to R273) -/

/-- The slot that holds a record number now. -/
def State.recOf (s : State) (recno : Nat) : Option Nat :=
  (s.tly.recs.find? (fun p => decide (p.2.recno = recno) && decide (2 ≤ p.2.st.ctorIdx))).map (fun p => p.1)

/-- TLY_REC_READ. -/
def execTlyRecRead (c : Cmd) (recno dst : Nat) (s : State) : Res :=
  .next (s.runCmd c 0x0802 (fun s =>
    match s.recOf recno with
    | none => fail s .range
    | some n =>
      if !dstOk dst 256 then fail s .range
      else okay (s.writeGen dst ((s.rcd n).bytes s.key.devId)) (le 1 (s.rcd n).st.ctorIdx)))

/-- TLY_REC_ACK (R273): every number of the range must still be held; `DETAIL` counts those newly acknowledged. -/
def execTlyRecAck (c : Cmd) (first count : Nat) (s : State) : Res :=
  .next (s.runCmd c 0x0803 (fun s =>
    let held := (List.range count).map (fun i => s.recOf (first + i))
    if count = 0 || 256 < count || held.any (fun h => h.isNone) then fail s .range
    else
      let ns := held.filterMap id
      if ns.any (fun n => (s.rcd n).st = .opened) then fail s .state
      else
        let due := ns.filter (fun n => (s.rcd n).st = .closed)
        let s1 := due.foldl (fun (a : State) n => a.modRcd n (fun r => { r with st := .acked })) s
        .done { st := { s1 with tly := { s1.tly with dirty := s1.tly.dirty || !due.isEmpty } }, detail := due.length }))

/-! ### Registers, readings, profiles (R260, R267, R268, R285) -/

/-- A site argument or site command on a post (R15, R285). -/
def State.isPost (s : State) : Bool := decide (s.img.struct_.role = .post)

/-- The 1,152 octets of TLY_REG_SNAPSHOT. -/
def State.regSnapshot (s : State) : List Byte :=
  (List.range 128).foldl (fun l i => l ++ le 8 (tget 0 s.tly.regs i)) []
    ++ (List.range 16).foldl (fun l i => l ++ le 8 (if s.isPost then 0 else tget 0 s.tly.site i)) []

/-- TLY_REG_SNAPSHOT. -/
def execTlyRegSnapshot (c : Cmd) (dst : Nat) (s : State) : Res :=
  .next (s.runCmd c 0x0804 (fun s =>
    if !dstOk dst 1152 then fail s .range
    else okay (s.writeGen dst s.regSnapshot) (le 4 s.tly.slotSeq ++ le 8 s.tly.lastCommit.pack)))

/-- TLY_READ_SIGNED (R267): an ON_DEMAND reading goes to the destination alone and consumes its `RSEQ`. -/
def execTlyReadSigned (c : Cmd) (bay dst : Nat) (s : State) : Res :=
  .next (s.runCmd c 0x0805 (fun s =>
    if bay = 0xFE && s.isPost then fail s .state
    else if !dstOk dst 256 || !(bay = 0xFE || (decide (bay < 8) && (s.cBay bay).enabled)) then fail s .range
    else if !s.metroSigns then fail s .locked
    else
      let r := s.reading 3 bay {} 0
      okay (r.2.writeGen dst (r.1.bytes s.key.devId))))

/-- TLY_PROFILE_READ. -/
def execTlyProfileRead (c : Cmd) (ch first count dst : Nat) (s : State) : Res :=
  .next (s.runCmd c 0x0806 (fun s =>
    let after (p : Nat × Entry) : Bool := decide (p.2.chan = ch) && decide ((p.2.seq + 2 ^ 32 - first) % 2 ^ 32 < 2 ^ 31)
    let high := s.tly.stored.filter (fun p => after p && decide (entryKey ch first ≤ p.1))
    let wrapped := s.tly.stored.filter (fun p => after p && decide (p.1 < entryKey ch first))
    let l := ((high ++ wrapped).take count).map (fun p => p.2)
    if 16 ≤ ch || (s.source ch).1 = 0 || count = 0 || 4096 < count || !dstOk dst (24 * count) || l.isEmpty then fail s .range
    else
      let at0 := match l with | e :: _ => e.seq | [] => first
      okay (s.writeGen dst (l.foldl (fun a e => a ++ e.bytes) [])) (le 2 l.length ++ le 4 at0)))

/-- TLY_SR_READ. -/
def execTlySrRead (c : Cmd) (first count dst : Nat) (s : State) : Res :=
  .next (s.runCmd c 0x0807 (fun s =>
    let l := ((s.tly.readings.filter (fun p => decide (first ≤ p.1))).take count).map (fun p => p.2)
    if count = 0 || 64 < count || !dstOk dst (256 * count) || l.isEmpty then fail s .range
    else okay (s.writeGen dst (l.foldl (fun a r => a ++ r.bytes s.key.devId) [])) (le 2 l.length)))

/-- TLY_CEIL_SET (R264). -/
def execTlyCeilSet (c : Cmd) (watts : Word) (s : State) : Res :=
  .next (s.runCmd c 0x0808 (fun s =>
    if s.isPost then fail s .state else okay { s with tly := { s.tly with pNext := some watts.toNat } }))

/-- TLY_MD_READ (R263). -/
def execTlyMdRead (c : Cmd) (s : State) : Res :=
  .next (s.runCmd c 0x0809 (fun s =>
    if s.isPost then fail s .state
    else okay s (le 2 s.tly.period ++ (List.range 8).foldl (fun l t => l ++ le 4 (tget (0, 0) s.tly.md t).1) [])))

end Sys2Proof.Machine
end

