-- ==== Sys2Proof/Machine/SafetyCmd.lean ====
section
/-! DEFINITION. Guyline's and Spar's events and the SAF commands (R317 to R329, R337 to R344). -/
namespace Sys2Proof.Machine

/-! ### Loss of a channel (R320 to R323, R63) -/

/-- SAFE_CLOCK_LOSS: Guyline trips every enable, the safe state ends every session; only a reset recovers. -/
def execSafeClockLoss (s : State) : Res :=
  if s.sys.inReset then .next s
  else .next ({ s with saf := { s.saf with safeClk := false } }.guard.endAllSafe).settle

/-- HEARTBEAT_LINE_TIMEOUT: no toggle of Spar's heartbeat for 3 ms. -/
def execHeartbeatLineTimeout (s : State) : Res :=
  if s.sys.inReset then .next s
  else .next ({ s with saf := { s.saf with heartbeat := false } }.guard.endAllSafe).settle

/-- SPAR_DIAGNOSTIC: a diagnostic of R322's table by its cause, with the output or input concerned. -/
def execSparDiagnostic (cause detail : Nat) (pass : Bool) (s : State) : Res :=
  if s.sys.inReset || s.saf.spar ≠ .run || pass || cause = 0 || 7 < cause then .next s
  else .next (s.safeStop cause (if cause = 4 || cause = 6 || cause = 7 then detail % 64 else 0x3F)).settle

/-- GATE_TEST: a gate forced off and released again while its request is low. -/
def execGateTest (j : Nat) (pass : Bool) (s : State) : Res :=
  if s.sys.inReset || s.saf.spar ≠ .run || !s.gated j || (s.gate j).req then .next s
  else if pass then .next (s.modGate j (fun g => { g with tested := true, testDue := false })).settle
  else .next ((s.modGate j (fun g => { g with tested := false })).safeStop 7 j).settle

/-- GATE_TEST_OVERDUE: 48 h without a test. -/
def execGateTestOverdue (j : Nat) (s : State) : Res :=
  if s.sys.inReset || !s.gated j then .next s else .next (s.modGate j (fun g => { g with testDue := true }))

/-! ### Safety inputs (R324 to R329) -/

/-- Latch TRIP for an input that is in demand and not latched yet. -/
def State.tripOne (s : State) (i : Nat) : State := if s.inDemand i then s.latchTrip i else s

/-- SAFETY_INPUT_DEMAND: an input has stood open, or closed again, for the filter time (R326). -/
def execSafetyInputDemand (input : Nat) (opened : Bool) (s : State) : Res :=
  if !s.saf.tpRun || 16 ≤ input then .next s
  else .next ((s.modSin input (fun x => { x with isOpen := opened })).tripOne input).settle

/-- What one pulse of TPO `k` shows of an input: stuck high in its own TPO's pulse, or a cross short in another's, at two
consecutive pulses (R327); a good check counts towards clearing a FAULT (R328). -/
def State.pulseSeen (s : State) (k i : Nat) (stuck cross : Bool) : State :=
  let v := s.inPar i
  let x := s.sin i
  if !pulsedMode (siMode v) then s
  else if siTpo v = k then
    (if stuck then
      let s1 := s.setSin i { x with stuckRun := x.stuckRun + 1, passRun := 0 }
      if 1 ≤ x.stuckRun then s1.latchFault i .stuckHigh else s1
    else s.setSin i { x with stuckRun := 0, passRun := x.passRun + 1 })
  else if cross then
    let s1 := s.setSin i { x with crossBy := x.crossBy ||| (1#4 <<< k), passRun := 0 }
    if x.crossBy.getLsbD k then s1.latchFault i .crossShort else s1
  else s.setSin i { x with crossBy := x.crossBy &&& ~~~ (1#4 <<< k) }

/-- TEST_PULSE: the pulse of TPO `k`. `readLow`: the TPO reads low while driven high; `readHigh`: high in its pulse. Bit i
of `high`: input i reads high 0.4 ms into the pulse; of `cross`: low in the pulse and high on both sides of it. -/
def execTestPulse (k : Nat) (readLow readHigh : Bool) (high cross : BitVec 16) (s : State) : Res :=
  if !s.saf.tpRun || 4 ≤ k then .next s
  else
    let bad := readLow || readHigh
    let s1 := if bad then { s with saf := { s.saf with tpoFlt := s.saf.tpoFlt ||| (1#4 <<< k) } } else s
    let s2 := (List.range 16).foldl (fun (a : State) i => a.pulseSeen k i (high.getLsbD i) (cross.getLsbD i)) s1
    let s3 := (List.range 16).foldl (fun (a : State) i =>
      if bad && pulsedMode (siMode (a.inPar i)) && siTpo (a.inPar i) = k then a.latchFault i .none else a) s2
    .next s3.settle

/-- The two inputs of a pair disagree: equal contacts read alike, an antivalent pair's apart (R327). -/
def State.disagree (s : State) (p : Nat) : Bool :=
  let m := siMode (s.inPar (2 * p))
  pairMode m && ((s.sin (2 * p)).isOpen != (s.sin (2 * p + 1)).isOpen) == decide (m ≠ .pairAnti)

/-- DISCREPANCY_TIMEOUT: the pair has disagreed for longer than its discrepancy time. -/
def execDiscrepancyTimeout (pair : Nat) (s : State) : Res :=
  if !s.saf.tpRun || 8 ≤ pair || !s.disagree pair then .next s
  else .next ((s.latchFault (2 * pair) .discrepancy).latchFault (2 * pair + 1) .discrepancy).settle

/-- Clear the TRIP of an input or its pair. -/
def State.clearTrip (s : State) (i : Nat) : State := (s.siGroup i).foldl (fun (a : State) k => a.modSin k (fun x => { x with trip := false })) s

/-- TRIP_AUTO_CLEAR: 100 ms out of demand under AUTO (R328). -/
def execTripAutoClear (input : Nat) (s : State) : Res :=
  if !s.saf.tpRun || 16 ≤ input || !(s.sin input).trip || s.inDemand input || siReset (s.govPar input) ≠ .auto then .next s
  else .next (s.clearTrip input).settle

/-- RESET_BUTTON_RELEASE: the button was pressed for `ms`; `clearMs` gives for how long each input has been out of demand (R328). -/
def execResetButtonRelease (input ms : Nat) (clearMs : Tab Nat) (s : State) : Res :=
  if !s.saf.tpRun || 16 ≤ input || siMode (s.inPar input) ≠ .reset || (s.sin input).fault || ms < 100 || 2000 < ms then .next s
  else
    .next ((List.range 16).foldl (fun (a : State) i =>
      let v := a.govPar i
      if demandMode (siMode (a.inPar i)) && siReset v = .button && siButton v = input && (a.sin i).trip && !a.inDemand i && 100 ≤ tget 0 clearMs i then
        a.clearTrip i else a) s).settle

/-- SO_DARK_PULSE: an output that is on is switched off and read back; two disagreements in a row set RB_FLT (R329). -/
def execSoDarkPulse (m : Nat) (readOk : Bool) (s : State) : Res :=
  let g := s.gate (32 + m)
  if !s.saf.tpRun || 4 ≤ m || !g.req || !g.en || outNoDark (s.outPar (32 + m)) then .next s
  else if readOk then .next (s.setGate (32 + m) { g with rbOnce := false })
  else if g.rbOnce then .next (s.setGate (32 + m) { g with rbFlt := true }).settle
  else .next (s.setGate (32 + m) { g with rbOnce := true })

/-! ### Password (R338 to R340) -/

/-- A parameter session closes; what it staged is discarded. -/
def State.pwdClose (s : State) : State := { s with saf := { s.saf with pwdSide := none, staged := [] } }

/-- PWD_SESSION_TIMEOUT: 10 minutes after its last SAF command. -/
def execPwdSessionTimeout (s : State) : Res := .next s.pwdClose

/-- LOCKOUT_EXPIRY: the powered time of a lockout has passed. -/
def execLockoutExpiry (s : State) : Res :=
  if s.sys.inReset then .next s else .next { s with saf := { s.saf with lockMin := 0, lockMs := 0 } }

/-- A password of R338: 8 to 32 characters from 0x20 to 0x7E. -/
def pwdOk (p : List Byte) : Bool := decide (8 ≤ p.length) && decide (p.length ≤ 32) && p.all (fun b => decide (0x20 ≤ b.toNat) && decide (b.toNat ≤ 0x7E))

/-- Minutes of the lockout that follows `n` others: 15, doubling up to 15,360 (R339). -/
def lockoutMin (n : Nat) : Nat := min 15360 (15 * 2 ^ n)

/-- A wrong password: the fifth in a row starts a lockout (R339). -/
def State.pwdWrong (s : State) : State :=
  let f := s.saf
  let f1 : Saf := if f.fails < 4 then { f with fails := f.fails + 1 }
    else { f with fails := 0, lockMin := lockoutMin f.lockouts, lockMs := 0, lockouts := min 15 (f.lockouts + 1) }
  { s with saf := f1 }.setEvt 0x0B 5

/-- SAF commands that change parameters, password or log run in FIELD and SERVICE (R344). -/
def State.runSaf (s : State) (c : Cmd) (opcode : Nat) (body : State → Answer) : State :=
  s.runSettle c opcode (fun s => if s.key.lc ≠ .field && s.key.lc ≠ .service then fail s .locked else body s)

/-- SAF_PWD_OPEN. -/
def execSafPwdOpen (c : Cmd) (pwd : List Byte) (s : State) : Res :=
  .next (s.runSaf c 0x0B01 (fun s =>
    if s.saf.lockMin ≠ 0 then fail s .locked
    else if s.saf.pwdSide.isSome && s.saf.pwdSide ≠ some c.side then fail s .state
    else if s.saf.password.map (fun p => p.2) = some pwd then okay { s with saf := { s.saf with pwdSide := some c.side, fails := 0, lockouts := 0 } }
    else .done { st := s.pwdWrong, status := .auth, keep := true }))

/-- SAF_PWD_CLOSE. -/
def execSafPwdClose (c : Cmd) (s : State) : Res :=
  .next (s.runCmd c 0x0B02 (fun s => if s.saf.pwdSide = some c.side then okay s.pwdClose else fail s .state))

/-- Write a change-log entry that names no parameter, at the present parameter set (R341). -/
def State.safNote (s : State) (kind sd : Nat) (old new : Nat) : State :=
  let crc := paramCrc s.saf.params
  s.safLogPut { kind := kind, flags := sideFlags sd, old := BitVec.ofNat 64 old, new := BitVec.ofNat 64 new, crcOld := crc, crcNew := crc }

/-- A new password takes a new random salt (R338). -/
def State.newPassword (s : State) (pwd : List Byte) : State :=
  { s.draw.2 with saf := { s.saf with password := some (s.draw.1, pwd) } }

/-- SAF_PWD_CHANGE. -/
def execSafPwdChange (c : Cmd) (pwd : List Byte) (s : State) : Res :=
  .next (s.runSaf c 0x0B07 (fun s =>
    if s.saf.pwdSide ≠ some c.side then fail s .state
    else if !pwdOk pwd then fail s .range
    else if s.safRoom = 0 then fail s .logfull
    else
      let s1 := s.safNote 6 c.side.ctorIdx 0 0
      okay (s1.newPassword pwd)))

/-- SAF_PWD_RESET: a service-key statement of KIND 20 in SERVICE; the lockout ends (R342, R344, R447). -/
def execSafPwdReset (c : Cmd) (m : KeyMsg) (pwd : List Byte) (s : State) : Res :=
  .next (s.runCmd c 0x0B08 (fun s =>
    match s.checkMsg m [20] [.service] with
    | some e => msgRej s e
    | none =>
      if !pwdOk pwd then fail s .range
      else if s.safRoom = 0 then fail s .logfull
      else
        let s1 := (s.storeCtr m).safNote 7 c.side.ctorIdx 0 0
        okay ({ s1 with saf := { s1.saf with fails := 0, lockouts := 0, lockMin := 0, lockMs := 0 } }.newPassword pwd)))

/-! ### Parameters (R337, R340) -/

/-- SAF_PARAM_READ: the parameters in ID order from the first ID; each pair as 2 octets of ID and 8 of value. -/
def execSafParamRead (c : Cmd) (first count dst : Nat) (s : State) : Res :=
  .next (s.runCmd c 0x0B03 (fun s =>
    let l := (s.saf.params.filter (fun p => decide (first ≤ p.1))).take count
    if count = 0 || 256 < count || !dstOk dst (10 * count) || !hasParam s.saf.params first || l.length < count then fail s .range
    else okay (s.writeGen dst (l.foldl (fun b p => b ++ le 2 p.1 ++ le 8 (p.2.getD 0).toNat) []))
      (le 4 (paramCrc s.saf.params).toNat ++ le 1 s.saf.unconfirmed.toNat)))

/-- Stage a pair; a second value for an ID replaces the first. -/
def stage (l : List (Nat × DWord)) (p : Nat × DWord) : List (Nat × DWord) := l.filter (fun q => q.1 ≠ p.1) ++ [p]

/-- SAF_PARAM_SET. -/
def execSafParamSet (c : Cmd) (pairs : List (Nat × DWord)) (s : State) : Res :=
  .next (s.runSaf c 0x0B04 (fun s =>
    let l := pairs.foldl stage s.saf.staged
    if s.saf.pwdSide ≠ some c.side then fail s .state
    else if pairs.length = 0 || 4 < pairs.length || !pairs.all (fun p => hasParam s.saf.params p.1 && paramInRange p.1 p.2.toNat) then fail s .range
    else if 256 < l.length then fail s .nospace
    else okay { s with saf := { s.saf with staged := l } }))

/-- A gated output that a parameter affects, given its old and new map (R340). -/
def State.affectsOut (s : State) (get : Nat → Nat) (id j : Nat) : Bool :=
  let masks := [s.outPar j, get (0x40 + j)]
  let bays := (if j < 32 then (s.bayOfK j).toList else []) ++ (masks.filter (fun v => outImd v || outLock v)).map outBay
  if 0x10 ≤ id && id < 0x20 then
    let i := id - 0x10
    masks.any (fun v => decide (field (outMask v) i 1 = 1) || decide (field (outMask v) (i + 1 - 2 * (i % 2)) 1 = 1)) || bays.any (fun n => decide ((s.cBay n).siLock = i))
  else if 0x40 ≤ id && id < 0x64 then decide (id = 0x40 + j)
  else if 0x80 ≤ id && id < 0x88 then bays.contains (id - 0x80)
  else if 0x90 ≤ id && id < 0x98 then bays.contains (id - 0x90)
  else if 0x100 ≤ id && id < 0x500 then masks.any (fun v => decide (outRemote v ≠ 0) && decide (outConn v = id - 0x100))
  else false

/-- A gated output is off: Spar does not request it and its channel does not conduct. -/
def State.outOff (s : State) (j : Nat) : Bool := !(s.gate j).req && (decide (32 ≤ j) || !chConducts (s.chan j).st)

/-- A whole set of parameters is valid (R305, R312, R325, R332, R340). -/
def State.setOk (s : State) (t : Tab (Option DWord)) : Bool :=
  paramsOk (fun i => ((tget none t i).getD 0).toNat) && isoOk s.img.bays t && efOk s.img.metro t
    && t.all (fun p => paramInRange p.1 (p.2.getD 0).toNat)

/-- The staged parameters that differ from the set in force. -/
def State.changed (s : State) : List (Nat × DWord) := s.saf.staged.filter (fun p => decide (tget none s.saf.params p.1 ≠ some p.2))

/-- Write a commit: its entries, then the parameters, UNCONFIRMED (R340 step 3). -/
def State.paramCommit (s : State) (sd : Nat) (t : Tab (Option DWord)) (outs : List Nat) : State :=
  let crc := paramCrc s.saf.params
  let entry (p : Nat × DWord) : SafLog :=
    { kind := 1, flags := sideFlags sd, paramId := p.1, count := s.changed.length, old := (tget none s.saf.params p.1).getD 0, new := p.2,
      crcOld := crc, crcNew := paramCrc t }
  let s1 := s.changed.foldl (fun (a : State) p => a.safLogPut (entry p)) s
  let s2 : State := { s1 with saf := { s1.saf with params := t, staged := [], unconfirmed := true, affected := outs } }
  ((List.range 16).foldl (fun (a : State) i => a.tripOne i) s2.applyPointParams).setEvt 0x0B 4

/-- SAF_PARAM_COMMIT. -/
def execSafParamCommit (c : Cmd) (s : State) : Res :=
  .next (s.runSaf c 0x0B05 (fun s =>
    let t := s.changed.foldl (fun t p => tset none t p.1 (some p.2)) s.saf.params
    let get (i : Nat) : Nat := ((tget none t i).getD 0).toNat
    let new := (List.range 36).filter (fun j => s.gated j && s.changed.any (fun p => s.affectsOut get p.1 j))
    let outs := (List.range 36).filter (fun j => new.contains j || (s.saf.unconfirmed && s.saf.affected.contains j))
    if s.saf.pwdSide ≠ some c.side then fail s .state
    else if !s.setOk t then fail s .range
    else if !new.all (fun j => s.outOff j) then fail s .state
    else if s.safRoom < s.changed.length + 1 then fail s .logfull
    else okay (s.paramCommit c.side.ctorIdx t outs) (le 4 (paramCrc t).toNat)))

/-- SAF_PARAM_CONFIRM. -/
def execSafParamConfirm (c : Cmd) (crc : Word) (s : State) : Res :=
  .next (s.runSaf c 0x0B06 (fun s =>
    if s.saf.pwdSide ≠ some c.side || !s.saf.unconfirmed then fail s .state
    else if crc ≠ paramCrc s.saf.params then fail s .range
    else if s.safRoom = 0 then fail s .logfull
    else
      let s1 := s.safNote 5 c.side.ctorIdx 0 0
      okay ({ s1 with saf := { s1.saf with unconfirmed := false, affected := [] } }.setEvt 0x0B 4)))

/-! ### Log, trips and connections (R341 to R344) -/

/-- SAF_LOG_READ. -/
def execSafLogRead (c : Cmd) (first count dst : Nat) (s : State) : Res :=
  .next (s.runCmd c 0x0B09 (fun s =>
    let l := (s.saf.log.filter (fun p => decide (first ≤ p.1))).take count
    if count = 0 || 256 < count || !dstOk dst (64 * count) || s.saf.last < first then fail s .range
    else okay (s.writeGen dst (l.foldl (fun b p => b ++ p.2.bytes p.1) [])) (le 2 l.length)))

/-- SAF_LOG_ARCHIVE: a service-key statement of KIND 19 frees the entries up to its `CSEQ` (R342). -/
def execSafLogArchive (c : Cmd) (m : KeyMsg) (s : State) : Res :=
  .next (s.runCmd c 0x0B0A (fun s =>
    match s.checkMsg m [19] [.field, .service] with
    | some e => msgRej s e
    | none =>
      if m.num ≤ s.saf.archived || s.saf.last < m.num then msgRej s .range
      else
        let s1 := s.storeCtr m
        let s2 : State := { s1 with saf := { s1.saf with archived := m.num } }
        okay (s2.safNote 8 c.side.ctorIdx m.num m.ctr) (le 4 m.num)))

/-- A named input may be reset (R328): its fault condition has been absent for 1 s with two good pulse checks, it is out
of demand but for the faults named with it, and has been for 100 ms. -/
def State.mayReset (s : State) (inputs : BitVec 16) (clearMs : Tab Nat) (i : Nat) : Bool :=
  let x := s.sin i
  let ms := tget 0 clearMs i
  let free := (List.range 16).foldl (fun (a : State) k => if inputs.getLsbD k then a.modSin k (fun y => { y with fault := false }) else a) s
  (!x.fault || (decide (1000 ≤ ms) && (!pulsedMode (siMode (s.inPar i)) || decide (2 ≤ x.passRun)) && !s.disagree (i / 2))) &&
  (!demandMode (siMode (s.inPar i)) || (!free.inDemand i && decide (100 ≤ ms)))

/-- Reset one named input: a FAULT, or without one a TRIP under COMMAND. -/
def State.resetInput (s : State) (i : Nat) : State :=
  if (s.sin i).fault then s.modSin i (fun x => { x with fault := false, cause := .none, stuckRun := 0, crossBy := 0 })
  else if (s.sin i).trip && siReset (s.govPar i) = .command && !s.inDemand i then s.clearTrip i else s

/-- SAF_TRIP_RESET: `clearMs` gives for how long each input has been out of demand and free of its fault condition. -/
def execSafTripReset (c : Cmd) (inputs : BitVec 16) (sos : BitVec 4) (clearMs : Tab Nat) (s : State) : Res :=
  .next (s.runSettle c 0x0B0B (fun s =>
    let named := (List.range 16).filter (fun i => inputs.getLsbD i)
    if !named.all (fun i => s.mayReset inputs clearMs i) then fail s .state
    else
      let trips := named.filter (fun i => !(s.siGroup i).any (fun k => (s.sin k).fault))
      let s1 := (named.filter (fun i => (s.sin i).fault)).foldl (fun (a : State) i => a.resetInput i) s
      let s2 := trips.foldl (fun (a : State) i => a.resetInput i) s1
      okay ((List.range 4).foldl (fun (a : State) m => if sos.getLsbD m then a.modGate (32 + m) (fun g => { g with rbFlt := false, rbOnce := false }) else a) s2)))

/-- SAF_HINGE_INFO: direction in bit 7 of the state byte (assumption 10). -/
def execSafHingeInfo (c : Cmd) (index : Nat) (s : State) : Res :=
  .next (s.runCmd c 0x0B0C (fun s =>
    let k := s.cConn index
    let h := s.conn index
    if 1023 < index || !k.used then fail s .range
    else okay s (le 4 k.connId ++ le 1 (128 * k.tx.toNat + h.st.ctorIdx) ++ le 1 h.ver ++ le 2 h.seq.toNat ++ le 4 h.lost.toNat ++ le 4 h.seqErr.toNat
      ++ le 4 h.texpErr.toNat ++ le 4 h.idErr.toNat ++ le 4 h.crcErr.toNat ++ le 4 h.timeouts.toNat)))

end Sys2Proof.Machine
end

