-- ==== Sys2Proof/Machine/SkidlineCmd.lean ====
section
/-! DEFINITION. The meanings of Skidline's events and commands, but for a received frame, which may carry Hinge
(R386 to R401). -/
namespace Sys2Proof.Machine

/-- Skidline can transmit (R378, R399). -/
def State.sklLive (s : State) : Bool := s.awake && s.skl.run

/-- ACK_SEND (R387): the due acknowledgement starts at a count of the SKID clock, with a `CTR` of its link. On a stopped
link it is a transmit failure (R396). -/
def execAckSend (start : Nat) (s : State) : Res :=
  match s.skl.ackDue with
  | some d =>
    if s.sklLive && !s.skl.orphan then
      let s0 := { s with skl := { s.skl with ackDue := none, busy := s.skl.ackWait.isSome } }
      if s.sklStopped d.1 then .next s0.sklFailed
      else if (s.sklKey s.skl.epoch).isNone then .next s0
      else .next ({ s0 with skl := { s0.skl with mseq := (s.skl.mseq + 1) % 65536 } }.sklOut start
        { typ := .ack, noFwd := true, dst := d.1, orig := s.sklAddr, final := d.1, mseq := s.skl.mseq, ackCtr := d.2 })
    else .next s
  | none => .next s

/-- ACK_INTERVAL_EXPIRY (R387, R388): no ACK counts as a failed attempt; the sender then skips a number of windows below
2^k after failed attempt k, of which the row names one at random; after its last retry the frame is dropped. -/
def execAckIntervalExpiry (skip : Nat) (s : State) : Res :=
  match s.skl.ackWait.bind (fun id => s.skl.txq.find? (fun g => g.id = id)) with
  | some f =>
    let dst := match f.sent with | some d => d.1 | none => everyone
    let s1 := { s with skl := { s.skl with ackWait := none, busy := false } }.sklAttempt dst false
    if sklRetries f.cls < f.attempts then .next (s1.sklDrop f)
    else .next { s1 with skl := { s1.skl with txq := s1.skl.txq.map (fun g => if g.id = f.id then { g with skip := skip % 2 ^ f.attempts, win := none } else g) } }
  | none => .next { s with skl := { s.skl with ackDue := none, busy := false } }

/-- The class a slot belongs to (R388). -/
def slotClass (slot : Nat) : SklClass := if slot = 0 then .alarm else if slot ≤ 3 then .control else .bulk

/-- The count of the SKID clock at which a slot of a window starts, from the count at which the medium went idle (R386). -/
def slotStart (planW : Bool) (idle window slot : Nat) : Nat :=
  if planW then idle + 61440 + (16 * window + slot) * 6144 else idle + 1044480 + (16 * window + slot) * 23040

/-- SKIDLINE_TX_SLOT (R386, R388): the slot chosen for an attempt comes, `slot` of a window since the medium went idle;
a preamble sensed since the window began, a busy medium or the pause after a frame of this node's own holds the frame.
A frame that skips windows counts this one. -/
def execSkidlineTxSlot (idle window slot : Nat) (sensed : Bool) (s : State) : Res :=
  let start := slotStart s.img.skl.planW idle window slot
  if s.sklLive && !sensed && !s.skl.busy && decide (slot < 16) && decide (s.skl.pauseTo ≤ start) then
    match s.sklPick (slotClass slot) with
    | some f =>
      if f.win = some (idle, window) then .next s
      else if f.skip = 0 then .next (s.sklTransmit start f)
      else .next { s with skl := { s.skl with txq := s.skl.txq.map (fun g =>
        if g.id = f.id then { g with skip := g.skip - 1, win := some (idle, window) } else g) } }
    | none => .next s
  else .next s

/-- FRAME_LIFETIME_EXPIRY (R388). -/
def execFrameLifetimeExpiry (id : Nat) (s : State) : Res :=
  match s.skl.txq.find? (fun f => f.id = id) with
  | some f => .next (s.sklDrop f)
  | none => .next s

/-- ALARM_FORCED (R389): after 2 s of a busy medium a waiting ALARM frame goes at once, without sensing. -/
def execAlarmForced (start : Nat) (s : State) : Res :=
  if s.sklLive then
    match s.sklPick .alarm with
    | some f => .next ((s.sklTransmit start f).setEvt 0x0E 7)
    | none => .next s
  else .next s

/-- ROUTE_BROADCAST (R392): one ROUTE frame in BULK for all neighbours. -/
def execRouteBroadcast (s : State) : Res :=
  if s.sklLive then .next (s.sklOwn { cls := .bulk, typ := .route, final := everyone, ackReq := false, noFwd := true, route := s.sklSelf })
  else .next s

/-- PATH_SEND (R393): a PATH frame for the coordinator. -/
def execPathSend (s : State) : Res :=
  if s.sklLive && !s.img.skl.coord && !s.skl.orphan then .next (s.sklOwn { cls := .control, typ := .path, final := 0, ackReq := true, route := s.sklSelf })
  else .next s

/-- ROUTE_ENTRY_EXPIRY (R393): a downward entry ends. -/
def execRouteEntryExpiry (node : Nat) (s : State) : Res :=
  .next { s with skl := { s.skl with routes := tset 0 s.skl.routes node 0 } }

/-- EPOCH_ACTIVATION (R396): this node sends under the announced epoch, with every counter from 1, and still accepts
the one before. -/
def execEpochActivation (s : State) : Res :=
  if s.skl.run && s.skl.actTime ≠ 0 then
    .next { s with skl := { s.skl with prevEpoch := some s.skl.epoch, epoch := s.skl.nextEpoch, actTime := 0, ctrs := [] } }
  else .next s

/-- OLD_EPOCH_EXPIRY (R396): the previous epoch is no longer accepted. -/
def execOldEpochExpiry (s : State) : Res :=
  match s.skl.prevEpoch with
  | some e => .next { s with skl := { s.skl with prevEpoch := none, windows := s.skl.windows.filter (fun p => p.1 / 2 ^ 32 ≠ e) } }
  | none => .next s

/-- The longest application payload (R401). -/
def sklMaxPay (planW : Bool) : Nat := if planW then 737 else 161

/-- SKL_SEND (R401). -/
def execSklSend (c : Cmd) (final cls : Nat) (payload : List Byte) (s : State) : Res :=
  .next (s.runCmd c 0x0E01 (fun s =>
    if !s.skl.run then fail s .state
    else if (4095 < final && final ≠ everyone) || !(cls = 1 || cls = 2) || payload.length = 0 || sklMaxPay s.img.skl.planW < payload.length then fail s .range
    else if s.skl.orphan || (match s.sklHop final with | some h => s.sklStopped h | none => false) then fail s .state
    else if 32 ≤ s.skl.txq.length then fail s .nospace
    else
      let id := s.skl.nextTx
      let f : TxFrame := { cls := if cls = 1 then .control else .bulk, final := final, ackReq := decide (final ≠ everyone), payload := payload }
      if (s.sklHop final).isNone then .done { st := s.sklFailed, status := .timeout, keep := true }
      else .wait (.sklFrame id) (s.sklOwn f)))

/-- An application frame as SKL_RX_READ copies it (R401). -/
def AppFrame.bytes (f : AppFrame) : List Byte :=
  le 2 f.orig ++ le 1 f.cls.ctorIdx ++ le 1 f.hops ++ le 1 f.snr ++ le 1 0 ++ le 2 f.payload.length ++ le 8 f.time.pack ++ f.payload

/-- SKL_RX_READ (R401). -/
def execSklRxRead (c : Cmd) (count dst : Nat) (s : State) : Res :=
  .next (s.runCmd c 0x0E02 (fun s =>
    if !s.skl.run then fail s .state
    else if count = 0 || 16 < count || !dstOk dst (768 * count) then fail s .range
    else
      let l := s.skl.appq.take count
      let s1 := (l.zip (List.range l.length)).foldl (fun a p => a.writeGen (dst + 768 * p.2) p.1.bytes) s
      okay { s1 with skl := { s1.skl with appq := s.skl.appq.drop count } } (le 4 l.length)))

/-- SKL_NODE_READ (R401). -/
def execSklNodeRead (c : Cmd) (node : Nat) (s : State) : Res :=
  .next (s.runCmd c 0x0E03 (fun s =>
    let n := s.sklNode node
    if n = {} then fail s .range
    else okay s (le 2 n.parent ++ le 1 n.hops ++ le 2 n.cost ++ le 1 (linkCost n) ++ le 1 n.costFrom ++ le 1 n.verLo ++ le 1 n.verHi ++ le 8 n.heard.pack)))

/-- SKL_REKEY (R396, R401). -/
def execSklRekey (c : Cmd) (time : Nat) (s : State) : Res :=
  .next (s.runCmd c 0x0E04 (fun s =>
    let e := (s.skl.epoch + 1) % 256
    if !s.skl.run || !s.img.skl.coord || (s.sklKey e).isNone then fail s .state
    else if time < s.tim.sec + 60 || s.tim.sec + 604800 < time then fail s .range
    else okay { s with skl := { s.skl with nextEpoch := e, actTime := time } }))

end Sys2Proof.Machine
end

