-- ==== Sys2Proof/Machine/HingeCmd.lean ====
section
/-! DEFINITION. Hinge's frames, timeouts and sending, what delivered payloads do, and a received Skidline frame, which may
carry a Hinge frame (R16, R151, R152, R215, R216, R272, R331 to R336). -/
namespace Sys2Proof.Machine

/-- Hinge runs while Spar is live (R335). -/
def State.hingeLive (s : State) : Bool := !s.sys.inReset && decide (s.saf.spar = .run)

/-! ### Remote signals (R147, R334, R336) -/

/-- Drop one output under remote demand on connection `c` and end the session it affects. -/
def State.remoteDrop (s : State) (c : Nat) (r : EndReason) (j : Nat) : State :=
  if s.gated j && (s.gate j).req && decide (outConn (s.outPar j) = c) && s.remoteDemand j then
    let s1 := s.dropReq j
    match (if j < 32 then s.bayOfK j else none), (if j < 32 then s.bayOfLock j else none) with
    | some n, _ => s1.endBay n r true
    | none, some n => s1.endBay n r true
    | none, none => s1
  else s

/-- Every output mapped to a connection's signals. The reasons are fixed before any request falls. -/
def State.remoteAll (s : State) (c : Nat) (r : EndReason) : State :=
  (List.range 36).foldl (fun (a : State) j => a.remoteDrop c r j) s

/-! ### Timeouts (R334) -/

/-- The outlets whose client sends its REQUESTs on a connection: theirs names its reverse (R215, R332). -/
def State.clientNodes (s : State) (c : Nat) : List Nat :=
  (s.yOf .outlet).filter (fun n => match (s.cNode n).conn with | some q => decide ((s.cConn q).paired = c) | none => false)

/-- A record taken over closes with TAKEOVER (R28). -/
def State.orphanClose (s : State) (x : Nat × Nat) : State :=
  ({ s with net := { s.net with orphans := s.net.orphans.filter (fun y => y ≠ x) } }).recClose x.1 .takeover s.now false false 0

/-- The records taken over whose satellite's connection is lost close as they stand (R28). -/
def State.orphansEnd (s : State) (c : Nat) : State :=
  (s.net.orphans.filter (fun x => decide ((s.cBridged x.2).rx = c))).foldl (fun (a : State) x => a.orphanClose x) s

/-- A verified reading completes the record taken over for its bridged bay (R28, R272). -/
def State.orphanReading (s : State) (c : Nat) (r : SatReading) : State :=
  match s.net.orphans.find? (fun x => decide ((s.cBridged x.2).rx = c)) with
  | none => s
  | some x => if r.signer = Config.satKey (s.cBridged x.2).sat then (s.recSat x.1 r.imp r.exp r.time false).orphanClose x else s

/-- What the consumers of a connection do once it is lost: signals (R336), the allocator's outlets (R216), a post's own
setpoints (R16), bridged sessions (R152). -/
def State.connLost (s : State) (c : Nat) : State :=
  let s1 := s.remoteAll c .hingeLoss
  let lost := s1.clientNodes c
  let s2 := lost.foldl (fun (a : State) n => a.modNode n (fun x => { x with clientTo := true, clientRamp := false })) s1
  let s3 := s2.setEvtIf (!lost.isEmpty) 0x06 5
  let s4 : State := if s3.img.struct_.role = .post && (s3.cConn s3.img.net.hub).paired = c && !s3.yrd.clientHold then
      { s3 with yrd := { s3.yrd with clientHold := true, clientRamp := false } } else s3
  let s5 := (tkeys s4.vlk.ctxs).foldl (fun (a : State) k =>
    if (a.ctx k).bridged && (a.cBridged (a.ctx k).bay).rx = c then a.endNow k .hingeLoss else a) s4
  s5.orphansEnd c

/-- HINGE_TIMEOUT: no DATA frame within the timeout of an OPEN receiving connection. -/
def execHingeTimeout (conn : Nat) (s : State) : Res :=
  if s.hingeLive && (s.cConn conn).used && !(s.cConn conn).tx && (s.conn conn).st = .opened then
    .next ((s.connTimeout conn).connLost conn).settle
  else .next s

/-! ### Delivery -/

/-- A client's REQUEST reaches its outlet's node (R215, R216). -/
def State.requestRx (s : State) (c dev : Nat) (bridged : Bool) (bay : Nat) (q : ClientReq) : State :=
  (s.clientNodes c).foldl (fun (a : State) n =>
    let k := a.cNode n
    if k.bayDev = dev && k.bayBridged = bridged && k.bayNum = bay then
      a.modNode n (fun x => { x with req := some q, clientTo := false, clientRamp := false }) else a) s

/-- A SETPOINT for a local bay, by serial-number arithmetic newer than the last applied (R16, R141, R215). -/
def State.setpointRx (s : State) (c dev : Nat) (bridged : Bool) (bay : Nat) (cycle : Word) (iSet : Nat) : State :=
  let newer := match tget none s.yrd.bayCycle bay with | some l => serialAfter cycle l | none => true
  if !s.isClient || (s.cConn s.img.net.hub).paired ≠ c || dev ≠ s.devNum || bridged || !s.localCtx bay || !newer then s
  else
    let y := s.yrd
    let s1 : State := { s with yrd := { y with bayCycle := tset none y.bayCycle bay (some cycle), bayISet := tset 0 y.bayISet bay iSet,
                                               setAt := s.now, clientHold := false, clientRamp := false } }
    let st := (s.ctx bay).st
    if 9 ≤ st.ctorIdx && st.ctorIdx ≤ 11 then s1.modCtx bay (fun x => { x with iSet := some iSet }) else s1

/-- The bridged session whose satellite reports on a connection (R151). -/
def State.bridgedOn (s : State) (c : Nat) : Option Nat :=
  (s.vlk.ctxs.find? (fun p => p.2.bridged && decide (p.2.st ≠ .free) && decide ((s.cBridged p.2.bay).rx = c))).map (fun p => p.1)

/-- A satellite's reading, joined from its fragments (R152, R272): verified it updates the session and its record, else
the session ends. -/
def State.satReading (s : State) (c : Nat) (whole : Option SatReading) : State :=
  match s.bridgedOn c with
  | none => (match whole with | some r => s.orphanReading c r | none => s)
  | some k =>
    let x := s.ctx k
    match whole with
    | none => s.endNow k .hingeLoss
    | some r =>
      if r.signer ≠ Config.satKey (s.cBridged x.bay).sat || r.imp < x.satImp || r.exp < x.satExp then s.endNow k .hingeLoss
      else
        let gap := match x.satTime with | some t => decide (2000000000 < nsBetween t r.time) | none => false
        let s1 := s.modCtx k (fun x => { x with satImp := r.imp, satExp := r.exp, satTime := some r.time })
        let s2 := match x.slot, x.recno with
          | some n, some _ => s1.recSat n r.imp r.exp r.time gap
          | _, _ => s1
        if (x.st = .charging || x.st = .renegotiate) && s2.limitReached k then s2.endSess k .limit false else s2

/-- A READING fragment: those of one reading arrive under consecutive `SEQ` (R336). -/
def State.fragRx (s : State) (c : Nat) (seq : BitVec 16) (idx last : Nat) (whole : Option SatReading) : State :=
  let h := s.conn c
  let good := if idx = 0 then true else h.frags = idx && seq = h.fragSeq + 1
  if !good || last < idx || 4 < last then s.setConn c { h with frags := 0 }
  else if idx = last then (s.setConn c { h with frags := 0 }).satReading c whole
  else s.setConn c { h with frags := idx + 1, fragSeq := seq }

/-- The end reason with a code (R153); a code of no row stands for FAULT. -/
def endReasonOf (n : Nat) : EndReason :=
  ([EndReason.evStop, .userStop, .hostStop, .limit, .unplug, .authReject, .authTimeout, .nospace, .noMaster, .linkTimeout, .negotiateFail,
    .msgTimeout, .evError, .lockFail, .cableCheckFail, .prechargeFail, .closeFail, .isolation, .earthCurrent, .safetyTrip, .pilotFault,
    .hingeLoss, .outputFault, .fault, .takeover, .powerFail]).getD n .fault

/-- A step that a satellite reports done (R151, R336), with the feedback it sends. -/
def State.stepDone (s : State) (k step fb : Nat) : State :=
  let st := (s.ctx k).st
  let closed := decide (fb / 2 % 8 ≠ 0)
  if step = 1 && st = .locking then s.enterCable k
  else if step = 2 && st = .cableCheck then (s.setSt k .precharge).stepCmd k 3
  else if step = 3 && st = .precharge then s.modCtx k (fun c => { c with preDone := true })
  else if step = 4 && st = .closing then s.enterCharging k
  else if step = 5 && st = .opening then (s.setSt k .weldCheck).stepCmd k 6
  else if step = 6 && st = .weldCheck then (if closed then s.weldSuspect k else s).toFinishing k
  else s

/-- A step that a satellite reports failed ends the session with its cause (R152); opening and weld check go on to
FINISHING, the latter weld-suspect. -/
def State.stepFailed (s : State) (k step cause : Nat) : State :=
  let st := (s.ctx k).st
  if st = .opening && step = 5 then (s.setSt k .weldCheck).stepCmd k 6
  else if st = .weldCheck && step = 6 then (s.weldSuspect k).toFinishing k
  else s.endSess k (endReasonOf cause) true

/-- A STEP payload from a satellite; in STOPPING a current of at most 5 A opens (R144, R151). -/
def State.stepRx (s : State) (c bb step result cause vMeas : Nat) (iMeas : Int) (fb : Nat) : State :=
  match s.bridgedCtx bb with
  | none => s
  | some k =>
    if (s.cBridged bb).rx ≠ c then s
    else
      let s1 := s.modCtx k (fun x => { x with satV := vMeas, satI := iMeas, satFb := fb })
      let s2 := if (s1.ctx k).st = .stopping && iMeas.natAbs ≤ 50 then s1.toOpening k else s1
      if result = 1 then s2.stepDone k step fb else if result = 2 then s2.stepFailed k step cause else s2

/-- Deliver one payload of an accepted DATA frame (R333, R336). A MODULE payload is for a cabinet. -/
def State.hingeDeliver (s : State) (c : Nat) (seq : BitVec 16) (p : HPay) : State :=
  match p with
  | .request dev bridged bay sess iReq vOut limit iMeas inv exp =>
    s.requestRx c dev bridged bay { sess := sess, iReq := iReq, vOut := vOut, limit := limit, iMeas := iMeas, inv := inv, exp := exp }
  | .setpoint dev bridged bay cycle iSet _ => s.setpointRx c dev bridged bay cycle iSet
  | .module _ _ _ _ _ _ => s
  | .reading idx last whole => s.fragRx c seq idx last whole
  | .step bb step result cause _ vMeas iMeas _ fb => s.stepRx c bb step result cause vMeas iMeas fb
  | .signals state valid => (s.modConn c (fun h => { h with state := state, valid := valid })).remoteAll c .safetyTrip
  | .malformed => s

/-! ### Frames (R333, R335) -/

/-- A frame that fails a check of R333's head, with what a burst of CRC errors does. -/
def State.hingeBad (r : State × Option Nat) : State := match r.2 with | some c => r.1.connLost c | none => r.1

/-- A DATA frame. -/
def State.dataRx (s : State) (f : HFrame) : State :=
  match s.hingeHead f with
  | .error r => State.hingeBad r
  | .ok x =>
    let r := x.1.hingeData x.2 f
    if r.2 then f.pays.foldl (fun (a : State) p => a.hingeDeliver x.2 f.seq p) r.1 else r.1

/-- A CONNECT frame: answered on the paired connection with the version selected; it opens the connection (R335). -/
def State.connectRx (s : State) (f : HFrame) : State :=
  match s.hingeHead f with
  | .error r => State.hingeBad r
  | .ok x =>
    let c := x.2
    let h := x.1.conn c
    if !f.bodyOk then x.1.setConn c { h with fmtErr := h.fmtErr + 1 }
    else
      let v := hingeVersion f.verLo f.verHi
      let s1 := if v = 0 then x.1.setConn c { h with verErr := h.verErr + 1 }
        else x.1.setConn c { h with st := .opened, ver := v, seq := f.initSeq, state := 0, valid := 0, frags := 0 }
      let t := (s.cConn c).paired
      (s1.sendHinge t 2 { link := (s.cConn t).link, peer := (s.cConn t).peer, version := max 1 v, connId := (s.cConn t).connId,
                          texp := 10 * s.connPeriod t, verLo := v, ackId := (s.cConn c).connId }).remoteAll c .safetyTrip

/-- A CONNECT_ACK frame on the reverse connection opens the sending one it acknowledges (R335); `verLo` is the version. -/
def State.ackRx (s : State) (f : HFrame) : State :=
  match s.hingeHead f with
  | .error r => State.hingeBad r
  | .ok x =>
    let c := x.2
    let t := (s.cConn c).paired
    let h := x.1.conn t
    if !f.bodyOk || 2 < f.verLo then x.1.modConn c (fun h => { h with fmtErr := h.fmtErr + 1 })
    else if !(s.cConn t).tx || (s.cConn t).connId ≠ f.ackId || h.st = .opened then x.1
    else if f.verLo = 0 then x.1.setConn t { h with verErr := h.verErr + 1 }
    else x.1.setConn t { h with st := .opened, ver := f.verLo }

/-- HINGE_DATA_RX. -/
def execHingeDataRx (f : HFrame) (s : State) : Res := if s.hingeLive then .next (s.dataRx f).settle else .next s

/-- HINGE_CONNECT_RX. -/
def execHingeConnectRx (f : HFrame) (s : State) : Res := if s.hingeLive then .next (s.connectRx f).settle else .next s

/-- HINGE_CONNECT_ACK_RX. -/
def execHingeConnectAckRx (f : HFrame) (s : State) : Res := if s.hingeLive then .next (s.ackRx f) else .next s

/-- HINGE_SEND: a DATA frame at the connection's period or for a changed payload (R332). -/
def execHingeSend (conn : Nat) (pays : List HPay) (s : State) : Res :=
  if s.hingeLive && pays.all (payOk (s.conn conn).ver) && pays.foldl (fun n p => n + payLen p) 0 ≤ 64 then .next (s.hingeSend conn pays) else .next s

/-- HINGE_CONNECT_SEND: a connection that is not OPEN sends CONNECT every 100 ms; its initial `SEQ` is a free value. -/
def execHingeConnectSend (conn : Nat) (s : State) : Res :=
  let k := s.cConn conn
  if s.hingeLive && k.used && k.tx && (s.conn conn).st ≠ .opened then
    let d := s.draw
    let q := BitVec.ofNat 16 (Config.freeNat d.1)
    .next ((d.2.modConn conn (fun h => { h with st := .connecting, seq := q })).sendHinge conn 1
      { link := k.link, peer := k.peer, version := 1, connId := k.connId, texp := 10 * s.connPeriod conn, verLo := 1, verHi := 2, initSeq := q })
  else .next s

/-- SKIDLINE_FRAME_RX (R385 to R399): one with `PROTO` 0x01 for this node delivers its Hinge frame. In IDLE-SITE a frame
addressed to this node or to all wakes the part, which then processes it without an acknowledgement; one that wakes
nothing is not kept (R56, R399). -/
def execSkidlineFrameRx (rx : SRx) (f : SFrame) (s : State) : Res :=
  let idle := decide (s.sys.pstate = .idleSite)
  let wakes := s.canWake 3 0 && (f.dst = s.sklAddr || f.dst = everyone) && (rx.codewords s.img.skl.coupling).all codewordOk
  if s.sys.inReset || !s.skl.run || (idle && !wakes) then .next s
  else
    let r := (if idle then s.wakeUp 3 0 else s).sklRx rx f !idle
    match r.2, f.hinge with
    | true, some h =>
      let g : HFrame := { h with link := sklLink, peer := f.orig }
      if !r.1.hingeLive then .next r.1
      else .next (if f.hKind = 0 then r.1.dataRx g else if f.hKind = 1 then r.1.connectRx g else r.1.ackRx g).settle
    | _, _ => .next r.1

end Sys2Proof.Machine
end

