-- ==== Sys2Proof/Machine/PeaveyCmd.lean ====
section
/-! DEFINITION. The meanings of Peavey's events and commands (R345 to R359). -/
namespace Sys2Proof.Machine

/-- LANE_SAMPLE (R345 to R353): a lane's sample at an instant of the PEAV clock. -/
def execLaneSample (n instant : Nat) (s : State) : Res :=
  if s.awake then .next (s.sampleLane n instant).settle else .next s

/-- LANE_REGISTER_WRITE (R355, R358): an offset within the PVY page. -/
def execLaneRegisterWrite (off : Nat) (value : Word) (s : State) : Res :=
  if s.sys.inReset then .next s else .next (s.laneWrite off value)

/-- LANE_HOLD (R356): the bit of `PVY_Ln_CTRL` is written. -/
def execLaneHold (n : Nat) (hold : Bool) (s : State) : Res :=
  if s.sys.inReset || 64 ≤ n then .next s else .next (s.laneWrite (0x1044 + 0x80 * n) (if hold then 1 else 0))

/-- STATE_RST (R356): a write of 1, with `LANE_HOLD` as it stands. -/
def execStateRst (n : Nat) (s : State) : Res :=
  if s.sys.inReset || 64 ≤ n then .next s else .next (s.laneWrite (0x1044 + 0x80 * n) (if (s.lane n).holdReq then 3 else 2))

/-- PVY_LANE_READ (R359). -/
def execPvyLaneRead (c : Cmd) (n sec : Nat) (s : State) : Res :=
  .next (s.runCmd c 0x0C01 (fun s =>
    if 63 < n || !(s.lane n).cfg.configured || 7 < sec then fail s .range else okay s (laneReadData (s.lane n) sec)))

/-- PVY_FE_CLEAR (R354, R359). -/
def execPvyFeClear (c : Cmd) (n : Nat) (s : State) : Res :=
  .next (s.runCmd c 0x0C02 (fun s =>
    let l := s.lane n
    if 63 < n || !l.cfg.configured then fail s .range
    else if !l.trip || l.cfg.feLim * 65536 < l.x.natAbs then fail s .state
    else okay (s.setLane n { l with trip := false, timer := 0 })))

end Sys2Proof.Machine
end

