-- ==== Sys2Proof/Machine/LandCmd.lean ====
section
/-! DEFINITION. The meanings of the Stand Table's events, of scrubbing, and of the LND commands (R96 to R112, R126, R480,
R517 to R519). -/
namespace Sys2Proof.Machine

/-! ### Events -/

/-- POINT_UPDATE (R106): a local source's value, with its own time stamp or at its arrival. -/
def execPointUpdate (pt : Nat) (raw : DWord) (t : Option Stamp) (bad : Bool) (s : State) : Res :=
  if s.sys.inReset then .next s
  else match t with
    | some u => .next (s.ptUpdate pt raw u bad)
    | none => .next (s.ptArrive pt raw bad)

/-- One local point of a sweep. -/
def State.sweepOne (s : State) (n : Nat) : State :=
  let p := s.point n
  if timedOut p s.now then s.storePoint n p (sweepPoint p) else s

/-- TIMEOUT_SWEEP (R107, R111): local points and shadows. The sweep marks the end of a millisecond (R110, assumption 60). -/
def execTimeoutSweep (s : State) : Res :=
  if s.sys.inReset then .next s
  else
    let s0 := (tkeys s.lnd.pts).foldl (fun (a : State) n => a.pubNext n) s
    let s1 := (tkeys s.lnd.pts).foldl (fun (a : State) n => a.sweepOne n) s0
    .next ((tkeys s1.lnd.shadows).foldl (fun (a : State) g =>
      if timedOut (a.shadow g) a.now then a.modShadow g sweepPoint else a) s1)

/-- CACHE_WRITEBACK (R109): within 100 ms of becoming dirty an entry goes to DRAM. -/
def execCacheWriteback (pt : Nat) (s : State) : Res := if s.sys.inReset then .next s else .next (s.writeBack pt)

/-- PERIODIC_PUBLICATION (R110). -/
def execPeriodicPublication (pt : Nat) (s : State) : Res :=
  if s.sys.inReset || s.lnd.points ≤ pt || (s.point pt).cfg.pub < 2 then .next s
  else .next ((s.touch pt).publishOwn pt)

/-- PUBLICATION_RX (R19, R22, R110, R111, R251): a remote owner's entry reaches its shadow here, the subscriptions that name
it and Tally's demand counters, and is passed on. -/
def State.pointRx (s : State) (gid : Nat) (cfg : PtCfg) (val : PtVal) : State :=
  let s0 := s.passOn (s.isLocal gid) (.point gid cfg val)
  if s.isLocal gid || !s.ringTalks || !s.shadowed gid then s0
  else
    let old := s0.shadow gid
    let p : Point := { old with cfg := cfg, val := val, accepted := old.accepted || decide (val.qual = .good) }
    let s1 := (List.range 16).foldl (fun (a : State) h => a.deliver h gid p) (s0.setShadow gid p)
    if val.qual = .good then s1.demandSeen gid val.value val.stamp else s1

/-- A member's bay registers arrive at the active master, whose Tally sums the site's energy without a meter (R251). -/
def State.energyRx (s : State) (dev bay imp exp : Nat) (t : Stamp) : State :=
  let s0 := s.passOn (decide (dev = s.img.struct_.devNum)) (.energy dev bay imp exp t)
  if !s.awake || !s.activeMaster || !s.hubRole || !s.ringTalks || dev = s.img.struct_.devNum || 8 ≤ bay || s.img.metro.demandImp.isSome then s0
  else s0.memberTake dev bay imp exp t

/-- PUBLICATION_RX (R111, R251). -/
def execPublicationRx (p : Publication) (s : State) : Res :=
  if s.sys.inReset then .next s
  else match p with
    | .point gid cfg val => .next (s.pointRx gid cfg val)
    | .energy dev bay imp exp t => .next (s.energyRx dev bay imp exp t)

/-! ### Scrubbing (R101, R102, R480) -/

/-- An uncorrectable line of the Stand Table cache: which entry it holds is a free value; a dirty one is lost, a clean one
is fetched again. -/
def State.cacheLost (s : State) : State :=
  let d := s.draw
  let n := Config.freeNat d.1 % max 1 s.lnd.points
  let p := d.2.point n
  if p.dirty then d.2.storePoint n p { p with val := { p.val with qual := .source } } else d.2

/-- The consequence of an uncorrectable Landing line in its region (R102). -/
def State.lineLost (s : State) (off : Nat) : State :=
  if off < 0x400000 then { s with lnd := { s.lnd with frameDrops := s.lnd.frameDrops + 1, poison := off :: s.lnd.poison.filter (fun p => p ≠ off) } }
  else if off < 0x500000 then s.cacheLost
  else if off < 0x700000 then s.endSess ((off - 0x500000) / 0x4000) .fault true
  else if off < 0x800000 then { s with yrd := { s.yrd with lost := ((off - 0x700000) / 256) :: s.yrd.lost } }
  else { s with lnd := { s.lnd with poison := off :: s.lnd.poison.filter (fun p => p ≠ off) } }

/-- An uncorrectable Landing line found at an offset (R102). -/
def State.landUncorr (s : State) (off : Nat) : State :=
  let l := off / 32 * 32
  ({ s with lnd := { s.lnd with eccUncorr := s.lnd.eccUncorr + 1, eccAddr := l } }.setEvt 0x02 0).lineLost l

/-- The media pause in IDLE-SITE (R480). -/
def State.scrubs (s : State) : Bool := s.awake

/-- The 36 octets of a Burl line: 32 of data and 4 check octets over the data and the 32-bit line address (R99). -/
def burlLine (addr : Nat) (data : List Byte) : List Byte :=
  data ++ le 4 (Config.burlCheck data (BitVec.ofNat 32 (addr / 32))).toNat

/-- What decoding a line finds, by its medium and the number of its erroneous symbols: DRAM corrects 2, the others 1 and
detect up to 3 (R100); a line that answers for another address is uncorrectable (R99). Beyond that the spec gives no
outcome: it is free (assumption 65). -/
def burlFinds (medium : Medium) (errs : Nat) (wrongAddr : Bool) (n : Nat) : LineRes :=
  let fixes := if medium = .dram then 2 else 1
  if wrongAddr then .uncorrectable
  else if errs = 0 then .clean
  else if errs ≤ fixes then .corrected
  else if errs ≤ 3 && medium ≠ .dram then .uncorrectable
  else if Config.freeBit n then .uncorrectable else .corrected

/-- A read corrects a line of a medium: it is counted, and the line is written back (R101, R480). -/
def State.lineCorrected (s : State) (medium : Medium) : State :=
  let s1 : State := { s with crs := { s.crs with scrCorr := s.crs.scrCorr + 1 } }
  if medium = .landing then { s1 with lnd := { s1.lnd with eccCorr := s1.lnd.eccCorr + 1 } } else s1

/-- A line of a medium is uncorrectable (R102, R480). -/
def State.lineBad (s : State) (medium : Medium) (addr : Nat) : State :=
  let s1 := ({ s with crs := { s.crs with scrUncorr := s.crs.scrUncorr + 1 } }).setEvt 0x13 3
  if medium = .landing then (if addr < 0xC00000 then (s1.landUncorr addr).settle else s1)
  else
    let l := (decide (medium = .mram), addr / 32 * 32)
    { s1 with crs := { s1.crs with uncorrLines := l :: s1.crs.uncorrLines.filter (fun x => x ≠ l) } }

/-- SCRUB_LINE: a line of a medium by its address (Landing: its offset), with its erroneous symbols, and whether it answers
for another address (R99, R100). A Boom payload has no line to scrub. -/
def execScrubLine (medium : Medium) (addr errs : Nat) (wrongAddr : Bool) (s : State) : Res :=
  if !s.scrubs || medium = .boom then .next s
  else
    let d := s.draw
    match burlFinds medium errs wrongAddr d.1 with
    | .clean => .next s
    | .corrected => .next (d.2.lineCorrected medium)
    | .uncorrectable => .next (d.2.lineBad medium addr)

/-! ### Commands (R126) -/

/-- A global ID has 23 bits: device number and point number (R24). -/
def gidOk (g : Nat) : Bool := decide (g < 2 ^ 23)

/-- What the owner of a remote point answers, none where it is not connected. -/
def ownerOf (remote : Tab RemotePt) (g : Nat) : Option RemotePt := (remote.find? (fun p => p.1 = g)).map (fun p => p.2)

/-- Why an ID cannot be read (R126, R518). -/
def State.readBad (s : State) (remote : Tab RemotePt) (g : Nat) : Bool :=
  !gidOk g || (if s.isLocal g then decide (s.lnd.points ≤ localPt g) else match ownerOf remote g with | some r => !r.known | none => false)

/-- The 64 octets that LND_PT_READ copies for an ID. -/
def State.readEntry (s : State) (remote : Tab RemotePt) (g : Nat) : List Byte :=
  if s.isLocal g then
    let p := s.point (localPt g)
    entryBytes p.cfg p.val p.cfg.srcKind p.cfg.srcAddr
  else match ownerOf remote g with
    | some r => entryBytes r.cfg r.val r.cfg.srcKind r.cfg.srcAddr
    | none => List.replicate 58 0 ++ [7] ++ List.replicate 5 0

/-- A local entry that the cache does not hold and that would come from an uncorrectable line of DRAM (R109, R480). -/
def State.entryLost (s : State) (g : Nat) : Bool :=
  let n := localPt g
  s.isLocal g && !(s.point n).dirty && !s.cached n
    && s.crs.uncorrLines.any (fun l => !l.1 && decide (ptAddr n ≤ l.2) && decide (l.2 < ptAddr n + 64))

/-- LND_PT_READ: the list lies at a Landing offset, four octets an ID (assumption 66); a poisoned line of it fails the
command (R102). -/
def execLndPtRead (c : Cmd) (list : Nat) (ids : List Nat) (dst : Nat) (remote : Tab RemotePt) (s : State) : Res :=
  .next (s.runCmd c 0x0201 (fun s =>
    if ids.length = 0 || 4096 < ids.length || !inGeneral list (4 * ids.length) || !dstOk dst (64 * ids.length) then fail s .range
    else if s.poisoned list (4 * ids.length) then fail s .fault
    else if ids.any (fun g => s.readBad remote g) then fail s .range
    else if ids.any (fun g => s.entryLost g) then fail s .fault
    else okay ((ids.foldl (fun (a : State) g => if a.isLocal g then a.touch (localPt g) else a) s).writeGen dst (ids.foldl (fun l g => l ++ s.readEntry remote g) []))))

/-- The first check that a pair of LND_PT_WRITE fails (R126). -/
def State.writeCheck (s : State) (remote : Tab RemotePt) (g : Nat) : Option Status :=
  if !gidOk g then some .range
  else if s.isLocal g then
    (if s.lnd.points ≤ localPt g then some .range else if (s.point (localPt g)).cfg.srcKind ≠ 4 then some .state else none)
  else match ownerOf remote g with
    | none => some .state
    | some r => if !r.known then some .range else if r.cfg.srcKind ≠ 4 then some .state else none

/-- LND_PT_WRITE: every pair is checked before any is processed. -/
def execLndPtWrite (c : Cmd) (pairs : List (Nat × DWord)) (remote : Tab RemotePt) (s : State) : Res :=
  .next (s.runCmd c 0x0202 (fun s =>
    if pairs.length = 0 || 4 < pairs.length then fail s .range
    else match pairs.findSome? (fun p => s.writeCheck remote p.1) with
      | some e => fail s e
      | none => okay (pairs.foldl (fun (a : State) p => if a.isLocal p.1 then a.ptArrive (localPt p.1) p.2 false else a.send (.boomWrite p.1 p.2)) s)))

/-- The settings that LND_PT_CFG would give a point (R519). -/
def cfgAfter (c : PtCfg) (o : PtCfgOp) : PtCfg :=
  let m (i : Nat) : Bool := o.mask.getLsbD i
  { c with safe := if m 0 then o.safe else c.safe, min := if m 1 then o.min else c.min, max := if m 2 then o.max else c.max,
           rate := if m 3 then o.rate else c.rate, timeout := if m 4 then o.timeout.toNat else c.timeout,
           filter := if m 5 then o.filter.toNat % 4 else c.filter, tau := if m 5 then o.filter.toNat / 4 else c.tau,
           pub := if m 6 then o.pub.toNat % 4 else c.pub, period := if m 6 then o.pub.toNat / 4 else c.period,
           deadband := if m 7 then o.deadband else c.deadband }

/-- LND_PT_CFG. -/
def execLndPtCfg (c : Cmd) (op : PtCfgOp) (remote : Tab RemotePt) (s : State) : Res :=
  .next (s.runCmd c 0x0203 (fun s =>
    let g := op.point
    if !gidOk g || op.mask = 0 then fail s .range
    else if s.isLocal g then
      let p := s.point (localPt g)
      if s.lnd.points ≤ localPt g then fail s .range
      else if p.cfg.safetyPt then fail s .locked
      else if !ptCfgOk (cfgAfter p.cfg op) then fail s .range
      else okay ((s.setPoint (localPt g) { p with cfg := cfgAfter p.cfg op, dirty := true }).touch (localPt g))
    else match ownerOf remote g with
      | none => fail s .state
      | some r =>
        if !r.known then fail s .range
        else if r.cfg.safetyPt then fail s .locked
        else if !ptCfgOk (cfgAfter r.cfg op) then fail s .range
        else okay (s.send (.boomCfg op))))

/-- Every point of a range publishes once: the device's own points, and the shadows it keeps (R110, R126). -/
def State.publishRange (s : State) (first last : Nat) : State :=
  let inside (g : Nat) : Bool := decide (first ≤ g) && decide (g ≤ last)
  let s1 := ((List.range s.lnd.points).filter (fun n => inside (s.globalId n))).foldl (fun (a : State) n => a.publishOwn n) s
  ((tkeys s1.lnd.shadows).filter inside).foldl (fun (a : State) g => a.publish g (a.shadow g)) s1

/-- LND_SUB_OPEN (the ring area's rules are assumption 66): the lowest free handle; every point of the range publishes once. -/
def execLndSubOpen (c : Cmd) (first last off len : Nat) (s : State) : Res :=
  .next (s.runCmd c 0x0204 (fun s =>
    if !gidOk last || last < first || (s.isLocal last && s.lnd.points ≤ localPt last) || len < 64 || len % 64 ≠ 0 || !dstOk off len then fail s .range
    else match (List.range 16).find? (fun h => !(s.sub h).used) with
      | none => fail s .nospace
      | some h =>
        let s1 := s.setSub h { used := true, first := first, last := last, off := off, len := len }
        okay (s1.publishRange first last) (le 4 h)))

/-- LND_SUB_CLOSE. -/
def execLndSubClose (c : Cmd) (handle : Nat) (s : State) : Res :=
  .next (s.runCmd c 0x0205 (fun s =>
    if 15 < handle || !(s.sub handle).used then fail s .range
    else
      let s1 := s.setSub handle {}
      okay { s1 with lnd := { s1.lnd with shadows := s1.lnd.shadows.filter (fun p => s1.shadowed p.1) } }))

end Sys2Proof.Machine
end

