-- ==== Sys2Proof/Machine/HostCmd.lean ====
section
/-! DEFINITION. The command rings' registers, descriptors that name no command, and HST_API_OPEN (R113 to R122, R125,
R126). -/
namespace Sys2Proof.Machine

/-- A ring of blocks 0x00 to 0x14 (R113). -/
def ringOk (q : Nat) : Bool := decide (q < 42)

/-- A write of `HST_Qq_PI` (R115): it may only advance `PI`. -/
def State.piWrite (s : State) (q : Nat) (value : Word) : State :=
  let Q := s.queue q
  let p := value.toNat % 65536
  let new := (p + 65536 - Q.ci) % 65536
  if !Q.en || Q.disabling then s
  else if (Q.pi + 65536 - Q.ci) % 65536 ≤ new && new ≤ 2 ^ Q.log2 then s.setQueue q { Q with pi := p }
  else s.setQueue q { Q with ovf := true }

/-- HST_Q_PI_WRITE (R115). -/
def execHstQPiWrite (q : Nat) (value : Word) (s : State) : Res :=
  if s.closedOff || !ringOk q then .next s else .next (s.piWrite q value)

/-- An octet area of the General region written with zeros. -/
def State.zeroGen (s : State) (off n : Nat) : State :=
  { s with mem := s.mem.filter (fun p => !(decide (landing off ≤ p.1) && decide (p.1 < landing off + n))),
           lnd := { s.lnd with poison := s.lnd.poison.filter (fun p => !(decide (off ≤ p) && decide (p + 32 ≤ off + n))) } }

/-- An enable is refused without a size, outside General, or where the areas overlap (R125). -/
def enableOk (Q : Queue) : Bool :=
  let n := 64 * 2 ^ Q.log2
  decide (Q.log2 ≠ 0) && inGeneral Q.base n && inGeneral Q.res n && (decide (Q.base + n ≤ Q.res) || decide (Q.res + n ≤ Q.base))

/-- Enable a ring (R118): indices and `SEQ` 0, result slots cleared; or refuse it with CFG_ERR. -/
def State.ringOn (s : State) (q : Nat) : State :=
  let Q := s.queue q
  if enableOk Q then (s.zeroGen Q.res (64 * 2 ^ Q.log2)).setQueue q { Q with en := true, disabling := false, pi := 0, ci := 0, seq := 0, started := 0 }
  else s.setQueue q { Q with cfgErr := true }

/-- A disable takes effect once `CI` = `PI` (R125). -/
def State.ringOff (s : State) (q : Nat) : State :=
  let Q := s.queue q
  if Q.ci = Q.pi then s.setQueue q { Q with en := false, disabling := false } else s.setQueue q { Q with disabling := true }

/-- A write of `HST_Qq_CTRL` (R125): size while disabled, vector, the bits that a 1 clears, then the enable. -/
def State.ctrlWrite (s : State) (q : Nat) (v : Word) : State :=
  let Q := s.queue q
  let k := v.toNat % 16
  let Q1 : Queue := { Q with
    log2 := if !Q.en && 4 ≤ k && k ≤ 12 then k else Q.log2, vector := v.toNat / 32 % 32, irqPend := Q.irqPend && !v.getLsbD 10,
    ovf := Q.ovf && !v.getLsbD 11, cfgErr := Q.cfgErr && !v.getLsbD 12 }
  let s1 := s.setQueue q Q1
  if v.getLsbD 4 then (if Q.en then s1 else s1.ringOn q) else if Q.en && !Q.disabling then s1.ringOff q else s1

/-- RING_ENABLE: `HST_Qq_CTRL` is written with `EN` 1. -/
def execRingEnable (q : Nat) (value : Word) (s : State) : Res :=
  if s.closedOff || !ringOk q then .next s else .next (s.ctrlWrite q (value ||| 0x10))

/-- RING_DISABLE: `HST_Qq_CTRL` is written with `EN` 0. -/
def execRingDisable (q : Nat) (value : Word) (s : State) : Res :=
  if s.closedOff || !ringOk q then .next s else .next (s.ctrlWrite q (value &&& ~~~ 0x10))

/-- RING_DISABLE_DONE: the last posted command has completed. -/
def execRingDisableDone (q : Nat) (s : State) : Res :=
  let Q := s.queue q
  if s.sys.inReset || !ringOk q || !Q.disabling || Q.ci ≠ Q.pi then .next s else .next (s.ringOff q)

/-- A write of `HST_Qq_BASE`, or of `HST_Qq_RES`: only while disabled, to a multiple of 64 (R125). -/
def State.areaWrite (s : State) (q : Nat) (res : Bool) (value : Word) : State :=
  let Q := s.queue q
  let v := value.toNat % 2 ^ 24
  if Q.en || v % 64 ≠ 0 then s else s.setQueue q (if res then { Q with res := v } else { Q with base := v })

/-- HST_Q_BASE_WRITE: `HST_Qq_BASE`, or `HST_Qq_RES` (R125). -/
def execHstQBaseWrite (q : Nat) (res : Bool) (value : Word) (s : State) : Res :=
  if s.closedOff || !ringOk q then .next s else .next (s.areaWrite q res value)

/-- HST_Q_LOG2SIZE_WRITE: `HST_Qq_CTRL` is written. -/
def execHstQLog2sizeWrite (q : Nat) (value : Word) (s : State) : Res :=
  if s.closedOff || !ringOk q then .next s else .next (s.ctrlWrite q value)

/-- How many commands a block defines; their command bytes run from 1 (R116). -/
def cmdCount (blk : Nat) : Nat := [5, 7, 5, 1, 0, 11, 7, 4, 9, 4, 2, 12, 2, 3, 4, 5, 4, 7, 3, 4, 2].getD blk 0

/-- UNDEFINED_OPCODE (R116): a descriptor whose opcode is not one of its ring's block, or one that cannot be read (R102). -/
def execUndefinedOpcode (c : Cmd) (block : Nat) (opcode : BitVec 16) (s : State) : Res :=
  let q := queueOf block c.side
  let o := opcode.toNat
  if 20 < block || (o / 256 = block && 1 ≤ o % 256 && o % 256 ≤ cmdCount block) || !s.canStart q then .next s
  else
    let idx := (s.queue q).started
    let s1 := s.startNext q
    .next (s1.answer q idx c o (fail s1 (if s.descLost (s.queue q) then .fault else if s.apiOpen c.side then .range else .version)))

/-- The versions of the host API, highest first, as major and minor (R122). -/
def apiVersions : List (Nat × Nat) := [(2, 3), (2, 2), (2, 1), (2, 0), (1, 6), (1, 5), (1, 4), (1, 3), (1, 2), (1, 1), (1, 0)]

/-- Version order. -/
def verLe (a b : Nat × Nat) : Bool := decide (a.1 < b.1) || (decide (a.1 = b.1) && decide (a.2 ≤ b.2))

/-- HST_API_OPEN (R122): the highest version in the range; a command in progress is looked at first (the order is assumption
60). -/
def execHstApiOpen (c : Cmd) (loMajor loMinor hiMajor hiMinor : Nat) (s : State) : Res :=
  .next (s.runCmd c 0x0301 (fun s =>
    if s.hst.flights.any (fun f => f.q % 2 = c.side.ctorIdx) then fail s .state
    else match apiVersions.find? (fun v => verLe (loMajor, loMinor) v && verLe v (hiMajor, hiMinor)) with
      | none => fail s .version
      | some v =>
        let h := s.hst
        okay { s with hst := match c.side with
          | .core => { h with coreMajor := v.1, coreMinor := v.2 }
          | .host => { h with hostMajor := v.1, hostMinor := v.2 } } (le 1 v.2 ++ le 1 v.1)))

end Sys2Proof.Machine
end

