-- ==== Sys2Proof/Machine/BrandCmd.lean ====
section
/-! DEFINITION. The meanings of Brand's events and commands (R426 to R439). -/
namespace Sys2Proof.Machine

/-- RAILS_UP (R426): the five rails have started; what waits may start. -/
def execRailsUp (s : State) : Res :=
  if s.awake && s.brd.rail = .starting then .next ({ s with brd := { s.brd with rail := .up } }.brandRun none).settle else .next s

/-- BRAND_RAIL_FAULT (R427): a measured rail voltage in mV, of a panel for VCOM. -/
def execBrandRailFault (panel rail : Nat) (mv : Int) (s : State) : Res :=
  if s.awake && s.railBad panel rail mv then .next (((s.brandCut true).railsStop .fault).setEvt 0x10 2).settle else .next s

/-- RAIL_HOLD_EXPIRY (R426): the hold time after the last waveform, with nothing running or waiting. -/
def execRailHoldExpiry (s : State) : Res :=
  if !s.sys.inReset && s.brd.rail = .up && s.runningCount = 0 && !(List.range 8).any (fun p => s.panelWaits p) then .next (s.railsStop .off).settle else .next s

/-- Tally draws a legal region again after an INIT that left it white (R437, R439). -/
def State.redraw (s : State) (p : Nat) : State :=
  match (s.cPanel p).bay with
  | some n => if (s.cPanel p).legal && (s.region p 0).waiting.isNone then s.legalBay n else s
  | none => s

/-- PANEL_FRAME (R424, R429, R431, R433): a frame of a panel with running waveforms ends at its boundary. -/
def execPanelFrame (p : Nat) (s : State) : Res :=
  if !s.awake || 8 ≤ p || s.brd.rail ≠ .up || !s.panelRuns p then .next s
  else
    let s1 := s.advanceFrame p
    let s2 := if (s.panel p).init.isSome && (s1.panel p).init.isNone then s1.redraw p else s1
    .next ((s2.brandRun (some p)).panelRest p).settle

/-- BRAND_PERMIT_RETRY (R435): 1 s after a failed request, of a panel or of the rails. -/
def execBrandPermitRetry (panel : Option Nat) (s : State) : Res :=
  if s.awake then
    let s1 : State := match panel with
      | some p => s.modPanel p (fun a => { a with askLater := false })
      | none => { s with brd := { s.brd with askLater := false } }
    .next (s1.askRails.askPanels).settle
  else .next s

/-- LEGAL_REGION_REFRESH (R437): every `LEGAL_PERIOD` while the shown content has changed. -/
def execLegalRegionRefresh (bay : Nat) (s : State) : Res :=
  match s.legalPanel bay with
  | some p => if s.awake && (s.panel p).legalShown ≠ some (s.legalContent bay) then .next (s.legalRequest p (s.legalContent bay)).settle else .next s
  | none => .next s

/-! ### Commands (R439) -/

/-- The rows of a region's pixels lie in General. -/
def areaOk (g : RegionCfg) (off stride : Nat) : Bool := decide (0 < g.h) && inGeneral off ((g.h - 1) * stride + 3 * g.w)

/-- BRD_REGION_UPDATE. -/
def execBrdRegionUpdate (c : Cmd) (p r mode dither off stride : Nat) (s : State) : Res :=
  .next (s.runSettle c 0x1001 (fun s =>
    let g := s.cRegion p r
    let t := s.panelTemp p
    if 7 < p || !(s.cPanel p).used || 15 < r || !g.used || (mode ≠ 1 && mode ≠ 2) || 1 < dither || !areaOk g off stride then fail s .range
    else if s.legalRegion p r then fail s .locked
    else if s.brd.rail = .fault || (List.range g.h).any (fun j => s.poisoned (off + j * stride) (3 * g.w)) then fail s .fault
    else if (t.panel p).cold then fail s .range 1
    else if !s.captureFits p r then fail s .nospace
    else
      let u : Upd := { mode := if mode = 1 then .full else .partly, dither := decide (dither = 1), space := captureSpace g, pixels := s.captureRows off stride g }
      okay ((s.placeUpd p r u).brandRun none) (le 4 s.brd.nextNo ++ le 1 (dispOf (s.region p r)))))

/-- `STATE` of a region (R438). -/
def Region.code (g : Region) : Nat := g.waiting.isSome.toNat + 2 * g.running.isSome.toNat

/-- BRD_REGION_INFO. -/
def execBrdRegionInfo (c : Cmd) (p r : Nat) (s : State) : Res :=
  .next (s.runCmd c 0x1002 (fun s =>
    let k := s.cRegion p r
    let g := s.region p r
    let no (u : Option Upd) : Nat := match u with | some x => x.no | none => 0
    if 7 < p || !(s.cPanel p).used || 15 < r || !k.used then fail s .range
    else okay s (le 2 k.x ++ le 2 k.y ++ le 2 k.w ++ le 2 k.h ++ le 1 g.code ++ le 4 (no g.running) ++ le 4 (no g.waiting))))

/-- BRD_PANEL_INIT. -/
def execBrdPanelInit (c : Cmd) (p : Nat) (s : State) : Res :=
  .next (s.runSettle c 0x1003 (fun s =>
    if 7 < p || !(s.cPanel p).used then fail s .range
    else if s.brd.rail = .fault then fail s .fault
    else if s.panelRuns p || s.panelWaits p then fail s .state
    else okay ((s.modPanel p (fun a => { a with initWait := true })).brandRun none)))

/-- BRD_RAIL_CLEAR. -/
def execBrdRailClear (c : Cmd) (s : State) : Res :=
  .next (s.runCmd c 0x1004 (fun s =>
    if s.brd.rail ≠ .fault then fail s .state else okay { s with brd := { s.brd with rail := .off } }))

end Sys2Proof.Machine
end

