-- ==== Sys2Proof/Machine/KeyCmd.lean ====
section
/-! DEFINITION. The meanings of the KEY commands (R440 to R457). -/
namespace Sys2Proof.Machine

/-- What entering or leaving a life-cycle state does in other blocks: SERVICE ends manual pilots (R164) and pulse tests,
and FIELD signs what waits (R267, R296). Tally's TEST mode follows at its next boundary (R252). -/
def State.lcHooks (s : State) (from_ : Lc) : State :=
  let s1 := if from_ = .service && s.key.lc ≠ .service then
      (List.range 8).foldl (fun (a : State) n => if (a.bay n).manual then (a.modBay n (fun b => { b with manual := false })).pilotGen n else a)
        ((List.range 4).foldl (fun (a : State) m => a.modPulse m (fun p => if p.test then { p with testDue := some false } else { p with testDue := none })) s)
    else s
  if s1.key.lc = .field then s1.tlySignLate else s1

/-- A life-cycle transition with its checks and effects (R450, R451). -/
def State.lcChange (s : State) (b : Lc) (by_ ctr : Nat) (rej : Status → Answer) (full : Answer) (data : List Byte) : Answer :=
  if !lcMove s.key.lc b by_ || !s.lcReady b then rej .state
  else if b ≠ .scrapped && s.changeFull then full
  else okay ((s.lcTransition b ctr).lcHooks s.key.lc) data

/-- A METRO key that METROMAP names would be destroyed (R445). -/
def State.namedGone (s : State) (m : KeyMsg) : Bool :=
  let n := s.img.metro.metroSlot
  let slot := s.installSlot m
  (decide (m.kind = 2) && decide (m.slot = n)) || (decide (m.kind = 1) && decide (slot ≠ n) && (s.headsIn slot m.span).contains n)

/-- The effect of an accepted message of `KIND` 1 to 4 or 6 (R447, R449, R453). -/
def State.keyApply (s : State) (m : KeyMsg) : State :=
  match m.kind with
  | 1 => s.installKey m (s.installSlot m)
  | 2 => { s.setSlot m.slot {} with key := { (s.setSlot m.slot {}).key with chains := tset {} s.key.chains m.slot {} } }
  | 3 => if m.op = 1 then { s with key := { s.key with imgKeys := tset 0 s.key.imgKeys m.slot m.keyId, imgRevoked := tset false s.key.imgRevoked m.slot false } }
         else { s with key := { s.key with imgRevoked := tset false s.key.imgRevoked m.slot true } }
  | 4 => { s with key := { s.key with authKeys := tset 0 s.key.authKeys m.auth m.keyId } }
  | 6 => { s with key := { s.key with dbgAc := true } }
  | _ => s

/-- KEY_MSG (R448, R449). -/
def execKeyMsg (c : Cmd) (m : KeyMsg) (s : State) : Res :=
  .next (s.runSettle c 0x1101 (fun s =>
    let lcs : List Lc := if m.kind = 1 || m.kind = 2 || m.kind = 3 || m.kind = 4 || m.kind = 6 then [.personalised, .field, .service]
      else [.manufacture, .personalised, .field, .service, .scrapped]
    match s.checkMsg m [1, 2, 3, 4, 5, 6] lcs with
    | some e => msgRej s e
    | none =>
      let t := s.storeCtr m
      if m.kind = 5 then
        t.lcChange (lcOf m.num) m.auth m.ctr (fun e => msgRej s e) (logFull (s.setEvt 0x11 1)) (le 1 m.kind ++ le 8 m.ctr)
      else if s.namedGone m then msgRej s .state
      else if s.metroMsg m && s.changeFull then logFull (s.setEvt 0x11 1)
      else
        let slot := s.installSlot m
        let u := if s.metroMsg m then t.legalChange 7 (le 2 slot ++ le 8 m.ctr) else t
        okay (u.keyApply m) (le 1 m.kind ++ le 8 m.ctr ++ (if m.kind ≤ 2 then le 2 slot else []))))

/-- KEY_SLOT_INFO. -/
def execKeySlotInfo (c : Cmd) (slot : Nat) (s : State) : Res :=
  .next (s.runCmd c 0x1102 (fun s => if 511 < slot then fail s .range else okay s (slotInfo slot (s.slot slot))))

/-- KEY_PERSO (R454): an authority key or an image key in the clear. -/
def execKeyPerso (c : Cmd) (auth : Bool) (index key : Nat) (wellFormed : Bool) (s : State) : Res :=
  .next (s.runCmd c 0x1103 (fun s =>
    if s.key.lc ≠ .manufacture then fail s .locked
    else if !wellFormed || key = 0 || (if auth then 2 < index else 7 < index) then fail s .range
    else
      let k := if auth then { s.key with authKeys := tset 0 s.key.authKeys index key, authCtrs := [] }
        else { s.key with imgKeys := tset 0 s.key.imgKeys index key, imgRevoked := tset false s.key.imgRevoked index false, authCtrs := [] }
      okay { s with key := k }))

/-- KEY_LC_ADVANCE (R450): the counter of its legal-log entry is 0 (assumption 32). -/
def execKeyLcAdvance (c : Cmd) (target : Nat) (s : State) : Res :=
  .next (s.runSettle c 0x1104 (fun s =>
    if s.key.lc ≠ .manufacture then fail s .locked
    else if 4 < target then fail s .range
    else if target ≠ 1 && target ≠ 4 then fail s .state
    else s.lcChange (lcOf target) 3 0 (fun e => fail s e) (logFull s) []))

/-- The octets KEY_ATTEST signs: device, life-cycle state, the two public keys and the challenge (R457). -/
def State.attestMsg (s : State) (challenge : Nat) : List Byte :=
  le 16 s.key.devId ++ le 1 s.key.lc.ctorIdx ++ pubBytes (s.slot 0).key 96 ++ pubBytes (s.slot 1).key 96 ++ le 32 challenge

/-- KEY_ATTEST. -/
def execKeyAttest (c : Cmd) (challenge dst : Nat) (s : State) : Res :=
  .next (s.runCmd c 0x1105 (fun s =>
    if !dstOk dst 320 then fail s .range
    else
      let d := s.draw
      let sig := (List.range 96).map (fun i => Config.sigByte (s.slot 1).key (s.attestMsg challenge) d.1 i)
      okay (d.2.writeGen dst (pubBytes (s.slot 0).key 96 ++ pubBytes (s.slot 1).key 96 ++ sig ++ List.replicate 32 0)) (le 1 s.key.lc.ctorIdx)))

/-- The chains without another slot's for a root: there is one per trusted root (R185, assumption 42). -/
def chainsBut (root slot : Nat) (t : Tab Chain) : Tab Chain := t.filter (fun p => p.1 = slot || p.2.root ≠ root)

/-- KEY_CHAIN_SET (R185, R455): a chain takes the place of another slot's for the same root. -/
def execKeyChainSet (c : Cmd) (slot leafKey root size : Nat) (wellFormed : Bool) (s : State) : Res :=
  .next (s.runCmd c 0x1106 (fun s =>
    let k := s.slot slot
    if s.key.lc ≠ .field && s.key.lc ≠ .service then fail s .locked
    else if !wellFormed || size = 0 || 2400 < size || classOf slot ≠ .transport || !k.filled || !k.usage.getLsbD 1 || leafKey ≠ k.key then fail s .range
    else if 4 ≤ (s.key.chains.filter (fun p => p.1 ≠ slot)).length then fail s .nospace
    else okay { s with key := { s.key with chains := tset {} (chainsBut root slot s.key.chains) slot { leafKey := leafKey, root := root, size := size } } }))

/-- Octets of a signature in an algorithm (R444); 0 for one that signs nothing. -/
def sigLen : Nat → Nat
  | 3 => 64 | 4 => 96 | 5 => 132 | 6 => 114 | _ => 0

/-- KEY_SIGN: the signature goes to `DATA`, which shows its first 44 octets (assumption 33). -/
def execKeySign (c : Cmd) (slot digest : Nat) (s : State) : Res :=
  .next (s.runCmd c 0x1107 (fun s =>
    let k := s.slot slot
    if slot < 112 || 127 < slot then fail s .range
    else if !s.keyFor slot 5 then fail s .locked
    else
      let d := s.draw
      okay d.2 ((List.range (sigLen k.alg)).map (fun i => Config.sigByte k.key (le 48 digest) d.1 i))))

end Sys2Proof.Machine
end

