-- ==== Sys2Proof/Machine/TimCmd.lean ====
section
/-! DEFINITION. The meanings of the time base's events and the TIM commands (R458 to R471). -/
namespace Sys2Proof.Machine

/-- Tally meets a time step (R281, R282): entries close and open, segments end, a forward step's boundaries are
processed, the calendar is evaluated anew, and the step is journaled with a checkpoint. `old` is when the old time's
entries close; the state holds the new time. `from_` is where a forward step starts in the present UTC. -/
def State.tlyStep (s : State) (old : Stamp) (from_ : Option Stamp) : State :=
  if !s.awake || !s.tly.running then s
  else
    let s1 := s.closeEntries old 3
    let s2 := s1.openRecs.foldl (fun (a : State) n => (a.segment n a.tly.tariff a.tly.tariff).modRcd n (fun r => { r with flags := r.flags ||| 0x10 })) s1
    let s3 := match from_ with | some t => s2.catchUp t | none => s2
    let s4 := (s3.setTariff (s3.tariffOf s3.tly.mode)).openEntries 0
    let new := s.now
    let s5 := match s4.newestSlot 64 s4.tly.slotSeq with
      | some j => { s4 with tly := { s4.tly with journal := tset {} s4.tly.journal (j.seq % 4096) { j with flags := j.flags ||| 0x1000 } } }
      | none => s4
    ((s5.noteEv { ev := 4, old := old, new := new }).eventSlots.checkpointNow).setEvt 0x08 4

/-- A stamp moved by some nanoseconds. -/
def shiftBy (d : Int) (t : Stamp) : Stamp := Stamp.ofNs (t.toNs + d)

/-- A step moves the stamps of every local and shadow entry (R465) and leaves local counters as they ran (R460). -/
def State.shiftStamps (s : State) (d : Int) : State :=
  let pt (p : Point) : Point := { p with val := { p.val with stamp := shiftBy d p.val.stamp } }
  { s with lnd := { s.lnd with pts := tmap {} (fun _ p => pt p) s.lnd.pts, shadows := tmap {} (fun _ p => pt p) s.lnd.shadows },
           saf := { s.saf with gates := tmap {} (fun _ (g : Gate) => { g with fell := g.fell.map (shiftBy d) }) s.saf.gates },
           yrd := { s.yrd with setAt := shiftBy d s.yrd.setAt },
           vlk := { s.vlk with ctxs := tmap {} (fun _ (c : Ctx) => { c with chargeFrom := c.chargeFrom.map (fun t => ((t : Int) + d / 1000000000).toNat) }) s.vlk.ctxs },
           tim := { s.tim with holdFrom := shiftBy d s.tim.holdFrom },
           tly := { s.tly with lastCheckpoint := ((s.tly.lastCheckpoint : Int) + d / 1000000000).toNat, tariffSince := shiftBy d s.tly.tariffSince } }

/-- The pending step is applied at the tick boundary the time base stands on (R465). -/
def State.stepNow (s : State) (d : Int) : State :=
  let old := s.now
  let new := Stamp.ofNs ((s.now.toNs + d + 5000000) / 10000000 * 10000000)
  let rest := s.tim.stepRest
  let s1 := s.setTime new
  let s2 := { s1 with tim := { s1.tim with stepPend := none, stepRest := 0, run := [], steps := s.tim.steps + 1, leapDone := false,
                                           slewing := s.tim.slewing || decide (rest ≠ 0), slewOff := if rest ≠ 0 then rest else s.tim.slewOff } }
  let s3 := ((s2.shiftStamps d).setServo .acquiring).tlyStep old (if 0 < d then some old else none)
  s3.setEvt 0x12 0

/-- STEP_APPLY (R465): between two ticks the tick that runs ends first, at the boundary. -/
def execStepApply (s : State) : Res :=
  match s.tim.stepPend with
  | none => .next s
  | some d =>
    if s.sys.inReset then .next s
    else if s.tim.ns % 10000000 = 0 then .next (s.stepNow d).settle
    else
      let s1 := s.nextBoundary
      let s2 := if s1.awake && s1.tly.running then s1.commit.energyLimits else s1
      .next (s2.stepNow d).settle

/-- A change of UTC offset that no leap announces is a step of UTC (R466). -/
def State.utcChange (s : State) (off : Int) : State :=
  let announced := (s.tim.leap = 1 && decide (off = s.tim.utcOff + 1)) || (s.tim.leap = 2 && decide (off = s.tim.utcOff - 1))
  if off = s.tim.utcOff || announced then s
  else
    let s1 := { s with tim := { s.tim with utcOff := off } }
    s1.tlyStep s.now (if off < s.tim.utcOff then some { s.now with sec := ((s.tim.sec : Int) + off - s.tim.utcOff).toNat } else none)

/-- In the last 10 s of a UTC day no leap is announced or withdrawn (R466). -/
def State.leapOpen (s : State) : Bool := decide (s.utcSince2000 % 86400 < 86390) && !s.tim.leapDone

/-- What a source supplies beside the offset (R466). -/
def State.takeSource (s : State) (off : Int) (leap : Nat) : State :=
  let s1 := s.utcChange off
  if s.leapOpen && leap < 3 then { s1 with tim := { s1.tim with leap := leap } } else s1

/-- A device that takes its time over Boom: a stack member, or the standby of a pair (R462). -/
def State.boomTime (s : State) : Bool := s.img.stack.present && !s.activeMaster

/-- BOOM_TIME_SYNC (R462): one exchange of time frames with the master on a ring port, `t1` to `t4` in ns. -/
def execBoomTimeSync (port : Nat) (t1 p2 p3 t4 utcOff : Int) (leap : Nat) (s : State) : Res :=
  if !s.awake || !s.boomTime || s.net.rejected || !(if port = 0 then s.net.boom0 else s.net.boom1) then .next s
  else
    let s1 := (s.offset (s.boomOffset (if port = 0 then .boom0 else .boom1) t1 p2 p3 t4 * 65536)).2
    .next ({ s1 with tim := { s1.tim with member := true } }.takeSource utcOff leap).settle

/-- SERVO_OFFSET_TIMEOUT (R463): 4 s without an accepted offset. -/
def execServoOffsetTimeout (s : State) : Res :=
  if s.sys.inReset then .next s
  else match s.tim.servo with
    | .acquiring => .next (s.setServo .free)
    | .locked => .next (s.setServo .holdover)
    | _ => .next s

/-- HOLDOVER_LIMIT (R463): the estimate has passed 100 ms. -/
def execHoldoverLimit (s : State) : Res :=
  if !s.sys.inReset && s.tim.servo = .holdover && !s.tim.holdLimit then .next ({ s with tim := { s.tim with holdLimit := true } }.setEvt 0x12 2) else .next s

/-- The open entries carry LEAP (R260). -/
def State.leapMark (s : State) : State := (s.flagEntries 0x2000).setEvt 0x12 4

/-- LEAP_SECOND (R466): an inserted second begins, repeating 23:59:59; or 23:59:59 is skipped and the day ends now. -/
def execLeapSecond (s : State) : Res :=
  let day := s.tim.utcRaw % 86400
  if s.sys.inReset || s.tim.leapDone then .next s
  else if s.tim.leap = 1 && day = 0 then
    .next ({ s with tim := { s.tim with utcOff := s.tim.utcOff + 1, leapDone := true } }.leapMark)
  else if s.tim.leap = 2 && day = 86399 && s.tim.ns = 0 then
    let s1 := { s.leapMark with tim := { s.leapMark.tim with utcOff := s.tim.utcOff - 1, leap := 0 } }
    .next (if s1.awake && s1.tly.running then (s1.boundaries true).eventSlots.checkpointNow.settle else s1)
  else .next s

/-- RTC_TEMP_COMP (R467): every 60 s, for a temperature in 0.1 degree: the crystal is slow by the parabola, in ppb. -/
def execRtcTempComp (temp : Int) (s : State) : Res :=
  let k := s.img.struct_
  .next { s with tim := { s.tim with rtcComp := divRound (k.xtalK * (temp - k.xtalT0) ^ 2) 100 } }

/-- RTC_SYNC (R467, R468): while LOCKED the clock is set in units of 1/32,768 s and the residual trim is learnt. -/
def execRtcSync (s : State) : Res :=
  if s.sys.inReset || s.tim.servo ≠ .locked then .next s
  else
    let d := s.draw
    let g := rtcGrain s.now
    .next { d.2 with tim := { d.2.tim with rtcSec := g.sec, rtcNs := g.ns, rtcValid := true, rtcTrim := Config.rtcTrim d.1 } }

/-- SLEW_END (R463, R464): the offset is removed; LOCKED may follow. -/
def execSlewEnd (s : State) : Res :=
  if !s.sys.inReset && s.tim.slewing then .next ({ s with tim := { s.tim with slewing := false, slewOff := 0 } }.lockIfDue) else .next s

/-! ### Commands (R471) -/

/-- 2^40 s in units of 2^-16 ns. -/
def maxOffset : Nat := 2 ^ 40 * 1000000000 * 65536

/-- TIM_OFFSET. -/
def execTimOffset (c : Cmd) (sec : Int) (ns frac : Nat) (utcOff : Int) (leap : Nat) (s : State) : Res :=
  .next (s.runSettle c 0x1201 (fun s =>
    let o : Int := (sec * 1000000000 + ns) * 65536 + frac
    if s.boomTime then fail s .state
    else if 3 ≤ leap || 1000000000 ≤ ns || maxOffset < o.natAbs then fail s .range
    else
      let r := s.offset o
      okay (r.2.takeSource utcOff leap) (le 1 r.1)))

/-- TIM_SET: a step to the time named, rounded to 10 ms, with nothing left to slew (assumption 35). -/
def execTimSet (c : Cmd) (sec ns : Nat) (s : State) : Res :=
  .next (s.runSettle c 0x1202 (fun s =>
    if s.boomTime || s.tim.servo ≠ .free then fail s .state
    else if 1000000000 ≤ ns then fail s .range
    else okay { s with tim := { s.tim with stepPend := some (divRound ((({ sec := sec, ns := ns } : Stamp)).toNs - s.now.toNs) 10000000 * 10000000), stepRest := 0 } }))

/-- TIM_READ. -/
def execTimRead (c : Cmd) (s : State) : Res :=
  .next (s.runCmd c 0x1203 (fun s =>
    let t := s.tim
    okay s (le 8 t.sec ++ le 4 t.ns ++ le 2 t.frac ++ le 1 t.servo.ctorIdx ++ le 1 s.verified.toNat ++ leInt 2 t.utcOff ++ le 1 t.leap ++ le 4 s.estErr)))

end Sys2Proof.Machine
end

