-- ==== Sys2Proof/Machine/CruiseCmd.lean ====
section
/-! DEFINITION. The meanings of Cruise's events and of the CRS commands (R472 to R483). -/
namespace Sys2Proof.Machine

/-- CRUISE_SLICE_REQUEST (R474, R477, R478): none in IDLE-SITE, in a pause, or while Cruise still holds or awaits a
permit. -/
def execCruiseSliceRequest (s : State) : Res :=
  if s.awake && s.crs.st = .idle && !s.holds .cruise && !s.asks .cruise then .next s.sliceAsk.settle else .next s

/-- A context on a failed row is withdrawn: at once where it is FREE, else when it returns to FREE; a local bay's goes
out of service (R479). -/
def State.rowContext (s : State) (k : Nat) : State :=
  if s.vlk.withdrawn.contains k || s.vlk.withdrawAtFree.contains k then s
  else
    let s1 := if s.localCtx k then s.modBay k (fun b => if (s.ctx k).st = .free then { b with inService := false } else { b with drain := true }) else s
    if (s.ctx k).st = .free then
      let s2 := { s1 with vlk := { s1.vlk with withdrawn := s1.vlk.withdrawn ++ [k] } }
      if s.localCtx k then s2.pilotGen k else s2
    else { s1 with vlk := { s1.vlk with withdrawAtFree := s1.vlk.withdrawAtFree ++ [k] } }

/-- What an unrepairable row does to its owner (R479). Of packet buffers, the cache and an L2 way the list of
bad rows is what shows (`Crs.l2Ways`); the
Yarder tree reads the list of bad rows in every cycle. -/
def State.rowLost (s : State) (r : Nat × Nat) : State :=
  if r.1 < 20 then s
  else if r.1 < 28 then s.rowContext (((r.1 - 20) * 256 + r.2) / 16)
  else if r.1 < 32 then s
  else if r.1 < 48 then (List.range 32).foldl (fun (a : State) i => a.landUncorr (r.1 * 0x40000 + r.2 * 1024 + 32 * i)) s
  else s

/-- CRUISE_SLICE_END (R475, R479): failed rows are repaired or lost, and the slice is over. -/
def execCruiseSliceEnd (failRows : List Nat) (s : State) : Res :=
  if s.sys.inReset || s.crs.st ≠ .slice then .next s
  else
    let s1 := failRows.foldl (fun (a : State) r =>
      let p := failPlace s.crs.unit r
      let x := a.softRepair p
      if x.2 then x.1 else x.1.rowLost p) s
    .next s1.sliceOver.settle

/-- SLICE_OVERRUN (R478): the unit is restored and comes again after the rest of the round. -/
def execSliceOverrun (s : State) : Res :=
  if s.sys.inReset || s.crs.st ≠ .slice then .next s
  else
    let u := s.crs.unit
    let s1 := { s with crs := { s.crs with overruns := s.crs.overruns + 1, retest := s.crs.retest ++ [u] } }
    .next (s1.setEvt 0x13 2).sliceOver.settle

/-! ### Commands (R483) -/

/-- CRS_PAUSE: a slice that runs completes first; a request that waits is withdrawn. -/
def execCrsPause (c : Cmd) (s : State) : Res :=
  .next (s.runSettle c 0x1301 (fun s =>
    if s.crs.st = .slice then .wait .pause { s with crs := { s.crs with pausing := true } }
    else if s.crs.st = .idle then okay { (s.release .cruise) with crs := { s.crs with st := .paused } }
    else fail s .state))

/-- CRS_RESUME. -/
def execCrsResume (c : Cmd) (s : State) : Res :=
  .next (s.runCmd c 0x1302 (fun s => if s.crs.st = .paused then okay { s with crs := { s.crs with st := .idle } } else fail s .state))

/-- CRS_FUSE_REPAIR (R481): 1,200 mW for at most 500 ms, asked for with a wait limit of 5,000 ms. -/
def execCrsFuseRepair (c : Cmd) (s : State) : Res :=
  .next (s.runSettle c 0x1303 (fun s =>
    if s.key.lc ≠ .service then fail s .locked
    else if s.anyContext then fail s .state
    else
      let q := queueOf 0x13 c.side
      .wait .fuse (s.present (.fuse q (s.queue q).started) 1200 500 4 5000)))

/-- The 256 octets of CRS_REPORT. -/
def State.crsReport (s : State) : List Byte :=
  padTo 256 ((List.range 48).foldl (fun l b => l ++ le 2 (s.crs.left b) ++ le 2 (s.crs.fusedIn b)) []
    ++ (List.range 32).foldl (fun l w => l ++ le 1 (s.crs.left (48 + w))) [])

/-- CRS_REPORT. -/
def execCrsReport (c : Cmd) (dst : Nat) (s : State) : Res :=
  .next (s.runCmd c 0x1304 (fun s => if !dstOk dst 256 then fail s .range else okay (s.writeGen dst s.crsReport)))

end Sys2Proof.Machine
end

