-- ==== Sys2Proof/Machine/V2gEv.lean ====
section
/-! DEFINITION. The meanings of a vehicle's link, transport and application messages (R134, R135, R139 to R146, R172
to R188). -/
namespace Sys2Proof.Machine

/-! ### Link -/

/-- LINK_UP (R130, R169, R172): the vehicle has joined the logical network, or its first valid frame has come. -/
def execLinkUp (k mac : Nat) (s : State) : Res :=
  let c := s.ctx k
  if s.sys.inReset || c.st ≠ .link || c.bridged then .next s
  else
    let b := s.bay c.bay
    if b.lstate = .matched then .next ((s.modCtx k (fun c => { c with mac := mac })).linkIsUp k).settle
    else if b.lstate = .t1sListen then
      .next (((s.modBay c.bay (fun b => { b with lstate := .t1sUp })).modCtx k (fun c => { c with mac := mac })).linkIsUp k).settle
    else .next s

/-- Link loss (R146, R173): it ends UNPLUG_WAIT and has no direct effect before. -/
def State.linkLost (s : State) (k : Nat) : State :=
  let s1 := s.modCtx k (fun c => { c with linkUp := false })
  if (s.ctx k).st = .unplugWait then (s1.freeSess k).settle else s1

/-- LINK_LOSS (R173). -/
def execLinkLoss (k : Nat) (s : State) : Res :=
  if s.sys.inReset || (s.ctx k).st = .free || !(s.ctx k).linkUp then .next s else .next (s.linkLost k)

/-! ### Discovery, TCP and TLS -/

/-- What a context's bay offers: security policy, MCS profile, protocols, and whether a vehicle certificate is required. -/
def State.policyOf (s : State) (k : Nat) : Nat := let c := s.ctx k; if c.bridged then (s.cBridged c.bay).secPolicy else (s.cBay c.bay).secPolicy
def State.mcsOf (s : State) (k : Nat) : Bool := let c := s.ctx k; if c.bridged then (s.cBridged c.bay).mcs else (s.cBay c.bay).mcs
def State.protosOf (s : State) (k : Nat) : List Proto := let c := s.ctx k; if c.bridged then (s.cBridged c.bay).protos else (s.cBay c.bay).protos
def State.certReqOf (s : State) (k : Nat) : Bool := let c := s.ctx k; if c.bridged then (s.cBridged c.bay).evCertReq else (s.cBay c.bay).evCertReq

/-- Answer discovery: on the link, or in a tunnel frame (R175, R190). -/
def State.sdpAnswer (s : State) (k : Nat) (tls : Bool) : State :=
  let c := s.ctx k
  if c.bridged then s.tunSend (s.cBridged c.bay).sat c.bay (.sdp tls) else s.send (.sdp k tls)

/-- SDP_REQUEST (R175): answered in NEGOTIATE by the bay's policy. -/
def execSdpRequest (k : Nat) (tls : Bool) (s : State) : Res :=
  if s.sys.inReset || (s.ctx k).st ≠ .negotiate then .next s
  else
    let a := tls || decide (s.policyOf k ≠ 0)
    .next ((s.modCtx k (fun c => { c with tlsAnswer := a })).sdpAnswer k a)

/-- TCP_CONNECT (R176): in NEGOTIATE a new connection replaces the old one; later it is refused. -/
def execTcpConnect (k : Nat) (s : State) : Res :=
  if s.sys.inReset || (s.ctx k).st ≠ .negotiate then .next s
  else .next ((s.dropKeys k).modCtx k (fun c => { c with tcp := true, setup := false, proto := .none, transport := .tcp, suite := 0, tlsTx := 0, tlsRx := 0 }))

/-- The algorithms of the SECC keys a TLS version uses (R184). -/
def tlsAlg (v : Transport) (alg : Nat) : Bool :=
  match v with
  | .tls12 => decide (alg = 3)
  | .tls13 => decide (alg = 5) || decide (alg = 6)
  | .tcp => false

/-- The slot of the SECC chain presented: the one of the root the vehicle names, else the first (R185). -/
def State.chainFor (s : State) (root : Option Nat) : Option Nat :=
  match root with
  | some r => (s.key.chains.find? (fun p => p.2.root = r)).map (fun p => p.1)
  | none => s.key.chains.head?.map (fun p => p.1)

/-- The cipher suites and key exchange groups of each version, by their registry codes (R184; the codes are PRESUMED from
the TLS registry, assumption 42): ECDHE and ECDH with ECDSA, AES-128-CBC and SHA-256 over P-256 (23), AES-256-GCM with
SHA-384 over P-521 (25) or X448 (30). -/
def tlsConfig (v : Transport) (suite group : BitVec 16) : Bool :=
  match v with
  | .tls12 => (decide (suite = 0xC023) || decide (suite = 0xC025)) && decide (group = 23)
  | .tls13 => decide (suite = 0x1302) && (decide (group = 25) || decide (group = 30))
  | .tcp => false

/-- A handshake can succeed (R184, R185, R444). -/
def State.tlsOk (s : State) (k : Nat) (h : TlsOffer) (v : Transport) : Bool :=
  match s.chainFor h.root with
  | none => false
  | some n => s.keyFor n 1 && tlsAlg v (s.slot n).alg && tlsConfig v h.suite h.group
      && (decide (v ≠ .tls13) || (!h.badCert && (h.vehCert || !s.certReqOf k)))

/-- Take a free SESSION slot for a context's keys (R186). -/
def State.takeSlot (s : State) (k : Nat) : State :=
  match s.emptyRun .session 1 with
  | none => s
  | some n =>
    let d := s.draw
    (d.2.setSlot n { st := .valid, alg := 2, span := 1, usage := 0x40, key := Config.freeNat d.1 }).modCtx k (fun c => { c with keySlots := c.keySlots ++ [n] })

/-- Destroy the first slot a context holds: the handshake's own (R186). -/
def State.dropSlot (s : State) (k : Nat) : State :=
  match (s.ctx k).keySlots with
  | [] => s
  | n :: r => (s.setSlot n {}).modCtx k (fun c => { c with keySlots := r })

/-- The end of a handshake that fails: its slot is destroyed and the failure counted (R184, R186). -/
def State.handFails (s : State) (k : Nat) : State :=
  let s1 := (s.takeSlot k).dropSlot k
  { s1 with vlk := { s1.vlk with hsFail := s1.vlk.hsFail + 1 } }

/-- TLS_HANDSHAKE (R184 to R186): it takes a slot of its own, which is destroyed when the connection stands with its two
traffic slots and its record numbers at 0. A root that no chain ends at leaves no configuration to present. -/
def execTlsHandshake (k : Nat) (h : TlsOffer) (s : State) : Res :=
  let c := s.ctx k
  if s.sys.inReset || c.st ≠ .negotiate || !c.tcp || !c.tlsAnswer || c.transport ≠ .tcp then .next s
  else match h.version with
    | some v =>
      if s.tlsOk k h v then
        .next (((((s.takeSlot k).takeSlot k).takeSlot k).dropSlot k).modCtx k (fun c => { c with transport := v, suite := h.suite, tlsTx := 0, tlsRx := 0 }))
      else .next (s.handFails k)
    | none => .next (s.handFails k)

/-! ### supportedAppProtocol -/

/-- The offered protocol an entry's namespace names on a bay (R177): the -20 DC namespace is the MCS profile's too. -/
def offeredAs (mcs : Bool) (p : Proto) : Proto :=
  match p with
  | .iso20 => if mcs then .iso20mcs else .iso20
  | .iso20mcs => if mcs then .iso20mcs else .iso20
  | x => x

/-- Major version and transports of a protocol (R177). -/
def protoMajor : Proto → Nat
  | .iso20 => 1
  | .iso20mcs => 1
  | _ => 2
def protoOver (p : Proto) (t : Transport) : Bool :=
  match p with
  | .din => decide (t = .tcp)
  | .iso2 => decide (t = .tcp) || decide (t = .tls12)
  | .iso20 => decide (t = .tls13)
  | .iso20mcs => decide (t = .tls13)
  | .none => false

/-- An entry is eligible (R178). -/
def State.eligible (s : State) (k : Nat) (e : SapEntry) : Bool :=
  let p := offeredAs (s.mcsOf k) e.proto
  let bays := decide (p = .iso20mcs) || !s.mcsOf k
  decide (p ≠ .none) && bays && ((s.protosOf k).map (offeredAs (s.mcsOf k))).contains p && decide (e.major = protoMajor p) && protoOver p (s.ctx k).transport

/-- The eligible entry of lowest priority value, the first of equals (R178). -/
def bestEntry : List SapEntry → Option SapEntry
  | [] => none
  | e :: r => match bestEntry r with
    | none => some e
    | some b => if b.prio < e.prio then some b else some e

/-- A message reaches the application: a TCP connection stands, under TLS where discovery answered so. -/
def Ctx.speaks (c : Ctx) : Bool := c.tcp && (!c.tlsAnswer || decide (c.transport ≠ .tcp))

/-- A message that belongs to another state (R180). -/
def State.outOfSeq (s : State) (k : Nat) : State := s.answerEv k .sequenceError

/-- The longest V2GTP payload that Debarker works on (R181). -/
def exiMax : Nat := 6144

/-- A message that does not decode gets no answer (R182). -/
def State.undecoded (s : State) (k : Nat) : State :=
  let s1 := { s with vlk := { s.vlk with decodeErr := s.vlk.decodeErr + 1 } }
  if (s.ctx k).st = .negotiate then s1.endSess k .negotiateFail false else s1

/-- A TLS record of the vehicle has been received (R183, R186). -/
def State.recordRx (s : State) (k : Nat) : State :=
  s.modCtx k (fun c => { c with tlsRx := if c.transport = .tcp then c.tlsRx else c.tlsRx + 1 })

/-- The vehicle's list of application protocols (R178). -/
def State.appProtocol (s : State) (k : Nat) (list : List SapEntry) : State :=
  if (s.ctx k).st ≠ .negotiate then s.outOfSeq k
  else match bestEntry (list.filter (fun e => s.eligible k e)) with
    | some e =>
      (s.modCtx k (fun c => { c with proto := offeredAs (s.mcsOf k) e.proto })).answerEv k (if 0 < e.minor then .okMinorDeviation else .okNegotiation)
    | none =>
      let s1 := { s with vlk := { s.vlk with sapFail := s.vlk.sapFail + 1 } }
      (s1.answerEv k .failedNoNegotiation).endSess k .negotiateFail false

/-- SUPPORTED_APP_PROTOCOL_REQ (R178, R181, R182): `len` is the payload's length. -/
def execSupportedAppProtocolReq (k len : Nat) (list : List SapEntry) (s : State) : Res :=
  let c := s.ctx k
  if s.sys.inReset || c.st = .free || !c.speaks then .next s
  else if exiMax < len then .next ((s.recordRx k).undecoded k).settle
  else .next ((s.recordRx k).appProtocol k list).settle

/-! ### Application messages -/

/-- An ISO 15118-20 protocol. -/
def is20 (p : Proto) : Bool := p = .iso20 || p = .iso20mcs

/-- The vehicle's stop (R144, R176, R179): it ends the transfer, and is answered on the way to FINISHING. -/
def State.evStops (s : State) (k : Nat) : State :=
  let c := s.ctx k
  if c.st = .charging || c.st = .renegotiate then (s.answerEv k .ok).endSess k .evStop false
  else if c.st = .stopping || c.st = .opening || c.st = .weldCheck then s.answerEv k .ok
  else s.outOfSeq k

/-- The vehicle's session stop (R146). -/
def State.evSessionStop (s : State) (k : Nat) : State :=
  let c := s.ctx k
  if c.st = .unplugWait then (s.answerEv k .ok).freeSess k
  else if c.st = .finishing then s.answerEv k .ok else s.outOfSeq k

/-- The services that service discovery offers (R179): DC, and DC bidirectional under ISO 15118-20 DC on a bay whose BAYMAP
enables export. BAYMAP lists no bridged bay. -/
def State.servicesOf (s : State) (k : Nat) : List Service :=
  let c := s.ctx k
  .dc :: (if c.proto = .iso20 && !c.bridged && (s.cBay c.bay).exportOn then [.dcBpt] else [])

/-- A service selection (R179). -/
def State.selectService (s : State) (k : Nat) (v : Service) : State :=
  if (s.servicesOf k).contains v then (s.modCtx k (fun c => { c with bpt := decide (v = .dcBpt) })).answerEv k .ok
  else s.answerEv k .serviceSelectionFailed

/-- A decoded message in its session state (R179, R180). -/
def State.v2g (s : State) (k : Nat) (m : V2g) : State :=
  let c := s.ctx k
  let inSt (l : List Sess) : Bool := l.contains c.st
  let ok := s.answerEv k .ok
  match m with
  | .undecodable => s.undecoded k
  | .badHeader => { s with vlk := { s.vlk with decodeErr := s.vlk.decodeErr + 1 } }
  | .sessionSetup =>
    if !inSt [.negotiate] || c.proto = .none then s.outOfSeq k
    else if is20 c.proto then ok.modCtx k (fun c => { c with setup := true })
    else ok.enterAuth k
  | .authSetup => if inSt [.negotiate] && is20 c.proto && c.setup then ok.enterAuth k else s.outOfSeq k
  | .serviceDiscovery => if inSt [.authorise] then s.answerEv k (.services (s.servicesOf k)) else s.outOfSeq k
  | .serviceSelect v => if inSt [.authorise] then s.selectService k v else s.outOfSeq k
  | .paymentDetails => if inSt [.authorise] && c.proto = .iso2 then ok else s.outOfSeq k
  | .authorization => if inSt [.authorise] then s.answerEv k .ongoing else s.outOfSeq k
  | .chargeParam vMax iMax =>
    if inSt [.locking] || (inSt [.renegotiate] && c.proto = .iso2) then ok.modCtx k (fun c => { c with vMax := vMax, iMax := iMax }) else s.outOfSeq k
  | .scheduleExchange => if inSt [.locking, .renegotiate] && is20 c.proto then ok else s.outOfSeq k
  | .cableCheck => if inSt [.locking, .cableCheck] then s.answerEv k .ongoing else s.outOfSeq k
  | .preCharge v =>
    if inSt [.precharge, .closing] then
      let s1 := ok.modCtx k (fun c => { c with vTgt := v })
      if c.bridged && c.st = .precharge && c.vTgt ≠ v then s1.stepCmd k 3 else s1
    else s.outOfSeq k
  | .powerStart =>
    if inSt [.precharge] && c.preDone && c.ending = .none then ok.powerStart k
    else if inSt [.closing] then ok
    else if inSt [.renegotiate] then ok.setSt k .charging
    else s.outOfSeq k
  | .chargeLoop i v => if inSt [.charging] then (s.modCtx k (fun c => { c with iReq := i, vTgt := v })).answerEv k .ok else s.outOfSeq k
  | .powerStop => s.evStops k
  | .pause => if inSt [.finishing, .unplugWait] then s.evSessionStop k else s.evStops k
  | .renegotiate => if inSt [.charging] && c.proto ≠ .din then ok.setSt k .renegotiate else s.outOfSeq k
  | .weldingDetection o =>
    if inSt [.stopping, .opening, .weldCheck] then ok.modCtx k (fun c => { c with vehOpen := o }) else s.outOfSeq k
  | .errorCode => s.endSess k .evError false
  | .sessionStop => s.evSessionStop k

/-- The context keeps what Debarker decoded (R181, R183). -/
def State.keepMsg (s : State) (k : Nat) (m : V2g) : State :=
  if m = .undecodable || m = .badHeader then s else s.modCtx k (fun c => { c with lastMsg := some m })

/-- V2G_MESSAGE_RX (R174, R179 to R182): `len` is the payload's length; a payload that is too long is dropped unread. -/
def execV2gMessageRx (k len : Nat) (m : V2g) (s : State) : Res :=
  let c := s.ctx k
  if s.sys.inReset || c.st = .free || !c.speaks then .next s
  else if exiMax < len then .next ((s.recordRx k).undecoded k).settle
  else .next ((((s.recordRx k).keepMsg k m).v2g k m).settle.requestNow s k)

/-- V2G_MESSAGE_TIMEOUT (R147, R180): the path of R149. -/
def execV2gMessageTimeout (k : Nat) (s : State) : Res :=
  let c := s.ctx k
  if s.sys.inReset || c.st = .free || !c.tcp then .next s else .next (s.endSess k .msgTimeout false).settle

/-! ### Contract certificates -/

/-- Each certificate of a chain, leaf first, is signed with the key of the next, the last with the root's (R187). -/
def chainSigned : List ContractCert → Nat → Bool
  | [], _ => true
  | [c], r => decide (c.signer = r)
  | c :: d :: t, r => decide (c.signer = d.key) && chainSigned (d :: t) r

/-- The leaf signs and is no authority; a sub-CA is one and signs certificates (R187). -/
def usageOk (l : List ContractCert) : Bool :=
  (match l.head? with | some c => c.digSign && !c.ca | none => false) && l.tail.all (fun c => c.ca && c.certSign)

/-- The first check of R187 that a chain fails, none where it passes. DESIGN CHOICE (assumption 42): the order in which the
checks are looked at. -/
def State.contractFail (s : State) (k : Nat) (o : ContractOp) : Option ContractFail :=
  let r := tget ({} : Root) s.vlk.roots o.root
  let x := s.ctx k
  if o.certs.length = 0 || 3 < o.certs.length then some .chainLength
  else if !o.certs.all (fun c => decide (c.der.length ≤ 800)) then some .size
  else if r.kind ≠ 1 && r.kind ≠ 2 then some .root
  else if !chainSigned o.certs r.key then some .signature
  else if !usageOk o.certs then some .usage
  else if !o.certs.all (fun c => decide (c.notBefore ≤ s.tim.sec) && decide (s.tim.sec ≤ c.notAfter)) then some .validity
  else if o.signed ≠ x.challenge || x.challenge = [] || (o.certs.head?.map (fun c => c.key)) ≠ some o.signer then some .challenge
  else none

/-- CONTRACT_CERT_VERIFY (R134, R135, R187, R188): a chain that passes raises AUTH_REQ with the eMAID, or waits while a
request is outstanding; one that fails is answered with the code of the check it failed. -/
def execContractCertVerify (k : Nat) (cert : ContractOp) (s : State) : Res :=
  let c := s.ctx k
  if s.sys.inReset || c.st ≠ .authorise || c.proto = .din || c.proto = .none || !c.speaks then .next s
  else
    let s1 := s.modCtx k (fun c => { c with contractSeen := true })
    match s.contractFail k cert with
    | some why => .next (({ s1 with vlk := { s1.vlk with certFail := s1.vlk.certFail + 1 } }).answerEv k (.certificateFailed why))
    | none =>
      let s2 := s1.modCtx k (fun c => { c with chainOk := true, chain := cert.certs.map (fun x => x.der) })
      if c.authorised || !s.methodOn k .contract then .next s2
      else if c.reqOut.isSome then .next (s2.modCtx k (fun c => { c with conDue := some (cert.emaid.take 24) }))
      else .next (s2.authReq k .contract (cert.emaid.take 24))

end Sys2Proof.Machine
end

