-- ==== Sys2Proof/Machine/LinkEv.lean ====
section
/-! DEFINITION. The meanings of SLAC's messages, of the bridged bays' tunnel and of the VLK link commands (R128, R151,
R169 to R173, R189 to R195). -/
namespace Sys2Proof.Machine

/-! ### SLAC (R169, R170) -/

/-- A CCS bay whose session is in LINK takes SLAC messages. -/
def State.slacOn (s : State) (n : Nat) : Bool := !s.sys.inReset && s.localCtx n && !(s.cBay n).mcs && decide ((s.ctx n).st = .link)

/-- The message carries the stored RUN_ID. -/
def State.slacRun (s : State) (n runId : Nat) : Bool := s.slacOn n && decide ((s.bay n).runId = some runId)

/-- CM_SLAC_PARM_REQ: the first is accepted; a repetition is answered again, another RUN_ID ignored. -/
def execCmSlacParmReq (bay runId mac : Nat) (s : State) : Res :=
  let b := s.bay bay
  if !s.slacOn bay then .next s
  else if b.lstate = .waitParm then
    let s1 := s.modBay bay (fun b => { b with runId := some runId, vehMac := mac, sounds := 0, groupSums := [], announced := 0, lstate := .sounding, slacRuns := b.slacRuns + 1 })
    .next (s1.send (.slac bay (.parmCnf runId mac)))
  else if b.runId = some runId && b.lstate ≠ .matched then .next (s.send (.slac bay (.parmCnf runId b.vehMac)))
  else .next s

/-- Add a sound's attenuations to the sums, carrier group by carrier group (R169). -/
def addGroups : List Nat → List Nat → List Nat
  | [], l => l
  | x :: r, [] => x :: r
  | x :: r, y :: l => (x + y) :: addGroups r l

/-- The average attenuation of each carrier group over the sounds received (R169). -/
def Bay.averages (b : Bay) : List Nat := b.groupSums.map (fun (x : Nat) => (divRound (x : Int) b.sounds).toNat)

/-- CM_ATTEN_CHAR.IND goes out with the averages; `ATTN` is their mean (R194, assumption 42). With no sound received
nothing is sent. -/
def State.attenSend (s : State) (n : Nat) : State :=
  let b := s.bay n
  let l := b.averages
  let s1 := s.modBay n (fun b => { b with lstate := .waitMatch, attn := satTo 255 (divRound (l.foldl (fun a x => a + x) 0 : Nat) l.length).toNat })
  if b.sounds = 0 then s1 else s1.send (.slac n (.attenCharInd (b.runId.getD 0) l b.sounds))

/-- CM_MNBC_SOUND_IND: up to the count announced; `attens` gives the attenuation of each carrier group. -/
def execCmMnbcSoundInd (bay runId announced : Nat) (attens : List Nat) (s : State) : Res :=
  if !s.slacRun bay runId || (s.bay bay).lstate ≠ .sounding then .next s
  else
    let s1 := s.modBay bay (fun b => { b with announced := announced, sounds := b.sounds + 1, groupSums := addGroups b.groupSums attens })
    if announced ≤ (s1.bay bay).sounds then .next (s1.attenSend bay) else .next s1

/-- TT_EVSE_MATCH_MNBC_EXPIRY: with no sound received the bay returns to step 1. -/
def execTtEvseMatchMnbcExpiry (bay : Nat) (s : State) : Res :=
  if !s.slacOn bay || (s.bay bay).lstate ≠ .sounding then .next s
  else if (s.bay bay).sounds = 0 then .next (s.modBay bay (fun b => { b with lstate := .waitParm, runId := none }))
  else .next (s.attenSend bay)

/-- The bay waits for the match, with or without validation. -/
def State.slacMatching (s : State) (n runId : Nat) : Bool :=
  s.slacRun n runId && (decide ((s.bay n).lstate = .waitMatch) || decide ((s.bay n).lstate = .validate))

/-- CM_ATTEN_CHAR_RSP: validation follows where BAYMAP enables it. -/
def execCmAttenCharRsp (bay runId : Nat) (s : State) : Res :=
  if s.slacMatching bay runId then .next (s.modBay bay (fun b => { b with lstate := if (s.cBay bay).validate then .validate else .waitMatch })) else .next s

/-- CM_VALIDATE_REQ: answered, or answered as not required. -/
def execCmValidateReq (bay runId : Nat) (s : State) : Res :=
  if s.slacMatching bay runId then .next (s.send (.slac bay (.validateCnf runId (s.cBay bay).validate))) else .next s

/-- CM_SLAC_MATCH_REQ (R169, R170): a fresh NMK of 128 random bits, and the NID derived from it. -/
def execCmSlacMatchReq (bay runId : Nat) (s : State) : Res :=
  if s.slacMatching bay runId then
    let d := s.draw
    let nmk := freeBytes d.1 16
    let nid := Config.nidOf nmk
    .next ((d.2.modBay bay (fun b => { b with lstate := .matched, nmk := nmk, nid := nid })).send (.slac bay (.matchCnf runId nid nmk)))
  else .next s

/-! ### The tunnel (R190 to R192) -/

/-- The bridged bay of a satellite whose settings give the tunnel's key. -/
def State.satCfg (s : State) (sat : Nat) : Option BridgedCfg :=
  (s.img.vlink.bridged.find? (fun p => p.2.used && decide (p.2.sat = sat))).map (fun p => p.2)

/-- Authenticate a tunnel frame (R191): the state with its counter taken, or with the drop counted. A frame of a version
other than 1 is dropped uncounted (R190, assumption 42). -/
def State.tunTake (s : State) (f : TunFrame) : State × Bool :=
  let drop : State := { s with vlk := { s.vlk with tunDrops := s.vlk.tunDrops + 1 } }
  if f.ver ≠ 1 then (s, false)
  else match s.satCfg f.sat with
  | none => (drop, false)
  | some c =>
    if !s.keyFor c.slot 2 || f.signer ≠ (s.slot c.slot).key || 1518 < f.payload.length then (drop, false)
    else
      let w := tget ({} : Window) s.vlk.tunRx f.sat
      if w.fresh 64 f.ctr then ({ s with vlk := { s.vlk with tunRx := tset {} s.vlk.tunRx f.sat (w.take 64 f.ctr) } }, true)
      else (drop, false)

/-- The frame's bay is one of its satellite's. -/
def State.tunBay (s : State) (f : TunFrame) : Bool := (s.cBridged f.bb).used && decide ((s.cBridged f.bb).sat = f.sat)

/-- A satellite's request for a context (R127, R128, R145, R192): granted with version 1, or refused with cause 1 = pool
empty, 2 = no common version, 3 = bay unknown, or under its weld lock out of service. A bay that has its session is granted
it again. -/
def State.ctxAsk (s : State) (f : TunFrame) : State :=
  if !s.tunBay f || s.vlk.weldB.contains f.bb then s.tunSend f.sat f.bb (.refuse 3)
  else if 1 < f.verLo || f.verHi < 1 then s.tunSend f.sat f.bb (.refuse 2)
  else if (s.bridgedCtx f.bb).isSome then s.tunSend f.sat f.bb (.grant 1)
  else match s.poolCtx with
    | none => (s.setEvt 0x05 2).tunSend f.sat f.bb (.refuse 1)
    | some k =>
      let s1 := (s.setCtx k { bay := f.bb, bridged := true, st := .plugged, ownMac := tget 0 s.img.net.macs (256 + f.bb) }).setSt k .link
      s1.tunSend f.sat f.bb (.grant 1)

/-- A tunnel frame that arrives, with what it does once authenticated. -/
def State.onTunnel (s : State) (f : TunFrame) (act : State → State) : State :=
  if s.sys.inReset then s
  else
    let r := s.tunTake f
    if r.2 then (act r.1).settle else r.1

/-- CTX_REQ (R192). -/
def execCtxReq (f : TunFrame) (s : State) : Res := .next (s.onTunnel f (fun s => s.ctxAsk f))

/-- TUNNEL_DATA (R191): the vehicle's frame is delivered to the bay's context. -/
def execTunnelData (f : TunFrame) (mac : Nat) (s : State) : Res :=
  .next (s.onTunnel f (fun s => match s.tunBay f, s.bridgedCtx f.bb with
    | true, some k => s.modCtx k (fun c => { c with mac := mac })
    | _, _ => s))

/-- TUNNEL_LINK_UP (R192). -/
def execTunnelLinkUp (f : TunFrame) (s : State) : Res :=
  .next (s.onTunnel f (fun s => match s.tunBay f, s.bridgedCtx f.bb with
    | true, some k => if (s.ctx k).st = .link then s.linkIsUp k else s
    | _, _ => s))

/-- TUNNEL_LINK_DOWN (R173, R192). -/
def execTunnelLinkDown (f : TunFrame) (s : State) : Res :=
  .next (s.onTunnel f (fun s => match s.tunBay f, s.bridgedCtx f.bb with
    | true, some k => s.linkLost k
    | _, _ => s))

/-! ### Link commands (R189, R195) -/

/-- The link kind of a context (R194, R195). -/
def State.linkKind (s : State) (k : Nat) : Nat := if s.localCtx k then (if (s.cBay k).mcs then 2 else 1) else 0

/-- VLK_LINK_INFO. -/
def execVlkLinkInfo (c : Cmd) (k : Nat) (s : State) : Res :=
  .next (s.runCmd c 0x0508 (fun s =>
    if 127 < k then fail s .range
    else
      let x := s.ctx k
      let mac := if s.localCtx k && x.mac = 0 then (s.bay k).vehMac else x.mac
      okay s (le 1 x.proto.ctorIdx ++ le 1 x.transport.ctorIdx ++ le 2 x.suite.toNat ++ be 6 mac ++ le 1 (s.linkKind k)
        ++ le 1 (if s.localCtx k then (s.bay k).attn else 0))))

/-- VLK_CERT_READ. -/
def execVlkCertRead (c : Cmd) (k dst size : Nat) (s : State) : Res :=
  .next (s.runCmd c 0x0509 (fun s =>
    let x := s.ctx k
    if 127 < k then fail s .range
    else if x.st.ctorIdx < 4 || !x.chainOk then fail s .state
    else if size < 2400 || !dstOk dst size then fail s .range
    else okay (s.writeGen dst x.chain.flatten) ((List.range 3).foldl (fun l i => l ++ le 2 (x.chain.getD i []).length) [])))

/-- The lowest free place of the root store. -/
def State.freeRoot (s : State) : Option Nat := (List.range 32).find? (fun i => decide ((tget ({} : Root) s.vlk.roots i).kind = 0))

/-- VLK_ROOT_INSTALL: kind 1 = MO, 2 = V2G; the DER octets come with the command from its General buffer. -/
def execVlkRootInstall (c : Cmd) (kind key : Nat) (wellFormed : Bool) (der : List Byte) (s : State) : Res :=
  .next (s.runCmd c 0x050A (fun s =>
    if s.key.lc ≠ .field && s.key.lc ≠ .service then fail s .locked
    else if (kind ≠ 1 && kind ≠ 2) || !wellFormed || der.length = 0 || 1024 < der.length then fail s .range
    else match s.freeRoot with
      | none => fail s .nospace
      | some i => okay { s with vlk := { s.vlk with roots := tset {} s.vlk.roots i { kind := kind, key := key, der := der } } } (le 1 i)))

/-- VLK_ROOT_REMOVE. -/
def execVlkRootRemove (c : Cmd) (index : Nat) (s : State) : Res :=
  .next (s.runCmd c 0x050B (fun s =>
    if s.key.lc ≠ .field && s.key.lc ≠ .service then fail s .locked
    else if 31 < index || (tget ({} : Root) s.vlk.roots index).kind = 0 then fail s .range
    else okay { s with vlk := { s.vlk with roots := tset {} s.vlk.roots index {} } }))

end Sys2Proof.Machine
end

