-- ==== Sys2Proof/Machine/ReaderCmd.lean ====
section
/-! DEFINITION. The meanings of the reader's and the Service Tag's events and of the NFC commands (R402 to R422). -/
namespace Sys2Proof.Machine

/-- DETECTION_PING (R404, R405): a ping re-takes or moves the reference, or detects and asks for a transaction. In
IDLE-SITE, where the STRUCT section keeps the card listener, a detection is the card wake source (R56). Readings and reference are in units of 0.1 % and 0.1 degree. -/
def execDetectionPing (ant : Nat) (amp ph : Int) (s : State) : Res :=
  let a := s.ant ant
  let up := !s.sys.inReset && s.nfc.run && decide (ant < 8) && (s.cAnt ant).en && !a.suspended && !s.readerBusy
    && (s.awake || (decide (s.sys.pstate = .idleSite) && s.img.struct_.wakeKeep.getLsbD 2))
  if !up then .next s
  else if a.retake then .next (s.setAnt ant { a with retake := false, refAmp := amp, refPh := ph })
  else if detects a amp ph then
    let s1 := (s.setAnt ant { a with detects := a.detects + 1 }).setEvt 0x0F ant
    if s.awake then .next (s1.readerAsk ant).settle
    else
      let s2 := { s1 with nfc := { s1.nfc with wakeAnt := some ant } }
      .next (if s2.canWake 2 0 then s2.wakeUp 2 (((s.cAnt ant).bay).getD 0) else s2)
  else .next (s.setAnt ant { a with refAmp := moveRef a.refAmp amp, refPh := moveRef a.refPh ph })

/-- CARD_HOLD_EXPIRY (R407): the field goes off. -/
def execCardHoldExpiry (s : State) : Res := if s.nfc.heldCard.isSome then .next s.fieldOff.settle else .next s

/-- NFC_TRANSACTION (R407, R408): the field is on, so the cards there are read. -/
def execNfcTransaction (ant : Nat) (cards : List Card) (s : State) : Res :=
  if s.awake && s.nfc.fieldOn && s.nfc.ant = ant && s.nfc.heldCard.isNone && (s.hst.flights.find? (pollOn ant)).isNone
  then .next (s.nfcRun ant cards).1.settle else .next s

/-- TAG_SELECT (R415): E105 latches the active buffer, E106 the excerpt; another file ends the latch. -/
def execTagSelect (file : Nat) (s : State) : Res :=
  let s1 := if file = s.nfc.selected then s else s.unlatch
  let n := { s1.nfc with selected := file }
  if file = 0xE105 then .next { s1 with nfc := { n with latchBuf := some n.activeBuf } }
  else if file = 0xE106 then .next { s1 with nfc := { n with latchHead := some n.exHead } }
  else .next { s1 with nfc := n }

/-- TAG_READ_BINARY (R411, R415, R418). -/
def execTagReadBinary (page count : Nat) (s : State) : Res :=
  .next (s.send (.tagData ((List.range count).foldl (fun l i => l ++ (if page + i < 256 then s.fieldPage (page + i) else [])) [])))

/-- TAG_UPDATE_BINARY (R411, R416): the field writes the mailbox where `MBOX` is set. -/
def execTagUpdateBinary (page : Nat) (data : List Byte) (s : State) : Res :=
  if s.nfc.mbox && decide (0xE0 ≤ page) && decide (32 * page + data.length ≤ 8192) then
    let s1 := s.writeTag page data
    .next (s1.setEvtIf (!s.sys.inReset) 0x0F 10)
  else .next s

/-- TAG_FIELD_LOSS (R415): the latch ends and what was deferred is published. -/
def execTagFieldLoss (s : State) : Res :=
  let s1 := { s with nfc := { s.nfc with tagField := false, selected := 0, ants := tmap {} (fun _ (a : Ant) => { a with suspended := false }) s.nfc.ants } }
  .next s1.unlatch

/-- TAG_NEAR_RESUME (R419). -/
def execTagNearResume (s : State) : Res :=
  .next { s with nfc := { s.nfc with ants := tmap {} (fun _ (a : Ant) => { a with suspended := false }) s.nfc.ants } }

/-- TAG_FIELD_SESSION_START (R419, R421): the host side sees a field session and spares TAG_NEAR. -/
def execTagFieldSessionStart (s : State) : Res :=
  if s.tagHost then
    let s1 := { s with nfc := { s.nfc with tagField := true } }.setEvt 0x0F 12
    .next ((List.range 8).foldl (fun a n => if (a.cAnt n).en && (a.cAnt n).tagNear then a.modAnt n (fun x => { x with suspended := true }) else a) s1)
  else .next s

/-- TOTALS_PUBLISH (R413): every 1 s while a register has changed since the last publication. -/
def execTotalsPublish (s : State) : Res := if s.nfc.regsChanged && s.tly.running then .next s.publishTotals else .next s

/-- EXCERPT_COPY (R414). -/
def execExcerptCopy (s : State) : Res := if s.sys.inReset then .next s else .next s.publishExcerpt

/-- NFC_REFERENCE_RETURN (R63, R417): reader and host side run again; deferred publication proceeds. -/
def execNfcReferenceReturn (s : State) : Res :=
  if s.sys.inReset then .next s
  else
    let s1 := { s with sys := { s.sys with refLost := false }, nfc := { s.nfc with run := (List.range 8).any (fun n => (s.cAnt n).en) } }
    .next s1.publishDue

/-- NFC_POLL (R407, R422): it waits for its permit and answers with the number of cards read. -/
def execNfcPoll (c : Cmd) (ant : Nat) (cards : List Card) (s : State) : Res :=
  .next (s.runSettle c 0x0F01 (fun s =>
    if 8 ≤ ant || !(s.cAnt ant).en then fail s .range
    else if !s.nfc.run || (s.ant ant).suspended || s.readerBusy then fail s .state
    else .wait (.poll ant cards) (s.readerAsk ant)))

/-- NFC_XCHG (R422): exchange an APDU with the held card; without a response the card is released. -/
def execNfcXchg (c : Cmd) (ant : Nat) (apdu : List Byte) (resp : Option (List Byte)) (dst : Nat) (s : State) : Res :=
  .next (s.runSettle c 0x0F02 (fun s =>
    if apdu.length = 0 || 261 < apdu.length || !dstOk dst 320 then fail s .range
    else if s.nfc.heldCard.isNone || s.nfc.ant ≠ ant then fail s .state
    else
      let s1 := s.send (.apdu ant)
      match resp with
      | some r => okay (s1.writeGen dst (r.take 320)) (le 4 (min 320 r.length))
      | none => .done { st := s1.fieldOff, status := .timeout, keep := true }))

/-- NFC_RELEASE (R422). -/
def execNfcRelease (c : Cmd) (ant : Nat) (s : State) : Res :=
  .next (s.runSettle c 0x0F03 (fun s =>
    if s.nfc.heldCard.isNone || s.nfc.ant ≠ ant then fail s .state
    else okay s.fieldOff))

/-- NFC_TAG_WRITE (R416, R422); `heldMs` says how long an open field transaction on the page holds it. -/
def execNfcTagWrite (c : Cmd) (page : Nat) (data : List Byte) (heldMs : Nat) (s : State) : Res :=
  .next (s.runCmd c 0x0F04 (fun s =>
    if !hostWritable page then fail s .range
    else if !s.tagHost then fail s .state
    else if heldMs = 0 then okay (s.writeTag page (padTo 32 data))
    else if heldMs ≤ 50 then
      let s1 := s.writeTag page (padTo 32 data)
      .done { st := { s1 with nfc := { s1.nfc with held := s.nfc.held + 1 } }, status := .hostHeld }
    else .done { st := { s with nfc := { s.nfc with busy := s.nfc.busy + 1 } }, status := .busy, keep := true }))

/-- NFC_TAG_READ (R422). -/
def execNfcTagRead (c : Cmd) (page count dst : Nat) (s : State) : Res :=
  .next (s.runCmd c 0x0F05 (fun s =>
    if count = 0 || 256 < count || 256 < page + count || !dstOk dst (32 * count) then fail s .range
    else if !s.tagHost then fail s .state
    else okay (s.writeGen dst ((List.range count).foldl (fun l i => l ++ s.hostPage (page + i)) []))))

end Sys2Proof.Machine
end

