-- ==== Sys2Proof/Machine/RegView.lean ====
section
/-! DEFINITION. What every register reads as (R5 to R9): one function per block, by offset within the block's page. A
field given by the image reads 0 while no image runs, unless its reset value is another. -/
namespace Sys2Proof.Machine

/-- The two's complement of a signed field. -/
def twos (w : Nat) (x : Int) : Nat := (x % (2 ^ w : Int)).toNat

/-- A bit mask of the numbers below `n` that a test names. -/
def maskOf (n : Nat) (f : Nat → Bool) : Nat := (List.range n).foldl (fun a i => a + (if f i then 2 ^ i else 0)) 0

/-- The low and the high word of a 64-bit register, by the offset's bit 2. -/
def half64 (off v : Nat) : Word := BitVec.ofNat 32 (if off % 8 = 0 then v else v / 2 ^ 32)

/-- The EVT register of a block. -/
def State.evtReg (s : State) (blk : Nat) : Word := tget 0 s.evt blk

/-- An image runs. -/
def State.hasImage (s : State) : Bool := decide (s.img.struct_.role ≠ .none)

/-- A clock domain runs (R50, R53, R59): in ACTIVE and FULL every domain the role needs; the reader's outside a ping only
there; a start that waits or has halted runs AON, WAKE from its step 1, SEC from 2 and DRAM from 4. -/
def State.domainRuns (s : State) (k : Nat) : Bool :=
  let up := s.awake
  let site := up || (!s.sys.inReset && decide (s.sys.pstate = .idleSite))
  let step (n : Nat) : Bool := s.sys.inReset && decide (n ≤ s.sys.bootStage)
  match k with
  | 1 => true
  | 2 => site || step 1
  | 5 => up || step 4
  | 6 => up || (site && s.img.struct_.wakeKeep.getLsbD 4)
  | 7 => site
  | 8 => up || step 2
  | 9 => site && s.saf.safeClk
  | 10 => up && decide (s.img.struct_.role ≠ .hub)
  | 12 => up && (List.range 8).any (fun n => (s.cBay n).enabled)
  | 13 => site
  | 14 => up && !s.sys.refLost
  | _ => up

/-- `SYS_CLK_STAT.RUN` (R59, R70): bit k - 1 is domain k; a part held in reset shows the reset value (R516). -/
def State.clkRun (s : State) : Nat := if s.closedOff then 0 else maskOf 14 (fun i => s.domainRuns (i + 1))

/-- The modulator clocks `MCLK0` and `MCLK1` toggle while SCAL runs, and are low otherwise (R47, R221, R248). -/
def State.mclkOn (s : State) : Bool := s.domainRuns 10

/-- `SYS_STATE.PSTATE`: a reset or a start with the supplies present shows code 0 (assumption 15). -/
def pstateCode (p : PState) : Nat := if p = .starting then 0 else p.ctorIdx

/-- SYS (R70). `SYS_PMT_USED.WAITING` counts a conduction request that Choker holds back (R364) too (assumption 45). -/
def State.regSys (s : State) (off : Nat) : Word :=
  match off with
  | 0x0000 => bits [(0, 3, pstateCode s.sys.pstate), (4, 4, s.sys.bootStage), (8, 1, s.sys.bootBank.toNat), (9, 1, s.sys.migrated.toNat), (10, 2, s.sys.straps.bootSrc), (12, 4, s.sys.bootFail)]
  | 0x0004 => s.sys.rstCause.setWidth 32
  | 0x0010 => s.sys.wakeEn.setWidth 32
  | 0x0014 => bits [(0, 10, s.sys.wakeSrc.toNat), (10, 3, s.sys.wakeBay)]
  | 0x0020 => bits [(0, 14, s.clkRun), (16, 1, s.sys.nfcLoss.toNat), (17, 1, s.sys.x32Loss.toNat)]
  | 0x0030 => bits [(0, 9, s.sys.vauxThr), (9, 1, s.sys.pfail.toNat)]
  | 0x0100 => bits [(0, 24, s.permits.budget)]
  | 0x0104 => bits [(0, 24, grantedPower s.permits.grants), (24, 8, satTo 255 s.permits.waiting.length)]
  | 0x0108 => s.permits.fails
  | _ => 0

/-- The structure that migrates and its records still below HIGH (R89). -/
def State.migrating (s : State) : Nat × Nat :=
  match s.nextRecord with
  | some r => if s.cfg.migPending then (r.1, countIf s.waitingRecs (fun x => x.1 = r.1)) else (0, 0)
  | none => (0, 0)

/-- CFG (R94). -/
def State.regCfg (s : State) (off : Nat) : Word :=
  let c := s.cfg
  let h : ImageHeader := c.runHdr.getD { imageVer := 0, arbCtr := 0, fmtMinor := 0, fmtMajor := 0 }
  match off with
  | 0x0000 => bits [(0, 1, if c.fromPcie then 0 else c.runBank), (1, 1, c.fromPcie.toNat), (2, 1, c.runTrial.toNat), (3, 2, c.triesLeft), (5, 1, c.fallback.toNat),
      (6, 1, c.reverify.toNat), (7, 1, c.migPending.toNat), (8, 1, c.pcieRej.toNat)]
  | 0x0004 => bits [(0, 32, h.imageVer)]
  | 0x0008 => bits [(0, 32, h.arbCtr)]
  | 0x000C => bits [(0, 32, c.arbMin)]
  | 0x0010 => bits [(0, 8, h.fmtMinor), (8, 8, h.fmtMajor), (16, 8, 3), (24, 8, 1)]
  | 0x0014 => bits [(0, 8, s.migrating.1), (8, 24, s.migrating.2)]
  | 0x0020 => bits [(0, 32, (s.bank 0).ver)]
  | 0x0024 => bits [(0, 32, (s.bank 1).ver)]
  | 0x0040 => bits [(0, 23, c.xferLen), (31, 1, c.own.toNat)]
  | _ => 0

/-- LND (R124): every point that is not GOOD counts, UNINIT included. -/
def State.regLnd (s : State) (off : Nat) : Word :=
  match off with
  | 0x0000 => bits [(0, 21, s.lnd.points)]
  | 0x0004 => bits [(0, 21, s.lnd.points - countIf s.lnd.pts (fun p => p.2.val.qual = .good))]
  | 0x0010 => s.lnd.eccCorr
  | 0x0014 => s.lnd.eccUncorr
  | 0x0018 => bits [(0, 24, s.lnd.eccAddr)]
  | 0x0020 => s.evtReg 0x02
  | _ => 0

/-- HST (R125). -/
def State.regHst (s : State) (off : Nat) : Word :=
  let h := s.hst
  if off = 0 then bits [(0, 8, h.coreMinor), (8, 8, h.coreMajor), (16, 8, h.hostMinor), (24, 8, h.hostMajor)]
  else if 0x100 ≤ off && off < 0x100 + 0x20 * 42 then
    let Q := s.queue ((off - 0x100) / 0x20)
    match (off - 0x100) % 0x20 with
    | 0x00 => bits [(0, 24, Q.base)]
    | 0x04 => bits [(0, 24, Q.res)]
    | 0x08 => bits [(0, 4, Q.log2), (4, 1, Q.en.toNat), (5, 5, Q.vector), (10, 1, Q.irqPend.toNat), (11, 1, Q.ovf.toNat), (12, 1, Q.cfgErr.toNat)]
    | 0x0C => bits [(0, 16, Q.pi)]
    | 0x10 => bits [(0, 16, Q.ci)]
    | 0x14 => bits [(0, 32, Q.seq)]
    | _ => 0
  else if 0x1000 ≤ off && off < 0x1000 + 0x10 * 21 then
    let c := s.cnt ((off - 0x1000) / 0x10)
    match off % 0x10 with
    | 0x00 => c.ok
    | 0x04 => c.state
    | 0x08 => c.fail
    | _ => 0
  else 0

/-- The pilot output as `BAY_CPn_STAT` shows it: PWM, and the duty in units of 0.05 % (R194). -/
def genDuty : PilotGen → Nat × Nat
  | .minus12 => (0, 0)
  | .plus12 => (0, 2000)
  | .pwm d => (1, d)
  | .zero => (0, 0)

/-- BAY (R167). -/
def State.regBay (s : State) (off : Nat) : Word :=
  if off < 0x80 then
    let n := off / 0x10
    let b := s.bay n
    match off % 0x10 with
    | 0x0 => bits [(0, 1, b.manual.toNat), (1, 2, b.manOut), (3, 11, b.manDuty)]
    | 0x4 => bits [(0, 3, b.pilot.ctorIdx), (3, 1, (genDuty b.gen).1), (4, 11, (genDuty b.gen).2), (15, 1, b.diodeOk.toNat), (16, 16, b.changes.toNat)]
    | 0x8 => bits [(0, 2, b.prox.ctorIdx), (2, 1, (s.cBay n).ppPullup.toNat), (3, 13, b.ppMv)]
    | _ => bits [(0, 16, twos 16 b.vHigh), (16, 16, if (genDuty b.gen).1 = 1 then twos 16 b.vLow else 0)]
  else if off = 0x100 then
    let filt := match (List.range 8).find? (fun n => (s.cBay n).enabled) with | some n => (s.cBay n).cpFilt | none => 0
    s.evtReg 0x04 ||| bits [(24, 5, filt)]
  else 0

/-- VLK (R156, R194). -/
def State.regVlk (s : State) (off : Nat) : Word :=
  let v := s.vlk
  if off < 0x80 then
    let n := off / 0x10
    let b := s.bay n
    match off % 0x10 with
    | 0x0 => bits [(0, 1, (s.cBay n).enabled.toNat), (1, 1, b.inService.toNat), (2, 1, b.drain.toNat), (3, 1, b.weldLock.toNat),
        (4, 4, if (s.cBay n).enabled then (s.cBay n).methods.toNat else 0), (8, 1, (s.cBay n).mcs.toNat)]
    | 0x4 => bits [(0, 3, if (s.cBay n).enabled then b.pilot.ctorIdx else 0), (3, 5, if (s.ctx n).bridged then 0 else (s.ctx n).st.ctorIdx), (8, 8, b.lastEnd.code)]
    | 0x8 => bits [(0, 16, b.sessions.toNat), (16, 16, b.openLoadCnt)]
    | _ => 0
  else if 0x100 ≤ off && off < 0x300 then
    let c := s.ctx ((off - 0x100) / 4)
    bits [(0, 5, c.st.ctorIdx), (5, 1, c.bridged.toNat), (6, 1, c.authorised.toNat), (7, 1, c.warnIso.toNat), (8, 8, c.bay), (16, 8, c.ending.code)]
  else if 0x400 ≤ off && off < 0x480 then
    let n := (off - 0x400) / 0x10
    let b := s.bay n
    match off % 0x10 with
    | 0x0 => bits [(0, 2, if (s.cBay n).enabled then (if (s.cBay n).mcs then 2 else 1) else 0), (2, 4, b.lstate.ctorIdx), (6, 1, b.lowPwr.toNat), (7, 8, b.attn)]
    | 0x4 => bits [(0, 16, b.slacRuns.toNat), (16, 16, b.slacFails.toNat)]
    | _ => 0
  else match off with
    | 0x300 => bits [(0, 8, countIf v.ctxs (fun p => p.2.st ≠ .free)), (8, 8, countIf v.ctxs (fun p => decide (p.2.st ≠ .free) && p.2.bridged)), (16, 16, v.evqDrops)]
    | 0x304 => s.evtReg 0x05
    | 0x310 => bits [(0, 24, v.evqBase)]
    | 0x314 => bits [(0, 4, v.evqLog2), (4, 1, v.evqEn.toNat), (5, 5, v.evqVector), (10, 1, v.evqCfgErr.toNat)]
    | 0x318 => bits [(0, 16, v.evqPi)]
    | 0x31C => bits [(0, 16, v.evqCi)]
    | 0x480 => bits [(0, 16, v.sapFail.toNat), (16, 16, v.decodeErr.toNat)]
    | 0x484 => bits [(0, 16, v.hsFail.toNat), (16, 16, v.certFail.toNat)]
    | 0x488 => bits [(0, 16, v.tunDrops.toNat)]
    | 0x48C => bits [(0, 6, v.roots.length)]
    | _ => 0

/-- YRD (R218). -/
def State.regYrd (s : State) (off : Nat) : Word :=
  let y := s.yrd
  let mode := if !s.hasImage then 0 else if s.allocates then 1 else if s.net.pair = .syncing || s.net.pair = .synced then 3 else if s.isClient then 2 else 0
  match off with
  | 0x0000 => bits [(0, 2, mode), (2, 7, if s.hasImage then s.img.yarder.tCyc else 0), (9, 13, s.img.yarder.count)]
  | 0x0004 => y.cycle
  | 0x0008 => bits [(0, 16, y.lastUs), (16, 16, y.maxUs)]
  | 0x000C => bits [(0, 32, y.pAllow)]
  | 0x0010 => bits [(0, 32, twos 32 y.pGrid)]
  | 0x0020 => s.evtReg 0x06
  | 0x0024 => bits [(0, 16, y.limitSteps.toNat), (16, 16, y.swFaults)]
  | 0x0030 => bits [(0, 1, (y.clientHold || y.clientRamp).toNat), (1, 15, if y.bayCycle.isEmpty then 0 else satTo 32767 ((s.now.toNs - y.setAt.toNs) / 1000000).toNat)]
  | _ => 0

/-- SCL (R246). -/
def State.regScl (s : State) (off : Nat) : Word :=
  let c := s.scl
  if 0x100 ≤ off && off < 0x200 then
    let n := (off - 0x100) / 0x20
    let b := s.mbay n
    match (off - 0x100) % 0x20 with
    | 0x00 => bits [(0, 1, b.low.toNat), (1, 1, b.mfault.toNat), (2, 1, b.lossV.toNat), (3, 1, b.lossIh.toNat), (4, 1, b.lossIl.toNat), (5, 1, b.lossE.toNat),
        (6, 1, b.xchkFail.toNat), (7, 1, b.creep.toNat), (8, 1, b.dirExp.toNat), (9, 3, b.mfCause), (16, 16, b.rangeSw.toNat)]
    | 0x04 => bits [(0, 32, twos 32 (divRound (b.mean100V * 100) 65536))]
    | 0x08 => bits [(0, 32, twos 32 (divRound (b.mean100I * 100) 65536))]
    | 0x0C => bits [(0, 32, twos 32 b.mean100P)]
    | 0x10 => b.gapMs
    | _ => 0
  else if 0x300 ≤ off && off < 0x340 then
    let m := (off - 0x300) / 0x10
    let k := s.cPulse m
    let p := s.pulse m
    match off % 0x10 with
    | 0x0 => bits [(0, 1, k.en.toNat), (1, 3, k.bay), (4, 1, k.exp.toNat), (5, 17, if k.en then k.const else 0), (22, 1, p.test.toNat)]
    | 0x4 => bits [(0, 32, p.backlog)]
    | 0x8 => p.emitted
    | _ => 0
  else match off with
    | 0x0000 => bits [(0, 1, c.run.toNat), (1, 1, c.sealed.toNat), (2, 8, c.calOk.toNat), (10, 16, c.calCnt)]
    | 0x0004 => match s.cfg.runHdr with | some h => Config.fwVer h.bodyDigest | none => 0
    | 0x0008 => bits [(0, 9, s.img.metro.iStart)]
    | 0x0010 => s.evtReg 0x07
    | _ => 0

/-- TLY (R284). -/
def State.regTly (s : State) (off : Nat) : Word :=
  if 0x1000 ≤ off && off < 0x1400 then half64 off (tget 0 s.tly.viewRegs ((off - 0x1000) / 8))
  else if 0x1400 ≤ off && off < 0x1480 then half64 off (tget 0 s.tly.viewSite ((off - 0x1400) / 8))
  else if off = 0x0030 then s.evtReg 0x08
  else if off = 0x0020 && s.tly.view.isEmpty then 0xFFFFFFFF
  else tget 0 s.tly.view off

/-- BLZ (R299). -/
def State.regBlz (s : State) (off : Nat) : Word :=
  let b := s.blz
  match off with
  | 0x0000 => bits [(0, 4, b.active.toNat), (4, 4, b.tampered.toNat), (8, 4, maskOf 4 (fun i => tget TamperMode.disabled b.modes i ≠ .disabled)), (12, 1, b.vbatLow.toNat),
      (13, 1, b.aonLost.toNat), (14, 1, b.logHold.toNat)]
  | 0x0004 => bits ((List.range 4).map (fun i => (2 * i, 2, (tget TamperMode.disabled b.modes i).ctorIdx)))
  | 0x0008 => bits [(0, 7, b.pendingT.length), (16, 16, b.lost)]
  | 0x000C => bits [(0, 16, b.aseq)]
  | 0x0010 => bits [(0, 12, s.legalUsed)]
  | 0x0014 => bits [(0, 32, b.last)]
  | 0x0018 => bits [(0, 32, b.released)]
  | 0x0020 => s.evtReg 0x09
  | _ => 0

/-- IMD (R315). Earth currents are held in mA x 2^16 and shown in 0.1 mA. -/
def State.regImd (s : State) (off : Nat) : Word :=
  if 0x100 ≤ off && off < 0x300 then
    let n := (off - 0x100) / 0x40
    let b := s.imdB n
    let k := s.cBay n
    match (off - 0x100) % 0x40 with
    | 0x00 => bits [(0, 3, b.st.ctorIdx), (3, 1, b.valid.toNat), (4, 1, b.warn.toNat), (5, 1, b.alarm.toNat), (6, 1, b.efWarn.toNat), (7, 1, b.efAlarm.toNat),
        (8, 1, b.measFault.toNat), (9, 3, b.cause.ctorIdx), (12, 5, if k.enabled then b.tH else 0), (17, 3, countIf b.last4 (fun x => x)), (20, 3, b.groupSrc)]
    | 0x04 => bits [(0, 32, b.rF)]
    | 0x08 => bits [(0, 16, satTo 65535 b.cY), (16, 16, satTo 65535 b.tau)]
    | 0x0C => bits [(0, 16, twos 16 b.ef10), (16, 16, satTo 65535 b.efPeak)]
    | 0x10 => bits [(0, 16, s.uRefNow n)]
    | 0x14 => bits [(0, 16, s.isoFault n), (16, 16, s.isoWarn n)]
    | 0x18 => if k.enabled && (s.cMeter n).meEn then bits [(0, 10, s.efTrip n), (10, 10, s.efWarn n), (20, 12, s.efFast n)] else 0
    | 0x1C => if k.enabled && (s.cMeter n).meEn then bits [(0, 10, s.efDly n)] else 0
    | 0x20 => if k.enabled then bits [(0, 12, k.rCpl), (12, 10, k.cyMax), (22, 10, k.cyMin)] else 0
    | 0x24 => bits [(0, 16, b.rejects.toNat), (16, 16, b.alarms)]
    | _ => 0
  else match off with
    | 0x0000 => bits [(0, 8, maskOf 8 (fun n => (s.imdB n).st = .refCheck || (s.imdB n).st = .measuring)), (8, 8, maskOf 8 (fun n => (s.imdB n).lineHeld)),
        (16, 8, maskOf 8 (fun n => (s.cBay n).enabled && (s.cMeter n).meEn))]
    | 0x0004 => s.evtReg 0x0A
    | _ => 0

/-- SAF (R343). Inputs show while Spar has left OFF. -/
def State.regSaf (s : State) (off : Nat) : Word :=
  let f := s.saf
  let on := decide (f.spar ≠ .off)
  match off with
  | 0x0000 => bits [(0, 3, f.spar.ctorIdx), (3, 1, (on && f.heartbeat && f.safeClk).toNat), (4, 1, f.tpRun.toNat), (5, 2, f.unconfirmed.toNat), (7, 1, f.pwdSide.isSome.toNat),
      (8, 1, (decide (f.pwdSide = some .host)).toNat), (9, 1, (decide (f.lockMin ≠ 0)).toNat), (10, 1, (decide (s.safRoom = 0)).toNat), (11, 1, (f.gates.any (fun g => g.2.testDue)).toNat)]
  | 0x0004 => bits [(0, 4, f.diagCause), (4, 6, f.diagDetail)]
  | 0x0010 => bits [(0, 16, if on then maskOf 16 (fun i => !(s.sin i).isOpen) else 0), (16, 16, maskOf 16 (fun i => (s.sin i).trip))]
  | 0x0014 => bits [(0, 16, maskOf 16 (fun i => (s.sin i).fault)), (16, 4, f.tpoFlt.toNat)]
  | 0x0018 => bits ((List.range 16).map (fun i => (2 * i, 2, (s.sin i).cause.ctorIdx)))
  | 0x0020 => bits [(0, 32, maskOf 32 (fun j => (s.gate j).en))]
  | 0x0024 => bits [(0, 32, maskOf 32 (fun j => (s.gate j).req))]
  | 0x0028 => bits [(0, 4, maskOf 4 (fun m => (s.gate (32 + m)).req)), (4, 4, maskOf 4 (fun m => (s.gate (32 + m)).en)), (8, 4, maskOf 4 (fun m => (s.gate (32 + m)).rbFlt))]
  | 0x0030 => s.evtReg 0x0B
  | 0x0040 => if f.hasParams then paramCrc f.params else 0
  | 0x0044 => bits [(0, 11, f.last - f.archived)]
  | 0x0048 => bits [(0, 32, f.last)]
  | 0x004C => bits [(0, 3, f.fails), (3, 4, satTo 15 f.lockouts), (16, 16, f.lockMin)]
  | 0x0100 => bits [(0, 11, countIf s.img.safety.conns (fun p => p.2.used)), (11, 11, countIf f.conns (fun p => p.2.st = .opened))]
  | 0x0104 => bits [(0, 16, f.crcErr.toNat), (16, 16, f.seqErr.toNat)]
  | _ => 0

/-- A lane input's source register (R358). -/
def srcReg (i : LaneIn) : Word := bits [(0, 2, i.kind), (2, 1, i.sqr.toNat), (3, 6, i.lane), (9, 23, i.point)]

/-- The registers of a lane at 0x1000 + 0x80 n; a value written shows from the write on (R6, R355). -/
def laneReg (l : Lane) (c : LaneCfg) (o : Nat) : Word :=
  match o with
  | 0x00 => bits [(0, 1, 1), (1, 3, c.nsec - 1), (4, 1, c.clamp.toNat), (5, 8, c.integ.toNat), (13, 2, c.outKind), (15, 5, c.outCh), (20, 2, c.feAct), (22, 1, c.invProp.toNat)]
  | 0x04 => bits [(0, 15, c.period)]
  | 0x08 => srcReg c.inA
  | 0x0C => srcReg c.inB
  | 0x10 => srcReg c.inC
  | 0x14 => c.inA.gain
  | 0x18 => c.inA.off
  | 0x1C => c.inB.gain
  | 0x20 => c.inB.off
  | 0x24 => c.inC.gain
  | 0x28 => c.inC.off
  | 0x30 => bits [(0, 16, c.outLo.toNat), (16, 16, c.outHi.toNat)]
  | 0x34 => c.outScale
  | 0x38 => c.outOff
  | 0x3C => bits [(0, 16, c.feLim), (16, 16, c.feTime)]
  | 0x40 => bits [(0, 16, c.outSafe.toNat)]
  | 0x44 => bits [(0, 1, l.holdReq.toNat)]
  | 0x48 => bits [(0, 1, l.held.toNat), (1, 1, l.trip.toNat), (2, 1, l.inInvalid.toNat), (3, 1, l.inSat.toNat), (4, 1, l.outClamped.toNat), (5, 1, l.stateSat.toNat),
      (6, 1, l.clampAct.toNat), (16, 16, l.feCnt.toNat)]
  | 0x4C => bits [(0, 32, twos 32 l.y)]
  | _ => 0

/-- PVY (R358). -/
def State.regPvy (s : State) (off : Nat) : Word :=
  if 0x1000 ≤ off && off < 0x3000 then
    let n := (off - 0x1000) / 0x80
    let l := s.lane n
    if l.cfg.configured then laneReg l (l.shown n) ((off - 0x1000) % 0x80) else 0
  else if 0x4000 ≤ off && off < 0x8000 then
    let n := (off - 0x4000) / 0x100
    let l := s.lane n
    let k := off % 0x20 / 4
    if l.cfg.configured && decide (k < 5) then tget 0 (l.shown n).coef (8 * (off % 0x100 / 0x20) + k) else 0
  else match off with
    | 0x0000 => bits [(0, 7, countIf s.pvy.lanes (fun p => p.2.cfg.configured)), (7, 1, s.pvy.run.toNat)]
    | 0x0010 => s.evtReg 0x0C
    | 0x0014 => bits [(0, 32, maskOf 32 (fun i => (s.lane i).trip))]
    | 0x0018 => bits [(0, 32, maskOf 32 (fun i => (s.lane (32 + i)).trip))]
    | _ => 0

/-- CHK (R376). -/
def State.regChk (s : State) (off : Nat) : Word :=
  if 0x100 ≤ off && off < 0x300 then
    let n := (off - 0x100) / 0x10
    let k := s.cChan n
    let c := s.chan n
    if !k.configured then 0
    else match off % 0x10 with
      | 0x0 => bits [(0, 2, k.owner.ctorIdx), (2, 3, k.profile.ctorIdx), (5, 1, k.safety.toNat), (6, 1, k.idleKept.toNat), (7, 5, k.iNom), (12, 3, k.shed), (15, 2, k.pwmF), (17, 1, 1)]
      | 0x4 => bits [(0, 9, if k.profile = .coil || k.profile = .capacitive then k.tWin else 0), (9, 7, if k.profile = .coil then k.dHold else 0), (16, 10, c.duty)]
      | 0x8 => bits [(0, 4, k.retryMax), (4, 4, c.left), (8, 10, k.tRetry), (18, 14, satTo 16383 c.faults)]
      | _ => bits [(0, 4, c.st.ctorIdx), (4, 3, c.cause.ctorIdx), (7, 1, c.openLoad.toNat), (8, 1, c.stuckOn.toNat), (9, 1, c.pwrOvr.toNat), (10, 8, (c.tj + 64).toNat), (18, 12, satTo 4095 (c.mA / 10))]
  else match off with
    | 0x0000 => bits [(0, 3, s.chk.supply.ctorIdx), (3, 6, countIf (List.range 32) (fun n => chConducts (s.chan n).st))]
    | 0x0004 => bits [(0, 16, if s.sys.inReset then 0 else twos 16 s.sys.vaux), (16, 16, s.chk.pCond)]
    | 0x0008 => s.chk.snsCfg.setWidth 32
    | 0x0010 => s.evtReg 0x0D
    | 0x0014 => bits [(0, 32, maskOf 32 (fun n => chConducts (s.chan n).st))]
    | 0x0018 => bits [(0, 32, maskOf 32 (fun n => (s.chan n).st = .latchedOff))]
    | _ => 0

/-- SKL (R400). -/
def State.regSkl (s : State) (off : Nat) : Word :=
  let k := s.skl
  let c := s.img.skl
  match off with
  | 0x0000 => if c.on then bits [(0, 2, c.coupling), (2, 1, c.planW.toNat), (3, 1, c.coord.toNat), (4, 1, k.busy.toNat), (5, 1, k.orphan.toNat), (6, 12, c.addr)] else 0
  | 0x0004 => bits [(0, 16, if c.on then c.domain else 0), (16, 8, k.epoch)]
  | 0x0008 => bits [(0, 12, k.parent), (12, 4, k.hops), (16, 12, k.cost)]
  | 0x000C => bits [(0, 13, countIf k.nodes (fun p => c.coord || p.2.neighbour)), (13, 13, if c.coord then k.routes.length else 0)]
  | 0x0010 => s.evtReg 0x0E
  | 0x0020 => bits [(0, 16, k.rxOk.toNat), (16, 16, k.rxLost.toNat)]
  | 0x0024 => bits [(0, 16, k.erasCorr.toNat), (16, 16, k.micFail.toNat)]
  | 0x0028 => bits [(0, 16, k.txFrames.toNat), (16, 16, k.txFails.toNat)]
  | 0x002C => bits [(0, 8, k.noise.toNat), (8, 8, k.snr.toNat)]
  | _ => 0

/-- NFC (R421). -/
def State.regNfc (s : State) (off : Nat) : Word :=
  let c := s.nfc
  if 0x100 ≤ off && off < 0x180 then
    let n := (off - 0x100) / 0x10
    let k := s.cAnt n
    let a := s.ant n
    match off % 0x10 with
    | 0x0 => if k.en then bits [(0, 1, 1), (1, 3, k.bay.getD 0), (4, 3, k.proto.toNat), (7, 1, k.tagNear.toNat)] else 0
    | 0x4 => bits [(0, 8, a.ampThr.toNat), (8, 8, a.phThr.toNat)]
    | 0x8 => bits [(0, 16, a.detects.toNat), (16, 16, a.cards.toNat)]
    | _ => 0
  else match off with
    | 0x0000 => bits [(0, 1, c.run.toNat), (1, 1, c.fieldOn.toNat), (2, 3, c.ant), (5, 1, c.heldCard.isSome.toNat), (6, 1, c.tagField.toNat), (7, 1, s.tagHost.toNat),
        (8, 2, if c.latchBuf.isSome then 1 else if c.latchHead.isSome then 2 else 0), (10, 1, c.activeBuf.toNat)]
    | 0x0010 => s.evtReg 0x0F
    | 0x0200 => c.snapSeq
    | 0x0204 => bits [(0, 16, c.deferrals.toNat), (16, 8, c.held.toNat), (24, 8, c.busy.toNat)]
    | _ => 0

/-- Regions of a panel that run (R438). -/
def State.panelRunning (s : State) (p : Nat) : Nat :=
  if (s.panel p).init.isSome then 1 else countIf (List.range 16) (fun r => (s.region p r).running.isSome)

/-- A panel's registers (R438). -/
def State.panelReg (s : State) (p o : Nat) : Word :=
  let k := s.cPanel p
  let a := s.panel p
  match o with
  | 0x00 => bits [(0, 1, 1), (1, 3, k.bay.getD 0), (4, 1, k.legal.toNat), (5, 11, k.width), (16, 11, k.height), (27, 5, countIf k.regions (fun g => g.2.used))]
  | 0x04 => bits [(0, 6, k.tFrame), (6, 16, a.scan), (22, 9, k.vcom)]
  | 0x08 => bits [(0, 13, twos 13 a.tNow), (13, 3, a.band), (16, 1, a.tempInv.toNat), (17, 1, a.cold.toNat), (18, 1, a.hot.toNat)]
  | 0x0C => bits [(0, 2, a.st.ctorIdx), (2, 1, a.permit.toNat), (3, 5, s.panelRunning p)]
  | 0x10 => bits [(0, 16, a.runs.toNat), (16, 16, a.superseded.toNat)]
  | _ => 0

/-- A region's register (R438); while INIT runs over the panel, each region shows it (assumption 70). -/
def State.regionReg (s : State) (p r : Nat) : Word :=
  let g := s.region p r
  let run := match (s.panel p).init, g.running with
    | some (f, b), _ => (b, 3, f)
    | none, some u => (u.band, u.mode.ctorIdx, u.frame)
    | none, none => (0, 0, 0)
  let st := g.waiting.isSome.toNat + 2 * (g.running.isSome || (s.panel p).init.isSome).toNat
  if !(s.cRegion p r).used then 0
  else bits [(0, 2, st), (2, 3, run.1), (5, 2, run.2.1), (7, 1, (s.legalRegion p r).toNat), (8, 2, g.last.ctorIdx), (10, 12, run.2.2)]

/-- BRD (R438). -/
def State.regBrd (s : State) (off : Nat) : Word :=
  if 0x100 ≤ off && off < 0x200 then
    let p := (off - 0x100) / 0x20
    if (s.cPanel p).used then s.panelReg p (off % 0x20) else 0
  else if 0x1000 ≤ off && off < 0x1200 then
    let p := (off - 0x1000) / 0x40
    if (s.cPanel p).used then s.regionReg p (off % 0x40 / 4) else 0
  else match off with
    | 0x0000 => bits [(0, 4, countIf (List.range 8) (fun p => (s.cPanel p).used)), (4, 3, s.brd.rail.ctorIdx), (8, 5, s.runningCount), (13, 8, s.waitingCount), (21, 7, (ratFloor (s.busLoad none * 100)).toNat)]
    | 0x0010 => s.evtReg 0x10
    | 0x0014 => bits [(0, 6, s.brd.railHold)]
    | _ => 0

/-- KEY (R456). -/
def State.regKey (s : State) (off : Nat) : Word :=
  let k := s.key
  let filled (c : KeyClass) : Nat := countIf (List.range 512) (fun n => decide (classOf n = c) && s.slotTaken n)
  if 0x10 ≤ off && off < 0x20 then BitVec.ofNat 32 (k.devId / 2 ^ (8 * (off - 0x10)))
  else if 0x40 ≤ off && off < 0x58 then half64 off (tget 0 k.authCtrs ((off - 0x40) / 8))
  else match off with
    | 0x0000 => bits [(0, 3, k.lc.ctorIdx), (3, 1, (k.slots.any (fun p => decide (classOf p.1 = .metro) && decide (p.2.st = .locked))).toNat), (4, 1, k.dbgAc.toNat), (5, 1, k.pufOk.toNat)]
    | 0x0020 => bits [(0, 9, filled .session), (9, 7, filled .transport), (16, 6, filled .metro), (22, 5, filled .customer)]
    | 0x0030 => s.evtReg 0x11
    | _ => 0

/-- TIM (R470). -/
def State.regTim (s : State) (off : Nat) : Word :=
  let t := s.tim
  match off with
  | 0x0000 => bits [(0, 2, t.servo.ctorIdx), (2, 1, s.verified.toNat), (3, 1, t.rtcInv.toNat), (4, 1, t.slewing.toNat), (5, 1, t.stepPend.isSome.toNat), (6, 1, (t.member && s.boomTime).toNat)]
  | 0x0004 => bits [(0, 30, t.ns)]
  | 0x0008 => BitVec.ofNat 32 t.sec
  | 0x000C => BitVec.ofNat 32 (t.sec / 2 ^ 32)
  | 0x0010 => bits [(0, 32, twos 32 t.freq)]
  | 0x0014 => if s.hasImage then bits [(0, 16, twos 16 t.utcOff), (16, 2, t.leap)] else 0
  | 0x0018 => bits [(0, 32, s.estErr)]
  | 0x0020 => s.evtReg 0x12
  | 0x0024 => bits [(0, 16, t.steps.toNat), (16, 16, t.rejects.toNat)]
  | _ => 0

/-- CRS (R482): spares show once the start-up tests have run. -/
def State.regCrs (s : State) (off : Nat) : Word :=
  let c := s.crs
  let started := decide (c.st ≠ .stopped)
  if 0x20 ≤ off && off < 0x38 then
    if started then bits ((List.range 8).map (fun i => (4 * i, 4, c.left (8 * ((off - 0x20) / 4) + i)))) else 0
  else match off with
    | 0x0000 => bits [(0, 2, c.st.ctorIdx), (2, 2, c.kind.ctorIdx), (4, 12, c.unit), (16, 16, c.rounds.toNat)]
    | 0x0004 => bits [(0, 14, if s.hasImage then s.img.struct_.crsGap else c.gap)]
    | 0x0010 => s.evtReg 0x13
    | 0x0014 => bits [(0, 2, c.failMedium), (2, 6, c.failBank), (8, 8, c.failRow), (16, 1, c.failRepaired.toNat)]
    | 0x0040 => bits [(0, 16, c.scrCorr.toNat), (16, 16, c.scrUncorr.toNat)]
    | _ => 0

/-- NET (R41). -/
def State.regNet (s : State) (off : Nat) : Word :=
  let n := s.net
  let port (k : Nat) : Word := bits [(0, 2, (s.port k).mode), (2, 1, (s.port k).link.toNat), (3, 2, (s.port k).speed)]
  match off with
  | 0x0000 => bits [(0, 2, s.img.struct_.role.ctorIdx), (2, 3, s.devNum), (5, 1, s.sys.straps.boomMstr.toNat), (6, 1, s.sys.straps.pairB.toNat), (7, 1, s.img.stack.pair.isSome.toNat)]
  | 0x0010 => bits [(0, 3, n.ring.ctorIdx), (4, 4, n.members), (8, 8, n.mask.toNat), (16, 3, n.breakDev), (20, 4, n.verMinor), (24, 4, n.verMajor)]
  | 0x0014 => bits [(0, 3, n.pair.ctorIdx), (8, 8, satTo 255 n.hbMiss), (16, 16, satTo 65535 n.takeovers)]
  | 0x0018 => n.epoch
  | 0x0020 => s.evtReg 0x14
  | 0x0100 => port 0
  | 0x0104 => port 1
  | _ => 0

/-- What the registers show: until the start's blocks are released, those of Scaler, Tally, Spar and the tag show their
reset values but for what AON holds (R46, R516). -/
def State.shown (s : State) : State :=
  if s.sys.inReset then { s with scl := {}, tly := {}, nfc := {}, blz := { s.blz with last := 0, released := 0 }, saf := { diagCause := s.saf.diagCause, diagDetail := s.saf.diagDetail } } else s

/-- What a register reads as, by block and offset; an offset no map defines reads 0 (R5). -/
def State.regRead (s : State) (blk off : Nat) : Word :=
  match blk with
  | 0x00 => s.regSys off
  | 0x01 => s.regCfg off
  | 0x02 => s.regLnd off
  | 0x03 => s.regHst off
  | 0x04 => s.regBay off
  | 0x05 => s.regVlk off
  | 0x06 => s.regYrd off
  | 0x07 => s.shown.regScl off
  | 0x08 => s.shown.regTly off
  | 0x09 => s.shown.regBlz off
  | 0x0A => s.regImd off
  | 0x0B => s.shown.regSaf off
  | 0x0C => s.regPvy off
  | 0x0D => s.regChk off
  | 0x0E => s.regSkl off
  | 0x0F => s.shown.regNfc off
  | 0x10 => s.regBrd off
  | 0x11 => s.regKey off
  | 0x12 => s.regTim off
  | 0x13 => s.regCrs off
  | 0x14 => s.regNet off
  | _ => 0

end Sys2Proof.Machine
end

