-- ==== Sys2Proof/Machine/RegCmd.lean ====
section
/-! DEFINITION. A write on the bus by an application core or the PCIe host: the register pages by the access code of each
field (R4 to R8, R343, R514), and the memory windows (R39, R96, R97, R102, R189, R298, R487, R496). -/
namespace Sys2Proof.Machine

/-! ### Registers -/

/-- A 1 clears the bit of a block's EVT register (R6). -/
def State.evtClear (s : State) (blk : Nat) (v : Word) : State := { s with evt := tset 0 s.evt blk (tget 0 s.evt blk &&& ~~~ v) }

/-- The offset of the EVT register in the page of each block that has one. -/
def evtOffset (blk : Nat) : Option Nat :=
  [none, none, some 0x20, none, some 0x100, some 0x304, some 0x20, some 0x10, some 0x30, some 0x20, some 0x04, some 0x30,
   some 0x10, some 0x10, some 0x10, some 0x10, some 0x10, some 0x30, some 0x20, some 0x10, some 0x20].getD blk none

/-- SYS (R70). -/
def State.writeSys (s : State) (off : Nat) (v : Word) : State :=
  match off with
  | 0x0004 => { s with sys := { s.sys with rstCause := s.sys.rstCause &&& ~~~ v.setWidth 7 } }
  | 0x0010 => { s with sys := { s.sys with wakeEn := v.setWidth 10 } }
  | 0x0014 => { s with sys := { s.sys with wakeSrc := s.sys.wakeSrc &&& ~~~ v.setWidth 10 } }
  | 0x0018 => s.ringBell v
  | 0x0020 => { s with sys := { s.sys with nfcLoss := s.sys.nfcLoss && !v.getLsbD 16, x32Loss := s.sys.x32Loss && !v.getLsbD 17 } }
  | _ => s

/-- The SEC core takes a block of the window's octets, which no image of the model spells (assumption 38): it clears OWN,
refuses it as a first block, and the body that holds it fails (R85, R94). -/
def State.windowConsumed (s : State) : State :=
  match s.sys.bootEnv with
  | some env => (({ s with cfg := { s.cfg with own := false } }).pcieBlock s.cfg.xferLen { hdr := { magic := 0 } }).pcieDone env
  | none => s

/-- CFG (R94). -/
def State.writeCfg (s : State) (off : Nat) (v : Word) : State :=
  match off with
  | 0x0000 => { s with cfg := { s.cfg with pcieRej := s.cfg.pcieRej && !v.getLsbD 8 } }
  | 0x0040 =>
    let len := v.toNat % 2 ^ 23
    let s1 := { s with cfg := { s.cfg with xferLen := if 1 ≤ len && len ≤ 4194304 then len else s.cfg.xferLen, own := v.getLsbD 31 } }
    if v.getLsbD 31 then s1.windowConsumed else s1
  | _ => s

/-- HST (R125). -/
def State.writeHst (s : State) (off : Nat) (v : Word) : State :=
  if 0x100 ≤ off && off < 0x100 + 0x20 * 42 then
    let q := (off - 0x100) / 0x20
    match (off - 0x100) % 0x20 with
    | 0x00 => s.areaWrite q false v
    | 0x04 => s.areaWrite q true v
    | 0x08 => s.ctrlWrite q v
    | 0x0C => s.piWrite q v
    | _ => s
  else s

/-- VLK (R156). -/
def State.writeVlk (s : State) (off : Nat) (v : Word) : State :=
  match off with
  | 0x310 => s.evqArea v
  | 0x314 => s.evqCtrl v
  | 0x31C => s.evqConsume v
  | _ => s

/-- NFC (R421): the thresholds of an antenna; 0 is not listed and keeps the field. -/
def State.writeNfc (s : State) (off : Nat) (v : Word) : State :=
  let amp : BitVec 8 := v.setWidth 8
  let ph : BitVec 8 := (v >>> 8).setWidth 8
  if 0x100 ≤ off && off < 0x180 && off % 0x10 = 4 then
    s.modAnt ((off - 0x100) / 0x10) (fun a => { a with ampThr := if amp = 0 then a.ampThr else amp, phThr := if ph = 0 then a.phThr else ph })
  else s

/-- A write to a register's page by offset: the EVT registers clear, the other writable registers follow their maps,
and every other offset ignores the write (R5, R6). -/
def State.regWrite (s : State) (blk off : Nat) (v : Word) : State :=
  if evtOffset blk = some off then s.evtClear blk v
  else match blk with
    | 0x00 => s.writeSys off v
    | 0x01 => s.writeCfg off v
    | 0x03 => s.writeHst off v
    | 0x04 => if off < 0x80 && off % 0x10 = 0 then s.manualWrite (off / 0x10) v else s
    | 0x05 => s.writeVlk off v
    | 0x07 => if 0x300 ≤ off && off < 0x340 && off % 0x10 = 0 then s.pulseCfgWrite ((off - 0x300) / 0x10) v else s
    | 0x0C => s.laneWrite off v
    | 0x0D => if off = 0x08 then { s with chk := { s.chk with snsCfg := v.setWidth 7 } } else s
    | 0x0F => s.writeNfc off v
    | 0x14 => if off = 0x100 then s.portMode 0 v else if off = 0x104 then s.portMode 1 v else s
    | _ => s

/-! ### Memory -/

/-- The fitted DRAM's places in its window (R496). -/
def State.dramMapped (s : State) (a : Nat) : Bool :=
  decide (s.sys.dramGiB ≠ 0)
  && ((decide (0x0800000000 ≤ a) && decide (a < 0x0800000000 + s.sys.dramGiB * 2 ^ 30 - 2 ^ 27)) || (decide (0x0BF8000000 ≤ a) && decide (a < 0x0C00000000)))

/-- DRAM that Fliantos keeps for itself (R97, R432, R476): Stand Table, panel memory, Cruise save area, image staging. -/
def dramKept (a : Nat) : Bool :=
  decide (a < 0x0805000000) || (decide (0x0BFB000000 ≤ a) && decide (a < 0x0BFB100000)) || decide (0x0BFC000000 ≤ a)

/-- The image window is open to the host: the start over PCIe is in boot steps 5 and 6 (R85, R97). -/
def State.windowOpen (s : State) (sd : Side) : Bool := decide (sd = .host) && s.sys.bootEnv.isSome

/-- An address that software and the host may write. -/
def State.writable (s : State) (sd : Side) (a : Nat) : Bool :=
  (decide (landing generalLo ≤ a) && decide (a < landing generalHi))
  || (s.windowOpen sd && decide (landingBase ≤ a) && decide (a < landingBase + 0x400000))
  || (decide (sd = .core) && ((decide (0x22240000 ≤ a) && decide (a < 0x23EF0000)) || (s.dramMapped a && !dramKept a)))

/-- What the PCIe host reaches: BAR0 over the register pages, BAR2 over Landing and what follows it (R39). -/
def hostReaches (a : Nat) : Bool :=
  (decide (0x40000000 ≤ a) && decide (a < 0x40200000)) || (decide (landingBase ≤ a) && decide (a < 0x11000000))

/-- The rest of a BAR, which reads 0 and ignores writes (R39). -/
def barRest (a : Nat) : Bool :=
  (decide (0x40150000 ≤ a) && decide (a < 0x40200000)) || (decide (0x10C00000 ≤ a) && decide (a < 0x11000000))

/-- An application core runs: its firmware section is present and the part is out of reset (R50, R82). -/
def State.coreRuns (s : State) (n : Nat) : Bool := !s.sys.inReset && s.img.acFw.getLsbD n

/-- The cores that a cluster's L2 serves: those of its four that run (R82). -/
def State.l2Serves (s : State) (cluster : Nat) : List Nat := ((List.range 4).map (fun i => 4 * cluster + i)).filter (fun n => s.coreRuns n)

/-- A side can issue an access: the host once the link is up, the cores while one of them runs (R82, R516). -/
def State.issues (s : State) (sd : Side) : Bool := decide (sd = .host) || (List.range 8).any (fun n => s.coreRuns n)

/-- Poisoned lines of Landing that a write covers only in part: it reads them first (R99, R102). -/
def State.partLines (s : State) (off len : Nat) : List Nat :=
  s.lnd.poison.filter (fun p => decide (p < off + len) && decide (off < p + 32) && !(decide (off ≤ p) && decide (p + 32 ≤ off + len)))

/-- A write to memory (R97, R102): all of it lands, or it returns a bus error and has no effect but the count of the
line it read. -/
def State.memWrite (s : State) (a : Access) : State :=
  let n := a.data.length
  if !(List.range n).all (fun i => s.writable a.side (a.addr + i)) then s.send (.busError a)
  else if a.addr < landing generalHi then
    match s.partLines (a.addr - landingBase) n with
    | [] => s.writeGen (a.addr - landingBase) a.data
    | l => (l.foldl (fun (x : State) p => x.landUncorr p) s).send (.busError a)
  else (s.writeMem a.addr a.data).lineWritten (decide (a.addr < 0x40000000)) a.addr n

/-- REGISTER_WRITE (R4 to R9, R39, R82, R97, R298, R514, R516). A host's write that its BARs do not map, or map to nothing,
has no effect, and the SAF page is read-only to it. -/
def execRegisterWrite (a : Access) (s : State) : Res :=
  if s.closedOff || a.data.isEmpty || !s.issues a.side then .next s
  else if a.side = .host && (!hostReaches a.addr || barRest a.addr) then .next s
  else if 0x40000000 ≤ a.addr && a.addr < 0x41000000 then
    if a.data.length ≠ 4 || a.addr % 4 ≠ 0 then .next (s.send (.busError a))
    else if a.side = .host && (a.addr - 0x40000000) / 0x10000 = 0x0B then .next s
    else .next (s.regWrite ((a.addr - 0x40000000) / 0x10000) (a.addr % 0x10000) (BitVec.ofNat 32 (unle a.data)))
  else .next (s.memWrite a)

/-! ### Reads -/

/-- What a read on the bus returns (R5, R9, R97, R516). -/
inductive ReadRes
  | octets (l : List Byte)
  | busError
  | noAnswer
deriving DecidableEq, Repr

/-- An address of memory that a side may read: what it may write, and for the cores the read-only partitions of MRAM (R97,
R189, R298, R487). -/
def State.readable (s : State) (sd : Side) (a : Nat) : Bool :=
  s.writable sd a || (decide (sd = .core) && decide (0x23EF0000 ≤ a) && decide (a < 0x24000000))

/-- The octets of a root in the root store's 64 KiB: slot n at 2,048 n, its certificate first (R189, assumption 42). -/
def State.rootByte (s : State) (off : Nat) : Byte := (tget ({} : Root) s.vlk.roots (off / 2048)).der.getD (off % 2048) 0

/-- The 64 octets of a general event log entry (R487). -/
def EventEntry.bytes (e : EventEntry) : List Byte :=
  le 4 e.eseq.toNat ++ le 1 e.block ++ le 1 e.bit ++ le 2 e.lost ++ le 8 e.time.pack ++ le 4 e.evt.toNat ++ List.replicate 44 0

/-- What an octet of memory reads as: the root store and the general event log show their entries (R189, R487). -/
def State.memRead (s : State) (a : Nat) : Byte :=
  if 0x23EF0000 ≤ a && a < 0x23F00000 then s.rootByte (a - 0x23EF0000)
  else if 0x22000000 ≤ a && a < 0x22100000 then (tget ({} : JSlot) s.tly.journal ((a - 0x22000000) / 256)).bytes.getD (a % 256) 0
  else if 0x23F00000 ≤ a && a < 0x24000000 then (tget ({} : EventEntry) s.elog ((a - 0x23F00000) / 64)).bytes.getD (a % 64) 0
  else s.byteAt a

/-- A line that a read touches is uncorrectable (R102, R480). -/
def State.badLine (s : State) (a n : Nat) : Bool :=
  (decide (landingBase ≤ a) && decide (a < landing generalHi) && s.poisoned (a - landingBase) n)
    || s.crs.uncorrLines.any (fun l => decide (l.2 < a + n) && decide (a < l.2 + 32) && (l.1 == decide (a < 0x40000000)))

/-- A read on the bus has no effect on the state (R9): a register as one aligned word (R5), a BAR's rest as 0 (R39), memory
as stored, and a bus error outside what the side may reach or on a poisoned line (R97, R102). -/
def State.busRead (s : State) (sd : Side) (addr n : Nat) : ReadRes :=
  if s.closedOff || (decide (sd = .host) && !hostReaches addr) then .noAnswer
  else if sd = .host && barRest addr then .octets (List.replicate n 0)
  else if 0x40000000 ≤ addr && addr < 0x41000000 then
    (if n ≠ 4 || addr % 4 ≠ 0 then .busError
     else .octets (le 4 (s.regRead ((addr - 0x40000000) / 0x10000) (addr % 0x10000)).toNat))
  else if !(List.range n).all (fun i => s.readable sd (addr + i)) then .busError
  else if s.badLine addr n then .busError
  else .octets ((List.range n).map (fun i => s.memRead (addr + i)))

end Sys2Proof.Machine
end

