-- ==== Sys2Proof/Machine/Dispatch.lean ====
section
/-! DEFINITION. The meaning of every command and event: one arm per constructor of `Instr`. -/
namespace Sys2Proof.Machine

/-- The effect of a command or event on everything but the queue. -/
def exec (i : Instr) (s : State) : Host.Outcome State Fault Refusal :=
  match i with
  | .registerWrite a => Sys2Proof.Machine.execRegisterWrite a s
  | .porstNPulse lowUs straps coin => Sys2Proof.Machine.execPorstNPulse lowUs straps coin s
  | .railFault outNs coin mainsFail => Sys2Proof.Machine.execRailFault outNs coin mainsFail s
  | .clkFault permille us coin => Sys2Proof.Machine.execClkFault permille us coin s
  | .nfcLoss => Sys2Proof.Machine.execNfcLoss s
  | .x32Loss backup => Sys2Proof.Machine.execX32Loss backup s
  | .safeClockLoss => Sys2Proof.Machine.execSafeClockLoss s
  | .secWdt coin => Sys2Proof.Machine.execSecWdt coin s
  | .swReset coin => Sys2Proof.Machine.execSwReset coin s
  | .boot held env => Sys2Proof.Machine.execBoot held env s
  | .migrationBackground records => Sys2Proof.Machine.execMigrationBackground records s
  | .pcieImageBlock len img => Sys2Proof.Machine.execPcieImageBlock len img s
  | .sysPermitReq c power dur prio wait => Sys2Proof.Machine.execSysPermitReq c power dur prio wait s
  | .sysPermitRelease c handle => Sys2Proof.Machine.execSysPermitRelease c handle s
  | .sysSleep c timer => Sys2Proof.Machine.execSysSleep c timer s
  | .sysPowerMode c target => Sys2Proof.Machine.execSysPowerMode c target s
  | .sysReset c => Sys2Proof.Machine.execSysReset c s
  | .wake src bay => Sys2Proof.Machine.execWake src bay s
  | .doorbell value => Sys2Proof.Machine.execDoorbell value s
  | .powerFailWarning pfwN vaux afterNs post mainsFail => Sys2Proof.Machine.execPowerFailWarning pfwN vaux afterNs post mainsFail s
  | .permitWaitExpiry id => Sys2Proof.Machine.execPermitWaitExpiry id s
  | .permitExpiry id => Sys2Proof.Machine.execPermitExpiry id s
  | .cfgBankErase c bank => Sys2Proof.Machine.execCfgBankErase c bank s
  | .cfgBankWrite c bank off len img => Sys2Proof.Machine.execCfgBankWrite c bank off len img s
  | .cfgBankVerify c bank => Sys2Proof.Machine.execCfgBankVerify c bank s
  | .cfgActivate c bank => Sys2Proof.Machine.execCfgActivate c bank s
  | .cfgConfirm c => Sys2Proof.Machine.execCfgConfirm c s
  | .cfgRevert c => Sys2Proof.Machine.execCfgRevert c s
  | .cfgReverifyClear c m => Sys2Proof.Machine.execCfgReverifyClear c m s
  | .pointUpdate pt raw t bad => Sys2Proof.Machine.execPointUpdate pt raw t bad s
  | .timeoutSweep => Sys2Proof.Machine.execTimeoutSweep s
  | .cacheWriteback pt => Sys2Proof.Machine.execCacheWriteback pt s
  | .periodicPublication pt => Sys2Proof.Machine.execPeriodicPublication pt s
  | .publicationRx p => Sys2Proof.Machine.execPublicationRx p s
  | .scrubLine medium addr errs wrongAddr => Sys2Proof.Machine.execScrubLine medium addr errs wrongAddr s
  | .hstQPiWrite q value => Sys2Proof.Machine.execHstQPiWrite q value s
  | .ringEnable q value => Sys2Proof.Machine.execRingEnable q value s
  | .ringDisable q value => Sys2Proof.Machine.execRingDisable q value s
  | .ringDisableDone q => Sys2Proof.Machine.execRingDisableDone q s
  | .hstQBaseWrite q res value => Sys2Proof.Machine.execHstQBaseWrite q res value s
  | .hstQLog2sizeWrite q value => Sys2Proof.Machine.execHstQLog2sizeWrite q value s
  | .undefinedOpcode c block opcode => Sys2Proof.Machine.execUndefinedOpcode c block opcode s
  | .lndPtRead c list ids dst remote => Sys2Proof.Machine.execLndPtRead c list ids dst remote s
  | .lndPtWrite c pairs remote => Sys2Proof.Machine.execLndPtWrite c pairs remote s
  | .lndPtCfg c op remote => Sys2Proof.Machine.execLndPtCfg c op remote s
  | .lndSubOpen c first last off len => Sys2Proof.Machine.execLndSubOpen c first last off len s
  | .lndSubClose c handle => Sys2Proof.Machine.execLndSubClose c handle s
  | .hstApiOpen c loMajor loMinor hiMajor hiMinor => Sys2Proof.Machine.execHstApiOpen c loMajor loMinor hiMajor hiMinor s
  | .pilotStateChange bay high low samples => Sys2Proof.Machine.execPilotStateChange bay high low samples s
  | .pilotManualWrite bay value => Sys2Proof.Machine.execPilotManualWrite bay value s
  | .proximityChange bay mv => Sys2Proof.Machine.execProximityChange bay mv s
  | .linkUp k mac => Sys2Proof.Machine.execLinkUp k mac s
  | .linkLoss k => Sys2Proof.Machine.execLinkLoss k s
  | .tLinkExpiry k => Sys2Proof.Machine.execTLinkExpiry k s
  | .tNegExpiry k => Sys2Proof.Machine.execTNegExpiry k s
  | .tAuthExpiry k => Sys2Proof.Machine.execTAuthExpiry k s
  | .tLockExpiry k => Sys2Proof.Machine.execTLockExpiry k s
  | .tCableExpiry k => Sys2Proof.Machine.execTCableExpiry k s
  | .tPreExpiry k => Sys2Proof.Machine.execTPreExpiry k s
  | .tPdwaitExpiry k => Sys2Proof.Machine.execTPdwaitExpiry k s
  | .tRenegExpiry k => Sys2Proof.Machine.execTRenegExpiry k s
  | .tStopExpiry k => Sys2Proof.Machine.execTStopExpiry k s
  | .sdpRequest k tls => Sys2Proof.Machine.execSdpRequest k tls s
  | .tcpConnect k => Sys2Proof.Machine.execTcpConnect k s
  | .tlsHandshake k h => Sys2Proof.Machine.execTlsHandshake k h s
  | .supportedAppProtocolReq k len list => Sys2Proof.Machine.execSupportedAppProtocolReq k len list s
  | .v2gMessageRx k len m => Sys2Proof.Machine.execV2gMessageRx k len m s
  | .v2gMessageTimeout k => Sys2Proof.Machine.execV2gMessageTimeout k s
  | .contractCertVerify k cert => Sys2Proof.Machine.execContractCertVerify k cert s
  | .vlkAuthDecide c k reqId decision limWh limMin => Sys2Proof.Machine.execVlkAuthDecide c k reqId decision limWh limMin s
  | .vlkPreauth c bridged bay ident limWh limMin => Sys2Proof.Machine.execVlkPreauth c bridged bay ident limWh limMin s
  | .preauthExpiry bridged bay => Sys2Proof.Machine.execPreauthExpiry bridged bay s
  | .lockFeedback bay locked => Sys2Proof.Machine.execLockFeedback bay locked s
  | .prechargeComplete k => Sys2Proof.Machine.execPrechargeComplete k s
  | .contactorFeedback bay kon closed => Sys2Proof.Machine.execContactorFeedback bay kon closed s
  | .k1FeedbackTimeout k => Sys2Proof.Machine.execK1FeedbackTimeout k s
  | .durationLimitExpiry k => Sys2Proof.Machine.execDurationLimitExpiry k s
  | .weldCheckDone k closedAt100 => Sys2Proof.Machine.execWeldCheckDone k closedAt100 s
  | .unplugWaitExpiry k => Sys2Proof.Machine.execUnplugWaitExpiry k s
  | .evqCiWrite value => Sys2Proof.Machine.execEvqCiWrite value s
  | .evqEnable value => Sys2Proof.Machine.execEvqEnable value s
  | .evqBaseWrite value => Sys2Proof.Machine.execEvqBaseWrite value s
  | .ctxReq f => Sys2Proof.Machine.execCtxReq f s
  | .tunnelData f mac => Sys2Proof.Machine.execTunnelData f mac s
  | .tunnelLinkUp f => Sys2Proof.Machine.execTunnelLinkUp f s
  | .tunnelLinkDown f => Sys2Proof.Machine.execTunnelLinkDown f s
  | .vlkBaySet c bay target => Sys2Proof.Machine.execVlkBaySet c bay target s
  | .vlkSessStop c k reason => Sys2Proof.Machine.execVlkSessStop c k reason s
  | .vlkSessLimit c k cap => Sys2Proof.Machine.execVlkSessLimit c k cap s
  | .vlkSessInfo c k => Sys2Proof.Machine.execVlkSessInfo c k s
  | .vlkWeldClear c bridged bay => Sys2Proof.Machine.execVlkWeldClear c bridged bay s
  | .greenphyPermitRetry bay => Sys2Proof.Machine.execGreenphyPermitRetry bay s
  | .cmSlacParmReq bay runId mac => Sys2Proof.Machine.execCmSlacParmReq bay runId mac s
  | .cmMnbcSoundInd bay runId announced attens => Sys2Proof.Machine.execCmMnbcSoundInd bay runId announced attens s
  | .ttEvseMatchMnbcExpiry bay => Sys2Proof.Machine.execTtEvseMatchMnbcExpiry bay s
  | .cmAttenCharRsp bay runId => Sys2Proof.Machine.execCmAttenCharRsp bay runId s
  | .cmValidateReq bay runId => Sys2Proof.Machine.execCmValidateReq bay runId s
  | .cmSlacMatchReq bay runId => Sys2Proof.Machine.execCmSlacMatchReq bay runId s
  | .vlkLinkInfo c k => Sys2Proof.Machine.execVlkLinkInfo c k s
  | .vlkCertRead c k dst size => Sys2Proof.Machine.execVlkCertRead c k dst size s
  | .vlkRootInstall c kind key wellFormed der => Sys2Proof.Machine.execVlkRootInstall c kind key wellFormed der s
  | .vlkRootRemove c index => Sys2Proof.Machine.execVlkRootRemove c index s
  | .yarderCycle moduleAmps us => Sys2Proof.Machine.execYarderCycle moduleAmps us s
  | .matrixSwitchDone node => Sys2Proof.Machine.execMatrixSwitchDone node s
  | .moduleReleaseTimeout node => Sys2Proof.Machine.execModuleReleaseTimeout node s
  | .moduleExcessRelease node => Sys2Proof.Machine.execModuleExcessRelease node s
  | .requestPeriodic => Sys2Proof.Machine.execRequestPeriodic s
  | .clientHoldExpiry => Sys2Proof.Machine.execClientHoldExpiry s
  | .clientLossHoldExpiry node => Sys2Proof.Machine.execClientLossHoldExpiry node s
  | .yrdNodeRead c node => Sys2Proof.Machine.execYrdNodeRead c node s
  | .yrdLimitSet c node limit => Sys2Proof.Machine.execYrdLimitSet c node limit s
  | .yrdClassSet c node cls gMin => Sys2Proof.Machine.execYrdClassSet c node cls gMin s
  | .yrdStorageSet c node mode socTgt setpoint => Sys2Proof.Machine.execYrdStorageSet c node mode socTgt setpoint s
  | .yrdExportSet c node watts => Sys2Proof.Machine.execYrdExportSet c node watts s
  | .yrdModuleService c node inService => Sys2Proof.Machine.execYrdModuleService c node inService s
  | .yrdSnapshot c dst => Sys2Proof.Machine.execYrdSnapshot c dst s
  | .scalerSample codes => Sys2Proof.Machine.execScalerSample codes s
  | .rangeToLow bay => Sys2Proof.Machine.execRangeToLow bay s
  | .channelLost bay ch => Sys2Proof.Machine.execChannelLost bay ch s
  | .channelRestored bay ch => Sys2Proof.Machine.execChannelRestored bay ch s
  | .xchkWindow bay => Sys2Proof.Machine.execXchkWindow bay s
  | .dspDeadline => Sys2Proof.Machine.execDspDeadline s
  | .tickCommit => Sys2Proof.Machine.execTickCommit s
  | .pulseTestWrite m value => Sys2Proof.Machine.execPulseTestWrite m value s
  | .sclCalRead c bay => Sys2Proof.Machine.execSclCalRead c bay s
  | .sclCalWrite c bay m v => Sys2Proof.Machine.execSclCalWrite c bay m v s
  | .sclFaultClear c bay clearMs => Sys2Proof.Machine.execSclFaultClear c bay clearMs s
  | .sclCapture c bay dst codes => Sys2Proof.Machine.execSclCapture c bay dst codes s
  | .leaseExpiry => Sys2Proof.Machine.execLeaseExpiry s
  | .startModeTimeout => Sys2Proof.Machine.execStartModeTimeout s
  | .tlyMsg c m => Sys2Proof.Machine.execTlyMsg c m s
  | .tlyRecRead c recno dst => Sys2Proof.Machine.execTlyRecRead c recno dst s
  | .tlyRecAck c first count => Sys2Proof.Machine.execTlyRecAck c first count s
  | .tlyRegSnapshot c dst => Sys2Proof.Machine.execTlyRegSnapshot c dst s
  | .tlyReadSigned c bay dst => Sys2Proof.Machine.execTlyReadSigned c bay dst s
  | .tlyProfileRead c ch first count dst => Sys2Proof.Machine.execTlyProfileRead c ch first count dst s
  | .tlySrRead c first count dst => Sys2Proof.Machine.execTlySrRead c first count dst s
  | .tlyCeilSet c watts => Sys2Proof.Machine.execTlyCeilSet c watts s
  | .tlyMdRead c => Sys2Proof.Machine.execTlyMdRead c s
  | .tamperEvent input first second backup => Sys2Proof.Machine.execTamperEvent input first second backup s
  | .tamperTransfer torn => Sys2Proof.Machine.execTamperTransfer torn s
  | .vbatLow backup => Sys2Proof.Machine.execVbatLow backup s
  | .blzLogRead c first count dst => Sys2Proof.Machine.execBlzLogRead c first count dst s
  | .blzTamperRead c dst => Sys2Proof.Machine.execBlzTamperRead c dst s
  | .blzTamperClear c mask => Sys2Proof.Machine.execBlzTamperClear c mask s
  | .blzLogRelease c m => Sys2Proof.Machine.execBlzLogRelease c m s
  | .imdHalfPeriod bay iInf residual tau ovr => Sys2Proof.Machine.execImdHalfPeriod bay iInf residual tau ovr s
  | .imdDriverStuck bay => Sys2Proof.Machine.execImdDriverStuck bay s
  | .earthCurrentTrip bay => Sys2Proof.Machine.execEarthCurrentTrip bay s
  | .efWarning bay => Sys2Proof.Machine.execEfWarning bay s
  | .alarmLineTimeout bay => Sys2Proof.Machine.execAlarmLineTimeout bay s
  | .imdSelftest c bay r1 r2 => Sys2Proof.Machine.execImdSelftest c bay r1 r2 s
  | .imdTripTest c bay us => Sys2Proof.Machine.execImdTripTest c bay us s
  | .safetyInputDemand input opened => Sys2Proof.Machine.execSafetyInputDemand input opened s
  | .testPulse k readLow readHigh high cross => Sys2Proof.Machine.execTestPulse k readLow readHigh high cross s
  | .discrepancyTimeout pair => Sys2Proof.Machine.execDiscrepancyTimeout pair s
  | .tripAutoClear input => Sys2Proof.Machine.execTripAutoClear input s
  | .resetButtonRelease input ms clearMs => Sys2Proof.Machine.execResetButtonRelease input ms clearMs s
  | .soDarkPulse m readOk => Sys2Proof.Machine.execSoDarkPulse m readOk s
  | .sparDiagnostic cause detail pass => Sys2Proof.Machine.execSparDiagnostic cause detail pass s
  | .gateTest j pass => Sys2Proof.Machine.execGateTest j pass s
  | .gateTestOverdue j => Sys2Proof.Machine.execGateTestOverdue j s
  | .heartbeatLineTimeout => Sys2Proof.Machine.execHeartbeatLineTimeout s
  | .hingeDataRx f => Sys2Proof.Machine.execHingeDataRx f s
  | .hingeConnectRx f => Sys2Proof.Machine.execHingeConnectRx f s
  | .hingeConnectAckRx f => Sys2Proof.Machine.execHingeConnectAckRx f s
  | .hingeTimeout conn => Sys2Proof.Machine.execHingeTimeout conn s
  | .hingeSend conn pays => Sys2Proof.Machine.execHingeSend conn pays s
  | .hingeConnectSend conn => Sys2Proof.Machine.execHingeConnectSend conn s
  | .pwdSessionTimeout => Sys2Proof.Machine.execPwdSessionTimeout s
  | .lockoutExpiry => Sys2Proof.Machine.execLockoutExpiry s
  | .safPwdOpen c pwd => Sys2Proof.Machine.execSafPwdOpen c pwd s
  | .safPwdClose c => Sys2Proof.Machine.execSafPwdClose c s
  | .safParamRead c first count dst => Sys2Proof.Machine.execSafParamRead c first count dst s
  | .safParamSet c pairs => Sys2Proof.Machine.execSafParamSet c pairs s
  | .safParamCommit c => Sys2Proof.Machine.execSafParamCommit c s
  | .safParamConfirm c crc => Sys2Proof.Machine.execSafParamConfirm c crc s
  | .safPwdChange c pwd => Sys2Proof.Machine.execSafPwdChange c pwd s
  | .safPwdReset c m pwd => Sys2Proof.Machine.execSafPwdReset c m pwd s
  | .safLogRead c first count dst => Sys2Proof.Machine.execSafLogRead c first count dst s
  | .safLogArchive c m => Sys2Proof.Machine.execSafLogArchive c m s
  | .safTripReset c inputs sos clearMs => Sys2Proof.Machine.execSafTripReset c inputs sos clearMs s
  | .safHingeInfo c index => Sys2Proof.Machine.execSafHingeInfo c index s
  | .laneSample n instant => Sys2Proof.Machine.execLaneSample n instant s
  | .laneRegisterWrite off value => Sys2Proof.Machine.execLaneRegisterWrite off value s
  | .laneHold n hold => Sys2Proof.Machine.execLaneHold n hold s
  | .stateRst n => Sys2Proof.Machine.execStateRst n s
  | .pvyLaneRead c n sec => Sys2Proof.Machine.execPvyLaneRead c n sec s
  | .pvyFeClear c n => Sys2Proof.Machine.execPvyFeClear c n s
  | .chkChSet c ch on duty => Sys2Proof.Machine.execChkChSet c ch on duty s
  | .chkChClear c ch => Sys2Proof.Machine.execChkChClear c ch s
  | .chkChInfo c ch => Sys2Proof.Machine.execChkChInfo c ch s
  | .inrushEnd ch mA => Sys2Proof.Machine.execInrushEnd ch mA s
  | .channelShort ch mA mvDs => Sys2Proof.Machine.execChannelShort ch mA mvDs s
  | .channelOverload ch mA ms first2s => Sys2Proof.Machine.execChannelOverload ch mA ms first2s s
  | .channelThermal ch tj refTj => Sys2Proof.Machine.execChannelThermal ch tj refTj s
  | .thermalRelease ch tj refTj => Sys2Proof.Machine.execThermalRelease ch tj refTj s
  | .retryTimerExpiry ch => Sys2Proof.Machine.execRetryTimerExpiry ch s
  | .retryBudgetRefill ch => Sys2Proof.Machine.execRetryBudgetRefill ch s
  | .conductionRecompute meas => Sys2Proof.Machine.execConductionRecompute meas s
  | .currentSumShed meas => Sys2Proof.Machine.execCurrentSumShed meas s
  | .dutyZeroTimeout ch => Sys2Proof.Machine.execDutyZeroTimeout ch s
  | .openLoad ch mA ms => Sys2Proof.Machine.execOpenLoad ch mA ms s
  | .stuckOn ch near ms => Sys2Proof.Machine.execStuckOn ch near ms s
  | .supplyAnomaly vaux gndMv => Sys2Proof.Machine.execSupplyAnomaly vaux gndMv s
  | .supplyAnomalyEnd vaux gndMv => Sys2Proof.Machine.execSupplyAnomalyEnd vaux gndMv s
  | .skidlineFrameRx rx f => Sys2Proof.Machine.execSkidlineFrameRx rx f s
  | .ackSend start => Sys2Proof.Machine.execAckSend start s
  | .ackIntervalExpiry skip => Sys2Proof.Machine.execAckIntervalExpiry skip s
  | .skidlineTxSlot idle window slot sensed => Sys2Proof.Machine.execSkidlineTxSlot idle window slot sensed s
  | .frameLifetimeExpiry id => Sys2Proof.Machine.execFrameLifetimeExpiry id s
  | .alarmForced start => Sys2Proof.Machine.execAlarmForced start s
  | .routeBroadcast => Sys2Proof.Machine.execRouteBroadcast s
  | .pathSend => Sys2Proof.Machine.execPathSend s
  | .routeEntryExpiry node => Sys2Proof.Machine.execRouteEntryExpiry node s
  | .epochActivation => Sys2Proof.Machine.execEpochActivation s
  | .oldEpochExpiry => Sys2Proof.Machine.execOldEpochExpiry s
  | .sklSend c final cls payload => Sys2Proof.Machine.execSklSend c final cls payload s
  | .sklRxRead c count dst => Sys2Proof.Machine.execSklRxRead c count dst s
  | .sklNodeRead c node => Sys2Proof.Machine.execSklNodeRead c node s
  | .sklRekey c time => Sys2Proof.Machine.execSklRekey c time s
  | .detectionPing ant amp ph => Sys2Proof.Machine.execDetectionPing ant amp ph s
  | .nfcTransaction ant cards => Sys2Proof.Machine.execNfcTransaction ant cards s
  | .cardHoldExpiry => Sys2Proof.Machine.execCardHoldExpiry s
  | .tagSelect file => Sys2Proof.Machine.execTagSelect file s
  | .tagReadBinary page count => Sys2Proof.Machine.execTagReadBinary page count s
  | .tagUpdateBinary page data => Sys2Proof.Machine.execTagUpdateBinary page data s
  | .tagFieldLoss => Sys2Proof.Machine.execTagFieldLoss s
  | .tagNearResume => Sys2Proof.Machine.execTagNearResume s
  | .totalsPublish => Sys2Proof.Machine.execTotalsPublish s
  | .excerptCopy => Sys2Proof.Machine.execExcerptCopy s
  | .nfcPoll c ant cards => Sys2Proof.Machine.execNfcPoll c ant cards s
  | .nfcXchg c ant apdu resp dst => Sys2Proof.Machine.execNfcXchg c ant apdu resp dst s
  | .nfcRelease c ant => Sys2Proof.Machine.execNfcRelease c ant s
  | .nfcTagWrite c page data heldMs => Sys2Proof.Machine.execNfcTagWrite c page data heldMs s
  | .nfcTagRead c page count dst => Sys2Proof.Machine.execNfcTagRead c page count dst s
  | .railsUp => Sys2Proof.Machine.execRailsUp s
  | .brandRailFault panel rail mv => Sys2Proof.Machine.execBrandRailFault panel rail mv s
  | .railHoldExpiry => Sys2Proof.Machine.execRailHoldExpiry s
  | .panelFrame p => Sys2Proof.Machine.execPanelFrame p s
  | .brandPermitRetry panel => Sys2Proof.Machine.execBrandPermitRetry panel s
  | .legalRegionRefresh bay => Sys2Proof.Machine.execLegalRegionRefresh bay s
  | .brdRegionUpdate c p r mode dither off stride => Sys2Proof.Machine.execBrdRegionUpdate c p r mode dither off stride s
  | .brdRegionInfo c p r => Sys2Proof.Machine.execBrdRegionInfo c p r s
  | .brdPanelInit c p => Sys2Proof.Machine.execBrdPanelInit c p s
  | .brdRailClear c => Sys2Proof.Machine.execBrdRailClear c s
  | .keyMsg c m => Sys2Proof.Machine.execKeyMsg c m s
  | .keySlotInfo c slot => Sys2Proof.Machine.execKeySlotInfo c slot s
  | .keyPerso c auth index key wellFormed => Sys2Proof.Machine.execKeyPerso c auth index key wellFormed s
  | .keyLcAdvance c target => Sys2Proof.Machine.execKeyLcAdvance c target s
  | .keyAttest c challenge dst => Sys2Proof.Machine.execKeyAttest c challenge dst s
  | .keyChainSet c slot leafKey root size wellFormed => Sys2Proof.Machine.execKeyChainSet c slot leafKey root size wellFormed s
  | .keySign c slot digest => Sys2Proof.Machine.execKeySign c slot digest s
  | .boomTimeSync port t1 p2 p3 t4 utcOff leap => Sys2Proof.Machine.execBoomTimeSync port t1 p2 p3 t4 utcOff leap s
  | .stepApply => Sys2Proof.Machine.execStepApply s
  | .servoOffsetTimeout => Sys2Proof.Machine.execServoOffsetTimeout s
  | .holdoverLimit => Sys2Proof.Machine.execHoldoverLimit s
  | .leapSecond => Sys2Proof.Machine.execLeapSecond s
  | .rtcTempComp temp => Sys2Proof.Machine.execRtcTempComp temp s
  | .rtcSync => Sys2Proof.Machine.execRtcSync s
  | .timOffset c sec ns frac utcOff leap => Sys2Proof.Machine.execTimOffset c sec ns frac utcOff leap s
  | .timSet c sec ns => Sys2Proof.Machine.execTimSet c sec ns s
  | .timRead c => Sys2Proof.Machine.execTimRead c s
  | .cruiseSliceRequest => Sys2Proof.Machine.execCruiseSliceRequest s
  | .cruiseSliceEnd failRows => Sys2Proof.Machine.execCruiseSliceEnd failRows s
  | .sliceOverrun => Sys2Proof.Machine.execSliceOverrun s
  | .crsPause c => Sys2Proof.Machine.execCrsPause c s
  | .crsResume c => Sys2Proof.Machine.execCrsResume c s
  | .crsFuseRepair c => Sys2Proof.Machine.execCrsFuseRepair c s
  | .crsReport c dst => Sys2Proof.Machine.execCrsReport c dst s
  | .discoveryRound => Sys2Proof.Machine.execDiscoveryRound s
  | .discoveryFrameRx v => Sys2Proof.Machine.execDiscoveryFrameRx v s
  | .boomLinkChange port up => Sys2Proof.Machine.execBoomLinkChange port up s
  | .boomFrameUncorr => Sys2Proof.Machine.execBoomFrameUncorr s
  | .heartbeatSend => Sys2Proof.Machine.execHeartbeatSend s
  | .heartbeatRx hb => Sys2Proof.Machine.execHeartbeatRx hb s
  | .masterLost => Sys2Proof.Machine.execMasterLost s
  | .takeover => Sys2Proof.Machine.execTakeover s
  | .memberHoldExpiry => Sys2Proof.Machine.execMemberHoldExpiry s
  | .conflictHoldExpiry => Sys2Proof.Machine.execConflictHoldExpiry s
  | .mirrorRx f => Sys2Proof.Machine.execMirrorRx f s
  | .handoverTimeout => Sys2Proof.Machine.execHandoverTimeout s
  | .netPairSwitch c => Sys2Proof.Machine.execNetPairSwitch c s
  | .netRingRediscover c => Sys2Proof.Machine.execNetRingRediscover c s
  | .netPortModeWrite n value => Sys2Proof.Machine.execNetPortModeWrite n value s
  | .aonReset => Sys2Proof.Machine.execAonReset s
  | .netPortLinkChange n up speed => Sys2Proof.Machine.execNetPortLinkChange n up speed s
  | .nfcReferenceReturn => Sys2Proof.Machine.execNfcReferenceReturn s
  | .tagFieldSessionStart => Sys2Proof.Machine.execTagFieldSessionStart s
  | .slewEnd => Sys2Proof.Machine.execSlewEnd s

end Sys2Proof.Machine
end

