-- ==== Sys2Proof/Safety.lean ====
section
/-! DEFINITION. The terms the claims use: what every step keeps (memory in its canonical form, the permits within the budget,
the rollback floor, SCRAPPED for good), and what a command on a ring needs and leaves (R113 to R121). -/
namespace Sys2Proof.Machine

/-- Memory is in its canonical form: addresses rise strictly and no entry holds what an unlisted address reads as. -/
def State.memOk (s : State) : Prop := tabWf memDefault s.mem = true

/-- The granted power stays within the budget (R64, R65). -/
def State.budgetOk (s : State) : Prop := grantedPower s.permits.grants ≤ s.permits.budget

/-- The legal log's released number never passes its last (R297). -/
def State.legalOk (s : State) : Prop := s.blz.released ≤ s.blz.last

/-- What no step can undo: the commands that wait stay, what was sent stays sent, memory stays canonical, the permits stay
within the budget (R65), the rollback floor never falls (R84), SCRAPPED is never left (R452), the device identity stands, the
legal log and the safety log never reuse a number (R294, R341) nor release one that stands ahead (R297), and a fused row stays
fused (R481). -/
structure Keeps (s t : State) : Prop where
  pending : t.pending = s.pending
  sent : ∃ l, t.sent = l ++ s.sent
  mem : s.memOk → t.memOk
  budget : s.budgetOk → t.budgetOk
  floor : s.cfg.arbMin ≤ t.cfg.arbMin
  scrapped : s.key.lc = .scrapped → t.key.lc = .scrapped
  device : t.key.devId = s.key.devId
  lseq : s.blz.last ≤ t.blz.last
  relOk : s.legalOk → t.legalOk
  cseq : s.saf.last ≤ t.saf.last
  fuses : ∀ r, r ∈ s.crs.fused → r ∈ t.crs.fused

/-- The descriptor a ring comes to next can be read: none of its octets lies on a poisoned line (R102). -/
def State.descRead (s : State) (c : Cmd) (opcode : Nat) : Prop := s.descLost (s.queue (queueOf (opcode / 256) c.side)) = false

/-- A posted command of a ring can start, its descriptor can be read, and its side has opened the host API (R116, R122). -/
def State.ready (s : State) (c : Cmd) (opcode : Nat) : Prop :=
  s.canStart (queueOf (opcode / 256) c.side) = true ∧ s.apiOpen c.side = true ∧ s.descRead c opcode

/-- The state in which the next command of its ring completes: the ring has started it, `f` is its effect on the machine, and
its result stands in its slot (R115 to R118, R125). -/
def State.doneAs (s : State) (c : Cmd) (opcode : Nat) (st : Status) (detail : Nat) (data : List Byte) (f : State → State) : State :=
  let q := queueOf (opcode / 256) c.side
  (f (s.startNext q)).complete q (s.queue q).started c opcode st detail data

/-- A command completes with OK, with an effect and with what its result carries. -/
def State.okAs (s : State) (c : Cmd) (opcode : Nat) (data : List Byte) (f : State → State) : State := s.doneAs c opcode .ok 0 data f

/-- A command completes with a failing status and with none of its effect (R120). -/
def State.failAs (s : State) (c : Cmd) (opcode : Nat) (st : Status) (detail : Nat := 0) : State := s.doneAs c opcode st detail [] id

/-- A command has started and waits (R116). -/
def State.waitAs (s : State) (c : Cmd) (opcode : Nat) (w : Waiting) (f : State → State) : State :=
  let q := queueOf (opcode / 256) c.side
  let u := f (s.startNext q)
  { u with hst := { u.hst with flights := u.hst.flights ++ [{ q := q, idx := (s.queue q).started, cmd := c, opcode := opcode, waits := w }] } }

/-- `s` with the event bits and the general event log of `t`: what else of two states is compared leaves the recording of
events (R487) aside. -/
def State.noting (s t : State) : State :=
  { s with evt := t.evt, elog := t.elog, eseq := t.eseq, elost := t.elost, eSec := t.eSec, eCount := t.eCount }

/-- An event bit of a block is set. -/
def State.evtSet (s : State) (blk bit : Nat) : Prop := (tget 0 s.evt blk).getLsbD bit = true

/-- The table of R179: a message stands in its place where the session's state, protocol and negotiation allow it. What needs no
place (a message that does not decode, a bad header, an error code) is always in place. -/
def Ctx.takes (c : Ctx) : V2g → Prop
  | .undecodable => True
  | .badHeader => True
  | .errorCode => True
  | .sessionSetup => c.st = .negotiate ∧ c.proto ≠ .none
  | .authSetup => c.st = .negotiate ∧ is20 c.proto = true ∧ c.setup = true
  | .serviceDiscovery => c.st = .authorise
  | .serviceSelect _ => c.st = .authorise
  | .paymentDetails => c.st = .authorise ∧ c.proto = .iso2
  | .authorization => c.st = .authorise
  | .chargeParam _ _ => c.st = .locking ∨ (c.st = .renegotiate ∧ c.proto = .iso2)
  | .scheduleExchange => (c.st = .locking ∨ c.st = .renegotiate) ∧ is20 c.proto = true
  | .cableCheck => c.st = .locking ∨ c.st = .cableCheck
  | .preCharge _ => c.st = .precharge ∨ c.st = .closing
  | .powerStart => (c.st = .precharge ∧ c.preDone = true ∧ c.ending = .none) ∨ c.st = .closing ∨ c.st = .renegotiate
  | .chargeLoop _ _ => c.st = .charging
  | .powerStop => c.st = .charging ∨ c.st = .renegotiate ∨ c.st = .stopping ∨ c.st = .opening ∨ c.st = .weldCheck
  | .pause => c.st = .charging ∨ c.st = .renegotiate ∨ c.st = .stopping ∨ c.st = .opening ∨ c.st = .weldCheck ∨
      c.st = .finishing ∨ c.st = .unplugWait
  | .renegotiate => c.st = .charging ∧ c.proto ≠ .din
  | .weldingDetection _ => c.st = .stopping ∨ c.st = .opening ∨ c.st = .weldCheck
  | .sessionStop => c.st = .finishing ∨ c.st = .unplugWait

/-- What every reset leaves (R46, R70, R516): the part held in reset with the cause latched, every block at its reset values,
and kept are the boot control record, the life cycle, the fuses, the legal log, the safety log and the octets of MRAM. -/
structure ResetBy (s t : State) (c : RstCause) : Prop where
  held : t.sys.inReset = true ∧ t.sys.bootStage = 0 ∧ (t.sys.pstate = .starting ∨ t.sys.pstate = .backup)
  cause : t.sys.rstCause = 1#7 <<< c.ctorIdx ∧ t.sys.causeCopy = c
  blank : t.img = {} ∧ t.permits = {} ∧ t.net = {} ∧ t.lnd = {} ∧ t.hst = {} ∧ t.yrd = {} ∧ t.imd = [] ∧ t.pvy = {} ∧ t.chk = {} ∧
    t.skl = {} ∧ t.brd = {} ∧ t.evt = []
  record : t.cfg.prefBank = s.cfg.prefBank ∧ t.cfg.trial = s.cfg.trial ∧ t.cfg.triesLeft = s.cfg.triesLeft ∧ t.cfg.arbMin = s.cfg.arbMin
  keys : t.key.lc = s.key.lc ∧ t.key.devId = s.key.devId ∧ ∀ n, 16 ≤ n → n < 128 → t.slot n = s.slot n
  fuses : t.crs.fused = s.crs.fused
  logs : t.blz.log = s.blz.log ∧ t.blz.last = s.blz.last ∧ t.saf.log = s.saf.log ∧ t.saf.params = s.saf.params
  mram : ∀ a, 0x20000000 ≤ a → a < 0x24000000 → t.byteAt a = s.byteAt a
  ram : ∀ a, (a < 0x20000000 ∨ 0x24000000 ≤ a) → t.byteAt a = memDefault

end Sys2Proof.Machine
end

