-- ==== Sys2Proof/Certificates/Slice0/Obligations.lean ====
section
/-! DEFINITION. The statements for the provers, family by family: what every step keeps, when each command of the table
completes and what it leaves, and what the machine's orders and limits promise. -/
section
open Sys2Proof Sys2Proof.Machine

/-- A step takes the command at the front of the queue and runs it on the machine with the queue's rest. On an empty queue the part idles
(assumption 1, the model's choice). -/
def Obligations.StepRunsTheFrontCommand : Prop :=
 (∀ (s : State) (i : Instr) (rest : List Instr), step { s with pending := i :: rest } = exec i { s with pending := rest }) ∧
 (∀ s : State, s.pending = [] → step s = .next s)

/-- A command takes nothing from the queue and adds nothing to it, and what the part has sent stays sent. No command ends in a fault or a
refusal. -/
def Obligations.CommandsCompleteAndLeaveTheQueue : Prop :=
 (∀ (i : Instr) (s t : State), exec i s = .next t → t.pending = s.pending ∧ ∃ l, t.sent = l ++ s.sent) ∧
 (∀ (i : Instr) (s : State), ∃ t, exec i s = .next t)

/-- The machine right after reset: the part is held, every pilot is in state F, no context, no permit and no record exists. Right after
reset every register the spec maps reads its reset value (R5, R70, R94, R124, R125 and the other register tables): of the registers of a
bay, context, lane, channel, antenna or panel the first, and every one where the value is not 0. The invariants hold right after reset. -/
def Obligations.ResetLeavesTheSpecifiedState : Prop :=
 (State.reset.sys.inReset = true ∧ State.reset.sys.pstate = .starting ∧ State.reset.permits.grants = [] ∧ State.reset.permits.waiting = [] ∧
  (∀ n, (State.reset.bay n).pilot = .f ∧ (State.reset.bay n).gen = .minus12) ∧ (∀ k, (State.reset.ctx k).st = .free) ∧
  (∀ q, (State.reset.queue q).en = false ∧ (State.reset.queue q).seq = 0) ∧ (∀ b, tget 0 State.reset.evt b = 0) ∧
  State.reset.saf.spar = .off ∧ State.reset.mem = [] ∧ State.reset.pending = []) ∧
 ((∀ p ∈ ([
    (0x00, [0x0000, 0x0004, 0x0014, 0x0018, 0x0020, 0x0100, 0x0104, 0x0108]),
    (0x01, [0x0000, 0x0004, 0x0008, 0x000C, 0x0014, 0x0020, 0x0040]),
    (0x02, [0x0000, 0x0004, 0x0010, 0x0014, 0x0018, 0x0020]),
    (0x03, [0x0000, 0x0100, 0x0104, 0x0108, 0x010C, 0x0110, 0x0114, 0x1000, 0x1004, 0x1008]),
    (0x04, [0x0000, 0x0008, 0x000C, 0x0100]),
    (0x05, [0x0000, 0x0008, 0x0300, 0x0304, 0x0310, 0x0314, 0x0318, 0x031C, 0x0400, 0x0404, 0x0480, 0x0484, 0x0488, 0x048C]),
    (0x06, [0x0000, 0x0004, 0x0008, 0x000C, 0x0010, 0x0020, 0x0024, 0x0030]),
    (0x07, [0x0000, 0x0004, 0x0010, 0x0100, 0x0104, 0x0108, 0x010C, 0x0110, 0x0300, 0x0304, 0x0308]),
    (0x08, [0x0000, 0x0004, 0x0008, 0x000C, 0x0010, 0x0014, 0x0018, 0x001C, 0x0024, 0x0028, 0x002C, 0x0030, 0x1000, 0x1004, 0x1400, 0x1404]),
    (0x09, [0x0000, 0x0004, 0x0008, 0x000C, 0x0010, 0x0014, 0x0018, 0x0020]),
    (0x0A, [0x0000, 0x0004, 0x0100, 0x0108, 0x010C, 0x0110, 0x0118, 0x011C, 0x0120, 0x0124]),
    (0x0B, [0x0000, 0x0004, 0x0010, 0x0014, 0x0018, 0x0020, 0x0024, 0x0028, 0x0030, 0x0040, 0x0044, 0x0048, 0x004C, 0x0100, 0x0104]),
    (0x0C, [0x0000, 0x0010, 0x0014, 0x0018, 0x1000, 0x1004, 0x1008, 0x100C, 0x1010, 0x1014, 0x1018, 0x101C, 0x1020, 0x1024, 0x1028, 0x1030, 0x1034, 0x1038, 0x103C, 0x1040, 0x1044, 0x1048, 0x104C, 0x4000]),
    (0x0D, [0x0000, 0x0004, 0x0008, 0x0010, 0x0014, 0x0018, 0x0100, 0x0104, 0x0108, 0x010C]),
    (0x0E, [0x0000, 0x0004, 0x000C, 0x0010, 0x0020, 0x0024, 0x0028, 0x002C]),
    (0x0F, [0x0000, 0x0010, 0x0100, 0x0108, 0x0200, 0x0204]),
    (0x10, [0x0000, 0x0010, 0x0100, 0x0104, 0x0108, 0x010C, 0x0110, 0x1000]),
    (0x11, [0x0000, 0x0010, 0x0020, 0x0030, 0x0040, 0x0044]),
    (0x12, [0x0000, 0x0004, 0x0008, 0x000C, 0x0010, 0x0014, 0x0018, 0x0020, 0x0024]),
    (0x13, [0x0000, 0x0010, 0x0014, 0x0020, 0x0040]),
    (0x14, [0x0000, 0x0010, 0x0014, 0x0018, 0x0020, 0x0100])] : List (Nat × List Nat)), ∀ off ∈ p.2, State.reset.regRead p.1 off = 0) ∧
  State.reset.regRead 0x00 0x0010 = 0x3FF ∧ State.reset.regRead 0x00 0x0030 = 0x4B ∧ State.reset.regRead 0x01 0x0010 = 0x01030000 ∧
  State.reset.regRead 0x07 0x0008 = 0x64 ∧ State.reset.regRead 0x08 0x0020 = 0xFFFFFFFF ∧ State.reset.regRead 0x0E 0x0008 = 0xFFF ∧
  State.reset.regRead 0x10 0x0014 = 2 ∧ State.reset.regRead 0x13 0x0004 = 0x64 ∧
  (∀ n, n < 8 → State.reset.regRead 0x04 (0x10 * n + 4) = 5 ∧ State.reset.regRead 0x05 (0x10 * n + 4) = 0xFF00 ∧
    State.reset.regRead 0x0A (0x40 * n + 0x104) = 0xFFFFFFFF ∧ State.reset.regRead 0x0A (0x40 * n + 0x114) = 0x01F40064 ∧
    State.reset.regRead 0x0F (0x10 * n + 0x104) = 0x0A0A) ∧
  (∀ k, k < 128 → State.reset.regRead 0x05 (4 * k + 0x100) = 0x00FF0000)) ∧
 (State.reset.memOk ∧ State.reset.budgetOk ∧ State.reset.legalOk)

/-- Memory keeps its canonical form at every step: addresses rise strictly and no entry holds what an unlisted address reads as, so that
equal memories are equal data. -/
def Obligations.MemoryStaysCanonical : Prop := ∀ s t : State, s.memOk → step s = .next t → t.memOk

/-- R65: the sum of all granted power never exceeds the budget, whatever a step does. -/
def Obligations.GrantedPowerStaysWithinBudget : Prop := ∀ s t : State, s.budgetOk → step s = .next t → t.budgetOk

/-- R297, R294: the legal log's `LEG_LAST` never falls, and its `LEG_RELEASED` stays at or below it. R83: the rollback floor `ARB_MIN`
never decreases. R452: no command leaves life-cycle state SCRAPPED. R341: the safety change log's last number never falls; R481: a fused
row stays fused; the device identity stands. -/
def Obligations.NoStepUndoesThese : Prop :=
 (∀ s t : State, s.legalOk → step s = .next t → s.blz.last ≤ t.blz.last ∧ t.legalOk) ∧
 (∀ s t : State, step s = .next t → s.cfg.arbMin ≤ t.cfg.arbMin) ∧
 (∀ s t : State, s.key.lc = .scrapped → step s = .next t → t.key.lc = .scrapped) ∧
 (∀ s t : State, step s = .next t →
    s.saf.last ≤ t.saf.last ∧ (∀ r, r ∈ s.crs.fused → r ∈ t.crs.fused) ∧ t.key.devId = s.key.devId)

/-- A command posted on a ring that cannot start it (disabled, empty, held back by the command before it, or the part in reset) changes
nothing (R115, R116; assumption 6). -/
def Obligations.CommandWaitsForItsRing : Prop :=
  ∀ (i : Instr) (c : Cmd) (op : Nat) (s : State), i.posted = some (c, op) → s.canStart (queueOf (op / 256) c.side) = false →
    exec i s = .next s

/-- R116: until its side has opened the host API, every command but HST_API_OPEN completes with VERSION and does nothing else. R102: a
command, HST_API_OPEN too, whose descriptor lies on a poisoned line completes with FAULT and does nothing else. After either, what waited
for a permit is decided where its block can start one. -/
def Obligations.ClosedApiAnswersVersion : Prop :=
  ∀ (i : Instr) (c : Cmd) (op : Nat) (s : State), i.posted = some (c, op) → s.canStart (queueOf (op / 256) c.side) = true →
    (op ≠ 0x0301 → s.descRead c op → s.apiOpen c.side = false →
      exec i s = .next (s.failAs c op .version) ∨ exec i s = .next (s.failAs c op .version).settle) ∧
    (¬ s.descRead c op → exec i s = .next (s.failAs c op .fault) ∨ exec i s = .next (s.failAs c op .fault).settle)

/-- R117: a completed command's result block is its 64 octets of `SEQ`, `FLAGS`, `STATUS`, `TAG`, `OPCODE`, `DETAIL`, `TIME` and `DATA` in
its slot. No other octet of memory changes; `SEQ` is the ring's next completion number, the completion is counted in its block, and every
other ring and every other counter stays as it was. -/
def Obligations.CompletionWritesItsResult : Prop :=
  ∀ (s : State) (c : Cmd) (q idx op detail : Nat) (st : Status) (data : List Byte),
    let Q := s.queue q
    let a := landing (Q.res + 64 * (idx % 2 ^ Q.log2))
    let t := s.complete q idx c op st detail data
    t.readMem a 64 = le 4 (nextSeq Q.seq) ++ le 1 1 ++ le 1 st.ctorIdx ++ le 2 c.tag.toNat ++ le 2 op ++ le 2 detail ++ le 8 s.now.pack ++
      padTo 44 data ∧
    (∀ x, x < a ∨ a + 64 ≤ x → t.byteAt x = s.byteAt x) ∧
    (t.queue q).seq = nextSeq Q.seq ∧ (t.queue q).irqPend = (Q.irqPend || c.irq) ∧
    (t.queue q).pi = Q.pi ∧ (t.queue q).started = Q.started ∧
    (∀ p, p ≠ q → t.queue p = s.queue p) ∧
    t.cnt (q / 2) = (s.cnt (q / 2)).count st ∧ (∀ b, b ≠ q / 2 → t.cnt b = s.cnt b) ∧
    t.sent = (if c.irq then .irq Q.vector :: s.sent else s.sent) ∧
    t = { s with mem := t.mem, lnd := t.lnd, hst := { s.hst with queues := t.hst.queues, cnts := t.hst.cnts }, sent := t.sent } ∧
    t.lnd = { s.lnd with poison := t.lnd.poison }

/-- R44, R45, R46, R58, R63, R70, R71: each cause of reset, outside a reset in progress, leaves the machine as a reset leaves it with that
cause latched; the pin's rising edge latches the straps, and a rail fault with which the main supplies fail leaves the part in BACKUP.
While a reset is in progress a cause changes nothing, but of two that coincide the one listed first is named. R44, R45, R63, R498: what is
filtered or too short to be a fault changes nothing. -/
def Obligations.CausesOfResetReset : Prop :=
 ((∀ (s : State) (us : Nat) (st : Straps) (coin : Bool), s.closedOff = false → 10 ≤ us →
    ∃ t : State, exec (.porstNPulse us st coin) s = .next t ∧ ResetBy s t .porstPin ∧ t.sys.straps = st ∧ t.sys.pstate = .starting) ∧
  (∀ (s : State) (ns : Nat) (coin mf : Bool), s.closedOff = false → 2000 ≤ ns →
    ∃ t : State, exec (.railFault ns coin mf) s = .next t ∧ ResetBy s t .railFault ∧ t.sys.straps = s.sys.straps ∧
      t.sys.pstate = (if mf then .backup else .starting) ∧ t.tim.rtcValid = (s.tim.rtcValid && !(mf && s.sys.x32Lost))) ∧
  (∀ (s : State) (pm us : Nat) (coin : Bool), s.closedOff = false → 20 < pm → 100 ≤ us →
    ∃ t : State, exec (.clkFault pm us coin) s = .next t ∧ ResetBy s t .clkFault ∧ t.sys.straps = s.sys.straps) ∧
  (∀ (s : State) (coin : Bool), s.closedOff = false →
    ∃ t : State, exec (.secWdt coin) s = .next t ∧ ResetBy s t .secWdt ∧ t.sys.straps = s.sys.straps) ∧
  (∀ (s : State) (coin : Bool), s.closedOff = false → s.sys.swResetDue = true →
    ∃ t : State, exec (.swReset coin) s = .next t ∧ ResetBy s t .swReset ∧ t.sys.straps = s.sys.straps) ∧
  (∀ s : State, ∃ t : State, exec .aonReset s = .next t ∧ t.sys.inReset = true ∧ t.sys.rstCause = 0 ∧ t.sys.vauxThr = 75 ∧
    t.sys.straps = {} ∧ t.tim.rtcValid = false ∧ t.scl.residual = none ∧ t.blz.log = s.blz.log ∧ t.blz.last = s.blz.last ∧
    t.cfg.arbMin = s.cfg.arbMin ∧ t.key.lc = s.key.lc) ∧
  (∀ s : State, s.closedOff = true → exec (.secWdt false) s = .next s ∧ (s.sys.swResetDue = true → exec (.swReset false) s = .next s) ∧
    (s.sys.causeCopy.ctorIdx ≤ RstCause.secWdt.ctorIdx → exec (.secWdt true) s = .next s) ∧
    (RstCause.secWdt.ctorIdx < s.sys.causeCopy.ctorIdx → exec (.secWdt true) s = .next { s with
      sys := { s.sys with causeCopy := .secWdt, rstCause := 1#7 <<< RstCause.secWdt.ctorIdx } }))) ∧
 (∀ (s : State) (coin : Bool),
    (∀ (us : Nat) (st : Straps), us < 10 → exec (.porstNPulse us st coin) s = .next s) ∧
    (∀ ns mf, ns < 2000 → exec (.railFault ns coin mf) s = .next s) ∧
    (∀ pm us, (pm ≤ 20 ∨ us < 100) → exec (.clkFault pm us coin) s = .next s) ∧
    (s.sys.swResetDue = false → exec (.swReset coin) s = .next s))

/-- R57, R58, R240, R245: where `PFW_N` is low or `VAUX` below its threshold while the part runs, the power-fail sequence ends in reset
with its own cause latched, in BACKUP where the main supplies fail with it; the residual that Scaler saves carries the instant of its last
sample, one boundary of 62.5 µs after another from the warning. Where neither holds, and during a reset with the supplies standing, only
the levels are taken. R63, R417, R468: losing the 27.12 MHz reference stops the reader and fails a poll in progress; its return lets the
reader run again where an antenna is enabled. Losing the 32.768 kHz crystal sets its flag, and in BACKUP makes the real-time clock's time
invalid. Losing the safe clock takes Guyline's clock away, trips its enables and ends every session by the safe state's path. -/
def Obligations.PowerFailAndClockLosses : Prop :=
 (∀ (s : State) (pfwN mf : Bool) (vaux afterNs : Nat) (post : List (List BayCodes)),
    (s.sys.inReset = false → (pfwN = false ∨ vaux < s.sys.vauxThr) →
      ∃ t : State, exec (.powerFailWarning pfwN vaux afterNs post mf) s = .next t ∧
        t.sys.inReset = true ∧ t.sys.bootStage = 0 ∧ t.sys.rstCause = 1#7 <<< RstCause.pfailRestart.ctorIdx ∧
        t.sys.pstate = (if mf then .backup else .starting) ∧ t.sys.pfwN = pfwN ∧ t.sys.vaux = vaux ∧
        t.permits = {} ∧ t.img = {} ∧ t.evt = [] ∧ t.tly.dirty = false ∧
        (s.tly.running = true → ∃ r, t.scl.residual = some r ∧
          r.stop = Stamp.ofNs ((s.warnInstant afterNs).toNs + 62500 * post.length))) ∧
    ((pfwN = true ∧ s.sys.vauxThr ≤ vaux) ∨ (s.closedOff = true ∧ mf = false) →
      exec (.powerFailWarning pfwN vaux afterNs post mf) s = .next { s with sys := { s.sys with pfwN := pfwN, vaux := vaux } })) ∧
 ((∀ s : State, s.sys.inReset = false → ∃ u : State, exec .nfcLoss s = .next u.settle ∧
    u.sys.nfcLoss = true ∧ u.sys.refLost = true ∧ u.nfc.run = false ∧ u.nfc.fieldOn = false ∧
    u.cfg = s.cfg ∧ u.img = s.img ∧ u.vlk = s.vlk ∧ u.saf = s.saf ∧ u.tly = s.tly ∧ u.tim = s.tim ∧ u.key = s.key) ∧
  (∀ s : State, s.sys.inReset = true → exec .nfcLoss s = .next { s with
    sys := { s.sys with nfcLoss := s.sys.nfcLoss || !s.closedOff, refLost := true } }) ∧
  (∀ (s : State) (b : Bool), s.sys.inReset = false →
    exec (.x32Loss b) s = .next { s with sys := { s.sys with x32Loss := true, x32Lost := true } }) ∧
  (∀ s : State, s.closedOff = true → exec (.x32Loss true) s = .next { s with
    sys := { s.sys with pstate := .backup, x32Lost := true }, tim := { s.tim with rtcValid := false } }) ∧
  (∀ s : State, s.sys.inReset = false →
    exec .safeClockLoss s = .next (({ s with saf := { s.saf with safeClk := false } } : State).guard.endAllSafe).settle) ∧
  (∀ s : State, s.sys.inReset = false → ∃ u : State, exec .nfcReferenceReturn s = .next u ∧
    u.sys = { s.sys with refLost := false } ∧ u.vlk = s.vlk ∧ u.saf = s.saf ∧ u.permits = s.permits ∧
    u.nfc.run = (List.range 8).any (fun n => (s.cAnt n).en)))

/-- R49, R50, R52, R57, R58, R83, R85, R441, R452: how far a start gets, once the conditions after a reset have held with the power-fail
inputs good; where they have not nothing starts. In SCRAPPED it halts in stage 2, as it does with boot source 3 in MANUFACTURE (the stage
shown there is the model's choice: assumption 37); where neither copy of the helper data gives the root secret it halts in stage 3; with
the boot source PCIe it waits in stage 5 for an image. Else the trial's record steps, and the preferred bank's image goes on to step 6, or
the other's with FALLBACK, and where both fail the start is in BOOT_FAIL with the code of the last. An image comes up into ACTIVE, unless
the memory tests, the engine load or Spar's diagnostics fail, with codes 7, 8 and 9 and the threshold it has set; a warning condition that
then stands is a warning. R57, R85: while a start over PCIe waits, blocks of an image are taken in order; the first must hold a header
that passes its checks, else `PCIE_REJ` is set (for a first block too short to hold one, the model's choice: assumption 38); once all of
the image has come it is checked whole, and the start goes on from step 6, or is in BOOT_FAIL. No start that waits, or a length out of
range, takes none. R65, R68, R89: records left over ask for an MRAM bulk-write permit in the background, one request at a time, with the
power, priority and wait limit of R68 (how long it lasts is the model's choice: assumption 37). -/
def Obligations.StartsReachTheirStage : Prop :=
 (∀ (s : State) (env : BootEnv),
    (∀ held, (held = false ∨ s.closedOff = false ∨ env.pfwN = false ∨ env.vaux ≤ s.sys.vauxThr) → exec (.boot held env) s = .next s) ∧
    (s.closedOff = true → env.pfwN = true → s.sys.vauxThr < env.vaux →
      let w := (((s.bootBegin env).bootLife).bootKeys env).dramTrained env;
      let a : State := { w with cfg := w.cfg.trialStep };
      let p := a.cfg.prefBank;
      let x := a.tryBank p;
      let y := ({ x.1 with cfg := { x.1.cfg with fallback := true } } : State).tryBank (1 - p);
      let debug : Prop := s.sys.straps.bootSrc = 3 ∧ s.key.lc = .manufacture;
      ((s.key.lc = .scrapped ∨ debug) → ∃ t : State, exec (.boot true env) s = .next t ∧ t.sys.bootStage = 2 ∧ t.sys.bootFail = 0 ∧
        t.sys.inReset = true) ∧
      (s.key.lc ≠ .scrapped → ¬ debug → s.key.puf env = none → ∃ t : State, exec (.boot true env) s = .next t ∧ t.sys.bootStage = 3 ∧
        t.sys.bootFail = 0 ∧ t.sys.inReset = true) ∧
      (s.key.lc ≠ .scrapped → ¬ debug → s.key.puf env ≠ none →
        (s.sys.straps.bootSrc = 1 → ∃ t : State, exec (.boot true env) s = .next t ∧ t.sys.bootStage = 5 ∧ t.sys.bootEnv = some env ∧
          t.cfg.fromPcie = true ∧ t.sys.inReset = true ∧ t.sys.dramGiB = env.dramGiB) ∧
        (s.sys.straps.bootSrc ≠ 1 →
          (∀ r, x.2 = .ok r → exec (.boot true env) s = .next (({ x.1 with cfg := { x.1.cfg with
            runBank := p, runTrial := x.1.cfg.trial } } : State).bootImage r.1 r.2 env).warnedBy) ∧
          (∀ e r, x.2 = .error e → y.2 = .ok r → exec (.boot true env) s = .next (({ y.1 with cfg := { y.1.cfg with
            runBank := 1 - p } } : State).bootImage r.1 r.2 env).warnedBy) ∧
          (∀ e e', x.2 = .error e → y.2 = .error e' → ∃ t : State, exec (.boot true env) s = .next t ∧ t.sys.bootStage = 0xE ∧
            t.sys.bootFail = e' ∧ t.sys.inReset = true ∧ t.cfg.fallback = true)))) ∧
    (∀ k : Cfg, (k.trial = true → k.triesLeft = 0 → k.trialStep = { k with trial := false, prefBank := 1 - k.prefBank }) ∧
      (k.trial = true → k.triesLeft ≠ 0 → k.trialStep = { k with triesLeft := k.triesLeft - 1 }) ∧ (k.trial = false → k.trialStep = k)) ∧
    (∀ (img : Image) (c : ImageContent), let bad := (s.applyImage img c).testsFail env;
      (bad = true → s.bootImage img c env = { s with sys := { s.sys with vauxThr := c.struct_.vauxThr, bootStage := 0xE, bootFail := 7 } }) ∧
      (bad = false → env.loadFail = true →
        s.bootImage img c env = { s with sys := { s.sys with vauxThr := c.struct_.vauxThr, bootStage := 0xE, bootFail := 8 } }) ∧
      (bad = false → env.loadFail = false → env.sparFail = true →
        (s.bootImage img c env).sys = { s.sys with vauxThr := c.struct_.vauxThr, bootStage := 0xE, bootFail := 9 }) ∧
      (bad = false → env.loadFail = false → env.sparFail = false → ∃ u : State, s.bootImage img c env = u.settle ∧ u.sys.inReset = false ∧
        u.sys.pstate = .active ∧ u.sys.bootStage = 0xF ∧ u.sys.bootFail = 0 ∧ u.cfg.runBank = s.cfg.runBank ∧ u.img = c)) ∧
    (env.memFail = true → s.testsFail env = true) ∧ (env.memFail = false → env.badRows = [] → s.testsFail env = false) ∧
    (s.warnedBy = if s.sys.pfwN = false ∨ s.sys.vaux < (s.sys.vauxThr : Int) then s.powerFail 0 [] else s)) ∧
 ((∀ (s : State) (len : Nat) (img : Image), (s.sys.inReset = false ∨ s.sys.bootEnv = none ∨ len = 0 ∨ 4194304 < len) →
    exec (.pcieImageBlock len img) s = .next s) ∧
  (∀ (s : State) (env : BootEnv) (len : Nat) (img : Image), s.sys.inReset = true → s.sys.bootEnv = some env → 1 ≤ len → len ≤ 4194304 →
    (s.cfg.pcieGot = 0 → (len < 256 ∨ (s.headerFail img.hdr).isSome = true) →
      exec (.pcieImageBlock len img) s = .next ({ s with cfg := { s.cfg with xferLen := len, own := false, pcieRej := true } } : State).warnedBy) ∧
    (∀ (v : State) (i : Image),
      ((s.cfg.pcieGot = 0 ∧ 256 ≤ len ∧ s.headerFail img.hdr = none ∧ i = img) ∨ (∃ j, s.cfg.pcieGot ≠ 0 ∧ s.cfg.pcieImg = some j ∧
        (j = img → i = j) ∧ (j ≠ img → i = { j with bodyId := j.hdr.bodyDigest + 1 }))) →
      v = { s with cfg := { s.cfg with xferLen := len, own := false, pcieImg := some i, pcieGot := s.cfg.pcieGot + len } } →
      (v.cfg.pcieGot < 256 + i.hdr.bodyLen → exec (.pcieImageBlock len img) s = .next v.warnedBy) ∧
      (256 + i.hdr.bodyLen ≤ v.cfg.pcieGot → ∀ w : State, w = { v with cfg := { v.cfg with pcieImg := none, pcieGot := 0 } } →
        (∀ c, w.loadImage i = .ok c → exec (.pcieImageBlock len img) s = .next (w.bootImage i c env).warnedBy) ∧
        (∀ e, w.loadImage i = .error e → exec (.pcieImageBlock len img) s =
          .next ({ w with sys := { w.sys with bootStage := 0xE, bootFail := e } } : State).warnedBy)))) ∧
  (∀ (s : State) (records : Nat), s.sys.inReset = false → s.nextRecord.isSome = true → s.asks .mramBulk = false → s.holds .mramBulk = false →
    exec (.migrationBackground records) s = .next (({ s with
      cfg := { s.cfg with bulk := records }
      permits := { s.permits with
        waiting := s.permits.waiting ++ [⟨s.permits.nextId, .mramBulk, (s.permitCfg .mramBulk).power, bulkMs, (s.permitCfg .mramBulk).prio,
          (s.permitCfg .mramBulk).wait, s.permits.nextArrival⟩]
        nextId := s.permits.nextId + 1, nextArrival := s.permits.nextArrival + 1 } } : State).settle)) ∧
  (∀ (s : State) (records : Nat), (s.sys.inReset = true ∨ s.nextRecord = none ∨ s.asks .mramBulk = true ∨ s.holds .mramBulk = true) →
    exec (.migrationBackground records) s = .next s))

/-- R64, R71: SYS_PERMIT_REQ with operands in range presents a request and waits for it; operands out of range or above the budget
complete with RANGE, and a request in range during a power failure with PERMIT. R67, R71: SYS_PERMIT_RELEASE gives a held permit back, and
completes with RANGE for a handle that holds none. R66: a request whose wait limit passes is withdrawn, counted in `SYS_PMT_FAILS` and
fails towards its owner. R67, R364: a grant with a duration ends when it expires, after a channel's inrush grant its conduction request is
presented, and a standing grant does not end. -/
def Obligations.PermitsAreAskedAndExpire : Prop :=
 (∀ (s : State) (c : Cmd),
    (∀ power dur prio wait, s.ready c 0x0001 → 1 ≤ power → power ≤ 65535 → dur ≤ 60000 → 4 ≤ prio → prio ≤ 7 → wait ≤ 10000 →
      power ≤ s.permits.budget →
      (s.sys.pfail = false → exec (.sysPermitReq c power dur prio wait) s = .next (s.waitAs c 0x0001 (.permit s.permits.nextId) (fun u =>
        { u with permits := { u.permits with
            waiting := u.permits.waiting ++ [⟨u.permits.nextId, .software (queueOf 0 c.side) u.permits.nextId, power, dur, prio, wait,
              u.permits.nextArrival⟩],
            nextId := u.permits.nextId + 1, nextArrival := u.permits.nextArrival + 1 } })).settle) ∧
      (s.sys.pfail = true → exec (.sysPermitReq c power dur prio wait) s = .next (s.failAs c 0x0001 .permit).settle)) ∧
    (∀ power dur prio wait, s.ready c 0x0001 →
      (power = 0 ∨ 65535 < power ∨ 60000 < dur ∨ prio < 4 ∨ 7 < prio ∨ 10000 < wait ∨ s.permits.budget < power) →
      exec (.sysPermitReq c power dur prio wait) s = .next (s.failAs c 0x0001 .range).settle) ∧
    (∀ h, s.ready c 0x0002 → s.holds (.held h) = true →
      exec (.sysPermitRelease c h) s = .next (s.okAs c 0x0002 [] (fun u => { u with permits := { u.permits with
        grants := u.permits.grants.filter (fun g => g.owner ≠ .held h),
        waiting := u.permits.waiting.filter (fun r => r.owner ≠ .held h) } })).settle) ∧
    (∀ h, s.ready c 0x0002 → s.holds (.held h) = false → exec (.sysPermitRelease c h) s = .next (s.failAs c 0x0002 .range).settle)) ∧
 ((∀ (s : State) (id : Nat) (r : PReq), s.permits.waiting.find? (fun x => x.id = id) = some r →
    exec (.permitWaitExpiry id) s = .next (({ s with permits := { s.permits with
      waiting := s.permits.waiting.filter (fun x => x.id ≠ id), fails := s.permits.fails + 1 } } : State).permitFailed r).settle) ∧
  (∀ (s : State) (id : Nat), s.permits.waiting.find? (fun x => x.id = id) = none → exec (.permitWaitExpiry id) s = .next s) ∧
  (∀ (s : State) (id : Nat) (g : Grant), s.permits.grants.find? (fun x => decide (x.id = id) && !x.standing) = some g →
    ((∀ ch, g.owner ≠ .inrush ch ∧ g.owner ≠ .retry ch) →
      exec (.permitExpiry id) s = .next ({ s with permits := { s.permits with
        grants := s.permits.grants.filter (fun x => x.id ≠ id) } } : State).settle) ∧
    (∀ ch, (g.owner = .inrush ch ∨ g.owner = .retry ch) → (s.chan ch).st = .inrush →
      exec (.permitExpiry id) s = .next (({ s with permits := { s.permits with
        grants := s.permits.grants.filter (fun x => x.id ≠ id) } } : State).askConduction ch).settle)) ∧
  (∀ (s : State) (id : Nat), (∀ g ∈ s.permits.grants, g.id = id → g.standing = true) → exec (.permitExpiry id) s = .next s))

/-- R65: outside a power failure, the waiting request that stands first (highest priority, 0 being the highest, and among those the one
that arrived first) is granted exactly when the sum of all granted power plus its power does not exceed the budget; while it does not fit
nothing behind it is granted, and nothing else ever is. A Choker conduction request counts as waiting only while R364 lets it be
presented. -/
def Obligations.PermitsAreGrantedInOrder : Prop :=
 (∀ (s : State) (r : PReq), s.grantable = some r →
    r ∈ s.permits.waiting ∧ s.presentable r = true ∧ grantedPower s.permits.grants + r.power ≤ s.permits.budget ∧
    ∀ x ∈ s.permits.waiting, s.presentable x = true → r.prio ≤ x.prio ∧ (x.prio = r.prio → r.arrival ≤ x.arrival)) ∧
 (∀ (s : State) (r : PReq), s.sys.pfail = false → r ∈ s.permits.waiting → s.presentable r = true →
    (∀ x ∈ s.permits.waiting, s.presentable x = true → x ≠ r → r.prio < x.prio ∨ (x.prio = r.prio ∧ r.arrival < x.arrival)) →
    s.grantable = if grantedPower s.permits.grants + r.power ≤ s.permits.budget then some r else none)

/-- R53 to R56, R71: the power-state commands and wake sources. SYS_SLEEP fails with STATE while anything of R55's list is busy, else it
enters IDLE-SITE with its timer; SYS_POWER_MODE moves between ACTIVE and FULL, and fails with RANGE for another target and with STATE
outside them; SYS_RESET arms the reset where no contactor is closed and no session runs, else it fails with STATE; a wake source that is
kept and enabled wakes the part into ACTIVE (a pilot only of an enabled bay, the timer only where it was set), and any other does nothing.
-/
def Obligations.PowerStatesChange : Prop :=
  (∀ (s : State) (c : Cmd) (timer : Nat), s.ready c 0x0003 → s.awake = true → s.noSleep = false →
    exec (.sysSleep c timer) s = .next (s.okAs c 0x0003 [] (fun u => u.idle timer))) ∧
  (∀ (s : State) (timer : Nat), (s.idle timer).sys = { s.sys with pstate := .idleSite, wakeTimer := timer } ∧
    (s.idle timer).scl.run = false ∧ (s.idle timer).pvy.run = false ∧ (s.idle timer).nfc.fieldOn = false ∧
    (s.saf.spar = .run → (s.idle timer).saf.spar = .idle)) ∧
  (∀ (s : State) (c : Cmd) (timer : Nat), s.ready c 0x0003 → (s.noSleep = true ∨ s.awake = false) →
    exec (.sysSleep c timer) s = .next (s.failAs c 0x0003 .state)) ∧
  (∀ (s : State) (c : Cmd), s.ready c 0x0004 → s.awake = true →
    exec (.sysPowerMode c 3) s = .next (s.okAs c 0x0004 [] (fun u => { u with sys := { u.sys with pstate := .active } })) ∧
    exec (.sysPowerMode c 4) s = .next (s.okAs c 0x0004 [] (fun u => { u with sys := { u.sys with pstate := .full } }))) ∧
  (∀ (s : State) (c : Cmd) (target : Nat), s.ready c 0x0004 →
    (target ≠ 3 → target ≠ 4 → exec (.sysPowerMode c target) s = .next (s.failAs c 0x0004 .range)) ∧
    ((target = 3 ∨ target = 4) → s.awake = false → exec (.sysPowerMode c target) s = .next (s.failAs c 0x0004 .state))) ∧
  (∀ (s : State) (c : Cmd), s.ready c 0x0005 →
    (s.contactorClosed = false → s.anyContext = false →
      exec (.sysReset c) s = .next (s.okAs c 0x0005 [] (fun u => { u with sys := { u.sys with swResetDue := true } }))) ∧
    ((s.contactorClosed = true ∨ s.anyContext = true) → exec (.sysReset c) s = .next (s.failAs c 0x0005 .state))) ∧
  (∀ (s : State) (src bay : Nat), s.sys.inReset = false → s.sys.pstate = .idleSite → src < 10 →
    s.img.struct_.wakeKeep.getLsbD src = true → s.sys.wakeEn.getLsbD src = true → (src = 0 → (s.cBay bay).enabled = true) →
    (src = 7 → s.sys.wakeTimer ≠ 0) → exec (.wake src bay) s = .next (s.wakeUp src bay)) ∧
  (∀ (s : State) (src bay : Nat), (s.canWake src bay = false ∨ (src = 7 ∧ s.sys.wakeTimer = 0)) → exec (.wake src bay) s = .next s) ∧
  (∀ (s : State) (v : Word), v.getLsbD 0 = true → s.sys.inReset = false → s.sys.pstate = .idleSite →
    s.img.struct_.wakeKeep.getLsbD 9 = true → s.sys.wakeEn.getLsbD 9 = true →
    exec (.doorbell v) s = .next (s.wakeUp 9 0)) ∧
  (∀ (s : State) (v : Word), (v.getLsbD 0 = false ∨ s.canWake 9 0 = false) → exec (.doorbell v) s = .next s) ∧
  (∀ (s : State) (src bay : Nat), ∃ u : State, s.wakeUp src bay = u.settle ∧
    u.sys = { s.sys with pstate := .active, wakeSrc := 1#10 <<< src, wakeBay := (if src ≤ 2 then bay else s.sys.wakeBay), wakeTimer := 0 })

/-- R95, R93: a CFG command runs in FIELD and SERVICE only, else it completes with LOCKED; during a power failure it completes with
PERMIT. Neither changes anything but the ring. R74, R83, R84, R91 to R95, R299: what each CFG command does in FIELD and SERVICE outside a
power failure, where its bank is one of two and neither runs nor is under a trial: erase and write, RANGE for a chunk out of bounds;
verification with its outcome (what the bank's version register shows after a failing check and what METRO_SAME is compared with are the
model's choice: assumption 37); activation with three tries; confirmation that raises `ARB_MIN` to the running image's counter; revert to
the other bank where it verifies (the code of one that does not: assumption 37); and the statement that clears `REVERIFY`, with the status
of its first failing check, RANGE and detail 9 for another digest, or LOGFULL. A bank number above 1 is RANGE. R74, R83, R93: a bank that
runs, or any bank while a trial is on, is neither erased nor written; a bank that is not verified is not activated; without a trial
nothing is confirmed or reverted, and `REVERIFY` is cleared only while it stands and no trial is on. Each completes with STATE and changes
nothing. R91: the verification statement makes the running image's metrology digest the verified one and clears `REVERIFY`, and one entry
of kind 5 is written to the legal log. -/
def Obligations.CfgCommandsComplete : Prop :=
 (∀ (i : Instr) (c : Cmd) (op : Nat) (s : State), i.posted = some (c, op) → op / 256 = 1 → s.ready c op →
    ((s.key.lc ≠ .field ∧ s.key.lc ≠ .service) → exec i s = .next (s.failAs c op .locked)) ∧
    ((s.key.lc = .field ∨ s.key.lc = .service) → s.sys.pfail = true → exec i s = .next (s.failAs c op .permit))) ∧
 (∀ (s : State) (c : Cmd), (s.key.lc = .field ∨ s.key.lc = .service) → s.sys.pfail = false →
    (∀ bank off len img, 1 < bank →
      (s.ready c 0x0101 → exec (.cfgBankErase c bank) s = .next (s.failAs c 0x0101 .range)) ∧
      (s.ready c 0x0102 → exec (.cfgBankWrite c bank off len img) s = .next (s.failAs c 0x0102 .range)) ∧
      (s.ready c 0x0103 → exec (.cfgBankVerify c bank) s = .next (s.failAs c 0x0103 .range)) ∧
      (s.ready c 0x0104 → exec (.cfgActivate c bank) s = .next (s.failAs c 0x0104 .range))) ∧
    (∀ bank, s.ready c 0x0101 → bank ≤ 1 → s.bankRuns bank = false → s.cfg.trial = false →
      exec (.cfgBankErase c bank) s = .next (s.okAs c 0x0101 [] (fun u =>
        u.setBank bank { u.bank bank with pieces := [], verified := false }))) ∧
    (∀ bank off len img, s.ready c 0x0102 → bank ≤ 1 → s.bankRuns bank = false → s.cfg.trial = false →
      (1 ≤ len → len ≤ 65536 → off % 4096 = 0 → off + len ≤ 64 * 1024 * 1024 →
        exec (.cfgBankWrite c bank off len img) s = .next (s.okAs c 0x0102 [] (fun u =>
          u.setBank bank { u.bank bank with pieces := { off := off, len := len, img := img } :: (u.bank bank).pieces, verified := false }))) ∧
      ((len = 0 ∨ 65536 < len ∨ off % 4096 ≠ 0 ∨ 64 * 1024 * 1024 < off + len) →
        exec (.cfgBankWrite c bank off len img) s = .next (s.failAs c 0x0102 .range))) ∧
    (∀ bank, s.ready c 0x0103 → bank ≤ 1 → s.bankRuns bank = true → exec (.cfgBankVerify c bank) s = .next (s.failAs c 0x0103 .state)) ∧
    (∀ bank (h : ImageHeader), s.ready c 0x0103 → bank ≤ 1 → s.bankRuns bank = false → s.verifyBank bank = none →
      (s.bank bank).image.hdr = h →
      exec (.cfgBankVerify c bank) s = .next (s.okAs c 0x0103
        (le 4 h.imageVer ++ le 4 h.arbCtr ++ le 1 (if h.metroDigest = s.cfg.verifiedMetro then 1 else 0)) (fun u =>
        u.setBank bank { u.bank bank with verified := true, ver := h.imageVer }))) ∧
    (∀ bank e d, s.ready c 0x0103 → bank ≤ 1 → s.bankRuns bank = false → s.verifyBank bank = some (e, d) →
      exec (.cfgBankVerify c bank) s = .next (s.doneAs c 0x0103 e d [] (fun u => u.setBank bank { u.bank bank with
        verified := false, ver := if (s.headerFail (s.bank bank).image.hdr).isNone then (s.bank bank).image.hdr.imageVer else 0 }))) ∧
    (∀ bank, s.ready c 0x0104 → bank ≤ 1 → (s.bank bank).verified = true →
      exec (.cfgActivate c bank) s = .next (s.okAs c 0x0104 [] (fun u =>
        { u with cfg := { u.cfg with prefBank := bank, trial := true, triesLeft := 3 } }))) ∧
    (s.ready c 0x0105 → s.cfg.runTrial = true → s.cfg.migPending = false →
      exec (.cfgConfirm c) s = .next (s.okAs c 0x0105 [] (fun u =>
        { u with cfg := { u.cfg with trial := false, runTrial := false,
                                     arbMin := max u.cfg.arbMin ((s.cfg.runHdr.map (fun h => h.arbCtr)).getD 0) } }))) ∧
    (s.ready c 0x0106 → s.cfg.trial = true → s.verifyBank (1 - s.cfg.prefBank) = none →
      exec (.cfgRevert c) s = .next (s.okAs c 0x0106 [] (fun u =>
        { u with cfg := { u.cfg with prefBank := 1 - u.cfg.prefBank, trial := false, runTrial := false } }))) ∧
    (∀ e d, s.ready c 0x0106 → s.cfg.trial = true → s.verifyBank (1 - s.cfg.prefBank) = some (e, d) →
      exec (.cfgRevert c) s = .next (s.failAs c 0x0106 (if e = .version then .version else .auth) d)) ∧
    (∀ m : KeyMsg, s.ready c 0x0107 → s.cfg.reverify = true → s.cfg.trial = false →
      (∀ e, s.checkMsg m [16] [.field, .service] = some e →
        exec (.cfgReverifyClear c m) s = .next (s.doneAs c 0x0107 e 0 [] (fun u => u.setEvt 0x11 1))) ∧
      (s.checkMsg m [16] [.field, .service] = none →
        (m.digest ≠ s.metroDigest → exec (.cfgReverifyClear c m) s = .next (s.doneAs c 0x0107 .range 9 [] (fun u => u.setEvt 0x11 1))) ∧
        (m.digest = s.metroDigest → s.changeFull = true →
          exec (.cfgReverifyClear c m) s = .next (s.doneAs c 0x0107 .logfull 0 [] (fun u => u.setEvt 0x09 5))) ∧
        (m.digest = s.metroDigest → s.changeFull = false →
          exec (.cfgReverifyClear c m) s = .next (s.okAs c 0x0107 [] (fun u => u.reverified m s.metroDigest)))))) ∧
 (∀ (s : State) (c : Cmd), (s.key.lc = .field ∨ s.key.lc = .service) → s.sys.pfail = false →
    (∀ bank, s.ready c 0x0101 → bank ≤ 1 → (s.bankRuns bank = true ∨ s.cfg.trial = true) →
      exec (.cfgBankErase c bank) s = .next (s.failAs c 0x0101 .state)) ∧
    (∀ bank off len img, s.ready c 0x0102 → bank ≤ 1 → (s.bankRuns bank = true ∨ s.cfg.trial = true) →
      exec (.cfgBankWrite c bank off len img) s = .next (s.failAs c 0x0102 .state)) ∧
    (∀ bank, s.ready c 0x0104 → bank ≤ 1 → (s.bank bank).verified = false →
      exec (.cfgActivate c bank) s = .next (s.failAs c 0x0104 .state)) ∧
    (s.ready c 0x0105 → (s.cfg.runTrial = false ∨ s.cfg.migPending = true) →
      exec (.cfgConfirm c) s = .next (s.failAs c 0x0105 .state)) ∧
    (s.ready c 0x0106 → s.cfg.trial = false → exec (.cfgRevert c) s = .next (s.failAs c 0x0106 .state)) ∧
    (∀ m : KeyMsg, s.ready c 0x0107 → (s.cfg.reverify = false ∨ s.cfg.trial = true) →
      exec (.cfgReverifyClear c m) s = .next (s.failAs c 0x0107 .state))) ∧
 (∀ (s : State) (m : KeyMsg) (d : Nat),
    (s.reverified m d).cfg = { s.cfg with verifiedMetro := d, reverify := false, lastReverify := false } ∧
    (s.changeFull = false → (s.reverified m d).blz.last = s.blz.last + 1))

/-- R106: an update of a point is taken in this order: one not newer than the stored stamp is stale and changes nothing; else the counter
rises by 1, and a bad source, a value outside `MIN` to `MAX` and one too fast leave value and stamp with the quality that says why; any
other value is stored with its stamp and GOOD, through the low-pass where the settings ask for it on a FLOAT64 point that was GOOD. -/
def Obligations.PointUpdateChecksInOrder : Prop :=
  ∀ (c : PtCfg) (v : PtVal) (x : DWord) (t : Stamp) (bad : Bool),
    ((v.qual ≠ .uninit ∧ t.toNs ≤ v.stamp.toNs) → ptStep c v x t bad = (v, true)) ∧
    (¬ (v.qual ≠ .uninit ∧ t.toNs ≤ v.stamp.toNs) →
      (ptStep c v x t bad).2 = false ∧ (ptStep c v x t bad).1.updCtr = v.updCtr + 1 ∧
      (bad = true → (ptStep c v x t bad).1 = { v with qual := .source, updCtr := v.updCtr + 1 }) ∧
      (bad = false → outOfRange c x = true → (ptStep c v x t bad).1 = { v with qual := .range, updCtr := v.updCtr + 1 }) ∧
      (bad = false → outOfRange c x = false → tooFast c v x t = true →
        (ptStep c v x t bad).1 = { v with qual := .rate, updCtr := v.updCtr + 1 }) ∧
      (bad = false → outOfRange c x = false → tooFast c v x t = false → ¬ (c.filter = 1 ∧ c.typ = .float64 ∧ v.qual = .good) →
        (ptStep c v x t bad).1 = { v with value := x, stamp := t, qual := .good, updCtr := v.updCtr + 1 }) ∧
      (bad = false → outOfRange c x = false → tooFast c v x t = false → c.filter = 1 → c.typ = .float64 → v.qual = .good →
        (ptStep c v x t bad).1 = { v with value := lowPass c.tau v x t, stamp := t, updCtr := v.updCtr + 1 }))

/-- R106 to R111, R251: what the Stand Table's events do out of reset. An update of a point stores what R106 gives it and leaves the value
and settings of every other point; a stale one only sets its event bit, one beyond the table does nothing, and one without a stamp is one
stamped with its arrival; where the point publishes nothing and meters no demand, no octet changes but those of entries the cache gives
back. The sweep marks every point and every shadow whose time has run out. A dirty entry goes to its 64 octets of DRAM and no other octet
changes. A periodic publication sends the entry into the stack and remembers it. A member's publication reaches the shadow of a point this
device consumes, and its bay registers reach the active master's sum. R99 to R102, R480: scrubbing a line without an error does nothing. A
line with as many errors as its medium corrects is counted (and one of Landing in its own counter); an uncorrectable one, or one that
answers for another address, is counted with its event: in Landing's General region it is poisoned and its address shown, in DRAM or MRAM
it is remembered. -/
def Obligations.StandTableEventsAct : Prop :=
 (∀ s : State, s.sys.inReset = false →
    (∀ (pt : Nat) (raw : DWord) (t : Stamp) (bad : Bool), pt < s.lnd.points → (ptStep (s.point pt).cfg (s.point pt).val raw t bad).2 = false →
      ∃ u : State, exec (.pointUpdate pt raw (some t) bad) s = .next u ∧
        (u.point pt).val = (ptStep (s.point pt).cfg (s.point pt).val raw t bad).1 ∧ (u.point pt).cfg = (s.point pt).cfg ∧
        (∀ n, n ≠ pt → (u.point n).val = (s.point n).val ∧ (u.point n).cfg = (s.point n).cfg) ∧
        u.sys = s.sys ∧ u.vlk = s.vlk ∧ u.tim = s.tim ∧ u.lnd.shadows = s.lnd.shadows) ∧
    (∀ (pt : Nat) (raw : DWord) (t : Stamp) (bad : Bool), pt < s.lnd.points → (s.point pt).cfg.pub = 0 →
      s.img.metro.demandImp = none → s.img.metro.demandExp = none →
      ∃ u : State, exec (.pointUpdate pt raw (some t) bad) s = .next u ∧
        u = { s.noting u with lnd := { s.lnd with pts := u.lnd.pts, cache := u.lnd.cache }, mem := u.mem, crs := { s.crs with uncorrLines := u.crs.uncorrLines } } ∧
        (∀ a, u.byteAt a = s.byteAt a ∨ ∃ n, (s.point n).dirty = true ∧ ptAddr n ≤ a ∧ a < ptAddr n + 64)) ∧
    (∀ (pt : Nat) (raw : DWord) (t : Stamp) (bad : Bool), pt < s.lnd.points → (s.point pt).val.qual ≠ .uninit →
      t.toNs ≤ (s.point pt).val.stamp.toNs → exec (.pointUpdate pt raw (some t) bad) s = .next (s.setEvt 0x02 2)) ∧
    (∀ (pt : Nat) (raw : DWord) (t : Stamp) (bad : Bool), s.lnd.points ≤ pt → exec (.pointUpdate pt raw (some t) bad) s = .next s) ∧
    (∀ (pt : Nat) (raw : DWord) (bad : Bool),
      exec (.pointUpdate pt raw none bad) s = exec (.pointUpdate pt raw (some s.later.now) bad) s.later) ∧
    (∃ u : State, exec .timeoutSweep s = .next u ∧ u.tim = s.tim ∧ u.sys = s.sys ∧
      (∀ n, (u.point n).val = (if timedOut (s.point n) s.now then (sweepPoint (s.point n)).val else (s.point n).val) ∧
        (u.point n).cfg = (s.point n).cfg) ∧
      (∀ g, u.shadow g = if timedOut (s.shadow g) s.now then sweepPoint (s.shadow g) else s.shadow g)) ∧
    (∀ pt : Nat, (s.point pt).dirty = true →
      ∃ u : State, exec (.cacheWriteback pt) s = .next u ∧
        u.readMem (ptAddr pt) 64 =
          entryBytes (s.point pt).cfg (s.point pt).val (s.point pt).cfg.srcKind (s.point pt).cfg.srcAddr ∧
        (∀ a, a < ptAddr pt ∨ ptAddr pt + 64 ≤ a → u.byteAt a = s.byteAt a) ∧
        u.point pt = { s.point pt with dirty := false } ∧ (∀ n, n ≠ pt → u.point n = s.point n) ∧
        u = { s with mem := u.mem, lnd := { s.lnd with pts := u.lnd.pts }, crs := { s.crs with uncorrLines := u.crs.uncorrLines } }) ∧
    (∀ pt : Nat, (s.point pt).dirty = false → exec (.cacheWriteback pt) s = .next s) ∧
    (∀ pt : Nat, pt < s.lnd.points → pt < 2 ^ 20 → 2 ≤ (s.point pt).cfg.pub →
      ∃ u : State, exec (.periodicPublication pt) s = .next u ∧
        (u.point pt).pubValue = (s.point pt).val.value ∧ (u.point pt).pubQual = (s.point pt).val.qual ∧
        (∀ n, (u.point n).val = (s.point n).val ∧ (u.point n).cfg = (s.point n).cfg) ∧
        (s.ringTalks = false → u.sent = s.sent) ∧
        (s.ringTalks = true → .boomPoint (s.globalId pt) (s.point pt).cfg (s.point pt).val ∈ u.sent)) ∧
    (∀ (gid : Nat) (cfg : PtCfg) (val : PtVal), s.isLocal gid = false → s.ringTalks = true → s.shadowed gid = true →
      ∃ u : State, exec (.publicationRx (.point gid cfg val)) s = .next u ∧
        (u.shadow gid).cfg = cfg ∧ (u.shadow gid).val = val ∧
        (u.shadow gid).accepted = ((s.shadow gid).accepted || decide (val.qual = .good)) ∧
        (∀ g, g ≠ gid → u.shadow g = s.shadow g) ∧ u.lnd.pts = s.lnd.pts ∧ u.sys = s.sys ∧ u.vlk = s.vlk) ∧
    (∀ (dev bay imp exp : Nat) (t : Stamp), s.awake = true → s.activeMaster = true → s.hubRole = true → s.ringTalks = true →
      dev ≠ s.img.struct_.devNum → dev < 8 → bay < 8 → s.img.metro.demandImp = none →
      ∃ u : State, Sys2Proof.Machine.exec (.publicationRx (.energy dev bay imp exp t)) s = .next u ∧
        tget 0 u.tly.members (32 * dev + 4 * bay) = imp ∧ tget 0 u.tly.members (32 * dev + 4 * bay + 1) = exp ∧
        tget {} u.tly.memberAt (32 * dev + 4 * bay) = t ∧ u.tly.regs = s.tly.regs ∧ u.lnd = s.lnd)) ∧
 (∀ s : State, s.awake = true →
    (∀ m a, exec (.scrubLine m a 0 false) s = .next s) ∧
    (∀ a, ∃ u : State, exec (.scrubLine .landing a 1 false) s = .next u ∧ u = { s with
      crs := { s.crs with scrCorr := s.crs.scrCorr + 1 }, lnd := { s.lnd with eccCorr := s.lnd.eccCorr + 1 }, fresh := u.fresh }) ∧
    (∀ m a errs, ((m = .mram ∧ errs = 1) ∨ (m = .dram ∧ 1 ≤ errs ∧ errs ≤ 2)) →
      ∃ u : State, exec (.scrubLine m a errs false) s = .next u ∧
        u = { s with crs := { s.crs with scrCorr := s.crs.scrCorr + 1 }, fresh := u.fresh }) ∧
    (∀ a errs w, 0x800000 ≤ a → a < 0xC00000 → ((2 ≤ errs ∧ errs ≤ 3) ∨ w = true) →
      ∃ u : State, exec (.scrubLine .landing a errs w) s = .next u.settle ∧
      u.lnd.eccUncorr = s.lnd.eccUncorr + 1 ∧ u.lnd.eccAddr = a / 32 * 32 ∧ a / 32 * 32 ∈ u.lnd.poison ∧
      u.crs.scrUncorr = s.crs.scrUncorr + 1 ∧ u.evtSet 0x13 3 ∧ u.evtSet 0x02 0 ∧
      u = { s.noting u with lnd := u.lnd, crs := u.crs, fresh := u.fresh }) ∧
    (∀ m a errs w, ((m = .mram ∧ 2 ≤ errs ∧ errs ≤ 3) ∨ ((m = .mram ∨ m = .dram) ∧ w = true)) →
      ∃ u : State, exec (.scrubLine m a errs w) s = .next u ∧ (decide (m = .mram), a / 32 * 32) ∈ u.crs.uncorrLines ∧
      u.crs.scrUncorr = s.crs.scrUncorr + 1 ∧ u.evtSet 0x13 3 ∧ u = { s.noting u with crs := u.crs, fresh := u.fresh }))

/-- R126, R519: the LND commands. A read copies every entry, of local points and of remote ones as their owner answers, into General; a
write of up to four pairs is for a local point an update that arrives now and for a remote one goes to its owner, and where one pair fails
its check none is processed; a settings change takes the fields its mask names, refused on a SAFETY point; a subscription takes the lowest
free handle and every point of its range publishes once, after which its last published value is the stored one; closing frees the handle
and the shadows nothing names any more. -/
def Obligations.LndCommandsComplete : Prop :=
  ∀ (s : State) (c : Cmd) (remote : Tab RemotePt),
    (∀ (list : Nat) (ids : List Nat) (dst : Nat), s.ready c 0x0201 → 1 ≤ ids.length → ids.length ≤ 4096 →
      inGeneral list (4 * ids.length) = true → dstOk dst (64 * ids.length) = true →
      s.poisoned list (4 * ids.length) = false →
      (∀ g ∈ ids, s.readBad remote g = false ∧ s.entryLost g = false) →
      exec (.lndPtRead c list ids dst remote) s = .next (s.okAs c 0x0201 []
        (fun u => (ids.foldl (fun (a : State) g => if a.isLocal g then a.touch (localPt g) else a) u).writeGen dst
          (ids.foldl (fun l g => l ++ s.readEntry remote g) [])))) ∧
    (∀ (pairs : List (Nat × DWord)), s.ready c 0x0202 → 1 ≤ pairs.length → pairs.length ≤ 4 →
      pairs.findSome? (fun p => s.writeCheck remote p.1) = none →
      exec (.lndPtWrite c pairs remote) s = .next (s.okAs c 0x0202 [] (fun u => pairs.foldl (fun (a : State) p =>
        if a.isLocal p.1 then a.ptArrive (localPt p.1) p.2 false else a.send (.boomWrite p.1 p.2)) u))) ∧
    (∀ (pairs : List (Nat × DWord)) (e : Status), s.ready c 0x0202 → 1 ≤ pairs.length → pairs.length ≤ 4 →
      pairs.findSome? (fun p => s.writeCheck remote p.1) = some e →
      exec (.lndPtWrite c pairs remote) s = .next (s.failAs c 0x0202 e)) ∧
    (∀ (op : PtCfgOp), s.ready c 0x0203 → gidOk op.point = true → op.mask ≠ 0 → s.isLocal op.point = true →
      localPt op.point < s.lnd.points → (s.point (localPt op.point)).cfg.safetyPt = false →
      ptCfgOk (cfgAfter (s.point (localPt op.point)).cfg op) = true →
      exec (.lndPtCfg c op remote) s = .next (s.okAs c 0x0203 [] (fun u =>
        (u.setPoint (localPt op.point) { u.point (localPt op.point) with
          cfg := cfgAfter (s.point (localPt op.point)).cfg op, dirty := true }).touch (localPt op.point)))) ∧
    (∀ (op : PtCfgOp), s.ready c 0x0203 → gidOk op.point = true → op.mask ≠ 0 → s.isLocal op.point = true →
      localPt op.point < s.lnd.points → (s.point (localPt op.point)).cfg.safetyPt = true →
      exec (.lndPtCfg c op remote) s = .next (s.failAs c 0x0203 .locked)) ∧
    (∀ (op : PtCfgOp) (r : RemotePt), s.ready c 0x0203 → gidOk op.point = true → op.mask ≠ 0 → s.isLocal op.point = false →
      ownerOf remote op.point = some r → r.known = true → r.cfg.safetyPt = false → ptCfgOk (cfgAfter r.cfg op) = true →
      exec (.lndPtCfg c op remote) s = .next (s.okAs c 0x0203 [] (fun u => u.send (.boomCfg op)))) ∧
    (∀ first last off len h, s.ready c 0x0204 → gidOk last = true → first ≤ last →
      (s.isLocal last = true → localPt last < s.lnd.points) → 64 ≤ len → len % 64 = 0 → dstOk off len = true →
      (List.range 16).find? (fun h => !(s.sub h).used) = some h →
      exec (.lndSubOpen c first last off len) s = .next (s.okAs c 0x0204 (le 4 h) (fun u =>
        (u.setSub h { used := true, first := first, last := last, off := off, len := len }).publishRange first last))) ∧
    (∀ (first last n : Nat), n < s.lnd.points → first ≤ s.globalId n → s.globalId n ≤ last →
      ((s.publishRange first last).point n).pubValue = (s.point n).val.value ∧
      ((s.publishRange first last).point n).pubQual = (s.point n).val.qual) ∧
    (∀ h, s.ready c 0x0205 → h ≤ 15 → (s.sub h).used = true →
      exec (.lndSubClose c h) s = .next (s.okAs c 0x0205 [] (fun u =>
        let v := u.setSub h {}
        { v with lnd := { v.lnd with shadows := v.lnd.shadows.filter (fun p => v.shadowed p.1) } }))) ∧
    (∀ h, s.ready c 0x0205 → (15 < h ∨ (s.sub h).used = false) →
      exec (.lndSubClose c h) s = .next (s.failAs c 0x0205 .range))

/-- R113, R115, R118, R125: a write of a ring's `PI` advances it, or, where it would move it back or beyond the ring's size, sets `OVF`;
enabling a ring whose size and areas are in order starts it empty with its result slots cleared, else `CFG_ERR` is set; a disable waits
until every posted command has completed; base, result area and size change only while the ring is disabled. No other ring changes. R116,
R122: a descriptor whose opcode its ring's block does not define completes with RANGE (with VERSION before the host API is open);
HST_API_OPEN with no command of its side in progress opens the highest version in the range asked for, and fails with VERSION where there
is none; while a command of its side is in progress it fails with STATE (before the versions are compared: assumption 6). R154, R156: the
event ring's registers, once the part answers accesses: the base changes only while the ring is disabled and to a 64-byte aligned value;
enabling a ring that fits General starts it empty, with its size and vector, and writes the events held back, else `EVQ_CFG_ERR` is set;
disabling stops it; a consumer index within what was produced frees its places and lets held events follow, one beyond is ignored. -/
def Obligations.RingsAndApiAct : Prop :=
 (∀ (s : State) (q : Nat), s.closedOff = false → q < 42 →
    (∀ v : Word, (s.queue q).en = true → (s.queue q).disabling = false →
      ((s.queue q).pi + 65536 - (s.queue q).ci) % 65536 ≤ (v.toNat % 65536 + 65536 - (s.queue q).ci) % 65536 →
      (v.toNat % 65536 + 65536 - (s.queue q).ci) % 65536 ≤ 2 ^ (s.queue q).log2 →
      exec (.hstQPiWrite q v) s = .next (s.setQueue q { s.queue q with pi := v.toNat % 65536 })) ∧
    (∀ v : Word, (s.queue q).en = true → (s.queue q).disabling = false →
      ((v.toNat % 65536 + 65536 - (s.queue q).ci) % 65536 < ((s.queue q).pi + 65536 - (s.queue q).ci) % 65536 ∨
        2 ^ (s.queue q).log2 < (v.toNat % 65536 + 65536 - (s.queue q).ci) % 65536) →
      exec (.hstQPiWrite q v) s = .next (s.setQueue q { s.queue q with ovf := true })) ∧
    (∀ v : Word, ((s.queue q).en = false ∨ (s.queue q).disabling = true) → exec (.hstQPiWrite q v) s = .next s) ∧
    (∀ (v : Word) (k : Nat), (s.queue q).en = false → k = (if 4 ≤ v.toNat % 16 ∧ v.toNat % 16 ≤ 12 then v.toNat % 16 else (s.queue q).log2) →
      enableOk { s.queue q with log2 := k } = true →
      ∃ u : State, exec (.ringEnable q v) s = .next u ∧
        (u.queue q).en = true ∧ (u.queue q).log2 = k ∧ (u.queue q).pi = 0 ∧ (u.queue q).ci = 0 ∧ (u.queue q).seq = 0 ∧
        (u.queue q).started = 0 ∧ (∀ p, p ≠ q → u.queue p = s.queue p) ∧
        (∀ a, landing (s.queue q).res ≤ a → a < landing (s.queue q).res + 64 * 2 ^ k → u.byteAt a = memDefault) ∧
        (∀ a, (a < landing (s.queue q).res ∨ landing (s.queue q).res + 64 * 2 ^ k ≤ a) → u.byteAt a = s.byteAt a)) ∧
    (∀ (v : Word) (k : Nat), (s.queue q).en = false → k = (if 4 ≤ v.toNat % 16 ∧ v.toNat % 16 ≤ 12 then v.toNat % 16 else (s.queue q).log2) →
      enableOk { s.queue q with log2 := k } = false →
      ∃ u : State, exec (.ringEnable q v) s = .next u ∧ (u.queue q).cfgErr = true ∧ (u.queue q).en = false ∧
        (∀ p, p ≠ q → u.queue p = s.queue p) ∧ u = { s with hst := u.hst }) ∧
    (∀ v : Word, (s.queue q).en = true → (s.queue q).disabling = false →
      ∃ u : State, exec (.ringDisable q v) s = .next u ∧ u = { s with hst := u.hst } ∧ (∀ p, p ≠ q → u.queue p = s.queue p) ∧
        ((s.queue q).ci = (s.queue q).pi → (u.queue q).en = false) ∧
        ((s.queue q).ci ≠ (s.queue q).pi → (u.queue q).en = true ∧ (u.queue q).disabling = true)) ∧
    (s.sys.inReset = false → (s.queue q).disabling = true → (s.queue q).ci = (s.queue q).pi →
      exec (.ringDisableDone q) s = .next (s.setQueue q { s.queue q with en := false, disabling := false })) ∧
    (∀ v : Word, (s.queue q).en = false → v.toNat % 2 ^ 24 % 64 = 0 →
      exec (.hstQBaseWrite q false v) s = .next (s.setQueue q { s.queue q with base := v.toNat % 2 ^ 24 }) ∧
      exec (.hstQBaseWrite q true v) s = .next (s.setQueue q { s.queue q with res := v.toNat % 2 ^ 24 })) ∧
    (∀ (v : Word) (r : Bool), ((s.queue q).en = true ∨ v.toNat % 2 ^ 24 % 64 ≠ 0) → exec (.hstQBaseWrite q r v) s = .next s) ∧
    (∀ v : Word, (s.queue q).en = false → 4 ≤ v.toNat % 16 → v.toNat % 16 ≤ 12 → v.getLsbD 4 = false → v.getLsbD 10 = false →
      v.getLsbD 11 = false → v.getLsbD 12 = false →
      exec (.hstQLog2sizeWrite q v) s =
        .next (s.setQueue q { s.queue q with log2 := v.toNat % 16, vector := v.toNat / 32 % 32 })) ∧
    (∀ v : Word, (s.queue q).en = true → ∃ u : State, exec (.hstQLog2sizeWrite q v) s = .next u ∧
      (u.queue q).log2 = (s.queue q).log2 ∧ (u.queue q).base = (s.queue q).base ∧ (u.queue q).res = (s.queue q).res ∧ u = { s with hst := u.hst })) ∧
 ((∀ (s : State) (c : Cmd) (blk : Nat) (op : BitVec 16), blk ≤ 20 → s.canStart (queueOf blk c.side) = true →
    s.descLost (s.queue (queueOf blk c.side)) = false →
    ¬ (op.toNat / 256 = blk ∧ 1 ≤ op.toNat % 256 ∧ op.toNat % 256 ≤ cmdCount blk) →
    exec (.undefinedOpcode c blk op) s = .next ((s.startNext (queueOf blk c.side)).complete (queueOf blk c.side)
      (s.queue (queueOf blk c.side)).started c op.toNat (if s.apiOpen c.side then .range else .version) 0 [])) ∧
  (∀ (s : State) (c : Cmd) (lo hi v : Nat × Nat), s.canStart (queueOf 3 c.side) = true → s.descRead c 0x0301 →
    s.hst.flights.any (fun f => decide (f.q % 2 = c.side.ctorIdx)) = false →
    apiVersions.find? (fun v => verLe lo v && verLe v hi) = some v →
    exec (.hstApiOpen c lo.1 lo.2 hi.1 hi.2) s = .next (s.okAs c 0x0301 (le 1 v.2 ++ le 1 v.1) (fun u =>
      { u with hst := match c.side with
        | .core => { u.hst with coreMajor := v.1, coreMinor := v.2 }
        | .host => { u.hst with hostMajor := v.1, hostMinor := v.2 } }))) ∧
  (∀ (s : State) (c : Cmd) (lo hi : Nat × Nat), s.canStart (queueOf 3 c.side) = true → s.descRead c 0x0301 →
    s.hst.flights.any (fun f => decide (f.q % 2 = c.side.ctorIdx)) = false →
    apiVersions.find? (fun v => verLe lo v && verLe v hi) = none →
    exec (.hstApiOpen c lo.1 lo.2 hi.1 hi.2) s = .next (s.failAs c 0x0301 .version)) ∧
  (∀ (s : State) (c : Cmd) (a b d e : Nat), s.canStart (queueOf 3 c.side) = true → s.descRead c 0x0301 →
    s.hst.flights.any (fun f => decide (f.q % 2 = c.side.ctorIdx)) = true →
    exec (.hstApiOpen c a b d e) s = .next (s.failAs c 0x0301 .state))) ∧
 (∀ (s : State) (v : Word), s.closedOff = false →
    (exec (.evqBaseWrite v) s = .next (if s.vlk.evqEn = false ∧ v.toNat % 64 = 0 then
      { s with vlk := { s.vlk with evqBase := v.toNat % 2 ^ 24 } } else s)) ∧
    (s.vlk.evqEn = false → v.getLsbD 4 = true →
      s.evqFits (if 4 ≤ v.toNat % 16 ∧ v.toNat % 16 ≤ 12 then v.toNat % 16 else s.vlk.evqLog2) = true →
      ∃ u : State, exec (.evqEnable v) s = .next (evqDrain s.vlk.evqHeld.length u) ∧ u.vlk.evqEn = true ∧ u.vlk.evqPi = 0 ∧ u.vlk.evqCi = 0 ∧
        u.vlk.evqLog2 = (if 4 ≤ v.toNat % 16 ∧ v.toNat % 16 ≤ 12 then v.toNat % 16 else s.vlk.evqLog2) ∧ u.vlk.evqVector = v.toNat / 32 % 32 ∧ u.vlk.evqHeld = s.vlk.evqHeld ∧ u = { s with vlk := u.vlk }) ∧
    (s.vlk.evqEn = false → s.evqFits (if 4 ≤ v.toNat % 16 ∧ v.toNat % 16 ≤ 12 then v.toNat % 16 else s.vlk.evqLog2) = false →
      v.getLsbD 4 = true →
      ∃ u : State, exec (.evqEnable v) s = .next u ∧ u.vlk.evqCfgErr = true ∧ u.vlk.evqEn = false ∧ u = { s with vlk := u.vlk }) ∧
    (v.getLsbD 4 = false → ∃ u : State, exec (.evqEnable v) s = .next u ∧ u.vlk.evqEn = false ∧ u.vlk.evqPi = s.vlk.evqPi ∧
      u.vlk.evqCi = s.vlk.evqCi ∧ u.vlk.evqCfgErr = (s.vlk.evqCfgErr && !v.getLsbD 10) ∧ u = { s with vlk := u.vlk }) ∧
    (s.vlk.evqEn = true → v.getLsbD 4 = true → exec (.evqEnable v) s = .next { s with vlk := { s.vlk with
      evqVector := v.toNat / 32 % 32, evqCfgErr := s.vlk.evqCfgErr && !v.getLsbD 10 } }) ∧
    ((v.toNat % 65536 + 65536 - s.vlk.evqCi) % 65536 ≤ (s.vlk.evqPi + 65536 - s.vlk.evqCi) % 65536 →
      exec (.evqCiWrite v) s = .next (evqDrain s.vlk.evqHeld.length { s with vlk := { s.vlk with evqCi := v.toNat % 65536 } })) ∧
    ((s.vlk.evqPi + 65536 - s.vlk.evqCi) % 65536 < (v.toNat % 65536 + 65536 - s.vlk.evqCi) % 65536 →
      exec (.evqCiWrite v) s = .next s))

/-- R5, R6, R39, R70, R97, R102, R373, R514, R516: a write on the bus, by the host or by a core while one runs. In reset nothing answers;
a host's write outside its BARs' contents does nothing; one to the register pages that is not four aligned octets returns a bus error and
nothing else; a 1 clears a bit of an event register and a 0 leaves it; a read-only place ignores the write; the wake enables take their
value and latched reset causes clear with a 1. A write to the General region stores its octets and no other octet of memory; one outside
every window returns a bus error. A read of a register that is not one aligned word returns a bus error, and one of an undefined block 0.
-/
def Obligations.RegisterAndMemoryWritesAct : Prop :=
  ∀ (s : State) (a : Access),
    (s.closedOff = true → exec (.registerWrite a) s = .next s) ∧
    (a.side = .host → (hostReaches a.addr = false ∨ barRest a.addr = true) → exec (.registerWrite a) s = .next s) ∧
    (s.closedOff = false → s.issues a.side = true → (a.side = .host → hostReaches a.addr = true ∧ barRest a.addr = false) → a.data ≠ [] →
      (0x40000000 ≤ a.addr → a.addr < 0x41000000 → (a.data.length ≠ 4 ∨ a.addr % 4 ≠ 0) →
        exec (.registerWrite a) s = .next (s.send (.busError a))) ∧
      (∀ blk off, evtOffset blk = some off → off < 0x10000 → a.addr = 0x40000000 + 0x10000 * blk + off →
        blk ≤ 20 → (a.side = .host → blk ≠ 0x0B) → a.data.length = 4 →
        ∃ t : State, exec (.registerWrite a) s = .next t ∧
          tget 0 t.evt blk = tget 0 s.evt blk &&& ~~~ (BitVec.ofNat 32 (unle a.data)) ∧
          (∀ b, b ≠ blk → tget 0 t.evt b = tget 0 s.evt b) ∧ t = { s with evt := t.evt }) ∧
      (∀ blk, blk ∈ [0x02, 0x06, 0x08, 0x09, 0x0A, 0x0B, 0x0E, 0x10, 0x11, 0x12, 0x13] → a.data.length = 4 →
        a.addr % 4 = 0 → a.addr / 0x10000 = 0x4000 + blk → evtOffset blk ≠ some (a.addr % 0x10000) →
        exec (.registerWrite a) s = .next s) ∧
      (a.addr = 0x40000010 → a.data.length = 4 → exec (.registerWrite a) s = .next { s with
        sys := { s.sys with wakeEn := (BitVec.ofNat 32 (unle a.data)).setWidth 10 } }) ∧
      (a.addr = 0x40000004 → a.data.length = 4 → exec (.registerWrite a) s = .next { s with
        sys := { s.sys with rstCause := s.sys.rstCause &&& ~~~ (BitVec.ofNat 32 (unle a.data)).setWidth 7 } }) ∧
      (landing generalLo ≤ a.addr → a.addr + a.data.length ≤ landing generalHi → s.lnd.poison = [] →
        ∃ t : State, exec (.registerWrite a) s = .next t ∧ t.readMem a.addr a.data.length = a.data ∧
          (∀ x, x < a.addr ∨ a.addr + a.data.length ≤ x → t.byteAt x = s.byteAt x) ∧ t = { s with mem := t.mem, lnd := t.lnd }) ∧
      (a.addr < 0x10000000 → exec (.registerWrite a) s = .next (s.send (.busError a)))) ∧
    (∀ n, s.closedOff = false → 0x40000000 ≤ a.addr → a.addr < 0x40150000 →
      ((n ≠ 4 ∨ a.addr % 4 ≠ 0) → s.busRead a.side a.addr n = .busError) ∧
      (n = 4 → a.addr % 4 = 0 → s.busRead a.side a.addr n =
        .octets (le 4 (s.regRead ((a.addr - 0x40000000) / 0x10000) (a.addr % 0x10000)).toNat)))

/-- R147 to R149, R151: how a cause ends the session of a context, by the state it stands in, local or bridged. In CHARGING and
RENEGOTIATE a cause that is no fault leads to STOPPING; a fault there or in STOPPING, and any cause in PRECHARGE and CLOSING, leads to the
opening of the contactors: WELD_CHECK on a local bay, OPENING on a bridged one, whose satellite opens. In CABLE_CHECK the same holds once
a contactor has been granted its permit or reports closed. Before that, and in every earlier state, the session goes straight to its end:
UNPLUG_WAIT, or FREE where the local bay's pilot shows A. The first cause stands as the end reason, in the context or, for a local session
already at its end, as the bay's last end reason. A cause changes nothing in FREE, OPENING, WELD_CHECK, FINISHING and UNPLUG_WAIT, nor a
cause that is no fault in STOPPING. R145, R155: a local bay's weld check, in WELD_CHECK, finds a weld where a feedback still reported
closed 100 ms after coil release, or where 60 V and more stand at its end with the vehicle's contactors open: the bay is weld-locked and
its event bit set. With no weld found the bay's lock and event bits are as they were. Either way the session goes on to its end, with the
bay's session counted. -/
def Obligations.SessionEndPathByState : Prop :=
 (∀ (s : State) (k : Nat) (r : EndReason) (fast : Bool), ((s.ctx k).bridged = true ∨ (s.ctx k).bay = k) →
    let first := if (s.ctx k).ending = .none then r else (s.ctx k).ending
    (((s.ctx k).st = .charging ∨ (s.ctx k).st = .renegotiate) → fast = false →
      ((s.endSess k r fast).ctx k).st = .stopping ∧ ((s.endSess k r fast).ctx k).ending = first) ∧
    ((((s.ctx k).st = .charging ∨ (s.ctx k).st = .renegotiate ∨ (s.ctx k).st = .stopping) ∧ fast = true) ∨
      (s.ctx k).st = .precharge ∨ (s.ctx k).st = .closing ∨
      ((s.ctx k).st = .cableCheck ∧ ((s.ctx k).bridged = true ∨ s.kGranted k = true)) →
      ((s.endSess k r fast).ctx k).st = (if (s.ctx k).bridged then .opening else .weldCheck) ∧
      ((s.endSess k r fast).ctx k).ending = first) ∧
    (((s.ctx k).st = .plugged ∨ (s.ctx k).st = .link ∨ (s.ctx k).st = .negotiate ∨ (s.ctx k).st = .authorise ∨
        (s.ctx k).st = .locking ∨ ((s.ctx k).st = .cableCheck ∧ (s.ctx k).bridged = false ∧ s.kGranted k = false)) →
      ((s.ctx k).bridged = true → ((s.endSess k r fast).ctx k).st = .unplugWait ∧ ((s.endSess k r fast).ctx k).ending = first) ∧
      ((s.ctx k).bridged = false →
        ((s.endSess k r fast).ctx k).st = (if (s.bay k).pilot = .a then .free else .unplugWait) ∧
        ((s.endSess k r fast).bay k).lastEnd = first)) ∧
    (((s.ctx k).st = .free ∨ (s.ctx k).st = .opening ∨ (s.ctx k).st = .weldCheck ∨ (s.ctx k).st = .finishing ∨
        (s.ctx k).st = .unplugWait ∨ ((s.ctx k).st = .stopping ∧ fast = false)) → s.endSess k r fast = s)) ∧
 (∀ (s : State) (k : Nat) (closedAt100 : Bool), (s.ctx k).st = .weldCheck → (s.ctx k).bridged = false → (s.ctx k).bay = k →
    ((closedAt100 = true ∨ (s.below60 k = false ∧ (s.ctx k).vehOpen = true)) →
      ((s.weldDone k closedAt100).bay k).weldLock = true ∧ (s.weldDone k closedAt100).evtSet 0x05 4) ∧
    (closedAt100 = false → (s.below60 k = true ∨ (s.ctx k).vehOpen = false) →
      ((s.weldDone k closedAt100).bay k).weldLock = (s.bay k).weldLock) ∧
    ((s.weldDone k closedAt100).ctx k).st = (if (s.bay k).pilot = .a then .free else .unplugWait) ∧
    ((s.weldDone k closedAt100).bay k).sessions = (s.bay k).sessions + 1)

/-- R131, R133, R139, R140, R142, R143, R144, R146, R147, R180, R194: each timer of a session, on a local and on a bridged bay alike, ends
it with its own reason where the session stands in the timer's state (T_LINK counts a local bay's link failure first; T_STOP lets the
opening proceed; the wait for unplugging frees the context), and changes nothing in any other state; T_PRE runs until the precharge is
complete and T_PDWAIT from then; a duration limit of 0 is none; the message timeout needs a connection; K1's feedback timeout needs a coil
that is energised and a feedback that does not report closed, or a bridged bay. In reset no timer does anything. -/
def Obligations.SessionTimersEndTheirState : Prop :=
  ∀ (s : State) (k : Nat),
    (s.sys.inReset = false →
      exec (.tLinkExpiry k) s = .next (if (s.ctx k).st = .link then
        ((if (s.ctx k).bridged then s else s.setBay (s.ctx k).bay { s.bay (s.ctx k).bay with
          slacFails := (s.bay (s.ctx k).bay).slacFails + 1 }).endSess k .linkTimeout false).settle else s) ∧
      exec (.tNegExpiry k) s = .next (if (s.ctx k).st = .negotiate then (s.endSess k .negotiateFail false).settle else s) ∧
      exec (.tAuthExpiry k) s = .next (if (s.ctx k).st = .authorise then
        (s.endSess k (if (s.ctx k).authorised then .noMaster else .authTimeout) false).settle else s) ∧
      exec (.tLockExpiry k) s = .next (if (s.ctx k).st = .locking then (s.endSess k .lockFail false).settle else s) ∧
      exec (.tCableExpiry k) s = .next (if (s.ctx k).st = .cableCheck then (s.endSess k .cableCheckFail false).settle else s) ∧
      exec (.tPreExpiry k) s = .next (if (s.ctx k).st = .precharge ∧ (s.ctx k).preDone = false then
        (s.endSess k .prechargeFail false).settle else s) ∧
      exec (.tPdwaitExpiry k) s = .next (if (s.ctx k).st = .precharge ∧ (s.ctx k).preDone = true then
        (s.endSess k .msgTimeout false).settle else s) ∧
      exec (.tRenegExpiry k) s = .next (if (s.ctx k).st = .renegotiate then (s.endSess k .msgTimeout false).settle else s) ∧
      exec (.tStopExpiry k) s = .next (if (s.ctx k).st = .stopping then (s.toOpening k).settle else s) ∧
      exec (.v2gMessageTimeout k) s = .next (if (s.ctx k).st ≠ .free ∧ (s.ctx k).tcp = true then
        (s.endSess k .msgTimeout false).settle else s) ∧
      exec (.k1FeedbackTimeout k) s = .next (if (s.ctx k).st = .closing ∧ ((s.ctx k).bridged = true ∨
          (chConducts (s.chan (s.cBay (s.ctx k).bay).chK1).st = true ∧ s.fb1 (s.ctx k).bay = false)) then
        (s.endSess k .closeFail true).settle else s) ∧
      exec (.durationLimitExpiry k) s = .next (if ((s.ctx k).st = .charging ∨ (s.ctx k).st = .renegotiate) ∧ (s.ctx k).limMin ≠ 0 then
        (s.endSess k .limit false).settle else s) ∧
      exec (.unplugWaitExpiry k) s = .next (if (s.ctx k).st = .unplugWait then (s.freeSess k).settle else s)) ∧
    (s.sys.inReset = true → ∀ i ∈ [Instr.tLinkExpiry k, .tNegExpiry k, .tAuthExpiry k, .tLockExpiry k, .tCableExpiry k, .tPreExpiry k,
        .tPdwaitExpiry k, .tRenegExpiry k, .tStopExpiry k, .v2gMessageTimeout k, .k1FeedbackTimeout k, .durationLimitExpiry k,
        .unplugWaitExpiry k], exec i s = .next s)

/-- R130, R137, R139, R140, R145, R146, R169, R172, R173: the events that carry a local session forward, out of reset. A link that comes
up in LINK, on a bay whose SLAC has matched or whose 10BASE-T1S link listens, takes the session to NEGOTIATE with the vehicle's address;
link loss only shows the link down, but in UNPLUG_WAIT frees the context; the end of precharge is noted; a lock feedback stores what it
reports and, where it is lost between CABLE_CHECK and FINISHING, ends the session as a fault; a contactor's feedback is stored, and K1's
in CLOSING with its coil energised takes the session to CHARGING with the hold on K3 given up; the weld check takes its course; the end of
UNPLUG_WAIT clears the context and leaves every other alone. -/
def Obligations.SessionEventsAdvance : Prop :=
  ∀ (s : State) (k : Nat), s.sys.inReset = false → (s.ctx k).bridged = false → (s.ctx k).bay = k → s.localCtx k = true →
    (∀ mac, (s.ctx k).st = .link → ((s.bay k).lstate = .matched ∨ (s.bay k).lstate = .t1sListen) →
      ∃ u : State, exec (.linkUp k mac) s = .next u.settle ∧ (u.ctx k).st = .negotiate ∧ (u.ctx k).mac = mac ∧ (u.ctx k).linkUp = true ∧
        (u.bay k).lstate = (if (s.bay k).lstate = .matched then .matched else .t1sUp) ∧
        (∀ j, j ≠ k → u.ctx j = s.ctx j) ∧ u.tly = s.tly ∧ u.tim = s.tim ∧ u.saf = s.saf ∧ u.chk = s.chk ∧ u.permits = s.permits) ∧
    (∀ mac, ((s.ctx k).st ≠ .link ∨ ((s.bay k).lstate ≠ .matched ∧ (s.bay k).lstate ≠ .t1sListen)) → exec (.linkUp k mac) s = .next s) ∧
    ((s.ctx k).linkUp = true → (s.ctx k).st ≠ .free → (s.ctx k).st ≠ .unplugWait →
      exec (.linkLoss k) s = .next (s.setCtx k { s.ctx k with linkUp := false })) ∧
    ((s.ctx k).linkUp = true → (s.ctx k).st = .unplugWait →
      exec (.linkLoss k) s = .next ((s.setCtx k { s.ctx k with linkUp := false }).freeSess k).settle) ∧
    ((s.ctx k).linkUp = false ∨ (s.ctx k).st = .free → exec (.linkLoss k) s = .next s) ∧
    (exec (.prechargeComplete k) s = .next (if (s.ctx k).st = .precharge ∧ (s.ctx k).ending = .none then
      s.setCtx k { s.ctx k with preDone := true } else s)) ∧
    (∀ locked, locked = true ∨
        s.ctxIn k [.cableCheck, .precharge, .closing, .charging, .renegotiate, .stopping, .opening, .weldCheck, .finishing] = false →
      exec (.lockFeedback k locked) s = .next (((s.setSin (s.cBay k).siLock { s.sin (s.cBay k).siLock with isOpen := !locked }).setBay k
        { s.bay k with locked := locked })).settle) ∧
    (s.ctxIn k [.cableCheck, .precharge, .closing, .charging, .renegotiate, .stopping, .opening, .weldCheck, .finishing] = true →
      exec (.lockFeedback k false) s = .next ((((s.setSin (s.cBay k).siLock { s.sin (s.cBay k).siLock with isOpen := true }).setBay k
        { s.bay k with locked := false })).endSess k .lockFail true).settle) ∧
    (∀ closed,
      exec (.contactorFeedback k .k2 closed) s = .next (((s.setSin (s.cBay k).siK2 { s.sin (s.cBay k).siK2 with isOpen := !closed }).setBay k
        { s.bay k with fbK2 := closed })).settle ∧
      exec (.contactorFeedback k .k3 closed) s = .next (((s.setSin (s.cBay k).siK3 { s.sin (s.cBay k).siK3 with isOpen := !closed }).setBay k
        { s.bay k with fbK3 := closed })).settle ∧
      ((closed = false ∨ (s.ctx k).st ≠ .closing ∨ (s.sin (s.cBay k).siK1).fault = true ∨ chConducts (s.chan (s.cBay k).chK1).st = false) →
        exec (.contactorFeedback k .k1 closed) s = .next (((s.setSin (s.cBay k).siK1 { s.sin (s.cBay k).siK1 with isOpen := !closed }).setBay k
          { s.bay k with fbK1 := closed })).settle)) ∧
    ((s.ctx k).st = .closing → (s.sin (s.cBay k).siK1).fault = false → chConducts (s.chan (s.cBay k).chK1).st = true →
      ∃ u : State, exec (.contactorFeedback k .k1 true) s = .next u.settle ∧ (u.ctx k).st = .charging ∧
        (u.ctx k).chargeFrom.isSome = true ∧ (u.gate (s.cBay k).chK3).req = false ∧ (∀ j, j ≠ k → u.ctx j = s.ctx j)) ∧
    (∀ closedAt100, exec (.weldCheckDone k closedAt100) s = .next (s.weldDone k closedAt100).settle) ∧
    ((s.ctx k).st = .unplugWait → ∃ u : State, exec (.unplugWaitExpiry k) s = .next u.settle ∧ u.ctx k = {} ∧
      (∀ j, j ≠ k → u.ctx j = s.ctx j))

/-- R130, R134, R160 to R168: a bay's own events. A change of pilot level on an awake part shows the levels, the low one only while the
generator runs PWM; an accepted pilot state (at least as many agreeing samples as configured, outside the hysteresis) is shown, counted
and sets the bay's event bit; A lets the bay begin again and ends a session that stands before UNPLUG_WAIT as unplugged, B begins a
session where the bay can begin one, E, F and a diode fault end one; too few samples, or the state already shown, leave state and count
alone. A manual write takes the pilot in SERVICE on a bay out of service without a session, a listed value at a time, and is else ignored.
A proximity change stores band and voltage, OPEN where no band holds it. The retry asks again for full-power transmission in every state
of a CCS bay's session from LINK on. A pre-authorisation runs out. R160: the band of a pilot level. A level that lies, or comes within 0.2
V of lying, in the band last seen stays in it; one farther away than that is in the band it lies in; and the limits of a CCS bay put each
level of R160's table in its state. R169, R170: the steps of SLAC on a CCS bay whose session is in LINK. The first parameter request
stores RUN_ID and MAC and is confirmed, a repetition of it before the match is confirmed again; a sound adds its attenuation to each
carrier group's sum until as many as announced have come, or the timer ends them with at least one; the averages then go out; a timer with
none goes back to the start; validation follows where the image asks for it, and is else answered as not required; the match draws a fresh
key of 16 octets and derives the network's ID from it. A message of another RUN_ID, or one that belongs to another step, changes nothing.
-/
def Obligations.BayEventsAct : Prop :=
 (∀ (s : State) (n : Nat), s.awake = true → s.localCtx n = true →
    (∀ high low samples, ∃ u : State,
      exec (.pilotStateChange n high low samples) s = .next
        (if samples < (s.cBay n).cpFilt ∨ (s.pilotSeen n high low).2 = (s.bay n).pilot then u else (u.pilotAct n (s.pilotSeen n high low).2).settle) ∧
      u.bay n = { s.bay n with
        vHigh := high, vLow := (match (s.bay n).gen with | .pwm _ => low | _ => 0),
        diodeOk := (match (s.bay n).gen with | .pwm _ => decide (low ≤ -10500) | _ => (s.bay n).diodeOk),
        pilot := if samples < (s.cBay n).cpFilt then (s.bay n).pilot else (s.pilotSeen n high low).2,
        band := if samples < (s.cBay n).cpFilt then (s.bay n).band else (s.pilotSeen n high low).1,
        changes := if samples < (s.cBay n).cpFilt ∨ (s.pilotSeen n high low).2 = (s.bay n).pilot then (s.bay n).changes else (s.bay n).changes + 1 } ∧
      ((s.cBay n).cpFilt ≤ samples → (s.pilotSeen n high low).2 ≠ (s.bay n).pilot → u.evtSet 0x04 n ∧
        ((s.pilotSeen n high low).2 = .diode → u.evtSet 0x04 (16 + n))) ∧
      (∀ m, m ≠ n → u.bay m = s.bay m) ∧ u = { s.noting u with vlk := u.vlk } ∧ u.vlk = { s.vlk with bays := u.vlk.bays }) ∧
    (s.canPlug n = true → ((s.pilotAct n .b).ctx n).st = .link ∧ ((s.pilotAct n .b).ctx n).bridged = false ∧
      ((s.pilotAct n .b).bay n).lstate = (if (s.cBay n).mcs then .t1sListen else .waitParm) ∧ (∀ j, j ≠ n → (s.pilotAct n .b).ctx j = s.ctx j)) ∧
    (s.canPlug n = false → s.pilotAct n .b = s) ∧ s.pilotAct n .c = s ∧ s.pilotAct n .d = s ∧
    (∀ p, (p = .e ∨ p = .f ∨ p = .diode) → s.pilotAct n p =
      if (s.ctx n).st = .free ∨ (s.ctx n).st = .unplugWait then s else s.endSess n .pilotFault true) ∧
    ((s.ctx n).st = .unplugWait → ((s.pilotAct n .a).ctx n).st = .free) ∧
    ((s.ctx n).st = .free → s.pilotAct n .a = s.setBay n { s.bay n with needA := false }) ∧
    ((s.ctx n).st ≠ .free → (s.ctx n).st ≠ .unplugWait →
      s.pilotAct n .a = (s.setBay n { s.bay n with needA := false }).endSess n .unplug true) ∧
    (∀ value : Word, s.key.lc = .service → (s.bay n).inService = false → (s.ctx n).st = .free →
      ∃ u : State, exec (.pilotManualWrite n value) s = .next u ∧ (u.bay n).manual = value.getLsbD 0 ∧
        (u.bay n).manOut = (if value.toNat / 2 % 4 = 3 then (s.bay n).manOut else value.toNat / 2 % 4) ∧
        (u.bay n).manDuty = (if 2000 < value.toNat / 8 % 2048 then (s.bay n).manDuty else value.toNat / 8 % 2048) ∧
        (value.getLsbD 0 = true → (u.bay n).gen =
          (if (u.bay n).manOut = 0 then .pwm (u.bay n).manDuty else if (u.bay n).manOut = 1 then .plus12 else .minus12)) ∧
        (∀ m, m ≠ n → u.bay m = s.bay m) ∧ u = { s with vlk := u.vlk } ∧ u.vlk = { s.vlk with bays := u.vlk.bays }) ∧
    (∀ value : Word, (s.key.lc ≠ .service ∨ (s.bay n).inService = true ∨ (s.ctx n).st ≠ .free) →
      exec (.pilotManualWrite n value) s = .next s) ∧
    (∀ mv, ∃ u : State, exec (.proximityChange n mv) s = .next u ∧ (u.bay n).ppMv = min mv 8191 ∧
      (u.bay n).prox = (match (s.cBay n).ppBands.find? (fun x => decide (x.1 ≤ mv) && decide (mv ≤ x.2.1)) with | some x => x.2.2 | none => .opened) ∧
      ((u.bay n).prox ≠ (s.bay n).prox → u.evtSet 0x04 (8 + n)) ∧ (∀ m, m ≠ n → u.bay m = s.bay m) ∧ u = { s.noting u with vlk := u.vlk } ∧
      u.vlk = { s.vlk with bays := u.vlk.bays }) ∧
    ((s.cBay n).mcs = false → (s.ctx n).st ≠ .free → (s.ctx n).st ≠ .plugged →
      ∃ u : State, exec (.greenphyPermitRetry n) s = .next u.settle ∧ (u.asks (.greenPhy n) = true ∨ u.holds (.greenPhy n) = true) ∧
        (s.holds (.greenPhy n) = true ∨ s.asks (.greenPhy n) = true → u = s) ∧ u = { s with vlk := u.vlk, permits := u.permits }) ∧
    ((s.cBay n).mcs = true ∨ (s.ctx n).st = .free ∨ (s.ctx n).st = .plugged → exec (.greenphyPermitRetry n) s = .next s) ∧
    exec (.preauthExpiry false n) s = .next (s.setBay n { s.bay n with pre := none }) ∧
    exec (.preauthExpiry true n) s = .next { s with vlk := { s.vlk with preBridged := s.vlk.preBridged.filter (fun p => p.1 ≠ n) } }) ∧
 ((∀ (bands : List Int) (now : Nat) (v : Int),
    ((bandOf bands v = now ∨ bandOf bands (v - 200) = now ∨ bandOf bands (v + 200) = now) → bandNext bands now v = now) ∧
    (bandOf bands v ≠ now → bandOf bands (v - 200) ≠ now → bandOf bands (v + 200) ≠ now → bandNext bands now v = bandOf bands v)) ∧
  ∀ v : Int, (10500 ≤ v → v ≤ 13500 → bandCode (bandOf ccsBands v) = .a) ∧ (7500 ≤ v → v < 10500 → bandCode (bandOf ccsBands v) = .b) ∧
    (4500 ≤ v → v < 7500 → bandCode (bandOf ccsBands v) = .c) ∧ (1500 ≤ v → v < 4500 → bandCode (bandOf ccsBands v) = .d) ∧
    (v < -10500 → bandCode (bandOf ccsBands v) = .f) ∧ ((13500 < v ∨ (-10500 ≤ v ∧ v < 1500)) → bandCode (bandOf ccsBands v) = .e)) ∧
 (∀ (s : State) (n runId : Nat), s.slacOn n = true →
    (∀ mac, (s.bay n).lstate = .waitParm → exec (.cmSlacParmReq n runId mac) s = .next ((s.setBay n { s.bay n with
        runId := some runId, vehMac := mac, sounds := 0, groupSums := [], announced := 0, lstate := .sounding,
        slacRuns := (s.bay n).slacRuns + 1 }).send (.slac n (.parmCnf runId mac)))) ∧
    (∀ mac, (s.bay n).lstate ≠ .waitParm → exec (.cmSlacParmReq n runId mac) s = .next
      (if (s.bay n).runId = some runId ∧ (s.bay n).lstate ≠ .matched then s.send (.slac n (.parmCnf runId (s.bay n).vehMac)) else s)) ∧
    (∀ announced attens, (s.bay n).runId = some runId → (s.bay n).lstate = .sounding → (s.bay n).sounds + 1 < announced →
      exec (.cmMnbcSoundInd n runId announced attens) s = .next (s.setBay n { s.bay n with
        announced := announced, sounds := (s.bay n).sounds + 1, groupSums := addGroups (s.bay n).groupSums attens })) ∧
    (∀ announced attens, (s.bay n).runId = some runId → (s.bay n).lstate = .sounding → announced ≤ (s.bay n).sounds + 1 →
      ∃ u : State, exec (.cmMnbcSoundInd n runId announced attens) s = .next u ∧ (u.bay n).lstate = .waitMatch ∧
        u.sent = .slac n (.attenCharInd runId ((addGroups (s.bay n).groupSums attens).map
          (fun (x : Nat) => (divRound (x : Int) ((s.bay n).sounds + 1)).toNat)) ((s.bay n).sounds + 1)) :: s.sent) ∧
    ((s.bay n).lstate = .sounding → (s.bay n).sounds = 0 →
      exec (.ttEvseMatchMnbcExpiry n) s = .next (s.setBay n { s.bay n with lstate := .waitParm, runId := none })) ∧
    ((s.bay n).lstate = .sounding → 0 < (s.bay n).sounds → (s.bay n).runId = some runId →
      ∃ u : State, exec (.ttEvseMatchMnbcExpiry n) s = .next u ∧ (u.bay n).lstate = .waitMatch ∧
        u.sent = .slac n (.attenCharInd runId (s.bay n).averages (s.bay n).sounds) :: s.sent) ∧
    ((s.bay n).lstate ≠ .sounding → exec (.ttEvseMatchMnbcExpiry n) s = .next s) ∧
    ((s.bay n).runId = some runId → ((s.bay n).lstate = .waitMatch ∨ (s.bay n).lstate = .validate) →
      exec (.cmAttenCharRsp n runId) s = .next (s.setBay n { s.bay n with
        lstate := if (s.cBay n).validate then .validate else .waitMatch }) ∧
      exec (.cmValidateReq n runId) s = .next (s.send (.slac n (.validateCnf runId (s.cBay n).validate))) ∧
      (∃ u : State, exec (.cmSlacMatchReq n runId) s = .next u ∧ (freeBytes s.fresh 16).length = 16 ∧
        u.bay n = { s.bay n with
          lstate := .matched, nmk := freeBytes s.fresh 16, nid := Config.nidOf (freeBytes s.fresh 16) } ∧
        u.sent = .slac n (.matchCnf runId (Config.nidOf (freeBytes s.fresh 16)) (freeBytes s.fresh 16)) :: s.sent ∧ u.fresh = s.fresh + 1 ∧
        (∀ m, m ≠ n → u.bay m = s.bay m))) ∧
    (((s.bay n).runId ≠ some runId ∨ ((s.bay n).lstate ≠ .waitMatch ∧ (s.bay n).lstate ≠ .validate)) →
      exec (.cmAttenCharRsp n runId) s = .next s ∧ exec (.cmValidateReq n runId) s = .next s ∧ exec (.cmSlacMatchReq n runId) s = .next s) ∧
    (((s.bay n).runId ≠ some runId ∨ (s.bay n).lstate ≠ .sounding) → ∀ a b, exec (.cmMnbcSoundInd n runId a b) s = .next s))

/-- R146, R172 to R182, R184 to R188, R190: what a vehicle's link and messages do to its context, out of reset. In NEGOTIATE discovery is
answered by the bay's policy, a connection replaces the old one, a handshake that can succeed takes its transport and one that cannot is
counted, and the protocol negotiated is the eligible one of lowest priority, or the negotiation fails and the session ends. A message of
another state than R179's table gives it gets the sequence error and leaves the session's state; one in its place has its effect, of which
the clauses name the discovery of services, the request of the charging loop, the start and end of power delivery. A payload longer than
6,144 octets, or one that does not decode, is counted and dropped. A contract chain that fails a check is counted and answered with it,
one that passes is kept and raises its request or waits for the one outstanding. An answer goes out over the link, or on a bridged bay in
a tunnel frame under the next counter. R178: of the eligible entries of a protocol list, the one taken has the lowest priority value, and
among equals it is the first. -/
def Obligations.VehicleMessagesAct : Prop :=
 (∀ (s : State) (k : Nat), s.sys.inReset = false →
    (∀ r, s.answerEv k r = (if (s.ctx k).bridged then
        State.tunSend (s.setCtx k { s.ctx k with
          lastAns := some r, tlsTx := if (s.ctx k).transport = .tcp then (s.ctx k).tlsTx else (s.ctx k).tlsTx + 1 })
          (s.cBridged (s.ctx k).bay).sat (s.ctx k).bay (.answer r (s.evLimit k))
      else (s.setCtx k { s.ctx k with
          lastAns := some r, tlsTx := if (s.ctx k).transport = .tcp then (s.ctx k).tlsTx else (s.ctx k).tlsTx + 1 }).send
        (.vehicle k r (s.evLimit k)))) ∧
    (∀ tls, (s.ctx k).st = .negotiate → ∃ u : State, exec (.sdpRequest k tls) s = .next u ∧
      u.ctx k = { s.ctx k with tlsAnswer := tls || decide (s.policyOf k ≠ 0) } ∧ (∀ j, j ≠ k → u.ctx j = s.ctx j) ∧
      ((s.ctx k).bridged = false → u.sent = .sdp k (tls || decide (s.policyOf k ≠ 0)) :: s.sent) ∧
      ((s.ctx k).bridged = true → u.sent = .tunnel (s.cBridged (s.ctx k).bay).sat (s.ctx k).bay
        (tget 0 s.vlk.tunTx (s.cBridged (s.ctx k).bay).sat + 1) (.sdp (tls || decide (s.policyOf k ≠ 0))) :: s.sent)) ∧
    ((s.ctx k).st = .negotiate → ∃ u : State, exec (.tcpConnect k) s = .next u ∧
      u.ctx k = { s.ctx k with
        tcp := true, setup := false, proto := .none, transport := .tcp, suite := 0, tlsTx := 0, tlsRx := 0, keySlots := [] } ∧
      (∀ n, n ∈ (s.ctx k).keySlots → u.slot n = {}) ∧ (∀ j, j ≠ k → u.ctx j = s.ctx j) ∧
      u = { s with vlk := u.vlk, key := u.key } ∧ u.vlk = { s.vlk with ctxs := u.vlk.ctxs }) ∧
    ((s.ctx k).st ≠ .negotiate → exec (.tcpConnect k) s = .next s ∧ (∀ tls, exec (.sdpRequest k tls) s = .next s) ∧
      ∀ h, exec (.tlsHandshake k h) s = .next s) ∧
    (∀ (h : TlsOffer), (s.ctx k).st = .negotiate → (s.ctx k).tcp = true → (s.ctx k).tlsAnswer = true → (s.ctx k).transport = .tcp →
      ∃ u : State, exec (.tlsHandshake k h) s = .next u ∧ (u.ctx k).st = .negotiate ∧ (∀ j, j ≠ k → u.ctx j = s.ctx j) ∧
        u.cfg = s.cfg ∧ u.tly = s.tly ∧ u.sent = s.sent ∧
        (∀ v, h.version = some v → s.tlsOk k h v = true → (u.ctx k).transport = v ∧ (u.ctx k).suite = h.suite ∧
          (u.ctx k).tlsTx = 0 ∧ (u.ctx k).tlsRx = 0 ∧ u.vlk.hsFail = s.vlk.hsFail) ∧
        ((h.version = none ∨ ∃ v, h.version = some v ∧ s.tlsOk k h v = false) → (u.ctx k).transport = .tcp ∧
          u.vlk.hsFail = s.vlk.hsFail + 1)) ∧
    (∀ len (l : List SapEntry), (s.ctx k).st = .negotiate → (s.ctx k).speaks = true → len ≤ 6144 →
      (∀ e, bestEntry (l.filter (fun e => s.eligible k e)) = some e → ∃ u : State, exec (.supportedAppProtocolReq k len l) s = .next u.settle ∧
        (u.ctx k).proto = offeredAs (s.mcsOf k) e.proto ∧ (u.ctx k).st = .negotiate ∧
        (u.ctx k).lastAns = some (if 0 < e.minor then .okMinorDeviation else .okNegotiation) ∧ (∀ j, j ≠ k → u.ctx j = s.ctx j)) ∧
      (bestEntry (l.filter (fun e => s.eligible k e)) = none → ∃ u : State,
        exec (.supportedAppProtocolReq k len l) s = .next (u.endSess k .negotiateFail false).settle ∧
        (u.ctx k).lastAns = some .failedNoNegotiation ∧ (u.ctx k).st = .negotiate ∧ u.vlk.sapFail = s.vlk.sapFail + 1)) ∧
    (∀ len (l : List SapEntry), (s.ctx k).st ≠ .negotiate → (s.ctx k).st ≠ .free → (s.ctx k).speaks = true → len ≤ 6144 →
      exec (.supportedAppProtocolReq k len l) s = .next ((s.recordRx k).answerEv k .sequenceError).settle) ∧
    (∀ len (l : List SapEntry) (m : V2g), (s.ctx k).st ≠ .free → (s.ctx k).speaks = true → 6144 < len →
      exec (.supportedAppProtocolReq k len l) s = .next ((s.recordRx k).undecoded k).settle ∧
      exec (.v2gMessageRx k len m) s = .next ((s.recordRx k).undecoded k).settle) ∧
    ((s.undecoded k).vlk.decodeErr = s.vlk.decodeErr + 1 ∧
      ((s.ctx k).st ≠ .negotiate → s.undecoded k = { s with vlk := { s.vlk with decodeErr := s.vlk.decodeErr + 1 } })) ∧
    (∀ len m, (s.ctx k).st ≠ .free → (s.ctx k).speaks = true → len ≤ 6144 →
      exec (.v2gMessageRx k len m) s = .next ((((s.recordRx k).keepMsg k m).v2g k m).settle.requestNow s k)) ∧
    (∀ len l m, (s.ctx k).st = .free ∨ (s.ctx k).speaks = false →
      exec (.supportedAppProtocolReq k len l) s = .next s ∧ exec (.v2gMessageRx k len m) s = .next s) ∧
    (∀ m, ¬ (s.ctx k).takes m → s.v2g k m = s.answerEv k .sequenceError) ∧
    (s.v2g k .undecodable = s.undecoded k ∧ s.v2g k .badHeader = { s with vlk := { s.vlk with decodeErr := s.vlk.decodeErr + 1 } } ∧
      s.v2g k .errorCode = s.endSess k .evError false) ∧
    ((s.ctx k).takes .serviceDiscovery → s.v2g k .serviceDiscovery = s.answerEv k (.services
      (.dc :: if (s.ctx k).proto = .iso20 ∧ (s.ctx k).bridged = false ∧ (s.cBay (s.ctx k).bay).exportOn = true then [.dcBpt] else []))) ∧
    (∀ i v, (s.ctx k).takes (.chargeLoop i v) → s.v2g k (.chargeLoop i v) = (s.setCtx k { s.ctx k with iReq := i, vTgt := v }).answerEv k .ok) ∧
    ((s.ctx k).takes .powerStart → (s.ctx k).st = .precharge → s.v2g k .powerStart = (s.answerEv k .ok).powerStart k) ∧
    ((s.ctx k).st = .charging ∨ (s.ctx k).st = .renegotiate →
      s.v2g k .powerStop = (s.answerEv k .ok).endSess k .evStop false ∧ s.v2g k .pause = (s.answerEv k .ok).endSess k .evStop false) ∧
    ((s.ctx k).st = .unplugWait → s.v2g k .sessionStop = (s.answerEv k .ok).freeSess k ∧ s.v2g k .pause = (s.answerEv k .ok).freeSess k) ∧
    (∀ cert : ContractOp, (s.ctx k).st = .authorise → (s.ctx k).proto ≠ .din → (s.ctx k).proto ≠ .none → (s.ctx k).speaks = true →
      ∃ u : State, exec (.contractCertVerify k cert) s = .next u ∧ (u.ctx k).contractSeen = true ∧ (u.ctx k).st = .authorise ∧
        (u.ctx k).authorised = (s.ctx k).authorised ∧ (∀ j, j ≠ k → u.ctx j = s.ctx j) ∧
        (∀ why, s.contractFail k cert = some why → u.vlk.certFail = s.vlk.certFail + 1 ∧ (u.ctx k).lastAns = some (.certificateFailed why) ∧
          (u.ctx k).chainOk = (s.ctx k).chainOk ∧ (u.ctx k).reqOut = (s.ctx k).reqOut) ∧
        (s.contractFail k cert = none → u.vlk.certFail = s.vlk.certFail ∧ (u.ctx k).chainOk = true ∧
          (u.ctx k).chain = cert.certs.map (fun x => x.der) ∧
          ((s.ctx k).authorised = true ∨ s.methodOn k .contract = false → (u.ctx k).reqOut = (s.ctx k).reqOut) ∧
          ((s.ctx k).authorised = false → s.methodOn k .contract = true → ∀ q, (s.ctx k).reqOut = some q →
            (u.ctx k).conDue = some (cert.emaid.take 24) ∧ (u.ctx k).reqOut = some q) ∧
          ((s.ctx k).authorised = false → s.methodOn k .contract = true → (s.ctx k).reqOut = none →
            (u.ctx k).reqOut = some ((tget 0 s.vlk.reqIds k + 1) % 65536) ∧ (u.ctx k).method = .contract ∧
            (u.ctx k).ident = cert.emaid.take 24))) ∧
    (∀ cert : ContractOp, ((s.ctx k).st ≠ .authorise ∨ (s.ctx k).proto = .din ∨ (s.ctx k).proto = .none ∨ (s.ctx k).speaks = false) →
      exec (.contractCertVerify k cert) s = .next s)) ∧
 (∀ (l : List SapEntry) (e : SapEntry), bestEntry l = some e →
    e ∈ l ∧ (∀ x ∈ l, e.prio ≤ x.prio) ∧ ∃ a b, l = a ++ e :: b ∧ ∀ x ∈ a, e.prio < x.prio)

/-- R15, R134 to R136, R141, R142, R145, R148, R155, R157: the session commands of the VLK block, each with every outcome: VLK_BAY_SET,
VLK_AUTH_DECIDE, VLK_PREAUTH, VLK_SESS_STOP, VLK_SESS_LIMIT, VLK_SESS_INFO and VLK_WELD_CLEAR. Where several conditions fail at once the
order in which they are looked at is the model's choice (assumption 28). R132, R133, R136, R269: an accepted request authorises the
session with the method, ident and limits given, and the record it reserved opens under the next record number; where the start gate is
open the session then goes to LOCKING. -/
def Obligations.SessionCommandsComplete : Prop :=
 (∀ (s : State) (c : Cmd) (k : Nat),
    (∀ target, s.ready c 0x0501 →
      (s.noBays = true → exec (.vlkBaySet c k target) s = .next (s.failAs c 0x0501 .state)) ∧
      (s.noBays = false → (s.localCtx k = false ∨ 2 < target) → exec (.vlkBaySet c k target) s = .next (s.failAs c 0x0501 .range)) ∧
      (s.noBays = false → s.localCtx k = true →
        exec (.vlkBaySet c k 1) s = .next (if (s.bay k).weldLock = true ∨ (s.mbay k).mfault = true ∨ (s.bay k).tripTestBad = true then
          s.failAs c 0x0501 .state
          else s.okAs c 0x0501 [] (fun u =>
            (u.setBay k { u.bay k with inService := true, drain := false, manual := false, outAtFree := false }).pilotGen k)) ∧
        exec (.vlkBaySet c k 0) s = .next (if (s.ctx k).st = .free then s.okAs c 0x0501 [] (fun u => u.bayOut k) else s.failAs c 0x0501 .state) ∧
        exec (.vlkBaySet c k 2) s = .next (s.okAs c 0x0501 [] (fun u =>
          if (s.ctx k).st = .free then u.bayOut k else u.setBay k { u.bay k with drain := true })))) ∧
    (∀ reqId d wh mn, s.ready c 0x0502 →
      (127 < k ∨ 1 < d → exec (.vlkAuthDecide c k reqId d wh mn) s = .next (s.failAs c 0x0502 .range).settle) ∧
      (k ≤ 127 → d ≤ 1 → ((s.ctx k).st ≠ .authorise ∨ (s.ctx k).reqOut ≠ some reqId) →
        exec (.vlkAuthDecide c k reqId d wh mn) s = .next (s.failAs c 0x0502 .state).settle) ∧
      (k ≤ 127 → (s.ctx k).st = .authorise → (s.ctx k).reqOut = some reqId →
        exec (.vlkAuthDecide c k reqId 1 wh mn) s = .next (s.okAs c 0x0502 [] (fun u =>
          u.authorise k (s.ctx k).method (s.ctx k).ident wh mn)).settle ∧
        exec (.vlkAuthDecide c k reqId 0 wh mn) s = .next (s.okAs c 0x0502 [] (fun u => u.reject k)).settle)) ∧
    (∀ br ident wh mn, s.ready c 0x0503 →
      (1 < br → exec (.vlkPreauth c br k ident wh mn) s = .next (s.failAs c 0x0503 .range).settle) ∧
      (br ≤ 1 → s.noKind br = true → exec (.vlkPreauth c br k ident wh mn) s = .next (s.failAs c 0x0503 .state).settle) ∧
      (br ≤ 1 → s.noKind br = false → (24 < ident.length ∨ (br = 0 ∧ s.localCtx k = false) ∨ (br = 1 ∧ (255 < k ∨ (s.cBridged k).used = false))) →
        exec (.vlkPreauth c br k ident wh mn) s = .next (s.failAs c 0x0503 .range).settle) ∧
      (s.noKind 0 = false → ident.length ≤ 24 → s.localCtx k = true →
        ((s.bay k).inService = false ∨ (s.bay k).weldLock = true ∨ (s.cBay k).methods.getLsbD 2 = false ∨ (s.bay k).pre.isSome = true ∨
            ((s.ctx k).st ≠ .free ∧ (s.ctx k).bridged = false ∧ s.preLate k = true) →
          exec (.vlkPreauth c 0 k ident wh mn) s = .next (s.failAs c 0x0503 .state).settle) ∧
        ((s.bay k).inService = true → (s.bay k).weldLock = false → (s.cBay k).methods.getLsbD 2 = true → (s.bay k).pre = none →
          ((s.ctx k).st = .free ∨ ((s.ctx k).bridged = false ∧ s.preLate k = false ∧ (s.ctx k).st ≠ .authorise) →
            exec (.vlkPreauth c 0 k ident wh mn) s = .next (s.okAs c 0x0503 [] (fun u =>
              u.setBay k { u.bay k with pre := some { ident := ident, wh := wh, min := mn } })).settle) ∧
          ((s.ctx k).st = .authorise → (s.ctx k).bridged = false → (s.ctx k).authorised = false →
            exec (.vlkPreauth c 0 k ident wh mn) s = .next (s.okAs c 0x0503 [] (fun u => u.authorise k .remote ident wh mn)).settle))) ∧
      (s.noKind 1 = false → ident.length ≤ 24 → k ≤ 255 → (s.cBridged k).used = true →
        (s.vlk.weldB.contains k = true ∨ s.vlk.preBridged.any (fun x => x.1 = k) = true →
          exec (.vlkPreauth c 1 k ident wh mn) s = .next (s.failAs c 0x0503 .state).settle) ∧
        (s.vlk.weldB.contains k = false → s.vlk.preBridged.any (fun x => x.1 = k) = false →
          (∀ j, s.bridgedCtx k = some j → s.preLate j = true →
            exec (.vlkPreauth c 1 k ident wh mn) s = .next (s.failAs c 0x0503 .state).settle) ∧
          (∀ j, s.bridgedCtx k = some j → (s.ctx j).st = .authorise → (s.ctx j).authorised = false →
            exec (.vlkPreauth c 1 k ident wh mn) s = .next (s.okAs c 0x0503 [] (fun u => u.authorise j .remote ident wh mn)).settle) ∧
          ((∀ j, s.bridgedCtx k = some j → s.preLate j = false ∧ (s.ctx j).st ≠ .authorise) →
            exec (.vlkPreauth c 1 k ident wh mn) s = .next (s.okAs c 0x0503 [] (fun u => { u with
              vlk := { u.vlk with preBridged := tset {} u.vlk.preBridged k { ident := ident, wh := wh, min := mn } } })).settle)))) ∧
    (∀ reason, s.ready c 0x0504 →
      (127 < k ∨ (reason ≠ 1 ∧ reason ≠ 2) → exec (.vlkSessStop c k reason) s = .next (s.failAs c 0x0504 .range).settle) ∧
      (k ≤ 127 → (reason = 1 ∨ reason = 2) →
        exec (.vlkSessStop c k reason) s = .next
          (if s.ctxIn k [.authorise, .locking, .cableCheck, .precharge, .closing, .charging, .renegotiate] = true then
            s.okAs c 0x0504 [] (fun u => u.endSess k (if reason = 1 then .hostStop else .userStop) false)
          else s.failAs c 0x0504 .state).settle)) ∧
    (∀ cap, s.ready c 0x0505 →
      (127 < k → exec (.vlkSessLimit c k cap) s = .next (s.failAs c 0x0505 .range)) ∧
      (k ≤ 127 → exec (.vlkSessLimit c k cap) s = .next (if (s.ctx k).st = .charging ∨ (s.ctx k).st = .renegotiate then
        s.okAs c 0x0505 [] (fun u => u.setCtx k { u.ctx k with cap := cap }) else s.failAs c 0x0505 .state))) ∧
    (s.ready c 0x0506 → (127 < k → exec (.vlkSessInfo c k) s = .next (s.failAs c 0x0506 .range)) ∧
      (k ≤ 127 → exec (.vlkSessInfo c k) s = .next (s.okAs c 0x0506
        (le 1 (s.ctx k).st.ctorIdx ++ le 2 (s.ctx k).bay ++ le 8 (s.evOf k 1).eImp ++ le 8 (s.evOf k 1).eExp ++ le 4 ((s.ctx k).iSet.getD 0) ++
          leInt 4 (s.sessAmps k) ++ leInt 4 (s.sessVolts k) ++ le 4 (s.sessSecs k) ++ le 4 (s.evOf k 1).recno) id))) ∧
    (∀ br, s.ready c 0x0507 →
      (1 < br → exec (.vlkWeldClear c br k) s = .next (s.failAs c 0x0507 .range)) ∧
      (br ≤ 1 → s.noKind br = true → exec (.vlkWeldClear c br k) s = .next (s.failAs c 0x0507 .state)) ∧
      (br ≤ 1 → s.noKind br = false → s.key.lc ≠ .service → exec (.vlkWeldClear c br k) s = .next (s.failAs c 0x0507 .locked)) ∧
      (br ≤ 1 → s.noKind br = false → s.key.lc = .service → s.weldClearable br k = false →
        exec (.vlkWeldClear c br k) s = .next (s.failAs c 0x0507 .state)) ∧
      (br ≤ 1 → s.noKind br = false → s.key.lc = .service → s.weldClearable br k = true →
        ∃ f : State → State, exec (.vlkWeldClear c br k) s = .next (s.okAs c 0x0507 [] f) ∧
          (br = 0 → ((f (s.startNext (queueOf 5 c.side))).bay k).weldLock = false) ∧
          (br = 1 → (f (s.startNext (queueOf 5 c.side))).vlk.weldB.contains k = false)))) ∧
 (∀ (s : State) (k i : Nat) (m : Method) (ident : List Byte) (wh mn : Nat), (s.ctx k).st = .authorise → (s.ctx k).slot = some i →
    ∃ u : State, s.authorise k m ident wh mn = (if s.gateOpen then u.enterLock k else u) ∧ (u.ctx k).st = .authorise ∧
      (u.ctx k).authorised = true ∧ (u.ctx k).method = m ∧ (u.ctx k).ident = ident ∧ (u.ctx k).limWh = wh ∧ (u.ctx k).limMin = mn ∧
      (u.ctx k).recno = some s.tly.recNext ∧ (u.ctx k).reqOut = none ∧ (u.rcd i).st = .opened ∧ (u.rcd i).recno = s.tly.recNext ∧
      u.tly.recNext = s.tly.recNext + 1 ∧ (∀ j, j ≠ k → u.ctx j = s.ctx j) ∧ (∀ j, j ≠ i → u.rcd j = s.rcd j))

/-- R189, R195: the link commands, each with every outcome: what a context's link and its certificate chain are, and installing a root in
the lowest free place of the store and removing one, in FIELD and SERVICE. R127, R128, R145, R173, R190 to R192: a tunnel frame of another
version than 1 changes nothing (uncounted: assumption 42); one that fails its authentication or repeats a counter is dropped and counted,
and does nothing else; one that passes takes its counter and has its effect: a request for a context is refused for a bay that is unknown
or weld-locked, for want of a common version, or with the pool empty, granted again for a bay that has its session, and else given the
pool's lowest free context in LINK; data stores the vehicle's address, link up takes LINK to NEGOTIATE, link down shows the link down and
in UNPLUG_WAIT frees the context. A frame for a bay without a session has no effect of its own. R191: a counter that a satellite's window
has accepted is never accepted again from it. -/
def Obligations.LinkAndTunnelAct : Prop :=
 (∀ (s : State) (c : Cmd),
    (∀ k, s.ready c 0x0508 → (127 < k → exec (.vlkLinkInfo c k) s = .next (s.failAs c 0x0508 .range)) ∧
      (k ≤ 127 → exec (.vlkLinkInfo c k) s = .next (s.okAs c 0x0508
        (le 1 (s.ctx k).proto.ctorIdx ++ le 1 (s.ctx k).transport.ctorIdx ++ le 2 (s.ctx k).suite.toNat ++
          be 6 (if s.localCtx k = true ∧ (s.ctx k).mac = 0 then (s.bay k).vehMac else (s.ctx k).mac) ++
          le 1 (if s.localCtx k then (if (s.cBay k).mcs then 2 else 1) else 0) ++ le 1 (if s.localCtx k then (s.bay k).attn else 0)) id))) ∧
    (∀ k dst size, s.ready c 0x0509 → (127 < k → exec (.vlkCertRead c k dst size) s = .next (s.failAs c 0x0509 .range)) ∧
      (k ≤ 127 → ((s.ctx k).st.ctorIdx < 4 ∨ (s.ctx k).chainOk = false) → exec (.vlkCertRead c k dst size) s = .next (s.failAs c 0x0509 .state)) ∧
      (k ≤ 127 → 4 ≤ (s.ctx k).st.ctorIdx → (s.ctx k).chainOk = true → (size < 2400 ∨ dstOk dst size = false) →
        exec (.vlkCertRead c k dst size) s = .next (s.failAs c 0x0509 .range)) ∧
      (k ≤ 127 → 4 ≤ (s.ctx k).st.ctorIdx → (s.ctx k).chainOk = true → 2400 ≤ size → dstOk dst size = true →
        exec (.vlkCertRead c k dst size) s = .next (s.okAs c 0x0509
          (le 2 ((s.ctx k).chain.getD 0 []).length ++ le 2 ((s.ctx k).chain.getD 1 []).length ++ le 2 ((s.ctx k).chain.getD 2 []).length)
          (fun u => u.writeGen dst (s.ctx k).chain.flatten)))) ∧
    (∀ kind key wf der, s.ready c 0x050A →
      (s.key.lc ≠ .field → s.key.lc ≠ .service → exec (.vlkRootInstall c kind key wf der) s = .next (s.failAs c 0x050A .locked)) ∧
      ((s.key.lc = .field ∨ s.key.lc = .service) → ((kind ≠ 1 ∧ kind ≠ 2) ∨ wf = false ∨ der.length = 0 ∨ 1024 < der.length) →
        exec (.vlkRootInstall c kind key wf der) s = .next (s.failAs c 0x050A .range)) ∧
      ((s.key.lc = .field ∨ s.key.lc = .service) → (kind = 1 ∨ kind = 2) → 1 ≤ der.length → der.length ≤ 1024 →
        (s.freeRoot = none → exec (.vlkRootInstall c kind key true der) s = .next (s.failAs c 0x050A .nospace)) ∧
        ∀ i, s.freeRoot = some i → exec (.vlkRootInstall c kind key true der) s = .next (s.okAs c 0x050A (le 1 i) (fun u =>
          { u with vlk := { u.vlk with roots := tset {} u.vlk.roots i { kind := kind, key := key, der := der } } })))) ∧
    (∀ i, s.ready c 0x050B →
      (s.key.lc ≠ .field → s.key.lc ≠ .service → exec (.vlkRootRemove c i) s = .next (s.failAs c 0x050B .locked)) ∧
      ((s.key.lc = .field ∨ s.key.lc = .service) → (31 < i ∨ (tget ({} : Root) s.vlk.roots i).kind = 0) →
        exec (.vlkRootRemove c i) s = .next (s.failAs c 0x050B .range)) ∧
      ((s.key.lc = .field ∨ s.key.lc = .service) → i ≤ 31 → (tget ({} : Root) s.vlk.roots i).kind ≠ 0 →
        exec (.vlkRootRemove c i) s = .next (s.okAs c 0x050B [] (fun u =>
          { u with vlk := { u.vlk with roots := tset {} u.vlk.roots i {} } }))))) ∧
 (∀ (s : State) (f : TunFrame), s.sys.inReset = false →
    (f.ver ≠ 1 → exec (.ctxReq f) s = .next s ∧ exec (.tunnelLinkUp f) s = .next s ∧ exec (.tunnelLinkDown f) s = .next s ∧
      ∀ mac, exec (.tunnelData f mac) s = .next s) ∧
    (f.ver = 1 → (s.satCfg f.sat = none ∨ ∃ b, s.satCfg f.sat = some b ∧ (s.keyFor b.slot 2 = false ∨ f.signer ≠ (s.slot b.slot).key ∨
        1518 < f.payload.length ∨ (tget ({} : Window) s.vlk.tunRx f.sat).fresh 64 f.ctr = false)) →
      ∃ u : State, u = { s with vlk := { s.vlk with tunDrops := s.vlk.tunDrops + 1 } } ∧
        exec (.ctxReq f) s = .next u ∧ exec (.tunnelLinkUp f) s = .next u ∧ exec (.tunnelLinkDown f) s = .next u ∧
        ∀ mac, exec (.tunnelData f mac) s = .next u) ∧
    (∀ b, f.ver = 1 → s.satCfg f.sat = some b → s.keyFor b.slot 2 = true → f.signer = (s.slot b.slot).key → f.payload.length ≤ 1518 →
      (tget ({} : Window) s.vlk.tunRx f.sat).fresh 64 f.ctr = true →
      ∃ t : State, t = { s with vlk := { s.vlk with tunRx := tset {} s.vlk.tunRx f.sat ((tget ({} : Window) s.vlk.tunRx f.sat).take 64 f.ctr) } } ∧
        ((s.tunBay f = false ∨ s.vlk.weldB.contains f.bb = true) → exec (.ctxReq f) s = .next (t.tunSend f.sat f.bb (.refuse 3)).settle) ∧
        (s.tunBay f = true → s.vlk.weldB.contains f.bb = false → (1 < f.verLo ∨ f.verHi < 1) →
          exec (.ctxReq f) s = .next (t.tunSend f.sat f.bb (.refuse 2)).settle) ∧
        (s.tunBay f = true → s.vlk.weldB.contains f.bb = false → f.verLo ≤ 1 → 1 ≤ f.verHi →
          (∀ k, s.bridgedCtx f.bb = some k → exec (.ctxReq f) s = .next (t.tunSend f.sat f.bb (.grant 1)).settle) ∧
          (s.bridgedCtx f.bb = none → s.poolCtx = none →
            exec (.ctxReq f) s = .next ((t.setEvt 0x05 2).tunSend f.sat f.bb (.refuse 1)).settle) ∧
          (∀ k, s.bridgedCtx f.bb = none → s.poolCtx = some k →
            ∃ u : State, exec (.ctxReq f) s = .next u.settle ∧ (u.ctx k).st = .link ∧ (u.ctx k).bridged = true ∧ (u.ctx k).bay = f.bb ∧
              (∀ j, j ≠ k → u.ctx j = s.ctx j) ∧
              u.sent.head? = some (.tunnel f.sat f.bb (tget 0 s.vlk.tunTx f.sat + 1) (.grant 1)))) ∧
        (s.tunBay f = false ∨ s.bridgedCtx f.bb = none → exec (.tunnelLinkUp f) s = .next t.settle ∧ exec (.tunnelLinkDown f) s = .next t.settle ∧
          ∀ mac, exec (.tunnelData f mac) s = .next t.settle) ∧
        (∀ k, s.tunBay f = true → s.bridgedCtx f.bb = some k →
          (∀ mac, exec (.tunnelData f mac) s = .next (t.setCtx k { s.ctx k with mac := mac }).settle) ∧
          ((s.ctx k).st = .link → ∃ u : State, exec (.tunnelLinkUp f) s = .next u.settle ∧ (u.ctx k).st = .negotiate ∧
            (u.ctx k).linkUp = true ∧ (∀ j, j ≠ k → u.ctx j = s.ctx j)) ∧
          ((s.ctx k).st ≠ .link → exec (.tunnelLinkUp f) s = .next t.settle) ∧
          ((s.ctx k).st ≠ .unplugWait → exec (.tunnelLinkDown f) s = .next (t.setCtx k { s.ctx k with linkUp := false }).settle) ∧
          ((s.ctx k).st = .unplugWait →
            exec (.tunnelLinkDown f) s = .next ((t.setCtx k { s.ctx k with linkUp := false }).freeSess k).settle.settle)))) ∧
 (∀ (s : State) (f g : TunFrame), (s.tunTake f).2 = true → g.sat = f.sat → g.ctr = f.ctr → ((s.tunTake f).1.tunTake g).2 = false)

/-- R16, R202, R209, R213 to R216: Yarder's events on an awake part. A cycle of the device that allocates takes the next cycle number,
records its compute time, gives each OUTLET the current setpoint that its allocation and its voltage make, and touches neither time,
billing nor settings; elsewhere it does nothing. A switch completes its module's move; a module that still carries current after its
release time is taken out with `SW_FAULT`; an outlet's excess is marked for release; a client that stayed lost lets its allocation fall; a
client that stayed without setpoints stops each local session that transfers power; and a client sends its hub one request for each
enabled bay, the last sent standing, on a connection that is OPEN. In the events of one node no other node changes, and where an event
does not meet its state nothing does. R209: an outlet's current setpoint is its allocation over its voltage, rounded down to 0.1 A: it
never asks for more power than was allocated, and one step more would. -/
def Obligations.YarderEventsAct : Prop :=
 (∀ s : State, s.awake = true →
    (∀ amps us, s.allocates = true → ∃ t : State, exec (.yarderCycle amps us) s = .next t ∧
      t.yrd.cycle = s.yrd.cycle + 1 ∧ t.yrd.lastUs = us % 65536 ∧ t.yrd.maxUs = max s.yrd.maxUs (us % 65536) ∧ t.yrd.lost = [] ∧
      (∀ n, n < s.img.yarder.count → (s.cNode n).typ = .outlet → (t.node n).iSet = setAmps (t.node n).alloc (s.outIn n).v) ∧
      t.tim = s.tim ∧ t.tly = s.tly ∧ t.cfg = s.cfg ∧ t.img = s.img ∧ t.permits = s.permits ∧ t.chk = s.chk ∧ t.hst = s.hst) ∧
    (∀ amps us, s.allocates = false → exec (.yarderCycle amps us) s = .next s) ∧
    (∀ n, exec (.matrixSwitchDone n) s = .next (if (s.node n).sw = .opening then s.setNode n { s.node n with sw := .unassigned, outlet := none }
      else if (s.node n).sw = .closing then s.setNode n { s.node n with sw := .settled } else s)) ∧
    (∀ n, (s.node n).sw = .releasing → (s.node n).swFault = false → ∃ t : State, exec (.moduleReleaseTimeout n) s = .next t ∧
      t.node n = { s.node n with oos := true, swFault := true, sw := .releasing } ∧ t.evtSet 0x06 4 ∧
      t.yrd.swFaults = satTo 65535 (s.yrd.swFaults + 1) ∧ (∀ m, m ≠ n → t.node m = s.node m) ∧ t = { s.noting t with yrd := t.yrd }) ∧
    (∀ n, ((s.node n).sw ≠ .releasing ∨ (s.node n).swFault = true) → exec (.moduleReleaseTimeout n) s = .next s) ∧
    (∀ n, exec (.moduleExcessRelease n) s = .next (if (s.cNode n).typ = .outlet then s.setNode n { s.node n with excess := true } else s)) ∧
    (∀ n, exec (.clientLossHoldExpiry n) s = .next (if (s.node n).clientTo = true then s.setNode n { s.node n with clientRamp := true } else s)) ∧
    (s.yrd.clientHold = true → s.yrd.clientRamp = false → ∃ t : State, exec .clientHoldExpiry s = .next t.settle ∧ t.yrd.clientRamp = true ∧
      ∀ n, (t.ctx n).st = if n < 8 ∧ ((s.ctx n).st = .charging ∨ (s.ctx n).st = .renegotiate) then .stopping else (s.ctx n).st) ∧
    ((s.yrd.clientHold = false ∨ s.yrd.clientRamp = true) → exec .clientHoldExpiry s = .next s) ∧
    (s.isClient = true → (s.cConn s.img.net.hub).used = true → (s.cConn s.img.net.hub).tx = true → (s.conn s.img.net.hub).st = .opened →
      ∃ t : State, exec .requestPeriodic s = .next t ∧
        (t.conn s.img.net.hub).seq = (s.conn s.img.net.hub).seq + BitVec.ofNat 16 ((List.range 8).filter (fun n => (s.cBay n).enabled)).length ∧
        (∀ m, m < 8 → (s.cBay m).enabled = true → (∀ j, m < j → j < 8 → (s.cBay j).enabled = false) →
          (t.conn s.img.net.hub).lastPay = [s.requestOf m]) ∧
        ((s.cConn s.img.net.hub).link ≠ sklLink → t = { s with saf := t.saf, sent := t.sent } ∧
          t.sent.length = s.sent.length + ((List.range 8).filter (fun n => (s.cBay n).enabled)).length)) ∧
    (s.isClient = false ∨ (s.cConn s.img.net.hub).used = false ∨ (s.cConn s.img.net.hub).tx = false ∨ (s.conn s.img.net.hub).st ≠ .opened →
      exec .requestPeriodic s = .next s)) ∧
 (∀ (a : Int) (v : Rat), 0 < v → 0 < a →
    (setAmps a v : Rat) * v / 10 ≤ (a : Rat) ∧ (a : Rat) < ((setAmps a v : Rat) + 1) * v / 10)

/-- R219: the YRD commands on a device that allocates, for a node of its tree, each with its outcomes: a node's data, and limit, class,
storage mode, export and module service; what is out of range completes with RANGE, an export without a session that may export with
STATE. Only the node named changes. For a node beyond the tree each completes with RANGE. R219: a YRD command on a device that does not
allocate completes with STATE and changes nothing. -/
def Obligations.YarderCommandsComplete : Prop :=
 (∀ (s : State) (c : Cmd) (n : Nat), s.allocates = true →
    (s.img.yarder.count ≤ n → (s.ready c 0x0601 → exec (.yrdNodeRead c n) s = .next (s.failAs c 0x0601 .range)) ∧
      (s.ready c 0x0602 → ∀ l, exec (.yrdLimitSet c n l) s = .next (s.failAs c 0x0602 .range)) ∧
      (s.ready c 0x0603 → ∀ k g, exec (.yrdClassSet c n k g) s = .next (s.failAs c 0x0603 .range)) ∧
      (s.ready c 0x0604 → ∀ m q sp, exec (.yrdStorageSet c n m q sp) s = .next (s.failAs c 0x0604 .range)) ∧
      (s.ready c 0x0605 → ∀ w, exec (.yrdExportSet c n w) s = .next (s.failAs c 0x0605 .range)) ∧
      (s.ready c 0x0606 → ∀ b, exec (.yrdModuleService c n b) s = .next (s.failAs c 0x0606 .range))) ∧
    (n < s.img.yarder.count →
      (s.ready c 0x0601 → exec (.yrdNodeRead c n) s = .next (s.okAs c 0x0601 (s.yHead n ++ le 1 (s.node n).bound) id)) ∧
      (∀ l : Word, s.ready c 0x0602 →
        (((s.cNode n).typ = .module ∨ (s.cNode n).typ = .pv ∨
            (l ≠ 0xFFFFFFFF ∧ (if (s.cNode n).typ = .outlet then (s.cNode n).iMax else (s.cNode n).pMax) < l.toNat)) →
          exec (.yrdLimitSet c n l) s = .next (s.failAs c 0x0602 .range)) ∧
        ((s.cNode n).typ ≠ .module → (s.cNode n).typ ≠ .pv →
          (l = 0xFFFFFFFF ∨ l.toNat ≤ (if (s.cNode n).typ = .outlet then (s.cNode n).iMax else (s.cNode n).pMax)) →
          exec (.yrdLimitSet c n l) s = .next (s.okAs c 0x0602 [] (fun u =>
            u.setNode n { u.node n with overLim := if l = 0xFFFFFFFF then none else some l.toNat })))) ∧
      (∀ cls gMin, s.ready c 0x0603 →
        exec (.yrdClassSet c n cls gMin) s = .next (if ((s.cNode n).typ = .outlet ∨ (s.cNode n).typ = .storage) ∧ cls ≤ 7 ∧ gMin ≤ (s.cNode n).pMax
          then s.okAs c 0x0603 [] (fun u => u.setNode n { u.node n with cls := some cls, gMin := some gMin })
          else s.failAs c 0x0603 .range)) ∧
      (∀ mode soc sp, s.ready c 0x0604 →
        exec (.yrdStorageSet c n mode soc sp) s = .next (if (s.cNode n).typ = .storage ∧ mode ≤ 2 ∧ soc ≤ 100 ∧
            -((s.cNode n).pMax : Int) ≤ sp ∧ sp ≤ ((s.cNode n).pRev : Int)
          then s.okAs c 0x0604 [] (fun u => u.setNode n { u.node n with
            mode := if mode = 0 then .peakShave else if mode = 1 then .selfUse else .fixed, socTgt := some soc, setpoint := sp })
          else s.failAs c 0x0604 .range)) ∧
      (∀ w, s.ready c 0x0605 →
        exec (.yrdExportSet c n w) s = .next (if (s.cNode n).typ ≠ .outlet ∨ (s.cNode n).pMax < w then s.failAs c 0x0605 .range
          else if (s.outIn n).exp = true then s.okAs c 0x0605 [] (fun u => u.setNode n { u.node n with expSet := w })
          else s.failAs c 0x0605 .state)) ∧
      (∀ b, s.ready c 0x0606 → ((s.cNode n).typ ≠ .module ∨ 1 < b) → exec (.yrdModuleService c n b) s = .next (s.failAs c 0x0606 .range)) ∧
      (s.ready c 0x0606 → (s.cNode n).typ = .module →
        exec (.yrdModuleService c n 0) s = .next (s.okAs c 0x0606 [] (fun u =>
          u.setNode n { u.node n with oos := true, swFault := false })) ∧
        exec (.yrdModuleService c n 1) s = .next (s.okAs c 0x0606 [] (fun u => u.setNode n
          (if (s.node n).swFault = true ∨ (s.node n).sw = .unassigned then
            { u.node n with oos := false, swFault := false, sw := .unassigned, outlet := none }
          else { u.node n with oos := false }))))) ∧
    (∀ dst, s.ready c 0x0607 → 0 < s.img.yarder.count →
      exec (.yrdSnapshot c dst) s = .next (if dstOk dst (32 * s.img.yarder.count) = true then s.okAs c 0x0607 [] (fun u =>
        u.writeGen dst (s.yNodes.foldl (fun l n => l ++ s.yHead n) [])) else s.failAs c 0x0607 .range))) ∧
 (∀ (i : Instr) (c : Cmd) (op : Nat) (s : State), i.posted = some (c, op) → op / 256 = 6 → s.ready c op → s.allocates = false →
    exec i s = .next (s.failAs c op .state))

/-- R21, R22, R37, R41: the network ports and the Boom links on an awake part. A port's mode that changes takes its link down, one written
with its own value changes nothing; a link is reported with the speed its mode runs, and a disabled port has none. The first Boom link
takes the ring from DOWN to FORMING; the loss of the last takes it to DOWN with nothing shown of other devices, from CONFLICT too (the
model's choice: assumption 45), and sets the event bit where the ring was in another state; any other change of a link leaves the ring as
it is. An uncorrectable Boom frame is counted and sets its bit. R18, R22, R23, R29, R42: what a stack master sends: each round, and on
NET_RING_REDISCOVER, its discovery frame with its identity, its pair, its epoch and the version chosen; the active one, once stack traffic
flows, its heartbeat with epoch and identity. A device that is none sends neither, and the command completes with STATE. -/
def Obligations.PortsLinksAndMastersAct : Prop :=
 (∀ (s : State) (n : Nat), n < 2 → s.awake = true →
    (∀ v : Word, exec (.netPortModeWrite n v) s = .next (if v.toNat % 4 = (s.port n).mode then s else s.setPort n { mode := v.toNat % 4 })) ∧
    (∀ up sp, exec (.netPortLinkChange n up sp) s = .next (if (s.port n).mode = 0 then s else s.setPort n {
      mode := (s.port n).mode, link := up,
      speed := if up = false then 0 else if (s.port n).mode = 1 then 3 else if (s.port n).mode = 2 then 2 else min sp 2 })) ∧
    (∀ up, s.net.ring = .down → (up = true ∨ (n = 0 ∧ s.net.boom1 = true) ∨ (n = 1 ∧ s.net.boom0 = true)) →
      ∃ u : State, exec (.boomLinkChange n up) s = .next u.settle ∧ u.net.ring = .forming ∧
        u.net.boom0 = (if n = 0 then up else s.net.boom0) ∧ u.net.boom1 = (if n = 1 then up else s.net.boom1) ∧ u.evtSet 0x14 0 ∧
        (s.img.stack.present = true → s.activeMaster = false → u.net.masterSeen = false) ∧ u = { s.noting u with net := u.net }) ∧
    ((if n = 0 then s.net.boom1 else s.net.boom0) = false → s.net.ring ≠ .down →
      ∃ u : State, exec (.boomLinkChange n false) s = .next u.settle ∧ u.net.ring = .down ∧ u.net.boom0 = false ∧ u.net.boom1 = false ∧
        u.net.members = 0 ∧ u.net.mask = 0 ∧ u.net.verMajor = 0 ∧ u.net.verMinor = 0 ∧ u.net.breakDev = 0 ∧
        u.evtSet 0x14 0 ∧ u = { s.noting u with net := u.net }) ∧
    (∀ up, s.net.ring ≠ .down → (up = true ∨ (n = 0 ∧ s.net.boom1 = true) ∨ (n = 1 ∧ s.net.boom0 = true)) →
      exec (.boomLinkChange n up) s = .next { s with net := { s.net with
        boom0 := if n = 0 then up else s.net.boom0, boom1 := if n = 1 then up else s.net.boom1 } }) ∧
    (∃ u : State, exec .boomFrameUncorr s = .next u ∧ u.net = { s.net with boomDrops := s.net.boomDrops + 1 } ∧ u.evtSet 0x14 5 ∧
      u = { s.noting u with net := u.net })) ∧
 (∀ (s : State) (c : Cmd) (d : DiscFrame), s.awake = true →
    d = { ident := s.key.devId, pair := s.img.stack.pair, epoch := s.net.epoch, verLo := 0, verHi := 2, minor := if s.net.verMajor = 0 then 2 else s.net.verMinor } →
    (s.stackMaster = true → exec .discoveryRound s = .next (s.send (.boomDiscovery d))) ∧
    (s.stackMaster = false → exec .discoveryRound s = .next s) ∧
    (s.activeMaster = true → s.ringTalks = true → exec .heartbeatSend s = .next (s.send (.boomHeartbeat
      { epoch := s.net.epoch, ident := s.key.devId, pairB := s.sys.straps.pairB, handover := false }))) ∧
    (s.activeMaster = false ∨ s.ringTalks = false → exec .heartbeatSend s = .next s) ∧
    (s.ready c 0x1402 → s.stackMaster = true → exec (.netRingRediscover c) s = .next (s.okAs c 0x1402 [] (fun u => u.send (.boomDiscovery d)))) ∧
    (s.ready c 0x1402 → s.stackMaster = false → exec (.netRingRediscover c) s = .next (s.failAs c 0x1402 .state)))

/-- R19, R28 to R36, R42, R55: heartbeats and the redundant pair on an awake device of a stack. A heartbeat is passed on, but by its
sender; where stack traffic does not flow it is not consumed. A member or standby follows one that is not older and not of the master that
yields, whose newer epoch ends the hold outside CONFLICT and whose SLEEP takes it to IDLE-SITE; an active master of a pair steps down
before a higher epoch, or an equal one where its own PAIR_B is high and the other's low, discards its setpoints and ends its bridged
sessions; the issuer of a handover does so at epoch + 1, which completes its command. A lost master starts the hold; a synced standby that
has lost its master, or was handed over to, takes over with the next epoch; a handover that runs out leaves the issuer active with epoch +
2; the hold's end starts the ramps. Elsewhere each of these events changes nothing. -/
def Obligations.PairAndHeartbeatsAct : Prop :=
  ∀ (s : State) (c : Cmd), s.awake = true → s.img.stack.present = true →
    (∀ hb : Heartbeat, (s.ringTalks = false ∨
        (s.net.pair = .active ∧ serialAfter hb.epoch s.net.epoch = false ∧ (hb.epoch ≠ s.net.epoch ∨ s.sys.straps.pairB = false ∨ hb.pairB = true)) ∨
        (s.net.pair = .handover ∧ hb.epoch ≠ s.net.epoch + 1) ∨
        (s.net.pair ≠ .active ∧ s.net.pair ≠ .handover ∧ (s.activeMaster = true ∨ serialAfter s.net.epoch hb.epoch = true ∨ s.yields hb = true))) →
      exec (.heartbeatRx hb) s = .next (if hb.ident = s.key.devId ∨ (s.net.boom0 = false ∧ s.net.boom1 = false) then s.settle
        else (s.send (.boomForward (.heartbeat hb))).settle)) ∧
    (∀ hb : Heartbeat, s.ringTalks = true → s.net.pair ≠ .active → s.net.pair ≠ .handover → s.activeMaster = false →
      serialAfter s.net.epoch hb.epoch = false → s.yields hb = false → ∃ u : State, exec (.heartbeatRx hb) s = .next u.settle ∧
        u.net.masterSeen = true ∧ u.net.epoch = hb.epoch ∧ u.net.masterId = some hb.ident ∧ u.net.hbMiss = 0 ∧ u.net.handoverSeen = hb.handover ∧
        (serialAfter hb.epoch s.net.epoch = true → s.net.ring ≠ .conflict → u.net.holding = false ∧ u.net.ramped = false) ∧
        (hb.sleep = true → u.sys.pstate = .idleSite) ∧ (hb.sleep = false → u = { s.noting u with net := u.net, sent := u.sent })) ∧
    (∀ hb : Heartbeat, s.ringTalks = true → s.net.pair = .active →
      (serialAfter hb.epoch s.net.epoch = true ∨ (hb.epoch = s.net.epoch ∧ s.sys.straps.pairB = true ∧ hb.pairB = false)) →
      ∃ u : State, exec (.heartbeatRx hb) s = .next u.settle ∧ u.net.pair = .syncing ∧ u.net.epoch = hb.epoch ∧ u.net.masterSeen = true ∧
        u.net.masterId = some hb.ident ∧ u.net.peerSynced = false ∧ (∀ n, (u.node n).alloc = 0 ∧ (u.node n).iSet = 0) ∧
        (∀ k, (s.ctx k).bridged = true → (u.ctx k).st = .free ∨ (u.ctx k).st = .finishing ∨ (u.ctx k).st = .unplugWait)) ∧
    (∀ hb : Heartbeat, s.ringTalks = true → s.net.pair = .handover → hb.epoch = s.net.epoch + 1 →
      ∃ u : State, exec (.heartbeatRx hb) s = .next u.settle ∧ u.net.pair = .syncing ∧ u.net.epoch = hb.epoch ∧
        u.net.takeovers = satTo 65535 (s.net.takeovers + 1) ∧ u.evtSet 0x14 1 ∧ (∀ f ∈ u.hst.flights, f.waits ≠ .pairSwitch)) ∧
    (s.activeMaster = false → s.net.pair ≠ .handover → s.net.rejected = false →
      exec .masterLost s = .next { s with net := { s.net with
        masterSeen := false, handoverSeen := false, holding := s.net.holding || !s.net.ramped, hbMiss := max 3 s.net.hbMiss } }) ∧
    (s.activeMaster = true ∨ s.net.pair = .handover ∨ s.net.rejected = true → exec .masterLost s = .next s) ∧
    (s.stackMaster = true → s.net.pair = .synced → (s.net.masterSeen = false ∨ s.net.handoverSeen = true) →
      ∃ u : State, exec .takeover s = .next u.settle ∧ u.net.pair = .active ∧ u.net.epoch = s.net.epoch + 1 ∧
        u.net.takeovers = satTo 65535 (s.net.takeovers + 1) ∧ u.evtSet 0x14 1 ∧ u.net.masterId = some s.key.devId ∧
        u.net.holding = false ∧ u.net.ramped = false ∧ u.net.peerSynced = false ∧ u.net.mirRecs = [] ∧
        u.sent.head? = some (.boomHeartbeat { epoch := s.net.epoch + 1, ident := s.key.devId, pairB := s.sys.straps.pairB, handover := false }) ∧
        (∀ k, (s.ctx k).bridged = true → (u.ctx k).st = .free ∨ (u.ctx k).st = .finishing ∨ (u.ctx k).st = .unplugWait)) ∧
    (s.stackMaster = false ∨ s.net.pair ≠ .synced ∨ (s.net.masterSeen = true ∧ s.net.handoverSeen = false) → exec .takeover s = .next s) ∧
    (s.net.pair = .handover → ∃ (u : State) (l : List Out), exec .handoverTimeout s = .next u.settle ∧
      u.net = { s.net with pair := .active, epoch := s.net.epoch + 2 } ∧ (∀ f ∈ u.hst.flights, f.waits ≠ .pairSwitch) ∧
      u.sent = l ++ .boomHeartbeat { epoch := s.net.epoch + 2, ident := s.key.devId, pairB := s.sys.straps.pairB, handover := false } :: s.sent) ∧
    (s.net.pair ≠ .handover → exec .handoverTimeout s = .next s) ∧
    (s.ready c 0x1401 → s.net.pair = .active → s.stackMaster = true → s.net.peerSynced = true → s.net.ring ≠ .conflict →
      exec (.netPairSwitch c) s = .next (s.waitAs c 0x1401 .pairSwitch (fun u => ({ u with net := { u.net with pair := .handover } } : State).send
        (.boomHeartbeat { epoch := s.net.epoch, ident := s.key.devId, pairB := s.sys.straps.pairB, handover := true })))) ∧
    (s.ready c 0x1401 → (s.net.pair ≠ .active ∨ s.stackMaster = false ∨ s.net.peerSynced = false ∨ s.net.ring = .conflict) →
      exec (.netPairSwitch c) s = .next (s.failAs c 0x1401 .state)) ∧
    exec .memberHoldExpiry s = .next (if s.net.holding = true ∧ s.net.ring ≠ .conflict then
      { s with net := { s.net with holding := false, ramped := true } } else s) ∧
    exec .conflictHoldExpiry s = .next (if s.net.holding = true ∧ s.net.ring = .conflict then
      { s with net := { s.net with holding := false, ramped := true } } else s)

/-- R18 to R23, R27, R36: what a discovery frame and a mirror frame do on an awake device of a stack with a link. A round shows CONFLICT
on two masters that are no pair, NOMASTER on none, FORMING while devices are missing, ISOLATED where they cannot be reached, else UP or
OPEN; the ring takes it up, but to leave CONFLICT, and UP from FORMING, takes two rounds that agree. A master takes up the version and
sets the bit of an entry that it does not admit; a member passes the frame on with its own entry, and one that the stack section does not
name, or that shares no version, is rejected, passes the frame on unchanged and takes nothing up. A mirror frame at a standby whose stack
traffic flows is taken over by its kind; a gap returns it to syncing, and one complete copy of each kind makes it synced; any other device
passes the frame on. -/
def Obligations.RingAndMirrorFollowFrames : Prop :=
  ∀ s : State, s.awake = true → s.img.stack.present = true → (s.net.boom0 = true ∨ s.net.boom1 = true) →
    (∀ v : DiscView, s.stackMaster = true → s.net.rejected = false → ∃ t u : State, t = s.discMaster v ∧ t.net.verMajor = 1 ∧ t.net.verMinor ≤ 2 ∧
      t.net.peerSynced = (v.standbySynced && decide (s.net.pair = .active)) ∧ t.net.members ≤ 8 ∧
      ((∃ e ∈ v.entries, e.num ≠ 0 ∧ tget 0 s.img.stack.members e.num ≠ e.ident) → t.evtSet 0x14 4) ∧
      t = { s.noting t with net := t.net } ∧
      exec (.discoveryFrameRx v) s = .next u.settle ∧
      (s.net.pair ≠ .active ∨ v.pairOk = false ∨ serialAfter v.epoch s.net.epoch = false → u.net.ring = (t.ringRound v).net.ring ∧ u.net.epoch = s.net.epoch) ∧
      (s.net.pair = .active → v.pairOk = true → serialAfter v.epoch s.net.epoch = true → u.net.pair = .syncing ∧ u.net.epoch = v.epoch)) ∧
    (∀ v : DiscView, s.stackMaster = false → (s.devNum = 0 ∨ tget 0 v.members s.devNum ≠ s.key.devId ∨ 2 < v.minor) →
      ∃ u : State, exec (.discoveryFrameRx v) s = .next u.settle ∧ u.net = { s.net with rejected := true, masterSeen := false } ∧
        (s.devNum = 0 ∨ tget 0 v.members s.devNum ≠ s.key.devId → u.evtSet 0x14 4) ∧
        (s.devNum ≠ 0 → tget 0 v.members s.devNum = s.key.devId → u.evtSet 0x14 3) ∧
        u.sent = .boomForward (.discovery v) :: s.sent) ∧
    (∀ v : DiscView, s.stackMaster = false → s.devNum ≠ 0 → tget 0 v.members s.devNum = s.key.devId → v.minor ≤ 2 → s.net.pair = .none →
      ∃ t u : State, t = (s.discMember v).passDiscovery v ∧ t.net.rejected = false ∧ t.net.verMajor = 1 ∧ t.net.verMinor = v.minor ∧
        t.sent = .boomForward (.discovery { v with
          entries := v.entries ++ [{ num := s.devNum, ident := s.key.devId, verLo := 0, verHi := 2 }] }) :: s.sent ∧
        exec (.discoveryFrameRx v) s = .next u.settle ∧ u.net.ring = (t.ringRound v).net.ring ∧
        u.net.breakDev = (if u.net.ring = .opened then v.breakDev else 0)) ∧
    (∀ v : DiscView, (2 ≤ v.masters → v.pairOk = false → ringOf v = .conflict) ∧ (v.masters = 0 → ringOf v = .noMaster) ∧
      (v.masters = 1 ∨ (2 ≤ v.masters ∧ v.pairOk = true) →
        (v.complete = false → ringOf v = .forming) ∧ (v.complete = true → v.reachable = false → ringOf v = .isolated) ∧
        (v.complete = true → v.reachable = true → ringOf v = (if v.closed then .up else .opened)))) ∧
    (∀ v : DiscView, ((s.net.ring = .conflict ∧ 1 ≤ v.masters ∧ ringOf v ≠ .conflict) ∨ (s.net.ring = .forming ∧ ringOf v = .up)) →
      (s.net.candidate ≠ some (ringOf v) → (s.ringRound v).net.ring = s.net.ring ∧ ((s.ringRound v).ringRound v).net.ring = ringOf v) ∧
      (s.net.candidate = some (ringOf v) → (s.ringRound v).net.ring = ringOf v)) ∧
    (∀ v : DiscView, s.net.ring = .conflict → v.masters = 0 → (s.ringRound v).net.ring = .conflict) ∧
    (∀ v : DiscView, s.net.ring ≠ .conflict → (s.net.ring ≠ .forming ∨ ringOf v ≠ .up) → (s.ringRound v).net.ring = ringOf v) ∧
    (∀ f : MirrorFrame, (s.ringTalks = false ∨ 3 ≤ f.kind ∨ (s.net.pair ≠ .syncing ∧ s.net.pair ≠ .synced)) →
      exec (.mirrorRx f) s = .next (if s.activeMaster then s else s.send (.boomForward (.mirror f)))) ∧
    (∀ f : MirrorFrame, (s.net.pair = .syncing ∨ s.net.pair = .synced) → f.kind < 3 → s.ringTalks = true → f.gap = true →
      exec (.mirrorRx f) s = .next { s with net := { s.net with pair := .syncing, mirror := 0 } }) ∧
    (∀ f : MirrorFrame, (s.net.pair = .syncing ∨ s.net.pair = .synced) → f.kind < 3 → s.ringTalks = true → f.gap = false →
      ∃ u : State, exec (.mirrorRx f) s = .next u ∧
        u.net.mirror = (if f.complete then s.net.mirror ||| (1#3 <<< f.kind) else s.net.mirror) ∧
        u.net.pair = (if u.net.mirror = 7 then .synced else s.net.pair) ∧
        (f.kind = 0 → u.yrd.nodes = f.nodes.filter (fun p => p.1 < s.img.yarder.count) ∧ u.yrd.cycle = f.cycle) ∧
        (f.kind ≠ 0 → u.yrd = s.yrd) ∧
        (f.kind = 2 → u.tly.site = f.site ∧ u.tly.ivlSum = f.ivlSum ∧ u.tly.pCeil = f.pCeil ∧ u.net.mirRecs = f.recs) ∧
        (f.kind ≠ 2 → u.tly = s.tly ∧ u.net.mirRecs = s.net.mirRecs)) ∧
    (∀ v : DiscView, ∀ w : State, w = { s with net := { s.net with boom0 := false, boom1 := false } } → exec (.discoveryFrameRx v) w = .next w)

/-- R220, R222 to R227, R229, R232, R236: a sample, on an awake part. While the filters fill nothing is measured; afterwards, once
metering runs, a metered bay whose voltage and current paths are whole adds 125 times its power at the connector to the tick, one with a
lost path adds nothing and counts the gap; before metering runs no energy is added; a bay that does not meter keeps its values. Afterwards
each bay is supervised. Neither registers nor settings change. A current whose low range has stood below the threshold for 1,600 samples,
its range not locked, goes to LOW, and else stays. In reset or IDLE-SITE neither does anything. -/
def Obligations.SamplesFeedTheTick : Prop :=
  ∀ (s : State) (codes : List BayCodes),
    (s.awake = false → exec (.scalerSample codes) s = .next s ∧ ∀ n, exec (.rangeToLow n) s = .next s) ∧
    (s.awake = true → s.scl.fill < 16 → exec (.scalerSample codes) s =
      .next { s with scl := { s.scl with fill := s.scl.fill + 1, run := decide (16 ≤ s.scl.fill + 1) } }) ∧
    (s.awake = true → 16 ≤ s.scl.fill → ∃ u : State, exec (.scalerSample codes) s =
        .next (((List.range 8).foldl (fun (a : State) n => a.supervise n) u).settle) ∧
      (∀ n, n < 8 → s.meters n = true →
        let x := sampleOf (s.cMeter n) (s.calOf n) (s.mbay n) (codes.getD n {})
        (u.mbay n).tickN = (s.mbay n).tickN + 1 ∧ (u.mbay n).tickV = (s.mbay n).tickV + x.v ∧ (u.mbay n).low = x.low ∧
        (s.scl.metered = true →
          (u.mbay n).eSum = (s.mbay n).eSum + (if sampleValid (s.mbay n) then 125 * powerNum x.v x.i (s.calOf n).rCable else 0) ∧
          (u.mbay n).tickGap = (s.mbay n).tickGap + (if sampleValid (s.mbay n) then 0 else 1)) ∧
        (s.scl.metered = false → (u.mbay n).eSum = (s.mbay n).eSum ∧ (u.mbay n).fillN = (s.mbay n).fillN + 1)) ∧
      (∀ n, s.meters n = false → u.mbay n = s.mbay n) ∧
      u.tly.regs = s.tly.regs ∧ u.tly.recs = s.tly.recs ∧ u.tly.readings = s.tly.readings ∧ u.cfg = s.cfg ∧ u.img = s.img ∧ u.vlk = s.vlk ∧ u.chk = s.chk ∧ u.permits = s.permits) ∧
    (∀ n, s.awake = true → exec (.rangeToLow n) s =
      .next (if s.meters n = true ∧ (s.mbay n).low = false ∧ 1600 ≤ (s.mbay n).lowCnt ∧ lockedHigh (s.mbay n) = false then
        s.setMbay n { s.mbay n with low := true, lowCnt := 0, rangeSw := (s.mbay n).rangeSw + 1 } else s))

/-- R229 to R231, R313, R314: the checks on the measuring path of an enabled bay, on an awake part. A lost channel that METROMAP enables
is noted, and MV, MIH or MIL puts the bay into MFAULT with cause 1 unless it stands in one already, out of service at once or, with a
session, once that has ended; the loss of MIL locks the range to HIGH; the loss of ME is an earth-current trip with a contactor closed and
else a measuring fault. A restored channel is noted, and MFAULT stays. A full cross-check window that a sample kept from counting ends
without a verdict, a good one starts the count of bad ones anew, and the third bad one in a row is the range fault, cause 2, with the
range locked to HIGH; a window that is not full is not judged. A missed deadline puts every enabled bay into MFAULT with cause 3, stops
its alarm line and counts a gap. Where one bay is checked the others keep their values. -/
def Obligations.MeteringChecksAct : Prop :=
  ∀ (s : State) (n : Nat), s.awake = true → n < 8 → (s.cBay n).enabled = true →
    (∀ ch, chanOn (s.cMeter n) ch = false → exec (.channelLost n ch) s = .next s ∧ exec (.channelRestored n ch) s = .next s) ∧
    (∀ ch, chanOn (s.cMeter n) ch = true → ch ≠ .me → ∃ u : State,
      exec (.channelLost n ch) s = .next ((if ch = .mil then u else u.pathOpens n).settle) ∧
      (u.mbay n).lossV = ((s.mbay n).lossV || decide (ch = .mv)) ∧ (u.mbay n).lossIh = ((s.mbay n).lossIh || decide (ch = .mih)) ∧
      (u.mbay n).lossIl = ((s.mbay n).lossIl || decide (ch = .mil)) ∧ (ch = .mil → (u.mbay n).low = false ∧ (u.mbay n).lockHigh = true) ∧
      (u.mbay n).mfault = true ∧ (∀ m, m ≠ n → u.mbay m = s.mbay m) ∧
      ((s.mbay n).mfault = true → (u.mbay n).mfCause = (s.mbay n).mfCause) ∧
      ((s.mbay n).mfault = false → (u.mbay n).mfCause = 1 ∧ u.evtSet 0x07 n ∧
        ((s.ctx n).st = .free → (u.bay n).inService = false) ∧ ((s.ctx n).st ≠ .free → (u.bay n).outAtFree = true))) ∧
    ((s.cMeter n).meEn = true → ∃ u : State, exec (.channelLost n .me) s = .next u.settle ∧ (u.mbay n).lossE = true ∧
      (s.kOn n = true → (u.imdB n).efAlarm = true ∧ ((s.imdB n).efAlarm = false → (u.imdB n).lineHeld = true ∧ u.evtSet 0x0A n)) ∧
      (s.kOn n = false → (u.imdB n).measFault = true ∧ ((s.imdB n).measFault = false → (u.imdB n).cause = .menLost ∧ u.evtSet 0x0A (16 + n)))) ∧
    ((s.cMeter n).mvEn = true → exec (.channelRestored n .mv) s = .next (s.setMbay n { s.mbay n with lossV := false })) ∧
    ((s.cMeter n).mihEn = true → exec (.channelRestored n .mih) s = .next (s.setMbay n { s.mbay n with lossIh := false })) ∧
    ((s.cMeter n).milEn = true → exec (.channelRestored n .mil) s = .next (s.setMbay n { s.mbay n with lossIl := false })) ∧
    ((s.cMeter n).meEn = true → ∃ u : State, exec (.channelRestored n .me) s = .next u.settle ∧ (u.mbay n).lossE = false ∧
      ((s.imdB n).cause = .menLost → (u.imdB n).measFault = false ∧ (u.imdB n).cause = .none) ∧
      ((s.imdB n).cause ≠ .menLost → u.imdB n = s.imdB n)) ∧
    ((s.meters n = false ∨ (s.mbay n).xchkN ≠ 16000) → exec (.xchkWindow n) s = .next s) ∧
    (s.meters n = true → (s.mbay n).xchkN = 16000 →
      ((s.mbay n).xchkVoid = true → exec (.xchkWindow n) s = .next (s.setMbay n { s.mbay n with
        xchkN := 0, xchkHi := 0, xchkLo := 0, xchkVoid := false })) ∧
      ((s.mbay n).xchkVoid = false →
        (xchkBad (s.cMeter n).fsIh (s.mbay n).xchkHi (s.mbay n).xchkLo = false → exec (.xchkWindow n) s = .next (s.setMbay n { s.mbay n with
          xchkN := 0, xchkHi := 0, xchkLo := 0, xchkVoid := false, xchkRun := 0 })) ∧
        (xchkBad (s.cMeter n).fsIh (s.mbay n).xchkHi (s.mbay n).xchkLo = true →
          ((s.mbay n).xchkRun < 2 → exec (.xchkWindow n) s = .next (s.setMbay n { s.mbay n with
            xchkN := 0, xchkHi := 0, xchkLo := 0, xchkVoid := false, xchkRun := (s.mbay n).xchkRun + 1 })) ∧
          (2 ≤ (s.mbay n).xchkRun → ∃ u : State, exec (.xchkWindow n) s = .next u.settle ∧ (u.mbay n).xchkFail = true ∧ (u.mbay n).low = false ∧
            (u.mbay n).lockHigh = true ∧ (u.mbay n).mfault = true ∧ ((s.mbay n).mfault = false → (u.mbay n).mfCause = 2) ∧
            (∀ m, m ≠ n → u.mbay m = s.mbay m))))) ∧
    (∃ u : State, exec .dspDeadline s = .next u.settle ∧
      ∀ m, m < 8 → (s.cBay m).enabled = true → (u.mbay m).mfault = true ∧ (u.imdB m).lineHeld = true ∧
        ((s.mbay m).mfault = false → (u.mbay m).mfCause = 3) ∧
        (s.scl.metered = true → (u.mbay m).tickGap = (s.mbay m).tickGap + 1 ∧ (u.mbay m).tickN = (s.mbay m).tickN + 1))

/-- R224, R237, R238, R250, R276, R280, R312: a tick. The time base stands at the next boundary of 10 ms, in every power state. While the
part is awake and Tally runs, what a metered bay's samples come to reaches its register of the tariff in force to the microjoule, the part
below 1 mWh carried, the registers of the other tariffs stay, the commit stands at the present time, and 20 s after the last checkpoint a
new one is written; then limits on energy, earth-current times and panel temperatures are brought up to date. A slot goes into the journal
under the next number and overwrites no other. In IDLE-SITE, and while Tally does not run, only what passes with time goes on. -/
def Obligations.TickCommitsEnergy : Prop :=
  ∀ s : State,
    (s.sys.inReset = true → exec .tickCommit s = .next s) ∧
    (s.passTick.tim = { s.nextBoundary.tim with holdLimit := s.passTick.tim.holdLimit } ∧ s.passTick.tim.ns % 10000000 = 0 ∧
      s.passTick.tly = s.tly ∧ s.passTick.scl = s.scl ∧ s.passTick.permits = s.permits ∧
      (s.tim.ns < 1000000000 → s.passTick.tim.ns < 1000000000 ∧
        (s.tim.sec * 1000000000 + s.tim.ns) / 10000000 + 1 = (s.passTick.tim.sec * 1000000000 + s.passTick.tim.ns) / 10000000)) ∧
    (s.sys.inReset = false → ¬(s.awake = true ∧ s.tly.running = true) → exec .tickCommit s = .next s.passTick) ∧
    (s.awake = true → s.tly.running = true → ∃ u : State,
      exec .tickCommit s = .next (((List.range 8).foldl (fun (a : State) n => a.efTick n) u.energyLimits).panelTemps).settle ∧
      u.tim = s.passTick.tim ∧ u.tly.lastCommit = u.now ∧ u.tly.dirty = false ∧
      (s.tly.lastCheckpoint + 20 ≤ u.tim.sec → u.tly.checkpoint = u.tly.slotSeq ∧ u.tly.ckptSched = u.tly.sched) ∧
      (∀ n, n < 8 → s.meters n = true → s.scl.metered = true → s.tly.tariff < 8 → let o := (closeTick s.img.metro.iStart (s.mbay n)).1
        let reg (v : State) (d : Nat) : Nat := 3600000 * tget 0 v.tly.regs (regKey n d s.tly.tariff) + tget 0 v.tly.rems (2 * n + d)
        reg u 0 = reg s 0 + o.imp ∧ reg u 1 = reg s 1 + o.exp ∧ tget 0 u.tly.rems (2 * n) < 3600000 ∧ tget 0 u.tly.rems (2 * n + 1) < 3600000) ∧
      (∀ n d t, n < 8 → d < 2 → t < 8 → t ≠ s.tly.tariff → s.tly.tariff < 8 → tget 0 u.tly.regs (regKey n d t) = tget 0 s.tly.regs (regKey n d t)) ∧
      u.cfg = s.cfg ∧ u.img = s.img ∧ u.vlk = s.passTick.vlk ∧ u.saf = s.passTick.saf ∧ u.chk = s.chk ∧ u.permits = s.permits ∧ u.mem = s.mem) ∧
    (∀ j : JSlot, let u := s.slotWrite j
      u.tly.slotSeq = (s.tly.slotSeq + 1) % 2 ^ 32 ∧
      tget {} u.tly.journal (u.tly.slotSeq % 4096) = { j with seq := u.tly.slotSeq, ver := s.fmtVer 0x20 } ∧
      (∀ k, k ≠ u.tly.slotSeq % 4096 → tget {} u.tly.journal k = tget {} s.tly.journal k))

/-- R237, R238, R242, R243: what is handed on is neither lost nor made up. A tick that does not creep hands over the whole microjoules of
its sum and keeps the remainder; one that creeps hands over none. A pulse output turns energy into backlog without loss, and emits no more
pulses in a tick than its rate allows. -/
def Obligations.HandedOnEnergyIsConserved : Prop :=
  (∀ (i : Nat) (b : MBay), creeps i b = false → let r := closeTick i b
    b.eSum = ((r.1.imp : Int) - (r.1.exp : Int)) * uJden + r.2.eSum ∧ r.2.eSum.natAbs < uJden ∧ (r.1.imp = 0 ∨ r.1.exp = 0)) ∧
  (∀ (i : Nat) (b : MBay), creeps i b = true → (closeTick i b).1.imp = 0 ∧ (closeTick i b).1.exp = 0 ∧ (closeTick i b).2.eSum = 0) ∧
  (∀ (c : PulseCfg) (p : Pulse) (e : Nat), p.backlog ≤ 0xFFFFFFFF → let q := feed c p e
    q.acc + kWh * q.backlog = p.acc + kWh * p.backlog + e * c.const ∧ q.backlog ≤ 0xFFFFFFFF ∧ (q.acc < kWh ∨ q.backlog = 0xFFFFFFFF)) ∧
  (∀ p : Pulse, let q := emit p
    p.backlog - q.backlog ≤ (if p.test then 200 else 4) ∧ q.acc = p.acc ∧ q.backlog ≤ p.backlog ∧ q.emitted = p.emitted + BitVec.ofNat 32 (p.backlog - q.backlog))

/-- R15, R231 to R233, R235, R245 to R247: the SCL commands, each with its outcomes, and the pulse test mode. On a hub they complete with
STATE, for a bay that is not enabled with RANGE. Calibration is read as it stands; it is written in MANUFACTURE, or in SERVICE under a
message that names bay and values, to a bay without a session while the values are in range and the legal log has room, with its entry; a
measuring fault is cleared, with its entry, once every check has been clear for 1 s and no session runs; a capture writes 12,288 octets to
its destination. -/
def Obligations.ScalerCommandsComplete : Prop :=
  ∀ (s : State) (c : Cmd) (n : Nat),
    (∀ e, (s.noBays = true ∧ e = Status.state) ∨ (s.noBays = false ∧ (8 ≤ n ∨ (s.cBay n).enabled = false) ∧ e = Status.range) →
      (s.ready c 0x0701 → exec (.sclCalRead c n) s = .next (s.failAs c 0x0701 e)) ∧
      (∀ m v, s.ready c 0x0702 → exec (.sclCalWrite c n m v) s = .next (s.failAs c 0x0702 e)) ∧
      (∀ ms, s.ready c 0x0703 → exec (.sclFaultClear c n ms) s = .next (s.failAs c 0x0703 e)) ∧
      (∀ dst codes, s.ready c 0x0704 → exec (.sclCapture c n dst codes) s = .next (s.failAs c 0x0704 e))) ∧
    (s.noBays = false → n < 8 → (s.cBay n).enabled = true →
      (s.ready c 0x0701 → exec (.sclCalRead c n) s = .next (s.okAs c 0x0701
        (leInt 4 (s.calOf n).gainV ++ leInt 4 (s.calOf n).offV ++ leInt 4 (s.calOf n).gainIh ++ leInt 4 (s.calOf n).offIh ++
          leInt 4 (s.calOf n).gainIl ++ leInt 4 (s.calOf n).offIl ++ leInt 4 (s.calOf n).gainE ++ leInt 4 (s.calOf n).offE ++
          le 4 (s.calOf n).rCable ++ le 2 s.scl.calCnt) id)) ∧
      (∀ m v, s.ready c 0x0702 → s.key.lc ≠ .manufacture → s.key.lc ≠ .service → exec (.sclCalWrite c n m v) s = .next (s.failAs c 0x0702 .locked)) ∧
      (∀ m v e, s.ready c 0x0702 → s.key.lc = .service → (s.checkMsg m [17] [.service] = some e ∨
          (s.checkMsg m [17] [.service] = none ∧ (m.num ≠ n ∨ m.digest ≠ v.digest) ∧ e = .auth)) →
        exec (.sclCalWrite c n m v) s = .next (s.doneAs c 0x0702 e 0 [] (fun u => u.setEvt 0x11 1))) ∧
      (∀ m v, s.ready c 0x0702 → (s.key.lc = .manufacture ∨
          (s.key.lc = .service ∧ s.checkMsg m [17] [.service] = none ∧ m.num = n ∧ m.digest = v.digest)) →
        (s.bayBusy n = true → exec (.sclCalWrite c n m v) s = .next (s.failAs c 0x0702 .state)) ∧
        (s.bayBusy n = false → calValid v = false → exec (.sclCalWrite c n m v) s = .next (s.failAs c 0x0702 .range)) ∧
        (s.bayBusy n = false → calValid v = true → s.changeFull = true → exec (.sclCalWrite c n m v) s =
          .next (s.doneAs c 0x0702 .logfull 0 [] (fun u => u.setEvt 0x09 5))) ∧
        (s.bayBusy n = false → calValid v = true → s.changeFull = false → exec (.sclCalWrite c n m v) s =
          .next (s.okAs c 0x0702 [] (fun u => if s.key.lc = .manufacture then u.calTake n v else (u.storeCtr m).calTake n v)))) ∧
      (∀ v, ∃ u : State, s.calTake n v = u ∧ u.calOf n = v ∧ u.scl.calOk.getLsbD n = true ∧ u.scl.calCnt = satTo 65535 (s.scl.calCnt + 1) ∧
        u.blz.last = s.blz.last + 1 ∧ (u.legalAt u.blz.last).kind = 3 ∧ u.tly = s.tly ∧ u.vlk = s.vlk ∧ u.cfg = s.cfg ∧ u.mem = s.mem) ∧
      (∀ ms, s.ready c 0x0703 → s.key.lc ≠ .field → s.key.lc ≠ .service → exec (.sclFaultClear c n ms) s = .next (s.failAs c 0x0703 .locked)) ∧
      (∀ ms, s.ready c 0x0703 → (s.key.lc = .field ∨ s.key.lc = .service) → ((s.mbay n).mfault = false ∨ (s.mbay n).lossV = true ∨
          (s.mbay n).lossIh = true ∨ (s.mbay n).lossIl = true ∨ (s.mbay n).lossE = true ∨ s.scl.calOk.getLsbD n = false ∨ ms < 1000 ∨ s.bayBusy n = true) →
        exec (.sclFaultClear c n ms) s = .next (s.failAs c 0x0703 .state)) ∧
      (∀ ms, s.ready c 0x0703 → (s.key.lc = .field ∨ s.key.lc = .service) → (s.mbay n).mfault = true → (s.mbay n).lossV = false →
        (s.mbay n).lossIh = false → (s.mbay n).lossIl = false → (s.mbay n).lossE = false → s.scl.calOk.getLsbD n = true → 1000 ≤ ms →
        s.bayBusy n = false →
        (s.changeFull = true → exec (.sclFaultClear c n ms) s = .next (s.doneAs c 0x0703 .logfull 0 [] (fun u => u.setEvt 0x09 5))) ∧
        (s.changeFull = false → ∃ f : State → State, exec (.sclFaultClear c n ms) s = .next (s.okAs c 0x0703 [] f) ∧
          let u := s.startNext (queueOf 7 c.side)
          ((f u).mbay n).mfault = false ∧ ((f u).mbay n).mfCause = 0 ∧ ((f u).mbay n).xchkFail = false ∧ ((f u).mbay n).lockHigh = false ∧
          (∀ m, m ≠ n → (f u).mbay m = u.mbay m) ∧ (f u).blz.last = u.blz.last + 1 ∧ (f u).tly = u.tly ∧ (f u).vlk = u.vlk)) ∧
      (∀ dst codes, s.ready c 0x0704 → exec (.sclCapture c n dst codes) s =
        .next (if dstOk dst 12288 = true then s.okAs c 0x0704 (le 8 s.now.pack) (fun u =>
          u.writeGen dst (padTo 12288 (captureBytes (s.cMeter n) (s.calOf n) (codes.take 1024)))) else s.failAs c 0x0704 .range))) ∧
    (∀ (v : Word), exec (.pulseTestWrite n v) s = .next (if s.sys.inReset = false ∧ n < 4 ∧ s.key.lc = .service then
      s.setPulse n { s.pulse n with testDue := some (v.getLsbD 22) } else s))

/-- R252 to R255: the tariff mode and the authority's messages. On an awake part a lease that has ended makes RECOVERY due in REMOTE, and
so does START that has lasted while nothing else is due; else neither does anything. A message meets the checks of R254 in their order,
the life-cycle states first (assumption 49); one that fails completes with that check's status and sets only MSG_REJ's bit; one that
passes stores its counter and lease, joins the queue unless it is kind 2, behind what takes effect before it or with it under a lower
`CTR`, makes REMOTE due where a remote tariff is known, and is noted for the journal; registers, mode and tariff stand. -/
def Obligations.TariffModesAndMessages : Prop :=
  ∀ (s : State) (c : Cmd),
    (exec .leaseExpiry s = .next (if s.awake = true ∧ s.tly.mode = .remote ∧ s.tly.sched.lease ≤ s.tim.sec
      then { s with tly := { s.tly with modeDue := some .recovery } } else s)) ∧
    (exec .startModeTimeout s = .next (if s.awake = true ∧ s.tly.mode = .start ∧ s.tly.modeDue = none
      then { s with tly := { s.tly with modeDue := some .recovery } } else s)) ∧
    (∀ m e, s.ready c 0x0801 → s.tlyCheck m = some e → exec (.tlyMsg c m) s = .next (s.doneAs c 0x0801 e 0 [] (fun u => u.setEvt 0x08 8))) ∧
    (∀ m, s.key.lc = .service → s.tlyCheck m = some .state) ∧
    (∀ m, s.key.lc ≠ .service → s.key.lc ≠ .field → s.tlyCheck m = some .locked) ∧
    (∀ m, s.key.lc = .field →
      (m.ver ≠ 1 → s.tlyCheck m = some .version) ∧
      (m.ver = 1 → (m.devId ≠ s.key.devId ∨ s.authKeyOk = false ∨ m.signer ≠ (s.slot s.img.cal.authSlot).key ∨ m.ctr ≤ s.tly.sched.ctr) →
        s.tlyCheck m = some .auth) ∧
      (m.ver = 1 → m.devId = s.key.devId → s.authKeyOk = true → m.signer = (s.slot s.img.cal.authSlot).key → s.tly.sched.ctr < m.ctr →
        let lease : Prop := s.tim.sec < m.leaseEnd ∧ m.leaseEnd ≤ s.tim.sec + 31 * 86400
        let change : Prop := m.kind = 1 ∧ 1 ≤ m.tariff ∧ m.tariff ≤ 8 ∧ m.effective ≤ s.tim.sec + 400 * 86400 ∧ s.tly.sched.lastEff ≤ m.effective
        let close : Prop := m.kind = 3 ∧ s.tim.sec < m.effective ∧ ((m.effective : Int) - s.tim.utcOff - 946684800) % 900 = 0
        (¬ (lease ∧ (change ∨ m.kind = 2 ∨ close)) → s.tlyCheck m = some .range) ∧
        (lease → (change ∨ close) → s.tlyCheck m = if s.tly.sched.queue.length < 16 then none else some .nospace) ∧
        (lease → m.kind = 2 → s.tlyCheck m = if s.tly.sched.remote.isSome then none else some .state))) ∧
    (∀ m, s.ready c 0x0801 → s.tlyCheck m = none → exec (.tlyMsg c m) s =
      .next (s.okAs c 0x0801 (le 1 m.kind ++ le 8 m.ctr) (fun u => u.tlyTake m))) ∧
    (∀ m, let u := s.tlyTake m
      u.tly.sched.ctr = m.ctr ∧ u.tly.sched.lease = m.leaseEnd ∧ u.tly.toJournal = s.tly.toJournal ++ [{ ev := 1, msg := some m }] ∧
      (m.kind = 2 → u.tly.sched.queue = s.tly.sched.queue) ∧
      (m.kind ≠ 2 → ∃ l r, s.tly.sched.queue = l ++ r ∧ u.tly.sched.queue = l ++ m :: r ∧
        (∀ x ∈ l, x.effective < m.effective ∨ (x.effective = m.effective ∧ x.ctr < m.ctr)) ∧
        (∀ x, r.head? = some x → m.effective < x.effective ∨ (x.effective = m.effective ∧ m.ctr ≤ x.ctr))) ∧
      (s.tly.mode ≠ .remote → u.tly.modeDue = if s.tly.sched.remote.isSome then some .remote else s.tly.modeDue) ∧
      (s.tly.mode = .remote → u.tly.modeDue = none) ∧
      u.tly.sched.remote = s.tly.sched.remote ∧ u.tly.regs = s.tly.regs ∧ u.tly.mode = s.tly.mode ∧ u.tly.tariff = s.tly.tariff ∧
      u = { s with tly := u.tly })

/-- R260, R263, R264, R267 to R273, R285: the TLY commands and each of their failures: a record held under its number with its state;
records acknowledged, none of them where one is OPEN or a number is not held, the detail counting those newly acknowledged; the register
snapshot; a signed reading, which takes one `RSEQ` and carries the bay's registers as they stand; entries of a channel from a number on,
the numbers serial, and readings from an `RSEQ` on; the site ceiling from the next interval on; the maximum demands. A list outside
General or not on 64 bytes is RANGE; a site command, and the site's reading, on a post is STATE; a METRO key that cannot sign is LOCKED.
-/
def Obligations.TallyCommandsComplete : Prop :=
  ∀ (s : State) (c : Cmd),
    (∀ no dst, s.ready c 0x0802 →
      (∀ n, s.recOf no = some n → dstOk dst 256 = true → exec (.tlyRecRead c no dst) s =
        .next (s.okAs c 0x0802 (le 1 (s.rcd n).st.ctorIdx) (fun u => u.writeGen dst ((s.rcd n).bytes s.key.devId)))) ∧
      ((s.recOf no = none ∨ dstOk dst 256 = false) → exec (.tlyRecRead c no dst) s = .next (s.failAs c 0x0802 .range))) ∧
    (∀ no k, s.ready c 0x0803 →
      ((k = 0 ∨ 256 < k ∨ ∃ i, i < k ∧ s.recOf (no + i) = none) → exec (.tlyRecAck c no k) s = .next (s.failAs c 0x0803 .range)) ∧
      (1 ≤ k → k ≤ 256 → (∀ i, i < k → (s.recOf (no + i)).isSome = true) →
        ((∃ i n, i < k ∧ s.recOf (no + i) = some n ∧ (s.rcd n).st = .opened) → exec (.tlyRecAck c no k) s = .next (s.failAs c 0x0803 .state)) ∧
        ((∀ i n, i < k → s.recOf (no + i) = some n → (s.rcd n).st ≠ .opened) → ∃ f : State → State,
          exec (.tlyRecAck c no k) s = .next (s.doneAs c 0x0803 .ok
            ((List.range k).filter (fun i => ((s.recOf (no + i)).map (fun n => (s.rcd n).st)) = some .closed)).length [] f) ∧
          ∀ u : State, u.tly = s.tly →
            (∀ n, (f u).rcd n = if (s.rcd n).st = .closed ∧ (∃ i, i < k ∧ s.recOf (no + i) = some n) then { s.rcd n with st := .acked } else s.rcd n) ∧
            (f u).tly.regs = s.tly.regs ∧ (f u).tly.readings = s.tly.readings ∧ (f u).tly.recNext = s.tly.recNext ∧
            f u = { u with tly := (f u).tly }))) ∧
    (∀ dst, s.ready c 0x0804 →
      (dstOk dst 1152 = true → exec (.tlyRegSnapshot c dst) s =
        .next (s.okAs c 0x0804 (le 4 s.tly.slotSeq ++ le 8 s.tly.lastCommit.pack) (fun u => u.writeGen dst s.regSnapshot))) ∧
      (dstOk dst 1152 = false → exec (.tlyRegSnapshot c dst) s = .next (s.failAs c 0x0804 .range))) ∧
    (∀ bay dst, s.ready c 0x0805 →
      (bay = 0xFE → s.img.struct_.role = .post → exec (.tlyReadSigned c bay dst) s = .next (s.failAs c 0x0805 .state)) ∧
      (dstOk dst 256 = false → (bay ≠ 0xFE ∨ s.img.struct_.role ≠ .post) → exec (.tlyReadSigned c bay dst) s = .next (s.failAs c 0x0805 .range)) ∧
      (bay ≠ 0xFE → (8 ≤ bay ∨ (s.cBay bay).enabled = false) → exec (.tlyReadSigned c bay dst) s = .next (s.failAs c 0x0805 .range)) ∧
      (dstOk dst 256 = true → ((bay = 0xFE ∧ s.img.struct_.role ≠ .post) ∨ (bay < 8 ∧ (s.cBay bay).enabled = true)) →
        (s.metroSigns = false → exec (.tlyReadSigned c bay dst) s = .next (s.failAs c 0x0805 .locked)) ∧
        (s.metroSigns = true → exec (.tlyReadSigned c bay dst) s = .next (s.okAs c 0x0805 [] (fun u =>
          (u.reading 3 bay {} 0).2.writeGen dst ((u.reading 3 bay {} 0).1.bytes u.key.devId)))))) ∧
    (∀ kind bay ref fl, let r := (s.reading kind bay ref fl).1
      r.kind = kind ∧ r.rseq = s.tly.rseq ∧ (s.reading kind bay ref fl).2.tly.rseq = s.tly.rseq + 1 ∧ r.time = s.now ∧ r.tariff = s.tly.tariff ∧
      (∀ t, t < 8 → bay ≠ 0xFE → tget 0 r.imp t = tget 0 s.tly.regs (regKey bay 0 t) ∧ tget 0 r.exp t = tget 0 s.tly.regs (regKey bay 1 t)) ∧
      (∀ t, t < 8 → bay = 0xFE → tget 0 r.imp t = tget 0 s.tly.site t ∧ tget 0 r.exp t = tget 0 s.tly.site (8 + t)) ∧
      (r.sig.isNone = true ↔ s.metroSigns = false) ∧ (r.sig.isNone = true → r.flags.getLsbD 14 = true)) ∧
    (∀ ch start n dst, s.ready c 0x0806 →
      let serial (p : Nat × Entry) : Bool := decide (p.2.chan = ch) && decide ((p.2.seq + 2 ^ 32 - start) % 2 ^ 32 < 2 ^ 31)
      let l := (((s.tly.stored.filter (fun p => serial p && decide (entryKey ch start ≤ p.1))) ++
        (s.tly.stored.filter (fun p => serial p && decide (p.1 < entryKey ch start)))).take n).map (fun p => p.2)
      ((16 ≤ ch ∨ (s.source ch).1 = 0 ∨ n = 0 ∨ 4096 < n ∨ dstOk dst (24 * n) = false ∨ l = []) →
        exec (.tlyProfileRead c ch start n dst) s = .next (s.failAs c 0x0806 .range)) ∧
      (ch < 16 → (s.source ch).1 ≠ 0 → 1 ≤ n → n ≤ 4096 → dstOk dst (24 * n) = true → ∀ e r, l = e :: r →
        exec (.tlyProfileRead c ch start n dst) s = .next (s.okAs c 0x0806 (le 2 l.length ++ le 4 e.seq)
          (fun u => u.writeGen dst (l.foldl (fun a e => a ++ e.bytes) []))))) ∧
    (∀ start n dst, s.ready c 0x0807 →
      let l := ((s.tly.readings.filter (fun p => decide (start ≤ p.1))).take n).map (fun p => p.2)
      ((n = 0 ∨ 64 < n ∨ dstOk dst (256 * n) = false ∨ l = []) → exec (.tlySrRead c start n dst) s = .next (s.failAs c 0x0807 .range)) ∧
      (1 ≤ n → n ≤ 64 → dstOk dst (256 * n) = true → l ≠ [] → exec (.tlySrRead c start n dst) s = .next (s.okAs c 0x0807 (le 2 l.length)
        (fun u => u.writeGen dst (l.foldl (fun a r => a ++ r.bytes s.key.devId) []))))) ∧
    (∀ w : Word, s.ready c 0x0808 → exec (.tlyCeilSet c w) s = .next (if s.img.struct_.role = .post then s.failAs c 0x0808 .state
      else s.okAs c 0x0808 [] (fun u => { u with tly := { u.tly with pNext := some w.toNat } }))) ∧
    (s.ready c 0x0809 → exec (.tlyMdRead c) s = .next (if s.img.struct_.role = .post then s.failAs c 0x0809 .state
      else s.okAs c 0x0809 (le 2 s.tly.period ++ (List.range 8).foldl (fun l t => l ++ le 4 (tget (0, 0) s.tly.md t).1) []) id))

/-- R286 to R300: tamper events and the legal log. Two samples that differ accept nothing. An accepted change of an enabled input's level
gets the next number and the first sample's time, is shown active or not, and one that became active stays in TAMPERED; at 64 pending
entries the newest overwrites the 64th and is counted. Outside a reset Blaze can wake the part by it; in a reset only Blaze's log and the
power state change. The transfer moves entries in order, leaves out those the legal log holds, enters a torn one and a lost AON domain as
gaps, and stops with LOG_FULL while the log is full. VBAT_LOW is held, and in BACKUP the clock becomes invalid. The BLZ commands with each
of their failures: clearing is for SERVICE and for enabled inputs that are not active; the release takes a statement of KIND 18 and its
entry stands in the space freed. -/
def Obligations.TamperLogActs : Prop :=
  ∀ (s : State) (c : Cmd),
    (∀ i a b bk, a ≠ b → exec (.tamperEvent i a b bk) s = .next s) ∧
    (∀ i h bk, s.sys.inReset = false → (4 ≤ i ∨ tget .disabled s.blz.modes i = .disabled ∨
      s.blz.active.getLsbD i = activeLevel (tget .disabled s.blz.modes i) h) → exec (.tamperEvent i h h bk) s = .next s) ∧
    (∀ i h bk, i < 4 → tget .disabled s.blz.modes i ≠ .disabled →
      s.blz.active.getLsbD i ≠ activeLevel (tget .disabled s.blz.modes i) h → let u := s.tamperEvent i h
        (s.sys.inReset = false → exec (.tamperEvent i h h bk) s = .next (if u.canWake 8 0 = true then u.wakeUp 8 0 else u)) ∧
        u.blz.active.getLsbD i = activeLevel (tget .disabled s.blz.modes i) h ∧
        (∀ j, j < 4 → j ≠ i → u.blz.active.getLsbD j = s.blz.active.getLsbD j ∧ u.blz.tampered.getLsbD j = s.blz.tampered.getLsbD j) ∧
        (u.blz.tampered.getLsbD i = (s.blz.tampered.getLsbD i || activeLevel (tget .disabled s.blz.modes i) h)) ∧
        u.blz.aseq = (s.blz.aseq + 1) % 65536 ∧ u.evtSet 0x09 i ∧
        (∃ e, e.aseq = s.blz.aseq ∧ e.input = i ∧ e.became = activeLevel (tget .disabled s.blz.modes i) h ∧ e.timeInv = !s.tim.rtcValid ∧
          e.backup = decide (s.sys.pstate = .backup) ∧ e.time = s.firstSample ∧
          (s.blz.pendingT.length < 64 → u.blz.lost = s.blz.lost ∧ u.blz.pendingT = s.blz.pendingT ++ [e]) ∧
          (64 ≤ s.blz.pendingT.length → u.blz.lost = satTo 65535 (s.blz.lost + 1) ∧ u.blz.pendingT = s.blz.pendingT.take 63 ++ [e] ∧
            u.evtSet 0x09 6)) ∧
        u = { s.noting u with blz := u.blz }) ∧
    (∀ i h bk, s.sys.inReset = true → ∃ u : State, exec (.tamperEvent i h h bk) s = .next { u with blz := (u.tamperEvent i h).blz } ∧
      u = { s with sys := { s.sys with pstate := if bk then .backup else s.sys.pstate } }) ∧
    (∀ torn, s.awake = false → exec (.tamperTransfer torn) s = .next s) ∧
    (∀ torn, s.awake = true → s.eventFull = true → (s.blz.gapDue = true ∨ s.blz.pendingT ≠ []) → ∃ u : State,
      exec (.tamperTransfer torn) s = .next u ∧ u.blz = { s.blz with logHold := true } ∧ u.evtSet 0x09 5 ∧ u = { s.noting u with blz := u.blz }) ∧
    (∀ torn, s.awake = true → s.eventFull = false → s.blz.gapDue = true → ∃ u : State,
      exec (.tamperTransfer torn) s = .next (transferAll torn s.blz.pendingT 0 u) ∧ u.blz.gapDue = false ∧ u.blz.last = s.blz.last + 1 ∧
      (u.legalAt u.blz.last).kind = 2 ∧ (u.legalAt u.blz.last).body.take 1 = le 1 2 ∧ u.blz.pendingT = s.blz.pendingT ∧ u.tly = s.tly ∧ u.mem = s.mem) ∧
    (∀ torn, s.awake = true → s.blz.gapDue = false → exec (.tamperTransfer torn) s = .next (transferAll torn s.blz.pendingT 0 s)) ∧
    (∀ torn prev, transferAll torn [] prev s = { s with blz := { s.blz with lost := 0, gapBefore := none, logHold := false } }) ∧
    (∀ torn e r prev, s.eventFull = false → (s.blz.gapBefore ≠ some e.aseq ∨ s.blz.lost = 0) → ∃ u : State,
      transferAll torn (e :: r) prev s = transferAll torn r e.aseq u ∧ u.blz.pendingT = r ∧ u.tly = s.tly ∧ u.mem = s.mem ∧ u.saf = s.saf ∧
      (e.aseq ∈ torn → u.blz.last = s.blz.last + 1 ∧ (u.legalAt u.blz.last).kind = 2 ∧ (u.legalAt u.blz.last).body.take 1 = le 1 3) ∧
      (e.aseq ∉ torn → (∃ a, s.blz.lastTamper = some a ∧ serialAfter (BitVec.ofNat 16 e.aseq) (BitVec.ofNat 16 a) = false) →
        u.blz = { s.blz with pendingT := r }) ∧
      (e.aseq ∉ torn → (∀ a, s.blz.lastTamper = some a → serialAfter (BitVec.ofNat 16 e.aseq) (BitVec.ofNat 16 a) = true) →
        u.blz.last = s.blz.last + 1 ∧ u.blz.lastTamper = some e.aseq ∧ (u.legalAt u.blz.last).kind = 1 ∧ (u.legalAt u.blz.last).evTime = e.time ∧
        (u.legalAt u.blz.last).lseq = s.blz.last + 1)) ∧
    (∀ bk, s.sys.inReset = false → ∃ u : State, exec (.vbatLow bk) s = .next u ∧ u.blz = { s.blz with vbatLow := true } ∧
      (s.blz.vbatLow = false → u.evtSet 0x09 7) ∧ (s.blz.vbatLow = true → u = s) ∧ u = { s.noting u with blz := u.blz }) ∧
    (s.sys.inReset = true → exec (.vbatLow false) s = .next { s with blz := { s.blz with vbatLow := true } } ∧
      exec (.vbatLow true) s = .next { s with
        blz := { s.blz with vbatLow := true }, sys := { s.sys with pstate := .backup }, tim := { s.tim with rtcValid := false } }) ∧
    (∀ lo n dst, s.ready c 0x0901 →
      (1 ≤ n → n ≤ 256 → lo ≤ s.blz.last → dstOk dst (128 * n) = true → exec (.blzLogRead c lo n dst) s = .next (s.okAs c 0x0901
        (le 2 (s.legalFrom lo n).length ++ le 4 (match s.legalFrom lo n with | e :: _ => e.lseq | [] => lo))
        (fun u => u.writeGen dst ((s.legalFrom lo n).foldl (fun a e => a ++ e.bytes) [])))) ∧
      ((n = 0 ∨ 256 < n ∨ s.blz.last < lo ∨ dstOk dst (128 * n) = false) → exec (.blzLogRead c lo n dst) s = .next (s.failAs c 0x0901 .range))) ∧
    (∀ dst, s.ready c 0x0902 → exec (.blzTamperRead c dst) s = .next (if dstOk dst 1024 = true then s.okAs c 0x0902
      (le 1 s.blz.pendingT.length ++ le 2 s.blz.lost) (fun u => u.writeGen dst (padTo 1024 (s.blz.pendingT.foldl (fun a e => a ++ e.bytes) [])))
      else s.failAs c 0x0902 .range)) ∧
    (∀ m : BitVec 4, s.ready c 0x0903 →
      (s.key.lc ≠ .service → exec (.blzTamperClear c m) s = .next (s.failAs c 0x0903 .locked)) ∧
      (s.key.lc = .service → (m &&& ~~~ s.tamperOn ≠ 0 ∨ m &&& s.blz.active ≠ 0) → exec (.blzTamperClear c m) s = .next (s.failAs c 0x0903 .state)) ∧
      (s.key.lc = .service → m &&& ~~~ s.tamperOn = 0 → m &&& s.blz.active = 0 → s.changeFull = true →
        exec (.blzTamperClear c m) s = .next (s.doneAs c 0x0903 .logfull 0 [] (fun u => u.setEvt 0x09 5))) ∧
      (s.key.lc = .service → m &&& ~~~ s.tamperOn = 0 → m &&& s.blz.active = 0 → s.changeFull = false →
        exec (.blzTamperClear c m) s = .next (s.okAs c 0x0903 [] (fun u =>
          ({ u with blz := { u.blz with tampered := u.blz.tampered &&& ~~~ m } }).legalChange 8 (le 1 m.toNat))))) ∧
    (∀ m, s.ready c 0x0904 →
      (∀ e, s.checkMsg m [18] [.field, .service] = some e → exec (.blzLogRelease c m) s =
        .next (s.doneAs c 0x0904 e 0 [] (fun u => u.setEvt 0x11 1))) ∧
      (s.checkMsg m [18] [.field, .service] = none → (m.num ≤ s.blz.released ∨ s.blz.last < m.num) →
        exec (.blzLogRelease c m) s = .next (s.doneAs c 0x0904 .range 0 [] (fun u => u.setEvt 0x11 1))) ∧
      (s.checkMsg m [18] [.field, .service] = none → s.blz.released < m.num → m.num ≤ s.blz.last → ∃ f : State → State,
        exec (.blzLogRelease c m) s = .next (s.okAs c 0x0904 (le 4 m.num) f) ∧ ∀ u : State,
          (f u).blz.released = m.num ∧ (f u).blz.last = u.blz.last + 1 ∧ (f u).blz.logHold = false ∧ tget 0 (f u).key.authCtrs m.auth = m.ctr ∧
          ((f u).legalAt (f u).blz.last).kind = 9 ∧ (f u).evtSet 0x11 0 ∧ (f u).tly = u.tly ∧ (f u).vlk = u.vlk ∧ (f u).mem = u.mem))

/-- R301 to R316: the IMD of a bay. A bay that is off or follows takes no half-period of its own; else the driver turns over and the
settled current is kept. The first one after a start forms no value. A rejected one, within 50 times the residual, at ±2.0 mA or next to a
rejected one, counts, and three among four are a measuring fault. A valid one gives R_F, C_Y, τ and the next half-period; two at or below
a threshold raise the alarm and the warning, which clears above 1.2 times it after 2 s; C_Y beyond its limits is a measuring fault; in a
cable check that has settled two values within 10 % give the lower as result. In the reference check the second valid value within 5 %
passes, and one outside it, or four half-periods, fail it. Without a session a decision sets only its event bits. A driver that stands
still is a measuring fault with cause DRIVER and holds the line. Earth current with open contactors is a standing fault until it is at or
below the level; with closed ones it trips at once after `EF_DLY`, or two means above `EF_FAST`. Its warning stands after 1 s and clears
after 2 s. A held line is seen. The self-test and the trip test run on an idle enabled bay, and each failure has its status. -/
def Obligations.InsulationMonitorActs : Prop :=
  ∀ (s : State) (c : Cmd) (n : Nat),
    (∀ i r t o, (s.awake = false ∨ 8 ≤ n ∨ (s.imdB n).st = .off ∨ (s.imdB n).st = .following) → exec (.imdHalfPeriod n i r t o) s = .next s) ∧
    (∀ i r t o, s.awake = true → n < 8 → (s.imdB n).st ≠ .off → (s.imdB n).st ≠ .following → ∃ (x : ImdBay) (acts : List ImdAct),
      let b := s.imdB n
      let check := decide ((s.ctx n).st = .cableCheck) && (s.ctx n).refOk
      let d := (i - b.prevI.getD 0).natAbs
      let good := !(o || decide (d < 50 * r)) && !b.prevRej
      x.pos = !b.pos ∧ x.prevI = some i ∧
      exec (.imdHalfPeriod n i r t o) s = .next ((List.range 8).foldl (fun (a : State) m =>
        a.imdFollow m n (decide (b.st ≠ .refCheck) && b.prevI.isSome && good) acts) ((s.setImdB n x).imdActs n acts)).settle ∧
      (b.prevI = none → acts = [] ∧ x = { b with pos := !b.pos, prevI := some i, prevRej := o }) ∧
      (b.prevI.isSome = true → x.prevRej = (o || decide (d < 50 * r))) ∧
      (b.prevI.isSome = true → b.st ≠ .refCheck → good = false →
        let bad := decide (3 ≤ (((true :: b.last4).take 4).filter id).length) && !b.measFault
        x.rejects = b.rejects + 1 ∧ x.rF = b.rF ∧ x.valid = b.valid ∧ acts = (if bad then [.measFault] else []) ∧
        (bad = true → x.measFault = true ∧ x.cause = .rejections ∧ x.lineHeld = true)) ∧
      (b.prevI.isSome = true → b.st ≠ .refCheck → good = true →
        let rc := (s.cBay n).rCpl * 1000
        let v : Option Int := if d = 0 then none else some (divRound 40000000000 d - (rc : Int))
        let rf := (v.map reportOhm).getD 0xFFFFFFFF
        let cy := capNf t rc v
        let counts := !check || decide (100 ≤ b.settledMs)
        let nf := if counts ∧ rf ≤ s.faultOhm n then b.lowFault + 1 else 0
        let nw := if counts ∧ rf ≤ s.warnOhm n then b.lowWarn + 1 else 0
        let cl := if 12 * s.warnOhm n < 10 * rf then b.clearMs + 10 * b.tH else 0
        let out := counts && (decide (10 * (s.cBay n).cyMax < cy) || decide (cy < (s.cBay n).cyMin))
        x.valid = true ∧ x.rF = rf ∧ x.cY = cy ∧ x.tau = satTo 65535 t ∧ x.tH = max 5 (min 20 (divUp (3 * t) 200)) ∧
        (ImdAct.alarm ∈ acts ↔ 2 ≤ nf ∧ b.alarm = false) ∧ (x.alarm = true ↔ b.alarm = true ∨ 2 ≤ nf) ∧ (ImdAct.alarm ∈ acts → x.lineHeld = true) ∧
        (ImdAct.warn ∈ acts ↔ 2 ≤ nw ∧ b.warn = false) ∧ (x.warn = true ↔ (b.warn = true ∨ 2 ≤ nw) ∧ cl < 2000) ∧
        (ImdAct.measFault ∈ acts ↔ out = true ∧ b.measFault = false) ∧ (x.measFault = true ↔ b.measFault = true ∨ out = true) ∧
        (∀ w, ImdAct.result w ∈ acts ↔ check = true ∧ 100 ≤ b.settledMs ∧ (s.cBay n).cyMin ≤ cy ∧ cy ≤ 10 * (s.cBay n).cyMax ∧
          ∃ q, b.lastVal = some q ∧ w = min q rf ∧ 10 * (max q rf - min q rf) ≤ min q rf)) ∧
      (b.prevI.isSome = true → b.st = .refCheck →
        let v : Option Int := if d = 0 then none else some (divRound 40000000000 d)
        let pass := good && refOk v && b.lastVal.isSome
        let stop := !pass && ((good && !refOk v) || decide (4 ≤ b.refHalves + 1))
        (pass = true → acts = [.refPass] ∧ x.refFailed = false) ∧
        (stop = true → acts = [.measFault] ∧ x.refFailed = true ∧ x.measFault = true ∧ (b.measFault = false → x.cause = .ref)) ∧
        (pass = false → stop = false → acts = [] ∧ x.refFailed = b.refFailed))) ∧
    (∀ acts, n < 8 → (s.ctx n).st = .free → s.imdActs n acts = s.imdEvents n acts ∧ (.alarm ∈ acts → (s.imdEvents n acts).evtSet 0x0A n) ∧
      (.warn ∈ acts → (s.imdEvents n acts).evtSet 0x0A (8 + n)) ∧ (.measFault ∈ acts → (s.imdEvents n acts).evtSet 0x0A (16 + n)) ∧
      s.imdEvents n acts = s.noting (s.imdEvents n acts)) ∧
    ((s.awake = false ∨ 8 ≤ n ∨ (s.imdB n).st = .off ∨ (s.imdB n).st = .following ∨ (s.imdB n).measFault = true) →
      exec (.imdDriverStuck n) s = .next s) ∧
    (s.awake = true → n < 8 → (s.imdB n).st ≠ .off → (s.imdB n).st ≠ .following → (s.imdB n).measFault = false → ∃ x : ImdBay,
      exec (.imdDriverStuck n) s = .next ((List.range 8).foldl (fun (a : State) m => a.imdFollow m n false [.measFault])
        ((s.setImdB n x).imdActs n [.measFault])).settle ∧
      x = { s.imdB n with measFault := true, cause := .driver, lineHeld := true, alarms := satTo 65535 ((s.imdB n).alarms + 1),
                          st := if (s.imdB n).st = .refCheck then .refCheck else .held }) ∧
    (s.efOn n = false → exec (.earthCurrentTrip n) s = .next s ∧ exec (.efWarning n) s = .next s) ∧
    (s.efOn n = true → s.kOn n = false → exec (.efWarning n) s = .next s ∧
      (0 < (s.imdB n).efOverMs → (s.imdB n).measFault = false → ∃ u : State, exec (.earthCurrentTrip n) s = .next u ∧
        (u.imdB n).measFault = true ∧ (u.imdB n).cause = .standing ∧ u.evtSet 0x0A (16 + n) ∧ (∀ m, m ≠ n → u.imdB m = s.imdB m) ∧
        u = { s.noting u with imd := u.imd }) ∧
      (0 < (s.imdB n).efOverMs → (s.imdB n).measFault = true → exec (.earthCurrentTrip n) s = .next s) ∧
      ((s.imdB n).efOverMs = 0 → exec (.earthCurrentTrip n) s = .next (if (s.imdB n).cause = .standing then
        s.setImdB n { s.imdB n with measFault := false, cause := .none } else s))) ∧
    (s.efOn n = true → s.kOn n = true →
      let trip := (0 < (s.imdB n).efOverMs ∧ s.efDly n ≤ (s.imdB n).efOverMs) ∨ 2 ≤ (s.imdB n).efFastN
      (¬ trip → exec (.earthCurrentTrip n) s = .next s) ∧
      (trip → (s.imdB n).efAlarm = true → exec (.earthCurrentTrip n) s = .next s.settle) ∧
      (trip → (s.imdB n).efAlarm = false → ∃ u : State, exec (.earthCurrentTrip n) s = .next ((u.endBay n .earthCurrent true).settle) ∧
        (u.imdB n).efAlarm = true ∧ (u.imdB n).lineHeld = true ∧ u.evtSet 0x0A n ∧ (∀ m, m ≠ n → u.imdB m = s.imdB m) ∧
        u = { s.noting u with imd := u.imd })) ∧
    (s.efOn n = true → s.kOn n = true →
      (1000 ≤ (s.imdB n).efHighMs → (s.imdB n).efWarn = false → ∃ u : State, (u.imdB n).efWarn = true ∧ u.evtSet 0x0A (8 + n) ∧
        (∀ m, m ≠ n → u.imdB m = s.imdB m) ∧ u = { s.noting u with imd := u.imd } ∧
        exec (.efWarning n) s = .next (if s.localCtx n = true ∧ underVoltage (s.ctx n).st = true then u.sessEvent n 5 else u)) ∧
      (((s.imdB n).efHighMs < 1000 ∨ (s.imdB n).efWarn = true) → exec (.efWarning n) s =
        .next (if 2000 ≤ (s.imdB n).efLowMs then s.setImdB n { s.imdB n with efWarn := false } else s))) ∧
    (exec (.alarmLineTimeout n) s = .next (if s.sys.inReset = false ∧ n < 8 ∧ (s.imdB n).lineHeld = true ∧ (s.imdB n).lineSeen = false
      then (s.setImdB n { s.imdB n with lineSeen := true }).settle else s)) ∧
    (∀ r1 r2 : Nat, s.ready c 0x0A01 →
      (s.noBays = true → exec (.imdSelftest c n r1 r2) s = .next (s.failAs c 0x0A01 .state)) ∧
      (s.noBays = false → (8 ≤ n ∨ (s.cBay n).enabled = false) → exec (.imdSelftest c n r1 r2) s = .next (s.failAs c 0x0A01 .range)) ∧
      (s.noBays = false → n < 8 → (s.cBay n).enabled = true →
        (s.bayIdle n = false → exec (.imdSelftest c n r1 r2) s = .next (s.failAs c 0x0A01 .state)) ∧
        (s.bayIdle n = true → refOk (some (r1 : Int)) = true → refOk (some (r2 : Int)) = true →
          exec (.imdSelftest c n r1 r2) s = .next (s.okAs c 0x0A01 (le 4 r1 ++ le 4 r2) (fun u => u.setImdB n { u.imdB n with
            refFailed := false
            measFault := (u.imdB n).measFault && decide ((u.imdB n).cause ≠ .ref)
            cause := if (u.imdB n).cause = .ref then .none else (u.imdB n).cause }))) ∧
        (s.bayIdle n = true → (refOk (some (r1 : Int)) = false ∨ refOk (some (r2 : Int)) = false) → ∃ f : State → State,
          exec (.imdSelftest c n r1 r2) s = .next (s.doneAs c 0x0A01 .fault 0 [] f) ∧ ∀ u : State, u.imd = s.imd →
            ((f u).imdB n).refFailed = true ∧ ((f u).imdB n).measFault = true ∧ ((f u).imdB n).cause = .ref ∧ (f u).evtSet 0x0A (16 + n) ∧
            (∀ m, m ≠ n → (f u).imdB m = s.imdB m) ∧ f u = { u.noting (f u) with imd := (f u).imd }))) ∧
    (∀ us, s.ready c 0x0A02 →
      (s.noBays = true → exec (.imdTripTest c n us) s = .next (s.failAs c 0x0A02 .state)) ∧
      (s.noBays = false → s.key.lc ≠ .service → exec (.imdTripTest c n us) s = .next (s.failAs c 0x0A02 .locked)) ∧
      (s.noBays = false → s.key.lc = .service → (8 ≤ n ∨ (s.cBay n).enabled = false) → exec (.imdTripTest c n us) s = .next (s.failAs c 0x0A02 .range)) ∧
      (s.noBays = false → s.key.lc = .service → n < 8 → (s.cBay n).enabled = true →
        (s.bayIdle n = false → exec (.imdTripTest c n us) s = .next (s.failAs c 0x0A02 .state)) ∧
        (s.bayIdle n = true → exec (.imdTripTest c n us) s = .next (if us ≤ 10000
          then s.okAs c 0x0A02 (le 4 us) (fun u => u.setBay n { u.bay n with tripTestBad := false })
          else s.doneAs c 0x0A02 .fault 0 [] (fun u => u.setBay n { u.bay n with tripTestBad := true })))))

/-- R317 to R319: Guyline's enables. A gated output one of whose terms is false is neither enabled nor requested once Guyline has looked,
whatever stood before, and a fall of a request sets GATE_DROP; an output with all terms true keeps its request, and its enable comes back
only while no request stands and, where it fell, more than 10 ms after (assumption 11). Nothing else of the block changes. -/
def Obligations.FalseTermDropsEnable : Prop :=
  ∀ (s : State) (j : Nat), j < 36 → s.gated j = true → let t := s.gateAll.1
    (s.falseTerm j ≠ none → (t.gate j).en = false ∧ (t.gate j).req = false ∧ ((s.gate j).req = true → t.evtSet 0x0B 2)) ∧
    (s.falseTerm j = none → (t.gate j).req = (s.gate j).req ∧ ((t.gate j).en = true ↔ (s.gate j).en = true ∨ ((s.gate j).req = false ∧
      ∀ x, (s.gate j).fell = some x → 10000000 < nsBetween x s.now))) ∧
    (∀ x, (j, x) ∈ s.gateAll.2 ↔ (s.gate j).req = true ∧ s.falseTerm j = some x) ∧
    t.falseTerm j = s.falseTerm j ∧ t.saf = { s.saf with gates := t.saf.gates }

/-- R320 to R323, R339, R340: what Spar and Guyline do on a loss. Outside a reset a failed diagnostic of the table reaches SAFE_STOP from
RUN: every request dropped, the heartbeat stopped, cause and detail recorded, every session ended and the enables judged; one that passes
changes nothing. A gate test of a gated output not requested marks the gate tested, or fails as cause 7; an overdue gate is marked. The
heartbeat's loss makes a term of every output false and ends every session. The end of a parameter session discards what it staged, and a
lockout's end opens the password again. In a reset none but a session's end does anything. -/
def Obligations.SparEventsAct : Prop :=
  ∀ (s : State),
    (∀ k d p, (s.sys.inReset = true ∨ s.saf.spar ≠ .run ∨ p = true ∨ k = 0 ∨ 7 < k) → exec (.sparDiagnostic k d p) s = .next s) ∧
    (∀ k d, s.sys.inReset = false → s.saf.spar = .run → 1 ≤ k → k ≤ 7 → ∃ u : State,
      exec (.sparDiagnostic k d false) s = .next ((u.endAllSafe.guard).settle) ∧
      u.saf.spar = .safeStop ∧ u.saf.heartbeat = false ∧ u.saf.diagCause = k ∧
      u.saf.diagDetail = (if k = 4 ∨ k = 6 ∨ k = 7 then d % 64 else 0x3F) ∧ (∀ g, g < 36 → (u.gate g).req = false) ∧
      u.tly = s.tly ∧ u.cfg = s.cfg ∧ u.vlk = s.vlk ∧ u.mem = s.mem) ∧
    (∀ j p, (s.sys.inReset = true ∨ s.saf.spar ≠ .run ∨ s.gated j = false ∨ (s.gate j).req = true) → exec (.gateTest j p) s = .next s) ∧
    (∀ j, s.sys.inReset = false → s.saf.spar = .run → s.gated j = true → (s.gate j).req = false →
      exec (.gateTest j true) s = .next (s.setGate j { s.gate j with tested := true, testDue := false }).settle ∧
      ∃ u : State, exec (.gateTest j false) s = .next ((u.endAllSafe.guard).settle) ∧ (u.gate j).tested = false ∧ u.saf.spar = .safeStop ∧
        u.saf.heartbeat = false ∧ u.saf.diagCause = 7 ∧ u.saf.diagDetail = j ∧ (∀ g, g < 36 → (u.gate g).req = false)) ∧
    (∀ j, exec (.gateTestOverdue j) s = .next (if s.sys.inReset = false ∧ s.gated j = true
      then s.setGate j { s.gate j with testDue := true } else s)) ∧
    (s.sys.inReset = true → exec .heartbeatLineTimeout s = .next s ∧ exec .lockoutExpiry s = .next s) ∧
    (s.sys.inReset = false → ∃ u : State, exec .heartbeatLineTimeout s = .next ((u.guard.endAllSafe).settle) ∧
      u = { s with saf := { s.saf with heartbeat := false } } ∧ (∀ j, u.falseTerm j ≠ none)) ∧
    exec .pwdSessionTimeout s = .next { s with saf := { s.saf with pwdSide := none, staged := [] } } ∧
    (s.sys.inReset = false → exec .lockoutExpiry s = .next { s with saf := { s.saf with lockMin := 0, lockMs := 0 } })

/-- R325 to R329: the safety inputs, while the test pulses run. An input takes its level, and a demand that follows latches TRIP on it,
and on both of a pair; single, equal and antivalent inputs are in demand as R326 says. A pulse that reads wrong on the test output faults
its inputs; an input stuck at the second pulse in a row, or short to another at the second, faults, a good pulse counts towards clearing.
A discrepancy faults both inputs of a pair. TRIP ends by AUTO, or by the button pressed for 100 ms to 2 s, out of demand only. Two wrong
dark pulses in a row set RB_FLT. Without test pulses, for inputs, outputs and pairs that are none, and where a condition is not met,
nothing happens. -/
def Obligations.SafetyInputsAct : Prop :=
  ∀ (s : State),
    (∀ i o, (s.saf.tpRun = false ∨ 16 ≤ i) → exec (.safetyInputDemand i o) s = .next s) ∧
    (∀ i o, s.saf.tpRun = true → i < 16 → ∃ v u : State, v = s.setSin i { s.sin i with isOpen := o } ∧
      exec (.safetyInputDemand i o) s = .next u.settle ∧
      (v.inDemand i = false → u = v) ∧
      (v.inDemand i = true → (∀ k, u.sin k = { v.sin k with trip := (v.sin k).trip || decide (k ∈ s.siGroup i) }) ∧
        ((∃ k ∈ s.siGroup i, (s.sin k).trip = false) → u.evtSet 0x0B 0)) ∧
      u = { s.noting u with saf := u.saf }) ∧
    (∀ i, (siMode (s.inPar i) = .single → (s.inDemand i = true ↔ (s.sin i).isOpen = true ∨ (s.sin i).fault = true) ∧ s.siGroup i = [i]) ∧
      (∀ e, e = 2 * (i / 2) → pairMode (siMode (s.inPar i)) = true → s.siGroup i = [e, e + 1] ∧
        (s.inDemand i = true ↔ (s.sin e).isOpen = true ∨ (s.sin (e + 1)).isOpen = decide (siMode (s.inPar i) ≠ .pairAnti) ∨
          (s.sin e).fault = true ∨ (s.sin (e + 1)).fault = true))) ∧
    (∀ k lo hi h c, (s.saf.tpRun = false ∨ 4 ≤ k) → exec (.testPulse k lo hi h c) s = .next s) ∧
    (∀ i k hi cr, s.saf.tpRun = true → i < 16 → k < 4 → ∃ u : State, exec (.testPulse k false false hi cr) s = .next u.settle ∧
      u.saf.tpoFlt = s.saf.tpoFlt ∧
      (pulsedMode (siMode (s.inPar i)) = true → siTpo (s.inPar i) = k →
        (hi.getLsbD i = true → 1 ≤ (s.sin i).stuckRun → (u.sin i).fault = true ∧ (u.sin i).cause = .stuckHigh) ∧
        (hi.getLsbD i = true → (s.sin i).stuckRun = 0 → (u.sin i).stuckRun = 1 ∧ (u.sin i).fault = (s.sin i).fault) ∧
        (hi.getLsbD i = false → (u.sin i).stuckRun = 0 ∧ (u.sin i).passRun = (s.sin i).passRun + 1 ∧ (u.sin i).fault = (s.sin i).fault)) ∧
      (pulsedMode (siMode (s.inPar i)) = true → siTpo (s.inPar i) ≠ k →
        (cr.getLsbD i = true → (s.sin i).crossBy.getLsbD k = true → (u.sin i).fault = true ∧ (u.sin i).cause = .crossShort) ∧
        (cr.getLsbD i = true → (s.sin i).crossBy.getLsbD k = false → (u.sin i).crossBy.getLsbD k = true ∧ (u.sin i).fault = (s.sin i).fault) ∧
        (cr.getLsbD i = false → (u.sin i).crossBy.getLsbD k = false ∧ (u.sin i).fault = (s.sin i).fault)) ∧
      (pulsedMode (siMode (s.inPar i)) = false → (u.sin i).fault = (s.sin i).fault) ∧
      (∀ m, (u.sin m).isOpen = (s.sin m).isOpen) ∧ u = { s.noting u with saf := u.saf }) ∧
    (∀ i k lo hi h c, s.saf.tpRun = true → i < 16 → k < 4 → (lo || hi) = true → ∃ u : State,
      exec (.testPulse k lo hi h c) s = .next u.settle ∧ u.saf.tpoFlt = s.saf.tpoFlt ||| (1#4 <<< k) ∧
      (pulsedMode (siMode (s.inPar i)) = true → siTpo (s.inPar i) = k → (u.sin i).fault = true) ∧ u = { s.noting u with saf := u.saf }) ∧
    (∀ p, (s.saf.tpRun = false ∨ 8 ≤ p ∨ s.disagree p = false) → exec (.discrepancyTimeout p) s = .next s) ∧
    (∀ p, s.saf.tpRun = true → p < 8 → s.disagree p = true → ∃ u : State, exec (.discrepancyTimeout p) s = .next u.settle ∧
      (∀ k, k = 2 * p ∨ k = 2 * p + 1 → (u.sin k).fault = true ∧ (u.sin k).cause = .discrepancy) ∧ (u.sin (2 * p)).trip = true ∧
      (∀ k, k / 2 ≠ p → u.sin k = s.sin k) ∧ u = { s.noting u with saf := u.saf }) ∧
    (∀ i, (s.saf.tpRun = false ∨ 16 ≤ i ∨ (s.sin i).trip = false ∨ s.inDemand i = true ∨ siReset (s.govPar i) ≠ .auto) →
      exec (.tripAutoClear i) s = .next s) ∧
    (∀ i, s.saf.tpRun = true → i < 16 → (s.sin i).trip = true → s.inDemand i = false → siReset (s.govPar i) = .auto → ∃ u : State,
      exec (.tripAutoClear i) s = .next u.settle ∧
      (∀ k, u.sin k = { s.sin k with trip := (s.sin k).trip && !decide (k ∈ s.siGroup i) }) ∧ u = { s with saf := u.saf }) ∧
    (∀ b ms cl, (s.saf.tpRun = false ∨ 16 ≤ b ∨ siMode (s.inPar b) ≠ .reset ∨ (s.sin b).fault = true ∨ ms < 100 ∨ 2000 < ms) →
      exec (.resetButtonRelease b ms cl) s = .next s) ∧
    (∀ b ms cl i, s.saf.tpRun = true → b < 16 → siMode (s.inPar b) = .reset → (s.sin b).fault = false → 100 ≤ ms → ms ≤ 2000 → i < 16 →
      ∃ u : State, exec (.resetButtonRelease b ms cl) s = .next u.settle ∧
      (demandMode (siMode (s.inPar i)) = true → siReset (s.govPar i) = .button → siButton (s.govPar i) = b → s.inDemand i = false →
        100 ≤ tget 0 cl i → (u.sin i).trip = false) ∧
      ((s.inDemand i = true ∨ siReset (s.govPar i) ≠ .button ∨ siButton (s.govPar i) ≠ b ∨ tget 0 cl i < 100) →
        siMode (s.inPar i) = .single → (∀ k, k / 2 = i / 2 → siMode (s.inPar k) = .single) → (u.sin i).trip = (s.sin i).trip) ∧
      (∀ k, (u.sin k).fault = (s.sin k).fault ∧ (u.sin k).isOpen = (s.sin k).isOpen) ∧ u = { s with saf := u.saf }) ∧
    (∀ m ok, (s.saf.tpRun = false ∨ 4 ≤ m ∨ (s.gate (32 + m)).req = false ∨ (s.gate (32 + m)).en = false ∨
      outNoDark (s.outPar (32 + m)) = true) → exec (.soDarkPulse m ok) s = .next s) ∧
    (∀ m, s.saf.tpRun = true → m < 4 → (s.gate (32 + m)).req = true → (s.gate (32 + m)).en = true → outNoDark (s.outPar (32 + m)) = false →
      exec (.soDarkPulse m true) s = .next (s.setGate (32 + m) { s.gate (32 + m) with rbOnce := false }) ∧
      ((s.gate (32 + m)).rbOnce = false → exec (.soDarkPulse m false) s = .next (s.setGate (32 + m) { s.gate (32 + m) with rbOnce := true })) ∧
      ((s.gate (32 + m)).rbOnce = true → exec (.soDarkPulse m false) s = .next (s.setGate (32 + m) { s.gate (32 + m) with rbFlt := true }).settle))

/-- R331 to R336: Hinge's frames while Spar runs. A frame of another format, a bad CRC or an unknown ID is counted and does no more, but
that the eighth bad CRC within 1 s loses an OPEN connection. A valid one takes TIMED_OUT to CONNECTING. A DATA frame outside OPEN, beyond
the window, too old or with a payload its version does not carry is counted; else it is accepted, its lost predecessors counted, and its
payloads delivered in order. A CONNECT opens with the highest version both sides carry, and is answered also where there is none; its
answer opens the sender. A connection that times out is TIMED_OUT with its event, and its consumers are told. A sender that is OPEN takes
the next `SEQ`, one that is not asks again with a new first one; Skidline carries a frame through its queue. -/
def Obligations.HingeFramesAct : Prop :=
  ∀ (s : State) (f : HFrame),
    (s.hingeLive = false → exec (.hingeDataRx f) s = .next s ∧ exec (.hingeConnectRx f) s = .next s ∧ exec (.hingeConnectAckRx f) s = .next s ∧
      ∀ c l, exec (.hingeTimeout c) s = .next s ∧ exec (.hingeSend c l) s = .next s ∧ exec (.hingeConnectSend c) s = .next s) ∧
    (s.hingeLive = true → (f.fmtOk = false ∨ (f.version ≠ 1 ∧ f.version ≠ 2)) → ∃ u : State,
      u = (match s.rxConn f with | some k => s.setConn k { s.conn k with fmtErr := (s.conn k).fmtErr + 1 } | none => s) ∧
      exec (.hingeDataRx f) s = .next u.settle ∧ exec (.hingeConnectRx f) s = .next u.settle ∧ exec (.hingeConnectAckRx f) s = .next u) ∧
    (s.hingeLive = true → f.fmtOk = true → (f.version = 1 ∨ f.version = 2) →
      (f.crcOk = false → s.rxConn f = none → ∃ u : State, u = { s with saf := { s.saf with crcErr := s.saf.crcErr + 1 } } ∧
        exec (.hingeDataRx f) s = .next u.settle ∧ exec (.hingeConnectRx f) s = .next u.settle ∧ exec (.hingeConnectAckRx f) s = .next u) ∧
      (∀ k, f.crcOk = false → s.rxConn f = some k → ∃ u : State,
        let times := (s.now :: (s.conn k).crcTimes).take 8
        let burst := decide (times.length = 8) && decide (nsBetween (times.getLast?.getD {}) s.now ≤ 1000000000)
        u.saf.crcErr = s.saf.crcErr + 1 ∧ (∀ j, j ≠ k → u.conn j = s.conn j) ∧ u = { s with saf := u.saf } ∧
        u.conn k = { s.conn k with crcErr := (s.conn k).crcErr + 1, crcTimes := if burst then [] else times } ∧
        (¬ (burst = true ∧ (s.conn k).st = .opened) →
          exec (.hingeDataRx f) s = .next u.settle ∧ exec (.hingeConnectRx f) s = .next u.settle ∧ exec (.hingeConnectAckRx f) s = .next u) ∧
        (burst = true → (s.conn k).st = .opened → ∃ w : State, w = (u.connTimeout k).connLost k ∧
          exec (.hingeDataRx f) s = .next w.settle ∧ exec (.hingeConnectRx f) s = .next w.settle ∧ exec (.hingeConnectAckRx f) s = .next w)) ∧
      (f.crcOk = true → s.rxConn f = none → ∃ u : State,
        u = (match s.rxById f with | some k => s.setConn k { s.conn k with idErr := (s.conn k).idErr + 1 } | none => s) ∧
        exec (.hingeDataRx f) s = .next u.settle ∧ exec (.hingeConnectRx f) s = .next u.settle ∧ exec (.hingeConnectAckRx f) s = .next u) ∧
      (∀ c, f.crcOk = true → s.rxConn f = some c →
        ∀ v : State, v = s.setConn c { s.conn c with st := if (s.conn c).st = .timedOut then .connecting else (s.conn c).st } →
        ((s.conn c).st ≠ .opened → exec (.hingeDataRx f) s = .next (v.setConn c { v.conn c with stateErr := (v.conn c).stateErr + 1 }).settle) ∧
        ((s.conn c).st = .opened →
          let d := (f.seq - (s.conn c).seq).toNat
          ((d = 0 ∨ s.connWindow c < d) → ∃ u : State, exec (.hingeDataRx f) s = .next u.settle ∧
            u.conn c = { s.conn c with seqErr := (s.conn c).seqErr + 1 } ∧ (∀ k, k ≠ c → u.conn k = s.conn k) ∧
            u.saf.seqErr = s.saf.seqErr + 1 ∧ u = { s with saf := u.saf }) ∧
          (d ≠ 0 → d ≤ s.connWindow c → s.connTimeoutMs c * 10 < f.texp →
            exec (.hingeDataRx f) s = .next (v.setConn c { v.conn c with texpErr := (v.conn c).texpErr + 1 }).settle) ∧
          (d ≠ 0 → d ≤ s.connWindow c → f.texp ≤ s.connTimeoutMs c * 10 → f.pays.all (payOk (s.conn c).ver) = false →
            exec (.hingeDataRx f) s = .next (v.setConn c { v.conn c with fmtErr := (v.conn c).fmtErr + 1 }).settle) ∧
          (d ≠ 0 → d ≤ s.connWindow c → f.texp ≤ s.connTimeoutMs c * 10 → f.pays.all (payOk (s.conn c).ver) = true → ∃ u : State,
            exec (.hingeDataRx f) s = .next (f.pays.foldl (fun (a : State) p => a.hingeDeliver c f.seq p) u).settle ∧
            u.conn c = { s.conn c with seq := f.seq, lost := (s.conn c).lost + BitVec.ofNat 32 (d - 1) } ∧
            (∀ k, k ≠ c → u.conn k = s.conn k) ∧ u = { s with saf := { s.saf with conns := u.saf.conns } })) ∧
        (f.bodyOk = false → exec (.hingeConnectRx f) s = .next (v.setConn c { v.conn c with fmtErr := (v.conn c).fmtErr + 1 }).settle) ∧
        (f.bodyOk = true → ∀ r t, r = (if f.verLo ≤ 2 ∧ 2 ≤ f.verHi then 2 else if f.verLo ≤ 1 ∧ 1 ≤ f.verHi then 1 else 0) →
          t = (s.cConn c).paired → ∃ u : State,
          exec (.hingeConnectRx f) s = .next ((u.sendHinge t 2
            { link := (s.cConn t).link, peer := (s.cConn t).peer, version := max 1 r, connId := (s.cConn t).connId,
              texp := 10 * s.connPeriod t, verLo := r, ackId := (s.cConn c).connId }).remoteAll c .safetyTrip).settle ∧
          (r ≠ 0 → u.conn c = { v.conn c with st := .opened, ver := r, seq := f.initSeq, state := 0, valid := 0, frags := 0 }) ∧
          (r = 0 → u.conn c = { v.conn c with verErr := (v.conn c).verErr + 1 }) ∧
          (∀ k, k ≠ c → u.conn k = s.conn k) ∧ u = { s with saf := { s.saf with conns := u.saf.conns } }) ∧
        (∀ t, t = (s.cConn c).paired →
          ((f.bodyOk = false ∨ 2 < f.verLo) → exec (.hingeConnectAckRx f) s = .next (v.setConn c { v.conn c with fmtErr := (v.conn c).fmtErr + 1 })) ∧
          (f.bodyOk = true → f.verLo ≤ 2 →
            (((s.cConn t).tx = false ∨ (s.cConn t).connId ≠ f.ackId ∨ (v.conn t).st = .opened) → exec (.hingeConnectAckRx f) s = .next v) ∧
            ((s.cConn t).tx = true → (s.cConn t).connId = f.ackId → (v.conn t).st ≠ .opened → exec (.hingeConnectAckRx f) s =
              .next (v.setConn t (if f.verLo = 0 then { v.conn t with verErr := (v.conn t).verErr + 1 }
                else { v.conn t with st := .opened, ver := f.verLo }))))))) ∧
    (∀ c, s.hingeLive = true →
      (((s.cConn c).used = false ∨ (s.cConn c).tx = true ∨ (s.conn c).st ≠ .opened) → exec (.hingeTimeout c) s = .next s) ∧
      ((s.cConn c).used = true → (s.cConn c).tx = false → (s.conn c).st = .opened → ∃ u : State,
        exec (.hingeTimeout c) s = .next (u.connLost c).settle ∧
        u.conn c = { s.conn c with st := .timedOut, timeouts := (s.conn c).timeouts + 1, frags := 0 } ∧ u.evtSet 0x0B 3 ∧
        (∀ k, k ≠ c → u.conn k = s.conn k) ∧ u = { s.noting u with saf := u.saf })) ∧
    (∀ c l, s.hingeLive = true →
      (((s.cConn c).used = false ∨ (s.cConn c).tx = false ∨ (s.conn c).st ≠ .opened ∨ l.all (payOk (s.conn c).ver) = false ∨
        64 < l.foldl (fun n p => n + payLen p) 0) → exec (.hingeSend c l) s = .next s) ∧
      ((s.cConn c).used = true → (s.cConn c).tx = true → (s.conn c).st = .opened → l.all (payOk (s.conn c).ver) = true →
        l.foldl (fun n p => n + payLen p) 0 ≤ 64 → exec (.hingeSend c l) s =
          .next ((s.setConn c { s.conn c with seq := (s.conn c).seq + 1, lastPay := l }).sendHinge c 0
            { link := (s.cConn c).link, peer := (s.cConn c).peer, version := (s.conn c).ver, connId := (s.cConn c).connId,
              seq := (s.conn c).seq + 1, texp := 10 * s.connPeriod c, pays := l }))) ∧
    (∀ c, s.hingeLive = true →
      (((s.cConn c).used = false ∨ (s.cConn c).tx = false ∨ (s.conn c).st = .opened) → exec (.hingeConnectSend c) s = .next s) ∧
      ((s.cConn c).used = true → (s.cConn c).tx = true → (s.conn c).st ≠ .opened → ∃ (u : State) (q : BitVec 16),
        exec (.hingeConnectSend c) s = .next (u.sendHinge c 1
          { link := (s.cConn c).link, peer := (s.cConn c).peer, version := 1, connId := (s.cConn c).connId, texp := 10 * s.connPeriod c, verLo := 1, verHi := 2, initSeq := q }) ∧
        u.conn c = { s.conn c with st := .connecting, seq := q } ∧ (∀ k, k ≠ c → u.conn k = s.conn k) ∧
        u = { s with saf := u.saf, fresh := s.fresh + 1 })) ∧
    (∀ c k g, s.sendHinge c k g = if (s.cConn c).link ≠ sklLink then s.send (.hinge c k g)
      else if s.skl.run = true then s.sklHinge (s.cConn c).peer k g else s)

/-- R338 to R344: the SAF commands with each of their failures. What changes parameters, password or log is LOCKED outside FIELD and
SERVICE. The right password opens a session unless the other side holds one, and clears the count of failures; a wrong one counts and, the
fifth time, locks. Parameters are staged in a session, committed with their entries while every affected output is off, and confirmed by
their checksum; password and archive take the service key's statement; the log, the parameters and a connection are read as they stand. A
reset of trips names inputs that may be reset, all of them, and clears their faults, the trip of a single one under COMMAND, and the
read-back faults it names; a single input may be reset once it has been clear for its time. -/
def Obligations.SafetyCommandsComplete : Prop :=
  ∀ (s : State) (c : Cmd),
    (s.key.lc ≠ .field → s.key.lc ≠ .service →
      (∀ p, s.ready c 0x0B01 → exec (.safPwdOpen c p) s = .next (s.failAs c 0x0B01 .locked).settle) ∧
      (∀ l, s.ready c 0x0B04 → exec (.safParamSet c l) s = .next (s.failAs c 0x0B04 .locked).settle) ∧
      (s.ready c 0x0B05 → exec (.safParamCommit c) s = .next (s.failAs c 0x0B05 .locked).settle) ∧
      (∀ x, s.ready c 0x0B06 → exec (.safParamConfirm c x) s = .next (s.failAs c 0x0B06 .locked).settle) ∧
      (∀ p, s.ready c 0x0B07 → exec (.safPwdChange c p) s = .next (s.failAs c 0x0B07 .locked).settle)) ∧
    ((s.key.lc = .field ∨ s.key.lc = .service) →
      (∀ p, s.ready c 0x0B01 →
        (s.saf.lockMin ≠ 0 → exec (.safPwdOpen c p) s = .next (s.failAs c 0x0B01 .locked).settle) ∧
        (s.saf.lockMin = 0 → (∃ x, s.saf.pwdSide = some x ∧ x ≠ c.side) → exec (.safPwdOpen c p) s = .next (s.failAs c 0x0B01 .state).settle) ∧
        (s.saf.lockMin = 0 → (s.saf.pwdSide = none ∨ s.saf.pwdSide = some c.side) →
          ((∃ salt, s.saf.password = some (salt, p)) → exec (.safPwdOpen c p) s =
            .next (s.okAs c 0x0B01 [] (fun u => { u with saf := { u.saf with pwdSide := some c.side, fails := 0, lockouts := 0 } })).settle) ∧
          ((∀ salt, s.saf.password ≠ some (salt, p)) → ∃ f : State → State,
            exec (.safPwdOpen c p) s = .next (s.doneAs c 0x0B01 .auth 0 [] f).settle ∧ ∀ u : State, (f u).evtSet 0x0B 5 ∧
              (u.saf.fails < 4 → (f u).saf = { u.saf with fails := u.saf.fails + 1 }) ∧
              (4 ≤ u.saf.fails → (f u).saf = { u.saf with
                fails := 0, lockMin := min 15360 (15 * 2 ^ u.saf.lockouts), lockMs := 0, lockouts := min 15 (u.saf.lockouts + 1) }) ∧ f u = { u.noting (f u) with saf := (f u).saf }))) ∧
      (∀ l, s.ready c 0x0B04 →
        let fits := l.all (fun p => hasParam s.saf.params p.1 && paramInRange p.1 p.2.toNat)
        (s.saf.pwdSide ≠ some c.side → exec (.safParamSet c l) s = .next (s.failAs c 0x0B04 .state).settle) ∧
        (s.saf.pwdSide = some c.side → (l = [] ∨ 4 < l.length ∨ fits = false) → exec (.safParamSet c l) s = .next (s.failAs c 0x0B04 .range).settle) ∧
        (s.saf.pwdSide = some c.side → l ≠ [] → l.length ≤ 4 → fits = true → exec (.safParamSet c l) s =
          .next (if (l.foldl stage s.saf.staged).length ≤ 256
            then s.okAs c 0x0B04 [] (fun u => { u with saf := { u.saf with staged := l.foldl stage s.saf.staged } })
            else s.failAs c 0x0B04 .nospace).settle)) ∧
      (s.ready c 0x0B05 →
        let t := s.changed.foldl (fun t p => tset none t p.1 (some p.2)) s.saf.params
        let live := ∃ j p, j < 36 ∧ s.gated j = true ∧ p ∈ s.changed ∧ s.affectsOut (fun i => ((tget none t i).getD 0).toNat) p.1 j = true ∧
          s.outOff j = false
        (s.saf.pwdSide ≠ some c.side → exec (.safParamCommit c) s = .next (s.failAs c 0x0B05 .state).settle) ∧
        (s.saf.pwdSide = some c.side → s.setOk t = false → exec (.safParamCommit c) s = .next (s.failAs c 0x0B05 .range).settle) ∧
        (s.saf.pwdSide = some c.side → s.setOk t = true → live → exec (.safParamCommit c) s = .next (s.failAs c 0x0B05 .state).settle) ∧
        (s.saf.pwdSide = some c.side → s.setOk t = true → ¬ live → s.safRoom ≤ s.changed.length →
          exec (.safParamCommit c) s = .next (s.failAs c 0x0B05 .logfull).settle) ∧
        (s.saf.pwdSide = some c.side → s.setOk t = true → ¬ live → s.changed.length < s.safRoom → ∃ f : State → State,
          exec (.safParamCommit c) s = .next (s.okAs c 0x0B05 (le 4 (paramCrc t).toNat) f).settle ∧
          ∀ u : State, (f u).saf.params = t ∧ (f u).saf.unconfirmed = true ∧ (f u).saf.staged = [] ∧ (f u).evtSet 0x0B 4 ∧
            (f u).saf.last = u.saf.last + u.changed.length ∧ (f u).tly = u.tly ∧ (f u).vlk = u.vlk ∧ (f u).mem = u.mem)) ∧
      (∀ x, s.ready c 0x0B06 →
        ((s.saf.pwdSide ≠ some c.side ∨ s.saf.unconfirmed = false) → exec (.safParamConfirm c x) s = .next (s.failAs c 0x0B06 .state).settle) ∧
        (s.saf.pwdSide = some c.side → s.saf.unconfirmed = true →
          (x ≠ paramCrc s.saf.params → exec (.safParamConfirm c x) s = .next (s.failAs c 0x0B06 .range).settle) ∧
          (x = paramCrc s.saf.params → s.safRoom = 0 → exec (.safParamConfirm c x) s = .next (s.failAs c 0x0B06 .logfull).settle) ∧
          (x = paramCrc s.saf.params → s.safRoom ≠ 0 → ∃ f : State → State,
            exec (.safParamConfirm c x) s = .next (s.okAs c 0x0B06 [] f).settle ∧ ∀ u : State,
              (f u).saf.unconfirmed = false ∧ (f u).saf.affected = [] ∧ (f u).saf.params = u.saf.params ∧ (f u).saf.last = u.saf.last + 1 ∧
              (tget {} (f u).saf.log (u.saf.last + 1)).kind = 5 ∧ (f u).evtSet 0x0B 4))) ∧
      (∀ p, s.ready c 0x0B07 →
        (s.saf.pwdSide ≠ some c.side → exec (.safPwdChange c p) s = .next (s.failAs c 0x0B07 .state).settle) ∧
        (s.saf.pwdSide = some c.side → pwdOk p = false → exec (.safPwdChange c p) s = .next (s.failAs c 0x0B07 .range).settle) ∧
        (s.saf.pwdSide = some c.side → pwdOk p = true → s.safRoom = 0 → exec (.safPwdChange c p) s = .next (s.failAs c 0x0B07 .logfull).settle) ∧
        (s.saf.pwdSide = some c.side → pwdOk p = true → s.safRoom ≠ 0 → ∃ f : State → State,
          exec (.safPwdChange c p) s = .next (s.okAs c 0x0B07 [] f).settle ∧ ∀ u : State,
            (∃ salt, (f u).saf.password = some (salt, p)) ∧ (f u).saf.last = u.saf.last + 1 ∧ (f u).saf.params = u.saf.params ∧
            (tget {} (f u).saf.log (u.saf.last + 1)).kind = 6))) ∧
    (s.ready c 0x0B02 → exec (.safPwdClose c) s = .next (if s.saf.pwdSide = some c.side
      then s.okAs c 0x0B02 [] (fun u => { u with saf := { u.saf with pwdSide := none, staged := [] } }) else s.failAs c 0x0B02 .state)) ∧
    (∀ a n dst, s.ready c 0x0B03 →
      let l := s.saf.params.filter (fun p => decide (a ≤ p.1))
      ((n = 0 ∨ 256 < n ∨ dstOk dst (10 * n) = false ∨ hasParam s.saf.params a = false ∨ l.length < n) →
        exec (.safParamRead c a n dst) s = .next (s.failAs c 0x0B03 .range)) ∧
      (1 ≤ n → n ≤ 256 → dstOk dst (10 * n) = true → hasParam s.saf.params a = true → n ≤ l.length → exec (.safParamRead c a n dst) s =
        .next (s.okAs c 0x0B03 (le 4 (paramCrc s.saf.params).toNat ++ le 1 s.saf.unconfirmed.toNat) (fun u => u.writeGen dst
          ((l.take n).foldl (fun b p => b ++ le 2 p.1 ++ le 8 (p.2.getD 0).toNat) []))))) ∧
    (∀ m p, s.ready c 0x0B08 →
      (∀ e, s.checkMsg m [20] [.service] = some e → exec (.safPwdReset c m p) s = .next (s.doneAs c 0x0B08 e 0 [] (fun u => u.setEvt 0x11 1))) ∧
      (s.checkMsg m [20] [.service] = none →
        (pwdOk p = false → exec (.safPwdReset c m p) s = .next (s.failAs c 0x0B08 .range)) ∧
        (pwdOk p = true → s.safRoom = 0 → exec (.safPwdReset c m p) s = .next (s.failAs c 0x0B08 .logfull)) ∧
        (pwdOk p = true → s.safRoom ≠ 0 → ∃ f : State → State, exec (.safPwdReset c m p) s = .next (s.okAs c 0x0B08 [] f) ∧ ∀ u : State,
          (∃ salt, (f u).saf.password = some (salt, p)) ∧ (f u).saf.fails = 0 ∧ (f u).saf.lockMin = 0 ∧ (f u).saf.lockouts = 0 ∧
          tget 0 (f u).key.authCtrs m.auth = m.ctr ∧ (tget {} (f u).saf.log (u.saf.last + 1)).kind = 7))) ∧
    (∀ a n dst, s.ready c 0x0B09 →
      let l := (s.saf.log.filter (fun p => decide (a ≤ p.1))).take n
      ((n = 0 ∨ 256 < n ∨ dstOk dst (64 * n) = false ∨ s.saf.last < a) → exec (.safLogRead c a n dst) s = .next (s.failAs c 0x0B09 .range)) ∧
      (1 ≤ n → n ≤ 256 → dstOk dst (64 * n) = true → a ≤ s.saf.last → exec (.safLogRead c a n dst) s = .next (s.okAs c 0x0B09 (le 2 l.length)
        (fun u => u.writeGen dst (l.foldl (fun b p => b ++ p.2.bytes p.1) []))))) ∧
    (∀ m, s.ready c 0x0B0A →
      (∀ e, s.checkMsg m [19] [.field, .service] = some e → exec (.safLogArchive c m) s = .next (s.doneAs c 0x0B0A e 0 [] (fun u => u.setEvt 0x11 1))) ∧
      (s.checkMsg m [19] [.field, .service] = none →
        ((m.num ≤ s.saf.archived ∨ s.saf.last < m.num) → exec (.safLogArchive c m) s =
          .next (s.doneAs c 0x0B0A .range 0 [] (fun u => u.setEvt 0x11 1))) ∧
        (s.saf.archived < m.num → m.num ≤ s.saf.last → ∃ f : State → State,
          exec (.safLogArchive c m) s = .next (s.okAs c 0x0B0A (le 4 m.num) f) ∧ ∀ u : State, (f u).saf.archived = m.num ∧
            (f u).saf.last = u.saf.last + 1 ∧ (tget {} (f u).saf.log (u.saf.last + 1)).kind = 8 ∧ (f u).saf.params = u.saf.params))) ∧
    (∀ i ins cl, i < 16 → siMode (s.inPar i) = .single → siMode (s.inPar (2 * (i / 2))) = .single → (s.mayReset ins cl i = true ↔
      ((s.sin i).fault = false ∨ (1000 ≤ tget 0 cl i ∧ 2 ≤ (s.sin i).passRun ∧ ins.getLsbD i = true)) ∧ (s.sin i).isOpen = false ∧ 100 ≤ tget 0 cl i)) ∧
    (∀ ins sos cl, s.ready c 0x0B0B →
      ((∃ i, i < 16 ∧ ins.getLsbD i = true ∧ s.mayReset ins cl i = false) →
        exec (.safTripReset c ins sos cl) s = .next (s.failAs c 0x0B0B .state).settle) ∧
      ((∀ i, i < 16 → ins.getLsbD i = true → s.mayReset ins cl i = true) → ∃ f : State → State,
        exec (.safTripReset c ins sos cl) s = .next (s.okAs c 0x0B0B [] f).settle ∧ ∀ u : State, u.saf = s.saf →
          (∀ i, i < 16 → ins.getLsbD i = true → ((f u).sin i).fault = false) ∧
          (∀ i, i < 16 → ins.getLsbD i = true → siMode (s.inPar i) = .single → siReset (s.inPar i) = .command → (s.sin i).fault = false →
            ((f u).sin i).trip = false) ∧
          (∀ k, (∀ i, i < 16 → ins.getLsbD i = true → k ≠ i ∧ k ∉ s.siGroup i) → (f u).sin k = s.sin k) ∧
          (∀ m, m < 4 → (f u).gate (32 + m) = if sos.getLsbD m then { s.gate (32 + m) with rbFlt := false, rbOnce := false } else s.gate (32 + m)) ∧
          f u = { u with saf := (f u).saf })) ∧
    (∀ k, s.ready c 0x0B0C → exec (.safHingeInfo c k) s = .next (if k < 1024 ∧ (s.cConn k).used = true then s.okAs c 0x0B0C
      (le 4 (s.cConn k).connId ++ le 1 (128 * (s.cConn k).tx.toNat + (s.conn k).st.ctorIdx) ++ le 1 (s.conn k).ver ++ le 2 (s.conn k).seq.toNat ++
        le 4 (s.conn k).lost.toNat ++ le 4 (s.conn k).seqErr.toNat ++ le 4 (s.conn k).texpErr.toNat ++ le 4 (s.conn k).idErr.toNat ++
        le 4 (s.conn k).crcErr.toNat ++ le 4 (s.conn k).timeouts.toNat) id else s.failAs c 0x0B0C .range))

/-- R345 to R359: Peavey's lanes. At its instant a configured lane takes the pending settings, forms x from its inputs, and its output
lies within the lane's limits: the safe value under a trip that acts, else the last section's output with input C. An error beyond the
limit for its time trips the lane with its event, and a trip stays. A held lane latches its inputs alone. At another instant, and while
lanes do not run, there is no sample. A section's values follow the biquad unless they saturate, and never leave 40 bits. A register that
takes writes is written at the next sample of a lane that is configured; hold and reset are noted. No other lane changes. A lane is read,
and a trip cleared once the error is within its limit; a lane that is not configured is RANGE. -/
def Obligations.LanesAct : Prop :=
  ∀ (s : State) (n i : Nat) (c : Cmd),
    (s.awake = false → exec (.laneSample n i) s = .next s) ∧
    (s.awake = true → (s.pvy.run = false ∨ (s.lane n).cfg.configured = false ∨ 64 ≤ n ∨ (s.laneDue n).getD i ≠ i) →
      exec (.laneSample n i) s = .next s.settle) ∧
    (s.awake = true → s.pvy.run = true → (s.lane n).cfg.configured = true → n < 64 → (s.laneDue n).getD i = i → (s.lane n).holdReq = false →
      ∃ (u : State) (l : Lane), exec (.laneSample n i) s = .next ((u.laneDeliver l).settle) ∧ u.lane n = l ∧ (∀ k, k ≠ n → u.lane k = s.lane k) ∧
      l.cfg = (s.lane n).shown n ∧ l.pend = [] ∧ l.instant = some i ∧ l.x = l.a + l.b ∧ l.yPrev = (s.lane n).y ∧ l.held = false ∧
      (∀ m : Lane, m = { s.lane n with cfg := l.cfg, s1 := if (s.lane n).rst then [] else (s.lane n).s1, s2 := if (s.lane n).rst then [] else (s.lane n).s2 } →
        l.u = ((cascade m l.cfg.nsec 0 l.x).getLast?.getD {}).y + l.c) ∧
      l.y = clampInt (q15 l.cfg.outLo) (q15 l.cfg.outHi) (if l.trip = true ∧ l.cfg.feAct ≠ 0 then q15 l.cfg.outSafe else l.u) ∧
      ((l.cfg.feLim = 0 ∨ l.x.natAbs ≤ l.cfg.feLim * 65536) → l.trip = (s.lane n).trip ∧ l.timer = 0) ∧
      (l.cfg.feLim ≠ 0 → l.cfg.feLim * 65536 < l.x.natAbs → l.timer = (s.lane n).timer + 1 ∧
        (l.trip = true ↔ (s.lane n).trip = true ∨ divUp (l.cfg.feTime * 20) l.cfg.period ≤ l.timer)) ∧
      ((s.lane n).trip = true → l.trip = true) ∧ ((s.lane n).trip = false → l.trip = true → u.evtSet 0x0C 0) ∧ u = { s.noting u with pvy := u.pvy }) ∧
    (s.awake = true → s.pvy.run = true → (s.lane n).cfg.configured = true → n < 64 → (s.laneDue n).getD i = i → (s.lane n).holdReq = true →
      ∃ u : State, exec (.laneSample n i) s = .next u.settle ∧ (u.lane n).held = true ∧ (u.lane n).instant = some i ∧
      (u.lane n).y = (s.lane n).y ∧ (u.lane n).s1 = (s.lane n).s1 ∧ (u.lane n).s2 = (s.lane n).s2 ∧ (u.lane n).cfg = (s.lane n).cfg ∧
      (u.lane n).x = (u.lane n).a + (u.lane n).b ∧ (∀ k, k ≠ n → u.lane k = s.lane k) ∧ u = { s.noting u with pvy := u.pvy }) ∧
    (∀ (g : LaneCfg) (k : Nat) (x a b : Int), let o := section40 g k x a b;
      -(2 ^ 39 : Int) ≤ o.y ∧ o.y < 2 ^ 39 ∧ -(2 ^ 39 : Int) ≤ o.s1 ∧ o.s1 < 2 ^ 39 ∧ -(2 ^ 39 : Int) ≤ o.s2 ∧ o.s2 < 2 ^ 39 ∧
      (o.sat = false → o.y = coefMul (laneCoef g k 0) x + a ∧
        o.s1 = coefMul (laneCoef g k 1) x - coefMul (laneCoef g k 3) o.y + b ∧
        o.s2 = coefMul (laneCoef g k 2) x - coefMul (laneCoef g k 4) o.y)) ∧
    (∀ off (v : Word), (s.sys.inReset = true ∨ laneOf off = none ∨ off % 4 ≠ 0) → exec (.laneRegisterWrite off v) s = .next s) ∧
    (∀ off (v : Word), s.sys.inReset = false → laneOf off = some n → off % 4 = 0 →
      exec (.laneRegisterWrite off v) s = .next (if (s.lane n).cfg.configured = false then s
        else if off = 0x1044 + 0x80 * n then s.setLane n { s.lane n with holdReq := v.getLsbD 0, rst := (s.lane n).rst || v.getLsbD 1 }
        else if laneWritable n off = true then s.setLane n { s.lane n with pend := (s.lane n).pend ++ [(off, v)] } else s)) ∧
    (∀ h, exec (.laneHold n h) s = .next (if s.sys.inReset = false ∧ n < 64 ∧ (s.lane n).cfg.configured = true
      then s.setLane n { s.lane n with holdReq := h } else s)) ∧
    exec (.stateRst n) s = .next (if s.sys.inReset = false ∧ n < 64 ∧ (s.lane n).cfg.configured = true
      then s.setLane n { s.lane n with rst := true } else s) ∧
    (∀ sec, s.ready c 0x0C01 → exec (.pvyLaneRead c n sec) s = .next (if n < 64 ∧ (s.lane n).cfg.configured = true ∧ sec ≤ 7
      then s.okAs c 0x0C01 (laneReadData (s.lane n) sec) id else s.failAs c 0x0C01 .range)) ∧
    (s.ready c 0x0C02 → (64 ≤ n ∨ (s.lane n).cfg.configured = false) → exec (.pvyFeClear c n) s = .next (s.failAs c 0x0C02 .range)) ∧
    (s.ready c 0x0C02 → n < 64 → (s.lane n).cfg.configured = true → exec (.pvyFeClear c n) s =
      .next (if (s.lane n).trip = true ∧ (s.lane n).x.natAbs ≤ (s.lane n).cfg.feLim * 65536
        then s.okAs c 0x0C02 [] (fun u => u.setLane n { u.lane n with trip := false, timer := 0 }) else s.failAs c 0x0C02 .state))

/-- R360 to R377: the channel commands in every state of the channel. A number, duty or switch out of range is RANGE; a channel of another
owner, one that is not configured, or one that is latched or without supply is STATE. An off channel that is turned on asks for its permit
and the command waits for it, in IDLE-SITE until the part is awake; a supply anomaly refuses it (assumption 30); a duty of 0 turns nothing
on. One that waits for its permit takes the new duty and the command waits with it; a conducting one takes its duty, one in its window or
waiting for a retry takes it for later. One turned off gives its permits back, and a command that waited ends with STATE. CLEAR is for
what is latched or shed and restores the retries; INFO is zeros for a channel not configured. -/
def Obligations.ChannelCommandsComplete : Prop :=
  ∀ (s : State) (c : Cmd) (ch : Nat),
    (∀ o d, s.ready c 0x0D01 → (32 ≤ ch ∨ 1000 < d ∨ 1 < o) → exec (.chkChSet c ch o d) s = .next (s.failAs c 0x0D01 .range).settle) ∧
    (∀ o d, s.ready c 0x0D01 → ch < 32 → d ≤ 1000 → o ≤ 1 →
      (((s.cChan ch).configured = false ∨ (s.cChan ch).owner ≠ .software ∨ (s.chan ch).st = .thermLatch ∨ (s.chan ch).st = .latchedOff ∨
        (s.chan ch).st = .supplyOff) → exec (.chkChSet c ch o d) s = .next (s.failAs c 0x0D01 .state).settle)) ∧
    (∀ d, s.ready c 0x0D01 → ch < 32 → d ≤ 1000 → (s.cChan ch).configured = true → (s.cChan ch).owner = .software →
      ((s.chan ch).st ≠ .thermLatch → (s.chan ch).st ≠ .latchedOff → (s.chan ch).st ≠ .supplyOff → exec (.chkChSet c ch 0 d) s =
        .next (s.okAs c 0x0D01 [] (fun u => (u.chkOff ch).finish (chanWait ch) .state)).settle) ∧
      ((s.chan ch).st = .on → exec (.chkChSet c ch 1 d) s =
        .next (s.okAs c 0x0D01 [] (fun u => u.setChan ch { u.chan ch with duty := d, wantDuty := d, want := true })).settle) ∧
      (((s.chan ch).st = .inrush ∨ (s.chan ch).st = .hold ∨ (s.chan ch).st = .retryWait ∨
        ((s.chan ch).st = .permitWait ∧ (s.chan ch).retrying = true)) → exec (.chkChSet c ch 1 d) s =
        .next (s.okAs c 0x0D01 [] (fun u => u.setChan ch { u.chan ch with wantDuty := d, want := true })).settle) ∧
      ((s.chan ch).st = .permitWait → (s.chan ch).retrying = false → exec (.chkChSet c ch 1 d) s =
        .next (s.waitAs c 0x0D01 (.channel ch) (fun u => u.setChan ch { u.chan ch with wantDuty := d, want := true })).settle) ∧
      ((s.chan ch).st = .off → d = 0 → exec (.chkChSet c ch 1 d) s =
        .next (s.okAs c 0x0D01 [] (fun u => u.setChan ch { u.chan ch with wantDuty := 0 })).settle) ∧
      ((s.chan ch).st = .off → d ≠ 0 → s.chk.supply ≠ .normal → exec (.chkChSet c ch 1 d) s = .next (s.failAs c 0x0D01 .state).settle) ∧
      ((s.chan ch).st = .off → d ≠ 0 → s.chk.supply = .normal → exec (.chkChSet c ch 1 d) s =
        .next (s.waitAs c 0x0D01 (.channel ch) (fun u => if s.awake = true then u.chkAsk ch d false
          else u.setChan ch { u.chan ch with st := .permitWait, wantDuty := d, want := true })).settle)) ∧
    (s.ready c 0x0D02 → 32 ≤ ch → exec (.chkChClear c ch) s = .next (s.failAs c 0x0D02 .range)) ∧
    (s.ready c 0x0D02 → ch < 32 → exec (.chkChClear c ch) s =
      .next (if (s.cChan ch).configured = true ∧ ((s.chan ch).st = .latchedOff ∨ (s.chan ch).shed = true)
        then s.okAs c 0x0D02 [] (fun u => u.setChan ch { u.chan ch with
          st := .off, left := (s.cChan ch).retryMax, shed := false, dutyHeld := false, want := false })
        else s.failAs c 0x0D02 .state)) ∧
    (s.ready c 0x0D03 → 32 ≤ ch → exec (.chkChInfo c ch) s = .next (s.failAs c 0x0D03 .range)) ∧
    (s.ready c 0x0D03 → ch < 32 → exec (.chkChInfo c ch) s = .next (s.okAs c 0x0D03 (if (s.cChan ch).configured = true
      then (List.range 6).foldl (fun l i => l ++ le 2 (tget 0 (s.chan ch).faultsBy (i + 1))) [] ++ le 4 (s.chan ch).retries ++
        le 4 (s.chan ch).secs ++ leInt 1 (s.chan ch).tjMax ++ le 2 (s.chan ch).permitInrush ++ le 2 (s.chan ch).permitCond
      else List.replicate 25 0) id))

/-- R362 to R374: what happens to a channel that the part runs; a channel it does not run, and a condition that is not met, change
nothing. At the end of its inrush window the inrush permit goes back and the channel conducts, asking for its conduction permit, unless
its current is an overload. A short, an overload and an overheating, of the junction or of the hottest of a cluster against the reference,
stop it, count the fault and give its permits back: it latches, or waits for a retry where one is left and it is not safety-designated. A
thermal latch cools off at its level into a retry. A retry takes one of the retries and asks anew, waits in IDLE-SITE, and under an
anomaly loses its supply. Ten fault-free seconds restore them; a duty of 0 counts as off; open load and stuck-on are reported. A lost
ground, a reversed, high or low supply stops what conducts or waits, the ground judged first (assumption 72), and at its end, where none
of the others stands, the owner's wish turns a channel on again. A safety-designated channel that fails also loses Spar's request and ends
its bay's session. R364, R365: shedding. A recompute takes the measurements of the channels that run and their sum, asks for missing and
further conduction power, and sheds where the sum stood above 5,500 mW at the last recompute and does so now; a sum of currents above 38 A
sheds, a channel in its window counted with its nominal current. Channels are shed one after the other, the one with the highest shed
priority and among equals the highest number first, until the sum is at or below the limit or none is left; a shed channel is off with its
cause, and safety-designated channels and those of priority 0 are never shed. In a reset neither does anything. -/
def Obligations.ChannelEventsAct : Prop :=
 (∀ (s : State) (ch : Nat),
    (∀ mA, (s.chanLive ch = false ∨ (s.chan ch).st ≠ .inrush) → exec (.inrushEnd ch mA) s = .next s) ∧
    (∀ mA, s.chanLive ch = true → (s.chan ch).st = .inrush → mA ≤ overloadLevel (s.cChan ch) false → ∃ u : State,
      exec (.inrushEnd ch mA) s = .next ((u.askConduction ch).settle) ∧
      ((s.cChan ch).profile ≠ .coil → (u.chan ch).st = .on ∧ (u.chan ch).duty = (s.chan ch).wantDuty) ∧
      ((s.cChan ch).profile = .coil → (u.chan ch).st = .hold ∧ (u.chan ch).duty = 10 * (s.cChan ch).dHold) ∧ (u.chan ch).mA = mA ∧
      u.holds (.inrush ch) = false ∧ u.holds (.retry ch) = false ∧ (∀ k, k ≠ ch → u.chan k = s.chan k) ∧
      u = { s with chk := u.chk, permits := u.permits }) ∧
    (∀ mA, s.chanLive ch = true → (s.chan ch).st = .inrush → overloadLevel (s.cChan ch) false < mA → ∃ u : State,
      exec (.inrushEnd ch mA) s = .next (((u.chkFault ch .overload).safetyFail ch).settle) ∧ (u.chan ch).mA = mA ∧ u.holds (.inrush ch) = false ∧
      (∀ k, k ≠ ch → u.chan k = s.chan k) ∧ u = { s with chk := u.chk, permits := u.permits }) ∧
    (∀ mA v, exec (.channelShort ch mA v) s = .next (if s.chanLive ch = true ∧ ((s.chan ch).st = .on ∨ (s.chan ch).st = .hold) ∧ 12000 ≤ mA ∧
      2000 < v ∧ s.chk.supply ≠ .reverse then ((s.chkFault ch .short).safetyFail ch).settle else s)) ∧
    (∀ mA ms b, exec (.channelOverload ch mA ms b) s = .next (if s.chanLive ch = true ∧ ((s.chan ch).st = .on ∨ (s.chan ch).st = .hold) ∧
      overloadLevel (s.cChan ch) b < mA ∧ 10 ≤ ms then ((s.chkFault ch .overload).safetyFail ch).settle else s)) ∧
    (∀ cause, let u := s.chkFault ch cause
      (u.chan ch).st = (if (s.chan ch).left = 0 ∨ (s.cChan ch).safety = true then .latchedOff else .retryWait) ∧ (u.chan ch).cause = cause ∧
      (u.chan ch).duty = 0 ∧ (u.chan ch).faults = satTo 16383 ((s.chan ch).faults + 1) ∧ u.holds (.conduction ch) = false ∧
      u.holds (.inrush ch) = false ∧ u.evtSet 0x0D 0 ∧ (∀ k, k ≠ ch → u.chan k = s.chan k) ∧
      u = { s.noting u with chk := u.chk, permits := u.permits }) ∧
    (∀ tj rt, s.chanLive ch = false → exec (.channelThermal ch tj rt) s = .next s) ∧
    (∀ tj rt, s.chanLive ch = true → ∀ v : State, v = s.setChan ch { s.chan ch with tj := tj, tjMax := max (s.chan ch).tjMax tj } →
      let hot := 170 < tj
      let dt := (∀ k, k / 4 = ch / 4 → (v.chan k).tj ≤ tj) ∧ 60 < tj - rt
      ((chConducts (s.chan ch).st = false ∨ (¬ hot ∧ ¬ dt)) → exec (.channelThermal ch tj rt) s = .next v) ∧
      (chConducts (s.chan ch).st = true → hot → exec (.channelThermal ch tj rt) s = .next ((v.chkThermal ch .thermal).safetyFail ch).settle) ∧
      (chConducts (s.chan ch).st = true → ¬ hot → dt → exec (.channelThermal ch tj rt) s = .next ((v.chkThermal ch .deltaT).safetyFail ch).settle)) ∧
    (∀ cause, let u := s.chkThermal ch cause
      (u.chan ch).st = .thermLatch ∧ (u.chan ch).cause = cause ∧ (u.chan ch).duty = 0 ∧ u.holds (.conduction ch) = false ∧ u.evtSet 0x0D 1 ∧
      (∀ k, k ≠ ch → u.chan k = s.chan k) ∧ u = { s.noting u with chk := u.chk, permits := u.permits }) ∧
    (∀ tj rt, ∀ v : State, v = s.setChan ch { s.chan ch with tj := tj } →
      let cooled := if (s.chan ch).cause = .deltaT then (∀ k, k / 4 = ch / 4 → (v.chan k).tj - rt ≤ 40) else tj ≤ 150
      (¬ (s.chanLive ch = true ∧ (s.chan ch).st = .thermLatch ∧ cooled) → exec (.thermalRelease ch tj rt) s = .next s) ∧
      (s.chanLive ch = true → (s.chan ch).st = .thermLatch → cooled → exec (.thermalRelease ch tj rt) s =
        .next (if (s.chan ch).left = 0 then v.chkLatch ch (s.chan ch).cause else v.chkRetry ch).settle)) ∧
    (∀ cause, let u := s.chkLatch ch cause
      (u.chan ch).st = .latchedOff ∧ (u.chan ch).cause = cause ∧ (u.chan ch).duty = 0 ∧ u.holds (.conduction ch) = false ∧ u.evtSet 0x0D 2 ∧
      (∀ k, k ≠ ch → u.chan k = s.chan k)) ∧
    (exec (.retryTimerExpiry ch) s = .next (if s.chanLive ch = true ∧ (s.chan ch).st = .retryWait then (s.chkRetry ch).settle else s)) ∧
    ((s.chk.supply ≠ .normal → s.chkRetry ch = s.setChan ch { s.chan ch with st := .supplyOff, cause := .supply, before := .retryWait }) ∧
      (s.chk.supply = .normal → s.awake = false → s.chkRetry ch = s.setChan ch { s.chan ch with retrying := true }) ∧
      (s.chk.supply = .normal → s.awake = true → (s.chan ch).left = 0 → s.chkRetry ch = s.chkLatch ch (s.chan ch).cause) ∧
      (s.chk.supply = .normal → s.awake = true → (s.chan ch).left ≠ 0 → (s.chan ch).wantDuty = 0 → s.chkRetry ch = s.chkOff ch) ∧
      (s.chk.supply = .normal → s.awake = true → (s.chan ch).left ≠ 0 → (s.chan ch).wantDuty ≠ 0 → let u := s.chkRetry ch
        (u.chan ch).st = .permitWait ∧ (u.chan ch).left = (s.chan ch).left - 1 ∧ (u.chan ch).retries = (s.chan ch).retries + 1 ∧
        (∀ k, k ≠ ch → u.chan k = s.chan k) ∧ u = { s with chk := u.chk, permits := u.permits })) ∧
    (exec (.retryBudgetRefill ch) s = .next (if s.chanLive ch = true ∧ chConducts (s.chan ch).st = true
      then s.setChan ch { s.chan ch with left := (s.cChan ch).retryMax } else s)) ∧
    (exec (.dutyZeroTimeout ch) s = .next (if s.chanLive ch = true ∧ ((s.chan ch).st = .on ∨ (s.chan ch).st = .hold) ∧ (s.chan ch).duty = 0
      then (s.chkOff ch).settle else s)) ∧
    (let u := s.chkOff ch;
      (u.chan ch).st = .off ∧ (u.chan ch).want = false ∧ (u.chan ch).duty = 0 ∧ u.holds (.inrush ch) = false ∧ u.holds (.conduction ch) = false ∧
      (∀ k, k ≠ ch → u.chan k = s.chan k) ∧ u = { s with chk := u.chk, permits := u.permits }) ∧
    (∀ mA ms, (s.chanLive ch = false ∨ chConducts (s.chan ch).st = false ∨ ms < 100) → exec (.openLoad ch mA ms) s = .next s) ∧
    (∀ mA ms, s.chanLive ch = true → chConducts (s.chan ch).st = true → 100 ≤ ms → ∃ u : State, exec (.openLoad ch mA ms) s = .next u ∧
      u.chan ch = { s.chan ch with openLoad := decide (mA < 5 * (s.cChan ch).iNom) } ∧ (∀ k, k ≠ ch → u.chan k = s.chan k) ∧
      (mA < 5 * (s.cChan ch).iNom → (s.chan ch).openLoad = false → u.evtSet 0x0D 5) ∧ u = { s.noting u with chk := u.chk }) ∧
    (∀ near ms, (s.chanLive ch = false ∨ chConducts (s.chan ch).st = true ∨ ms < 10) → exec (.stuckOn ch near ms) s = .next s) ∧
    (∀ near ms, s.chanLive ch = true → chConducts (s.chan ch).st = false → 10 ≤ ms → ∃ u : State,
      exec (.stuckOn ch near ms) s = .next (if near = true ∧ (s.cChan ch).safety = true then u.safeStop 4 ch else u).settle ∧
      u.chan ch = { s.chan ch with stuckOn := near } ∧ (∀ k, k ≠ ch → u.chan k = s.chan k) ∧
      (near = true → (s.chan ch).stuckOn = false → u.evtSet 0x0D 5) ∧ u = { s.noting u with chk := u.chk }) ∧
    (∀ vaux gnd, s.sys.inReset = true → exec (.supplyAnomaly vaux gnd) s = .next s ∧ exec (.supplyAnomalyEnd vaux gnd) s = .next s) ∧
    (∀ vaux gnd, s.sys.inReset = false →
      let kind : Supply := if 2000 < gnd then .groundLoss else if vaux < -10 then .reverse else if 380 < vaux then .surge
        else if vaux < 60 then .undervoltage else .normal
      let ended := (s.chk.supply = .undervoltage ∧ 70 < vaux) ∨ (s.chk.supply = .surge ∧ vaux < 360) ∨ (s.chk.supply = .groundLoss ∧ gnd ≤ 2000) ∨
        (s.chk.supply = .reverse ∧ 0 < vaux)
      ∀ v : State, v = { s with sys := { s.sys with vaux := vaux } } →
        ((kind = .normal ∨ kind = s.chk.supply) → exec (.supplyAnomaly vaux gnd) s = .next v) ∧
        (kind ≠ .normal → kind ≠ s.chk.supply → exec (.supplyAnomaly vaux gnd) s = .next (v.supplyFails kind).settle) ∧
        (¬ ended → exec (.supplyAnomalyEnd vaux gnd) s = .next s) ∧
        (ended → kind ≠ .normal → exec (.supplyAnomalyEnd vaux gnd) s = .next (v.supplyFails kind).settle) ∧
        (ended → kind = .normal → exec (.supplyAnomalyEnd vaux gnd) s = .next ((List.range 32).foldl (fun (a : State) k => a.chanRestore k)
          { v with chk := { v.chk with supply := .normal } }).settle)) ∧
    (∀ kind, ∃ u : State, s.supplyFails kind = (List.range 32).foldl (fun (a : State) k => a.chanSupply kind k) u ∧
      u.chk = { s.chk with supply := kind } ∧ (s.chk.supply = .normal → u.evtSet 0x0D 3) ∧ u = { s.noting u with chk := u.chk }) ∧
    (∀ kind, let live := chConducts (s.chan ch).st || decide ((s.chan ch).st = .permitWait)
      (((s.cChan ch).configured = false ∨ (s.chan ch).st = .supplyOff ∨ (live = false ∧ kind ≠ .reverse)) → s.chanSupply kind ch = s) ∧
      ((s.cChan ch).configured = true → (s.chan ch).st ≠ .supplyOff → (live = true ∨ kind = .reverse) → ∃ u : State,
        s.chanSupply kind ch = (if live = true ∨ (s.gate ch).req = true then u.safetyFail ch else u) ∧ (u.chan ch).st = .supplyOff ∧
        (u.chan ch).cause = .supply ∧ (u.chan ch).duty = 0 ∧ (u.chan ch).before = (if live then .on else (s.chan ch).st) ∧
        u.holds (.inrush ch) = false ∧ u.holds (.conduction ch) = false ∧ (∀ k, k ≠ ch → u.chan k = s.chan k))) ∧
    (let x := s.chan ch;
      (x.st ≠ .supplyOff → s.chanRestore ch = s) ∧
      (x.st = .supplyOff → (x.before = .retryWait ∨ x.before = .thermLatch ∨ x.before = .latchedOff) →
        s.chanRestore ch = s.setChan ch { x with st := x.before }) ∧
      (x.st = .supplyOff → x.before ≠ .retryWait → x.before ≠ .thermLatch → x.before ≠ .latchedOff →
        ((x.want = false ∨ (s.cChan ch).safety = true ∨ x.wantDuty = 0) → s.chanRestore ch = s.setChan ch { x with st := .off }) ∧
        (x.want = true → (s.cChan ch).safety = false → x.wantDuty ≠ 0 → s.chanRestore ch =
          if s.awake = true then s.chkAsk ch x.wantDuty false else s.setChan ch { x with st := .permitWait })))) ∧
 ((∀ (s : State) (meas : List ChMeas), s.sys.inReset = true → exec (.conductionRecompute meas) s = .next s ∧ exec (.currentSumShed meas) s = .next s) ∧
  (∀ (s : State) (meas : List ChMeas), s.sys.inReset = false → ∃ v w : State,
    v = meas.foldl (fun (a : State) m => if a.chanLive m.ch then a.setChan m.ch { a.chan m.ch with
      mA := m.mA, tj := m.tj, tjMax := max (a.chan m.ch).tjMax m.tj,
      secs := if chConducts (a.chan m.ch).st then (a.chan m.ch).secs + 1 else (a.chan m.ch).secs } else a) s ∧
    let total := (List.range 32).foldl (fun n ch => n + (v.chan ch).watts) 0
    w.chk.pCond = total ∧ (∀ k, w.chan k = v.chan k) ∧ w = { s with chk := w.chk, permits := w.permits } ∧
    exec (.conductionRecompute meas) s = .next (if 5500 < s.chk.pCond ∧ 5500 < total
      then w.shedUntil 5500 (fun ch => (v.chan ch).watts) 32 total else w).settle) ∧
  (∀ (s : State) (meas : List ChMeas), s.sys.inReset = false → ∀ v : State,
    v = meas.foldl (fun (a : State) m => if a.chanLive m.ch then a.setChan m.ch { a.chan m.ch with mA := m.mA, tj := m.tj } else a) s →
    let fig (ch : Nat) : Nat := if (v.chan ch).st = .inrush then 100 * (s.cChan ch).iNom else if chConducts (v.chan ch).st then (v.chan ch).mA else 0
    exec (.currentSumShed meas) s = .next (v.shedUntil 38000 fig 32 ((List.range 32).foldl (fun n ch => n + fig ch) 0)).settle) ∧
  (∀ (s : State) (limit n total : Nat) (fig : Nat → Nat),
    ((total ≤ limit ∨ s.shedNext = none) → s.shedUntil limit fig (n + 1) total = s) ∧
    (∀ a, limit < total → s.shedNext = some a → s.shedUntil limit fig (n + 1) total = (s.shedOne a).shedUntil limit fig n (total - fig a))) ∧
  (∀ (s : State) (a : Nat), s.shedNext = some a → s.sheddable a = true ∧ a < 32 ∧ ∀ b, b < 32 → s.sheddable b = true →
    (s.cChan b).shed < (s.cChan a).shed ∨ ((s.cChan b).shed = (s.cChan a).shed ∧ b ≤ a)) ∧
  (∀ s : State, s.shedNext = none → ∀ b, b < 32 → s.sheddable b = false) ∧
  (∀ (s : State) (b : Nat), ((s.cChan b).safety = true ∨ (s.cChan b).shed = 0) → s.sheddable b = false) ∧
  (∀ (s : State) (limit n total : Nat) (fig : Nat → Nat) (b : Nat), s.sheddable b = false →
    (s.shedUntil limit fig n total).chan b = s.chan b) ∧
  (∀ (s : State) (a : Nat), let u := s.shedOne a
    (u.chan a).st = .off ∧ (u.chan a).cause = .shed ∧ (u.chan a).shed = true ∧ u.evtSet 0x0D 4 ∧ u.sheddable a = false ∧
    u.holds (.conduction a) = false ∧ (∀ k, k ≠ a → u.chan k = s.chan k)))

/-- R382, R385, R387, R392 to R399: a frame Skidline receives. In a reset and while it does not run there is none; in IDLE-SITE one that
decodes and is for this node or all wakes the part, which then processes it without an acknowledgement, and any other is not kept. One
that does not decode, of another domain, or that does not verify under a key in force is counted and does nothing else. A verified one for
another node only holds the medium. Of one for this node the counter is taken once, and a repeated one sets the replay event; an
acknowledgement completes what it names; a ROUTE frame is heard; a frame of this node's own and a repeated message are not passed on; an
application frame for this node joins the queue of 64, or is dropped with its event. A Hinge frame it holds is then Hinge's. -/
def Obligations.SkidlineFramesReceived : Prop :=
  ∀ (s : State) (rx : SRx) (f : SFrame),
    let idle := decide (s.sys.pstate = .idleSite)
    let wakes := s.canWake 3 0 && (decide (f.dst = s.sklAddr) || decide (f.dst = everyone)) && (rx.codewords s.img.skl.coupling).all codewordOk
    ((s.sys.inReset = true ∨ s.skl.run = false ∨ (idle = true ∧ wakes = false)) → exec (.skidlineFrameRx rx f) s = .next s) ∧
    (s.sys.inReset = false → s.skl.run = true → (idle = true → wakes = true) → ∀ r : State × Bool,
      r = (if idle then s.wakeUp 3 0 else s).sklRx rx f (!idle) →
      ((r.2 = false ∨ f.hinge = none ∨ r.1.hingeLive = false) → exec (.skidlineFrameRx rx f) s = .next r.1) ∧
      (∀ h, r.2 = true → f.hinge = some h → r.1.hingeLive = true → ∀ g : HFrame, g = { h with link := sklLink, peer := f.orig } →
        exec (.skidlineFrameRx rx f) s = .next (if f.hKind = 0 then r.1.dataRx g else if f.hKind = 1 then r.1.connectRx g else r.1.ackRx g).settle)) ∧
    (∀ up, let cw := rx.codewords s.img.skl.coupling
      let k := s.sklKey f.epoch
      let live := f.epoch = s.skl.epoch ∨ s.skl.prevEpoch = some f.epoch
      (cw.all codewordOk = false → ∃ u : State, s.sklRx rx f up = (u, false) ∧ u.skl.rxLost = s.skl.rxLost + 1 ∧
        u.skl.windows = s.skl.windows ∧ u.skl.appq = s.skl.appq ∧ u.skl.nodes = s.skl.nodes ∧ u = { s with skl := u.skl }) ∧
      (cw.all codewordOk = true → f.domain ≠ s.img.skl.domain → ∃ u : State, s.sklRx rx f up = (u, false) ∧ u.skl.rxOk = s.skl.rxOk ∧
        u.skl.windows = s.skl.windows ∧ u.skl.appq = s.skl.appq ∧ u.skl.nodes = s.skl.nodes ∧ u = { s with skl := u.skl }) ∧
      (cw.all codewordOk = true → f.domain = s.img.skl.domain → ¬ (live ∧ k = some f.signer) → ∃ u : State, s.sklRx rx f up = (u, false) ∧
        u.skl.micFail = s.skl.micFail + 1 ∧ u.skl.windows = s.skl.windows ∧ u.skl.appq = s.skl.appq ∧
        u.skl.nodes = s.skl.nodes ∧ u = { s with skl := u.skl }) ∧
      (cw.all codewordOk = true → f.domain = s.img.skl.domain → live → k = some f.signer → ∃ u : State, u.skl.rxOk = s.skl.rxOk + 1 ∧
        (u.sklNode f.src).neighbour = true ∧ (u.sklNode f.src).heard = s.now ∧ u.skl.windows = s.skl.windows ∧ u.skl.appq = s.skl.appq ∧
        u.skl.txq = s.skl.txq ∧ u.skl.dups = s.skl.dups ∧ u = { s with skl := u.skl } ∧
        (f.dst ≠ s.sklAddr → f.dst ≠ everyone → ∃ b, s.sklRx rx f up = ({ u with skl := { u.skl with busy := b } }, false) ∧
          (f.typ = .ack → b = (s.skl.ackWait.isSome || s.skl.ackDue.isSome)) ∧ (f.typ ≠ .ack → f.ackReq = true → b = true) ∧
          (f.typ ≠ .ack → f.ackReq = false → b = s.skl.busy)) ∧
        ((f.dst = s.sklAddr ∨ f.dst = everyone) → ∀ w, w = tget {} s.skl.windows (winKey f.epoch f.src f.dst) →
          (w.fresh 32 f.ctr = false → s.sklRx rx f up = (u.setEvt 0x0E 6, false)) ∧
          (w.fresh 32 f.ctr = true → ∃ v : State,
            v = { u with skl := { u.skl with windows := tset {} u.skl.windows (winKey f.epoch f.src f.dst) (w.take 32 f.ctr) } } ∧
            (f.typ = .ack → s.sklRx rx f up = (v.sklAckRx f, false)) ∧ (f.typ = .route → s.sklRx rx f up = (v.sklRouteRx f, false)) ∧
            ((f.typ = .data ∨ f.typ = .path) → s.sklRx rx f up =
              ((v.sklOweAck f up).sklLearn f).sklPass (rx.best s.img.skl.coupling).snr f)))))  ∧
    (∀ g, s.skl.ackWait = some g.id → s.skl.txq.find? (fun x => x.id = g.id) = some g →
      s.sklAckRx f = if g.sent = some (f.src, f.ackCtr) then s.sklAcked g f.src else s) ∧
    (s.skl.ackWait = none → s.sklAckRx f = s) ∧
    (∀ g d, let u := s.sklAcked g d
      u.skl.txq = s.skl.txq.filter (fun x => x.id ≠ g.id) ∧ (s.skl.ackWait = some g.id → u.skl.ackWait = none ∧ u.skl.busy = false) ∧
      (∀ x ∈ u.hst.flights, x.waits ≠ .sklFrame g.id)) ∧
    (∀ up, s.sklOweAck f up = if f.ackReq = true ∧ f.dst = s.sklAddr ∧ up = true
      then { s with skl := { s.skl with ackDue := some (f.src, f.ctr), busy := true } } else s) ∧
    (∀ q, (f.orig = s.sklAddr ∨ (f.orig, f.mseq) ∈ s.skl.dups) → s.sklPass q f = (s, false)) ∧
    (∀ q, f.typ = .data → f.proto = 3 → f.final = s.sklAddr → f.orig ≠ s.sklAddr → (f.orig, f.mseq) ∉ s.skl.dups → ∃ u : State,
      s.sklPass q f = (u, false) ∧ (f.orig, f.mseq) ∈ u.skl.dups ∧
      (s.skl.appq.length < 64 → ∃ a, u.skl.appq = s.skl.appq ++ [a] ∧ a.payload = f.payload ∧ a.orig = f.orig ∧ a.snr = q ∧ a.time = s.now) ∧
      (64 ≤ s.skl.appq.length → u.skl.appq = s.skl.appq ∧ u.evtSet 0x0E 0) ∧ u = { s.noting u with skl := u.skl }) ∧
    (∀ q, f.typ = .data → f.proto = 1 → f.final = s.sklAddr → f.orig ≠ s.sklAddr → (f.orig, f.mseq) ∉ s.skl.dups → ∃ u : State,
      s.sklPass q f = (u, true) ∧ (f.orig, f.mseq) ∈ u.skl.dups ∧ u.skl.appq = s.skl.appq ∧ u = { s with skl := u.skl })

/-- R379, R386 to R397: Skidline's own frames and its clocks. A frame goes out under its link's next counter, the driver enabled 6,144
counts before it until 6,144 after, and a pause follows. A due acknowledgement is sent once, unless the node is an orphan; one that did
not come is a failed attempt with windows to skip, and after the last retry the frame is dropped, counted and its command ends with
TIMEOUT. A slot of a class takes that class's first frame, forwarded ones first, and only ROUTE frames of an orphan; what senses the
medium busy, skips, or has no key, sends nothing. An ALARM frame may go without sensing, with its event. Routes, paths and epochs follow
their times. A receive window never takes a counter twice. -/
def Obligations.SkidlineSends : Prop :=
  ∀ s : State,
    (∀ start f, let u := s.sklOut start f
      let w := s.img.skl.planW
      let fin := start + sklSpan w (f.blocks w)
      (∃ g : SFrame, u.sent = .sklTxen (fin + 6144) false :: .skl (if s.img.skl.coupling = 2 then 3 else 1) (f.blocks w) g ::
          .sklTxen (start - 6144) true :: s.sent ∧
        g = { f with ver := s.sklVersion f.dst, domain := s.img.skl.domain, src := s.sklAddr, epoch := s.skl.epoch,
                     ctr := tget 0 s.skl.ctrs f.dst + 1, signer := (s.sklKey s.skl.epoch).getD 0 }) ∧
      tget 0 u.skl.ctrs f.dst = tget 0 s.skl.ctrs f.dst + 1 ∧ (∀ k, k ≠ f.dst → tget 0 u.skl.ctrs k = tget 0 s.skl.ctrs k) ∧
      u.skl.txFrames = s.skl.txFrames + 1 ∧ u.skl.pauseTo = fin + (if w then 122880 else 1536000) ∧
      (tget 0 s.skl.ctrs f.dst + 1 = 2 ^ 31 → u.evtSet 0x0E 3) ∧ (tget 0 s.skl.ctrs f.dst + 1 = 0xFFFFFFFF → u.evtSet 0x0E 4) ∧
      u = { s.noting u with skl := u.skl, sent := u.sent }) ∧
    (∀ start, (s.skl.ackDue = none ∨ s.sklLive = false ∨ s.skl.orphan = true) → exec (.ackSend start) s = .next s) ∧
    (∀ start d, s.skl.ackDue = some d → s.sklLive = true → s.skl.orphan = false →
      ∀ v : State, v = { s with skl := { s.skl with ackDue := none, busy := s.skl.ackWait.isSome } } →
      (0xFFFFFFFF ≤ tget 0 s.skl.ctrs d.1 → exec (.ackSend start) s = .next v.sklFailed) ∧
      (tget 0 s.skl.ctrs d.1 < 0xFFFFFFFF → s.sklKey s.skl.epoch = none → exec (.ackSend start) s = .next v) ∧
      (tget 0 s.skl.ctrs d.1 < 0xFFFFFFFF → s.sklKey s.skl.epoch ≠ none → exec (.ackSend start) s =
        .next ({ v with skl := { v.skl with mseq := (s.skl.mseq + 1) % 65536 } }.sklOut start
          { typ := .ack, noFwd := true, dst := d.1, orig := s.sklAddr, final := d.1, mseq := s.skl.mseq, ackCtr := d.2 }))) ∧
    (∀ k, (∀ id, s.skl.ackWait = some id → s.skl.txq.find? (fun g => g.id = id) = none) →
      exec (.ackIntervalExpiry k) s = .next { s with skl := { s.skl with ackDue := none, busy := false } }) ∧
    (∀ k g, s.skl.ackWait = some g.id → s.skl.txq.find? (fun x => x.id = g.id) = some g → ∃ v : State,
      v.skl.ackWait = none ∧ v.skl.busy = false ∧ v.skl.txq = s.skl.txq ∧ v = { s with skl := v.skl } ∧
      (∀ d, g.sent = some d → (v.sklNode d.1).attempts = (false :: (s.sklNode d.1).attempts).take 32) ∧
      ((match g.cls with | .alarm => 0 | .control => 3 | .bulk => 7) < g.attempts → exec (.ackIntervalExpiry k) s = .next (v.sklDrop g)) ∧
      (g.attempts ≤ (match g.cls with | .alarm => 0 | .control => 3 | .bulk => 7) → exec (.ackIntervalExpiry k) s =
        .next { v with skl := { v.skl with txq := s.skl.txq.map (fun x => if x.id = g.id then { x with skip := k % 2 ^ g.attempts, win := none } else x) } })) ∧
    (∀ g, let u := s.sklDrop g
      u.skl.txq = s.skl.txq.filter (fun x => x.id ≠ g.id) ∧ u.skl.txFails = s.skl.txFails + 1 ∧ u.evtSet 0x0E 1 ∧
      (∀ x ∈ u.hst.flights, x.waits ≠ .sklFrame g.id)) ∧
    (∀ idle n slot sensed, let w := s.img.skl.planW
      let start := if w then idle + 61440 + (16 * n + slot) * 6144 else idle + 1044480 + (16 * n + slot) * 23040
      let cls : SklClass := if slot = 0 then .alarm else if slot ≤ 3 then .control else .bulk
      let clear := s.sklLive = true ∧ sensed = false ∧ s.skl.busy = false ∧ slot < 16 ∧ s.skl.pauseTo ≤ start
      ((¬ clear ∨ s.sklPick cls = none) → exec (.skidlineTxSlot idle n slot sensed) s = .next s) ∧
      (∀ f, clear → s.sklPick cls = some f →
        (f.win = some (idle, n) → exec (.skidlineTxSlot idle n slot sensed) s = .next s) ∧
        (f.win ≠ some (idle, n) → f.skip = 0 → exec (.skidlineTxSlot idle n slot sensed) s = .next (s.sklTransmit start f)) ∧
        (f.win ≠ some (idle, n) → f.skip ≠ 0 → exec (.skidlineTxSlot idle n slot sensed) s = .next { s with skl := { s.skl with
          txq := s.skl.txq.map (fun g => if g.id = f.id then { g with skip := g.skip - 1, win := some (idle, n) } else g) } }))) ∧
    (∀ cls f, s.sklPick cls = some f → f ∈ s.skl.txq ∧ f.cls = cls ∧ (s.skl.orphan = true → f.typ = .route) ∧
      (f.forwarded = false → ∀ g ∈ s.skl.txq, g.cls = cls → g.forwarded = true → s.skl.orphan = true ∧ g.typ ≠ .route)) ∧
    (∀ start f, (∀ d, s.sklNext f = some d → 0xFFFFFFFF ≤ tget 0 s.skl.ctrs d) → s.sklTransmit start f = s.sklDrop f) ∧
    (∀ start f d, s.sklNext f = some d → tget 0 s.skl.ctrs d < 0xFFFFFFFF →
      (s.sklKey s.skl.epoch = none → s.sklTransmit start f = s) ∧
      (s.sklKey s.skl.epoch ≠ none → ∀ v : State, v = s.sklOut start (f.frame d) →
        ((f.ackReq = false ∨ d = everyone) → s.sklTransmit start f = (v.sklUnqueue f.id).finish (sklFlight f.id) .ok) ∧
        (f.ackReq = true → d ≠ everyone → s.sklTransmit start f = { v with skl := { v.skl with
          txq := s.skl.txq.map (fun g => if g.id = f.id then { f with attempts := f.attempts + 1, sent := some (d, tget 0 s.skl.ctrs d + 1) } else g)
          ackWait := some f.id
          busy := true } }))) ∧
    (∀ id, s.skl.txq.find? (fun f => f.id = id) = none → exec (.frameLifetimeExpiry id) s = .next s) ∧
    (∀ id f, s.skl.txq.find? (fun f => f.id = id) = some f → exec (.frameLifetimeExpiry id) s = .next (s.sklDrop f)) ∧
    (∀ start, (s.sklLive = false ∨ s.sklPick .alarm = none) → exec (.alarmForced start) s = .next s) ∧
    (∀ start f, s.sklLive = true → s.sklPick .alarm = some f → exec (.alarmForced start) s = .next ((s.sklTransmit start f).setEvt 0x0E 7)) ∧
    (s.sklLive = false → exec .routeBroadcast s = .next s) ∧
    (s.sklLive = true → ∃ (u : State) (g : TxFrame), exec .routeBroadcast s = .next u ∧ u.skl.txq = s.skl.txq ++ [g] ∧ g.typ = .route ∧ g.cls = .bulk ∧
      g.final = everyone ∧ g.ackReq = false ∧ g.noFwd = true ∧ g.orig = s.sklAddr ∧ g.mseq = s.skl.mseq ∧ g.route = s.sklSelf ∧
      u.skl.mseq = (s.skl.mseq + 1) % 65536 ∧ u = { s with skl := u.skl }) ∧
    ((s.sklLive = false ∨ s.img.skl.coord = true ∨ s.skl.orphan = true) → exec .pathSend s = .next s) ∧
    (s.sklLive = true → s.img.skl.coord = false → s.skl.orphan = false → ∃ (u : State) (g : TxFrame), exec .pathSend s = .next u ∧
      u.skl.txq = s.skl.txq ++ [g] ∧ g.typ = .path ∧ g.cls = .control ∧ g.final = 0 ∧ g.ackReq = true ∧ g.orig = s.sklAddr ∧ g.mseq = s.skl.mseq ∧
      g.route = s.sklSelf ∧ u = { s with skl := u.skl }) ∧
    (∀ n, exec (.routeEntryExpiry n) s = .next { s with skl := { s.skl with routes := tset 0 s.skl.routes n 0 } }) ∧
    (exec .epochActivation s = .next (if s.skl.run = true ∧ s.skl.actTime ≠ 0 then { s with skl := { s.skl with
      prevEpoch := some s.skl.epoch, epoch := s.skl.nextEpoch, actTime := 0, ctrs := [] } } else s)) ∧
    (s.skl.prevEpoch = none → exec .oldEpochExpiry s = .next s) ∧
    (∀ e, s.skl.prevEpoch = some e → ∃ u : State, exec .oldEpochExpiry s = .next u ∧ u.skl.prevEpoch = none ∧
      (∀ p, p ∈ u.skl.windows ↔ p ∈ s.skl.windows ∧ p.1 / 2 ^ 32 ≠ e) ∧ u = { s with skl := u.skl }) ∧
    (∀ (w : Window) (x : Nat), (w.top = 0 ∨ w.top ∈ w.seen) → w.fresh 32 x = true → (w.take 32 x).fresh 32 x = false ∧
      w.top ≤ (w.take 32 x).top ∧ (w.take 32 x).top ∈ (w.take 32 x).seen ∧ (∀ y, w.fresh 32 y = false → (w.take 32 x).fresh 32 y = false))

/-- R396, R401: the SKL commands with each of their failures. A payload for a node that can be reached is queued under the next message
number and the command waits for it; where Skidline does not run, an ORPHAN, and on a link whose counter has ended it is STATE, on a full
queue NOSPACE, out of range RANGE, and from a coordinator that knows no way TIMEOUT at once. Received payloads are copied and leave the
queue; a node heard of is read; the coordinator announces the next epoch with a key for it, 60 s to a week ahead. -/
def Obligations.SkidlineCommandsComplete : Prop :=
  ∀ (s : State) (c : Cmd),
    (∀ n k p, s.ready c 0x0E01 →
      let fits := (n ≤ 4095 ∨ n = everyone) ∧ (k = 1 ∨ k = 2) ∧ p.length ≠ 0 ∧ p.length ≤ (if s.img.skl.planW then 737 else 161)
      let ended := ∃ h, s.sklHop n = some h ∧ 0xFFFFFFFF ≤ tget 0 s.skl.ctrs h
      (s.skl.run = false → exec (.sklSend c n k p) s = .next (s.failAs c 0x0E01 .state)) ∧
      (s.skl.run = true → ¬ fits → exec (.sklSend c n k p) s = .next (s.failAs c 0x0E01 .range)) ∧
      (s.skl.run = true → fits → (s.skl.orphan = true ∨ ended) → exec (.sklSend c n k p) s = .next (s.failAs c 0x0E01 .state)) ∧
      (s.skl.run = true → fits → s.skl.orphan = false → ¬ ended → 32 ≤ s.skl.txq.length → exec (.sklSend c n k p) s =
        .next (s.failAs c 0x0E01 .nospace)) ∧
      (s.skl.run = true → fits → s.skl.orphan = false → ¬ ended → s.skl.txq.length < 32 → s.sklHop n = none → exec (.sklSend c n k p) s =
        .next (s.doneAs c 0x0E01 .timeout 0 [] (fun u => u.sklFailed))) ∧
      (s.skl.run = true → fits → s.skl.orphan = false → ¬ ended → s.skl.txq.length < 32 → s.sklHop n ≠ none → exec (.sklSend c n k p) s =
        .next (s.waitAs c 0x0E01 (.sklFrame s.skl.nextTx) (fun u => u.sklOwn
          { cls := if k = 1 then .control else .bulk, final := n, ackReq := decide (n ≠ everyone), payload := p })))) ∧
    (∀ n dst, s.ready c 0x0E02 →
      (s.skl.run = false → exec (.sklRxRead c n dst) s = .next (s.failAs c 0x0E02 .state)) ∧
      (s.skl.run = true → (n = 0 ∨ 16 < n ∨ dstOk dst (768 * n) = false) → exec (.sklRxRead c n dst) s = .next (s.failAs c 0x0E02 .range)) ∧
      (s.skl.run = true → 1 ≤ n → n ≤ 16 → dstOk dst (768 * n) = true → ∃ f : State → State,
        exec (.sklRxRead c n dst) s = .next (s.okAs c 0x0E02 (le 4 (s.skl.appq.take n).length) f) ∧ ∀ u : State, u.skl = s.skl →
          (f u).skl = { s.skl with appq := s.skl.appq.drop n } ∧ (f u).tly = u.tly ∧ (f u).cfg = u.cfg ∧
          ((∀ a ∈ s.skl.appq, a.payload.length ≤ 752) → ∀ i a, i < n → s.skl.appq[i]? = some a →
            (f u).readMem (landing (dst + 768 * i)) 16 = a.bytes.take 16))) ∧
    (∀ n, s.ready c 0x0E03 → exec (.sklNodeRead c n) s = .next (if s.sklNode n = {} then s.failAs c 0x0E03 .range else s.okAs c 0x0E03
      (le 2 (s.sklNode n).parent ++ le 1 (s.sklNode n).hops ++ le 2 (s.sklNode n).cost ++ le 1 (linkCost (s.sklNode n)) ++
        le 1 (s.sklNode n).costFrom ++ le 1 (s.sklNode n).verLo ++ le 1 (s.sklNode n).verHi ++ le 8 (s.sklNode n).heard.pack) id)) ∧
    (∀ t, s.ready c 0x0E04 →
      ((s.skl.run = false ∨ s.img.skl.coord = false ∨ s.sklKey ((s.skl.epoch + 1) % 256) = none) →
        exec (.sklRekey c t) s = .next (s.failAs c 0x0E04 .state)) ∧
      (s.skl.run = true → s.img.skl.coord = true → s.sklKey ((s.skl.epoch + 1) % 256) ≠ none → exec (.sklRekey c t) s =
        .next (if s.tim.sec + 60 ≤ t ∧ t ≤ s.tim.sec + 604800 then s.okAs c 0x0E04 [] (fun u =>
          { u with skl := { u.skl with nextEpoch := (s.skl.epoch + 1) % 256, actTime := t } }) else s.failAs c 0x0E04 .range)))

/-- R404 to R419: the reader's and the Tag's events. A ping of an antenna that may ping re-takes or moves the reference, or detects and
asks for its transaction, in IDLE-SITE wakes the part; another does nothing. A transaction counts at most 8 cards and holds a last ISO/IEC
14443-4 one, else the field goes off; a held card's time ends with the field. A select ends the latch of another file and latches what its
file shows; what was deferred is published as the latch ends. The field reads the pages there are, writes the mailbox alone and only where
it is allowed; its loss ends the latch and the suspensions. Totals and excerpt are published, or deferred while the host side rests or the
latch covers them. -/
def Obligations.ReaderAndTagEventsAct : Prop :=
  ∀ (s : State) (n : Nat),
    (∀ a p, let up := s.sys.inReset = false ∧ s.nfc.run = true ∧ n < 8 ∧ (s.cAnt n).en = true ∧ (s.ant n).suspended = false ∧ s.readerBusy = false ∧
        (s.awake = true ∨ (s.sys.pstate = .idleSite ∧ s.img.struct_.wakeKeep.getLsbD 2 = true))
      (¬ up → exec (.detectionPing n a p) s = .next s) ∧
      (up → (s.ant n).retake = true → exec (.detectionPing n a p) s = .next (s.setAnt n { s.ant n with retake := false, refAmp := a, refPh := p })) ∧
      (up → (s.ant n).retake = false → detects (s.ant n) a p = false → exec (.detectionPing n a p) s =
        .next (s.setAnt n { s.ant n with refAmp := moveRef (s.ant n).refAmp a, refPh := moveRef (s.ant n).refPh p })) ∧
      (up → (s.ant n).retake = false → detects (s.ant n) a p = true → ∃ u : State, (u.ant n).detects = (s.ant n).detects + 1 ∧ u.evtSet 0x0F n ∧
        (s.awake = true → exec (.detectionPing n a p) s = .next u.settle ∧ u.asks (.reader n) = true ∧
          u = { s.noting u with nfc := u.nfc, permits := u.permits }) ∧
        (s.awake = false → exec (.detectionPing n a p) s = .next (if u.canWake 2 0 = true then u.wakeUp 2 (((s.cAnt n).bay).getD 0) else u) ∧
          u.nfc.wakeAnt = some n ∧ u = { s.noting u with nfc := u.nfc }))) ∧
    (∀ h, s.nfc.heldCard = some h → ∃ u : State, exec .cardHoldExpiry s = .next u.settle ∧ u.nfc = { s.nfc with fieldOn := false, heldCard := none } ∧
      u.holds (.reader s.nfc.ant) = false ∧ u = { s with nfc := u.nfc, permits := u.permits }) ∧
    (s.nfc.heldCard = none → exec .cardHoldExpiry s = .next s) ∧
    (∀ cards, exec (.nfcTransaction n cards) s = .next (if s.awake = true ∧ s.nfc.fieldOn = true ∧ s.nfc.ant = n ∧ s.nfc.heldCard = none ∧
      s.hst.flights.find? (pollOn n) = none then (s.nfcRun n cards).1.settle else s)) ∧
    (∀ cards, let all := reached (s.cAnt n) cards
      let u := (s.nfcRun n cards).1
      (s.nfcRun n cards).2 = min 8 all.length ∧ (∀ k, k ≠ n → u.ant k = s.ant k) ∧
      (u.ant n).cards = (s.ant n).cards + BitVec.ofNat 16 (min 8 all.length) ∧ (8 < all.length → u.evtSet 0x0F 8) ∧
      ((u.ant n).retake = true ↔ (s.ant n).retake = true ∨ all.length ≤ 8) ∧
      (∀ k, (all.take 8).getLast? = some k → k.iso4 = true → u.nfc.heldCard = some k) ∧
      ((∀ k, (all.take 8).getLast? = some k → k.iso4 = false) → u.nfc.heldCard = none ∧ u.nfc.fieldOn = false)) ∧
    (∀ w : State, w = (if n = s.nfc.selected then s else s.unlatch) → exec (.tagSelect n) s = .next { w with nfc := { w.nfc with
      selected := n
      latchBuf := if n = 0xE105 then some w.nfc.activeBuf else w.nfc.latchBuf
      latchHead := if n = 0xE106 then some w.nfc.exHead else w.nfc.latchHead } }) ∧
    (∀ v : State, v = { s with nfc := { s.nfc with latchBuf := none, latchHead := none } } →
      let t := s.nfc.pubDue && s.tagHost
      let x := s.nfc.exDue && s.tagHost
      (t = false → x = false → s.unlatch = v) ∧ (t = true → x = false → s.unlatch = v.writeTotals) ∧
      (t = false → x = true → s.unlatch = v.copyExcerpt) ∧ (t = true → x = true → s.unlatch = v.writeTotals.copyExcerpt)) ∧
    (∀ k, exec (.tagReadBinary n k) s = .next (s.send (.tagData ((List.range k).foldl (fun l i => l ++ (if n + i < 256 then s.fieldPage (n + i) else [])) [])))) ∧
    (∀ d, (s.nfc.mbox = false ∨ n < 0xE0 ∨ 8192 < 32 * n + d.length) → exec (.tagUpdateBinary n d) s = .next s) ∧
    (∀ d, s.nfc.mbox = true → 0xE0 ≤ n → 32 * n + d.length ≤ 8192 → ∃ u : State, exec (.tagUpdateBinary n d) s = .next u ∧
      (∀ i, i < d.length → tget 0 u.nfc.tag (32 * n + i) = d.getD i 0) ∧
      (∀ x, (x < 32 * n ∨ 32 * n + d.length ≤ x) → tget 0 u.nfc.tag x = tget 0 s.nfc.tag x) ∧
      (s.sys.inReset = false → u.evtSet 0x0F 10) ∧ u = { s.noting u with nfc := u.nfc }) ∧
    (∃ w : State, exec .tagFieldLoss s = .next w.unlatch ∧ w = { s with nfc := w.nfc } ∧ w.nfc.tagField = false ∧ w.nfc.selected = 0 ∧
      (∀ k, (w.ant k).suspended = false) ∧ w.nfc = { s.nfc with tagField := false, selected := 0, ants := w.nfc.ants }) ∧
    (∃ u : State, exec .tagNearResume s = .next u ∧ (∀ k, (u.ant k).suspended = false) ∧
      (tabWf {} s.nfc.ants = true → ∀ k, u.ant k = { s.ant k with suspended := false }) ∧ u = { s with nfc := { s.nfc with ants := u.nfc.ants } }) ∧
    (s.tagHost = false → exec .tagFieldSessionStart s = .next s) ∧
    (s.tagHost = true → ∃ u : State, exec .tagFieldSessionStart s = .next u ∧ u.nfc.tagField = true ∧ u.evtSet 0x0F 12 ∧
      (∀ k, u.ant k = if k < 8 ∧ (s.cAnt k).en = true ∧ (s.cAnt k).tagNear = true then { s.ant k with suspended := true } else s.ant k) ∧
      u = { s.noting u with nfc := u.nfc }) ∧
    (exec .totalsPublish s = .next (if s.nfc.regsChanged = true ∧ s.tly.running = true then s.publishTotals else s)) ∧
    ((s.tagHost = false → s.publishTotals = { s with nfc := { s.nfc with pubDue := true } }) ∧
      (s.tagHost = true → s.nfc.latchBuf = some (!s.nfc.activeBuf) → ∃ u : State, s.publishTotals = u ∧
        u.nfc = { s.nfc with pubDue := true, deferrals := s.nfc.deferrals + 1 } ∧ u.evtSet 0x0F 11 ∧ u = { s.noting u with nfc := u.nfc }) ∧
      (s.tagHost = true → s.nfc.latchBuf ≠ some (!s.nfc.activeBuf) → ∃ u : State, s.publishTotals = u ∧
        u.nfc.activeBuf = (!s.nfc.activeBuf) ∧ u.nfc.snapSeq = s.nfc.snapSeq + 1 ∧ u.nfc.regsChanged = false ∧
        u.nfc.pubDue = false ∧ (∀ p, p < 0x10 → u.page p = s.page p) ∧ (∀ p, 0x70 ≤ p → p < 0xB0 → u.page p = s.page p))) ∧
    (s.sys.inReset = true → exec .excerptCopy s = .next s) ∧
    (s.sys.inReset = false →
      (s.blz.last ≤ s.nfc.exLseq → exec .excerptCopy s = .next { s with nfc := { s.nfc with exDue := false } }) ∧
      (s.nfc.exLseq < s.blz.last → s.tagHost = false → exec .excerptCopy s = .next { s with nfc := { s.nfc with exDue := true } }) ∧
      (s.nfc.exLseq < s.blz.last → s.tagHost = true → s.nfc.latchHead ≠ none → ∃ u : State, exec .excerptCopy s = .next u ∧
        u.nfc = { s.nfc with exDue := true, deferrals := s.nfc.deferrals + 1 } ∧ u.evtSet 0x0F 11 ∧ u = { s.noting u with nfc := u.nfc }) ∧
      (s.nfc.exLseq < s.blz.last → s.tagHost = true → s.nfc.latchHead = none → ∃ u : State, exec .excerptCopy s = .next u ∧
        u.nfc.exLseq = s.blz.last ∧ u.nfc.exHead = (s.nfc.exHead + min 16 (s.blz.last - s.nfc.exLseq)) % 16 ∧ u.nfc.exDue = false ∧
        (∀ p, p < 0x70 → u.page p = s.page p) ∧ u = { s with nfc := u.nfc }))

/-- R407, R416, R422: the NFC commands with each of their failures. A poll asks for its permit and waits; where the reader does not run,
the antenna is suspended or a transaction is about it is STATE, and on an antenna that is none RANGE. An exchange with the held card
copies the response, and without one ends the field with TIMEOUT; a release ends it; without a card on that antenna both are STATE. A page
software may write is written while the Tag's host side runs, also one the field holds for up to 50 ms, and one it holds longer is BUSY;
the Tag's own pages are refused. Pages are read as the host sees them. -/
def Obligations.NfcCommandsComplete : Prop :=
  ∀ (s : State) (c : Cmd) (n : Nat),
    (∀ cards, s.ready c 0x0F01 →
      ((8 ≤ n ∨ (s.cAnt n).en = false) → exec (.nfcPoll c n cards) s = .next (s.failAs c 0x0F01 .range).settle) ∧
      (n < 8 → (s.cAnt n).en = true → exec (.nfcPoll c n cards) s =
        .next (if s.nfc.run = true ∧ (s.ant n).suspended = false ∧ s.readerBusy = false
          then s.waitAs c 0x0F01 (.poll n cards) (fun u => u.readerAsk n) else s.failAs c 0x0F01 .state).settle)) ∧
    (∀ a r dst, s.ready c 0x0F02 →
      let held := s.nfc.heldCard.isSome = true ∧ s.nfc.ant = n
      let fits := a.length ≠ 0 ∧ a.length ≤ 261 ∧ dstOk dst 320 = true
      (¬ fits → exec (.nfcXchg c n a r dst) s = .next (s.failAs c 0x0F02 .range).settle) ∧
      (fits → ¬ held → exec (.nfcXchg c n a r dst) s = .next (s.failAs c 0x0F02 .state).settle) ∧
      (∀ l, fits → held → r = some l → exec (.nfcXchg c n a r dst) s = .next (s.okAs c 0x0F02 (le 4 (min 320 l.length))
        (fun u => (u.send (.apdu n)).writeGen dst (l.take 320))).settle) ∧
      (fits → held → r = none → exec (.nfcXchg c n a r dst) s =
        .next (s.doneAs c 0x0F02 .timeout 0 [] (fun u => (u.send (.apdu n)).fieldOff)).settle)) ∧
    (s.ready c 0x0F03 → exec (.nfcRelease c n) s = .next (if s.nfc.heldCard.isSome = true ∧ s.nfc.ant = n
      then s.okAs c 0x0F03 [] (fun u => u.fieldOff) else s.failAs c 0x0F03 .state).settle) ∧
    (∀ d ms, s.ready c 0x0F04 →
      ((n = 0 ∨ (0x10 ≤ n ∧ n < 0xC0) ∨ 0x100 ≤ n) → exec (.nfcTagWrite c n d ms) s = .next (s.failAs c 0x0F04 .range)) ∧
      (((1 ≤ n ∧ n < 0x10) ∨ (0xC0 ≤ n ∧ n < 0x100)) →
        (s.tagHost = false → exec (.nfcTagWrite c n d ms) s = .next (s.failAs c 0x0F04 .state)) ∧
        (s.tagHost = true → ms = 0 → exec (.nfcTagWrite c n d ms) s = .next (s.okAs c 0x0F04 [] (fun u => u.writeTag n (padTo 32 d)))) ∧
        (s.tagHost = true → 1 ≤ ms → ms ≤ 50 → exec (.nfcTagWrite c n d ms) s = .next (s.doneAs c 0x0F04 .hostHeld 0 [] (fun u =>
          { u.writeTag n (padTo 32 d) with nfc := { (u.writeTag n (padTo 32 d)).nfc with held := u.nfc.held + 1 } }))) ∧
        (s.tagHost = true → 50 < ms → exec (.nfcTagWrite c n d ms) s = .next (s.doneAs c 0x0F04 .busy 0 [] (fun u =>
          { u with nfc := { u.nfc with busy := u.nfc.busy + 1 } }))))) ∧
    (∀ k dst, s.ready c 0x0F05 →
      ((k = 0 ∨ 256 < n + k ∨ dstOk dst (32 * k) = false) → exec (.nfcTagRead c n k dst) s = .next (s.failAs c 0x0F05 .range)) ∧
      (1 ≤ k → n + k ≤ 256 → dstOk dst (32 * k) = true → exec (.nfcTagRead c n k dst) s = .next (if s.tagHost = true
        then s.okAs c 0x0F05 [] (fun u => u.writeGen dst ((List.range k).foldl (fun l i => l ++ s.hostPage (n + i)) []))
        else s.failAs c 0x0F05 .state)))

/-- R425 to R437: Brand's events, each in every state. The rails come up and what waits may start. A measured rail is at fault below 90 %
of its value while the rails start and off it by more than 10 % once they are up; a fault cuts every waveform, drops what waits and
latches. The rails stop after their hold with nothing running or waiting. A frame advances what runs on its panel: INIT and the running
regions, the last frame of each completing it; other panels stay, and after INIT the legal region is drawn again. A failed request is
asked again, and a legal region is drawn again when its content has changed, unless the rails are at fault. R425, R431 to R433: waveforms
start within the limits. Starting what qualifies never takes the bus load above 80 % nor the running waveforms above 16, and starts only
updates that wait; a new update takes the next number and waits in its region, where it replaces the one that waited, keeping its place,
and that one counts as superseded. -/
def Obligations.BrandEventsAct : Prop :=
 (∀ (s : State) (p : Nat),
    (exec .railsUp s = .next (if s.awake = true ∧ s.brd.rail = .starting
      then (({ s with brd := { s.brd with rail := .up } } : State).brandRun none).settle else s)) ∧
    (∀ (rail : Nat) (mv : Int), let v := railMv (s.cPanel p) rail;
      let bad : Prop := rail < 5 ∧ ((s.brd.rail = .starting ∧ (if v < 0 then -mv else mv) * 10 < 9 * (v.natAbs : Int)) ∨
        (s.brd.rail = .up ∧ v.natAbs < (mv - v).natAbs * 10));
      (¬ (s.awake = true ∧ bad) → exec (.brandRailFault p rail mv) s = .next s) ∧
      (s.awake = true → bad → ∃ u : State, exec (.brandRailFault p rail mv) s = .next u.settle ∧ u.brd.rail = .fault ∧
        u.brd.railPermit = false ∧ u.evtSet 0x10 2 ∧ u.holds .brandRail = false ∧
        (∀ q, q < 8 → (u.panel q).init = none ∧ (u.panel q).initWait = false ∧ (u.panel q).permit = false ∧
          ∀ r, r < 16 → (u.region q r).running = none ∧ (u.region q r).waiting = none) ∧
        u.tly = s.tly ∧ u.cfg = s.cfg ∧ u.vlk = s.vlk ∧ u.mem = s.mem)) ∧
    (∀ k : PanelCfg, railMv k 0 = -20000 ∧ railMv k 1 = 22000 ∧ railMv k 2 = -15000 ∧ railMv k 3 = 15000 ∧ railMv k 4 = -(10 * (k.vcom : Int))) ∧
    (exec .railHoldExpiry s = .next (if s.sys.inReset = false ∧ s.brd.rail = .up ∧ s.runningCount = 0 ∧ (List.range 8).any (fun q => s.panelWaits q) = false
      then ({ s.release .brandRail with brd := { s.brd with rail := .off, railPermit := false } } : State).settle else s)) ∧
    ((s.awake = false ∨ 8 ≤ p ∨ s.brd.rail ≠ .up ∨ s.panelRuns p = false) → exec (.panelFrame p) s = .next s) ∧
    (s.awake = true → p < 8 → s.brd.rail = .up → s.panelRuns p = true → ∃ u v : State,
      exec (.panelFrame p) s = .next (((v.brandRun (some p)).panelRest p).settle) ∧
      ((s.panel p).init = none → v = u) ∧ ((u.panel p).init.isSome = true → v = u) ∧
      ((s.panel p).init.isSome = true → (u.panel p).init = none → v = u.redraw p) ∧
      ((s.panel p).init = none → (u.panel p).init = none) ∧
      (∀ i b, (s.panel p).init = some (i, b) → i + 1 < framesOf (s.cPanel p) b → (u.panel p).init = some (i + 1, b)) ∧
      (∀ i b, (s.panel p).init = some (i, b) → framesOf (s.cPanel p) b ≤ i + 1 → (u.panel p).init = none ∧ (u.panel p).st = .idle ∧
        (u.panel p).firstAfterInit = true ∧ u.evtSet 0x10 0 ∧ ((∀ r, r < 16 → (s.region p r).running = none) →
          (u.panel p).runs = (s.panel p).runs + 1 ∧ (u.panel p).image = [] ∧ (u.panel p).legalShown = none)) ∧
      (∀ r w, r < 16 → (s.region p r).running = some w → w.frame + 1 < framesOf (s.cPanel p) w.band →
        u.region p r = { s.region p r with running := some { w with frame := w.frame + 1 } }) ∧
      (∀ r w, r < 16 → (s.region p r).running = some w → framesOf (s.cPanel p) w.band ≤ w.frame + 1 →
        u.region p r = { s.region p r with running := none, last := .done } ∧ u.evtSet 0x10 0) ∧
      (∀ r, r < 16 → (s.region p r).running = none → u.region p r = s.region p r) ∧
      (∀ q, q ≠ p → u.panel q = s.panel q) ∧ u = { s.noting u with brd := u.brd }) ∧
    (∀ which : Option Nat, (s.awake = false → exec (.brandPermitRetry which) s = .next s) ∧
      (s.awake = true → ∃ u : State, exec (.brandPermitRetry which) s = .next (u.askRails.askPanels).settle ∧
        (which = none → u = { s with brd := { s.brd with askLater := false } }) ∧
        (∀ q, which = some q → u = s.setPanel q { s.panel q with askLater := false }))) ∧
    (let asksNow : Prop := s.brd.rail = .off ∧ s.brd.askLater = false ∧ (∃ q, q < 8 ∧ s.panelWaits q = true) ∧ s.asks .brandRail = false ∧
        s.holds .brandRail = false;
      (asksNow → (s.askRails).asks .brandRail = true ∧ s.askRails = { s with permits := s.askRails.permits }) ∧ (¬ asksNow → s.askRails = s)) ∧
    (p < 8 → s.brd.rail = .up → s.panelWaits p = true → (s.panel p).permit = false → (s.panel p).askLater = false →
      s.askPanels.asks (.brandPanel p) = true) ∧
    (∀ bay, (s.legalPanel bay = none ∨ s.awake = false) → exec (.legalRegionRefresh bay) s = .next s) ∧
    (∀ bay, s.legalPanel bay = some p → (s.panel p).legalShown = some (s.legalContent bay) → exec (.legalRegionRefresh bay) s = .next s) ∧
    (∀ bay, s.legalPanel bay = some p → s.awake = true → (s.panel p).legalShown ≠ some (s.legalContent bay) →
      exec (.legalRegionRefresh bay) s = .next (s.legalRequest p (s.legalContent bay)).settle) ∧
    (∀ shown, s.legalRequest p shown = if (s.cPanel p).used = true ∧ (s.cPanel p).legal = true ∧ s.brd.rail ≠ .fault
      then (s.placeUpd p 0 { mode := .partly, legal := some shown }).brandRun none else s)) ∧
 ((∀ (s : State) (b : Option Nat) (n : Nat), s.busLoad none ≤ 4 / 5 → s.runningCount ≤ 16 →
    (startLoop b n s).busLoad none ≤ 4 / 5 ∧ (startLoop b n s).runningCount ≤ 16) ∧
  (∀ (s : State) (b : Option Nat) (p r : Nat), s.nextStart b = some (p, r) → p < 8 ∧ r < 16 ∧ s.qualifies b p r = true ∧
    (s.legalRegion p r = false → ∀ q k, q < 8 → k < 16 → s.qualifies b q k = true → s.legalRegion q k = false)) ∧
  (∀ (s : State) (p r : Nat) (u : Upd), let t := s.placeUpd p r u
    (t.region p r).waiting = some { u with no := s.brd.nextNo, place := ((s.region p r).waiting.map (fun w => w.place)).getD s.brd.nextNo } ∧ (t.region p r).running = (s.region p r).running ∧
    t.brd.nextNo = nextUpd s.brd.nextNo ∧ (∀ k, k ≠ r → t.region p k = s.region p k) ∧ (∀ q, q ≠ p → t.panel q = s.panel q) ∧
    ((s.region p r).waiting.isSome = true → (t.panel p).superseded = (s.panel p).superseded + 1 ∧ t.evtSet 0x10 4) ∧
    ((s.region p r).waiting = none → (t.panel p).superseded = (s.panel p).superseded) ∧ t = { s.noting t with brd := t.brd }))

/-- R427, R430 to R434, R439: the BRD commands and their failures, in the order of the table. An update names a region that is configured,
a mode 1 or 2, a dither 0 or 1 and rows in General, else it is RANGE; a legal region is LOCKED; rails at fault or poisoned octets FAULT; a
panel that reads COLD RANGE with detail 1; without space NOSPACE; else it is captured, numbered and placed. A region's place, state and
update numbers are read; INIT waits for a panel with nothing running or waiting; only latched rails are cleared. -/
def Obligations.BrandCommandsComplete : Prop :=
  ∀ (s : State) (c : Cmd) (p r : Nat), let g := s.cRegion p r;
    let there : Prop := p ≤ 7 ∧ (s.cPanel p).used = true ∧ r ≤ 15 ∧ g.used = true;
    (∀ m d off st, s.ready c 0x1001 →
      let good : Prop := there ∧ (m = 1 ∨ m = 2) ∧ d ≤ 1 ∧ areaOk g off st = true;
      let hurt : Prop := s.brd.rail = .fault ∨ ∃ j, j < g.h ∧ s.poisoned (off + j * st) (3 * g.w) = true;
      (¬ good → exec (.brdRegionUpdate c p r m d off st) s = .next (s.failAs c 0x1001 .range).settle) ∧
      (good → s.legalRegion p r = true → exec (.brdRegionUpdate c p r m d off st) s = .next (s.failAs c 0x1001 .locked).settle) ∧
      (good → s.legalRegion p r = false → hurt → exec (.brdRegionUpdate c p r m d off st) s = .next (s.failAs c 0x1001 .fault).settle) ∧
      (good → s.legalRegion p r = false → ¬ hurt →
        (((s.panelTemp p).panel p).cold = true → exec (.brdRegionUpdate c p r m d off st) s = .next (s.failAs c 0x1001 .range 1).settle) ∧
        (((s.panelTemp p).panel p).cold = false → s.captureFits p r = false →
          exec (.brdRegionUpdate c p r m d off st) s = .next (s.failAs c 0x1001 .nospace).settle) ∧
        (((s.panelTemp p).panel p).cold = false → s.captureFits p r = true → exec (.brdRegionUpdate c p r m d off st) s =
          .next (s.okAs c 0x1001 (le 4 s.brd.nextNo ++ le 1 (dispOf (s.region p r))) (fun u => (u.placeUpd p r
            { mode := if m = 1 then .full else .partly, dither := decide (d = 1), space := captureSpace g,
              pixels := s.captureRows off st g }).brandRun none)).settle))) ∧
    (s.ready c 0x1002 → ¬ there → exec (.brdRegionInfo c p r) s = .next (s.failAs c 0x1002 .range)) ∧
    (s.ready c 0x1002 → there → ∃ a b : Nat, exec (.brdRegionInfo c p r) s = .next (s.okAs c 0x1002
      (le 2 g.x ++ le 2 g.y ++ le 2 g.w ++ le 2 g.h ++
        le 1 ((if (s.region p r).waiting.isSome then 1 else 0) + (if (s.region p r).running.isSome then 2 else 0)) ++ le 4 a ++ le 4 b) id) ∧
      (∀ w, (s.region p r).running = some w → a = w.no) ∧ (∀ w, (s.region p r).waiting = some w → b = w.no) ∧
      ((s.region p r).running = none → a = 0) ∧ ((s.region p r).waiting = none → b = 0)) ∧
    (s.ready c 0x1003 →
      ((8 ≤ p ∨ (s.cPanel p).used = false) → exec (.brdPanelInit c p) s = .next (s.failAs c 0x1003 .range).settle) ∧
      (p < 8 → (s.cPanel p).used = true →
        (s.brd.rail = .fault → exec (.brdPanelInit c p) s = .next (s.failAs c 0x1003 .fault).settle) ∧
        (s.brd.rail ≠ .fault → (s.panelRuns p = true ∨ s.panelWaits p = true) →
          exec (.brdPanelInit c p) s = .next (s.failAs c 0x1003 .state).settle) ∧
        (s.brd.rail ≠ .fault → s.panelRuns p = false → s.panelWaits p = false → exec (.brdPanelInit c p) s =
          .next (s.okAs c 0x1003 [] (fun u => (u.setPanel p { u.panel p with initWait := true }).brandRun none)).settle))) ∧
    (s.ready c 0x1004 → s.brd.rail = .fault → exec (.brdRailClear c) s =
      .next (s.okAs c 0x1004 [] (fun u => { u with brd := { u.brd with rail := .off } }))) ∧
    (s.ready c 0x1004 → s.brd.rail ≠ .fault → exec (.brdRailClear c) s = .next (s.failAs c 0x1004 .state))

/-- R185, R444 to R457: the KEY commands, with each of their failures. A message that fails a check of R448 completes with that check's
status and only MSG_REJ; so does, with STATE, a life-cycle transition that is not one of R450's or is not prepared, and one that would
destroy the METRO key in use; where the legal log is full, an entry that is due cannot be written and the command is LOGFULL. One that
passes stores its counter and does what its KIND says: installs a key in the place of those it meets, destroys one, replaces an image key
or revokes it, replaces an authority's key, enables debug, or moves the life cycle; a METRO key's message and a transition (but to
SCRAPPED, which destroys all keys) write their entry in the legal log. Keys in the clear are for MANUFACTURE, as is the advance to
PERSONALISED or SCRAPPED; slots are read; an attestation and a signature carry the key they name; a chain is set for the key it certifies,
one per root. -/
def Obligations.KeyCommandsComplete : Prop :=
  ∀ (s : State) (c : Cmd) (m : KeyMsg) (n : Nat),
    let keyKind : Prop := m.kind = 1 ∨ m.kind = 2 ∨ m.kind = 3 ∨ m.kind = 4 ∨ m.kind = 6;
    (s.ready c 0x1101 → ∀ lcs, lcs = (if keyKind then [Lc.personalised, .field, .service]
        else [Lc.manufacture, .personalised, .field, .service, .scrapped]) →
      (∀ e, s.checkMsg m [1, 2, 3, 4, 5, 6] lcs = some e →
        exec (.keyMsg c m) s = .next (s.doneAs c 0x1101 e 0 [] (fun u => u.setEvt 0x11 1)).settle) ∧
      (s.checkMsg m [1, 2, 3, 4, 5, 6] lcs = none → keyKind → let slot := s.installSlot m;
        (s.namedGone m = true → exec (.keyMsg c m) s = .next (s.doneAs c 0x1101 .state 0 [] (fun u => u.setEvt 0x11 1)).settle) ∧
        (s.namedGone m = false → s.metroMsg m = true → s.changeFull = true →
          exec (.keyMsg c m) s = .next (s.doneAs c 0x1101 .logfull 0 [] (fun u => (u.setEvt 0x11 1).setEvt 0x09 5)).settle) ∧
        (s.namedGone m = false → s.metroMsg m = true → s.changeFull = false → exec (.keyMsg c m) s =
          .next (s.okAs c 0x1101 (le 1 m.kind ++ le 8 m.ctr ++ le 2 slot)
            (fun u => ((u.storeCtr m).legalChange 7 (le 2 slot ++ le 8 m.ctr)).keyApply m)).settle) ∧
        (s.namedGone m = false → s.metroMsg m = false → exec (.keyMsg c m) s =
          .next (s.okAs c 0x1101 (le 1 m.kind ++ le 8 m.ctr ++ (if m.kind ≤ 2 then le 2 slot else []))
            (fun u => (u.storeCtr m).keyApply m)).settle)) ∧
      (s.checkMsg m [1, 2, 3, 4, 5, 6] lcs = none → m.kind = 5 → ∀ b, lcOf m.num = b →
        ((lcMove s.key.lc b m.auth = false ∨ s.lcReady b = false) →
          exec (.keyMsg c m) s = .next (s.doneAs c 0x1101 .state 0 [] (fun u => u.setEvt 0x11 1)).settle) ∧
        (lcMove s.key.lc b m.auth = true → s.lcReady b = true → b ≠ .scrapped → s.changeFull = true →
          exec (.keyMsg c m) s = .next (s.doneAs c 0x1101 .logfull 0 [] (fun u => (u.setEvt 0x11 1).setEvt 0x09 5)).settle) ∧
        (lcMove s.key.lc b m.auth = true → s.lcReady b = true → (b = .scrapped ∨ s.changeFull = false) → exec (.keyMsg c m) s =
          .next (s.okAs c 0x1101 (le 1 m.kind ++ le 8 m.ctr) (fun u => ((u.storeCtr m).lcTransition b m.ctr).lcHooks s.key.lc)).settle))) ∧
    (tget 0 (s.storeCtr m).key.authCtrs m.auth = m.ctr ∧ (s.storeCtr m).evtSet 0x11 0) ∧
    (∀ b k, let u := s.lcTransition b k;
      u.key.lc = b ∧ u.evtSet 0x11 2 ∧ (b = .scrapped → u.blz.last = s.blz.last ∧ (∀ x, u.slot x = {}) ∧ u.key.authKeys = [] ∧
        u.key.imgKeys = [] ∧ u.key.chains = []) ∧
      (b ≠ .scrapped → u.blz.last = s.blz.last + 1 ∧ (u.legalAt (s.blz.last + 1)).kind = 6)) ∧
    (let u := s.keyApply m;
      (m.kind = 1 → let h := s.headsIn (s.installSlot m) m.span;
        (u.slot (s.installSlot m)).key = m.keyId ∧ (u.slot (s.installSlot m)).alg = m.alg ∧ (u.slot (s.installSlot m)).span = m.span ∧
        (u.slot (s.installSlot m)).usage = m.usage ∧ (u.slot (s.installSlot m)).label = m.label ∧ (u.slot (s.installSlot m)).ctr = m.ctr ∧
        (u.slot (s.installSlot m)).st = (if classOf (s.installSlot m) = .metro ∧ s.key.lc ≠ .field then .locked else .valid) ∧
        (∀ x, x ≠ s.installSlot m → u.slot x = if x ∈ h then {} else s.slot x) ∧
        (∀ x, tget {} u.key.chains x = if x ∈ h then {} else tget {} s.key.chains x)) ∧
      (m.kind = 2 → u.slot m.slot = {} ∧ (∀ x, x ≠ m.slot → u.slot x = s.slot x) ∧
        (∀ x, tget {} u.key.chains x = if x = m.slot then {} else tget {} s.key.chains x)) ∧
      (m.kind = 3 → m.op = 1 → tget 0 u.key.imgKeys m.slot = m.keyId ∧ tget false u.key.imgRevoked m.slot = false) ∧
      (m.kind = 3 → m.op = 2 → tget false u.key.imgRevoked m.slot = true ∧ u.key.imgKeys = s.key.imgKeys) ∧
      (m.kind = 4 → tget 0 u.key.authKeys m.auth = m.keyId) ∧ (m.kind = 6 → u.key.dbgAc = true)) ∧
    (s.ready c 0x1102 → n < 512 → exec (.keySlotInfo c n) s = .next (s.okAs c 0x1102 (slotInfo n (s.slot n)) id)) ∧
    (s.ready c 0x1102 → 512 ≤ n → exec (.keySlotInfo c n) s = .next (s.failAs c 0x1102 .range)) ∧
    (∀ a k w, s.ready c 0x1103 →
      (s.key.lc ≠ .manufacture → exec (.keyPerso c a n k w) s = .next (s.failAs c 0x1103 .locked)) ∧
      (s.key.lc = .manufacture → (w = false ∨ k = 0 ∨ (a = true ∧ 2 < n) ∨ (a = false ∧ 7 < n)) →
        exec (.keyPerso c a n k w) s = .next (s.failAs c 0x1103 .range)) ∧
      (s.key.lc = .manufacture → w = true → k ≠ 0 → a = true → n ≤ 2 → exec (.keyPerso c a n k w) s = .next (s.okAs c 0x1103 [] (fun u =>
        { u with key := { u.key with authKeys := tset 0 u.key.authKeys n k, authCtrs := [] } }))) ∧
      (s.key.lc = .manufacture → w = true → k ≠ 0 → a = false → n ≤ 7 → exec (.keyPerso c a n k w) s = .next (s.okAs c 0x1103 [] (fun u =>
        { u with key := { u.key with imgKeys := tset 0 u.key.imgKeys n k, imgRevoked := tset false u.key.imgRevoked n false, authCtrs := [] } })))) ∧
    (s.ready c 0x1104 →
      (s.key.lc ≠ .manufacture → exec (.keyLcAdvance c n) s = .next (s.failAs c 0x1104 .locked).settle) ∧
      (s.key.lc = .manufacture → 4 < n → exec (.keyLcAdvance c n) s = .next (s.failAs c 0x1104 .range).settle) ∧
      (s.key.lc = .manufacture → n ≤ 4 → ((n ≠ 1 ∧ n ≠ 4) ∨ s.lcReady (lcOf n) = false) →
        exec (.keyLcAdvance c n) s = .next (s.failAs c 0x1104 .state).settle) ∧
      (s.key.lc = .manufacture → n = 1 → s.lcReady .personalised = true → s.changeFull = true →
        exec (.keyLcAdvance c n) s = .next (s.doneAs c 0x1104 .logfull 0 [] (fun u => u.setEvt 0x09 5)).settle) ∧
      (s.key.lc = .manufacture → (n = 1 ∨ n = 4) → s.lcReady (lcOf n) = true → (n = 4 ∨ s.changeFull = false) → exec (.keyLcAdvance c n) s =
        .next (s.okAs c 0x1104 [] (fun u => (u.lcTransition (lcOf n) 0).lcHooks .manufacture)).settle)) ∧
    (∀ h dst, s.ready c 0x1105 → dstOk dst 320 = false → exec (.keyAttest c h dst) s = .next (s.failAs c 0x1105 .range)) ∧
    (∀ h dst, s.ready c 0x1105 → dstOk dst 320 = true → exec (.keyAttest c h dst) s = .next (s.okAs c 0x1105 (le 1 s.key.lc.ctorIdx) (fun u =>
      u.draw.2.writeGen dst (pubBytes (s.slot 0).key 96 ++ pubBytes (s.slot 1).key 96 ++
        (List.range 96).map (fun i => Config.sigByte (s.slot 1).key (s.attestMsg h) u.fresh i) ++ List.replicate 32 0)))) ∧
    (∀ leaf root sz w, s.ready c 0x1106 →
      let fits : Prop := w = true ∧ 1 ≤ sz ∧ sz ≤ 2400 ∧ classOf n = .transport ∧ (s.slot n).filled = true ∧ (s.slot n).usage.getLsbD 1 = true ∧
        leaf = (s.slot n).key;
      (s.key.lc ≠ .field → s.key.lc ≠ .service → exec (.keyChainSet c n leaf root sz w) s = .next (s.failAs c 0x1106 .locked)) ∧
      ((s.key.lc = .field ∨ s.key.lc = .service) →
        (¬ fits → exec (.keyChainSet c n leaf root sz w) s = .next (s.failAs c 0x1106 .range)) ∧
        (fits → 4 ≤ (s.key.chains.filter (fun p => p.1 ≠ n)).length →
          exec (.keyChainSet c n leaf root sz w) s = .next (s.failAs c 0x1106 .nospace)) ∧
        (fits → (s.key.chains.filter (fun p => p.1 ≠ n)).length < 4 → ∃ f : State → State,
          exec (.keyChainSet c n leaf root sz w) s = .next (s.okAs c 0x1106 [] f) ∧ ∀ u : State,
            tget {} (f u).key.chains n = { leafKey := leaf, root := root, size := sz } ∧
            (∀ x k, x ≠ n → (x, k) ∈ (f u).key.chains → k.root ≠ root ∧ (x, k) ∈ u.key.chains) ∧
            (∀ x k, x ≠ n → (x, k) ∈ u.key.chains → k.root ≠ root → (x, k) ∈ (f u).key.chains) ∧
            f u = { u with key := { u.key with chains := (f u).key.chains } }))) ∧
    (∀ d, s.ready c 0x1107 →
      ((n < 112 ∨ 127 < n) → exec (.keySign c n d) s = .next (s.failAs c 0x1107 .range)) ∧
      (112 ≤ n → n ≤ 127 → s.keyFor n 5 = false → exec (.keySign c n d) s = .next (s.failAs c 0x1107 .locked)) ∧
      (112 ≤ n → n ≤ 127 → s.keyFor n 5 = true → exec (.keySign c n d) s = .next (s.okAs c 0x1107
        ((List.range (sigLen (s.slot n).alg)).map (fun i => Config.sigByte (s.slot n).key (le 48 d) s.fresh i)) (fun u => u.draw.2))))

/-- R459 to R468: the time base, in every state. An offset that meets a pending step is discarded; else it takes its action by its size
and its run, compared as they would be without the corrections applied so far: filtered below 1 ms, rejected where it is more than 1 ms
off its run, a candidate until there are three, then a slew below 128 ms or a step at the nearest 10 ms; an accepted one moves the servo,
and none moves the clock itself. A step is applied once, at a tick's boundary, and the servo acquires anew; the servo falls back without
offsets; a slew ends; a leap inserts or skips its second; the real-time clock's correction is the crystal's parabola, and while LOCKED it
is set. An exchange over Boom measures an offset from its four times. In a reset only the correction goes on. R462, R465, R471: the TIM
commands and each of their failures. On a device that takes its time over Boom an offset is STATE; out of range it is RANGE; else it is
measured, its action answered and what the source supplies taken. A set is STATE on such a device or on a servo that is not FREE, out of
range RANGE, and else a step to 10 ms. A read answers the time base as it stands. -/
def Obligations.TimeBaseActs : Prop :=
 (∀ s : State,
    (∀ o : Int, let r := s.offset o; let raw := o + s.tim.removed;
      (s.tim.stepPend ≠ none → r = (3, s)) ∧
      (s.tim.stepPend = none →
        (o.natAbs < msOff → r.1 = 0 ∧ r.2.tim.run = [] ∧ r.2.tim.rejects = s.tim.rejects ∧ -10000000 ≤ r.2.tim.freq ∧ r.2.tim.freq ≤ 10000000) ∧
        (msOff ≤ o.natAbs → r.2.tim.freq = s.tim.freq) ∧
        (msOff ≤ o.natAbs → (∃ p ∈ s.tim.run, msOff < (p - raw).natAbs) →
          r.1 = 4 ∧ r.2.tim.run = [raw] ∧ r.2.tim.rejects = s.tim.rejects + 1 ∧ r.2.evtSet 0x12 3 ∧ r.2.tim.servo = s.tim.servo) ∧
        (msOff ≤ o.natAbs → (∀ p ∈ s.tim.run, (p - raw).natAbs ≤ msOff) →
          (s.tim.run.length < 2 → r.1 = 1 ∧ r.2.tim.run = raw :: s.tim.run) ∧
          (2 ≤ s.tim.run.length → o.natAbs < 128 * msOff → r.1 = 2 ∧ r.2.tim.run = [] ∧ r.2.tim.slewing = true ∧ r.2.tim.slewOff = o ∧
            r.2.tim.stepPend = none) ∧
          (2 ≤ s.tim.run.length → 128 * msOff ≤ o.natAbs → r.1 = 3 ∧ r.2.tim.run = [] ∧ r.2.tim.stepPend = some (-nearest10ms o) ∧
            r.2.tim.stepRest = o - nearest10ms o * 65536)) ∧
        r.2.now = s.now ∧ r.2 = { s.noting r.2 with tim := r.2.tim })) ∧
    (∀ o : Int, let u := s.accept o;
      (s.tim.servo = .free → u.tim.servo = .acquiring ∧ u.tim.good = if o.natAbs ≤ usOff then 1 else 0) ∧
      (s.tim.servo = .acquiring → o.natAbs ≤ usOff → u.tim.good = s.tim.good + 1 ∧
        (16 ≤ s.tim.good + 1 → s.tim.slewing = false → u.tim.servo = .locked ∧ u.evtSet 0x12 1) ∧
        ((s.tim.good + 1 < 16 ∨ s.tim.slewing = true) → u.tim.servo = .acquiring)) ∧
      (s.tim.servo = .acquiring → usOff < o.natAbs → u.tim.good = 0 ∧ u.tim.servo = .acquiring) ∧
      (s.tim.servo = .locked → u = s) ∧ (s.tim.servo = .holdover → u.tim.servo = if o.natAbs ≤ usOff then .locked else .acquiring)) ∧
    ((s.tim.stepPend = none ∨ s.sys.inReset = true) → exec .stepApply s = .next s) ∧
    (∀ d, s.tim.stepPend = some d → s.sys.inReset = false → ∃ u v : State, exec .stepApply s = .next u.settle ∧ u = v.stepNow d ∧
      (s.tim.ns % 10000000 = 0 → v = s) ∧
      (s.tim.ns % 10000000 ≠ 0 → v = if s.nextBoundary.awake = true ∧ s.tly.running = true
        then s.nextBoundary.commit.energyLimits else s.nextBoundary)) ∧
    (∀ d, let u := s.stepNow d; let t := (s.now.toNs + d + 5000000) / 10000000 * 10000000;
      u.now = Stamp.ofNs t ∧ u.tim.stepPend = none ∧ u.tim.run = [] ∧ u.tim.steps = s.tim.steps + 1 ∧ u.evtSet 0x12 0 ∧ u.tim.servo = .acquiring ∧
      (s.tim.stepRest ≠ 0 → u.tim.slewing = true ∧ u.tim.slewOff = s.tim.stepRest) ∧
      (s.tim.stepRest = 0 → u.tim.slewing = s.tim.slewing ∧ u.tim.slewOff = s.tim.slewOff) ∧ u.tly.regs = s.tly.regs) ∧
    (s.sys.inReset = false →
      (s.tim.servo = .acquiring → ∃ u : State, exec .servoOffsetTimeout s = .next u ∧ u.tim = { s.tim with servo := .free, good := 0 } ∧
        u = { s.noting u with tim := u.tim }) ∧
      (s.tim.servo = .locked → ∃ u : State, exec .servoOffsetTimeout s = .next u ∧ u.tim.servo = .holdover ∧ u.tim.holdFrom = s.now ∧
        u.verified = true ∧ u = { s.noting u with tim := u.tim }) ∧
      ((s.tim.servo = .free ∨ s.tim.servo = .holdover) → exec .servoOffsetTimeout s = .next s) ∧
      (s.tim.servo = .holdover → s.tim.holdLimit = false → ∃ u : State, exec .holdoverLimit s = .next u ∧ u.verified = false ∧ u.evtSet 0x12 2 ∧
        u.tim = { s.tim with holdLimit := true } ∧ u = { s.noting u with tim := u.tim }) ∧
      ((s.tim.servo ≠ .holdover ∨ s.tim.holdLimit = true) → exec .holdoverLimit s = .next s) ∧
      (s.tim.leap = 1 → s.tim.leapDone = false → s.tim.utcRaw % 86400 = 0 → ∃ u : State, exec .leapSecond s = .next u ∧
        u.tim = { s.tim with utcOff := s.tim.utcOff + 1, leapDone := true } ∧ u.evtSet 0x12 4 ∧ u.tly.regs = s.tly.regs) ∧
      (s.tim.leap = 2 → s.tim.leapDone = false → s.tim.utcRaw % 86400 = 86399 → s.tim.ns = 0 → ∃ u : State,
        exec .leapSecond s = .next (if s.awake = true ∧ s.tly.running = true then ((u.boundaries true).eventSlots.checkpointNow).settle else u) ∧
        u.tim = { s.tim with utcOff := s.tim.utcOff - 1, leap := 0 } ∧ u.evtSet 0x12 4 ∧ u.tly.regs = s.tly.regs) ∧
      ((s.tim.leapDone = true ∨ (s.tim.leap ≠ 1 ∧ s.tim.leap ≠ 2) ∨ (s.tim.leap = 1 ∧ s.tim.utcRaw % 86400 ≠ 0) ∨
        (s.tim.leap = 2 ∧ (s.tim.utcRaw % 86400 ≠ 86399 ∨ s.tim.ns ≠ 0))) → exec .leapSecond s = .next s) ∧
      (s.tim.slewing = true → s.tim.servo = .acquiring → 16 ≤ s.tim.good → ∃ u : State, exec .slewEnd s = .next u ∧ u.tim.slewing = false ∧
        u.tim.slewOff = 0 ∧ u.tim.servo = .locked ∧ u.evtSet 0x12 1 ∧ u = { s.noting u with tim := u.tim }) ∧
      (s.tim.slewing = true → (s.tim.servo ≠ .acquiring ∨ s.tim.good < 16) →
        exec .slewEnd s = .next { s with tim := { s.tim with slewing := false, slewOff := 0 } }) ∧
      (s.tim.slewing = false → exec .slewEnd s = .next s) ∧
      (s.tim.servo = .locked → ∃ u : State, exec .rtcSync s = .next u ∧ u.tim.rtcValid = true ∧ u.tim.rtcSec = s.tim.sec ∧
        u.tim.rtcNs ≤ s.tim.ns ∧ s.tim.ns < u.tim.rtcNs + 30519 ∧ u = { s with fresh := s.fresh + 1, tim := u.tim }) ∧
      (s.tim.servo ≠ .locked → exec .rtcSync s = .next s)) ∧
    (s.sys.inReset = true → exec .servoOffsetTimeout s = .next s ∧ exec .holdoverLimit s = .next s ∧ exec .leapSecond s = .next s ∧
      exec .slewEnd s = .next s ∧ exec .rtcSync s = .next s) ∧
    (∀ temp : Int, exec (.rtcTempComp temp) s = .next { s with tim := { s.tim with
      rtcComp := divRound (s.img.struct_.xtalK * (temp - s.img.struct_.xtalT0) ^ 2) 100 } }) ∧
    (∀ (port : Nat) (t1 p2 p3 t4 off : Int) (leap : Nat),
      let takes : Prop := s.awake = true ∧ s.boomTime = true ∧ s.net.rejected = false ∧ (if port = 0 then s.net.boom0 else s.net.boom1) = true;
      let i := if port = 0 then 2 else 3;
      let back := (p2 + (s.img.net.latIn.getD i 0 : Nat)) / 4 * 4 - t1;
      let forth := (p3 + (s.img.net.latOut.getD i 0 : Nat)) / 4 * 4 - t4;
      (¬ takes → exec (.boomTimeSync port t1 p2 p3 t4 off leap) s = .next s) ∧
      (takes → ∃ u : State, u = (s.offset (divRound (back + forth) 2 * 65536)).2 ∧ exec (.boomTimeSync port t1 p2 p3 t4 off leap) s =
        .next ((({ u with tim := { u.tim with member := true } } : State).takeSource off leap).settle))) ∧
    (∀ (off : Int) (leap : Nat), let u := s.takeSource off leap; let told := (s.tim.leap = 1 ∧ off = s.tim.utcOff + 1) ∨ (s.tim.leap = 2 ∧ off = s.tim.utcOff - 1);
      u.tim.utcOff = (if told then s.tim.utcOff else off) ∧ u.tim.leap = (if s.leapOpen = true ∧ leap < 3 then leap else s.tim.leap) ∧
      u.now = s.now ∧ u.tly.regs = s.tly.regs)) ∧
 (∀ (s : State) (c : Cmd),
    (∀ (a : Int) (n f : Nat) (u : Int) (l : Nat), s.ready c 0x1201 → let o := (a * 1000000000 + n) * 65536 + f;
      (s.boomTime = true → exec (.timOffset c a n f u l) s = .next (s.failAs c 0x1201 .state).settle) ∧
      (s.boomTime = false → (3 ≤ l ∨ 1000000000 ≤ n ∨ maxOffset < o.natAbs) →
        exec (.timOffset c a n f u l) s = .next (s.failAs c 0x1201 .range).settle) ∧
      (s.boomTime = false → l < 3 → n < 1000000000 → o.natAbs ≤ maxOffset → exec (.timOffset c a n f u l) s =
        .next (s.okAs c 0x1201 (le 1 (s.offset o).1) (fun v => (v.offset o).2.takeSource u l)).settle)) ∧
    (∀ sec ns, s.ready c 0x1202 →
      ((s.boomTime = true ∨ s.tim.servo ≠ .free) → exec (.timSet c sec ns) s = .next (s.failAs c 0x1202 .state).settle) ∧
      (s.boomTime = false → s.tim.servo = .free → 1000000000 ≤ ns → exec (.timSet c sec ns) s = .next (s.failAs c 0x1202 .range).settle) ∧
      (s.boomTime = false → s.tim.servo = .free → ns < 1000000000 → ∃ d : Int,
        exec (.timSet c sec ns) s = .next (s.okAs c 0x1202 [] (fun u => { u with tim := { u.tim with stepPend := some d, stepRest := 0 } })).settle ∧
        d % 10000000 = 0 ∧ 2 * (s.now.toNs + d - (sec * 1000000000 + ns)).natAbs ≤ 10000000)) ∧
    (s.ready c 0x1203 → exec (.timRead c) s = .next (s.okAs c 0x1203 (le 8 s.tim.sec ++ le 4 s.tim.ns ++ le 2 s.tim.frac ++ le 1 s.tim.servo.ctorIdx ++
      le 1 s.verified.toNat ++ leInt 2 s.tim.utcOff ++ le 1 s.tim.leap ++ le 4 s.estErr) id)))

/-- R472 to R483: Cruise, in every state. A slice's permit is asked for where none is held, asked for or paused; a slice that ends with
every row good gives way to the next unit, through the round and the units to test again; a failing row is repaired softly while a spare
is left and else lost; a context on a lost row is withdrawn, at once where it is FREE; an overrun is counted and its unit comes again. A
pause is at once, or after the slice that runs, and a second one STATE; fuses are for SERVICE without a context, and take each
soft-repaired row whose bank has spent fewer than four; the report is read. -/
def Obligations.CruiseActs : Prop :=
  ∀ (s : State) (c : Cmd),
    (s.awake = true → s.crs.st = .idle → s.holds .cruise = false → s.asks .cruise = false → ∃ u : State,
      exec .cruiseSliceRequest s = .next u.settle ∧ u.asks .cruise = true ∧ u = { s with permits := u.permits }) ∧
    ((s.awake = false ∨ s.crs.st ≠ .idle ∨ s.holds .cruise = true ∨ s.asks .cruise = true) → exec .cruiseSliceRequest s = .next s) ∧
    ((s.sys.inReset = true ∨ s.crs.st ≠ .slice) → ∀ l, exec (.cruiseSliceEnd l) s = .next s ∧ exec .sliceOverrun s = .next s) ∧
    (s.sys.inReset = false → s.crs.st = .slice → ∀ l, ∃ t : List Nat → State, exec (.cruiseSliceEnd l) s = .next ((t l).sliceOver).settle ∧
      t [] = s ∧ ∀ l' r, let p := failPlace s.crs.unit r;
        t (l' ++ [r]) = if ((t l').softRepair p).2 = true then ((t l').softRepair p).1 else ((t l').softRepair p).1.rowLost p) ∧
    (∀ p : Nat × Nat, let u := (s.softRepair p).1;
      (0 < s.crs.left p.1 → (s.softRepair p).2 = true ∧ u.crs.soft = s.crs.soft ++ [p] ∧ u.crs.bad = s.crs.bad ∧ u.crs.failRepaired = true ∧ u.evtSet 0x13 0) ∧
      (s.crs.left p.1 = 0 → (s.softRepair p).2 = false ∧ p ∈ u.crs.bad ∧ (∀ q ∈ s.crs.bad, q ∈ u.crs.bad) ∧ u.crs.soft = s.crs.soft ∧
        u.crs.failRepaired = false ∧ u.evtSet 0x13 1) ∧
      u.crs.failRow = p.2 ∧ u = { s.noting u with crs := u.crs }) ∧
    (∀ p : Nat × Nat, 20 ≤ p.1 → p.1 < 28 → let k := ((p.1 - 20) * 256 + p.2) / 16; let u := s.rowLost p;
      ((k ∈ s.vlk.withdrawn ∨ k ∈ s.vlk.withdrawAtFree) → u = s) ∧
      (k ∉ s.vlk.withdrawn → k ∉ s.vlk.withdrawAtFree →
        ((s.ctx k).st = .free → u.vlk.withdrawn = s.vlk.withdrawn ++ [k] ∧ u.vlk.withdrawAtFree = s.vlk.withdrawAtFree) ∧
        ((s.ctx k).st ≠ .free → u.vlk.withdrawn = s.vlk.withdrawn ∧ u.vlk.withdrawAtFree = s.vlk.withdrawAtFree ++ [k]))) ∧
    (s.sys.inReset = false → s.crs.st = .slice → ∃ u : State, exec .sliceOverrun s = .next (u.sliceOver).settle ∧ u.crs.overruns = s.crs.overruns + 1 ∧
      u.crs.retest = s.crs.retest ++ [s.crs.unit] ∧ u.evtSet 0x13 2 ∧ u = { s.noting u with crs := u.crs }) ∧
    (let u := s.sliceOver;
      (s.crs.pausing = true → u.crs.st = .paused ∧ u.crs.pausing = false ∧ ∀ x ∈ u.hst.flights, x.waits ≠ .pause) ∧
      (s.crs.pausing = false → u.crs.st = .idle ∧ u = { s with crs := u.crs }) ∧
      (s.crs.retesting = false → s.crs.unit + 1 < s.roundUnits → u.crs.unit = s.crs.unit + 1 ∧ u.crs.retest = s.crs.retest ∧ u.crs.rounds = s.crs.rounds) ∧
      (∀ n l, (s.crs.retesting = true ∨ s.roundUnits ≤ s.crs.unit + 1) → s.crs.retest = n :: l →
        u.crs.unit = n ∧ u.crs.retest = l ∧ u.crs.retesting = true ∧ u.crs.rounds = s.crs.rounds) ∧
      ((s.crs.retesting = true ∨ s.roundUnits ≤ s.crs.unit + 1) → s.crs.retest = [] →
        u.crs.unit = 0 ∧ u.crs.retesting = false ∧ u.crs.rounds = s.crs.rounds + 1)) ∧
    (s.ready c 0x1301 → s.crs.st = .slice → exec (.crsPause c) s =
      .next (s.waitAs c 0x1301 .pause (fun u => { u with crs := { u.crs with pausing := true } })).settle) ∧
    (s.ready c 0x1301 → s.crs.st = .idle → exec (.crsPause c) s =
      .next (s.okAs c 0x1301 [] (fun u => { u.release .cruise with crs := { u.crs with st := .paused } })).settle) ∧
    (s.ready c 0x1301 → s.crs.st ≠ .slice → s.crs.st ≠ .idle → exec (.crsPause c) s = .next (s.failAs c 0x1301 .state).settle) ∧
    (s.ready c 0x1302 → s.crs.st = .paused → exec (.crsResume c) s = .next (s.okAs c 0x1302 [] (fun u => { u with crs := { u.crs with st := .idle } }))) ∧
    (s.ready c 0x1302 → s.crs.st ≠ .paused → exec (.crsResume c) s = .next (s.failAs c 0x1302 .state)) ∧
    (s.ready c 0x1303 → s.key.lc = .service → s.anyContext = false → ∃ o : PermitOwner, exec (.crsFuseRepair c) s =
      .next (s.waitAs c 0x1303 .fuse (fun u => u.present o 1200 500 4 5000)).settle) ∧
    (s.ready c 0x1303 → s.key.lc ≠ .service → exec (.crsFuseRepair c) s = .next (s.failAs c 0x1303 .locked).settle) ∧
    (s.ready c 0x1303 → s.key.lc = .service → s.anyContext = true → exec (.crsFuseRepair c) s = .next (s.failAs c 0x1303 .state).settle) ∧
    (∀ dst, s.ready c 0x1304 → dstOk dst 256 = true → exec (.crsReport c dst) s = .next (s.okAs c 0x1304 [] (fun u => u.writeGen dst s.crsReport))) ∧
    (∀ dst, s.ready c 0x1304 → dstOk dst 256 = false → exec (.crsReport c dst) s = .next (s.failAs c 0x1304 .range)) ∧
    (∀ k : Crs, (∀ r, r ∈ k.fused → r ∈ k.fuse.1.fused) ∧ (∀ r, r ∈ k.fuse.1.fused → r ∈ k.fused ∨ r ∈ k.soft) ∧
      (∀ r, r ∈ k.fuse.1.soft → r ∈ k.soft ∧ 4 ≤ k.fuse.1.fusedIn r.1) ∧ (∀ b, k.fusedIn b ≤ 4 → k.fuse.1.fusedIn b ≤ 4) ∧
      k.fuse.1.fused.length = k.fused.length + k.fuse.2.1 ∧ k.fuse.1.soft.length = k.fuse.2.2 ∧ k.fuse.2.1 + k.fuse.2.2 = k.soft.length)

end
end

