-- ==== Sys2Proof/Laws/Command.lean ====
section
/-! SUPPORT. What a host command does around its body: one lemma per outcome of `runCmd` and its variants, so that a proof
about a command never unfolds the ring handling. -/
namespace Sys2Proof.Machine

/-- A command its ring cannot start changes nothing. -/
theorem State.runCmd_blocked {s : State} {c : Cmd} {op : Nat} {body : State → Answer}
    (h : s.canStart (queueOf (op / 256) c.side) = false) : s.runCmd c op body = s := by
  simp [State.runCmd, h]

/-- A command whose descriptor cannot be read completes with FAULT (R102). -/
theorem State.runCmd_lost {s : State} {c : Cmd} {op : Nat} {body : State → Answer}
    (h : s.canStart (queueOf (op / 256) c.side) = true) (hd : s.descLost (s.queue (queueOf (op / 256) c.side)) = true) :
    s.runCmd c op body = s.failAs c op .fault := by
  simp [State.runCmd, h, hd, State.answer, fail, statusGood, State.failAs, State.doneAs]

/-- A command on a side that has not opened the host API completes with VERSION. -/
theorem State.runCmd_closed {s : State} {c : Cmd} {op : Nat} {body : State → Answer}
    (h : s.canStart (queueOf (op / 256) c.side) = true) (hd : s.descRead c op) (ha : s.apiOpen c.side = false)
    (hop : op ≠ 0x0301) : s.runCmd c op body = s.failAs c op .version := by
  have hd : s.descLost (s.queue (queueOf (op / 256) c.side)) = false := hd
  simp [State.runCmd, h, ha, hd, hop, State.answer, fail, statusGood, State.failAs, State.doneAs]

/-- A ready command is answered by its body. -/
theorem State.runCmd_ready {s : State} {c : Cmd} {op : Nat} {body : State → Answer} (h : s.ready c op) :
    s.runCmd c op body = (s.startNext (queueOf (op / 256) c.side)).answer (queueOf (op / 256) c.side)
      (s.queue (queueOf (op / 256) c.side)).started c op (body (s.startNext (queueOf (op / 256) c.side))) := by
  have hd : s.descLost (s.queue (queueOf (op / 256) c.side)) = false := h.2.2
  simp [State.runCmd, h.1, h.2.1, hd]

/-- A ready command whose body succeeds. -/
theorem State.runCmd_okay {s : State} {c : Cmd} {op : Nat} {body : State → Answer} {f : State → State} {d : List Byte}
    (h : s.ready c op) (hb : body (s.startNext (queueOf (op / 256) c.side)) = okay (f (s.startNext (queueOf (op / 256) c.side))) d) :
    s.runCmd c op body = s.okAs c op d f := by
  rw [State.runCmd_ready h, hb]
  simp [State.answer, okay, statusGood, State.okAs, State.doneAs]

/-- A ready command whose body fails. -/
theorem State.runCmd_fail {s : State} {c : Cmd} {op : Nat} {body : State → Answer} {st : Status} {detail : Nat}
    (h : s.ready c op) (hst : statusGood st = false)
    (hb : body (s.startNext (queueOf (op / 256) c.side)) = fail (s.startNext (queueOf (op / 256) c.side)) st detail) :
    s.runCmd c op body = s.failAs c op st detail := by
  rw [State.runCmd_ready h, hb]
  simp [State.answer, fail, hst, State.failAs, State.doneAs]

/-- A ready command whose body waits. -/
theorem State.runCmd_wait {s : State} {c : Cmd} {op : Nat} {body : State → Answer} {w : Waiting} {f : State → State}
    (h : s.ready c op) (hb : body (s.startNext (queueOf (op / 256) c.side)) = .wait w (f (s.startNext (queueOf (op / 256) c.side)))) :
    s.runCmd c op body = s.waitAs c op w f := by
  rw [State.runCmd_ready h, hb]
  simp [State.answer, State.waitAs]

/-- Where a command can start, `runSettle` runs it and settles. -/
theorem State.runSettle_ready {s : State} {c : Cmd} {op : Nat} {body : State → Answer} (h : s.ready c op) :
    s.runSettle c op body = (s.runCmd c op body).settle := by
  simp [State.runSettle, h.1]

end Sys2Proof.Machine
end

