-- ==== Sys2Proof/Laws/Tab.lean ====
section
/-! SUPPORT. Laws of the sparse tables: a read after a write at the same key gives what was written, a write leaves every
other key alone, and writing and filtering keep the canonical form. -/
namespace Sys2Proof.Machine

variable {α : Type}

theorem tget_tdel_self (d : α) (t : Tab α) (k : Nat) : tget d (tdel t k) k = d := by
  induction t with
  | nil => rfl
  | cons p r ih =>
    by_cases h : p.1 = k <;> simp_all [tdel, tget]

theorem tget_tdel_ne (d : α) (t : Tab α) {k j : Nat} (h : j ≠ k) : tget d (tdel t k) j = tget d t j := by
  induction t with
  | nil => rfl
  | cons p r ih =>
    by_cases hk : p.1 = k
    · simp_all [tdel, tget, Ne.symm h]
    · simp_all [tdel, tget]

theorem tget_tput_self (d : α) (t : Tab α) (k : Nat) (v : α) : tget d (tput t k v) k = v := by
  induction t with
  | nil => simp [tput, tget]
  | cons p r ih =>
    simp only [tput]
    split
    · simp [tget]
    · split
      · rename_i h; simp [tget, h]
      · rename_i h; simp [tget, Ne.symm h, ih]

theorem tget_tput_ne (d : α) (t : Tab α) {k j : Nat} (v : α) (h : j ≠ k) : tget d (tput t k v) j = tget d t j := by
  induction t with
  | nil => simp [tput, tget, Ne.symm h]
  | cons p r ih =>
    simp only [tput]
    split
    · simp [tget, Ne.symm h]
    · split
      · rename_i hk; subst hk; simp [tget, Ne.symm h]
      · simp [tget, ih]

variable [DecidableEq α] (d : α)

/-- A read after a write at the same key gives what was written. -/
@[simp] theorem tget_tset_self (t : Tab α) (k : Nat) (v : α) : tget d (tset d t k v) k = v := by
  unfold tset
  split
  · rename_i h; rw [h]; exact tget_tdel_self d t k
  · exact tget_tput_self d t k v

/-- A write leaves every other key alone. -/
theorem tget_tset_ne (t : Tab α) {k j : Nat} (v : α) (h : j ≠ k) : tget d (tset d t k v) j = tget d t j := by
  unfold tset
  split
  · exact tget_tdel_ne d t h
  · exact tget_tput_ne d t v h

/-- A read after a write, by whether the keys agree. -/
theorem tget_tset (t : Tab α) (k j : Nat) (v : α) : tget d (tset d t k v) j = if j = k then v else tget d t j := by
  split
  · rename_i h; rw [h]; exact tget_tset_self d t k v
  · rename_i h; exact tget_tset_ne d t v h

theorem tabFrom_mono {b c : Nat} (hbc : c ≤ b) {t : Tab α} (h : tabFrom d b t = true) : tabFrom d c t = true := by
  cases t with
  | nil => rfl
  | cons p r =>
    simp only [tabFrom, Bool.and_eq_true, decide_eq_true_eq] at h ⊢
    exact ⟨⟨by omega, h.1.2⟩, h.2⟩

theorem tabFrom_filter {b : Nat} {t : Tab α} (h : tabFrom d b t = true) (f : Nat × α → Bool) :
    tabFrom d b (t.filter f) = true := by
  induction t generalizing b with
  | nil => rfl
  | cons p r ih =>
    simp only [tabFrom, Bool.and_eq_true, decide_eq_true_eq] at h
    simp only [List.filter_cons]
    split
    · simp only [tabFrom, Bool.and_eq_true, decide_eq_true_eq]
      exact ⟨h.1, ih h.2⟩
    · exact tabFrom_mono d (by omega) (ih h.2)

theorem tabFrom_tput {b : Nat} {t : Tab α} (h : tabFrom d b t = true) {k : Nat} (hk : b ≤ k) {v : α} (hv : v ≠ d) :
    tabFrom d b (tput t k v) = true := by
  induction t generalizing b with
  | nil => simp [tput, tabFrom, hk, hv]
  | cons p r ih =>
    simp only [tabFrom, Bool.and_eq_true, decide_eq_true_eq] at h
    simp only [tput]
    split
    · simp only [tabFrom, Bool.and_eq_true, decide_eq_true_eq]
      exact ⟨⟨hk, hv⟩, ⟨by omega, h.1.2⟩, h.2⟩
    · split
      · rename_i hka
        simp only [tabFrom, Bool.and_eq_true, decide_eq_true_eq]
        exact ⟨⟨by omega, hv⟩, h.2⟩
      · simp only [tabFrom, Bool.and_eq_true, decide_eq_true_eq]
        exact ⟨h.1, ih h.2 (by omega)⟩

/-- Leaving entries out keeps the canonical form. -/
theorem tabWf_filter {t : Tab α} (h : tabWf d t = true) (f : Nat × α → Bool) : tabWf d (t.filter f) = true :=
  tabFrom_filter d h f

/-- A write keeps the canonical form. -/
theorem tabWf_tset {t : Tab α} (h : tabWf d t = true) (k : Nat) (v : α) : tabWf d (tset d t k v) = true := by
  unfold tset
  split
  · exact tabWf_filter d h _
  · rename_i hv; exact tabFrom_tput d h (Nat.zero_le k) hv

end Sys2Proof.Machine
end

