-- ==== Sys2Proof/Laws/State.lean ====
section
/-! SUPPORT. One lemma per field per update of the state's tables: what a write of a row gives, and that it leaves every other
row, every other field of its block and every other block alone. -/
namespace Sys2Proof.Machine

/-! ### `bay` -/

@[simp] theorem State.bay_setBay (s : State) (n : Nat) (x : Bay) : (s.setBay n x).bay n = x := tget_tset_self ..
theorem State.bay_setBay_ne (s : State) (n : Nat) (x : Bay) (m : Nat) (h : m ≠ n) : (s.setBay n x).bay m = s.bay m := tget_tset_ne _ _ _ h
@[simp] theorem State.bay_modBay (s : State) (n : Nat) (f : Bay → Bay) : (s.modBay n f).bay n = f (s.bay n) := tget_tset_self ..
theorem State.bay_modBay_ne (s : State) (n : Nat) (f : Bay → Bay) (m : Nat) (h : m ≠ n) : (s.modBay n f).bay m = s.bay m := tget_tset_ne _ _ _ h
@[simp] theorem State.sys_setBay (s : State) (n : Nat) (x : Bay) : (s.setBay n x).sys = s.sys := rfl
@[simp] theorem State.sys_modBay (s : State) (n : Nat) (f : Bay → Bay) : (s.modBay n f).sys = s.sys := rfl
@[simp] theorem State.permits_setBay (s : State) (n : Nat) (x : Bay) : (s.setBay n x).permits = s.permits := rfl
@[simp] theorem State.permits_modBay (s : State) (n : Nat) (f : Bay → Bay) : (s.modBay n f).permits = s.permits := rfl
@[simp] theorem State.cfg_setBay (s : State) (n : Nat) (x : Bay) : (s.setBay n x).cfg = s.cfg := rfl
@[simp] theorem State.cfg_modBay (s : State) (n : Nat) (f : Bay → Bay) : (s.modBay n f).cfg = s.cfg := rfl
@[simp] theorem State.img_setBay (s : State) (n : Nat) (x : Bay) : (s.setBay n x).img = s.img := rfl
@[simp] theorem State.img_modBay (s : State) (n : Nat) (f : Bay → Bay) : (s.modBay n f).img = s.img := rfl
@[simp] theorem State.net_setBay (s : State) (n : Nat) (x : Bay) : (s.setBay n x).net = s.net := rfl
@[simp] theorem State.net_modBay (s : State) (n : Nat) (f : Bay → Bay) : (s.modBay n f).net = s.net := rfl
@[simp] theorem State.lnd_setBay (s : State) (n : Nat) (x : Bay) : (s.setBay n x).lnd = s.lnd := rfl
@[simp] theorem State.lnd_modBay (s : State) (n : Nat) (f : Bay → Bay) : (s.modBay n f).lnd = s.lnd := rfl
@[simp] theorem State.hst_setBay (s : State) (n : Nat) (x : Bay) : (s.setBay n x).hst = s.hst := rfl
@[simp] theorem State.hst_modBay (s : State) (n : Nat) (f : Bay → Bay) : (s.modBay n f).hst = s.hst := rfl
@[simp] theorem State.yrd_setBay (s : State) (n : Nat) (x : Bay) : (s.setBay n x).yrd = s.yrd := rfl
@[simp] theorem State.yrd_modBay (s : State) (n : Nat) (f : Bay → Bay) : (s.modBay n f).yrd = s.yrd := rfl
@[simp] theorem State.scl_setBay (s : State) (n : Nat) (x : Bay) : (s.setBay n x).scl = s.scl := rfl
@[simp] theorem State.scl_modBay (s : State) (n : Nat) (f : Bay → Bay) : (s.modBay n f).scl = s.scl := rfl
@[simp] theorem State.tly_setBay (s : State) (n : Nat) (x : Bay) : (s.setBay n x).tly = s.tly := rfl
@[simp] theorem State.tly_modBay (s : State) (n : Nat) (f : Bay → Bay) : (s.modBay n f).tly = s.tly := rfl
@[simp] theorem State.blz_setBay (s : State) (n : Nat) (x : Bay) : (s.setBay n x).blz = s.blz := rfl
@[simp] theorem State.blz_modBay (s : State) (n : Nat) (f : Bay → Bay) : (s.modBay n f).blz = s.blz := rfl
@[simp] theorem State.imd_setBay (s : State) (n : Nat) (x : Bay) : (s.setBay n x).imd = s.imd := rfl
@[simp] theorem State.imd_modBay (s : State) (n : Nat) (f : Bay → Bay) : (s.modBay n f).imd = s.imd := rfl
@[simp] theorem State.saf_setBay (s : State) (n : Nat) (x : Bay) : (s.setBay n x).saf = s.saf := rfl
@[simp] theorem State.saf_modBay (s : State) (n : Nat) (f : Bay → Bay) : (s.modBay n f).saf = s.saf := rfl
@[simp] theorem State.pvy_setBay (s : State) (n : Nat) (x : Bay) : (s.setBay n x).pvy = s.pvy := rfl
@[simp] theorem State.pvy_modBay (s : State) (n : Nat) (f : Bay → Bay) : (s.modBay n f).pvy = s.pvy := rfl
@[simp] theorem State.chk_setBay (s : State) (n : Nat) (x : Bay) : (s.setBay n x).chk = s.chk := rfl
@[simp] theorem State.chk_modBay (s : State) (n : Nat) (f : Bay → Bay) : (s.modBay n f).chk = s.chk := rfl
@[simp] theorem State.skl_setBay (s : State) (n : Nat) (x : Bay) : (s.setBay n x).skl = s.skl := rfl
@[simp] theorem State.skl_modBay (s : State) (n : Nat) (f : Bay → Bay) : (s.modBay n f).skl = s.skl := rfl
@[simp] theorem State.nfc_setBay (s : State) (n : Nat) (x : Bay) : (s.setBay n x).nfc = s.nfc := rfl
@[simp] theorem State.nfc_modBay (s : State) (n : Nat) (f : Bay → Bay) : (s.modBay n f).nfc = s.nfc := rfl
@[simp] theorem State.brd_setBay (s : State) (n : Nat) (x : Bay) : (s.setBay n x).brd = s.brd := rfl
@[simp] theorem State.brd_modBay (s : State) (n : Nat) (f : Bay → Bay) : (s.modBay n f).brd = s.brd := rfl
@[simp] theorem State.key_setBay (s : State) (n : Nat) (x : Bay) : (s.setBay n x).key = s.key := rfl
@[simp] theorem State.key_modBay (s : State) (n : Nat) (f : Bay → Bay) : (s.modBay n f).key = s.key := rfl
@[simp] theorem State.tim_setBay (s : State) (n : Nat) (x : Bay) : (s.setBay n x).tim = s.tim := rfl
@[simp] theorem State.tim_modBay (s : State) (n : Nat) (f : Bay → Bay) : (s.modBay n f).tim = s.tim := rfl
@[simp] theorem State.crs_setBay (s : State) (n : Nat) (x : Bay) : (s.setBay n x).crs = s.crs := rfl
@[simp] theorem State.crs_modBay (s : State) (n : Nat) (f : Bay → Bay) : (s.modBay n f).crs = s.crs := rfl
@[simp] theorem State.evt_setBay (s : State) (n : Nat) (x : Bay) : (s.setBay n x).evt = s.evt := rfl
@[simp] theorem State.evt_modBay (s : State) (n : Nat) (f : Bay → Bay) : (s.modBay n f).evt = s.evt := rfl
@[simp] theorem State.elog_setBay (s : State) (n : Nat) (x : Bay) : (s.setBay n x).elog = s.elog := rfl
@[simp] theorem State.elog_modBay (s : State) (n : Nat) (f : Bay → Bay) : (s.modBay n f).elog = s.elog := rfl
@[simp] theorem State.eseq_setBay (s : State) (n : Nat) (x : Bay) : (s.setBay n x).eseq = s.eseq := rfl
@[simp] theorem State.eseq_modBay (s : State) (n : Nat) (f : Bay → Bay) : (s.modBay n f).eseq = s.eseq := rfl
@[simp] theorem State.elost_setBay (s : State) (n : Nat) (x : Bay) : (s.setBay n x).elost = s.elost := rfl
@[simp] theorem State.elost_modBay (s : State) (n : Nat) (f : Bay → Bay) : (s.modBay n f).elost = s.elost := rfl
@[simp] theorem State.eSec_setBay (s : State) (n : Nat) (x : Bay) : (s.setBay n x).eSec = s.eSec := rfl
@[simp] theorem State.eSec_modBay (s : State) (n : Nat) (f : Bay → Bay) : (s.modBay n f).eSec = s.eSec := rfl
@[simp] theorem State.eCount_setBay (s : State) (n : Nat) (x : Bay) : (s.setBay n x).eCount = s.eCount := rfl
@[simp] theorem State.eCount_modBay (s : State) (n : Nat) (f : Bay → Bay) : (s.modBay n f).eCount = s.eCount := rfl
@[simp] theorem State.mem_setBay (s : State) (n : Nat) (x : Bay) : (s.setBay n x).mem = s.mem := rfl
@[simp] theorem State.mem_modBay (s : State) (n : Nat) (f : Bay → Bay) : (s.modBay n f).mem = s.mem := rfl
@[simp] theorem State.sent_setBay (s : State) (n : Nat) (x : Bay) : (s.setBay n x).sent = s.sent := rfl
@[simp] theorem State.sent_modBay (s : State) (n : Nat) (f : Bay → Bay) : (s.modBay n f).sent = s.sent := rfl
@[simp] theorem State.fresh_setBay (s : State) (n : Nat) (x : Bay) : (s.setBay n x).fresh = s.fresh := rfl
@[simp] theorem State.fresh_modBay (s : State) (n : Nat) (f : Bay → Bay) : (s.modBay n f).fresh = s.fresh := rfl
@[simp] theorem State.pending_setBay (s : State) (n : Nat) (x : Bay) : (s.setBay n x).pending = s.pending := rfl
@[simp] theorem State.pending_modBay (s : State) (n : Nat) (f : Bay → Bay) : (s.modBay n f).pending = s.pending := rfl
@[simp] theorem State.vlk_ctxs_setBay (s : State) (n : Nat) (x : Bay) : (s.setBay n x).vlk.ctxs = s.vlk.ctxs := rfl
@[simp] theorem State.vlk_ctxs_modBay (s : State) (n : Nat) (f : Bay → Bay) : (s.modBay n f).vlk.ctxs = s.vlk.ctxs := rfl
@[simp] theorem State.vlk_reqIds_setBay (s : State) (n : Nat) (x : Bay) : (s.setBay n x).vlk.reqIds = s.vlk.reqIds := rfl
@[simp] theorem State.vlk_reqIds_modBay (s : State) (n : Nat) (f : Bay → Bay) : (s.modBay n f).vlk.reqIds = s.vlk.reqIds := rfl
@[simp] theorem State.vlk_withdrawn_setBay (s : State) (n : Nat) (x : Bay) : (s.setBay n x).vlk.withdrawn = s.vlk.withdrawn := rfl
@[simp] theorem State.vlk_withdrawn_modBay (s : State) (n : Nat) (f : Bay → Bay) : (s.modBay n f).vlk.withdrawn = s.vlk.withdrawn := rfl
@[simp] theorem State.vlk_withdrawAtFree_setBay (s : State) (n : Nat) (x : Bay) : (s.setBay n x).vlk.withdrawAtFree = s.vlk.withdrawAtFree := rfl
@[simp] theorem State.vlk_withdrawAtFree_modBay (s : State) (n : Nat) (f : Bay → Bay) : (s.modBay n f).vlk.withdrawAtFree = s.vlk.withdrawAtFree := rfl
@[simp] theorem State.vlk_evqBase_setBay (s : State) (n : Nat) (x : Bay) : (s.setBay n x).vlk.evqBase = s.vlk.evqBase := rfl
@[simp] theorem State.vlk_evqBase_modBay (s : State) (n : Nat) (f : Bay → Bay) : (s.modBay n f).vlk.evqBase = s.vlk.evqBase := rfl
@[simp] theorem State.vlk_evqLog2_setBay (s : State) (n : Nat) (x : Bay) : (s.setBay n x).vlk.evqLog2 = s.vlk.evqLog2 := rfl
@[simp] theorem State.vlk_evqLog2_modBay (s : State) (n : Nat) (f : Bay → Bay) : (s.modBay n f).vlk.evqLog2 = s.vlk.evqLog2 := rfl
@[simp] theorem State.vlk_evqEn_setBay (s : State) (n : Nat) (x : Bay) : (s.setBay n x).vlk.evqEn = s.vlk.evqEn := rfl
@[simp] theorem State.vlk_evqEn_modBay (s : State) (n : Nat) (f : Bay → Bay) : (s.modBay n f).vlk.evqEn = s.vlk.evqEn := rfl
@[simp] theorem State.vlk_evqVector_setBay (s : State) (n : Nat) (x : Bay) : (s.setBay n x).vlk.evqVector = s.vlk.evqVector := rfl
@[simp] theorem State.vlk_evqVector_modBay (s : State) (n : Nat) (f : Bay → Bay) : (s.modBay n f).vlk.evqVector = s.vlk.evqVector := rfl
@[simp] theorem State.vlk_evqCfgErr_setBay (s : State) (n : Nat) (x : Bay) : (s.setBay n x).vlk.evqCfgErr = s.vlk.evqCfgErr := rfl
@[simp] theorem State.vlk_evqCfgErr_modBay (s : State) (n : Nat) (f : Bay → Bay) : (s.modBay n f).vlk.evqCfgErr = s.vlk.evqCfgErr := rfl
@[simp] theorem State.vlk_evqPi_setBay (s : State) (n : Nat) (x : Bay) : (s.setBay n x).vlk.evqPi = s.vlk.evqPi := rfl
@[simp] theorem State.vlk_evqPi_modBay (s : State) (n : Nat) (f : Bay → Bay) : (s.modBay n f).vlk.evqPi = s.vlk.evqPi := rfl
@[simp] theorem State.vlk_evqCi_setBay (s : State) (n : Nat) (x : Bay) : (s.setBay n x).vlk.evqCi = s.vlk.evqCi := rfl
@[simp] theorem State.vlk_evqCi_modBay (s : State) (n : Nat) (f : Bay → Bay) : (s.modBay n f).vlk.evqCi = s.vlk.evqCi := rfl
@[simp] theorem State.vlk_evqHeld_setBay (s : State) (n : Nat) (x : Bay) : (s.setBay n x).vlk.evqHeld = s.vlk.evqHeld := rfl
@[simp] theorem State.vlk_evqHeld_modBay (s : State) (n : Nat) (f : Bay → Bay) : (s.modBay n f).vlk.evqHeld = s.vlk.evqHeld := rfl
@[simp] theorem State.vlk_evqDrops_setBay (s : State) (n : Nat) (x : Bay) : (s.setBay n x).vlk.evqDrops = s.vlk.evqDrops := rfl
@[simp] theorem State.vlk_evqDrops_modBay (s : State) (n : Nat) (f : Bay → Bay) : (s.modBay n f).vlk.evqDrops = s.vlk.evqDrops := rfl
@[simp] theorem State.vlk_sapFail_setBay (s : State) (n : Nat) (x : Bay) : (s.setBay n x).vlk.sapFail = s.vlk.sapFail := rfl
@[simp] theorem State.vlk_sapFail_modBay (s : State) (n : Nat) (f : Bay → Bay) : (s.modBay n f).vlk.sapFail = s.vlk.sapFail := rfl
@[simp] theorem State.vlk_decodeErr_setBay (s : State) (n : Nat) (x : Bay) : (s.setBay n x).vlk.decodeErr = s.vlk.decodeErr := rfl
@[simp] theorem State.vlk_decodeErr_modBay (s : State) (n : Nat) (f : Bay → Bay) : (s.modBay n f).vlk.decodeErr = s.vlk.decodeErr := rfl
@[simp] theorem State.vlk_hsFail_setBay (s : State) (n : Nat) (x : Bay) : (s.setBay n x).vlk.hsFail = s.vlk.hsFail := rfl
@[simp] theorem State.vlk_hsFail_modBay (s : State) (n : Nat) (f : Bay → Bay) : (s.modBay n f).vlk.hsFail = s.vlk.hsFail := rfl
@[simp] theorem State.vlk_certFail_setBay (s : State) (n : Nat) (x : Bay) : (s.setBay n x).vlk.certFail = s.vlk.certFail := rfl
@[simp] theorem State.vlk_certFail_modBay (s : State) (n : Nat) (f : Bay → Bay) : (s.modBay n f).vlk.certFail = s.vlk.certFail := rfl
@[simp] theorem State.vlk_tunDrops_setBay (s : State) (n : Nat) (x : Bay) : (s.setBay n x).vlk.tunDrops = s.vlk.tunDrops := rfl
@[simp] theorem State.vlk_tunDrops_modBay (s : State) (n : Nat) (f : Bay → Bay) : (s.modBay n f).vlk.tunDrops = s.vlk.tunDrops := rfl
@[simp] theorem State.vlk_roots_setBay (s : State) (n : Nat) (x : Bay) : (s.setBay n x).vlk.roots = s.vlk.roots := rfl
@[simp] theorem State.vlk_roots_modBay (s : State) (n : Nat) (f : Bay → Bay) : (s.modBay n f).vlk.roots = s.vlk.roots := rfl
@[simp] theorem State.vlk_tunRx_setBay (s : State) (n : Nat) (x : Bay) : (s.setBay n x).vlk.tunRx = s.vlk.tunRx := rfl
@[simp] theorem State.vlk_tunRx_modBay (s : State) (n : Nat) (f : Bay → Bay) : (s.modBay n f).vlk.tunRx = s.vlk.tunRx := rfl
@[simp] theorem State.vlk_tunTx_setBay (s : State) (n : Nat) (x : Bay) : (s.setBay n x).vlk.tunTx = s.vlk.tunTx := rfl
@[simp] theorem State.vlk_tunTx_modBay (s : State) (n : Nat) (f : Bay → Bay) : (s.modBay n f).vlk.tunTx = s.vlk.tunTx := rfl
@[simp] theorem State.vlk_preBridged_setBay (s : State) (n : Nat) (x : Bay) : (s.setBay n x).vlk.preBridged = s.vlk.preBridged := rfl
@[simp] theorem State.vlk_preBridged_modBay (s : State) (n : Nat) (f : Bay → Bay) : (s.modBay n f).vlk.preBridged = s.vlk.preBridged := rfl
@[simp] theorem State.vlk_weldB_setBay (s : State) (n : Nat) (x : Bay) : (s.setBay n x).vlk.weldB = s.vlk.weldB := rfl
@[simp] theorem State.vlk_weldB_modBay (s : State) (n : Nat) (f : Bay → Bay) : (s.modBay n f).vlk.weldB = s.vlk.weldB := rfl

/-! ### `ctx` -/

@[simp] theorem State.ctx_setCtx (s : State) (n : Nat) (x : Ctx) : (s.setCtx n x).ctx n = x := tget_tset_self ..
theorem State.ctx_setCtx_ne (s : State) (n : Nat) (x : Ctx) (m : Nat) (h : m ≠ n) : (s.setCtx n x).ctx m = s.ctx m := tget_tset_ne _ _ _ h
@[simp] theorem State.ctx_modCtx (s : State) (n : Nat) (f : Ctx → Ctx) : (s.modCtx n f).ctx n = f (s.ctx n) := tget_tset_self ..
theorem State.ctx_modCtx_ne (s : State) (n : Nat) (f : Ctx → Ctx) (m : Nat) (h : m ≠ n) : (s.modCtx n f).ctx m = s.ctx m := tget_tset_ne _ _ _ h
@[simp] theorem State.sys_setCtx (s : State) (n : Nat) (x : Ctx) : (s.setCtx n x).sys = s.sys := rfl
@[simp] theorem State.sys_modCtx (s : State) (n : Nat) (f : Ctx → Ctx) : (s.modCtx n f).sys = s.sys := rfl
@[simp] theorem State.permits_setCtx (s : State) (n : Nat) (x : Ctx) : (s.setCtx n x).permits = s.permits := rfl
@[simp] theorem State.permits_modCtx (s : State) (n : Nat) (f : Ctx → Ctx) : (s.modCtx n f).permits = s.permits := rfl
@[simp] theorem State.cfg_setCtx (s : State) (n : Nat) (x : Ctx) : (s.setCtx n x).cfg = s.cfg := rfl
@[simp] theorem State.cfg_modCtx (s : State) (n : Nat) (f : Ctx → Ctx) : (s.modCtx n f).cfg = s.cfg := rfl
@[simp] theorem State.img_setCtx (s : State) (n : Nat) (x : Ctx) : (s.setCtx n x).img = s.img := rfl
@[simp] theorem State.img_modCtx (s : State) (n : Nat) (f : Ctx → Ctx) : (s.modCtx n f).img = s.img := rfl
@[simp] theorem State.net_setCtx (s : State) (n : Nat) (x : Ctx) : (s.setCtx n x).net = s.net := rfl
@[simp] theorem State.net_modCtx (s : State) (n : Nat) (f : Ctx → Ctx) : (s.modCtx n f).net = s.net := rfl
@[simp] theorem State.lnd_setCtx (s : State) (n : Nat) (x : Ctx) : (s.setCtx n x).lnd = s.lnd := rfl
@[simp] theorem State.lnd_modCtx (s : State) (n : Nat) (f : Ctx → Ctx) : (s.modCtx n f).lnd = s.lnd := rfl
@[simp] theorem State.hst_setCtx (s : State) (n : Nat) (x : Ctx) : (s.setCtx n x).hst = s.hst := rfl
@[simp] theorem State.hst_modCtx (s : State) (n : Nat) (f : Ctx → Ctx) : (s.modCtx n f).hst = s.hst := rfl
@[simp] theorem State.yrd_setCtx (s : State) (n : Nat) (x : Ctx) : (s.setCtx n x).yrd = s.yrd := rfl
@[simp] theorem State.yrd_modCtx (s : State) (n : Nat) (f : Ctx → Ctx) : (s.modCtx n f).yrd = s.yrd := rfl
@[simp] theorem State.scl_setCtx (s : State) (n : Nat) (x : Ctx) : (s.setCtx n x).scl = s.scl := rfl
@[simp] theorem State.scl_modCtx (s : State) (n : Nat) (f : Ctx → Ctx) : (s.modCtx n f).scl = s.scl := rfl
@[simp] theorem State.tly_setCtx (s : State) (n : Nat) (x : Ctx) : (s.setCtx n x).tly = s.tly := rfl
@[simp] theorem State.tly_modCtx (s : State) (n : Nat) (f : Ctx → Ctx) : (s.modCtx n f).tly = s.tly := rfl
@[simp] theorem State.blz_setCtx (s : State) (n : Nat) (x : Ctx) : (s.setCtx n x).blz = s.blz := rfl
@[simp] theorem State.blz_modCtx (s : State) (n : Nat) (f : Ctx → Ctx) : (s.modCtx n f).blz = s.blz := rfl
@[simp] theorem State.imd_setCtx (s : State) (n : Nat) (x : Ctx) : (s.setCtx n x).imd = s.imd := rfl
@[simp] theorem State.imd_modCtx (s : State) (n : Nat) (f : Ctx → Ctx) : (s.modCtx n f).imd = s.imd := rfl
@[simp] theorem State.saf_setCtx (s : State) (n : Nat) (x : Ctx) : (s.setCtx n x).saf = s.saf := rfl
@[simp] theorem State.saf_modCtx (s : State) (n : Nat) (f : Ctx → Ctx) : (s.modCtx n f).saf = s.saf := rfl
@[simp] theorem State.pvy_setCtx (s : State) (n : Nat) (x : Ctx) : (s.setCtx n x).pvy = s.pvy := rfl
@[simp] theorem State.pvy_modCtx (s : State) (n : Nat) (f : Ctx → Ctx) : (s.modCtx n f).pvy = s.pvy := rfl
@[simp] theorem State.chk_setCtx (s : State) (n : Nat) (x : Ctx) : (s.setCtx n x).chk = s.chk := rfl
@[simp] theorem State.chk_modCtx (s : State) (n : Nat) (f : Ctx → Ctx) : (s.modCtx n f).chk = s.chk := rfl
@[simp] theorem State.skl_setCtx (s : State) (n : Nat) (x : Ctx) : (s.setCtx n x).skl = s.skl := rfl
@[simp] theorem State.skl_modCtx (s : State) (n : Nat) (f : Ctx → Ctx) : (s.modCtx n f).skl = s.skl := rfl
@[simp] theorem State.nfc_setCtx (s : State) (n : Nat) (x : Ctx) : (s.setCtx n x).nfc = s.nfc := rfl
@[simp] theorem State.nfc_modCtx (s : State) (n : Nat) (f : Ctx → Ctx) : (s.modCtx n f).nfc = s.nfc := rfl
@[simp] theorem State.brd_setCtx (s : State) (n : Nat) (x : Ctx) : (s.setCtx n x).brd = s.brd := rfl
@[simp] theorem State.brd_modCtx (s : State) (n : Nat) (f : Ctx → Ctx) : (s.modCtx n f).brd = s.brd := rfl
@[simp] theorem State.key_setCtx (s : State) (n : Nat) (x : Ctx) : (s.setCtx n x).key = s.key := rfl
@[simp] theorem State.key_modCtx (s : State) (n : Nat) (f : Ctx → Ctx) : (s.modCtx n f).key = s.key := rfl
@[simp] theorem State.tim_setCtx (s : State) (n : Nat) (x : Ctx) : (s.setCtx n x).tim = s.tim := rfl
@[simp] theorem State.tim_modCtx (s : State) (n : Nat) (f : Ctx → Ctx) : (s.modCtx n f).tim = s.tim := rfl
@[simp] theorem State.crs_setCtx (s : State) (n : Nat) (x : Ctx) : (s.setCtx n x).crs = s.crs := rfl
@[simp] theorem State.crs_modCtx (s : State) (n : Nat) (f : Ctx → Ctx) : (s.modCtx n f).crs = s.crs := rfl
@[simp] theorem State.evt_setCtx (s : State) (n : Nat) (x : Ctx) : (s.setCtx n x).evt = s.evt := rfl
@[simp] theorem State.evt_modCtx (s : State) (n : Nat) (f : Ctx → Ctx) : (s.modCtx n f).evt = s.evt := rfl
@[simp] theorem State.elog_setCtx (s : State) (n : Nat) (x : Ctx) : (s.setCtx n x).elog = s.elog := rfl
@[simp] theorem State.elog_modCtx (s : State) (n : Nat) (f : Ctx → Ctx) : (s.modCtx n f).elog = s.elog := rfl
@[simp] theorem State.eseq_setCtx (s : State) (n : Nat) (x : Ctx) : (s.setCtx n x).eseq = s.eseq := rfl
@[simp] theorem State.eseq_modCtx (s : State) (n : Nat) (f : Ctx → Ctx) : (s.modCtx n f).eseq = s.eseq := rfl
@[simp] theorem State.elost_setCtx (s : State) (n : Nat) (x : Ctx) : (s.setCtx n x).elost = s.elost := rfl
@[simp] theorem State.elost_modCtx (s : State) (n : Nat) (f : Ctx → Ctx) : (s.modCtx n f).elost = s.elost := rfl
@[simp] theorem State.eSec_setCtx (s : State) (n : Nat) (x : Ctx) : (s.setCtx n x).eSec = s.eSec := rfl
@[simp] theorem State.eSec_modCtx (s : State) (n : Nat) (f : Ctx → Ctx) : (s.modCtx n f).eSec = s.eSec := rfl
@[simp] theorem State.eCount_setCtx (s : State) (n : Nat) (x : Ctx) : (s.setCtx n x).eCount = s.eCount := rfl
@[simp] theorem State.eCount_modCtx (s : State) (n : Nat) (f : Ctx → Ctx) : (s.modCtx n f).eCount = s.eCount := rfl
@[simp] theorem State.mem_setCtx (s : State) (n : Nat) (x : Ctx) : (s.setCtx n x).mem = s.mem := rfl
@[simp] theorem State.mem_modCtx (s : State) (n : Nat) (f : Ctx → Ctx) : (s.modCtx n f).mem = s.mem := rfl
@[simp] theorem State.sent_setCtx (s : State) (n : Nat) (x : Ctx) : (s.setCtx n x).sent = s.sent := rfl
@[simp] theorem State.sent_modCtx (s : State) (n : Nat) (f : Ctx → Ctx) : (s.modCtx n f).sent = s.sent := rfl
@[simp] theorem State.fresh_setCtx (s : State) (n : Nat) (x : Ctx) : (s.setCtx n x).fresh = s.fresh := rfl
@[simp] theorem State.fresh_modCtx (s : State) (n : Nat) (f : Ctx → Ctx) : (s.modCtx n f).fresh = s.fresh := rfl
@[simp] theorem State.pending_setCtx (s : State) (n : Nat) (x : Ctx) : (s.setCtx n x).pending = s.pending := rfl
@[simp] theorem State.pending_modCtx (s : State) (n : Nat) (f : Ctx → Ctx) : (s.modCtx n f).pending = s.pending := rfl
@[simp] theorem State.vlk_bays_setCtx (s : State) (n : Nat) (x : Ctx) : (s.setCtx n x).vlk.bays = s.vlk.bays := rfl
@[simp] theorem State.vlk_bays_modCtx (s : State) (n : Nat) (f : Ctx → Ctx) : (s.modCtx n f).vlk.bays = s.vlk.bays := rfl
@[simp] theorem State.vlk_reqIds_setCtx (s : State) (n : Nat) (x : Ctx) : (s.setCtx n x).vlk.reqIds = s.vlk.reqIds := rfl
@[simp] theorem State.vlk_reqIds_modCtx (s : State) (n : Nat) (f : Ctx → Ctx) : (s.modCtx n f).vlk.reqIds = s.vlk.reqIds := rfl
@[simp] theorem State.vlk_withdrawn_setCtx (s : State) (n : Nat) (x : Ctx) : (s.setCtx n x).vlk.withdrawn = s.vlk.withdrawn := rfl
@[simp] theorem State.vlk_withdrawn_modCtx (s : State) (n : Nat) (f : Ctx → Ctx) : (s.modCtx n f).vlk.withdrawn = s.vlk.withdrawn := rfl
@[simp] theorem State.vlk_withdrawAtFree_setCtx (s : State) (n : Nat) (x : Ctx) : (s.setCtx n x).vlk.withdrawAtFree = s.vlk.withdrawAtFree := rfl
@[simp] theorem State.vlk_withdrawAtFree_modCtx (s : State) (n : Nat) (f : Ctx → Ctx) : (s.modCtx n f).vlk.withdrawAtFree = s.vlk.withdrawAtFree := rfl
@[simp] theorem State.vlk_evqBase_setCtx (s : State) (n : Nat) (x : Ctx) : (s.setCtx n x).vlk.evqBase = s.vlk.evqBase := rfl
@[simp] theorem State.vlk_evqBase_modCtx (s : State) (n : Nat) (f : Ctx → Ctx) : (s.modCtx n f).vlk.evqBase = s.vlk.evqBase := rfl
@[simp] theorem State.vlk_evqLog2_setCtx (s : State) (n : Nat) (x : Ctx) : (s.setCtx n x).vlk.evqLog2 = s.vlk.evqLog2 := rfl
@[simp] theorem State.vlk_evqLog2_modCtx (s : State) (n : Nat) (f : Ctx → Ctx) : (s.modCtx n f).vlk.evqLog2 = s.vlk.evqLog2 := rfl
@[simp] theorem State.vlk_evqEn_setCtx (s : State) (n : Nat) (x : Ctx) : (s.setCtx n x).vlk.evqEn = s.vlk.evqEn := rfl
@[simp] theorem State.vlk_evqEn_modCtx (s : State) (n : Nat) (f : Ctx → Ctx) : (s.modCtx n f).vlk.evqEn = s.vlk.evqEn := rfl
@[simp] theorem State.vlk_evqVector_setCtx (s : State) (n : Nat) (x : Ctx) : (s.setCtx n x).vlk.evqVector = s.vlk.evqVector := rfl
@[simp] theorem State.vlk_evqVector_modCtx (s : State) (n : Nat) (f : Ctx → Ctx) : (s.modCtx n f).vlk.evqVector = s.vlk.evqVector := rfl
@[simp] theorem State.vlk_evqCfgErr_setCtx (s : State) (n : Nat) (x : Ctx) : (s.setCtx n x).vlk.evqCfgErr = s.vlk.evqCfgErr := rfl
@[simp] theorem State.vlk_evqCfgErr_modCtx (s : State) (n : Nat) (f : Ctx → Ctx) : (s.modCtx n f).vlk.evqCfgErr = s.vlk.evqCfgErr := rfl
@[simp] theorem State.vlk_evqPi_setCtx (s : State) (n : Nat) (x : Ctx) : (s.setCtx n x).vlk.evqPi = s.vlk.evqPi := rfl
@[simp] theorem State.vlk_evqPi_modCtx (s : State) (n : Nat) (f : Ctx → Ctx) : (s.modCtx n f).vlk.evqPi = s.vlk.evqPi := rfl
@[simp] theorem State.vlk_evqCi_setCtx (s : State) (n : Nat) (x : Ctx) : (s.setCtx n x).vlk.evqCi = s.vlk.evqCi := rfl
@[simp] theorem State.vlk_evqCi_modCtx (s : State) (n : Nat) (f : Ctx → Ctx) : (s.modCtx n f).vlk.evqCi = s.vlk.evqCi := rfl
@[simp] theorem State.vlk_evqHeld_setCtx (s : State) (n : Nat) (x : Ctx) : (s.setCtx n x).vlk.evqHeld = s.vlk.evqHeld := rfl
@[simp] theorem State.vlk_evqHeld_modCtx (s : State) (n : Nat) (f : Ctx → Ctx) : (s.modCtx n f).vlk.evqHeld = s.vlk.evqHeld := rfl
@[simp] theorem State.vlk_evqDrops_setCtx (s : State) (n : Nat) (x : Ctx) : (s.setCtx n x).vlk.evqDrops = s.vlk.evqDrops := rfl
@[simp] theorem State.vlk_evqDrops_modCtx (s : State) (n : Nat) (f : Ctx → Ctx) : (s.modCtx n f).vlk.evqDrops = s.vlk.evqDrops := rfl
@[simp] theorem State.vlk_sapFail_setCtx (s : State) (n : Nat) (x : Ctx) : (s.setCtx n x).vlk.sapFail = s.vlk.sapFail := rfl
@[simp] theorem State.vlk_sapFail_modCtx (s : State) (n : Nat) (f : Ctx → Ctx) : (s.modCtx n f).vlk.sapFail = s.vlk.sapFail := rfl
@[simp] theorem State.vlk_decodeErr_setCtx (s : State) (n : Nat) (x : Ctx) : (s.setCtx n x).vlk.decodeErr = s.vlk.decodeErr := rfl
@[simp] theorem State.vlk_decodeErr_modCtx (s : State) (n : Nat) (f : Ctx → Ctx) : (s.modCtx n f).vlk.decodeErr = s.vlk.decodeErr := rfl
@[simp] theorem State.vlk_hsFail_setCtx (s : State) (n : Nat) (x : Ctx) : (s.setCtx n x).vlk.hsFail = s.vlk.hsFail := rfl
@[simp] theorem State.vlk_hsFail_modCtx (s : State) (n : Nat) (f : Ctx → Ctx) : (s.modCtx n f).vlk.hsFail = s.vlk.hsFail := rfl
@[simp] theorem State.vlk_certFail_setCtx (s : State) (n : Nat) (x : Ctx) : (s.setCtx n x).vlk.certFail = s.vlk.certFail := rfl
@[simp] theorem State.vlk_certFail_modCtx (s : State) (n : Nat) (f : Ctx → Ctx) : (s.modCtx n f).vlk.certFail = s.vlk.certFail := rfl
@[simp] theorem State.vlk_tunDrops_setCtx (s : State) (n : Nat) (x : Ctx) : (s.setCtx n x).vlk.tunDrops = s.vlk.tunDrops := rfl
@[simp] theorem State.vlk_tunDrops_modCtx (s : State) (n : Nat) (f : Ctx → Ctx) : (s.modCtx n f).vlk.tunDrops = s.vlk.tunDrops := rfl
@[simp] theorem State.vlk_roots_setCtx (s : State) (n : Nat) (x : Ctx) : (s.setCtx n x).vlk.roots = s.vlk.roots := rfl
@[simp] theorem State.vlk_roots_modCtx (s : State) (n : Nat) (f : Ctx → Ctx) : (s.modCtx n f).vlk.roots = s.vlk.roots := rfl
@[simp] theorem State.vlk_tunRx_setCtx (s : State) (n : Nat) (x : Ctx) : (s.setCtx n x).vlk.tunRx = s.vlk.tunRx := rfl
@[simp] theorem State.vlk_tunRx_modCtx (s : State) (n : Nat) (f : Ctx → Ctx) : (s.modCtx n f).vlk.tunRx = s.vlk.tunRx := rfl
@[simp] theorem State.vlk_tunTx_setCtx (s : State) (n : Nat) (x : Ctx) : (s.setCtx n x).vlk.tunTx = s.vlk.tunTx := rfl
@[simp] theorem State.vlk_tunTx_modCtx (s : State) (n : Nat) (f : Ctx → Ctx) : (s.modCtx n f).vlk.tunTx = s.vlk.tunTx := rfl
@[simp] theorem State.vlk_preBridged_setCtx (s : State) (n : Nat) (x : Ctx) : (s.setCtx n x).vlk.preBridged = s.vlk.preBridged := rfl
@[simp] theorem State.vlk_preBridged_modCtx (s : State) (n : Nat) (f : Ctx → Ctx) : (s.modCtx n f).vlk.preBridged = s.vlk.preBridged := rfl
@[simp] theorem State.vlk_weldB_setCtx (s : State) (n : Nat) (x : Ctx) : (s.setCtx n x).vlk.weldB = s.vlk.weldB := rfl
@[simp] theorem State.vlk_weldB_modCtx (s : State) (n : Nat) (f : Ctx → Ctx) : (s.modCtx n f).vlk.weldB = s.vlk.weldB := rfl

/-! ### `node` -/

@[simp] theorem State.node_setNode (s : State) (n : Nat) (x : Node) : (s.setNode n x).node n = x := tget_tset_self ..
theorem State.node_setNode_ne (s : State) (n : Nat) (x : Node) (m : Nat) (h : m ≠ n) : (s.setNode n x).node m = s.node m := tget_tset_ne _ _ _ h
@[simp] theorem State.node_modNode (s : State) (n : Nat) (f : Node → Node) : (s.modNode n f).node n = f (s.node n) := tget_tset_self ..
theorem State.node_modNode_ne (s : State) (n : Nat) (f : Node → Node) (m : Nat) (h : m ≠ n) : (s.modNode n f).node m = s.node m := tget_tset_ne _ _ _ h
@[simp] theorem State.sys_setNode (s : State) (n : Nat) (x : Node) : (s.setNode n x).sys = s.sys := rfl
@[simp] theorem State.sys_modNode (s : State) (n : Nat) (f : Node → Node) : (s.modNode n f).sys = s.sys := rfl
@[simp] theorem State.permits_setNode (s : State) (n : Nat) (x : Node) : (s.setNode n x).permits = s.permits := rfl
@[simp] theorem State.permits_modNode (s : State) (n : Nat) (f : Node → Node) : (s.modNode n f).permits = s.permits := rfl
@[simp] theorem State.cfg_setNode (s : State) (n : Nat) (x : Node) : (s.setNode n x).cfg = s.cfg := rfl
@[simp] theorem State.cfg_modNode (s : State) (n : Nat) (f : Node → Node) : (s.modNode n f).cfg = s.cfg := rfl
@[simp] theorem State.img_setNode (s : State) (n : Nat) (x : Node) : (s.setNode n x).img = s.img := rfl
@[simp] theorem State.img_modNode (s : State) (n : Nat) (f : Node → Node) : (s.modNode n f).img = s.img := rfl
@[simp] theorem State.net_setNode (s : State) (n : Nat) (x : Node) : (s.setNode n x).net = s.net := rfl
@[simp] theorem State.net_modNode (s : State) (n : Nat) (f : Node → Node) : (s.modNode n f).net = s.net := rfl
@[simp] theorem State.lnd_setNode (s : State) (n : Nat) (x : Node) : (s.setNode n x).lnd = s.lnd := rfl
@[simp] theorem State.lnd_modNode (s : State) (n : Nat) (f : Node → Node) : (s.modNode n f).lnd = s.lnd := rfl
@[simp] theorem State.hst_setNode (s : State) (n : Nat) (x : Node) : (s.setNode n x).hst = s.hst := rfl
@[simp] theorem State.hst_modNode (s : State) (n : Nat) (f : Node → Node) : (s.modNode n f).hst = s.hst := rfl
@[simp] theorem State.vlk_setNode (s : State) (n : Nat) (x : Node) : (s.setNode n x).vlk = s.vlk := rfl
@[simp] theorem State.vlk_modNode (s : State) (n : Nat) (f : Node → Node) : (s.modNode n f).vlk = s.vlk := rfl
@[simp] theorem State.scl_setNode (s : State) (n : Nat) (x : Node) : (s.setNode n x).scl = s.scl := rfl
@[simp] theorem State.scl_modNode (s : State) (n : Nat) (f : Node → Node) : (s.modNode n f).scl = s.scl := rfl
@[simp] theorem State.tly_setNode (s : State) (n : Nat) (x : Node) : (s.setNode n x).tly = s.tly := rfl
@[simp] theorem State.tly_modNode (s : State) (n : Nat) (f : Node → Node) : (s.modNode n f).tly = s.tly := rfl
@[simp] theorem State.blz_setNode (s : State) (n : Nat) (x : Node) : (s.setNode n x).blz = s.blz := rfl
@[simp] theorem State.blz_modNode (s : State) (n : Nat) (f : Node → Node) : (s.modNode n f).blz = s.blz := rfl
@[simp] theorem State.imd_setNode (s : State) (n : Nat) (x : Node) : (s.setNode n x).imd = s.imd := rfl
@[simp] theorem State.imd_modNode (s : State) (n : Nat) (f : Node → Node) : (s.modNode n f).imd = s.imd := rfl
@[simp] theorem State.saf_setNode (s : State) (n : Nat) (x : Node) : (s.setNode n x).saf = s.saf := rfl
@[simp] theorem State.saf_modNode (s : State) (n : Nat) (f : Node → Node) : (s.modNode n f).saf = s.saf := rfl
@[simp] theorem State.pvy_setNode (s : State) (n : Nat) (x : Node) : (s.setNode n x).pvy = s.pvy := rfl
@[simp] theorem State.pvy_modNode (s : State) (n : Nat) (f : Node → Node) : (s.modNode n f).pvy = s.pvy := rfl
@[simp] theorem State.chk_setNode (s : State) (n : Nat) (x : Node) : (s.setNode n x).chk = s.chk := rfl
@[simp] theorem State.chk_modNode (s : State) (n : Nat) (f : Node → Node) : (s.modNode n f).chk = s.chk := rfl
@[simp] theorem State.skl_setNode (s : State) (n : Nat) (x : Node) : (s.setNode n x).skl = s.skl := rfl
@[simp] theorem State.skl_modNode (s : State) (n : Nat) (f : Node → Node) : (s.modNode n f).skl = s.skl := rfl
@[simp] theorem State.nfc_setNode (s : State) (n : Nat) (x : Node) : (s.setNode n x).nfc = s.nfc := rfl
@[simp] theorem State.nfc_modNode (s : State) (n : Nat) (f : Node → Node) : (s.modNode n f).nfc = s.nfc := rfl
@[simp] theorem State.brd_setNode (s : State) (n : Nat) (x : Node) : (s.setNode n x).brd = s.brd := rfl
@[simp] theorem State.brd_modNode (s : State) (n : Nat) (f : Node → Node) : (s.modNode n f).brd = s.brd := rfl
@[simp] theorem State.key_setNode (s : State) (n : Nat) (x : Node) : (s.setNode n x).key = s.key := rfl
@[simp] theorem State.key_modNode (s : State) (n : Nat) (f : Node → Node) : (s.modNode n f).key = s.key := rfl
@[simp] theorem State.tim_setNode (s : State) (n : Nat) (x : Node) : (s.setNode n x).tim = s.tim := rfl
@[simp] theorem State.tim_modNode (s : State) (n : Nat) (f : Node → Node) : (s.modNode n f).tim = s.tim := rfl
@[simp] theorem State.crs_setNode (s : State) (n : Nat) (x : Node) : (s.setNode n x).crs = s.crs := rfl
@[simp] theorem State.crs_modNode (s : State) (n : Nat) (f : Node → Node) : (s.modNode n f).crs = s.crs := rfl
@[simp] theorem State.evt_setNode (s : State) (n : Nat) (x : Node) : (s.setNode n x).evt = s.evt := rfl
@[simp] theorem State.evt_modNode (s : State) (n : Nat) (f : Node → Node) : (s.modNode n f).evt = s.evt := rfl
@[simp] theorem State.elog_setNode (s : State) (n : Nat) (x : Node) : (s.setNode n x).elog = s.elog := rfl
@[simp] theorem State.elog_modNode (s : State) (n : Nat) (f : Node → Node) : (s.modNode n f).elog = s.elog := rfl
@[simp] theorem State.eseq_setNode (s : State) (n : Nat) (x : Node) : (s.setNode n x).eseq = s.eseq := rfl
@[simp] theorem State.eseq_modNode (s : State) (n : Nat) (f : Node → Node) : (s.modNode n f).eseq = s.eseq := rfl
@[simp] theorem State.elost_setNode (s : State) (n : Nat) (x : Node) : (s.setNode n x).elost = s.elost := rfl
@[simp] theorem State.elost_modNode (s : State) (n : Nat) (f : Node → Node) : (s.modNode n f).elost = s.elost := rfl
@[simp] theorem State.eSec_setNode (s : State) (n : Nat) (x : Node) : (s.setNode n x).eSec = s.eSec := rfl
@[simp] theorem State.eSec_modNode (s : State) (n : Nat) (f : Node → Node) : (s.modNode n f).eSec = s.eSec := rfl
@[simp] theorem State.eCount_setNode (s : State) (n : Nat) (x : Node) : (s.setNode n x).eCount = s.eCount := rfl
@[simp] theorem State.eCount_modNode (s : State) (n : Nat) (f : Node → Node) : (s.modNode n f).eCount = s.eCount := rfl
@[simp] theorem State.mem_setNode (s : State) (n : Nat) (x : Node) : (s.setNode n x).mem = s.mem := rfl
@[simp] theorem State.mem_modNode (s : State) (n : Nat) (f : Node → Node) : (s.modNode n f).mem = s.mem := rfl
@[simp] theorem State.sent_setNode (s : State) (n : Nat) (x : Node) : (s.setNode n x).sent = s.sent := rfl
@[simp] theorem State.sent_modNode (s : State) (n : Nat) (f : Node → Node) : (s.modNode n f).sent = s.sent := rfl
@[simp] theorem State.fresh_setNode (s : State) (n : Nat) (x : Node) : (s.setNode n x).fresh = s.fresh := rfl
@[simp] theorem State.fresh_modNode (s : State) (n : Nat) (f : Node → Node) : (s.modNode n f).fresh = s.fresh := rfl
@[simp] theorem State.pending_setNode (s : State) (n : Nat) (x : Node) : (s.setNode n x).pending = s.pending := rfl
@[simp] theorem State.pending_modNode (s : State) (n : Nat) (f : Node → Node) : (s.modNode n f).pending = s.pending := rfl
@[simp] theorem State.yrd_cycle_setNode (s : State) (n : Nat) (x : Node) : (s.setNode n x).yrd.cycle = s.yrd.cycle := rfl
@[simp] theorem State.yrd_cycle_modNode (s : State) (n : Nat) (f : Node → Node) : (s.modNode n f).yrd.cycle = s.yrd.cycle := rfl
@[simp] theorem State.yrd_lastUs_setNode (s : State) (n : Nat) (x : Node) : (s.setNode n x).yrd.lastUs = s.yrd.lastUs := rfl
@[simp] theorem State.yrd_lastUs_modNode (s : State) (n : Nat) (f : Node → Node) : (s.modNode n f).yrd.lastUs = s.yrd.lastUs := rfl
@[simp] theorem State.yrd_maxUs_setNode (s : State) (n : Nat) (x : Node) : (s.setNode n x).yrd.maxUs = s.yrd.maxUs := rfl
@[simp] theorem State.yrd_maxUs_modNode (s : State) (n : Nat) (f : Node → Node) : (s.modNode n f).yrd.maxUs = s.yrd.maxUs := rfl
@[simp] theorem State.yrd_pAllow_setNode (s : State) (n : Nat) (x : Node) : (s.setNode n x).yrd.pAllow = s.yrd.pAllow := rfl
@[simp] theorem State.yrd_pAllow_modNode (s : State) (n : Nat) (f : Node → Node) : (s.modNode n f).yrd.pAllow = s.yrd.pAllow := rfl
@[simp] theorem State.yrd_pGrid_setNode (s : State) (n : Nat) (x : Node) : (s.setNode n x).yrd.pGrid = s.yrd.pGrid := rfl
@[simp] theorem State.yrd_pGrid_modNode (s : State) (n : Nat) (f : Node → Node) : (s.modNode n f).yrd.pGrid = s.yrd.pGrid := rfl
@[simp] theorem State.yrd_limitSteps_setNode (s : State) (n : Nat) (x : Node) : (s.setNode n x).yrd.limitSteps = s.yrd.limitSteps := rfl
@[simp] theorem State.yrd_limitSteps_modNode (s : State) (n : Nat) (f : Node → Node) : (s.modNode n f).yrd.limitSteps = s.yrd.limitSteps := rfl
@[simp] theorem State.yrd_swFaults_setNode (s : State) (n : Nat) (x : Node) : (s.setNode n x).yrd.swFaults = s.yrd.swFaults := rfl
@[simp] theorem State.yrd_swFaults_modNode (s : State) (n : Nat) (f : Node → Node) : (s.modNode n f).yrd.swFaults = s.yrd.swFaults := rfl
@[simp] theorem State.yrd_clientHold_setNode (s : State) (n : Nat) (x : Node) : (s.setNode n x).yrd.clientHold = s.yrd.clientHold := rfl
@[simp] theorem State.yrd_clientHold_modNode (s : State) (n : Nat) (f : Node → Node) : (s.modNode n f).yrd.clientHold = s.yrd.clientHold := rfl
@[simp] theorem State.yrd_clientRamp_setNode (s : State) (n : Nat) (x : Node) : (s.setNode n x).yrd.clientRamp = s.yrd.clientRamp := rfl
@[simp] theorem State.yrd_clientRamp_modNode (s : State) (n : Nat) (f : Node → Node) : (s.modNode n f).yrd.clientRamp = s.yrd.clientRamp := rfl
@[simp] theorem State.yrd_lost_setNode (s : State) (n : Nat) (x : Node) : (s.setNode n x).yrd.lost = s.yrd.lost := rfl
@[simp] theorem State.yrd_lost_modNode (s : State) (n : Nat) (f : Node → Node) : (s.modNode n f).yrd.lost = s.yrd.lost := rfl
@[simp] theorem State.yrd_bayCycle_setNode (s : State) (n : Nat) (x : Node) : (s.setNode n x).yrd.bayCycle = s.yrd.bayCycle := rfl
@[simp] theorem State.yrd_bayCycle_modNode (s : State) (n : Nat) (f : Node → Node) : (s.modNode n f).yrd.bayCycle = s.yrd.bayCycle := rfl
@[simp] theorem State.yrd_setAt_setNode (s : State) (n : Nat) (x : Node) : (s.setNode n x).yrd.setAt = s.yrd.setAt := rfl
@[simp] theorem State.yrd_setAt_modNode (s : State) (n : Nat) (f : Node → Node) : (s.modNode n f).yrd.setAt = s.yrd.setAt := rfl
@[simp] theorem State.yrd_bayISet_setNode (s : State) (n : Nat) (x : Node) : (s.setNode n x).yrd.bayISet = s.yrd.bayISet := rfl
@[simp] theorem State.yrd_bayISet_modNode (s : State) (n : Nat) (f : Node → Node) : (s.modNode n f).yrd.bayISet = s.yrd.bayISet := rfl

/-! ### `mbay` -/

@[simp] theorem State.mbay_setMbay (s : State) (n : Nat) (x : MBay) : (s.setMbay n x).mbay n = x := tget_tset_self ..
theorem State.mbay_setMbay_ne (s : State) (n : Nat) (x : MBay) (m : Nat) (h : m ≠ n) : (s.setMbay n x).mbay m = s.mbay m := tget_tset_ne _ _ _ h
@[simp] theorem State.mbay_modMbay (s : State) (n : Nat) (f : MBay → MBay) : (s.modMbay n f).mbay n = f (s.mbay n) := tget_tset_self ..
theorem State.mbay_modMbay_ne (s : State) (n : Nat) (f : MBay → MBay) (m : Nat) (h : m ≠ n) : (s.modMbay n f).mbay m = s.mbay m := tget_tset_ne _ _ _ h
@[simp] theorem State.sys_setMbay (s : State) (n : Nat) (x : MBay) : (s.setMbay n x).sys = s.sys := rfl
@[simp] theorem State.sys_modMbay (s : State) (n : Nat) (f : MBay → MBay) : (s.modMbay n f).sys = s.sys := rfl
@[simp] theorem State.permits_setMbay (s : State) (n : Nat) (x : MBay) : (s.setMbay n x).permits = s.permits := rfl
@[simp] theorem State.permits_modMbay (s : State) (n : Nat) (f : MBay → MBay) : (s.modMbay n f).permits = s.permits := rfl
@[simp] theorem State.cfg_setMbay (s : State) (n : Nat) (x : MBay) : (s.setMbay n x).cfg = s.cfg := rfl
@[simp] theorem State.cfg_modMbay (s : State) (n : Nat) (f : MBay → MBay) : (s.modMbay n f).cfg = s.cfg := rfl
@[simp] theorem State.img_setMbay (s : State) (n : Nat) (x : MBay) : (s.setMbay n x).img = s.img := rfl
@[simp] theorem State.img_modMbay (s : State) (n : Nat) (f : MBay → MBay) : (s.modMbay n f).img = s.img := rfl
@[simp] theorem State.net_setMbay (s : State) (n : Nat) (x : MBay) : (s.setMbay n x).net = s.net := rfl
@[simp] theorem State.net_modMbay (s : State) (n : Nat) (f : MBay → MBay) : (s.modMbay n f).net = s.net := rfl
@[simp] theorem State.lnd_setMbay (s : State) (n : Nat) (x : MBay) : (s.setMbay n x).lnd = s.lnd := rfl
@[simp] theorem State.lnd_modMbay (s : State) (n : Nat) (f : MBay → MBay) : (s.modMbay n f).lnd = s.lnd := rfl
@[simp] theorem State.hst_setMbay (s : State) (n : Nat) (x : MBay) : (s.setMbay n x).hst = s.hst := rfl
@[simp] theorem State.hst_modMbay (s : State) (n : Nat) (f : MBay → MBay) : (s.modMbay n f).hst = s.hst := rfl
@[simp] theorem State.vlk_setMbay (s : State) (n : Nat) (x : MBay) : (s.setMbay n x).vlk = s.vlk := rfl
@[simp] theorem State.vlk_modMbay (s : State) (n : Nat) (f : MBay → MBay) : (s.modMbay n f).vlk = s.vlk := rfl
@[simp] theorem State.yrd_setMbay (s : State) (n : Nat) (x : MBay) : (s.setMbay n x).yrd = s.yrd := rfl
@[simp] theorem State.yrd_modMbay (s : State) (n : Nat) (f : MBay → MBay) : (s.modMbay n f).yrd = s.yrd := rfl
@[simp] theorem State.tly_setMbay (s : State) (n : Nat) (x : MBay) : (s.setMbay n x).tly = s.tly := rfl
@[simp] theorem State.tly_modMbay (s : State) (n : Nat) (f : MBay → MBay) : (s.modMbay n f).tly = s.tly := rfl
@[simp] theorem State.blz_setMbay (s : State) (n : Nat) (x : MBay) : (s.setMbay n x).blz = s.blz := rfl
@[simp] theorem State.blz_modMbay (s : State) (n : Nat) (f : MBay → MBay) : (s.modMbay n f).blz = s.blz := rfl
@[simp] theorem State.imd_setMbay (s : State) (n : Nat) (x : MBay) : (s.setMbay n x).imd = s.imd := rfl
@[simp] theorem State.imd_modMbay (s : State) (n : Nat) (f : MBay → MBay) : (s.modMbay n f).imd = s.imd := rfl
@[simp] theorem State.saf_setMbay (s : State) (n : Nat) (x : MBay) : (s.setMbay n x).saf = s.saf := rfl
@[simp] theorem State.saf_modMbay (s : State) (n : Nat) (f : MBay → MBay) : (s.modMbay n f).saf = s.saf := rfl
@[simp] theorem State.pvy_setMbay (s : State) (n : Nat) (x : MBay) : (s.setMbay n x).pvy = s.pvy := rfl
@[simp] theorem State.pvy_modMbay (s : State) (n : Nat) (f : MBay → MBay) : (s.modMbay n f).pvy = s.pvy := rfl
@[simp] theorem State.chk_setMbay (s : State) (n : Nat) (x : MBay) : (s.setMbay n x).chk = s.chk := rfl
@[simp] theorem State.chk_modMbay (s : State) (n : Nat) (f : MBay → MBay) : (s.modMbay n f).chk = s.chk := rfl
@[simp] theorem State.skl_setMbay (s : State) (n : Nat) (x : MBay) : (s.setMbay n x).skl = s.skl := rfl
@[simp] theorem State.skl_modMbay (s : State) (n : Nat) (f : MBay → MBay) : (s.modMbay n f).skl = s.skl := rfl
@[simp] theorem State.nfc_setMbay (s : State) (n : Nat) (x : MBay) : (s.setMbay n x).nfc = s.nfc := rfl
@[simp] theorem State.nfc_modMbay (s : State) (n : Nat) (f : MBay → MBay) : (s.modMbay n f).nfc = s.nfc := rfl
@[simp] theorem State.brd_setMbay (s : State) (n : Nat) (x : MBay) : (s.setMbay n x).brd = s.brd := rfl
@[simp] theorem State.brd_modMbay (s : State) (n : Nat) (f : MBay → MBay) : (s.modMbay n f).brd = s.brd := rfl
@[simp] theorem State.key_setMbay (s : State) (n : Nat) (x : MBay) : (s.setMbay n x).key = s.key := rfl
@[simp] theorem State.key_modMbay (s : State) (n : Nat) (f : MBay → MBay) : (s.modMbay n f).key = s.key := rfl
@[simp] theorem State.tim_setMbay (s : State) (n : Nat) (x : MBay) : (s.setMbay n x).tim = s.tim := rfl
@[simp] theorem State.tim_modMbay (s : State) (n : Nat) (f : MBay → MBay) : (s.modMbay n f).tim = s.tim := rfl
@[simp] theorem State.crs_setMbay (s : State) (n : Nat) (x : MBay) : (s.setMbay n x).crs = s.crs := rfl
@[simp] theorem State.crs_modMbay (s : State) (n : Nat) (f : MBay → MBay) : (s.modMbay n f).crs = s.crs := rfl
@[simp] theorem State.evt_setMbay (s : State) (n : Nat) (x : MBay) : (s.setMbay n x).evt = s.evt := rfl
@[simp] theorem State.evt_modMbay (s : State) (n : Nat) (f : MBay → MBay) : (s.modMbay n f).evt = s.evt := rfl
@[simp] theorem State.elog_setMbay (s : State) (n : Nat) (x : MBay) : (s.setMbay n x).elog = s.elog := rfl
@[simp] theorem State.elog_modMbay (s : State) (n : Nat) (f : MBay → MBay) : (s.modMbay n f).elog = s.elog := rfl
@[simp] theorem State.eseq_setMbay (s : State) (n : Nat) (x : MBay) : (s.setMbay n x).eseq = s.eseq := rfl
@[simp] theorem State.eseq_modMbay (s : State) (n : Nat) (f : MBay → MBay) : (s.modMbay n f).eseq = s.eseq := rfl
@[simp] theorem State.elost_setMbay (s : State) (n : Nat) (x : MBay) : (s.setMbay n x).elost = s.elost := rfl
@[simp] theorem State.elost_modMbay (s : State) (n : Nat) (f : MBay → MBay) : (s.modMbay n f).elost = s.elost := rfl
@[simp] theorem State.eSec_setMbay (s : State) (n : Nat) (x : MBay) : (s.setMbay n x).eSec = s.eSec := rfl
@[simp] theorem State.eSec_modMbay (s : State) (n : Nat) (f : MBay → MBay) : (s.modMbay n f).eSec = s.eSec := rfl
@[simp] theorem State.eCount_setMbay (s : State) (n : Nat) (x : MBay) : (s.setMbay n x).eCount = s.eCount := rfl
@[simp] theorem State.eCount_modMbay (s : State) (n : Nat) (f : MBay → MBay) : (s.modMbay n f).eCount = s.eCount := rfl
@[simp] theorem State.mem_setMbay (s : State) (n : Nat) (x : MBay) : (s.setMbay n x).mem = s.mem := rfl
@[simp] theorem State.mem_modMbay (s : State) (n : Nat) (f : MBay → MBay) : (s.modMbay n f).mem = s.mem := rfl
@[simp] theorem State.sent_setMbay (s : State) (n : Nat) (x : MBay) : (s.setMbay n x).sent = s.sent := rfl
@[simp] theorem State.sent_modMbay (s : State) (n : Nat) (f : MBay → MBay) : (s.modMbay n f).sent = s.sent := rfl
@[simp] theorem State.fresh_setMbay (s : State) (n : Nat) (x : MBay) : (s.setMbay n x).fresh = s.fresh := rfl
@[simp] theorem State.fresh_modMbay (s : State) (n : Nat) (f : MBay → MBay) : (s.modMbay n f).fresh = s.fresh := rfl
@[simp] theorem State.pending_setMbay (s : State) (n : Nat) (x : MBay) : (s.setMbay n x).pending = s.pending := rfl
@[simp] theorem State.pending_modMbay (s : State) (n : Nat) (f : MBay → MBay) : (s.modMbay n f).pending = s.pending := rfl
@[simp] theorem State.scl_run_setMbay (s : State) (n : Nat) (x : MBay) : (s.setMbay n x).scl.run = s.scl.run := rfl
@[simp] theorem State.scl_run_modMbay (s : State) (n : Nat) (f : MBay → MBay) : (s.modMbay n f).scl.run = s.scl.run := rfl
@[simp] theorem State.scl_sealed_setMbay (s : State) (n : Nat) (x : MBay) : (s.setMbay n x).scl.sealed = s.scl.sealed := rfl
@[simp] theorem State.scl_sealed_modMbay (s : State) (n : Nat) (f : MBay → MBay) : (s.modMbay n f).scl.sealed = s.scl.sealed := rfl
@[simp] theorem State.scl_cal_setMbay (s : State) (n : Nat) (x : MBay) : (s.setMbay n x).scl.cal = s.scl.cal := rfl
@[simp] theorem State.scl_cal_modMbay (s : State) (n : Nat) (f : MBay → MBay) : (s.modMbay n f).scl.cal = s.scl.cal := rfl
@[simp] theorem State.scl_calCnt_setMbay (s : State) (n : Nat) (x : MBay) : (s.setMbay n x).scl.calCnt = s.scl.calCnt := rfl
@[simp] theorem State.scl_calCnt_modMbay (s : State) (n : Nat) (f : MBay → MBay) : (s.modMbay n f).scl.calCnt = s.scl.calCnt := rfl
@[simp] theorem State.scl_calOk_setMbay (s : State) (n : Nat) (x : MBay) : (s.setMbay n x).scl.calOk = s.scl.calOk := rfl
@[simp] theorem State.scl_calOk_modMbay (s : State) (n : Nat) (f : MBay → MBay) : (s.modMbay n f).scl.calOk = s.scl.calOk := rfl
@[simp] theorem State.scl_fill_setMbay (s : State) (n : Nat) (x : MBay) : (s.setMbay n x).scl.fill = s.scl.fill := rfl
@[simp] theorem State.scl_fill_modMbay (s : State) (n : Nat) (f : MBay → MBay) : (s.modMbay n f).scl.fill = s.scl.fill := rfl
@[simp] theorem State.scl_metered_setMbay (s : State) (n : Nat) (x : MBay) : (s.setMbay n x).scl.metered = s.scl.metered := rfl
@[simp] theorem State.scl_metered_modMbay (s : State) (n : Nat) (f : MBay → MBay) : (s.modMbay n f).scl.metered = s.scl.metered := rfl
@[simp] theorem State.scl_pulses_setMbay (s : State) (n : Nat) (x : MBay) : (s.setMbay n x).scl.pulses = s.scl.pulses := rfl
@[simp] theorem State.scl_pulses_modMbay (s : State) (n : Nat) (f : MBay → MBay) : (s.modMbay n f).scl.pulses = s.scl.pulses := rfl
@[simp] theorem State.scl_savedPulses_setMbay (s : State) (n : Nat) (x : MBay) : (s.setMbay n x).scl.savedPulses = s.scl.savedPulses := rfl
@[simp] theorem State.scl_savedPulses_modMbay (s : State) (n : Nat) (f : MBay → MBay) : (s.modMbay n f).scl.savedPulses = s.scl.savedPulses := rfl
@[simp] theorem State.scl_savedCfg_setMbay (s : State) (n : Nat) (x : MBay) : (s.setMbay n x).scl.savedCfg = s.scl.savedCfg := rfl
@[simp] theorem State.scl_savedCfg_modMbay (s : State) (n : Nat) (f : MBay → MBay) : (s.modMbay n f).scl.savedCfg = s.scl.savedCfg := rfl
@[simp] theorem State.scl_residual_setMbay (s : State) (n : Nat) (x : MBay) : (s.setMbay n x).scl.residual = s.scl.residual := rfl
@[simp] theorem State.scl_residual_modMbay (s : State) (n : Nat) (f : MBay → MBay) : (s.modMbay n f).scl.residual = s.scl.residual := rfl

/-! ### `pulse` -/

@[simp] theorem State.pulse_setPulse (s : State) (n : Nat) (x : Pulse) : (s.setPulse n x).pulse n = x := tget_tset_self ..
theorem State.pulse_setPulse_ne (s : State) (n : Nat) (x : Pulse) (m : Nat) (h : m ≠ n) : (s.setPulse n x).pulse m = s.pulse m := tget_tset_ne _ _ _ h
@[simp] theorem State.pulse_modPulse (s : State) (n : Nat) (f : Pulse → Pulse) : (s.modPulse n f).pulse n = f (s.pulse n) := tget_tset_self ..
theorem State.pulse_modPulse_ne (s : State) (n : Nat) (f : Pulse → Pulse) (m : Nat) (h : m ≠ n) : (s.modPulse n f).pulse m = s.pulse m := tget_tset_ne _ _ _ h
@[simp] theorem State.sys_setPulse (s : State) (n : Nat) (x : Pulse) : (s.setPulse n x).sys = s.sys := rfl
@[simp] theorem State.sys_modPulse (s : State) (n : Nat) (f : Pulse → Pulse) : (s.modPulse n f).sys = s.sys := rfl
@[simp] theorem State.permits_setPulse (s : State) (n : Nat) (x : Pulse) : (s.setPulse n x).permits = s.permits := rfl
@[simp] theorem State.permits_modPulse (s : State) (n : Nat) (f : Pulse → Pulse) : (s.modPulse n f).permits = s.permits := rfl
@[simp] theorem State.cfg_setPulse (s : State) (n : Nat) (x : Pulse) : (s.setPulse n x).cfg = s.cfg := rfl
@[simp] theorem State.cfg_modPulse (s : State) (n : Nat) (f : Pulse → Pulse) : (s.modPulse n f).cfg = s.cfg := rfl
@[simp] theorem State.img_setPulse (s : State) (n : Nat) (x : Pulse) : (s.setPulse n x).img = s.img := rfl
@[simp] theorem State.img_modPulse (s : State) (n : Nat) (f : Pulse → Pulse) : (s.modPulse n f).img = s.img := rfl
@[simp] theorem State.net_setPulse (s : State) (n : Nat) (x : Pulse) : (s.setPulse n x).net = s.net := rfl
@[simp] theorem State.net_modPulse (s : State) (n : Nat) (f : Pulse → Pulse) : (s.modPulse n f).net = s.net := rfl
@[simp] theorem State.lnd_setPulse (s : State) (n : Nat) (x : Pulse) : (s.setPulse n x).lnd = s.lnd := rfl
@[simp] theorem State.lnd_modPulse (s : State) (n : Nat) (f : Pulse → Pulse) : (s.modPulse n f).lnd = s.lnd := rfl
@[simp] theorem State.hst_setPulse (s : State) (n : Nat) (x : Pulse) : (s.setPulse n x).hst = s.hst := rfl
@[simp] theorem State.hst_modPulse (s : State) (n : Nat) (f : Pulse → Pulse) : (s.modPulse n f).hst = s.hst := rfl
@[simp] theorem State.vlk_setPulse (s : State) (n : Nat) (x : Pulse) : (s.setPulse n x).vlk = s.vlk := rfl
@[simp] theorem State.vlk_modPulse (s : State) (n : Nat) (f : Pulse → Pulse) : (s.modPulse n f).vlk = s.vlk := rfl
@[simp] theorem State.yrd_setPulse (s : State) (n : Nat) (x : Pulse) : (s.setPulse n x).yrd = s.yrd := rfl
@[simp] theorem State.yrd_modPulse (s : State) (n : Nat) (f : Pulse → Pulse) : (s.modPulse n f).yrd = s.yrd := rfl
@[simp] theorem State.tly_setPulse (s : State) (n : Nat) (x : Pulse) : (s.setPulse n x).tly = s.tly := rfl
@[simp] theorem State.tly_modPulse (s : State) (n : Nat) (f : Pulse → Pulse) : (s.modPulse n f).tly = s.tly := rfl
@[simp] theorem State.blz_setPulse (s : State) (n : Nat) (x : Pulse) : (s.setPulse n x).blz = s.blz := rfl
@[simp] theorem State.blz_modPulse (s : State) (n : Nat) (f : Pulse → Pulse) : (s.modPulse n f).blz = s.blz := rfl
@[simp] theorem State.imd_setPulse (s : State) (n : Nat) (x : Pulse) : (s.setPulse n x).imd = s.imd := rfl
@[simp] theorem State.imd_modPulse (s : State) (n : Nat) (f : Pulse → Pulse) : (s.modPulse n f).imd = s.imd := rfl
@[simp] theorem State.saf_setPulse (s : State) (n : Nat) (x : Pulse) : (s.setPulse n x).saf = s.saf := rfl
@[simp] theorem State.saf_modPulse (s : State) (n : Nat) (f : Pulse → Pulse) : (s.modPulse n f).saf = s.saf := rfl
@[simp] theorem State.pvy_setPulse (s : State) (n : Nat) (x : Pulse) : (s.setPulse n x).pvy = s.pvy := rfl
@[simp] theorem State.pvy_modPulse (s : State) (n : Nat) (f : Pulse → Pulse) : (s.modPulse n f).pvy = s.pvy := rfl
@[simp] theorem State.chk_setPulse (s : State) (n : Nat) (x : Pulse) : (s.setPulse n x).chk = s.chk := rfl
@[simp] theorem State.chk_modPulse (s : State) (n : Nat) (f : Pulse → Pulse) : (s.modPulse n f).chk = s.chk := rfl
@[simp] theorem State.skl_setPulse (s : State) (n : Nat) (x : Pulse) : (s.setPulse n x).skl = s.skl := rfl
@[simp] theorem State.skl_modPulse (s : State) (n : Nat) (f : Pulse → Pulse) : (s.modPulse n f).skl = s.skl := rfl
@[simp] theorem State.nfc_setPulse (s : State) (n : Nat) (x : Pulse) : (s.setPulse n x).nfc = s.nfc := rfl
@[simp] theorem State.nfc_modPulse (s : State) (n : Nat) (f : Pulse → Pulse) : (s.modPulse n f).nfc = s.nfc := rfl
@[simp] theorem State.brd_setPulse (s : State) (n : Nat) (x : Pulse) : (s.setPulse n x).brd = s.brd := rfl
@[simp] theorem State.brd_modPulse (s : State) (n : Nat) (f : Pulse → Pulse) : (s.modPulse n f).brd = s.brd := rfl
@[simp] theorem State.key_setPulse (s : State) (n : Nat) (x : Pulse) : (s.setPulse n x).key = s.key := rfl
@[simp] theorem State.key_modPulse (s : State) (n : Nat) (f : Pulse → Pulse) : (s.modPulse n f).key = s.key := rfl
@[simp] theorem State.tim_setPulse (s : State) (n : Nat) (x : Pulse) : (s.setPulse n x).tim = s.tim := rfl
@[simp] theorem State.tim_modPulse (s : State) (n : Nat) (f : Pulse → Pulse) : (s.modPulse n f).tim = s.tim := rfl
@[simp] theorem State.crs_setPulse (s : State) (n : Nat) (x : Pulse) : (s.setPulse n x).crs = s.crs := rfl
@[simp] theorem State.crs_modPulse (s : State) (n : Nat) (f : Pulse → Pulse) : (s.modPulse n f).crs = s.crs := rfl
@[simp] theorem State.evt_setPulse (s : State) (n : Nat) (x : Pulse) : (s.setPulse n x).evt = s.evt := rfl
@[simp] theorem State.evt_modPulse (s : State) (n : Nat) (f : Pulse → Pulse) : (s.modPulse n f).evt = s.evt := rfl
@[simp] theorem State.elog_setPulse (s : State) (n : Nat) (x : Pulse) : (s.setPulse n x).elog = s.elog := rfl
@[simp] theorem State.elog_modPulse (s : State) (n : Nat) (f : Pulse → Pulse) : (s.modPulse n f).elog = s.elog := rfl
@[simp] theorem State.eseq_setPulse (s : State) (n : Nat) (x : Pulse) : (s.setPulse n x).eseq = s.eseq := rfl
@[simp] theorem State.eseq_modPulse (s : State) (n : Nat) (f : Pulse → Pulse) : (s.modPulse n f).eseq = s.eseq := rfl
@[simp] theorem State.elost_setPulse (s : State) (n : Nat) (x : Pulse) : (s.setPulse n x).elost = s.elost := rfl
@[simp] theorem State.elost_modPulse (s : State) (n : Nat) (f : Pulse → Pulse) : (s.modPulse n f).elost = s.elost := rfl
@[simp] theorem State.eSec_setPulse (s : State) (n : Nat) (x : Pulse) : (s.setPulse n x).eSec = s.eSec := rfl
@[simp] theorem State.eSec_modPulse (s : State) (n : Nat) (f : Pulse → Pulse) : (s.modPulse n f).eSec = s.eSec := rfl
@[simp] theorem State.eCount_setPulse (s : State) (n : Nat) (x : Pulse) : (s.setPulse n x).eCount = s.eCount := rfl
@[simp] theorem State.eCount_modPulse (s : State) (n : Nat) (f : Pulse → Pulse) : (s.modPulse n f).eCount = s.eCount := rfl
@[simp] theorem State.mem_setPulse (s : State) (n : Nat) (x : Pulse) : (s.setPulse n x).mem = s.mem := rfl
@[simp] theorem State.mem_modPulse (s : State) (n : Nat) (f : Pulse → Pulse) : (s.modPulse n f).mem = s.mem := rfl
@[simp] theorem State.sent_setPulse (s : State) (n : Nat) (x : Pulse) : (s.setPulse n x).sent = s.sent := rfl
@[simp] theorem State.sent_modPulse (s : State) (n : Nat) (f : Pulse → Pulse) : (s.modPulse n f).sent = s.sent := rfl
@[simp] theorem State.fresh_setPulse (s : State) (n : Nat) (x : Pulse) : (s.setPulse n x).fresh = s.fresh := rfl
@[simp] theorem State.fresh_modPulse (s : State) (n : Nat) (f : Pulse → Pulse) : (s.modPulse n f).fresh = s.fresh := rfl
@[simp] theorem State.pending_setPulse (s : State) (n : Nat) (x : Pulse) : (s.setPulse n x).pending = s.pending := rfl
@[simp] theorem State.pending_modPulse (s : State) (n : Nat) (f : Pulse → Pulse) : (s.modPulse n f).pending = s.pending := rfl
@[simp] theorem State.scl_run_setPulse (s : State) (n : Nat) (x : Pulse) : (s.setPulse n x).scl.run = s.scl.run := rfl
@[simp] theorem State.scl_run_modPulse (s : State) (n : Nat) (f : Pulse → Pulse) : (s.modPulse n f).scl.run = s.scl.run := rfl
@[simp] theorem State.scl_sealed_setPulse (s : State) (n : Nat) (x : Pulse) : (s.setPulse n x).scl.sealed = s.scl.sealed := rfl
@[simp] theorem State.scl_sealed_modPulse (s : State) (n : Nat) (f : Pulse → Pulse) : (s.modPulse n f).scl.sealed = s.scl.sealed := rfl
@[simp] theorem State.scl_cal_setPulse (s : State) (n : Nat) (x : Pulse) : (s.setPulse n x).scl.cal = s.scl.cal := rfl
@[simp] theorem State.scl_cal_modPulse (s : State) (n : Nat) (f : Pulse → Pulse) : (s.modPulse n f).scl.cal = s.scl.cal := rfl
@[simp] theorem State.scl_calCnt_setPulse (s : State) (n : Nat) (x : Pulse) : (s.setPulse n x).scl.calCnt = s.scl.calCnt := rfl
@[simp] theorem State.scl_calCnt_modPulse (s : State) (n : Nat) (f : Pulse → Pulse) : (s.modPulse n f).scl.calCnt = s.scl.calCnt := rfl
@[simp] theorem State.scl_calOk_setPulse (s : State) (n : Nat) (x : Pulse) : (s.setPulse n x).scl.calOk = s.scl.calOk := rfl
@[simp] theorem State.scl_calOk_modPulse (s : State) (n : Nat) (f : Pulse → Pulse) : (s.modPulse n f).scl.calOk = s.scl.calOk := rfl
@[simp] theorem State.scl_fill_setPulse (s : State) (n : Nat) (x : Pulse) : (s.setPulse n x).scl.fill = s.scl.fill := rfl
@[simp] theorem State.scl_fill_modPulse (s : State) (n : Nat) (f : Pulse → Pulse) : (s.modPulse n f).scl.fill = s.scl.fill := rfl
@[simp] theorem State.scl_metered_setPulse (s : State) (n : Nat) (x : Pulse) : (s.setPulse n x).scl.metered = s.scl.metered := rfl
@[simp] theorem State.scl_metered_modPulse (s : State) (n : Nat) (f : Pulse → Pulse) : (s.modPulse n f).scl.metered = s.scl.metered := rfl
@[simp] theorem State.scl_bays_setPulse (s : State) (n : Nat) (x : Pulse) : (s.setPulse n x).scl.bays = s.scl.bays := rfl
@[simp] theorem State.scl_bays_modPulse (s : State) (n : Nat) (f : Pulse → Pulse) : (s.modPulse n f).scl.bays = s.scl.bays := rfl
@[simp] theorem State.scl_savedPulses_setPulse (s : State) (n : Nat) (x : Pulse) : (s.setPulse n x).scl.savedPulses = s.scl.savedPulses := rfl
@[simp] theorem State.scl_savedPulses_modPulse (s : State) (n : Nat) (f : Pulse → Pulse) : (s.modPulse n f).scl.savedPulses = s.scl.savedPulses := rfl
@[simp] theorem State.scl_savedCfg_setPulse (s : State) (n : Nat) (x : Pulse) : (s.setPulse n x).scl.savedCfg = s.scl.savedCfg := rfl
@[simp] theorem State.scl_savedCfg_modPulse (s : State) (n : Nat) (f : Pulse → Pulse) : (s.modPulse n f).scl.savedCfg = s.scl.savedCfg := rfl
@[simp] theorem State.scl_residual_setPulse (s : State) (n : Nat) (x : Pulse) : (s.setPulse n x).scl.residual = s.scl.residual := rfl
@[simp] theorem State.scl_residual_modPulse (s : State) (n : Nat) (f : Pulse → Pulse) : (s.modPulse n f).scl.residual = s.scl.residual := rfl

/-! ### `imdB` -/

@[simp] theorem State.imdB_setImdB (s : State) (n : Nat) (x : ImdBay) : (s.setImdB n x).imdB n = x := tget_tset_self ..
theorem State.imdB_setImdB_ne (s : State) (n : Nat) (x : ImdBay) (m : Nat) (h : m ≠ n) : (s.setImdB n x).imdB m = s.imdB m := tget_tset_ne _ _ _ h
@[simp] theorem State.imdB_modImdB (s : State) (n : Nat) (f : ImdBay → ImdBay) : (s.modImdB n f).imdB n = f (s.imdB n) := tget_tset_self ..
theorem State.imdB_modImdB_ne (s : State) (n : Nat) (f : ImdBay → ImdBay) (m : Nat) (h : m ≠ n) : (s.modImdB n f).imdB m = s.imdB m := tget_tset_ne _ _ _ h
@[simp] theorem State.sys_setImdB (s : State) (n : Nat) (x : ImdBay) : (s.setImdB n x).sys = s.sys := rfl
@[simp] theorem State.sys_modImdB (s : State) (n : Nat) (f : ImdBay → ImdBay) : (s.modImdB n f).sys = s.sys := rfl
@[simp] theorem State.permits_setImdB (s : State) (n : Nat) (x : ImdBay) : (s.setImdB n x).permits = s.permits := rfl
@[simp] theorem State.permits_modImdB (s : State) (n : Nat) (f : ImdBay → ImdBay) : (s.modImdB n f).permits = s.permits := rfl
@[simp] theorem State.cfg_setImdB (s : State) (n : Nat) (x : ImdBay) : (s.setImdB n x).cfg = s.cfg := rfl
@[simp] theorem State.cfg_modImdB (s : State) (n : Nat) (f : ImdBay → ImdBay) : (s.modImdB n f).cfg = s.cfg := rfl
@[simp] theorem State.img_setImdB (s : State) (n : Nat) (x : ImdBay) : (s.setImdB n x).img = s.img := rfl
@[simp] theorem State.img_modImdB (s : State) (n : Nat) (f : ImdBay → ImdBay) : (s.modImdB n f).img = s.img := rfl
@[simp] theorem State.net_setImdB (s : State) (n : Nat) (x : ImdBay) : (s.setImdB n x).net = s.net := rfl
@[simp] theorem State.net_modImdB (s : State) (n : Nat) (f : ImdBay → ImdBay) : (s.modImdB n f).net = s.net := rfl
@[simp] theorem State.lnd_setImdB (s : State) (n : Nat) (x : ImdBay) : (s.setImdB n x).lnd = s.lnd := rfl
@[simp] theorem State.lnd_modImdB (s : State) (n : Nat) (f : ImdBay → ImdBay) : (s.modImdB n f).lnd = s.lnd := rfl
@[simp] theorem State.hst_setImdB (s : State) (n : Nat) (x : ImdBay) : (s.setImdB n x).hst = s.hst := rfl
@[simp] theorem State.hst_modImdB (s : State) (n : Nat) (f : ImdBay → ImdBay) : (s.modImdB n f).hst = s.hst := rfl
@[simp] theorem State.vlk_setImdB (s : State) (n : Nat) (x : ImdBay) : (s.setImdB n x).vlk = s.vlk := rfl
@[simp] theorem State.vlk_modImdB (s : State) (n : Nat) (f : ImdBay → ImdBay) : (s.modImdB n f).vlk = s.vlk := rfl
@[simp] theorem State.yrd_setImdB (s : State) (n : Nat) (x : ImdBay) : (s.setImdB n x).yrd = s.yrd := rfl
@[simp] theorem State.yrd_modImdB (s : State) (n : Nat) (f : ImdBay → ImdBay) : (s.modImdB n f).yrd = s.yrd := rfl
@[simp] theorem State.scl_setImdB (s : State) (n : Nat) (x : ImdBay) : (s.setImdB n x).scl = s.scl := rfl
@[simp] theorem State.scl_modImdB (s : State) (n : Nat) (f : ImdBay → ImdBay) : (s.modImdB n f).scl = s.scl := rfl
@[simp] theorem State.tly_setImdB (s : State) (n : Nat) (x : ImdBay) : (s.setImdB n x).tly = s.tly := rfl
@[simp] theorem State.tly_modImdB (s : State) (n : Nat) (f : ImdBay → ImdBay) : (s.modImdB n f).tly = s.tly := rfl
@[simp] theorem State.blz_setImdB (s : State) (n : Nat) (x : ImdBay) : (s.setImdB n x).blz = s.blz := rfl
@[simp] theorem State.blz_modImdB (s : State) (n : Nat) (f : ImdBay → ImdBay) : (s.modImdB n f).blz = s.blz := rfl
@[simp] theorem State.saf_setImdB (s : State) (n : Nat) (x : ImdBay) : (s.setImdB n x).saf = s.saf := rfl
@[simp] theorem State.saf_modImdB (s : State) (n : Nat) (f : ImdBay → ImdBay) : (s.modImdB n f).saf = s.saf := rfl
@[simp] theorem State.pvy_setImdB (s : State) (n : Nat) (x : ImdBay) : (s.setImdB n x).pvy = s.pvy := rfl
@[simp] theorem State.pvy_modImdB (s : State) (n : Nat) (f : ImdBay → ImdBay) : (s.modImdB n f).pvy = s.pvy := rfl
@[simp] theorem State.chk_setImdB (s : State) (n : Nat) (x : ImdBay) : (s.setImdB n x).chk = s.chk := rfl
@[simp] theorem State.chk_modImdB (s : State) (n : Nat) (f : ImdBay → ImdBay) : (s.modImdB n f).chk = s.chk := rfl
@[simp] theorem State.skl_setImdB (s : State) (n : Nat) (x : ImdBay) : (s.setImdB n x).skl = s.skl := rfl
@[simp] theorem State.skl_modImdB (s : State) (n : Nat) (f : ImdBay → ImdBay) : (s.modImdB n f).skl = s.skl := rfl
@[simp] theorem State.nfc_setImdB (s : State) (n : Nat) (x : ImdBay) : (s.setImdB n x).nfc = s.nfc := rfl
@[simp] theorem State.nfc_modImdB (s : State) (n : Nat) (f : ImdBay → ImdBay) : (s.modImdB n f).nfc = s.nfc := rfl
@[simp] theorem State.brd_setImdB (s : State) (n : Nat) (x : ImdBay) : (s.setImdB n x).brd = s.brd := rfl
@[simp] theorem State.brd_modImdB (s : State) (n : Nat) (f : ImdBay → ImdBay) : (s.modImdB n f).brd = s.brd := rfl
@[simp] theorem State.key_setImdB (s : State) (n : Nat) (x : ImdBay) : (s.setImdB n x).key = s.key := rfl
@[simp] theorem State.key_modImdB (s : State) (n : Nat) (f : ImdBay → ImdBay) : (s.modImdB n f).key = s.key := rfl
@[simp] theorem State.tim_setImdB (s : State) (n : Nat) (x : ImdBay) : (s.setImdB n x).tim = s.tim := rfl
@[simp] theorem State.tim_modImdB (s : State) (n : Nat) (f : ImdBay → ImdBay) : (s.modImdB n f).tim = s.tim := rfl
@[simp] theorem State.crs_setImdB (s : State) (n : Nat) (x : ImdBay) : (s.setImdB n x).crs = s.crs := rfl
@[simp] theorem State.crs_modImdB (s : State) (n : Nat) (f : ImdBay → ImdBay) : (s.modImdB n f).crs = s.crs := rfl
@[simp] theorem State.evt_setImdB (s : State) (n : Nat) (x : ImdBay) : (s.setImdB n x).evt = s.evt := rfl
@[simp] theorem State.evt_modImdB (s : State) (n : Nat) (f : ImdBay → ImdBay) : (s.modImdB n f).evt = s.evt := rfl
@[simp] theorem State.elog_setImdB (s : State) (n : Nat) (x : ImdBay) : (s.setImdB n x).elog = s.elog := rfl
@[simp] theorem State.elog_modImdB (s : State) (n : Nat) (f : ImdBay → ImdBay) : (s.modImdB n f).elog = s.elog := rfl
@[simp] theorem State.eseq_setImdB (s : State) (n : Nat) (x : ImdBay) : (s.setImdB n x).eseq = s.eseq := rfl
@[simp] theorem State.eseq_modImdB (s : State) (n : Nat) (f : ImdBay → ImdBay) : (s.modImdB n f).eseq = s.eseq := rfl
@[simp] theorem State.elost_setImdB (s : State) (n : Nat) (x : ImdBay) : (s.setImdB n x).elost = s.elost := rfl
@[simp] theorem State.elost_modImdB (s : State) (n : Nat) (f : ImdBay → ImdBay) : (s.modImdB n f).elost = s.elost := rfl
@[simp] theorem State.eSec_setImdB (s : State) (n : Nat) (x : ImdBay) : (s.setImdB n x).eSec = s.eSec := rfl
@[simp] theorem State.eSec_modImdB (s : State) (n : Nat) (f : ImdBay → ImdBay) : (s.modImdB n f).eSec = s.eSec := rfl
@[simp] theorem State.eCount_setImdB (s : State) (n : Nat) (x : ImdBay) : (s.setImdB n x).eCount = s.eCount := rfl
@[simp] theorem State.eCount_modImdB (s : State) (n : Nat) (f : ImdBay → ImdBay) : (s.modImdB n f).eCount = s.eCount := rfl
@[simp] theorem State.mem_setImdB (s : State) (n : Nat) (x : ImdBay) : (s.setImdB n x).mem = s.mem := rfl
@[simp] theorem State.mem_modImdB (s : State) (n : Nat) (f : ImdBay → ImdBay) : (s.modImdB n f).mem = s.mem := rfl
@[simp] theorem State.sent_setImdB (s : State) (n : Nat) (x : ImdBay) : (s.setImdB n x).sent = s.sent := rfl
@[simp] theorem State.sent_modImdB (s : State) (n : Nat) (f : ImdBay → ImdBay) : (s.modImdB n f).sent = s.sent := rfl
@[simp] theorem State.fresh_setImdB (s : State) (n : Nat) (x : ImdBay) : (s.setImdB n x).fresh = s.fresh := rfl
@[simp] theorem State.fresh_modImdB (s : State) (n : Nat) (f : ImdBay → ImdBay) : (s.modImdB n f).fresh = s.fresh := rfl
@[simp] theorem State.pending_setImdB (s : State) (n : Nat) (x : ImdBay) : (s.setImdB n x).pending = s.pending := rfl
@[simp] theorem State.pending_modImdB (s : State) (n : Nat) (f : ImdBay → ImdBay) : (s.modImdB n f).pending = s.pending := rfl

/-! ### `point` -/

@[simp] theorem State.point_setPoint (s : State) (n : Nat) (x : Point) : (s.setPoint n x).point n = x := tget_tset_self ..
theorem State.point_setPoint_ne (s : State) (n : Nat) (x : Point) (m : Nat) (h : m ≠ n) : (s.setPoint n x).point m = s.point m := tget_tset_ne _ _ _ h
@[simp] theorem State.point_modPoint (s : State) (n : Nat) (f : Point → Point) : (s.modPoint n f).point n = f (s.point n) := tget_tset_self ..
theorem State.point_modPoint_ne (s : State) (n : Nat) (f : Point → Point) (m : Nat) (h : m ≠ n) : (s.modPoint n f).point m = s.point m := tget_tset_ne _ _ _ h
@[simp] theorem State.sys_setPoint (s : State) (n : Nat) (x : Point) : (s.setPoint n x).sys = s.sys := rfl
@[simp] theorem State.sys_modPoint (s : State) (n : Nat) (f : Point → Point) : (s.modPoint n f).sys = s.sys := rfl
@[simp] theorem State.permits_setPoint (s : State) (n : Nat) (x : Point) : (s.setPoint n x).permits = s.permits := rfl
@[simp] theorem State.permits_modPoint (s : State) (n : Nat) (f : Point → Point) : (s.modPoint n f).permits = s.permits := rfl
@[simp] theorem State.cfg_setPoint (s : State) (n : Nat) (x : Point) : (s.setPoint n x).cfg = s.cfg := rfl
@[simp] theorem State.cfg_modPoint (s : State) (n : Nat) (f : Point → Point) : (s.modPoint n f).cfg = s.cfg := rfl
@[simp] theorem State.img_setPoint (s : State) (n : Nat) (x : Point) : (s.setPoint n x).img = s.img := rfl
@[simp] theorem State.img_modPoint (s : State) (n : Nat) (f : Point → Point) : (s.modPoint n f).img = s.img := rfl
@[simp] theorem State.net_setPoint (s : State) (n : Nat) (x : Point) : (s.setPoint n x).net = s.net := rfl
@[simp] theorem State.net_modPoint (s : State) (n : Nat) (f : Point → Point) : (s.modPoint n f).net = s.net := rfl
@[simp] theorem State.hst_setPoint (s : State) (n : Nat) (x : Point) : (s.setPoint n x).hst = s.hst := rfl
@[simp] theorem State.hst_modPoint (s : State) (n : Nat) (f : Point → Point) : (s.modPoint n f).hst = s.hst := rfl
@[simp] theorem State.vlk_setPoint (s : State) (n : Nat) (x : Point) : (s.setPoint n x).vlk = s.vlk := rfl
@[simp] theorem State.vlk_modPoint (s : State) (n : Nat) (f : Point → Point) : (s.modPoint n f).vlk = s.vlk := rfl
@[simp] theorem State.yrd_setPoint (s : State) (n : Nat) (x : Point) : (s.setPoint n x).yrd = s.yrd := rfl
@[simp] theorem State.yrd_modPoint (s : State) (n : Nat) (f : Point → Point) : (s.modPoint n f).yrd = s.yrd := rfl
@[simp] theorem State.scl_setPoint (s : State) (n : Nat) (x : Point) : (s.setPoint n x).scl = s.scl := rfl
@[simp] theorem State.scl_modPoint (s : State) (n : Nat) (f : Point → Point) : (s.modPoint n f).scl = s.scl := rfl
@[simp] theorem State.tly_setPoint (s : State) (n : Nat) (x : Point) : (s.setPoint n x).tly = s.tly := rfl
@[simp] theorem State.tly_modPoint (s : State) (n : Nat) (f : Point → Point) : (s.modPoint n f).tly = s.tly := rfl
@[simp] theorem State.blz_setPoint (s : State) (n : Nat) (x : Point) : (s.setPoint n x).blz = s.blz := rfl
@[simp] theorem State.blz_modPoint (s : State) (n : Nat) (f : Point → Point) : (s.modPoint n f).blz = s.blz := rfl
@[simp] theorem State.imd_setPoint (s : State) (n : Nat) (x : Point) : (s.setPoint n x).imd = s.imd := rfl
@[simp] theorem State.imd_modPoint (s : State) (n : Nat) (f : Point → Point) : (s.modPoint n f).imd = s.imd := rfl
@[simp] theorem State.saf_setPoint (s : State) (n : Nat) (x : Point) : (s.setPoint n x).saf = s.saf := rfl
@[simp] theorem State.saf_modPoint (s : State) (n : Nat) (f : Point → Point) : (s.modPoint n f).saf = s.saf := rfl
@[simp] theorem State.pvy_setPoint (s : State) (n : Nat) (x : Point) : (s.setPoint n x).pvy = s.pvy := rfl
@[simp] theorem State.pvy_modPoint (s : State) (n : Nat) (f : Point → Point) : (s.modPoint n f).pvy = s.pvy := rfl
@[simp] theorem State.chk_setPoint (s : State) (n : Nat) (x : Point) : (s.setPoint n x).chk = s.chk := rfl
@[simp] theorem State.chk_modPoint (s : State) (n : Nat) (f : Point → Point) : (s.modPoint n f).chk = s.chk := rfl
@[simp] theorem State.skl_setPoint (s : State) (n : Nat) (x : Point) : (s.setPoint n x).skl = s.skl := rfl
@[simp] theorem State.skl_modPoint (s : State) (n : Nat) (f : Point → Point) : (s.modPoint n f).skl = s.skl := rfl
@[simp] theorem State.nfc_setPoint (s : State) (n : Nat) (x : Point) : (s.setPoint n x).nfc = s.nfc := rfl
@[simp] theorem State.nfc_modPoint (s : State) (n : Nat) (f : Point → Point) : (s.modPoint n f).nfc = s.nfc := rfl
@[simp] theorem State.brd_setPoint (s : State) (n : Nat) (x : Point) : (s.setPoint n x).brd = s.brd := rfl
@[simp] theorem State.brd_modPoint (s : State) (n : Nat) (f : Point → Point) : (s.modPoint n f).brd = s.brd := rfl
@[simp] theorem State.key_setPoint (s : State) (n : Nat) (x : Point) : (s.setPoint n x).key = s.key := rfl
@[simp] theorem State.key_modPoint (s : State) (n : Nat) (f : Point → Point) : (s.modPoint n f).key = s.key := rfl
@[simp] theorem State.tim_setPoint (s : State) (n : Nat) (x : Point) : (s.setPoint n x).tim = s.tim := rfl
@[simp] theorem State.tim_modPoint (s : State) (n : Nat) (f : Point → Point) : (s.modPoint n f).tim = s.tim := rfl
@[simp] theorem State.crs_setPoint (s : State) (n : Nat) (x : Point) : (s.setPoint n x).crs = s.crs := rfl
@[simp] theorem State.crs_modPoint (s : State) (n : Nat) (f : Point → Point) : (s.modPoint n f).crs = s.crs := rfl
@[simp] theorem State.evt_setPoint (s : State) (n : Nat) (x : Point) : (s.setPoint n x).evt = s.evt := rfl
@[simp] theorem State.evt_modPoint (s : State) (n : Nat) (f : Point → Point) : (s.modPoint n f).evt = s.evt := rfl
@[simp] theorem State.elog_setPoint (s : State) (n : Nat) (x : Point) : (s.setPoint n x).elog = s.elog := rfl
@[simp] theorem State.elog_modPoint (s : State) (n : Nat) (f : Point → Point) : (s.modPoint n f).elog = s.elog := rfl
@[simp] theorem State.eseq_setPoint (s : State) (n : Nat) (x : Point) : (s.setPoint n x).eseq = s.eseq := rfl
@[simp] theorem State.eseq_modPoint (s : State) (n : Nat) (f : Point → Point) : (s.modPoint n f).eseq = s.eseq := rfl
@[simp] theorem State.elost_setPoint (s : State) (n : Nat) (x : Point) : (s.setPoint n x).elost = s.elost := rfl
@[simp] theorem State.elost_modPoint (s : State) (n : Nat) (f : Point → Point) : (s.modPoint n f).elost = s.elost := rfl
@[simp] theorem State.eSec_setPoint (s : State) (n : Nat) (x : Point) : (s.setPoint n x).eSec = s.eSec := rfl
@[simp] theorem State.eSec_modPoint (s : State) (n : Nat) (f : Point → Point) : (s.modPoint n f).eSec = s.eSec := rfl
@[simp] theorem State.eCount_setPoint (s : State) (n : Nat) (x : Point) : (s.setPoint n x).eCount = s.eCount := rfl
@[simp] theorem State.eCount_modPoint (s : State) (n : Nat) (f : Point → Point) : (s.modPoint n f).eCount = s.eCount := rfl
@[simp] theorem State.mem_setPoint (s : State) (n : Nat) (x : Point) : (s.setPoint n x).mem = s.mem := rfl
@[simp] theorem State.mem_modPoint (s : State) (n : Nat) (f : Point → Point) : (s.modPoint n f).mem = s.mem := rfl
@[simp] theorem State.sent_setPoint (s : State) (n : Nat) (x : Point) : (s.setPoint n x).sent = s.sent := rfl
@[simp] theorem State.sent_modPoint (s : State) (n : Nat) (f : Point → Point) : (s.modPoint n f).sent = s.sent := rfl
@[simp] theorem State.fresh_setPoint (s : State) (n : Nat) (x : Point) : (s.setPoint n x).fresh = s.fresh := rfl
@[simp] theorem State.fresh_modPoint (s : State) (n : Nat) (f : Point → Point) : (s.modPoint n f).fresh = s.fresh := rfl
@[simp] theorem State.pending_setPoint (s : State) (n : Nat) (x : Point) : (s.setPoint n x).pending = s.pending := rfl
@[simp] theorem State.pending_modPoint (s : State) (n : Nat) (f : Point → Point) : (s.modPoint n f).pending = s.pending := rfl
@[simp] theorem State.lnd_points_setPoint (s : State) (n : Nat) (x : Point) : (s.setPoint n x).lnd.points = s.lnd.points := rfl
@[simp] theorem State.lnd_points_modPoint (s : State) (n : Nat) (f : Point → Point) : (s.modPoint n f).lnd.points = s.lnd.points := rfl
@[simp] theorem State.lnd_shadows_setPoint (s : State) (n : Nat) (x : Point) : (s.setPoint n x).lnd.shadows = s.lnd.shadows := rfl
@[simp] theorem State.lnd_shadows_modPoint (s : State) (n : Nat) (f : Point → Point) : (s.modPoint n f).lnd.shadows = s.lnd.shadows := rfl
@[simp] theorem State.lnd_subs_setPoint (s : State) (n : Nat) (x : Point) : (s.setPoint n x).lnd.subs = s.lnd.subs := rfl
@[simp] theorem State.lnd_subs_modPoint (s : State) (n : Nat) (f : Point → Point) : (s.modPoint n f).lnd.subs = s.lnd.subs := rfl
@[simp] theorem State.lnd_eccCorr_setPoint (s : State) (n : Nat) (x : Point) : (s.setPoint n x).lnd.eccCorr = s.lnd.eccCorr := rfl
@[simp] theorem State.lnd_eccCorr_modPoint (s : State) (n : Nat) (f : Point → Point) : (s.modPoint n f).lnd.eccCorr = s.lnd.eccCorr := rfl
@[simp] theorem State.lnd_eccUncorr_setPoint (s : State) (n : Nat) (x : Point) : (s.setPoint n x).lnd.eccUncorr = s.lnd.eccUncorr := rfl
@[simp] theorem State.lnd_eccUncorr_modPoint (s : State) (n : Nat) (f : Point → Point) : (s.modPoint n f).lnd.eccUncorr = s.lnd.eccUncorr := rfl
@[simp] theorem State.lnd_eccAddr_setPoint (s : State) (n : Nat) (x : Point) : (s.setPoint n x).lnd.eccAddr = s.lnd.eccAddr := rfl
@[simp] theorem State.lnd_eccAddr_modPoint (s : State) (n : Nat) (f : Point → Point) : (s.modPoint n f).lnd.eccAddr = s.lnd.eccAddr := rfl
@[simp] theorem State.lnd_poison_setPoint (s : State) (n : Nat) (x : Point) : (s.setPoint n x).lnd.poison = s.lnd.poison := rfl
@[simp] theorem State.lnd_poison_modPoint (s : State) (n : Nat) (f : Point → Point) : (s.modPoint n f).lnd.poison = s.lnd.poison := rfl
@[simp] theorem State.lnd_frameDrops_setPoint (s : State) (n : Nat) (x : Point) : (s.setPoint n x).lnd.frameDrops = s.lnd.frameDrops := rfl
@[simp] theorem State.lnd_frameDrops_modPoint (s : State) (n : Nat) (f : Point → Point) : (s.modPoint n f).lnd.frameDrops = s.lnd.frameDrops := rfl
@[simp] theorem State.lnd_cache_setPoint (s : State) (n : Nat) (x : Point) : (s.setPoint n x).lnd.cache = s.lnd.cache := rfl
@[simp] theorem State.lnd_cache_modPoint (s : State) (n : Nat) (f : Point → Point) : (s.modPoint n f).lnd.cache = s.lnd.cache := rfl

/-! ### `shadow` -/

@[simp] theorem State.shadow_setShadow (s : State) (n : Nat) (x : Point) : (s.setShadow n x).shadow n = x := tget_tset_self ..
theorem State.shadow_setShadow_ne (s : State) (n : Nat) (x : Point) (m : Nat) (h : m ≠ n) : (s.setShadow n x).shadow m = s.shadow m := tget_tset_ne _ _ _ h
@[simp] theorem State.shadow_modShadow (s : State) (n : Nat) (f : Point → Point) : (s.modShadow n f).shadow n = f (s.shadow n) := tget_tset_self ..
theorem State.shadow_modShadow_ne (s : State) (n : Nat) (f : Point → Point) (m : Nat) (h : m ≠ n) : (s.modShadow n f).shadow m = s.shadow m := tget_tset_ne _ _ _ h
@[simp] theorem State.sys_setShadow (s : State) (n : Nat) (x : Point) : (s.setShadow n x).sys = s.sys := rfl
@[simp] theorem State.sys_modShadow (s : State) (n : Nat) (f : Point → Point) : (s.modShadow n f).sys = s.sys := rfl
@[simp] theorem State.permits_setShadow (s : State) (n : Nat) (x : Point) : (s.setShadow n x).permits = s.permits := rfl
@[simp] theorem State.permits_modShadow (s : State) (n : Nat) (f : Point → Point) : (s.modShadow n f).permits = s.permits := rfl
@[simp] theorem State.cfg_setShadow (s : State) (n : Nat) (x : Point) : (s.setShadow n x).cfg = s.cfg := rfl
@[simp] theorem State.cfg_modShadow (s : State) (n : Nat) (f : Point → Point) : (s.modShadow n f).cfg = s.cfg := rfl
@[simp] theorem State.img_setShadow (s : State) (n : Nat) (x : Point) : (s.setShadow n x).img = s.img := rfl
@[simp] theorem State.img_modShadow (s : State) (n : Nat) (f : Point → Point) : (s.modShadow n f).img = s.img := rfl
@[simp] theorem State.net_setShadow (s : State) (n : Nat) (x : Point) : (s.setShadow n x).net = s.net := rfl
@[simp] theorem State.net_modShadow (s : State) (n : Nat) (f : Point → Point) : (s.modShadow n f).net = s.net := rfl
@[simp] theorem State.hst_setShadow (s : State) (n : Nat) (x : Point) : (s.setShadow n x).hst = s.hst := rfl
@[simp] theorem State.hst_modShadow (s : State) (n : Nat) (f : Point → Point) : (s.modShadow n f).hst = s.hst := rfl
@[simp] theorem State.vlk_setShadow (s : State) (n : Nat) (x : Point) : (s.setShadow n x).vlk = s.vlk := rfl
@[simp] theorem State.vlk_modShadow (s : State) (n : Nat) (f : Point → Point) : (s.modShadow n f).vlk = s.vlk := rfl
@[simp] theorem State.yrd_setShadow (s : State) (n : Nat) (x : Point) : (s.setShadow n x).yrd = s.yrd := rfl
@[simp] theorem State.yrd_modShadow (s : State) (n : Nat) (f : Point → Point) : (s.modShadow n f).yrd = s.yrd := rfl
@[simp] theorem State.scl_setShadow (s : State) (n : Nat) (x : Point) : (s.setShadow n x).scl = s.scl := rfl
@[simp] theorem State.scl_modShadow (s : State) (n : Nat) (f : Point → Point) : (s.modShadow n f).scl = s.scl := rfl
@[simp] theorem State.tly_setShadow (s : State) (n : Nat) (x : Point) : (s.setShadow n x).tly = s.tly := rfl
@[simp] theorem State.tly_modShadow (s : State) (n : Nat) (f : Point → Point) : (s.modShadow n f).tly = s.tly := rfl
@[simp] theorem State.blz_setShadow (s : State) (n : Nat) (x : Point) : (s.setShadow n x).blz = s.blz := rfl
@[simp] theorem State.blz_modShadow (s : State) (n : Nat) (f : Point → Point) : (s.modShadow n f).blz = s.blz := rfl
@[simp] theorem State.imd_setShadow (s : State) (n : Nat) (x : Point) : (s.setShadow n x).imd = s.imd := rfl
@[simp] theorem State.imd_modShadow (s : State) (n : Nat) (f : Point → Point) : (s.modShadow n f).imd = s.imd := rfl
@[simp] theorem State.saf_setShadow (s : State) (n : Nat) (x : Point) : (s.setShadow n x).saf = s.saf := rfl
@[simp] theorem State.saf_modShadow (s : State) (n : Nat) (f : Point → Point) : (s.modShadow n f).saf = s.saf := rfl
@[simp] theorem State.pvy_setShadow (s : State) (n : Nat) (x : Point) : (s.setShadow n x).pvy = s.pvy := rfl
@[simp] theorem State.pvy_modShadow (s : State) (n : Nat) (f : Point → Point) : (s.modShadow n f).pvy = s.pvy := rfl
@[simp] theorem State.chk_setShadow (s : State) (n : Nat) (x : Point) : (s.setShadow n x).chk = s.chk := rfl
@[simp] theorem State.chk_modShadow (s : State) (n : Nat) (f : Point → Point) : (s.modShadow n f).chk = s.chk := rfl
@[simp] theorem State.skl_setShadow (s : State) (n : Nat) (x : Point) : (s.setShadow n x).skl = s.skl := rfl
@[simp] theorem State.skl_modShadow (s : State) (n : Nat) (f : Point → Point) : (s.modShadow n f).skl = s.skl := rfl
@[simp] theorem State.nfc_setShadow (s : State) (n : Nat) (x : Point) : (s.setShadow n x).nfc = s.nfc := rfl
@[simp] theorem State.nfc_modShadow (s : State) (n : Nat) (f : Point → Point) : (s.modShadow n f).nfc = s.nfc := rfl
@[simp] theorem State.brd_setShadow (s : State) (n : Nat) (x : Point) : (s.setShadow n x).brd = s.brd := rfl
@[simp] theorem State.brd_modShadow (s : State) (n : Nat) (f : Point → Point) : (s.modShadow n f).brd = s.brd := rfl
@[simp] theorem State.key_setShadow (s : State) (n : Nat) (x : Point) : (s.setShadow n x).key = s.key := rfl
@[simp] theorem State.key_modShadow (s : State) (n : Nat) (f : Point → Point) : (s.modShadow n f).key = s.key := rfl
@[simp] theorem State.tim_setShadow (s : State) (n : Nat) (x : Point) : (s.setShadow n x).tim = s.tim := rfl
@[simp] theorem State.tim_modShadow (s : State) (n : Nat) (f : Point → Point) : (s.modShadow n f).tim = s.tim := rfl
@[simp] theorem State.crs_setShadow (s : State) (n : Nat) (x : Point) : (s.setShadow n x).crs = s.crs := rfl
@[simp] theorem State.crs_modShadow (s : State) (n : Nat) (f : Point → Point) : (s.modShadow n f).crs = s.crs := rfl
@[simp] theorem State.evt_setShadow (s : State) (n : Nat) (x : Point) : (s.setShadow n x).evt = s.evt := rfl
@[simp] theorem State.evt_modShadow (s : State) (n : Nat) (f : Point → Point) : (s.modShadow n f).evt = s.evt := rfl
@[simp] theorem State.elog_setShadow (s : State) (n : Nat) (x : Point) : (s.setShadow n x).elog = s.elog := rfl
@[simp] theorem State.elog_modShadow (s : State) (n : Nat) (f : Point → Point) : (s.modShadow n f).elog = s.elog := rfl
@[simp] theorem State.eseq_setShadow (s : State) (n : Nat) (x : Point) : (s.setShadow n x).eseq = s.eseq := rfl
@[simp] theorem State.eseq_modShadow (s : State) (n : Nat) (f : Point → Point) : (s.modShadow n f).eseq = s.eseq := rfl
@[simp] theorem State.elost_setShadow (s : State) (n : Nat) (x : Point) : (s.setShadow n x).elost = s.elost := rfl
@[simp] theorem State.elost_modShadow (s : State) (n : Nat) (f : Point → Point) : (s.modShadow n f).elost = s.elost := rfl
@[simp] theorem State.eSec_setShadow (s : State) (n : Nat) (x : Point) : (s.setShadow n x).eSec = s.eSec := rfl
@[simp] theorem State.eSec_modShadow (s : State) (n : Nat) (f : Point → Point) : (s.modShadow n f).eSec = s.eSec := rfl
@[simp] theorem State.eCount_setShadow (s : State) (n : Nat) (x : Point) : (s.setShadow n x).eCount = s.eCount := rfl
@[simp] theorem State.eCount_modShadow (s : State) (n : Nat) (f : Point → Point) : (s.modShadow n f).eCount = s.eCount := rfl
@[simp] theorem State.mem_setShadow (s : State) (n : Nat) (x : Point) : (s.setShadow n x).mem = s.mem := rfl
@[simp] theorem State.mem_modShadow (s : State) (n : Nat) (f : Point → Point) : (s.modShadow n f).mem = s.mem := rfl
@[simp] theorem State.sent_setShadow (s : State) (n : Nat) (x : Point) : (s.setShadow n x).sent = s.sent := rfl
@[simp] theorem State.sent_modShadow (s : State) (n : Nat) (f : Point → Point) : (s.modShadow n f).sent = s.sent := rfl
@[simp] theorem State.fresh_setShadow (s : State) (n : Nat) (x : Point) : (s.setShadow n x).fresh = s.fresh := rfl
@[simp] theorem State.fresh_modShadow (s : State) (n : Nat) (f : Point → Point) : (s.modShadow n f).fresh = s.fresh := rfl
@[simp] theorem State.pending_setShadow (s : State) (n : Nat) (x : Point) : (s.setShadow n x).pending = s.pending := rfl
@[simp] theorem State.pending_modShadow (s : State) (n : Nat) (f : Point → Point) : (s.modShadow n f).pending = s.pending := rfl
@[simp] theorem State.lnd_points_setShadow (s : State) (n : Nat) (x : Point) : (s.setShadow n x).lnd.points = s.lnd.points := rfl
@[simp] theorem State.lnd_points_modShadow (s : State) (n : Nat) (f : Point → Point) : (s.modShadow n f).lnd.points = s.lnd.points := rfl
@[simp] theorem State.lnd_pts_setShadow (s : State) (n : Nat) (x : Point) : (s.setShadow n x).lnd.pts = s.lnd.pts := rfl
@[simp] theorem State.lnd_pts_modShadow (s : State) (n : Nat) (f : Point → Point) : (s.modShadow n f).lnd.pts = s.lnd.pts := rfl
@[simp] theorem State.lnd_subs_setShadow (s : State) (n : Nat) (x : Point) : (s.setShadow n x).lnd.subs = s.lnd.subs := rfl
@[simp] theorem State.lnd_subs_modShadow (s : State) (n : Nat) (f : Point → Point) : (s.modShadow n f).lnd.subs = s.lnd.subs := rfl
@[simp] theorem State.lnd_eccCorr_setShadow (s : State) (n : Nat) (x : Point) : (s.setShadow n x).lnd.eccCorr = s.lnd.eccCorr := rfl
@[simp] theorem State.lnd_eccCorr_modShadow (s : State) (n : Nat) (f : Point → Point) : (s.modShadow n f).lnd.eccCorr = s.lnd.eccCorr := rfl
@[simp] theorem State.lnd_eccUncorr_setShadow (s : State) (n : Nat) (x : Point) : (s.setShadow n x).lnd.eccUncorr = s.lnd.eccUncorr := rfl
@[simp] theorem State.lnd_eccUncorr_modShadow (s : State) (n : Nat) (f : Point → Point) : (s.modShadow n f).lnd.eccUncorr = s.lnd.eccUncorr := rfl
@[simp] theorem State.lnd_eccAddr_setShadow (s : State) (n : Nat) (x : Point) : (s.setShadow n x).lnd.eccAddr = s.lnd.eccAddr := rfl
@[simp] theorem State.lnd_eccAddr_modShadow (s : State) (n : Nat) (f : Point → Point) : (s.modShadow n f).lnd.eccAddr = s.lnd.eccAddr := rfl
@[simp] theorem State.lnd_poison_setShadow (s : State) (n : Nat) (x : Point) : (s.setShadow n x).lnd.poison = s.lnd.poison := rfl
@[simp] theorem State.lnd_poison_modShadow (s : State) (n : Nat) (f : Point → Point) : (s.modShadow n f).lnd.poison = s.lnd.poison := rfl
@[simp] theorem State.lnd_frameDrops_setShadow (s : State) (n : Nat) (x : Point) : (s.setShadow n x).lnd.frameDrops = s.lnd.frameDrops := rfl
@[simp] theorem State.lnd_frameDrops_modShadow (s : State) (n : Nat) (f : Point → Point) : (s.modShadow n f).lnd.frameDrops = s.lnd.frameDrops := rfl
@[simp] theorem State.lnd_cache_setShadow (s : State) (n : Nat) (x : Point) : (s.setShadow n x).lnd.cache = s.lnd.cache := rfl
@[simp] theorem State.lnd_cache_modShadow (s : State) (n : Nat) (f : Point → Point) : (s.modShadow n f).lnd.cache = s.lnd.cache := rfl

/-! ### `sub` -/

@[simp] theorem State.sub_setSub (s : State) (n : Nat) (x : Sub) : (s.setSub n x).sub n = x := tget_tset_self ..
theorem State.sub_setSub_ne (s : State) (n : Nat) (x : Sub) (m : Nat) (h : m ≠ n) : (s.setSub n x).sub m = s.sub m := tget_tset_ne _ _ _ h
@[simp] theorem State.sub_modSub (s : State) (n : Nat) (f : Sub → Sub) : (s.modSub n f).sub n = f (s.sub n) := tget_tset_self ..
theorem State.sub_modSub_ne (s : State) (n : Nat) (f : Sub → Sub) (m : Nat) (h : m ≠ n) : (s.modSub n f).sub m = s.sub m := tget_tset_ne _ _ _ h
@[simp] theorem State.sys_setSub (s : State) (n : Nat) (x : Sub) : (s.setSub n x).sys = s.sys := rfl
@[simp] theorem State.sys_modSub (s : State) (n : Nat) (f : Sub → Sub) : (s.modSub n f).sys = s.sys := rfl
@[simp] theorem State.permits_setSub (s : State) (n : Nat) (x : Sub) : (s.setSub n x).permits = s.permits := rfl
@[simp] theorem State.permits_modSub (s : State) (n : Nat) (f : Sub → Sub) : (s.modSub n f).permits = s.permits := rfl
@[simp] theorem State.cfg_setSub (s : State) (n : Nat) (x : Sub) : (s.setSub n x).cfg = s.cfg := rfl
@[simp] theorem State.cfg_modSub (s : State) (n : Nat) (f : Sub → Sub) : (s.modSub n f).cfg = s.cfg := rfl
@[simp] theorem State.img_setSub (s : State) (n : Nat) (x : Sub) : (s.setSub n x).img = s.img := rfl
@[simp] theorem State.img_modSub (s : State) (n : Nat) (f : Sub → Sub) : (s.modSub n f).img = s.img := rfl
@[simp] theorem State.net_setSub (s : State) (n : Nat) (x : Sub) : (s.setSub n x).net = s.net := rfl
@[simp] theorem State.net_modSub (s : State) (n : Nat) (f : Sub → Sub) : (s.modSub n f).net = s.net := rfl
@[simp] theorem State.hst_setSub (s : State) (n : Nat) (x : Sub) : (s.setSub n x).hst = s.hst := rfl
@[simp] theorem State.hst_modSub (s : State) (n : Nat) (f : Sub → Sub) : (s.modSub n f).hst = s.hst := rfl
@[simp] theorem State.vlk_setSub (s : State) (n : Nat) (x : Sub) : (s.setSub n x).vlk = s.vlk := rfl
@[simp] theorem State.vlk_modSub (s : State) (n : Nat) (f : Sub → Sub) : (s.modSub n f).vlk = s.vlk := rfl
@[simp] theorem State.yrd_setSub (s : State) (n : Nat) (x : Sub) : (s.setSub n x).yrd = s.yrd := rfl
@[simp] theorem State.yrd_modSub (s : State) (n : Nat) (f : Sub → Sub) : (s.modSub n f).yrd = s.yrd := rfl
@[simp] theorem State.scl_setSub (s : State) (n : Nat) (x : Sub) : (s.setSub n x).scl = s.scl := rfl
@[simp] theorem State.scl_modSub (s : State) (n : Nat) (f : Sub → Sub) : (s.modSub n f).scl = s.scl := rfl
@[simp] theorem State.tly_setSub (s : State) (n : Nat) (x : Sub) : (s.setSub n x).tly = s.tly := rfl
@[simp] theorem State.tly_modSub (s : State) (n : Nat) (f : Sub → Sub) : (s.modSub n f).tly = s.tly := rfl
@[simp] theorem State.blz_setSub (s : State) (n : Nat) (x : Sub) : (s.setSub n x).blz = s.blz := rfl
@[simp] theorem State.blz_modSub (s : State) (n : Nat) (f : Sub → Sub) : (s.modSub n f).blz = s.blz := rfl
@[simp] theorem State.imd_setSub (s : State) (n : Nat) (x : Sub) : (s.setSub n x).imd = s.imd := rfl
@[simp] theorem State.imd_modSub (s : State) (n : Nat) (f : Sub → Sub) : (s.modSub n f).imd = s.imd := rfl
@[simp] theorem State.saf_setSub (s : State) (n : Nat) (x : Sub) : (s.setSub n x).saf = s.saf := rfl
@[simp] theorem State.saf_modSub (s : State) (n : Nat) (f : Sub → Sub) : (s.modSub n f).saf = s.saf := rfl
@[simp] theorem State.pvy_setSub (s : State) (n : Nat) (x : Sub) : (s.setSub n x).pvy = s.pvy := rfl
@[simp] theorem State.pvy_modSub (s : State) (n : Nat) (f : Sub → Sub) : (s.modSub n f).pvy = s.pvy := rfl
@[simp] theorem State.chk_setSub (s : State) (n : Nat) (x : Sub) : (s.setSub n x).chk = s.chk := rfl
@[simp] theorem State.chk_modSub (s : State) (n : Nat) (f : Sub → Sub) : (s.modSub n f).chk = s.chk := rfl
@[simp] theorem State.skl_setSub (s : State) (n : Nat) (x : Sub) : (s.setSub n x).skl = s.skl := rfl
@[simp] theorem State.skl_modSub (s : State) (n : Nat) (f : Sub → Sub) : (s.modSub n f).skl = s.skl := rfl
@[simp] theorem State.nfc_setSub (s : State) (n : Nat) (x : Sub) : (s.setSub n x).nfc = s.nfc := rfl
@[simp] theorem State.nfc_modSub (s : State) (n : Nat) (f : Sub → Sub) : (s.modSub n f).nfc = s.nfc := rfl
@[simp] theorem State.brd_setSub (s : State) (n : Nat) (x : Sub) : (s.setSub n x).brd = s.brd := rfl
@[simp] theorem State.brd_modSub (s : State) (n : Nat) (f : Sub → Sub) : (s.modSub n f).brd = s.brd := rfl
@[simp] theorem State.key_setSub (s : State) (n : Nat) (x : Sub) : (s.setSub n x).key = s.key := rfl
@[simp] theorem State.key_modSub (s : State) (n : Nat) (f : Sub → Sub) : (s.modSub n f).key = s.key := rfl
@[simp] theorem State.tim_setSub (s : State) (n : Nat) (x : Sub) : (s.setSub n x).tim = s.tim := rfl
@[simp] theorem State.tim_modSub (s : State) (n : Nat) (f : Sub → Sub) : (s.modSub n f).tim = s.tim := rfl
@[simp] theorem State.crs_setSub (s : State) (n : Nat) (x : Sub) : (s.setSub n x).crs = s.crs := rfl
@[simp] theorem State.crs_modSub (s : State) (n : Nat) (f : Sub → Sub) : (s.modSub n f).crs = s.crs := rfl
@[simp] theorem State.evt_setSub (s : State) (n : Nat) (x : Sub) : (s.setSub n x).evt = s.evt := rfl
@[simp] theorem State.evt_modSub (s : State) (n : Nat) (f : Sub → Sub) : (s.modSub n f).evt = s.evt := rfl
@[simp] theorem State.elog_setSub (s : State) (n : Nat) (x : Sub) : (s.setSub n x).elog = s.elog := rfl
@[simp] theorem State.elog_modSub (s : State) (n : Nat) (f : Sub → Sub) : (s.modSub n f).elog = s.elog := rfl
@[simp] theorem State.eseq_setSub (s : State) (n : Nat) (x : Sub) : (s.setSub n x).eseq = s.eseq := rfl
@[simp] theorem State.eseq_modSub (s : State) (n : Nat) (f : Sub → Sub) : (s.modSub n f).eseq = s.eseq := rfl
@[simp] theorem State.elost_setSub (s : State) (n : Nat) (x : Sub) : (s.setSub n x).elost = s.elost := rfl
@[simp] theorem State.elost_modSub (s : State) (n : Nat) (f : Sub → Sub) : (s.modSub n f).elost = s.elost := rfl
@[simp] theorem State.eSec_setSub (s : State) (n : Nat) (x : Sub) : (s.setSub n x).eSec = s.eSec := rfl
@[simp] theorem State.eSec_modSub (s : State) (n : Nat) (f : Sub → Sub) : (s.modSub n f).eSec = s.eSec := rfl
@[simp] theorem State.eCount_setSub (s : State) (n : Nat) (x : Sub) : (s.setSub n x).eCount = s.eCount := rfl
@[simp] theorem State.eCount_modSub (s : State) (n : Nat) (f : Sub → Sub) : (s.modSub n f).eCount = s.eCount := rfl
@[simp] theorem State.mem_setSub (s : State) (n : Nat) (x : Sub) : (s.setSub n x).mem = s.mem := rfl
@[simp] theorem State.mem_modSub (s : State) (n : Nat) (f : Sub → Sub) : (s.modSub n f).mem = s.mem := rfl
@[simp] theorem State.sent_setSub (s : State) (n : Nat) (x : Sub) : (s.setSub n x).sent = s.sent := rfl
@[simp] theorem State.sent_modSub (s : State) (n : Nat) (f : Sub → Sub) : (s.modSub n f).sent = s.sent := rfl
@[simp] theorem State.fresh_setSub (s : State) (n : Nat) (x : Sub) : (s.setSub n x).fresh = s.fresh := rfl
@[simp] theorem State.fresh_modSub (s : State) (n : Nat) (f : Sub → Sub) : (s.modSub n f).fresh = s.fresh := rfl
@[simp] theorem State.pending_setSub (s : State) (n : Nat) (x : Sub) : (s.setSub n x).pending = s.pending := rfl
@[simp] theorem State.pending_modSub (s : State) (n : Nat) (f : Sub → Sub) : (s.modSub n f).pending = s.pending := rfl
@[simp] theorem State.lnd_points_setSub (s : State) (n : Nat) (x : Sub) : (s.setSub n x).lnd.points = s.lnd.points := rfl
@[simp] theorem State.lnd_points_modSub (s : State) (n : Nat) (f : Sub → Sub) : (s.modSub n f).lnd.points = s.lnd.points := rfl
@[simp] theorem State.lnd_pts_setSub (s : State) (n : Nat) (x : Sub) : (s.setSub n x).lnd.pts = s.lnd.pts := rfl
@[simp] theorem State.lnd_pts_modSub (s : State) (n : Nat) (f : Sub → Sub) : (s.modSub n f).lnd.pts = s.lnd.pts := rfl
@[simp] theorem State.lnd_shadows_setSub (s : State) (n : Nat) (x : Sub) : (s.setSub n x).lnd.shadows = s.lnd.shadows := rfl
@[simp] theorem State.lnd_shadows_modSub (s : State) (n : Nat) (f : Sub → Sub) : (s.modSub n f).lnd.shadows = s.lnd.shadows := rfl
@[simp] theorem State.lnd_eccCorr_setSub (s : State) (n : Nat) (x : Sub) : (s.setSub n x).lnd.eccCorr = s.lnd.eccCorr := rfl
@[simp] theorem State.lnd_eccCorr_modSub (s : State) (n : Nat) (f : Sub → Sub) : (s.modSub n f).lnd.eccCorr = s.lnd.eccCorr := rfl
@[simp] theorem State.lnd_eccUncorr_setSub (s : State) (n : Nat) (x : Sub) : (s.setSub n x).lnd.eccUncorr = s.lnd.eccUncorr := rfl
@[simp] theorem State.lnd_eccUncorr_modSub (s : State) (n : Nat) (f : Sub → Sub) : (s.modSub n f).lnd.eccUncorr = s.lnd.eccUncorr := rfl
@[simp] theorem State.lnd_eccAddr_setSub (s : State) (n : Nat) (x : Sub) : (s.setSub n x).lnd.eccAddr = s.lnd.eccAddr := rfl
@[simp] theorem State.lnd_eccAddr_modSub (s : State) (n : Nat) (f : Sub → Sub) : (s.modSub n f).lnd.eccAddr = s.lnd.eccAddr := rfl
@[simp] theorem State.lnd_poison_setSub (s : State) (n : Nat) (x : Sub) : (s.setSub n x).lnd.poison = s.lnd.poison := rfl
@[simp] theorem State.lnd_poison_modSub (s : State) (n : Nat) (f : Sub → Sub) : (s.modSub n f).lnd.poison = s.lnd.poison := rfl
@[simp] theorem State.lnd_frameDrops_setSub (s : State) (n : Nat) (x : Sub) : (s.setSub n x).lnd.frameDrops = s.lnd.frameDrops := rfl
@[simp] theorem State.lnd_frameDrops_modSub (s : State) (n : Nat) (f : Sub → Sub) : (s.modSub n f).lnd.frameDrops = s.lnd.frameDrops := rfl
@[simp] theorem State.lnd_cache_setSub (s : State) (n : Nat) (x : Sub) : (s.setSub n x).lnd.cache = s.lnd.cache := rfl
@[simp] theorem State.lnd_cache_modSub (s : State) (n : Nat) (f : Sub → Sub) : (s.modSub n f).lnd.cache = s.lnd.cache := rfl

/-! ### `queue` -/

@[simp] theorem State.queue_setQueue (s : State) (n : Nat) (x : Queue) : (s.setQueue n x).queue n = x := tget_tset_self ..
theorem State.queue_setQueue_ne (s : State) (n : Nat) (x : Queue) (m : Nat) (h : m ≠ n) : (s.setQueue n x).queue m = s.queue m := tget_tset_ne _ _ _ h
@[simp] theorem State.queue_modQueue (s : State) (n : Nat) (f : Queue → Queue) : (s.modQueue n f).queue n = f (s.queue n) := tget_tset_self ..
theorem State.queue_modQueue_ne (s : State) (n : Nat) (f : Queue → Queue) (m : Nat) (h : m ≠ n) : (s.modQueue n f).queue m = s.queue m := tget_tset_ne _ _ _ h
@[simp] theorem State.sys_setQueue (s : State) (n : Nat) (x : Queue) : (s.setQueue n x).sys = s.sys := rfl
@[simp] theorem State.sys_modQueue (s : State) (n : Nat) (f : Queue → Queue) : (s.modQueue n f).sys = s.sys := rfl
@[simp] theorem State.permits_setQueue (s : State) (n : Nat) (x : Queue) : (s.setQueue n x).permits = s.permits := rfl
@[simp] theorem State.permits_modQueue (s : State) (n : Nat) (f : Queue → Queue) : (s.modQueue n f).permits = s.permits := rfl
@[simp] theorem State.cfg_setQueue (s : State) (n : Nat) (x : Queue) : (s.setQueue n x).cfg = s.cfg := rfl
@[simp] theorem State.cfg_modQueue (s : State) (n : Nat) (f : Queue → Queue) : (s.modQueue n f).cfg = s.cfg := rfl
@[simp] theorem State.img_setQueue (s : State) (n : Nat) (x : Queue) : (s.setQueue n x).img = s.img := rfl
@[simp] theorem State.img_modQueue (s : State) (n : Nat) (f : Queue → Queue) : (s.modQueue n f).img = s.img := rfl
@[simp] theorem State.net_setQueue (s : State) (n : Nat) (x : Queue) : (s.setQueue n x).net = s.net := rfl
@[simp] theorem State.net_modQueue (s : State) (n : Nat) (f : Queue → Queue) : (s.modQueue n f).net = s.net := rfl
@[simp] theorem State.lnd_setQueue (s : State) (n : Nat) (x : Queue) : (s.setQueue n x).lnd = s.lnd := rfl
@[simp] theorem State.lnd_modQueue (s : State) (n : Nat) (f : Queue → Queue) : (s.modQueue n f).lnd = s.lnd := rfl
@[simp] theorem State.vlk_setQueue (s : State) (n : Nat) (x : Queue) : (s.setQueue n x).vlk = s.vlk := rfl
@[simp] theorem State.vlk_modQueue (s : State) (n : Nat) (f : Queue → Queue) : (s.modQueue n f).vlk = s.vlk := rfl
@[simp] theorem State.yrd_setQueue (s : State) (n : Nat) (x : Queue) : (s.setQueue n x).yrd = s.yrd := rfl
@[simp] theorem State.yrd_modQueue (s : State) (n : Nat) (f : Queue → Queue) : (s.modQueue n f).yrd = s.yrd := rfl
@[simp] theorem State.scl_setQueue (s : State) (n : Nat) (x : Queue) : (s.setQueue n x).scl = s.scl := rfl
@[simp] theorem State.scl_modQueue (s : State) (n : Nat) (f : Queue → Queue) : (s.modQueue n f).scl = s.scl := rfl
@[simp] theorem State.tly_setQueue (s : State) (n : Nat) (x : Queue) : (s.setQueue n x).tly = s.tly := rfl
@[simp] theorem State.tly_modQueue (s : State) (n : Nat) (f : Queue → Queue) : (s.modQueue n f).tly = s.tly := rfl
@[simp] theorem State.blz_setQueue (s : State) (n : Nat) (x : Queue) : (s.setQueue n x).blz = s.blz := rfl
@[simp] theorem State.blz_modQueue (s : State) (n : Nat) (f : Queue → Queue) : (s.modQueue n f).blz = s.blz := rfl
@[simp] theorem State.imd_setQueue (s : State) (n : Nat) (x : Queue) : (s.setQueue n x).imd = s.imd := rfl
@[simp] theorem State.imd_modQueue (s : State) (n : Nat) (f : Queue → Queue) : (s.modQueue n f).imd = s.imd := rfl
@[simp] theorem State.saf_setQueue (s : State) (n : Nat) (x : Queue) : (s.setQueue n x).saf = s.saf := rfl
@[simp] theorem State.saf_modQueue (s : State) (n : Nat) (f : Queue → Queue) : (s.modQueue n f).saf = s.saf := rfl
@[simp] theorem State.pvy_setQueue (s : State) (n : Nat) (x : Queue) : (s.setQueue n x).pvy = s.pvy := rfl
@[simp] theorem State.pvy_modQueue (s : State) (n : Nat) (f : Queue → Queue) : (s.modQueue n f).pvy = s.pvy := rfl
@[simp] theorem State.chk_setQueue (s : State) (n : Nat) (x : Queue) : (s.setQueue n x).chk = s.chk := rfl
@[simp] theorem State.chk_modQueue (s : State) (n : Nat) (f : Queue → Queue) : (s.modQueue n f).chk = s.chk := rfl
@[simp] theorem State.skl_setQueue (s : State) (n : Nat) (x : Queue) : (s.setQueue n x).skl = s.skl := rfl
@[simp] theorem State.skl_modQueue (s : State) (n : Nat) (f : Queue → Queue) : (s.modQueue n f).skl = s.skl := rfl
@[simp] theorem State.nfc_setQueue (s : State) (n : Nat) (x : Queue) : (s.setQueue n x).nfc = s.nfc := rfl
@[simp] theorem State.nfc_modQueue (s : State) (n : Nat) (f : Queue → Queue) : (s.modQueue n f).nfc = s.nfc := rfl
@[simp] theorem State.brd_setQueue (s : State) (n : Nat) (x : Queue) : (s.setQueue n x).brd = s.brd := rfl
@[simp] theorem State.brd_modQueue (s : State) (n : Nat) (f : Queue → Queue) : (s.modQueue n f).brd = s.brd := rfl
@[simp] theorem State.key_setQueue (s : State) (n : Nat) (x : Queue) : (s.setQueue n x).key = s.key := rfl
@[simp] theorem State.key_modQueue (s : State) (n : Nat) (f : Queue → Queue) : (s.modQueue n f).key = s.key := rfl
@[simp] theorem State.tim_setQueue (s : State) (n : Nat) (x : Queue) : (s.setQueue n x).tim = s.tim := rfl
@[simp] theorem State.tim_modQueue (s : State) (n : Nat) (f : Queue → Queue) : (s.modQueue n f).tim = s.tim := rfl
@[simp] theorem State.crs_setQueue (s : State) (n : Nat) (x : Queue) : (s.setQueue n x).crs = s.crs := rfl
@[simp] theorem State.crs_modQueue (s : State) (n : Nat) (f : Queue → Queue) : (s.modQueue n f).crs = s.crs := rfl
@[simp] theorem State.evt_setQueue (s : State) (n : Nat) (x : Queue) : (s.setQueue n x).evt = s.evt := rfl
@[simp] theorem State.evt_modQueue (s : State) (n : Nat) (f : Queue → Queue) : (s.modQueue n f).evt = s.evt := rfl
@[simp] theorem State.elog_setQueue (s : State) (n : Nat) (x : Queue) : (s.setQueue n x).elog = s.elog := rfl
@[simp] theorem State.elog_modQueue (s : State) (n : Nat) (f : Queue → Queue) : (s.modQueue n f).elog = s.elog := rfl
@[simp] theorem State.eseq_setQueue (s : State) (n : Nat) (x : Queue) : (s.setQueue n x).eseq = s.eseq := rfl
@[simp] theorem State.eseq_modQueue (s : State) (n : Nat) (f : Queue → Queue) : (s.modQueue n f).eseq = s.eseq := rfl
@[simp] theorem State.elost_setQueue (s : State) (n : Nat) (x : Queue) : (s.setQueue n x).elost = s.elost := rfl
@[simp] theorem State.elost_modQueue (s : State) (n : Nat) (f : Queue → Queue) : (s.modQueue n f).elost = s.elost := rfl
@[simp] theorem State.eSec_setQueue (s : State) (n : Nat) (x : Queue) : (s.setQueue n x).eSec = s.eSec := rfl
@[simp] theorem State.eSec_modQueue (s : State) (n : Nat) (f : Queue → Queue) : (s.modQueue n f).eSec = s.eSec := rfl
@[simp] theorem State.eCount_setQueue (s : State) (n : Nat) (x : Queue) : (s.setQueue n x).eCount = s.eCount := rfl
@[simp] theorem State.eCount_modQueue (s : State) (n : Nat) (f : Queue → Queue) : (s.modQueue n f).eCount = s.eCount := rfl
@[simp] theorem State.mem_setQueue (s : State) (n : Nat) (x : Queue) : (s.setQueue n x).mem = s.mem := rfl
@[simp] theorem State.mem_modQueue (s : State) (n : Nat) (f : Queue → Queue) : (s.modQueue n f).mem = s.mem := rfl
@[simp] theorem State.sent_setQueue (s : State) (n : Nat) (x : Queue) : (s.setQueue n x).sent = s.sent := rfl
@[simp] theorem State.sent_modQueue (s : State) (n : Nat) (f : Queue → Queue) : (s.modQueue n f).sent = s.sent := rfl
@[simp] theorem State.fresh_setQueue (s : State) (n : Nat) (x : Queue) : (s.setQueue n x).fresh = s.fresh := rfl
@[simp] theorem State.fresh_modQueue (s : State) (n : Nat) (f : Queue → Queue) : (s.modQueue n f).fresh = s.fresh := rfl
@[simp] theorem State.pending_setQueue (s : State) (n : Nat) (x : Queue) : (s.setQueue n x).pending = s.pending := rfl
@[simp] theorem State.pending_modQueue (s : State) (n : Nat) (f : Queue → Queue) : (s.modQueue n f).pending = s.pending := rfl
@[simp] theorem State.hst_coreMajor_setQueue (s : State) (n : Nat) (x : Queue) : (s.setQueue n x).hst.coreMajor = s.hst.coreMajor := rfl
@[simp] theorem State.hst_coreMajor_modQueue (s : State) (n : Nat) (f : Queue → Queue) : (s.modQueue n f).hst.coreMajor = s.hst.coreMajor := rfl
@[simp] theorem State.hst_coreMinor_setQueue (s : State) (n : Nat) (x : Queue) : (s.setQueue n x).hst.coreMinor = s.hst.coreMinor := rfl
@[simp] theorem State.hst_coreMinor_modQueue (s : State) (n : Nat) (f : Queue → Queue) : (s.modQueue n f).hst.coreMinor = s.hst.coreMinor := rfl
@[simp] theorem State.hst_hostMajor_setQueue (s : State) (n : Nat) (x : Queue) : (s.setQueue n x).hst.hostMajor = s.hst.hostMajor := rfl
@[simp] theorem State.hst_hostMajor_modQueue (s : State) (n : Nat) (f : Queue → Queue) : (s.modQueue n f).hst.hostMajor = s.hst.hostMajor := rfl
@[simp] theorem State.hst_hostMinor_setQueue (s : State) (n : Nat) (x : Queue) : (s.setQueue n x).hst.hostMinor = s.hst.hostMinor := rfl
@[simp] theorem State.hst_hostMinor_modQueue (s : State) (n : Nat) (f : Queue → Queue) : (s.modQueue n f).hst.hostMinor = s.hst.hostMinor := rfl
@[simp] theorem State.hst_cnts_setQueue (s : State) (n : Nat) (x : Queue) : (s.setQueue n x).hst.cnts = s.hst.cnts := rfl
@[simp] theorem State.hst_cnts_modQueue (s : State) (n : Nat) (f : Queue → Queue) : (s.modQueue n f).hst.cnts = s.hst.cnts := rfl
@[simp] theorem State.hst_flights_setQueue (s : State) (n : Nat) (x : Queue) : (s.setQueue n x).hst.flights = s.hst.flights := rfl
@[simp] theorem State.hst_flights_modQueue (s : State) (n : Nat) (f : Queue → Queue) : (s.modQueue n f).hst.flights = s.hst.flights := rfl

/-! ### `cnt` -/

@[simp] theorem State.cnt_setCnt (s : State) (n : Nat) (x : Cnt) : (s.setCnt n x).cnt n = x := tget_tset_self ..
theorem State.cnt_setCnt_ne (s : State) (n : Nat) (x : Cnt) (m : Nat) (h : m ≠ n) : (s.setCnt n x).cnt m = s.cnt m := tget_tset_ne _ _ _ h
@[simp] theorem State.cnt_modCnt (s : State) (n : Nat) (f : Cnt → Cnt) : (s.modCnt n f).cnt n = f (s.cnt n) := tget_tset_self ..
theorem State.cnt_modCnt_ne (s : State) (n : Nat) (f : Cnt → Cnt) (m : Nat) (h : m ≠ n) : (s.modCnt n f).cnt m = s.cnt m := tget_tset_ne _ _ _ h
@[simp] theorem State.sys_setCnt (s : State) (n : Nat) (x : Cnt) : (s.setCnt n x).sys = s.sys := rfl
@[simp] theorem State.sys_modCnt (s : State) (n : Nat) (f : Cnt → Cnt) : (s.modCnt n f).sys = s.sys := rfl
@[simp] theorem State.permits_setCnt (s : State) (n : Nat) (x : Cnt) : (s.setCnt n x).permits = s.permits := rfl
@[simp] theorem State.permits_modCnt (s : State) (n : Nat) (f : Cnt → Cnt) : (s.modCnt n f).permits = s.permits := rfl
@[simp] theorem State.cfg_setCnt (s : State) (n : Nat) (x : Cnt) : (s.setCnt n x).cfg = s.cfg := rfl
@[simp] theorem State.cfg_modCnt (s : State) (n : Nat) (f : Cnt → Cnt) : (s.modCnt n f).cfg = s.cfg := rfl
@[simp] theorem State.img_setCnt (s : State) (n : Nat) (x : Cnt) : (s.setCnt n x).img = s.img := rfl
@[simp] theorem State.img_modCnt (s : State) (n : Nat) (f : Cnt → Cnt) : (s.modCnt n f).img = s.img := rfl
@[simp] theorem State.net_setCnt (s : State) (n : Nat) (x : Cnt) : (s.setCnt n x).net = s.net := rfl
@[simp] theorem State.net_modCnt (s : State) (n : Nat) (f : Cnt → Cnt) : (s.modCnt n f).net = s.net := rfl
@[simp] theorem State.lnd_setCnt (s : State) (n : Nat) (x : Cnt) : (s.setCnt n x).lnd = s.lnd := rfl
@[simp] theorem State.lnd_modCnt (s : State) (n : Nat) (f : Cnt → Cnt) : (s.modCnt n f).lnd = s.lnd := rfl
@[simp] theorem State.vlk_setCnt (s : State) (n : Nat) (x : Cnt) : (s.setCnt n x).vlk = s.vlk := rfl
@[simp] theorem State.vlk_modCnt (s : State) (n : Nat) (f : Cnt → Cnt) : (s.modCnt n f).vlk = s.vlk := rfl
@[simp] theorem State.yrd_setCnt (s : State) (n : Nat) (x : Cnt) : (s.setCnt n x).yrd = s.yrd := rfl
@[simp] theorem State.yrd_modCnt (s : State) (n : Nat) (f : Cnt → Cnt) : (s.modCnt n f).yrd = s.yrd := rfl
@[simp] theorem State.scl_setCnt (s : State) (n : Nat) (x : Cnt) : (s.setCnt n x).scl = s.scl := rfl
@[simp] theorem State.scl_modCnt (s : State) (n : Nat) (f : Cnt → Cnt) : (s.modCnt n f).scl = s.scl := rfl
@[simp] theorem State.tly_setCnt (s : State) (n : Nat) (x : Cnt) : (s.setCnt n x).tly = s.tly := rfl
@[simp] theorem State.tly_modCnt (s : State) (n : Nat) (f : Cnt → Cnt) : (s.modCnt n f).tly = s.tly := rfl
@[simp] theorem State.blz_setCnt (s : State) (n : Nat) (x : Cnt) : (s.setCnt n x).blz = s.blz := rfl
@[simp] theorem State.blz_modCnt (s : State) (n : Nat) (f : Cnt → Cnt) : (s.modCnt n f).blz = s.blz := rfl
@[simp] theorem State.imd_setCnt (s : State) (n : Nat) (x : Cnt) : (s.setCnt n x).imd = s.imd := rfl
@[simp] theorem State.imd_modCnt (s : State) (n : Nat) (f : Cnt → Cnt) : (s.modCnt n f).imd = s.imd := rfl
@[simp] theorem State.saf_setCnt (s : State) (n : Nat) (x : Cnt) : (s.setCnt n x).saf = s.saf := rfl
@[simp] theorem State.saf_modCnt (s : State) (n : Nat) (f : Cnt → Cnt) : (s.modCnt n f).saf = s.saf := rfl
@[simp] theorem State.pvy_setCnt (s : State) (n : Nat) (x : Cnt) : (s.setCnt n x).pvy = s.pvy := rfl
@[simp] theorem State.pvy_modCnt (s : State) (n : Nat) (f : Cnt → Cnt) : (s.modCnt n f).pvy = s.pvy := rfl
@[simp] theorem State.chk_setCnt (s : State) (n : Nat) (x : Cnt) : (s.setCnt n x).chk = s.chk := rfl
@[simp] theorem State.chk_modCnt (s : State) (n : Nat) (f : Cnt → Cnt) : (s.modCnt n f).chk = s.chk := rfl
@[simp] theorem State.skl_setCnt (s : State) (n : Nat) (x : Cnt) : (s.setCnt n x).skl = s.skl := rfl
@[simp] theorem State.skl_modCnt (s : State) (n : Nat) (f : Cnt → Cnt) : (s.modCnt n f).skl = s.skl := rfl
@[simp] theorem State.nfc_setCnt (s : State) (n : Nat) (x : Cnt) : (s.setCnt n x).nfc = s.nfc := rfl
@[simp] theorem State.nfc_modCnt (s : State) (n : Nat) (f : Cnt → Cnt) : (s.modCnt n f).nfc = s.nfc := rfl
@[simp] theorem State.brd_setCnt (s : State) (n : Nat) (x : Cnt) : (s.setCnt n x).brd = s.brd := rfl
@[simp] theorem State.brd_modCnt (s : State) (n : Nat) (f : Cnt → Cnt) : (s.modCnt n f).brd = s.brd := rfl
@[simp] theorem State.key_setCnt (s : State) (n : Nat) (x : Cnt) : (s.setCnt n x).key = s.key := rfl
@[simp] theorem State.key_modCnt (s : State) (n : Nat) (f : Cnt → Cnt) : (s.modCnt n f).key = s.key := rfl
@[simp] theorem State.tim_setCnt (s : State) (n : Nat) (x : Cnt) : (s.setCnt n x).tim = s.tim := rfl
@[simp] theorem State.tim_modCnt (s : State) (n : Nat) (f : Cnt → Cnt) : (s.modCnt n f).tim = s.tim := rfl
@[simp] theorem State.crs_setCnt (s : State) (n : Nat) (x : Cnt) : (s.setCnt n x).crs = s.crs := rfl
@[simp] theorem State.crs_modCnt (s : State) (n : Nat) (f : Cnt → Cnt) : (s.modCnt n f).crs = s.crs := rfl
@[simp] theorem State.evt_setCnt (s : State) (n : Nat) (x : Cnt) : (s.setCnt n x).evt = s.evt := rfl
@[simp] theorem State.evt_modCnt (s : State) (n : Nat) (f : Cnt → Cnt) : (s.modCnt n f).evt = s.evt := rfl
@[simp] theorem State.elog_setCnt (s : State) (n : Nat) (x : Cnt) : (s.setCnt n x).elog = s.elog := rfl
@[simp] theorem State.elog_modCnt (s : State) (n : Nat) (f : Cnt → Cnt) : (s.modCnt n f).elog = s.elog := rfl
@[simp] theorem State.eseq_setCnt (s : State) (n : Nat) (x : Cnt) : (s.setCnt n x).eseq = s.eseq := rfl
@[simp] theorem State.eseq_modCnt (s : State) (n : Nat) (f : Cnt → Cnt) : (s.modCnt n f).eseq = s.eseq := rfl
@[simp] theorem State.elost_setCnt (s : State) (n : Nat) (x : Cnt) : (s.setCnt n x).elost = s.elost := rfl
@[simp] theorem State.elost_modCnt (s : State) (n : Nat) (f : Cnt → Cnt) : (s.modCnt n f).elost = s.elost := rfl
@[simp] theorem State.eSec_setCnt (s : State) (n : Nat) (x : Cnt) : (s.setCnt n x).eSec = s.eSec := rfl
@[simp] theorem State.eSec_modCnt (s : State) (n : Nat) (f : Cnt → Cnt) : (s.modCnt n f).eSec = s.eSec := rfl
@[simp] theorem State.eCount_setCnt (s : State) (n : Nat) (x : Cnt) : (s.setCnt n x).eCount = s.eCount := rfl
@[simp] theorem State.eCount_modCnt (s : State) (n : Nat) (f : Cnt → Cnt) : (s.modCnt n f).eCount = s.eCount := rfl
@[simp] theorem State.mem_setCnt (s : State) (n : Nat) (x : Cnt) : (s.setCnt n x).mem = s.mem := rfl
@[simp] theorem State.mem_modCnt (s : State) (n : Nat) (f : Cnt → Cnt) : (s.modCnt n f).mem = s.mem := rfl
@[simp] theorem State.sent_setCnt (s : State) (n : Nat) (x : Cnt) : (s.setCnt n x).sent = s.sent := rfl
@[simp] theorem State.sent_modCnt (s : State) (n : Nat) (f : Cnt → Cnt) : (s.modCnt n f).sent = s.sent := rfl
@[simp] theorem State.fresh_setCnt (s : State) (n : Nat) (x : Cnt) : (s.setCnt n x).fresh = s.fresh := rfl
@[simp] theorem State.fresh_modCnt (s : State) (n : Nat) (f : Cnt → Cnt) : (s.modCnt n f).fresh = s.fresh := rfl
@[simp] theorem State.pending_setCnt (s : State) (n : Nat) (x : Cnt) : (s.setCnt n x).pending = s.pending := rfl
@[simp] theorem State.pending_modCnt (s : State) (n : Nat) (f : Cnt → Cnt) : (s.modCnt n f).pending = s.pending := rfl
@[simp] theorem State.hst_coreMajor_setCnt (s : State) (n : Nat) (x : Cnt) : (s.setCnt n x).hst.coreMajor = s.hst.coreMajor := rfl
@[simp] theorem State.hst_coreMajor_modCnt (s : State) (n : Nat) (f : Cnt → Cnt) : (s.modCnt n f).hst.coreMajor = s.hst.coreMajor := rfl
@[simp] theorem State.hst_coreMinor_setCnt (s : State) (n : Nat) (x : Cnt) : (s.setCnt n x).hst.coreMinor = s.hst.coreMinor := rfl
@[simp] theorem State.hst_coreMinor_modCnt (s : State) (n : Nat) (f : Cnt → Cnt) : (s.modCnt n f).hst.coreMinor = s.hst.coreMinor := rfl
@[simp] theorem State.hst_hostMajor_setCnt (s : State) (n : Nat) (x : Cnt) : (s.setCnt n x).hst.hostMajor = s.hst.hostMajor := rfl
@[simp] theorem State.hst_hostMajor_modCnt (s : State) (n : Nat) (f : Cnt → Cnt) : (s.modCnt n f).hst.hostMajor = s.hst.hostMajor := rfl
@[simp] theorem State.hst_hostMinor_setCnt (s : State) (n : Nat) (x : Cnt) : (s.setCnt n x).hst.hostMinor = s.hst.hostMinor := rfl
@[simp] theorem State.hst_hostMinor_modCnt (s : State) (n : Nat) (f : Cnt → Cnt) : (s.modCnt n f).hst.hostMinor = s.hst.hostMinor := rfl
@[simp] theorem State.hst_queues_setCnt (s : State) (n : Nat) (x : Cnt) : (s.setCnt n x).hst.queues = s.hst.queues := rfl
@[simp] theorem State.hst_queues_modCnt (s : State) (n : Nat) (f : Cnt → Cnt) : (s.modCnt n f).hst.queues = s.hst.queues := rfl
@[simp] theorem State.hst_flights_setCnt (s : State) (n : Nat) (x : Cnt) : (s.setCnt n x).hst.flights = s.hst.flights := rfl
@[simp] theorem State.hst_flights_modCnt (s : State) (n : Nat) (f : Cnt → Cnt) : (s.modCnt n f).hst.flights = s.hst.flights := rfl

/-! ### `chan` -/

@[simp] theorem State.chan_setChan (s : State) (n : Nat) (x : Chan) : (s.setChan n x).chan n = x := tget_tset_self ..
theorem State.chan_setChan_ne (s : State) (n : Nat) (x : Chan) (m : Nat) (h : m ≠ n) : (s.setChan n x).chan m = s.chan m := tget_tset_ne _ _ _ h
@[simp] theorem State.chan_modChan (s : State) (n : Nat) (f : Chan → Chan) : (s.modChan n f).chan n = f (s.chan n) := tget_tset_self ..
theorem State.chan_modChan_ne (s : State) (n : Nat) (f : Chan → Chan) (m : Nat) (h : m ≠ n) : (s.modChan n f).chan m = s.chan m := tget_tset_ne _ _ _ h
@[simp] theorem State.sys_setChan (s : State) (n : Nat) (x : Chan) : (s.setChan n x).sys = s.sys := rfl
@[simp] theorem State.sys_modChan (s : State) (n : Nat) (f : Chan → Chan) : (s.modChan n f).sys = s.sys := rfl
@[simp] theorem State.permits_setChan (s : State) (n : Nat) (x : Chan) : (s.setChan n x).permits = s.permits := rfl
@[simp] theorem State.permits_modChan (s : State) (n : Nat) (f : Chan → Chan) : (s.modChan n f).permits = s.permits := rfl
@[simp] theorem State.cfg_setChan (s : State) (n : Nat) (x : Chan) : (s.setChan n x).cfg = s.cfg := rfl
@[simp] theorem State.cfg_modChan (s : State) (n : Nat) (f : Chan → Chan) : (s.modChan n f).cfg = s.cfg := rfl
@[simp] theorem State.img_setChan (s : State) (n : Nat) (x : Chan) : (s.setChan n x).img = s.img := rfl
@[simp] theorem State.img_modChan (s : State) (n : Nat) (f : Chan → Chan) : (s.modChan n f).img = s.img := rfl
@[simp] theorem State.net_setChan (s : State) (n : Nat) (x : Chan) : (s.setChan n x).net = s.net := rfl
@[simp] theorem State.net_modChan (s : State) (n : Nat) (f : Chan → Chan) : (s.modChan n f).net = s.net := rfl
@[simp] theorem State.lnd_setChan (s : State) (n : Nat) (x : Chan) : (s.setChan n x).lnd = s.lnd := rfl
@[simp] theorem State.lnd_modChan (s : State) (n : Nat) (f : Chan → Chan) : (s.modChan n f).lnd = s.lnd := rfl
@[simp] theorem State.hst_setChan (s : State) (n : Nat) (x : Chan) : (s.setChan n x).hst = s.hst := rfl
@[simp] theorem State.hst_modChan (s : State) (n : Nat) (f : Chan → Chan) : (s.modChan n f).hst = s.hst := rfl
@[simp] theorem State.vlk_setChan (s : State) (n : Nat) (x : Chan) : (s.setChan n x).vlk = s.vlk := rfl
@[simp] theorem State.vlk_modChan (s : State) (n : Nat) (f : Chan → Chan) : (s.modChan n f).vlk = s.vlk := rfl
@[simp] theorem State.yrd_setChan (s : State) (n : Nat) (x : Chan) : (s.setChan n x).yrd = s.yrd := rfl
@[simp] theorem State.yrd_modChan (s : State) (n : Nat) (f : Chan → Chan) : (s.modChan n f).yrd = s.yrd := rfl
@[simp] theorem State.scl_setChan (s : State) (n : Nat) (x : Chan) : (s.setChan n x).scl = s.scl := rfl
@[simp] theorem State.scl_modChan (s : State) (n : Nat) (f : Chan → Chan) : (s.modChan n f).scl = s.scl := rfl
@[simp] theorem State.tly_setChan (s : State) (n : Nat) (x : Chan) : (s.setChan n x).tly = s.tly := rfl
@[simp] theorem State.tly_modChan (s : State) (n : Nat) (f : Chan → Chan) : (s.modChan n f).tly = s.tly := rfl
@[simp] theorem State.blz_setChan (s : State) (n : Nat) (x : Chan) : (s.setChan n x).blz = s.blz := rfl
@[simp] theorem State.blz_modChan (s : State) (n : Nat) (f : Chan → Chan) : (s.modChan n f).blz = s.blz := rfl
@[simp] theorem State.imd_setChan (s : State) (n : Nat) (x : Chan) : (s.setChan n x).imd = s.imd := rfl
@[simp] theorem State.imd_modChan (s : State) (n : Nat) (f : Chan → Chan) : (s.modChan n f).imd = s.imd := rfl
@[simp] theorem State.saf_setChan (s : State) (n : Nat) (x : Chan) : (s.setChan n x).saf = s.saf := rfl
@[simp] theorem State.saf_modChan (s : State) (n : Nat) (f : Chan → Chan) : (s.modChan n f).saf = s.saf := rfl
@[simp] theorem State.pvy_setChan (s : State) (n : Nat) (x : Chan) : (s.setChan n x).pvy = s.pvy := rfl
@[simp] theorem State.pvy_modChan (s : State) (n : Nat) (f : Chan → Chan) : (s.modChan n f).pvy = s.pvy := rfl
@[simp] theorem State.skl_setChan (s : State) (n : Nat) (x : Chan) : (s.setChan n x).skl = s.skl := rfl
@[simp] theorem State.skl_modChan (s : State) (n : Nat) (f : Chan → Chan) : (s.modChan n f).skl = s.skl := rfl
@[simp] theorem State.nfc_setChan (s : State) (n : Nat) (x : Chan) : (s.setChan n x).nfc = s.nfc := rfl
@[simp] theorem State.nfc_modChan (s : State) (n : Nat) (f : Chan → Chan) : (s.modChan n f).nfc = s.nfc := rfl
@[simp] theorem State.brd_setChan (s : State) (n : Nat) (x : Chan) : (s.setChan n x).brd = s.brd := rfl
@[simp] theorem State.brd_modChan (s : State) (n : Nat) (f : Chan → Chan) : (s.modChan n f).brd = s.brd := rfl
@[simp] theorem State.key_setChan (s : State) (n : Nat) (x : Chan) : (s.setChan n x).key = s.key := rfl
@[simp] theorem State.key_modChan (s : State) (n : Nat) (f : Chan → Chan) : (s.modChan n f).key = s.key := rfl
@[simp] theorem State.tim_setChan (s : State) (n : Nat) (x : Chan) : (s.setChan n x).tim = s.tim := rfl
@[simp] theorem State.tim_modChan (s : State) (n : Nat) (f : Chan → Chan) : (s.modChan n f).tim = s.tim := rfl
@[simp] theorem State.crs_setChan (s : State) (n : Nat) (x : Chan) : (s.setChan n x).crs = s.crs := rfl
@[simp] theorem State.crs_modChan (s : State) (n : Nat) (f : Chan → Chan) : (s.modChan n f).crs = s.crs := rfl
@[simp] theorem State.evt_setChan (s : State) (n : Nat) (x : Chan) : (s.setChan n x).evt = s.evt := rfl
@[simp] theorem State.evt_modChan (s : State) (n : Nat) (f : Chan → Chan) : (s.modChan n f).evt = s.evt := rfl
@[simp] theorem State.elog_setChan (s : State) (n : Nat) (x : Chan) : (s.setChan n x).elog = s.elog := rfl
@[simp] theorem State.elog_modChan (s : State) (n : Nat) (f : Chan → Chan) : (s.modChan n f).elog = s.elog := rfl
@[simp] theorem State.eseq_setChan (s : State) (n : Nat) (x : Chan) : (s.setChan n x).eseq = s.eseq := rfl
@[simp] theorem State.eseq_modChan (s : State) (n : Nat) (f : Chan → Chan) : (s.modChan n f).eseq = s.eseq := rfl
@[simp] theorem State.elost_setChan (s : State) (n : Nat) (x : Chan) : (s.setChan n x).elost = s.elost := rfl
@[simp] theorem State.elost_modChan (s : State) (n : Nat) (f : Chan → Chan) : (s.modChan n f).elost = s.elost := rfl
@[simp] theorem State.eSec_setChan (s : State) (n : Nat) (x : Chan) : (s.setChan n x).eSec = s.eSec := rfl
@[simp] theorem State.eSec_modChan (s : State) (n : Nat) (f : Chan → Chan) : (s.modChan n f).eSec = s.eSec := rfl
@[simp] theorem State.eCount_setChan (s : State) (n : Nat) (x : Chan) : (s.setChan n x).eCount = s.eCount := rfl
@[simp] theorem State.eCount_modChan (s : State) (n : Nat) (f : Chan → Chan) : (s.modChan n f).eCount = s.eCount := rfl
@[simp] theorem State.mem_setChan (s : State) (n : Nat) (x : Chan) : (s.setChan n x).mem = s.mem := rfl
@[simp] theorem State.mem_modChan (s : State) (n : Nat) (f : Chan → Chan) : (s.modChan n f).mem = s.mem := rfl
@[simp] theorem State.sent_setChan (s : State) (n : Nat) (x : Chan) : (s.setChan n x).sent = s.sent := rfl
@[simp] theorem State.sent_modChan (s : State) (n : Nat) (f : Chan → Chan) : (s.modChan n f).sent = s.sent := rfl
@[simp] theorem State.fresh_setChan (s : State) (n : Nat) (x : Chan) : (s.setChan n x).fresh = s.fresh := rfl
@[simp] theorem State.fresh_modChan (s : State) (n : Nat) (f : Chan → Chan) : (s.modChan n f).fresh = s.fresh := rfl
@[simp] theorem State.pending_setChan (s : State) (n : Nat) (x : Chan) : (s.setChan n x).pending = s.pending := rfl
@[simp] theorem State.pending_modChan (s : State) (n : Nat) (f : Chan → Chan) : (s.modChan n f).pending = s.pending := rfl
@[simp] theorem State.chk_supply_setChan (s : State) (n : Nat) (x : Chan) : (s.setChan n x).chk.supply = s.chk.supply := rfl
@[simp] theorem State.chk_supply_modChan (s : State) (n : Nat) (f : Chan → Chan) : (s.modChan n f).chk.supply = s.chk.supply := rfl
@[simp] theorem State.chk_snsCfg_setChan (s : State) (n : Nat) (x : Chan) : (s.setChan n x).chk.snsCfg = s.chk.snsCfg := rfl
@[simp] theorem State.chk_snsCfg_modChan (s : State) (n : Nat) (f : Chan → Chan) : (s.modChan n f).chk.snsCfg = s.chk.snsCfg := rfl
@[simp] theorem State.chk_pCond_setChan (s : State) (n : Nat) (x : Chan) : (s.setChan n x).chk.pCond = s.chk.pCond := rfl
@[simp] theorem State.chk_pCond_modChan (s : State) (n : Nat) (f : Chan → Chan) : (s.modChan n f).chk.pCond = s.chk.pCond := rfl

/-! ### `lane` -/

@[simp] theorem State.lane_setLane (s : State) (n : Nat) (x : Lane) : (s.setLane n x).lane n = x := tget_tset_self ..
theorem State.lane_setLane_ne (s : State) (n : Nat) (x : Lane) (m : Nat) (h : m ≠ n) : (s.setLane n x).lane m = s.lane m := tget_tset_ne _ _ _ h
@[simp] theorem State.lane_modLane (s : State) (n : Nat) (f : Lane → Lane) : (s.modLane n f).lane n = f (s.lane n) := tget_tset_self ..
theorem State.lane_modLane_ne (s : State) (n : Nat) (f : Lane → Lane) (m : Nat) (h : m ≠ n) : (s.modLane n f).lane m = s.lane m := tget_tset_ne _ _ _ h
@[simp] theorem State.sys_setLane (s : State) (n : Nat) (x : Lane) : (s.setLane n x).sys = s.sys := rfl
@[simp] theorem State.sys_modLane (s : State) (n : Nat) (f : Lane → Lane) : (s.modLane n f).sys = s.sys := rfl
@[simp] theorem State.permits_setLane (s : State) (n : Nat) (x : Lane) : (s.setLane n x).permits = s.permits := rfl
@[simp] theorem State.permits_modLane (s : State) (n : Nat) (f : Lane → Lane) : (s.modLane n f).permits = s.permits := rfl
@[simp] theorem State.cfg_setLane (s : State) (n : Nat) (x : Lane) : (s.setLane n x).cfg = s.cfg := rfl
@[simp] theorem State.cfg_modLane (s : State) (n : Nat) (f : Lane → Lane) : (s.modLane n f).cfg = s.cfg := rfl
@[simp] theorem State.img_setLane (s : State) (n : Nat) (x : Lane) : (s.setLane n x).img = s.img := rfl
@[simp] theorem State.img_modLane (s : State) (n : Nat) (f : Lane → Lane) : (s.modLane n f).img = s.img := rfl
@[simp] theorem State.net_setLane (s : State) (n : Nat) (x : Lane) : (s.setLane n x).net = s.net := rfl
@[simp] theorem State.net_modLane (s : State) (n : Nat) (f : Lane → Lane) : (s.modLane n f).net = s.net := rfl
@[simp] theorem State.lnd_setLane (s : State) (n : Nat) (x : Lane) : (s.setLane n x).lnd = s.lnd := rfl
@[simp] theorem State.lnd_modLane (s : State) (n : Nat) (f : Lane → Lane) : (s.modLane n f).lnd = s.lnd := rfl
@[simp] theorem State.hst_setLane (s : State) (n : Nat) (x : Lane) : (s.setLane n x).hst = s.hst := rfl
@[simp] theorem State.hst_modLane (s : State) (n : Nat) (f : Lane → Lane) : (s.modLane n f).hst = s.hst := rfl
@[simp] theorem State.vlk_setLane (s : State) (n : Nat) (x : Lane) : (s.setLane n x).vlk = s.vlk := rfl
@[simp] theorem State.vlk_modLane (s : State) (n : Nat) (f : Lane → Lane) : (s.modLane n f).vlk = s.vlk := rfl
@[simp] theorem State.yrd_setLane (s : State) (n : Nat) (x : Lane) : (s.setLane n x).yrd = s.yrd := rfl
@[simp] theorem State.yrd_modLane (s : State) (n : Nat) (f : Lane → Lane) : (s.modLane n f).yrd = s.yrd := rfl
@[simp] theorem State.scl_setLane (s : State) (n : Nat) (x : Lane) : (s.setLane n x).scl = s.scl := rfl
@[simp] theorem State.scl_modLane (s : State) (n : Nat) (f : Lane → Lane) : (s.modLane n f).scl = s.scl := rfl
@[simp] theorem State.tly_setLane (s : State) (n : Nat) (x : Lane) : (s.setLane n x).tly = s.tly := rfl
@[simp] theorem State.tly_modLane (s : State) (n : Nat) (f : Lane → Lane) : (s.modLane n f).tly = s.tly := rfl
@[simp] theorem State.blz_setLane (s : State) (n : Nat) (x : Lane) : (s.setLane n x).blz = s.blz := rfl
@[simp] theorem State.blz_modLane (s : State) (n : Nat) (f : Lane → Lane) : (s.modLane n f).blz = s.blz := rfl
@[simp] theorem State.imd_setLane (s : State) (n : Nat) (x : Lane) : (s.setLane n x).imd = s.imd := rfl
@[simp] theorem State.imd_modLane (s : State) (n : Nat) (f : Lane → Lane) : (s.modLane n f).imd = s.imd := rfl
@[simp] theorem State.saf_setLane (s : State) (n : Nat) (x : Lane) : (s.setLane n x).saf = s.saf := rfl
@[simp] theorem State.saf_modLane (s : State) (n : Nat) (f : Lane → Lane) : (s.modLane n f).saf = s.saf := rfl
@[simp] theorem State.chk_setLane (s : State) (n : Nat) (x : Lane) : (s.setLane n x).chk = s.chk := rfl
@[simp] theorem State.chk_modLane (s : State) (n : Nat) (f : Lane → Lane) : (s.modLane n f).chk = s.chk := rfl
@[simp] theorem State.skl_setLane (s : State) (n : Nat) (x : Lane) : (s.setLane n x).skl = s.skl := rfl
@[simp] theorem State.skl_modLane (s : State) (n : Nat) (f : Lane → Lane) : (s.modLane n f).skl = s.skl := rfl
@[simp] theorem State.nfc_setLane (s : State) (n : Nat) (x : Lane) : (s.setLane n x).nfc = s.nfc := rfl
@[simp] theorem State.nfc_modLane (s : State) (n : Nat) (f : Lane → Lane) : (s.modLane n f).nfc = s.nfc := rfl
@[simp] theorem State.brd_setLane (s : State) (n : Nat) (x : Lane) : (s.setLane n x).brd = s.brd := rfl
@[simp] theorem State.brd_modLane (s : State) (n : Nat) (f : Lane → Lane) : (s.modLane n f).brd = s.brd := rfl
@[simp] theorem State.key_setLane (s : State) (n : Nat) (x : Lane) : (s.setLane n x).key = s.key := rfl
@[simp] theorem State.key_modLane (s : State) (n : Nat) (f : Lane → Lane) : (s.modLane n f).key = s.key := rfl
@[simp] theorem State.tim_setLane (s : State) (n : Nat) (x : Lane) : (s.setLane n x).tim = s.tim := rfl
@[simp] theorem State.tim_modLane (s : State) (n : Nat) (f : Lane → Lane) : (s.modLane n f).tim = s.tim := rfl
@[simp] theorem State.crs_setLane (s : State) (n : Nat) (x : Lane) : (s.setLane n x).crs = s.crs := rfl
@[simp] theorem State.crs_modLane (s : State) (n : Nat) (f : Lane → Lane) : (s.modLane n f).crs = s.crs := rfl
@[simp] theorem State.evt_setLane (s : State) (n : Nat) (x : Lane) : (s.setLane n x).evt = s.evt := rfl
@[simp] theorem State.evt_modLane (s : State) (n : Nat) (f : Lane → Lane) : (s.modLane n f).evt = s.evt := rfl
@[simp] theorem State.elog_setLane (s : State) (n : Nat) (x : Lane) : (s.setLane n x).elog = s.elog := rfl
@[simp] theorem State.elog_modLane (s : State) (n : Nat) (f : Lane → Lane) : (s.modLane n f).elog = s.elog := rfl
@[simp] theorem State.eseq_setLane (s : State) (n : Nat) (x : Lane) : (s.setLane n x).eseq = s.eseq := rfl
@[simp] theorem State.eseq_modLane (s : State) (n : Nat) (f : Lane → Lane) : (s.modLane n f).eseq = s.eseq := rfl
@[simp] theorem State.elost_setLane (s : State) (n : Nat) (x : Lane) : (s.setLane n x).elost = s.elost := rfl
@[simp] theorem State.elost_modLane (s : State) (n : Nat) (f : Lane → Lane) : (s.modLane n f).elost = s.elost := rfl
@[simp] theorem State.eSec_setLane (s : State) (n : Nat) (x : Lane) : (s.setLane n x).eSec = s.eSec := rfl
@[simp] theorem State.eSec_modLane (s : State) (n : Nat) (f : Lane → Lane) : (s.modLane n f).eSec = s.eSec := rfl
@[simp] theorem State.eCount_setLane (s : State) (n : Nat) (x : Lane) : (s.setLane n x).eCount = s.eCount := rfl
@[simp] theorem State.eCount_modLane (s : State) (n : Nat) (f : Lane → Lane) : (s.modLane n f).eCount = s.eCount := rfl
@[simp] theorem State.mem_setLane (s : State) (n : Nat) (x : Lane) : (s.setLane n x).mem = s.mem := rfl
@[simp] theorem State.mem_modLane (s : State) (n : Nat) (f : Lane → Lane) : (s.modLane n f).mem = s.mem := rfl
@[simp] theorem State.sent_setLane (s : State) (n : Nat) (x : Lane) : (s.setLane n x).sent = s.sent := rfl
@[simp] theorem State.sent_modLane (s : State) (n : Nat) (f : Lane → Lane) : (s.modLane n f).sent = s.sent := rfl
@[simp] theorem State.fresh_setLane (s : State) (n : Nat) (x : Lane) : (s.setLane n x).fresh = s.fresh := rfl
@[simp] theorem State.fresh_modLane (s : State) (n : Nat) (f : Lane → Lane) : (s.modLane n f).fresh = s.fresh := rfl
@[simp] theorem State.pending_setLane (s : State) (n : Nat) (x : Lane) : (s.setLane n x).pending = s.pending := rfl
@[simp] theorem State.pending_modLane (s : State) (n : Nat) (f : Lane → Lane) : (s.modLane n f).pending = s.pending := rfl
@[simp] theorem State.pvy_run_setLane (s : State) (n : Nat) (x : Lane) : (s.setLane n x).pvy.run = s.pvy.run := rfl
@[simp] theorem State.pvy_run_modLane (s : State) (n : Nat) (f : Lane → Lane) : (s.modLane n f).pvy.run = s.pvy.run := rfl
@[simp] theorem State.pvy_first_setLane (s : State) (n : Nat) (x : Lane) : (s.setLane n x).pvy.first = s.pvy.first := rfl
@[simp] theorem State.pvy_first_modLane (s : State) (n : Nat) (f : Lane → Lane) : (s.modLane n f).pvy.first = s.pvy.first := rfl

/-! ### `gate` -/

@[simp] theorem State.gate_setGate (s : State) (n : Nat) (x : Gate) : (s.setGate n x).gate n = x := tget_tset_self ..
theorem State.gate_setGate_ne (s : State) (n : Nat) (x : Gate) (m : Nat) (h : m ≠ n) : (s.setGate n x).gate m = s.gate m := tget_tset_ne _ _ _ h
@[simp] theorem State.gate_modGate (s : State) (n : Nat) (f : Gate → Gate) : (s.modGate n f).gate n = f (s.gate n) := tget_tset_self ..
theorem State.gate_modGate_ne (s : State) (n : Nat) (f : Gate → Gate) (m : Nat) (h : m ≠ n) : (s.modGate n f).gate m = s.gate m := tget_tset_ne _ _ _ h
@[simp] theorem State.sys_setGate (s : State) (n : Nat) (x : Gate) : (s.setGate n x).sys = s.sys := rfl
@[simp] theorem State.sys_modGate (s : State) (n : Nat) (f : Gate → Gate) : (s.modGate n f).sys = s.sys := rfl
@[simp] theorem State.permits_setGate (s : State) (n : Nat) (x : Gate) : (s.setGate n x).permits = s.permits := rfl
@[simp] theorem State.permits_modGate (s : State) (n : Nat) (f : Gate → Gate) : (s.modGate n f).permits = s.permits := rfl
@[simp] theorem State.cfg_setGate (s : State) (n : Nat) (x : Gate) : (s.setGate n x).cfg = s.cfg := rfl
@[simp] theorem State.cfg_modGate (s : State) (n : Nat) (f : Gate → Gate) : (s.modGate n f).cfg = s.cfg := rfl
@[simp] theorem State.img_setGate (s : State) (n : Nat) (x : Gate) : (s.setGate n x).img = s.img := rfl
@[simp] theorem State.img_modGate (s : State) (n : Nat) (f : Gate → Gate) : (s.modGate n f).img = s.img := rfl
@[simp] theorem State.net_setGate (s : State) (n : Nat) (x : Gate) : (s.setGate n x).net = s.net := rfl
@[simp] theorem State.net_modGate (s : State) (n : Nat) (f : Gate → Gate) : (s.modGate n f).net = s.net := rfl
@[simp] theorem State.lnd_setGate (s : State) (n : Nat) (x : Gate) : (s.setGate n x).lnd = s.lnd := rfl
@[simp] theorem State.lnd_modGate (s : State) (n : Nat) (f : Gate → Gate) : (s.modGate n f).lnd = s.lnd := rfl
@[simp] theorem State.hst_setGate (s : State) (n : Nat) (x : Gate) : (s.setGate n x).hst = s.hst := rfl
@[simp] theorem State.hst_modGate (s : State) (n : Nat) (f : Gate → Gate) : (s.modGate n f).hst = s.hst := rfl
@[simp] theorem State.vlk_setGate (s : State) (n : Nat) (x : Gate) : (s.setGate n x).vlk = s.vlk := rfl
@[simp] theorem State.vlk_modGate (s : State) (n : Nat) (f : Gate → Gate) : (s.modGate n f).vlk = s.vlk := rfl
@[simp] theorem State.yrd_setGate (s : State) (n : Nat) (x : Gate) : (s.setGate n x).yrd = s.yrd := rfl
@[simp] theorem State.yrd_modGate (s : State) (n : Nat) (f : Gate → Gate) : (s.modGate n f).yrd = s.yrd := rfl
@[simp] theorem State.scl_setGate (s : State) (n : Nat) (x : Gate) : (s.setGate n x).scl = s.scl := rfl
@[simp] theorem State.scl_modGate (s : State) (n : Nat) (f : Gate → Gate) : (s.modGate n f).scl = s.scl := rfl
@[simp] theorem State.tly_setGate (s : State) (n : Nat) (x : Gate) : (s.setGate n x).tly = s.tly := rfl
@[simp] theorem State.tly_modGate (s : State) (n : Nat) (f : Gate → Gate) : (s.modGate n f).tly = s.tly := rfl
@[simp] theorem State.blz_setGate (s : State) (n : Nat) (x : Gate) : (s.setGate n x).blz = s.blz := rfl
@[simp] theorem State.blz_modGate (s : State) (n : Nat) (f : Gate → Gate) : (s.modGate n f).blz = s.blz := rfl
@[simp] theorem State.imd_setGate (s : State) (n : Nat) (x : Gate) : (s.setGate n x).imd = s.imd := rfl
@[simp] theorem State.imd_modGate (s : State) (n : Nat) (f : Gate → Gate) : (s.modGate n f).imd = s.imd := rfl
@[simp] theorem State.pvy_setGate (s : State) (n : Nat) (x : Gate) : (s.setGate n x).pvy = s.pvy := rfl
@[simp] theorem State.pvy_modGate (s : State) (n : Nat) (f : Gate → Gate) : (s.modGate n f).pvy = s.pvy := rfl
@[simp] theorem State.chk_setGate (s : State) (n : Nat) (x : Gate) : (s.setGate n x).chk = s.chk := rfl
@[simp] theorem State.chk_modGate (s : State) (n : Nat) (f : Gate → Gate) : (s.modGate n f).chk = s.chk := rfl
@[simp] theorem State.skl_setGate (s : State) (n : Nat) (x : Gate) : (s.setGate n x).skl = s.skl := rfl
@[simp] theorem State.skl_modGate (s : State) (n : Nat) (f : Gate → Gate) : (s.modGate n f).skl = s.skl := rfl
@[simp] theorem State.nfc_setGate (s : State) (n : Nat) (x : Gate) : (s.setGate n x).nfc = s.nfc := rfl
@[simp] theorem State.nfc_modGate (s : State) (n : Nat) (f : Gate → Gate) : (s.modGate n f).nfc = s.nfc := rfl
@[simp] theorem State.brd_setGate (s : State) (n : Nat) (x : Gate) : (s.setGate n x).brd = s.brd := rfl
@[simp] theorem State.brd_modGate (s : State) (n : Nat) (f : Gate → Gate) : (s.modGate n f).brd = s.brd := rfl
@[simp] theorem State.key_setGate (s : State) (n : Nat) (x : Gate) : (s.setGate n x).key = s.key := rfl
@[simp] theorem State.key_modGate (s : State) (n : Nat) (f : Gate → Gate) : (s.modGate n f).key = s.key := rfl
@[simp] theorem State.tim_setGate (s : State) (n : Nat) (x : Gate) : (s.setGate n x).tim = s.tim := rfl
@[simp] theorem State.tim_modGate (s : State) (n : Nat) (f : Gate → Gate) : (s.modGate n f).tim = s.tim := rfl
@[simp] theorem State.crs_setGate (s : State) (n : Nat) (x : Gate) : (s.setGate n x).crs = s.crs := rfl
@[simp] theorem State.crs_modGate (s : State) (n : Nat) (f : Gate → Gate) : (s.modGate n f).crs = s.crs := rfl
@[simp] theorem State.evt_setGate (s : State) (n : Nat) (x : Gate) : (s.setGate n x).evt = s.evt := rfl
@[simp] theorem State.evt_modGate (s : State) (n : Nat) (f : Gate → Gate) : (s.modGate n f).evt = s.evt := rfl
@[simp] theorem State.elog_setGate (s : State) (n : Nat) (x : Gate) : (s.setGate n x).elog = s.elog := rfl
@[simp] theorem State.elog_modGate (s : State) (n : Nat) (f : Gate → Gate) : (s.modGate n f).elog = s.elog := rfl
@[simp] theorem State.eseq_setGate (s : State) (n : Nat) (x : Gate) : (s.setGate n x).eseq = s.eseq := rfl
@[simp] theorem State.eseq_modGate (s : State) (n : Nat) (f : Gate → Gate) : (s.modGate n f).eseq = s.eseq := rfl
@[simp] theorem State.elost_setGate (s : State) (n : Nat) (x : Gate) : (s.setGate n x).elost = s.elost := rfl
@[simp] theorem State.elost_modGate (s : State) (n : Nat) (f : Gate → Gate) : (s.modGate n f).elost = s.elost := rfl
@[simp] theorem State.eSec_setGate (s : State) (n : Nat) (x : Gate) : (s.setGate n x).eSec = s.eSec := rfl
@[simp] theorem State.eSec_modGate (s : State) (n : Nat) (f : Gate → Gate) : (s.modGate n f).eSec = s.eSec := rfl
@[simp] theorem State.eCount_setGate (s : State) (n : Nat) (x : Gate) : (s.setGate n x).eCount = s.eCount := rfl
@[simp] theorem State.eCount_modGate (s : State) (n : Nat) (f : Gate → Gate) : (s.modGate n f).eCount = s.eCount := rfl
@[simp] theorem State.mem_setGate (s : State) (n : Nat) (x : Gate) : (s.setGate n x).mem = s.mem := rfl
@[simp] theorem State.mem_modGate (s : State) (n : Nat) (f : Gate → Gate) : (s.modGate n f).mem = s.mem := rfl
@[simp] theorem State.sent_setGate (s : State) (n : Nat) (x : Gate) : (s.setGate n x).sent = s.sent := rfl
@[simp] theorem State.sent_modGate (s : State) (n : Nat) (f : Gate → Gate) : (s.modGate n f).sent = s.sent := rfl
@[simp] theorem State.fresh_setGate (s : State) (n : Nat) (x : Gate) : (s.setGate n x).fresh = s.fresh := rfl
@[simp] theorem State.fresh_modGate (s : State) (n : Nat) (f : Gate → Gate) : (s.modGate n f).fresh = s.fresh := rfl
@[simp] theorem State.pending_setGate (s : State) (n : Nat) (x : Gate) : (s.setGate n x).pending = s.pending := rfl
@[simp] theorem State.pending_modGate (s : State) (n : Nat) (f : Gate → Gate) : (s.modGate n f).pending = s.pending := rfl
@[simp] theorem State.saf_spar_setGate (s : State) (n : Nat) (x : Gate) : (s.setGate n x).saf.spar = s.saf.spar := rfl
@[simp] theorem State.saf_spar_modGate (s : State) (n : Nat) (f : Gate → Gate) : (s.modGate n f).saf.spar = s.saf.spar := rfl
@[simp] theorem State.saf_safeClk_setGate (s : State) (n : Nat) (x : Gate) : (s.setGate n x).saf.safeClk = s.saf.safeClk := rfl
@[simp] theorem State.saf_safeClk_modGate (s : State) (n : Nat) (f : Gate → Gate) : (s.modGate n f).saf.safeClk = s.saf.safeClk := rfl
@[simp] theorem State.saf_heartbeat_setGate (s : State) (n : Nat) (x : Gate) : (s.setGate n x).saf.heartbeat = s.saf.heartbeat := rfl
@[simp] theorem State.saf_heartbeat_modGate (s : State) (n : Nat) (f : Gate → Gate) : (s.modGate n f).saf.heartbeat = s.saf.heartbeat := rfl
@[simp] theorem State.saf_tpRun_setGate (s : State) (n : Nat) (x : Gate) : (s.setGate n x).saf.tpRun = s.saf.tpRun := rfl
@[simp] theorem State.saf_tpRun_modGate (s : State) (n : Nat) (f : Gate → Gate) : (s.modGate n f).saf.tpRun = s.saf.tpRun := rfl
@[simp] theorem State.saf_params_setGate (s : State) (n : Nat) (x : Gate) : (s.setGate n x).saf.params = s.saf.params := rfl
@[simp] theorem State.saf_params_modGate (s : State) (n : Nat) (f : Gate → Gate) : (s.modGate n f).saf.params = s.saf.params := rfl
@[simp] theorem State.saf_hasParams_setGate (s : State) (n : Nat) (x : Gate) : (s.setGate n x).saf.hasParams = s.saf.hasParams := rfl
@[simp] theorem State.saf_hasParams_modGate (s : State) (n : Nat) (f : Gate → Gate) : (s.modGate n f).saf.hasParams = s.saf.hasParams := rfl
@[simp] theorem State.saf_unconfirmed_setGate (s : State) (n : Nat) (x : Gate) : (s.setGate n x).saf.unconfirmed = s.saf.unconfirmed := rfl
@[simp] theorem State.saf_unconfirmed_modGate (s : State) (n : Nat) (f : Gate → Gate) : (s.modGate n f).saf.unconfirmed = s.saf.unconfirmed := rfl
@[simp] theorem State.saf_affected_setGate (s : State) (n : Nat) (x : Gate) : (s.setGate n x).saf.affected = s.saf.affected := rfl
@[simp] theorem State.saf_affected_modGate (s : State) (n : Nat) (f : Gate → Gate) : (s.modGate n f).saf.affected = s.saf.affected := rfl
@[simp] theorem State.saf_password_setGate (s : State) (n : Nat) (x : Gate) : (s.setGate n x).saf.password = s.saf.password := rfl
@[simp] theorem State.saf_password_modGate (s : State) (n : Nat) (f : Gate → Gate) : (s.modGate n f).saf.password = s.saf.password := rfl
@[simp] theorem State.saf_fails_setGate (s : State) (n : Nat) (x : Gate) : (s.setGate n x).saf.fails = s.saf.fails := rfl
@[simp] theorem State.saf_fails_modGate (s : State) (n : Nat) (f : Gate → Gate) : (s.modGate n f).saf.fails = s.saf.fails := rfl
@[simp] theorem State.saf_lockouts_setGate (s : State) (n : Nat) (x : Gate) : (s.setGate n x).saf.lockouts = s.saf.lockouts := rfl
@[simp] theorem State.saf_lockouts_modGate (s : State) (n : Nat) (f : Gate → Gate) : (s.modGate n f).saf.lockouts = s.saf.lockouts := rfl
@[simp] theorem State.saf_lockMin_setGate (s : State) (n : Nat) (x : Gate) : (s.setGate n x).saf.lockMin = s.saf.lockMin := rfl
@[simp] theorem State.saf_lockMin_modGate (s : State) (n : Nat) (f : Gate → Gate) : (s.modGate n f).saf.lockMin = s.saf.lockMin := rfl
@[simp] theorem State.saf_lockMs_setGate (s : State) (n : Nat) (x : Gate) : (s.setGate n x).saf.lockMs = s.saf.lockMs := rfl
@[simp] theorem State.saf_lockMs_modGate (s : State) (n : Nat) (f : Gate → Gate) : (s.modGate n f).saf.lockMs = s.saf.lockMs := rfl
@[simp] theorem State.saf_pwdSide_setGate (s : State) (n : Nat) (x : Gate) : (s.setGate n x).saf.pwdSide = s.saf.pwdSide := rfl
@[simp] theorem State.saf_pwdSide_modGate (s : State) (n : Nat) (f : Gate → Gate) : (s.modGate n f).saf.pwdSide = s.saf.pwdSide := rfl
@[simp] theorem State.saf_staged_setGate (s : State) (n : Nat) (x : Gate) : (s.setGate n x).saf.staged = s.saf.staged := rfl
@[simp] theorem State.saf_staged_modGate (s : State) (n : Nat) (f : Gate → Gate) : (s.modGate n f).saf.staged = s.saf.staged := rfl
@[simp] theorem State.saf_log_setGate (s : State) (n : Nat) (x : Gate) : (s.setGate n x).saf.log = s.saf.log := rfl
@[simp] theorem State.saf_log_modGate (s : State) (n : Nat) (f : Gate → Gate) : (s.modGate n f).saf.log = s.saf.log := rfl
@[simp] theorem State.saf_last_setGate (s : State) (n : Nat) (x : Gate) : (s.setGate n x).saf.last = s.saf.last := rfl
@[simp] theorem State.saf_last_modGate (s : State) (n : Nat) (f : Gate → Gate) : (s.modGate n f).saf.last = s.saf.last := rfl
@[simp] theorem State.saf_archived_setGate (s : State) (n : Nat) (x : Gate) : (s.setGate n x).saf.archived = s.saf.archived := rfl
@[simp] theorem State.saf_archived_modGate (s : State) (n : Nat) (f : Gate → Gate) : (s.modGate n f).saf.archived = s.saf.archived := rfl
@[simp] theorem State.saf_inputs_setGate (s : State) (n : Nat) (x : Gate) : (s.setGate n x).saf.inputs = s.saf.inputs := rfl
@[simp] theorem State.saf_inputs_modGate (s : State) (n : Nat) (f : Gate → Gate) : (s.modGate n f).saf.inputs = s.saf.inputs := rfl
@[simp] theorem State.saf_tpoFlt_setGate (s : State) (n : Nat) (x : Gate) : (s.setGate n x).saf.tpoFlt = s.saf.tpoFlt := rfl
@[simp] theorem State.saf_tpoFlt_modGate (s : State) (n : Nat) (f : Gate → Gate) : (s.modGate n f).saf.tpoFlt = s.saf.tpoFlt := rfl
@[simp] theorem State.saf_diagCause_setGate (s : State) (n : Nat) (x : Gate) : (s.setGate n x).saf.diagCause = s.saf.diagCause := rfl
@[simp] theorem State.saf_diagCause_modGate (s : State) (n : Nat) (f : Gate → Gate) : (s.modGate n f).saf.diagCause = s.saf.diagCause := rfl
@[simp] theorem State.saf_diagDetail_setGate (s : State) (n : Nat) (x : Gate) : (s.setGate n x).saf.diagDetail = s.saf.diagDetail := rfl
@[simp] theorem State.saf_diagDetail_modGate (s : State) (n : Nat) (f : Gate → Gate) : (s.modGate n f).saf.diagDetail = s.saf.diagDetail := rfl
@[simp] theorem State.saf_conns_setGate (s : State) (n : Nat) (x : Gate) : (s.setGate n x).saf.conns = s.saf.conns := rfl
@[simp] theorem State.saf_conns_modGate (s : State) (n : Nat) (f : Gate → Gate) : (s.modGate n f).saf.conns = s.saf.conns := rfl
@[simp] theorem State.saf_crcErr_setGate (s : State) (n : Nat) (x : Gate) : (s.setGate n x).saf.crcErr = s.saf.crcErr := rfl
@[simp] theorem State.saf_crcErr_modGate (s : State) (n : Nat) (f : Gate → Gate) : (s.modGate n f).saf.crcErr = s.saf.crcErr := rfl
@[simp] theorem State.saf_seqErr_setGate (s : State) (n : Nat) (x : Gate) : (s.setGate n x).saf.seqErr = s.saf.seqErr := rfl
@[simp] theorem State.saf_seqErr_modGate (s : State) (n : Nat) (f : Gate → Gate) : (s.modGate n f).saf.seqErr = s.saf.seqErr := rfl

/-! ### `sin` -/

@[simp] theorem State.sin_setSin (s : State) (n : Nat) (x : SafIn) : (s.setSin n x).sin n = x := tget_tset_self ..
theorem State.sin_setSin_ne (s : State) (n : Nat) (x : SafIn) (m : Nat) (h : m ≠ n) : (s.setSin n x).sin m = s.sin m := tget_tset_ne _ _ _ h
@[simp] theorem State.sin_modSin (s : State) (n : Nat) (f : SafIn → SafIn) : (s.modSin n f).sin n = f (s.sin n) := tget_tset_self ..
theorem State.sin_modSin_ne (s : State) (n : Nat) (f : SafIn → SafIn) (m : Nat) (h : m ≠ n) : (s.modSin n f).sin m = s.sin m := tget_tset_ne _ _ _ h
@[simp] theorem State.sys_setSin (s : State) (n : Nat) (x : SafIn) : (s.setSin n x).sys = s.sys := rfl
@[simp] theorem State.sys_modSin (s : State) (n : Nat) (f : SafIn → SafIn) : (s.modSin n f).sys = s.sys := rfl
@[simp] theorem State.permits_setSin (s : State) (n : Nat) (x : SafIn) : (s.setSin n x).permits = s.permits := rfl
@[simp] theorem State.permits_modSin (s : State) (n : Nat) (f : SafIn → SafIn) : (s.modSin n f).permits = s.permits := rfl
@[simp] theorem State.cfg_setSin (s : State) (n : Nat) (x : SafIn) : (s.setSin n x).cfg = s.cfg := rfl
@[simp] theorem State.cfg_modSin (s : State) (n : Nat) (f : SafIn → SafIn) : (s.modSin n f).cfg = s.cfg := rfl
@[simp] theorem State.img_setSin (s : State) (n : Nat) (x : SafIn) : (s.setSin n x).img = s.img := rfl
@[simp] theorem State.img_modSin (s : State) (n : Nat) (f : SafIn → SafIn) : (s.modSin n f).img = s.img := rfl
@[simp] theorem State.net_setSin (s : State) (n : Nat) (x : SafIn) : (s.setSin n x).net = s.net := rfl
@[simp] theorem State.net_modSin (s : State) (n : Nat) (f : SafIn → SafIn) : (s.modSin n f).net = s.net := rfl
@[simp] theorem State.lnd_setSin (s : State) (n : Nat) (x : SafIn) : (s.setSin n x).lnd = s.lnd := rfl
@[simp] theorem State.lnd_modSin (s : State) (n : Nat) (f : SafIn → SafIn) : (s.modSin n f).lnd = s.lnd := rfl
@[simp] theorem State.hst_setSin (s : State) (n : Nat) (x : SafIn) : (s.setSin n x).hst = s.hst := rfl
@[simp] theorem State.hst_modSin (s : State) (n : Nat) (f : SafIn → SafIn) : (s.modSin n f).hst = s.hst := rfl
@[simp] theorem State.vlk_setSin (s : State) (n : Nat) (x : SafIn) : (s.setSin n x).vlk = s.vlk := rfl
@[simp] theorem State.vlk_modSin (s : State) (n : Nat) (f : SafIn → SafIn) : (s.modSin n f).vlk = s.vlk := rfl
@[simp] theorem State.yrd_setSin (s : State) (n : Nat) (x : SafIn) : (s.setSin n x).yrd = s.yrd := rfl
@[simp] theorem State.yrd_modSin (s : State) (n : Nat) (f : SafIn → SafIn) : (s.modSin n f).yrd = s.yrd := rfl
@[simp] theorem State.scl_setSin (s : State) (n : Nat) (x : SafIn) : (s.setSin n x).scl = s.scl := rfl
@[simp] theorem State.scl_modSin (s : State) (n : Nat) (f : SafIn → SafIn) : (s.modSin n f).scl = s.scl := rfl
@[simp] theorem State.tly_setSin (s : State) (n : Nat) (x : SafIn) : (s.setSin n x).tly = s.tly := rfl
@[simp] theorem State.tly_modSin (s : State) (n : Nat) (f : SafIn → SafIn) : (s.modSin n f).tly = s.tly := rfl
@[simp] theorem State.blz_setSin (s : State) (n : Nat) (x : SafIn) : (s.setSin n x).blz = s.blz := rfl
@[simp] theorem State.blz_modSin (s : State) (n : Nat) (f : SafIn → SafIn) : (s.modSin n f).blz = s.blz := rfl
@[simp] theorem State.imd_setSin (s : State) (n : Nat) (x : SafIn) : (s.setSin n x).imd = s.imd := rfl
@[simp] theorem State.imd_modSin (s : State) (n : Nat) (f : SafIn → SafIn) : (s.modSin n f).imd = s.imd := rfl
@[simp] theorem State.pvy_setSin (s : State) (n : Nat) (x : SafIn) : (s.setSin n x).pvy = s.pvy := rfl
@[simp] theorem State.pvy_modSin (s : State) (n : Nat) (f : SafIn → SafIn) : (s.modSin n f).pvy = s.pvy := rfl
@[simp] theorem State.chk_setSin (s : State) (n : Nat) (x : SafIn) : (s.setSin n x).chk = s.chk := rfl
@[simp] theorem State.chk_modSin (s : State) (n : Nat) (f : SafIn → SafIn) : (s.modSin n f).chk = s.chk := rfl
@[simp] theorem State.skl_setSin (s : State) (n : Nat) (x : SafIn) : (s.setSin n x).skl = s.skl := rfl
@[simp] theorem State.skl_modSin (s : State) (n : Nat) (f : SafIn → SafIn) : (s.modSin n f).skl = s.skl := rfl
@[simp] theorem State.nfc_setSin (s : State) (n : Nat) (x : SafIn) : (s.setSin n x).nfc = s.nfc := rfl
@[simp] theorem State.nfc_modSin (s : State) (n : Nat) (f : SafIn → SafIn) : (s.modSin n f).nfc = s.nfc := rfl
@[simp] theorem State.brd_setSin (s : State) (n : Nat) (x : SafIn) : (s.setSin n x).brd = s.brd := rfl
@[simp] theorem State.brd_modSin (s : State) (n : Nat) (f : SafIn → SafIn) : (s.modSin n f).brd = s.brd := rfl
@[simp] theorem State.key_setSin (s : State) (n : Nat) (x : SafIn) : (s.setSin n x).key = s.key := rfl
@[simp] theorem State.key_modSin (s : State) (n : Nat) (f : SafIn → SafIn) : (s.modSin n f).key = s.key := rfl
@[simp] theorem State.tim_setSin (s : State) (n : Nat) (x : SafIn) : (s.setSin n x).tim = s.tim := rfl
@[simp] theorem State.tim_modSin (s : State) (n : Nat) (f : SafIn → SafIn) : (s.modSin n f).tim = s.tim := rfl
@[simp] theorem State.crs_setSin (s : State) (n : Nat) (x : SafIn) : (s.setSin n x).crs = s.crs := rfl
@[simp] theorem State.crs_modSin (s : State) (n : Nat) (f : SafIn → SafIn) : (s.modSin n f).crs = s.crs := rfl
@[simp] theorem State.evt_setSin (s : State) (n : Nat) (x : SafIn) : (s.setSin n x).evt = s.evt := rfl
@[simp] theorem State.evt_modSin (s : State) (n : Nat) (f : SafIn → SafIn) : (s.modSin n f).evt = s.evt := rfl
@[simp] theorem State.elog_setSin (s : State) (n : Nat) (x : SafIn) : (s.setSin n x).elog = s.elog := rfl
@[simp] theorem State.elog_modSin (s : State) (n : Nat) (f : SafIn → SafIn) : (s.modSin n f).elog = s.elog := rfl
@[simp] theorem State.eseq_setSin (s : State) (n : Nat) (x : SafIn) : (s.setSin n x).eseq = s.eseq := rfl
@[simp] theorem State.eseq_modSin (s : State) (n : Nat) (f : SafIn → SafIn) : (s.modSin n f).eseq = s.eseq := rfl
@[simp] theorem State.elost_setSin (s : State) (n : Nat) (x : SafIn) : (s.setSin n x).elost = s.elost := rfl
@[simp] theorem State.elost_modSin (s : State) (n : Nat) (f : SafIn → SafIn) : (s.modSin n f).elost = s.elost := rfl
@[simp] theorem State.eSec_setSin (s : State) (n : Nat) (x : SafIn) : (s.setSin n x).eSec = s.eSec := rfl
@[simp] theorem State.eSec_modSin (s : State) (n : Nat) (f : SafIn → SafIn) : (s.modSin n f).eSec = s.eSec := rfl
@[simp] theorem State.eCount_setSin (s : State) (n : Nat) (x : SafIn) : (s.setSin n x).eCount = s.eCount := rfl
@[simp] theorem State.eCount_modSin (s : State) (n : Nat) (f : SafIn → SafIn) : (s.modSin n f).eCount = s.eCount := rfl
@[simp] theorem State.mem_setSin (s : State) (n : Nat) (x : SafIn) : (s.setSin n x).mem = s.mem := rfl
@[simp] theorem State.mem_modSin (s : State) (n : Nat) (f : SafIn → SafIn) : (s.modSin n f).mem = s.mem := rfl
@[simp] theorem State.sent_setSin (s : State) (n : Nat) (x : SafIn) : (s.setSin n x).sent = s.sent := rfl
@[simp] theorem State.sent_modSin (s : State) (n : Nat) (f : SafIn → SafIn) : (s.modSin n f).sent = s.sent := rfl
@[simp] theorem State.fresh_setSin (s : State) (n : Nat) (x : SafIn) : (s.setSin n x).fresh = s.fresh := rfl
@[simp] theorem State.fresh_modSin (s : State) (n : Nat) (f : SafIn → SafIn) : (s.modSin n f).fresh = s.fresh := rfl
@[simp] theorem State.pending_setSin (s : State) (n : Nat) (x : SafIn) : (s.setSin n x).pending = s.pending := rfl
@[simp] theorem State.pending_modSin (s : State) (n : Nat) (f : SafIn → SafIn) : (s.modSin n f).pending = s.pending := rfl
@[simp] theorem State.saf_spar_setSin (s : State) (n : Nat) (x : SafIn) : (s.setSin n x).saf.spar = s.saf.spar := rfl
@[simp] theorem State.saf_spar_modSin (s : State) (n : Nat) (f : SafIn → SafIn) : (s.modSin n f).saf.spar = s.saf.spar := rfl
@[simp] theorem State.saf_safeClk_setSin (s : State) (n : Nat) (x : SafIn) : (s.setSin n x).saf.safeClk = s.saf.safeClk := rfl
@[simp] theorem State.saf_safeClk_modSin (s : State) (n : Nat) (f : SafIn → SafIn) : (s.modSin n f).saf.safeClk = s.saf.safeClk := rfl
@[simp] theorem State.saf_heartbeat_setSin (s : State) (n : Nat) (x : SafIn) : (s.setSin n x).saf.heartbeat = s.saf.heartbeat := rfl
@[simp] theorem State.saf_heartbeat_modSin (s : State) (n : Nat) (f : SafIn → SafIn) : (s.modSin n f).saf.heartbeat = s.saf.heartbeat := rfl
@[simp] theorem State.saf_tpRun_setSin (s : State) (n : Nat) (x : SafIn) : (s.setSin n x).saf.tpRun = s.saf.tpRun := rfl
@[simp] theorem State.saf_tpRun_modSin (s : State) (n : Nat) (f : SafIn → SafIn) : (s.modSin n f).saf.tpRun = s.saf.tpRun := rfl
@[simp] theorem State.saf_params_setSin (s : State) (n : Nat) (x : SafIn) : (s.setSin n x).saf.params = s.saf.params := rfl
@[simp] theorem State.saf_params_modSin (s : State) (n : Nat) (f : SafIn → SafIn) : (s.modSin n f).saf.params = s.saf.params := rfl
@[simp] theorem State.saf_hasParams_setSin (s : State) (n : Nat) (x : SafIn) : (s.setSin n x).saf.hasParams = s.saf.hasParams := rfl
@[simp] theorem State.saf_hasParams_modSin (s : State) (n : Nat) (f : SafIn → SafIn) : (s.modSin n f).saf.hasParams = s.saf.hasParams := rfl
@[simp] theorem State.saf_unconfirmed_setSin (s : State) (n : Nat) (x : SafIn) : (s.setSin n x).saf.unconfirmed = s.saf.unconfirmed := rfl
@[simp] theorem State.saf_unconfirmed_modSin (s : State) (n : Nat) (f : SafIn → SafIn) : (s.modSin n f).saf.unconfirmed = s.saf.unconfirmed := rfl
@[simp] theorem State.saf_affected_setSin (s : State) (n : Nat) (x : SafIn) : (s.setSin n x).saf.affected = s.saf.affected := rfl
@[simp] theorem State.saf_affected_modSin (s : State) (n : Nat) (f : SafIn → SafIn) : (s.modSin n f).saf.affected = s.saf.affected := rfl
@[simp] theorem State.saf_password_setSin (s : State) (n : Nat) (x : SafIn) : (s.setSin n x).saf.password = s.saf.password := rfl
@[simp] theorem State.saf_password_modSin (s : State) (n : Nat) (f : SafIn → SafIn) : (s.modSin n f).saf.password = s.saf.password := rfl
@[simp] theorem State.saf_fails_setSin (s : State) (n : Nat) (x : SafIn) : (s.setSin n x).saf.fails = s.saf.fails := rfl
@[simp] theorem State.saf_fails_modSin (s : State) (n : Nat) (f : SafIn → SafIn) : (s.modSin n f).saf.fails = s.saf.fails := rfl
@[simp] theorem State.saf_lockouts_setSin (s : State) (n : Nat) (x : SafIn) : (s.setSin n x).saf.lockouts = s.saf.lockouts := rfl
@[simp] theorem State.saf_lockouts_modSin (s : State) (n : Nat) (f : SafIn → SafIn) : (s.modSin n f).saf.lockouts = s.saf.lockouts := rfl
@[simp] theorem State.saf_lockMin_setSin (s : State) (n : Nat) (x : SafIn) : (s.setSin n x).saf.lockMin = s.saf.lockMin := rfl
@[simp] theorem State.saf_lockMin_modSin (s : State) (n : Nat) (f : SafIn → SafIn) : (s.modSin n f).saf.lockMin = s.saf.lockMin := rfl
@[simp] theorem State.saf_lockMs_setSin (s : State) (n : Nat) (x : SafIn) : (s.setSin n x).saf.lockMs = s.saf.lockMs := rfl
@[simp] theorem State.saf_lockMs_modSin (s : State) (n : Nat) (f : SafIn → SafIn) : (s.modSin n f).saf.lockMs = s.saf.lockMs := rfl
@[simp] theorem State.saf_pwdSide_setSin (s : State) (n : Nat) (x : SafIn) : (s.setSin n x).saf.pwdSide = s.saf.pwdSide := rfl
@[simp] theorem State.saf_pwdSide_modSin (s : State) (n : Nat) (f : SafIn → SafIn) : (s.modSin n f).saf.pwdSide = s.saf.pwdSide := rfl
@[simp] theorem State.saf_staged_setSin (s : State) (n : Nat) (x : SafIn) : (s.setSin n x).saf.staged = s.saf.staged := rfl
@[simp] theorem State.saf_staged_modSin (s : State) (n : Nat) (f : SafIn → SafIn) : (s.modSin n f).saf.staged = s.saf.staged := rfl
@[simp] theorem State.saf_log_setSin (s : State) (n : Nat) (x : SafIn) : (s.setSin n x).saf.log = s.saf.log := rfl
@[simp] theorem State.saf_log_modSin (s : State) (n : Nat) (f : SafIn → SafIn) : (s.modSin n f).saf.log = s.saf.log := rfl
@[simp] theorem State.saf_last_setSin (s : State) (n : Nat) (x : SafIn) : (s.setSin n x).saf.last = s.saf.last := rfl
@[simp] theorem State.saf_last_modSin (s : State) (n : Nat) (f : SafIn → SafIn) : (s.modSin n f).saf.last = s.saf.last := rfl
@[simp] theorem State.saf_archived_setSin (s : State) (n : Nat) (x : SafIn) : (s.setSin n x).saf.archived = s.saf.archived := rfl
@[simp] theorem State.saf_archived_modSin (s : State) (n : Nat) (f : SafIn → SafIn) : (s.modSin n f).saf.archived = s.saf.archived := rfl
@[simp] theorem State.saf_tpoFlt_setSin (s : State) (n : Nat) (x : SafIn) : (s.setSin n x).saf.tpoFlt = s.saf.tpoFlt := rfl
@[simp] theorem State.saf_tpoFlt_modSin (s : State) (n : Nat) (f : SafIn → SafIn) : (s.modSin n f).saf.tpoFlt = s.saf.tpoFlt := rfl
@[simp] theorem State.saf_gates_setSin (s : State) (n : Nat) (x : SafIn) : (s.setSin n x).saf.gates = s.saf.gates := rfl
@[simp] theorem State.saf_gates_modSin (s : State) (n : Nat) (f : SafIn → SafIn) : (s.modSin n f).saf.gates = s.saf.gates := rfl
@[simp] theorem State.saf_diagCause_setSin (s : State) (n : Nat) (x : SafIn) : (s.setSin n x).saf.diagCause = s.saf.diagCause := rfl
@[simp] theorem State.saf_diagCause_modSin (s : State) (n : Nat) (f : SafIn → SafIn) : (s.modSin n f).saf.diagCause = s.saf.diagCause := rfl
@[simp] theorem State.saf_diagDetail_setSin (s : State) (n : Nat) (x : SafIn) : (s.setSin n x).saf.diagDetail = s.saf.diagDetail := rfl
@[simp] theorem State.saf_diagDetail_modSin (s : State) (n : Nat) (f : SafIn → SafIn) : (s.modSin n f).saf.diagDetail = s.saf.diagDetail := rfl
@[simp] theorem State.saf_conns_setSin (s : State) (n : Nat) (x : SafIn) : (s.setSin n x).saf.conns = s.saf.conns := rfl
@[simp] theorem State.saf_conns_modSin (s : State) (n : Nat) (f : SafIn → SafIn) : (s.modSin n f).saf.conns = s.saf.conns := rfl
@[simp] theorem State.saf_crcErr_setSin (s : State) (n : Nat) (x : SafIn) : (s.setSin n x).saf.crcErr = s.saf.crcErr := rfl
@[simp] theorem State.saf_crcErr_modSin (s : State) (n : Nat) (f : SafIn → SafIn) : (s.modSin n f).saf.crcErr = s.saf.crcErr := rfl
@[simp] theorem State.saf_seqErr_setSin (s : State) (n : Nat) (x : SafIn) : (s.setSin n x).saf.seqErr = s.saf.seqErr := rfl
@[simp] theorem State.saf_seqErr_modSin (s : State) (n : Nat) (f : SafIn → SafIn) : (s.modSin n f).saf.seqErr = s.saf.seqErr := rfl

/-! ### `conn` -/

@[simp] theorem State.conn_setConn (s : State) (n : Nat) (x : Hinge) : (s.setConn n x).conn n = x := tget_tset_self ..
theorem State.conn_setConn_ne (s : State) (n : Nat) (x : Hinge) (m : Nat) (h : m ≠ n) : (s.setConn n x).conn m = s.conn m := tget_tset_ne _ _ _ h
@[simp] theorem State.conn_modConn (s : State) (n : Nat) (f : Hinge → Hinge) : (s.modConn n f).conn n = f (s.conn n) := tget_tset_self ..
theorem State.conn_modConn_ne (s : State) (n : Nat) (f : Hinge → Hinge) (m : Nat) (h : m ≠ n) : (s.modConn n f).conn m = s.conn m := tget_tset_ne _ _ _ h
@[simp] theorem State.sys_setConn (s : State) (n : Nat) (x : Hinge) : (s.setConn n x).sys = s.sys := rfl
@[simp] theorem State.sys_modConn (s : State) (n : Nat) (f : Hinge → Hinge) : (s.modConn n f).sys = s.sys := rfl
@[simp] theorem State.permits_setConn (s : State) (n : Nat) (x : Hinge) : (s.setConn n x).permits = s.permits := rfl
@[simp] theorem State.permits_modConn (s : State) (n : Nat) (f : Hinge → Hinge) : (s.modConn n f).permits = s.permits := rfl
@[simp] theorem State.cfg_setConn (s : State) (n : Nat) (x : Hinge) : (s.setConn n x).cfg = s.cfg := rfl
@[simp] theorem State.cfg_modConn (s : State) (n : Nat) (f : Hinge → Hinge) : (s.modConn n f).cfg = s.cfg := rfl
@[simp] theorem State.img_setConn (s : State) (n : Nat) (x : Hinge) : (s.setConn n x).img = s.img := rfl
@[simp] theorem State.img_modConn (s : State) (n : Nat) (f : Hinge → Hinge) : (s.modConn n f).img = s.img := rfl
@[simp] theorem State.net_setConn (s : State) (n : Nat) (x : Hinge) : (s.setConn n x).net = s.net := rfl
@[simp] theorem State.net_modConn (s : State) (n : Nat) (f : Hinge → Hinge) : (s.modConn n f).net = s.net := rfl
@[simp] theorem State.lnd_setConn (s : State) (n : Nat) (x : Hinge) : (s.setConn n x).lnd = s.lnd := rfl
@[simp] theorem State.lnd_modConn (s : State) (n : Nat) (f : Hinge → Hinge) : (s.modConn n f).lnd = s.lnd := rfl
@[simp] theorem State.hst_setConn (s : State) (n : Nat) (x : Hinge) : (s.setConn n x).hst = s.hst := rfl
@[simp] theorem State.hst_modConn (s : State) (n : Nat) (f : Hinge → Hinge) : (s.modConn n f).hst = s.hst := rfl
@[simp] theorem State.vlk_setConn (s : State) (n : Nat) (x : Hinge) : (s.setConn n x).vlk = s.vlk := rfl
@[simp] theorem State.vlk_modConn (s : State) (n : Nat) (f : Hinge → Hinge) : (s.modConn n f).vlk = s.vlk := rfl
@[simp] theorem State.yrd_setConn (s : State) (n : Nat) (x : Hinge) : (s.setConn n x).yrd = s.yrd := rfl
@[simp] theorem State.yrd_modConn (s : State) (n : Nat) (f : Hinge → Hinge) : (s.modConn n f).yrd = s.yrd := rfl
@[simp] theorem State.scl_setConn (s : State) (n : Nat) (x : Hinge) : (s.setConn n x).scl = s.scl := rfl
@[simp] theorem State.scl_modConn (s : State) (n : Nat) (f : Hinge → Hinge) : (s.modConn n f).scl = s.scl := rfl
@[simp] theorem State.tly_setConn (s : State) (n : Nat) (x : Hinge) : (s.setConn n x).tly = s.tly := rfl
@[simp] theorem State.tly_modConn (s : State) (n : Nat) (f : Hinge → Hinge) : (s.modConn n f).tly = s.tly := rfl
@[simp] theorem State.blz_setConn (s : State) (n : Nat) (x : Hinge) : (s.setConn n x).blz = s.blz := rfl
@[simp] theorem State.blz_modConn (s : State) (n : Nat) (f : Hinge → Hinge) : (s.modConn n f).blz = s.blz := rfl
@[simp] theorem State.imd_setConn (s : State) (n : Nat) (x : Hinge) : (s.setConn n x).imd = s.imd := rfl
@[simp] theorem State.imd_modConn (s : State) (n : Nat) (f : Hinge → Hinge) : (s.modConn n f).imd = s.imd := rfl
@[simp] theorem State.pvy_setConn (s : State) (n : Nat) (x : Hinge) : (s.setConn n x).pvy = s.pvy := rfl
@[simp] theorem State.pvy_modConn (s : State) (n : Nat) (f : Hinge → Hinge) : (s.modConn n f).pvy = s.pvy := rfl
@[simp] theorem State.chk_setConn (s : State) (n : Nat) (x : Hinge) : (s.setConn n x).chk = s.chk := rfl
@[simp] theorem State.chk_modConn (s : State) (n : Nat) (f : Hinge → Hinge) : (s.modConn n f).chk = s.chk := rfl
@[simp] theorem State.skl_setConn (s : State) (n : Nat) (x : Hinge) : (s.setConn n x).skl = s.skl := rfl
@[simp] theorem State.skl_modConn (s : State) (n : Nat) (f : Hinge → Hinge) : (s.modConn n f).skl = s.skl := rfl
@[simp] theorem State.nfc_setConn (s : State) (n : Nat) (x : Hinge) : (s.setConn n x).nfc = s.nfc := rfl
@[simp] theorem State.nfc_modConn (s : State) (n : Nat) (f : Hinge → Hinge) : (s.modConn n f).nfc = s.nfc := rfl
@[simp] theorem State.brd_setConn (s : State) (n : Nat) (x : Hinge) : (s.setConn n x).brd = s.brd := rfl
@[simp] theorem State.brd_modConn (s : State) (n : Nat) (f : Hinge → Hinge) : (s.modConn n f).brd = s.brd := rfl
@[simp] theorem State.key_setConn (s : State) (n : Nat) (x : Hinge) : (s.setConn n x).key = s.key := rfl
@[simp] theorem State.key_modConn (s : State) (n : Nat) (f : Hinge → Hinge) : (s.modConn n f).key = s.key := rfl
@[simp] theorem State.tim_setConn (s : State) (n : Nat) (x : Hinge) : (s.setConn n x).tim = s.tim := rfl
@[simp] theorem State.tim_modConn (s : State) (n : Nat) (f : Hinge → Hinge) : (s.modConn n f).tim = s.tim := rfl
@[simp] theorem State.crs_setConn (s : State) (n : Nat) (x : Hinge) : (s.setConn n x).crs = s.crs := rfl
@[simp] theorem State.crs_modConn (s : State) (n : Nat) (f : Hinge → Hinge) : (s.modConn n f).crs = s.crs := rfl
@[simp] theorem State.evt_setConn (s : State) (n : Nat) (x : Hinge) : (s.setConn n x).evt = s.evt := rfl
@[simp] theorem State.evt_modConn (s : State) (n : Nat) (f : Hinge → Hinge) : (s.modConn n f).evt = s.evt := rfl
@[simp] theorem State.elog_setConn (s : State) (n : Nat) (x : Hinge) : (s.setConn n x).elog = s.elog := rfl
@[simp] theorem State.elog_modConn (s : State) (n : Nat) (f : Hinge → Hinge) : (s.modConn n f).elog = s.elog := rfl
@[simp] theorem State.eseq_setConn (s : State) (n : Nat) (x : Hinge) : (s.setConn n x).eseq = s.eseq := rfl
@[simp] theorem State.eseq_modConn (s : State) (n : Nat) (f : Hinge → Hinge) : (s.modConn n f).eseq = s.eseq := rfl
@[simp] theorem State.elost_setConn (s : State) (n : Nat) (x : Hinge) : (s.setConn n x).elost = s.elost := rfl
@[simp] theorem State.elost_modConn (s : State) (n : Nat) (f : Hinge → Hinge) : (s.modConn n f).elost = s.elost := rfl
@[simp] theorem State.eSec_setConn (s : State) (n : Nat) (x : Hinge) : (s.setConn n x).eSec = s.eSec := rfl
@[simp] theorem State.eSec_modConn (s : State) (n : Nat) (f : Hinge → Hinge) : (s.modConn n f).eSec = s.eSec := rfl
@[simp] theorem State.eCount_setConn (s : State) (n : Nat) (x : Hinge) : (s.setConn n x).eCount = s.eCount := rfl
@[simp] theorem State.eCount_modConn (s : State) (n : Nat) (f : Hinge → Hinge) : (s.modConn n f).eCount = s.eCount := rfl
@[simp] theorem State.mem_setConn (s : State) (n : Nat) (x : Hinge) : (s.setConn n x).mem = s.mem := rfl
@[simp] theorem State.mem_modConn (s : State) (n : Nat) (f : Hinge → Hinge) : (s.modConn n f).mem = s.mem := rfl
@[simp] theorem State.sent_setConn (s : State) (n : Nat) (x : Hinge) : (s.setConn n x).sent = s.sent := rfl
@[simp] theorem State.sent_modConn (s : State) (n : Nat) (f : Hinge → Hinge) : (s.modConn n f).sent = s.sent := rfl
@[simp] theorem State.fresh_setConn (s : State) (n : Nat) (x : Hinge) : (s.setConn n x).fresh = s.fresh := rfl
@[simp] theorem State.fresh_modConn (s : State) (n : Nat) (f : Hinge → Hinge) : (s.modConn n f).fresh = s.fresh := rfl
@[simp] theorem State.pending_setConn (s : State) (n : Nat) (x : Hinge) : (s.setConn n x).pending = s.pending := rfl
@[simp] theorem State.pending_modConn (s : State) (n : Nat) (f : Hinge → Hinge) : (s.modConn n f).pending = s.pending := rfl
@[simp] theorem State.saf_spar_setConn (s : State) (n : Nat) (x : Hinge) : (s.setConn n x).saf.spar = s.saf.spar := rfl
@[simp] theorem State.saf_spar_modConn (s : State) (n : Nat) (f : Hinge → Hinge) : (s.modConn n f).saf.spar = s.saf.spar := rfl
@[simp] theorem State.saf_safeClk_setConn (s : State) (n : Nat) (x : Hinge) : (s.setConn n x).saf.safeClk = s.saf.safeClk := rfl
@[simp] theorem State.saf_safeClk_modConn (s : State) (n : Nat) (f : Hinge → Hinge) : (s.modConn n f).saf.safeClk = s.saf.safeClk := rfl
@[simp] theorem State.saf_heartbeat_setConn (s : State) (n : Nat) (x : Hinge) : (s.setConn n x).saf.heartbeat = s.saf.heartbeat := rfl
@[simp] theorem State.saf_heartbeat_modConn (s : State) (n : Nat) (f : Hinge → Hinge) : (s.modConn n f).saf.heartbeat = s.saf.heartbeat := rfl
@[simp] theorem State.saf_tpRun_setConn (s : State) (n : Nat) (x : Hinge) : (s.setConn n x).saf.tpRun = s.saf.tpRun := rfl
@[simp] theorem State.saf_tpRun_modConn (s : State) (n : Nat) (f : Hinge → Hinge) : (s.modConn n f).saf.tpRun = s.saf.tpRun := rfl
@[simp] theorem State.saf_params_setConn (s : State) (n : Nat) (x : Hinge) : (s.setConn n x).saf.params = s.saf.params := rfl
@[simp] theorem State.saf_params_modConn (s : State) (n : Nat) (f : Hinge → Hinge) : (s.modConn n f).saf.params = s.saf.params := rfl
@[simp] theorem State.saf_hasParams_setConn (s : State) (n : Nat) (x : Hinge) : (s.setConn n x).saf.hasParams = s.saf.hasParams := rfl
@[simp] theorem State.saf_hasParams_modConn (s : State) (n : Nat) (f : Hinge → Hinge) : (s.modConn n f).saf.hasParams = s.saf.hasParams := rfl
@[simp] theorem State.saf_unconfirmed_setConn (s : State) (n : Nat) (x : Hinge) : (s.setConn n x).saf.unconfirmed = s.saf.unconfirmed := rfl
@[simp] theorem State.saf_unconfirmed_modConn (s : State) (n : Nat) (f : Hinge → Hinge) : (s.modConn n f).saf.unconfirmed = s.saf.unconfirmed := rfl
@[simp] theorem State.saf_affected_setConn (s : State) (n : Nat) (x : Hinge) : (s.setConn n x).saf.affected = s.saf.affected := rfl
@[simp] theorem State.saf_affected_modConn (s : State) (n : Nat) (f : Hinge → Hinge) : (s.modConn n f).saf.affected = s.saf.affected := rfl
@[simp] theorem State.saf_password_setConn (s : State) (n : Nat) (x : Hinge) : (s.setConn n x).saf.password = s.saf.password := rfl
@[simp] theorem State.saf_password_modConn (s : State) (n : Nat) (f : Hinge → Hinge) : (s.modConn n f).saf.password = s.saf.password := rfl
@[simp] theorem State.saf_fails_setConn (s : State) (n : Nat) (x : Hinge) : (s.setConn n x).saf.fails = s.saf.fails := rfl
@[simp] theorem State.saf_fails_modConn (s : State) (n : Nat) (f : Hinge → Hinge) : (s.modConn n f).saf.fails = s.saf.fails := rfl
@[simp] theorem State.saf_lockouts_setConn (s : State) (n : Nat) (x : Hinge) : (s.setConn n x).saf.lockouts = s.saf.lockouts := rfl
@[simp] theorem State.saf_lockouts_modConn (s : State) (n : Nat) (f : Hinge → Hinge) : (s.modConn n f).saf.lockouts = s.saf.lockouts := rfl
@[simp] theorem State.saf_lockMin_setConn (s : State) (n : Nat) (x : Hinge) : (s.setConn n x).saf.lockMin = s.saf.lockMin := rfl
@[simp] theorem State.saf_lockMin_modConn (s : State) (n : Nat) (f : Hinge → Hinge) : (s.modConn n f).saf.lockMin = s.saf.lockMin := rfl
@[simp] theorem State.saf_lockMs_setConn (s : State) (n : Nat) (x : Hinge) : (s.setConn n x).saf.lockMs = s.saf.lockMs := rfl
@[simp] theorem State.saf_lockMs_modConn (s : State) (n : Nat) (f : Hinge → Hinge) : (s.modConn n f).saf.lockMs = s.saf.lockMs := rfl
@[simp] theorem State.saf_pwdSide_setConn (s : State) (n : Nat) (x : Hinge) : (s.setConn n x).saf.pwdSide = s.saf.pwdSide := rfl
@[simp] theorem State.saf_pwdSide_modConn (s : State) (n : Nat) (f : Hinge → Hinge) : (s.modConn n f).saf.pwdSide = s.saf.pwdSide := rfl
@[simp] theorem State.saf_staged_setConn (s : State) (n : Nat) (x : Hinge) : (s.setConn n x).saf.staged = s.saf.staged := rfl
@[simp] theorem State.saf_staged_modConn (s : State) (n : Nat) (f : Hinge → Hinge) : (s.modConn n f).saf.staged = s.saf.staged := rfl
@[simp] theorem State.saf_log_setConn (s : State) (n : Nat) (x : Hinge) : (s.setConn n x).saf.log = s.saf.log := rfl
@[simp] theorem State.saf_log_modConn (s : State) (n : Nat) (f : Hinge → Hinge) : (s.modConn n f).saf.log = s.saf.log := rfl
@[simp] theorem State.saf_last_setConn (s : State) (n : Nat) (x : Hinge) : (s.setConn n x).saf.last = s.saf.last := rfl
@[simp] theorem State.saf_last_modConn (s : State) (n : Nat) (f : Hinge → Hinge) : (s.modConn n f).saf.last = s.saf.last := rfl
@[simp] theorem State.saf_archived_setConn (s : State) (n : Nat) (x : Hinge) : (s.setConn n x).saf.archived = s.saf.archived := rfl
@[simp] theorem State.saf_archived_modConn (s : State) (n : Nat) (f : Hinge → Hinge) : (s.modConn n f).saf.archived = s.saf.archived := rfl
@[simp] theorem State.saf_inputs_setConn (s : State) (n : Nat) (x : Hinge) : (s.setConn n x).saf.inputs = s.saf.inputs := rfl
@[simp] theorem State.saf_inputs_modConn (s : State) (n : Nat) (f : Hinge → Hinge) : (s.modConn n f).saf.inputs = s.saf.inputs := rfl
@[simp] theorem State.saf_tpoFlt_setConn (s : State) (n : Nat) (x : Hinge) : (s.setConn n x).saf.tpoFlt = s.saf.tpoFlt := rfl
@[simp] theorem State.saf_tpoFlt_modConn (s : State) (n : Nat) (f : Hinge → Hinge) : (s.modConn n f).saf.tpoFlt = s.saf.tpoFlt := rfl
@[simp] theorem State.saf_gates_setConn (s : State) (n : Nat) (x : Hinge) : (s.setConn n x).saf.gates = s.saf.gates := rfl
@[simp] theorem State.saf_gates_modConn (s : State) (n : Nat) (f : Hinge → Hinge) : (s.modConn n f).saf.gates = s.saf.gates := rfl
@[simp] theorem State.saf_diagCause_setConn (s : State) (n : Nat) (x : Hinge) : (s.setConn n x).saf.diagCause = s.saf.diagCause := rfl
@[simp] theorem State.saf_diagCause_modConn (s : State) (n : Nat) (f : Hinge → Hinge) : (s.modConn n f).saf.diagCause = s.saf.diagCause := rfl
@[simp] theorem State.saf_diagDetail_setConn (s : State) (n : Nat) (x : Hinge) : (s.setConn n x).saf.diagDetail = s.saf.diagDetail := rfl
@[simp] theorem State.saf_diagDetail_modConn (s : State) (n : Nat) (f : Hinge → Hinge) : (s.modConn n f).saf.diagDetail = s.saf.diagDetail := rfl
@[simp] theorem State.saf_crcErr_setConn (s : State) (n : Nat) (x : Hinge) : (s.setConn n x).saf.crcErr = s.saf.crcErr := rfl
@[simp] theorem State.saf_crcErr_modConn (s : State) (n : Nat) (f : Hinge → Hinge) : (s.modConn n f).saf.crcErr = s.saf.crcErr := rfl
@[simp] theorem State.saf_seqErr_setConn (s : State) (n : Nat) (x : Hinge) : (s.setConn n x).saf.seqErr = s.saf.seqErr := rfl
@[simp] theorem State.saf_seqErr_modConn (s : State) (n : Nat) (f : Hinge → Hinge) : (s.modConn n f).saf.seqErr = s.saf.seqErr := rfl

/-! ### `sklNode` -/

@[simp] theorem State.sklNode_setSklNode (s : State) (n : Nat) (x : SklNode) : (s.setSklNode n x).sklNode n = x := tget_tset_self ..
theorem State.sklNode_setSklNode_ne (s : State) (n : Nat) (x : SklNode) (m : Nat) (h : m ≠ n) : (s.setSklNode n x).sklNode m = s.sklNode m := tget_tset_ne _ _ _ h
@[simp] theorem State.sklNode_modSklNode (s : State) (n : Nat) (f : SklNode → SklNode) : (s.modSklNode n f).sklNode n = f (s.sklNode n) := tget_tset_self ..
theorem State.sklNode_modSklNode_ne (s : State) (n : Nat) (f : SklNode → SklNode) (m : Nat) (h : m ≠ n) : (s.modSklNode n f).sklNode m = s.sklNode m := tget_tset_ne _ _ _ h
@[simp] theorem State.sys_setSklNode (s : State) (n : Nat) (x : SklNode) : (s.setSklNode n x).sys = s.sys := rfl
@[simp] theorem State.sys_modSklNode (s : State) (n : Nat) (f : SklNode → SklNode) : (s.modSklNode n f).sys = s.sys := rfl
@[simp] theorem State.permits_setSklNode (s : State) (n : Nat) (x : SklNode) : (s.setSklNode n x).permits = s.permits := rfl
@[simp] theorem State.permits_modSklNode (s : State) (n : Nat) (f : SklNode → SklNode) : (s.modSklNode n f).permits = s.permits := rfl
@[simp] theorem State.cfg_setSklNode (s : State) (n : Nat) (x : SklNode) : (s.setSklNode n x).cfg = s.cfg := rfl
@[simp] theorem State.cfg_modSklNode (s : State) (n : Nat) (f : SklNode → SklNode) : (s.modSklNode n f).cfg = s.cfg := rfl
@[simp] theorem State.img_setSklNode (s : State) (n : Nat) (x : SklNode) : (s.setSklNode n x).img = s.img := rfl
@[simp] theorem State.img_modSklNode (s : State) (n : Nat) (f : SklNode → SklNode) : (s.modSklNode n f).img = s.img := rfl
@[simp] theorem State.net_setSklNode (s : State) (n : Nat) (x : SklNode) : (s.setSklNode n x).net = s.net := rfl
@[simp] theorem State.net_modSklNode (s : State) (n : Nat) (f : SklNode → SklNode) : (s.modSklNode n f).net = s.net := rfl
@[simp] theorem State.lnd_setSklNode (s : State) (n : Nat) (x : SklNode) : (s.setSklNode n x).lnd = s.lnd := rfl
@[simp] theorem State.lnd_modSklNode (s : State) (n : Nat) (f : SklNode → SklNode) : (s.modSklNode n f).lnd = s.lnd := rfl
@[simp] theorem State.hst_setSklNode (s : State) (n : Nat) (x : SklNode) : (s.setSklNode n x).hst = s.hst := rfl
@[simp] theorem State.hst_modSklNode (s : State) (n : Nat) (f : SklNode → SklNode) : (s.modSklNode n f).hst = s.hst := rfl
@[simp] theorem State.vlk_setSklNode (s : State) (n : Nat) (x : SklNode) : (s.setSklNode n x).vlk = s.vlk := rfl
@[simp] theorem State.vlk_modSklNode (s : State) (n : Nat) (f : SklNode → SklNode) : (s.modSklNode n f).vlk = s.vlk := rfl
@[simp] theorem State.yrd_setSklNode (s : State) (n : Nat) (x : SklNode) : (s.setSklNode n x).yrd = s.yrd := rfl
@[simp] theorem State.yrd_modSklNode (s : State) (n : Nat) (f : SklNode → SklNode) : (s.modSklNode n f).yrd = s.yrd := rfl
@[simp] theorem State.scl_setSklNode (s : State) (n : Nat) (x : SklNode) : (s.setSklNode n x).scl = s.scl := rfl
@[simp] theorem State.scl_modSklNode (s : State) (n : Nat) (f : SklNode → SklNode) : (s.modSklNode n f).scl = s.scl := rfl
@[simp] theorem State.tly_setSklNode (s : State) (n : Nat) (x : SklNode) : (s.setSklNode n x).tly = s.tly := rfl
@[simp] theorem State.tly_modSklNode (s : State) (n : Nat) (f : SklNode → SklNode) : (s.modSklNode n f).tly = s.tly := rfl
@[simp] theorem State.blz_setSklNode (s : State) (n : Nat) (x : SklNode) : (s.setSklNode n x).blz = s.blz := rfl
@[simp] theorem State.blz_modSklNode (s : State) (n : Nat) (f : SklNode → SklNode) : (s.modSklNode n f).blz = s.blz := rfl
@[simp] theorem State.imd_setSklNode (s : State) (n : Nat) (x : SklNode) : (s.setSklNode n x).imd = s.imd := rfl
@[simp] theorem State.imd_modSklNode (s : State) (n : Nat) (f : SklNode → SklNode) : (s.modSklNode n f).imd = s.imd := rfl
@[simp] theorem State.saf_setSklNode (s : State) (n : Nat) (x : SklNode) : (s.setSklNode n x).saf = s.saf := rfl
@[simp] theorem State.saf_modSklNode (s : State) (n : Nat) (f : SklNode → SklNode) : (s.modSklNode n f).saf = s.saf := rfl
@[simp] theorem State.pvy_setSklNode (s : State) (n : Nat) (x : SklNode) : (s.setSklNode n x).pvy = s.pvy := rfl
@[simp] theorem State.pvy_modSklNode (s : State) (n : Nat) (f : SklNode → SklNode) : (s.modSklNode n f).pvy = s.pvy := rfl
@[simp] theorem State.chk_setSklNode (s : State) (n : Nat) (x : SklNode) : (s.setSklNode n x).chk = s.chk := rfl
@[simp] theorem State.chk_modSklNode (s : State) (n : Nat) (f : SklNode → SklNode) : (s.modSklNode n f).chk = s.chk := rfl
@[simp] theorem State.nfc_setSklNode (s : State) (n : Nat) (x : SklNode) : (s.setSklNode n x).nfc = s.nfc := rfl
@[simp] theorem State.nfc_modSklNode (s : State) (n : Nat) (f : SklNode → SklNode) : (s.modSklNode n f).nfc = s.nfc := rfl
@[simp] theorem State.brd_setSklNode (s : State) (n : Nat) (x : SklNode) : (s.setSklNode n x).brd = s.brd := rfl
@[simp] theorem State.brd_modSklNode (s : State) (n : Nat) (f : SklNode → SklNode) : (s.modSklNode n f).brd = s.brd := rfl
@[simp] theorem State.key_setSklNode (s : State) (n : Nat) (x : SklNode) : (s.setSklNode n x).key = s.key := rfl
@[simp] theorem State.key_modSklNode (s : State) (n : Nat) (f : SklNode → SklNode) : (s.modSklNode n f).key = s.key := rfl
@[simp] theorem State.tim_setSklNode (s : State) (n : Nat) (x : SklNode) : (s.setSklNode n x).tim = s.tim := rfl
@[simp] theorem State.tim_modSklNode (s : State) (n : Nat) (f : SklNode → SklNode) : (s.modSklNode n f).tim = s.tim := rfl
@[simp] theorem State.crs_setSklNode (s : State) (n : Nat) (x : SklNode) : (s.setSklNode n x).crs = s.crs := rfl
@[simp] theorem State.crs_modSklNode (s : State) (n : Nat) (f : SklNode → SklNode) : (s.modSklNode n f).crs = s.crs := rfl
@[simp] theorem State.evt_setSklNode (s : State) (n : Nat) (x : SklNode) : (s.setSklNode n x).evt = s.evt := rfl
@[simp] theorem State.evt_modSklNode (s : State) (n : Nat) (f : SklNode → SklNode) : (s.modSklNode n f).evt = s.evt := rfl
@[simp] theorem State.elog_setSklNode (s : State) (n : Nat) (x : SklNode) : (s.setSklNode n x).elog = s.elog := rfl
@[simp] theorem State.elog_modSklNode (s : State) (n : Nat) (f : SklNode → SklNode) : (s.modSklNode n f).elog = s.elog := rfl
@[simp] theorem State.eseq_setSklNode (s : State) (n : Nat) (x : SklNode) : (s.setSklNode n x).eseq = s.eseq := rfl
@[simp] theorem State.eseq_modSklNode (s : State) (n : Nat) (f : SklNode → SklNode) : (s.modSklNode n f).eseq = s.eseq := rfl
@[simp] theorem State.elost_setSklNode (s : State) (n : Nat) (x : SklNode) : (s.setSklNode n x).elost = s.elost := rfl
@[simp] theorem State.elost_modSklNode (s : State) (n : Nat) (f : SklNode → SklNode) : (s.modSklNode n f).elost = s.elost := rfl
@[simp] theorem State.eSec_setSklNode (s : State) (n : Nat) (x : SklNode) : (s.setSklNode n x).eSec = s.eSec := rfl
@[simp] theorem State.eSec_modSklNode (s : State) (n : Nat) (f : SklNode → SklNode) : (s.modSklNode n f).eSec = s.eSec := rfl
@[simp] theorem State.eCount_setSklNode (s : State) (n : Nat) (x : SklNode) : (s.setSklNode n x).eCount = s.eCount := rfl
@[simp] theorem State.eCount_modSklNode (s : State) (n : Nat) (f : SklNode → SklNode) : (s.modSklNode n f).eCount = s.eCount := rfl
@[simp] theorem State.mem_setSklNode (s : State) (n : Nat) (x : SklNode) : (s.setSklNode n x).mem = s.mem := rfl
@[simp] theorem State.mem_modSklNode (s : State) (n : Nat) (f : SklNode → SklNode) : (s.modSklNode n f).mem = s.mem := rfl
@[simp] theorem State.sent_setSklNode (s : State) (n : Nat) (x : SklNode) : (s.setSklNode n x).sent = s.sent := rfl
@[simp] theorem State.sent_modSklNode (s : State) (n : Nat) (f : SklNode → SklNode) : (s.modSklNode n f).sent = s.sent := rfl
@[simp] theorem State.fresh_setSklNode (s : State) (n : Nat) (x : SklNode) : (s.setSklNode n x).fresh = s.fresh := rfl
@[simp] theorem State.fresh_modSklNode (s : State) (n : Nat) (f : SklNode → SklNode) : (s.modSklNode n f).fresh = s.fresh := rfl
@[simp] theorem State.pending_setSklNode (s : State) (n : Nat) (x : SklNode) : (s.setSklNode n x).pending = s.pending := rfl
@[simp] theorem State.pending_modSklNode (s : State) (n : Nat) (f : SklNode → SklNode) : (s.modSklNode n f).pending = s.pending := rfl
@[simp] theorem State.skl_run_setSklNode (s : State) (n : Nat) (x : SklNode) : (s.setSklNode n x).skl.run = s.skl.run := rfl
@[simp] theorem State.skl_run_modSklNode (s : State) (n : Nat) (f : SklNode → SklNode) : (s.modSklNode n f).skl.run = s.skl.run := rfl
@[simp] theorem State.skl_busy_setSklNode (s : State) (n : Nat) (x : SklNode) : (s.setSklNode n x).skl.busy = s.skl.busy := rfl
@[simp] theorem State.skl_busy_modSklNode (s : State) (n : Nat) (f : SklNode → SklNode) : (s.modSklNode n f).skl.busy = s.skl.busy := rfl
@[simp] theorem State.skl_orphan_setSklNode (s : State) (n : Nat) (x : SklNode) : (s.setSklNode n x).skl.orphan = s.skl.orphan := rfl
@[simp] theorem State.skl_orphan_modSklNode (s : State) (n : Nat) (f : SklNode → SklNode) : (s.modSklNode n f).skl.orphan = s.skl.orphan := rfl
@[simp] theorem State.skl_epoch_setSklNode (s : State) (n : Nat) (x : SklNode) : (s.setSklNode n x).skl.epoch = s.skl.epoch := rfl
@[simp] theorem State.skl_epoch_modSklNode (s : State) (n : Nat) (f : SklNode → SklNode) : (s.modSklNode n f).skl.epoch = s.skl.epoch := rfl
@[simp] theorem State.skl_nextEpoch_setSklNode (s : State) (n : Nat) (x : SklNode) : (s.setSklNode n x).skl.nextEpoch = s.skl.nextEpoch := rfl
@[simp] theorem State.skl_nextEpoch_modSklNode (s : State) (n : Nat) (f : SklNode → SklNode) : (s.modSklNode n f).skl.nextEpoch = s.skl.nextEpoch := rfl
@[simp] theorem State.skl_actTime_setSklNode (s : State) (n : Nat) (x : SklNode) : (s.setSklNode n x).skl.actTime = s.skl.actTime := rfl
@[simp] theorem State.skl_actTime_modSklNode (s : State) (n : Nat) (f : SklNode → SklNode) : (s.modSklNode n f).skl.actTime = s.skl.actTime := rfl
@[simp] theorem State.skl_prevEpoch_setSklNode (s : State) (n : Nat) (x : SklNode) : (s.setSklNode n x).skl.prevEpoch = s.skl.prevEpoch := rfl
@[simp] theorem State.skl_prevEpoch_modSklNode (s : State) (n : Nat) (f : SklNode → SklNode) : (s.modSklNode n f).skl.prevEpoch = s.skl.prevEpoch := rfl
@[simp] theorem State.skl_parent_setSklNode (s : State) (n : Nat) (x : SklNode) : (s.setSklNode n x).skl.parent = s.skl.parent := rfl
@[simp] theorem State.skl_parent_modSklNode (s : State) (n : Nat) (f : SklNode → SklNode) : (s.modSklNode n f).skl.parent = s.skl.parent := rfl
@[simp] theorem State.skl_hops_setSklNode (s : State) (n : Nat) (x : SklNode) : (s.setSklNode n x).skl.hops = s.skl.hops := rfl
@[simp] theorem State.skl_hops_modSklNode (s : State) (n : Nat) (f : SklNode → SklNode) : (s.modSklNode n f).skl.hops = s.skl.hops := rfl
@[simp] theorem State.skl_cost_setSklNode (s : State) (n : Nat) (x : SklNode) : (s.setSklNode n x).skl.cost = s.skl.cost := rfl
@[simp] theorem State.skl_cost_modSklNode (s : State) (n : Nat) (f : SklNode → SklNode) : (s.modSklNode n f).skl.cost = s.skl.cost := rfl
@[simp] theorem State.skl_txq_setSklNode (s : State) (n : Nat) (x : SklNode) : (s.setSklNode n x).skl.txq = s.skl.txq := rfl
@[simp] theorem State.skl_txq_modSklNode (s : State) (n : Nat) (f : SklNode → SklNode) : (s.modSklNode n f).skl.txq = s.skl.txq := rfl
@[simp] theorem State.skl_nextTx_setSklNode (s : State) (n : Nat) (x : SklNode) : (s.setSklNode n x).skl.nextTx = s.skl.nextTx := rfl
@[simp] theorem State.skl_nextTx_modSklNode (s : State) (n : Nat) (f : SklNode → SklNode) : (s.modSklNode n f).skl.nextTx = s.skl.nextTx := rfl
@[simp] theorem State.skl_mseq_setSklNode (s : State) (n : Nat) (x : SklNode) : (s.setSklNode n x).skl.mseq = s.skl.mseq := rfl
@[simp] theorem State.skl_mseq_modSklNode (s : State) (n : Nat) (f : SklNode → SklNode) : (s.modSklNode n f).skl.mseq = s.skl.mseq := rfl
@[simp] theorem State.skl_ctrs_setSklNode (s : State) (n : Nat) (x : SklNode) : (s.setSklNode n x).skl.ctrs = s.skl.ctrs := rfl
@[simp] theorem State.skl_ctrs_modSklNode (s : State) (n : Nat) (f : SklNode → SklNode) : (s.modSklNode n f).skl.ctrs = s.skl.ctrs := rfl
@[simp] theorem State.skl_windows_setSklNode (s : State) (n : Nat) (x : SklNode) : (s.setSklNode n x).skl.windows = s.skl.windows := rfl
@[simp] theorem State.skl_windows_modSklNode (s : State) (n : Nat) (f : SklNode → SklNode) : (s.modSklNode n f).skl.windows = s.skl.windows := rfl
@[simp] theorem State.skl_routes_setSklNode (s : State) (n : Nat) (x : SklNode) : (s.setSklNode n x).skl.routes = s.skl.routes := rfl
@[simp] theorem State.skl_routes_modSklNode (s : State) (n : Nat) (f : SklNode → SklNode) : (s.modSklNode n f).skl.routes = s.skl.routes := rfl
@[simp] theorem State.skl_dups_setSklNode (s : State) (n : Nat) (x : SklNode) : (s.setSklNode n x).skl.dups = s.skl.dups := rfl
@[simp] theorem State.skl_dups_modSklNode (s : State) (n : Nat) (f : SklNode → SklNode) : (s.modSklNode n f).skl.dups = s.skl.dups := rfl
@[simp] theorem State.skl_appq_setSklNode (s : State) (n : Nat) (x : SklNode) : (s.setSklNode n x).skl.appq = s.skl.appq := rfl
@[simp] theorem State.skl_appq_modSklNode (s : State) (n : Nat) (f : SklNode → SklNode) : (s.modSklNode n f).skl.appq = s.skl.appq := rfl
@[simp] theorem State.skl_ackDue_setSklNode (s : State) (n : Nat) (x : SklNode) : (s.setSklNode n x).skl.ackDue = s.skl.ackDue := rfl
@[simp] theorem State.skl_ackDue_modSklNode (s : State) (n : Nat) (f : SklNode → SklNode) : (s.modSklNode n f).skl.ackDue = s.skl.ackDue := rfl
@[simp] theorem State.skl_pauseTo_setSklNode (s : State) (n : Nat) (x : SklNode) : (s.setSklNode n x).skl.pauseTo = s.skl.pauseTo := rfl
@[simp] theorem State.skl_pauseTo_modSklNode (s : State) (n : Nat) (f : SklNode → SklNode) : (s.modSklNode n f).skl.pauseTo = s.skl.pauseTo := rfl
@[simp] theorem State.skl_ackWait_setSklNode (s : State) (n : Nat) (x : SklNode) : (s.setSklNode n x).skl.ackWait = s.skl.ackWait := rfl
@[simp] theorem State.skl_ackWait_modSklNode (s : State) (n : Nat) (f : SklNode → SklNode) : (s.modSklNode n f).skl.ackWait = s.skl.ackWait := rfl
@[simp] theorem State.skl_rxOk_setSklNode (s : State) (n : Nat) (x : SklNode) : (s.setSklNode n x).skl.rxOk = s.skl.rxOk := rfl
@[simp] theorem State.skl_rxOk_modSklNode (s : State) (n : Nat) (f : SklNode → SklNode) : (s.modSklNode n f).skl.rxOk = s.skl.rxOk := rfl
@[simp] theorem State.skl_rxLost_setSklNode (s : State) (n : Nat) (x : SklNode) : (s.setSklNode n x).skl.rxLost = s.skl.rxLost := rfl
@[simp] theorem State.skl_rxLost_modSklNode (s : State) (n : Nat) (f : SklNode → SklNode) : (s.modSklNode n f).skl.rxLost = s.skl.rxLost := rfl
@[simp] theorem State.skl_erasCorr_setSklNode (s : State) (n : Nat) (x : SklNode) : (s.setSklNode n x).skl.erasCorr = s.skl.erasCorr := rfl
@[simp] theorem State.skl_erasCorr_modSklNode (s : State) (n : Nat) (f : SklNode → SklNode) : (s.modSklNode n f).skl.erasCorr = s.skl.erasCorr := rfl
@[simp] theorem State.skl_micFail_setSklNode (s : State) (n : Nat) (x : SklNode) : (s.setSklNode n x).skl.micFail = s.skl.micFail := rfl
@[simp] theorem State.skl_micFail_modSklNode (s : State) (n : Nat) (f : SklNode → SklNode) : (s.modSklNode n f).skl.micFail = s.skl.micFail := rfl
@[simp] theorem State.skl_txFrames_setSklNode (s : State) (n : Nat) (x : SklNode) : (s.setSklNode n x).skl.txFrames = s.skl.txFrames := rfl
@[simp] theorem State.skl_txFrames_modSklNode (s : State) (n : Nat) (f : SklNode → SklNode) : (s.modSklNode n f).skl.txFrames = s.skl.txFrames := rfl
@[simp] theorem State.skl_txFails_setSklNode (s : State) (n : Nat) (x : SklNode) : (s.setSklNode n x).skl.txFails = s.skl.txFails := rfl
@[simp] theorem State.skl_txFails_modSklNode (s : State) (n : Nat) (f : SklNode → SklNode) : (s.modSklNode n f).skl.txFails = s.skl.txFails := rfl
@[simp] theorem State.skl_pointRej_setSklNode (s : State) (n : Nat) (x : SklNode) : (s.setSklNode n x).skl.pointRej = s.skl.pointRej := rfl
@[simp] theorem State.skl_pointRej_modSklNode (s : State) (n : Nat) (f : SklNode → SklNode) : (s.modSklNode n f).skl.pointRej = s.skl.pointRej := rfl
@[simp] theorem State.skl_noise_setSklNode (s : State) (n : Nat) (x : SklNode) : (s.setSklNode n x).skl.noise = s.skl.noise := rfl
@[simp] theorem State.skl_noise_modSklNode (s : State) (n : Nat) (f : SklNode → SklNode) : (s.modSklNode n f).skl.noise = s.skl.noise := rfl
@[simp] theorem State.skl_snr_setSklNode (s : State) (n : Nat) (x : SklNode) : (s.setSklNode n x).skl.snr = s.skl.snr := rfl
@[simp] theorem State.skl_snr_modSklNode (s : State) (n : Nat) (f : SklNode → SklNode) : (s.modSklNode n f).skl.snr = s.skl.snr := rfl

/-! ### `ant` -/

@[simp] theorem State.ant_setAnt (s : State) (n : Nat) (x : Ant) : (s.setAnt n x).ant n = x := tget_tset_self ..
theorem State.ant_setAnt_ne (s : State) (n : Nat) (x : Ant) (m : Nat) (h : m ≠ n) : (s.setAnt n x).ant m = s.ant m := tget_tset_ne _ _ _ h
@[simp] theorem State.ant_modAnt (s : State) (n : Nat) (f : Ant → Ant) : (s.modAnt n f).ant n = f (s.ant n) := tget_tset_self ..
theorem State.ant_modAnt_ne (s : State) (n : Nat) (f : Ant → Ant) (m : Nat) (h : m ≠ n) : (s.modAnt n f).ant m = s.ant m := tget_tset_ne _ _ _ h
@[simp] theorem State.sys_setAnt (s : State) (n : Nat) (x : Ant) : (s.setAnt n x).sys = s.sys := rfl
@[simp] theorem State.sys_modAnt (s : State) (n : Nat) (f : Ant → Ant) : (s.modAnt n f).sys = s.sys := rfl
@[simp] theorem State.permits_setAnt (s : State) (n : Nat) (x : Ant) : (s.setAnt n x).permits = s.permits := rfl
@[simp] theorem State.permits_modAnt (s : State) (n : Nat) (f : Ant → Ant) : (s.modAnt n f).permits = s.permits := rfl
@[simp] theorem State.cfg_setAnt (s : State) (n : Nat) (x : Ant) : (s.setAnt n x).cfg = s.cfg := rfl
@[simp] theorem State.cfg_modAnt (s : State) (n : Nat) (f : Ant → Ant) : (s.modAnt n f).cfg = s.cfg := rfl
@[simp] theorem State.img_setAnt (s : State) (n : Nat) (x : Ant) : (s.setAnt n x).img = s.img := rfl
@[simp] theorem State.img_modAnt (s : State) (n : Nat) (f : Ant → Ant) : (s.modAnt n f).img = s.img := rfl
@[simp] theorem State.net_setAnt (s : State) (n : Nat) (x : Ant) : (s.setAnt n x).net = s.net := rfl
@[simp] theorem State.net_modAnt (s : State) (n : Nat) (f : Ant → Ant) : (s.modAnt n f).net = s.net := rfl
@[simp] theorem State.lnd_setAnt (s : State) (n : Nat) (x : Ant) : (s.setAnt n x).lnd = s.lnd := rfl
@[simp] theorem State.lnd_modAnt (s : State) (n : Nat) (f : Ant → Ant) : (s.modAnt n f).lnd = s.lnd := rfl
@[simp] theorem State.hst_setAnt (s : State) (n : Nat) (x : Ant) : (s.setAnt n x).hst = s.hst := rfl
@[simp] theorem State.hst_modAnt (s : State) (n : Nat) (f : Ant → Ant) : (s.modAnt n f).hst = s.hst := rfl
@[simp] theorem State.vlk_setAnt (s : State) (n : Nat) (x : Ant) : (s.setAnt n x).vlk = s.vlk := rfl
@[simp] theorem State.vlk_modAnt (s : State) (n : Nat) (f : Ant → Ant) : (s.modAnt n f).vlk = s.vlk := rfl
@[simp] theorem State.yrd_setAnt (s : State) (n : Nat) (x : Ant) : (s.setAnt n x).yrd = s.yrd := rfl
@[simp] theorem State.yrd_modAnt (s : State) (n : Nat) (f : Ant → Ant) : (s.modAnt n f).yrd = s.yrd := rfl
@[simp] theorem State.scl_setAnt (s : State) (n : Nat) (x : Ant) : (s.setAnt n x).scl = s.scl := rfl
@[simp] theorem State.scl_modAnt (s : State) (n : Nat) (f : Ant → Ant) : (s.modAnt n f).scl = s.scl := rfl
@[simp] theorem State.tly_setAnt (s : State) (n : Nat) (x : Ant) : (s.setAnt n x).tly = s.tly := rfl
@[simp] theorem State.tly_modAnt (s : State) (n : Nat) (f : Ant → Ant) : (s.modAnt n f).tly = s.tly := rfl
@[simp] theorem State.blz_setAnt (s : State) (n : Nat) (x : Ant) : (s.setAnt n x).blz = s.blz := rfl
@[simp] theorem State.blz_modAnt (s : State) (n : Nat) (f : Ant → Ant) : (s.modAnt n f).blz = s.blz := rfl
@[simp] theorem State.imd_setAnt (s : State) (n : Nat) (x : Ant) : (s.setAnt n x).imd = s.imd := rfl
@[simp] theorem State.imd_modAnt (s : State) (n : Nat) (f : Ant → Ant) : (s.modAnt n f).imd = s.imd := rfl
@[simp] theorem State.saf_setAnt (s : State) (n : Nat) (x : Ant) : (s.setAnt n x).saf = s.saf := rfl
@[simp] theorem State.saf_modAnt (s : State) (n : Nat) (f : Ant → Ant) : (s.modAnt n f).saf = s.saf := rfl
@[simp] theorem State.pvy_setAnt (s : State) (n : Nat) (x : Ant) : (s.setAnt n x).pvy = s.pvy := rfl
@[simp] theorem State.pvy_modAnt (s : State) (n : Nat) (f : Ant → Ant) : (s.modAnt n f).pvy = s.pvy := rfl
@[simp] theorem State.chk_setAnt (s : State) (n : Nat) (x : Ant) : (s.setAnt n x).chk = s.chk := rfl
@[simp] theorem State.chk_modAnt (s : State) (n : Nat) (f : Ant → Ant) : (s.modAnt n f).chk = s.chk := rfl
@[simp] theorem State.skl_setAnt (s : State) (n : Nat) (x : Ant) : (s.setAnt n x).skl = s.skl := rfl
@[simp] theorem State.skl_modAnt (s : State) (n : Nat) (f : Ant → Ant) : (s.modAnt n f).skl = s.skl := rfl
@[simp] theorem State.brd_setAnt (s : State) (n : Nat) (x : Ant) : (s.setAnt n x).brd = s.brd := rfl
@[simp] theorem State.brd_modAnt (s : State) (n : Nat) (f : Ant → Ant) : (s.modAnt n f).brd = s.brd := rfl
@[simp] theorem State.key_setAnt (s : State) (n : Nat) (x : Ant) : (s.setAnt n x).key = s.key := rfl
@[simp] theorem State.key_modAnt (s : State) (n : Nat) (f : Ant → Ant) : (s.modAnt n f).key = s.key := rfl
@[simp] theorem State.tim_setAnt (s : State) (n : Nat) (x : Ant) : (s.setAnt n x).tim = s.tim := rfl
@[simp] theorem State.tim_modAnt (s : State) (n : Nat) (f : Ant → Ant) : (s.modAnt n f).tim = s.tim := rfl
@[simp] theorem State.crs_setAnt (s : State) (n : Nat) (x : Ant) : (s.setAnt n x).crs = s.crs := rfl
@[simp] theorem State.crs_modAnt (s : State) (n : Nat) (f : Ant → Ant) : (s.modAnt n f).crs = s.crs := rfl
@[simp] theorem State.evt_setAnt (s : State) (n : Nat) (x : Ant) : (s.setAnt n x).evt = s.evt := rfl
@[simp] theorem State.evt_modAnt (s : State) (n : Nat) (f : Ant → Ant) : (s.modAnt n f).evt = s.evt := rfl
@[simp] theorem State.elog_setAnt (s : State) (n : Nat) (x : Ant) : (s.setAnt n x).elog = s.elog := rfl
@[simp] theorem State.elog_modAnt (s : State) (n : Nat) (f : Ant → Ant) : (s.modAnt n f).elog = s.elog := rfl
@[simp] theorem State.eseq_setAnt (s : State) (n : Nat) (x : Ant) : (s.setAnt n x).eseq = s.eseq := rfl
@[simp] theorem State.eseq_modAnt (s : State) (n : Nat) (f : Ant → Ant) : (s.modAnt n f).eseq = s.eseq := rfl
@[simp] theorem State.elost_setAnt (s : State) (n : Nat) (x : Ant) : (s.setAnt n x).elost = s.elost := rfl
@[simp] theorem State.elost_modAnt (s : State) (n : Nat) (f : Ant → Ant) : (s.modAnt n f).elost = s.elost := rfl
@[simp] theorem State.eSec_setAnt (s : State) (n : Nat) (x : Ant) : (s.setAnt n x).eSec = s.eSec := rfl
@[simp] theorem State.eSec_modAnt (s : State) (n : Nat) (f : Ant → Ant) : (s.modAnt n f).eSec = s.eSec := rfl
@[simp] theorem State.eCount_setAnt (s : State) (n : Nat) (x : Ant) : (s.setAnt n x).eCount = s.eCount := rfl
@[simp] theorem State.eCount_modAnt (s : State) (n : Nat) (f : Ant → Ant) : (s.modAnt n f).eCount = s.eCount := rfl
@[simp] theorem State.mem_setAnt (s : State) (n : Nat) (x : Ant) : (s.setAnt n x).mem = s.mem := rfl
@[simp] theorem State.mem_modAnt (s : State) (n : Nat) (f : Ant → Ant) : (s.modAnt n f).mem = s.mem := rfl
@[simp] theorem State.sent_setAnt (s : State) (n : Nat) (x : Ant) : (s.setAnt n x).sent = s.sent := rfl
@[simp] theorem State.sent_modAnt (s : State) (n : Nat) (f : Ant → Ant) : (s.modAnt n f).sent = s.sent := rfl
@[simp] theorem State.fresh_setAnt (s : State) (n : Nat) (x : Ant) : (s.setAnt n x).fresh = s.fresh := rfl
@[simp] theorem State.fresh_modAnt (s : State) (n : Nat) (f : Ant → Ant) : (s.modAnt n f).fresh = s.fresh := rfl
@[simp] theorem State.pending_setAnt (s : State) (n : Nat) (x : Ant) : (s.setAnt n x).pending = s.pending := rfl
@[simp] theorem State.pending_modAnt (s : State) (n : Nat) (f : Ant → Ant) : (s.modAnt n f).pending = s.pending := rfl
@[simp] theorem State.nfc_run_setAnt (s : State) (n : Nat) (x : Ant) : (s.setAnt n x).nfc.run = s.nfc.run := rfl
@[simp] theorem State.nfc_run_modAnt (s : State) (n : Nat) (f : Ant → Ant) : (s.modAnt n f).nfc.run = s.nfc.run := rfl
@[simp] theorem State.nfc_fieldOn_setAnt (s : State) (n : Nat) (x : Ant) : (s.setAnt n x).nfc.fieldOn = s.nfc.fieldOn := rfl
@[simp] theorem State.nfc_fieldOn_modAnt (s : State) (n : Nat) (f : Ant → Ant) : (s.modAnt n f).nfc.fieldOn = s.nfc.fieldOn := rfl
@[simp] theorem State.nfc_ant_setAnt (s : State) (n : Nat) (x : Ant) : (s.setAnt n x).nfc.ant = s.nfc.ant := rfl
@[simp] theorem State.nfc_ant_modAnt (s : State) (n : Nat) (f : Ant → Ant) : (s.modAnt n f).nfc.ant = s.nfc.ant := rfl
@[simp] theorem State.nfc_heldCard_setAnt (s : State) (n : Nat) (x : Ant) : (s.setAnt n x).nfc.heldCard = s.nfc.heldCard := rfl
@[simp] theorem State.nfc_heldCard_modAnt (s : State) (n : Nat) (f : Ant → Ant) : (s.modAnt n f).nfc.heldCard = s.nfc.heldCard := rfl
@[simp] theorem State.nfc_wakeAnt_setAnt (s : State) (n : Nat) (x : Ant) : (s.setAnt n x).nfc.wakeAnt = s.nfc.wakeAnt := rfl
@[simp] theorem State.nfc_wakeAnt_modAnt (s : State) (n : Nat) (f : Ant → Ant) : (s.modAnt n f).nfc.wakeAnt = s.nfc.wakeAnt := rfl
@[simp] theorem State.nfc_tag_setAnt (s : State) (n : Nat) (x : Ant) : (s.setAnt n x).nfc.tag = s.nfc.tag := rfl
@[simp] theorem State.nfc_tag_modAnt (s : State) (n : Nat) (f : Ant → Ant) : (s.modAnt n f).nfc.tag = s.nfc.tag := rfl
@[simp] theorem State.nfc_tagField_setAnt (s : State) (n : Nat) (x : Ant) : (s.setAnt n x).nfc.tagField = s.nfc.tagField := rfl
@[simp] theorem State.nfc_tagField_modAnt (s : State) (n : Nat) (f : Ant → Ant) : (s.modAnt n f).nfc.tagField = s.nfc.tagField := rfl
@[simp] theorem State.nfc_mbox_setAnt (s : State) (n : Nat) (x : Ant) : (s.setAnt n x).nfc.mbox = s.nfc.mbox := rfl
@[simp] theorem State.nfc_mbox_modAnt (s : State) (n : Nat) (f : Ant → Ant) : (s.modAnt n f).nfc.mbox = s.nfc.mbox := rfl
@[simp] theorem State.nfc_latchBuf_setAnt (s : State) (n : Nat) (x : Ant) : (s.setAnt n x).nfc.latchBuf = s.nfc.latchBuf := rfl
@[simp] theorem State.nfc_latchBuf_modAnt (s : State) (n : Nat) (f : Ant → Ant) : (s.modAnt n f).nfc.latchBuf = s.nfc.latchBuf := rfl
@[simp] theorem State.nfc_latchHead_setAnt (s : State) (n : Nat) (x : Ant) : (s.setAnt n x).nfc.latchHead = s.nfc.latchHead := rfl
@[simp] theorem State.nfc_latchHead_modAnt (s : State) (n : Nat) (f : Ant → Ant) : (s.modAnt n f).nfc.latchHead = s.nfc.latchHead := rfl
@[simp] theorem State.nfc_selected_setAnt (s : State) (n : Nat) (x : Ant) : (s.setAnt n x).nfc.selected = s.nfc.selected := rfl
@[simp] theorem State.nfc_selected_modAnt (s : State) (n : Nat) (f : Ant → Ant) : (s.modAnt n f).nfc.selected = s.nfc.selected := rfl
@[simp] theorem State.nfc_activeBuf_setAnt (s : State) (n : Nat) (x : Ant) : (s.setAnt n x).nfc.activeBuf = s.nfc.activeBuf := rfl
@[simp] theorem State.nfc_activeBuf_modAnt (s : State) (n : Nat) (f : Ant → Ant) : (s.modAnt n f).nfc.activeBuf = s.nfc.activeBuf := rfl
@[simp] theorem State.nfc_snapSeq_setAnt (s : State) (n : Nat) (x : Ant) : (s.setAnt n x).nfc.snapSeq = s.nfc.snapSeq := rfl
@[simp] theorem State.nfc_snapSeq_modAnt (s : State) (n : Nat) (f : Ant → Ant) : (s.modAnt n f).nfc.snapSeq = s.nfc.snapSeq := rfl
@[simp] theorem State.nfc_exHead_setAnt (s : State) (n : Nat) (x : Ant) : (s.setAnt n x).nfc.exHead = s.nfc.exHead := rfl
@[simp] theorem State.nfc_exHead_modAnt (s : State) (n : Nat) (f : Ant → Ant) : (s.modAnt n f).nfc.exHead = s.nfc.exHead := rfl
@[simp] theorem State.nfc_exLseq_setAnt (s : State) (n : Nat) (x : Ant) : (s.setAnt n x).nfc.exLseq = s.nfc.exLseq := rfl
@[simp] theorem State.nfc_exLseq_modAnt (s : State) (n : Nat) (f : Ant → Ant) : (s.modAnt n f).nfc.exLseq = s.nfc.exLseq := rfl
@[simp] theorem State.nfc_pubDue_setAnt (s : State) (n : Nat) (x : Ant) : (s.setAnt n x).nfc.pubDue = s.nfc.pubDue := rfl
@[simp] theorem State.nfc_pubDue_modAnt (s : State) (n : Nat) (f : Ant → Ant) : (s.modAnt n f).nfc.pubDue = s.nfc.pubDue := rfl
@[simp] theorem State.nfc_exDue_setAnt (s : State) (n : Nat) (x : Ant) : (s.setAnt n x).nfc.exDue = s.nfc.exDue := rfl
@[simp] theorem State.nfc_exDue_modAnt (s : State) (n : Nat) (f : Ant → Ant) : (s.modAnt n f).nfc.exDue = s.nfc.exDue := rfl
@[simp] theorem State.nfc_regsChanged_setAnt (s : State) (n : Nat) (x : Ant) : (s.setAnt n x).nfc.regsChanged = s.nfc.regsChanged := rfl
@[simp] theorem State.nfc_regsChanged_modAnt (s : State) (n : Nat) (f : Ant → Ant) : (s.modAnt n f).nfc.regsChanged = s.nfc.regsChanged := rfl
@[simp] theorem State.nfc_deferrals_setAnt (s : State) (n : Nat) (x : Ant) : (s.setAnt n x).nfc.deferrals = s.nfc.deferrals := rfl
@[simp] theorem State.nfc_deferrals_modAnt (s : State) (n : Nat) (f : Ant → Ant) : (s.modAnt n f).nfc.deferrals = s.nfc.deferrals := rfl
@[simp] theorem State.nfc_held_setAnt (s : State) (n : Nat) (x : Ant) : (s.setAnt n x).nfc.held = s.nfc.held := rfl
@[simp] theorem State.nfc_held_modAnt (s : State) (n : Nat) (f : Ant → Ant) : (s.modAnt n f).nfc.held = s.nfc.held := rfl
@[simp] theorem State.nfc_busy_setAnt (s : State) (n : Nat) (x : Ant) : (s.setAnt n x).nfc.busy = s.nfc.busy := rfl
@[simp] theorem State.nfc_busy_modAnt (s : State) (n : Nat) (f : Ant → Ant) : (s.modAnt n f).nfc.busy = s.nfc.busy := rfl

/-! ### `panel` -/

@[simp] theorem State.panel_setPanel (s : State) (n : Nat) (x : Panel) : (s.setPanel n x).panel n = x := tget_tset_self ..
theorem State.panel_setPanel_ne (s : State) (n : Nat) (x : Panel) (m : Nat) (h : m ≠ n) : (s.setPanel n x).panel m = s.panel m := tget_tset_ne _ _ _ h
@[simp] theorem State.panel_modPanel (s : State) (n : Nat) (f : Panel → Panel) : (s.modPanel n f).panel n = f (s.panel n) := tget_tset_self ..
theorem State.panel_modPanel_ne (s : State) (n : Nat) (f : Panel → Panel) (m : Nat) (h : m ≠ n) : (s.modPanel n f).panel m = s.panel m := tget_tset_ne _ _ _ h
@[simp] theorem State.sys_setPanel (s : State) (n : Nat) (x : Panel) : (s.setPanel n x).sys = s.sys := rfl
@[simp] theorem State.sys_modPanel (s : State) (n : Nat) (f : Panel → Panel) : (s.modPanel n f).sys = s.sys := rfl
@[simp] theorem State.permits_setPanel (s : State) (n : Nat) (x : Panel) : (s.setPanel n x).permits = s.permits := rfl
@[simp] theorem State.permits_modPanel (s : State) (n : Nat) (f : Panel → Panel) : (s.modPanel n f).permits = s.permits := rfl
@[simp] theorem State.cfg_setPanel (s : State) (n : Nat) (x : Panel) : (s.setPanel n x).cfg = s.cfg := rfl
@[simp] theorem State.cfg_modPanel (s : State) (n : Nat) (f : Panel → Panel) : (s.modPanel n f).cfg = s.cfg := rfl
@[simp] theorem State.img_setPanel (s : State) (n : Nat) (x : Panel) : (s.setPanel n x).img = s.img := rfl
@[simp] theorem State.img_modPanel (s : State) (n : Nat) (f : Panel → Panel) : (s.modPanel n f).img = s.img := rfl
@[simp] theorem State.net_setPanel (s : State) (n : Nat) (x : Panel) : (s.setPanel n x).net = s.net := rfl
@[simp] theorem State.net_modPanel (s : State) (n : Nat) (f : Panel → Panel) : (s.modPanel n f).net = s.net := rfl
@[simp] theorem State.lnd_setPanel (s : State) (n : Nat) (x : Panel) : (s.setPanel n x).lnd = s.lnd := rfl
@[simp] theorem State.lnd_modPanel (s : State) (n : Nat) (f : Panel → Panel) : (s.modPanel n f).lnd = s.lnd := rfl
@[simp] theorem State.hst_setPanel (s : State) (n : Nat) (x : Panel) : (s.setPanel n x).hst = s.hst := rfl
@[simp] theorem State.hst_modPanel (s : State) (n : Nat) (f : Panel → Panel) : (s.modPanel n f).hst = s.hst := rfl
@[simp] theorem State.vlk_setPanel (s : State) (n : Nat) (x : Panel) : (s.setPanel n x).vlk = s.vlk := rfl
@[simp] theorem State.vlk_modPanel (s : State) (n : Nat) (f : Panel → Panel) : (s.modPanel n f).vlk = s.vlk := rfl
@[simp] theorem State.yrd_setPanel (s : State) (n : Nat) (x : Panel) : (s.setPanel n x).yrd = s.yrd := rfl
@[simp] theorem State.yrd_modPanel (s : State) (n : Nat) (f : Panel → Panel) : (s.modPanel n f).yrd = s.yrd := rfl
@[simp] theorem State.scl_setPanel (s : State) (n : Nat) (x : Panel) : (s.setPanel n x).scl = s.scl := rfl
@[simp] theorem State.scl_modPanel (s : State) (n : Nat) (f : Panel → Panel) : (s.modPanel n f).scl = s.scl := rfl
@[simp] theorem State.tly_setPanel (s : State) (n : Nat) (x : Panel) : (s.setPanel n x).tly = s.tly := rfl
@[simp] theorem State.tly_modPanel (s : State) (n : Nat) (f : Panel → Panel) : (s.modPanel n f).tly = s.tly := rfl
@[simp] theorem State.blz_setPanel (s : State) (n : Nat) (x : Panel) : (s.setPanel n x).blz = s.blz := rfl
@[simp] theorem State.blz_modPanel (s : State) (n : Nat) (f : Panel → Panel) : (s.modPanel n f).blz = s.blz := rfl
@[simp] theorem State.imd_setPanel (s : State) (n : Nat) (x : Panel) : (s.setPanel n x).imd = s.imd := rfl
@[simp] theorem State.imd_modPanel (s : State) (n : Nat) (f : Panel → Panel) : (s.modPanel n f).imd = s.imd := rfl
@[simp] theorem State.saf_setPanel (s : State) (n : Nat) (x : Panel) : (s.setPanel n x).saf = s.saf := rfl
@[simp] theorem State.saf_modPanel (s : State) (n : Nat) (f : Panel → Panel) : (s.modPanel n f).saf = s.saf := rfl
@[simp] theorem State.pvy_setPanel (s : State) (n : Nat) (x : Panel) : (s.setPanel n x).pvy = s.pvy := rfl
@[simp] theorem State.pvy_modPanel (s : State) (n : Nat) (f : Panel → Panel) : (s.modPanel n f).pvy = s.pvy := rfl
@[simp] theorem State.chk_setPanel (s : State) (n : Nat) (x : Panel) : (s.setPanel n x).chk = s.chk := rfl
@[simp] theorem State.chk_modPanel (s : State) (n : Nat) (f : Panel → Panel) : (s.modPanel n f).chk = s.chk := rfl
@[simp] theorem State.skl_setPanel (s : State) (n : Nat) (x : Panel) : (s.setPanel n x).skl = s.skl := rfl
@[simp] theorem State.skl_modPanel (s : State) (n : Nat) (f : Panel → Panel) : (s.modPanel n f).skl = s.skl := rfl
@[simp] theorem State.nfc_setPanel (s : State) (n : Nat) (x : Panel) : (s.setPanel n x).nfc = s.nfc := rfl
@[simp] theorem State.nfc_modPanel (s : State) (n : Nat) (f : Panel → Panel) : (s.modPanel n f).nfc = s.nfc := rfl
@[simp] theorem State.key_setPanel (s : State) (n : Nat) (x : Panel) : (s.setPanel n x).key = s.key := rfl
@[simp] theorem State.key_modPanel (s : State) (n : Nat) (f : Panel → Panel) : (s.modPanel n f).key = s.key := rfl
@[simp] theorem State.tim_setPanel (s : State) (n : Nat) (x : Panel) : (s.setPanel n x).tim = s.tim := rfl
@[simp] theorem State.tim_modPanel (s : State) (n : Nat) (f : Panel → Panel) : (s.modPanel n f).tim = s.tim := rfl
@[simp] theorem State.crs_setPanel (s : State) (n : Nat) (x : Panel) : (s.setPanel n x).crs = s.crs := rfl
@[simp] theorem State.crs_modPanel (s : State) (n : Nat) (f : Panel → Panel) : (s.modPanel n f).crs = s.crs := rfl
@[simp] theorem State.evt_setPanel (s : State) (n : Nat) (x : Panel) : (s.setPanel n x).evt = s.evt := rfl
@[simp] theorem State.evt_modPanel (s : State) (n : Nat) (f : Panel → Panel) : (s.modPanel n f).evt = s.evt := rfl
@[simp] theorem State.elog_setPanel (s : State) (n : Nat) (x : Panel) : (s.setPanel n x).elog = s.elog := rfl
@[simp] theorem State.elog_modPanel (s : State) (n : Nat) (f : Panel → Panel) : (s.modPanel n f).elog = s.elog := rfl
@[simp] theorem State.eseq_setPanel (s : State) (n : Nat) (x : Panel) : (s.setPanel n x).eseq = s.eseq := rfl
@[simp] theorem State.eseq_modPanel (s : State) (n : Nat) (f : Panel → Panel) : (s.modPanel n f).eseq = s.eseq := rfl
@[simp] theorem State.elost_setPanel (s : State) (n : Nat) (x : Panel) : (s.setPanel n x).elost = s.elost := rfl
@[simp] theorem State.elost_modPanel (s : State) (n : Nat) (f : Panel → Panel) : (s.modPanel n f).elost = s.elost := rfl
@[simp] theorem State.eSec_setPanel (s : State) (n : Nat) (x : Panel) : (s.setPanel n x).eSec = s.eSec := rfl
@[simp] theorem State.eSec_modPanel (s : State) (n : Nat) (f : Panel → Panel) : (s.modPanel n f).eSec = s.eSec := rfl
@[simp] theorem State.eCount_setPanel (s : State) (n : Nat) (x : Panel) : (s.setPanel n x).eCount = s.eCount := rfl
@[simp] theorem State.eCount_modPanel (s : State) (n : Nat) (f : Panel → Panel) : (s.modPanel n f).eCount = s.eCount := rfl
@[simp] theorem State.mem_setPanel (s : State) (n : Nat) (x : Panel) : (s.setPanel n x).mem = s.mem := rfl
@[simp] theorem State.mem_modPanel (s : State) (n : Nat) (f : Panel → Panel) : (s.modPanel n f).mem = s.mem := rfl
@[simp] theorem State.sent_setPanel (s : State) (n : Nat) (x : Panel) : (s.setPanel n x).sent = s.sent := rfl
@[simp] theorem State.sent_modPanel (s : State) (n : Nat) (f : Panel → Panel) : (s.modPanel n f).sent = s.sent := rfl
@[simp] theorem State.fresh_setPanel (s : State) (n : Nat) (x : Panel) : (s.setPanel n x).fresh = s.fresh := rfl
@[simp] theorem State.fresh_modPanel (s : State) (n : Nat) (f : Panel → Panel) : (s.modPanel n f).fresh = s.fresh := rfl
@[simp] theorem State.pending_setPanel (s : State) (n : Nat) (x : Panel) : (s.setPanel n x).pending = s.pending := rfl
@[simp] theorem State.pending_modPanel (s : State) (n : Nat) (f : Panel → Panel) : (s.modPanel n f).pending = s.pending := rfl
@[simp] theorem State.brd_rail_setPanel (s : State) (n : Nat) (x : Panel) : (s.setPanel n x).brd.rail = s.brd.rail := rfl
@[simp] theorem State.brd_rail_modPanel (s : State) (n : Nat) (f : Panel → Panel) : (s.modPanel n f).brd.rail = s.brd.rail := rfl
@[simp] theorem State.brd_railPermit_setPanel (s : State) (n : Nat) (x : Panel) : (s.setPanel n x).brd.railPermit = s.brd.railPermit := rfl
@[simp] theorem State.brd_railPermit_modPanel (s : State) (n : Nat) (f : Panel → Panel) : (s.modPanel n f).brd.railPermit = s.brd.railPermit := rfl
@[simp] theorem State.brd_askLater_setPanel (s : State) (n : Nat) (x : Panel) : (s.setPanel n x).brd.askLater = s.brd.askLater := rfl
@[simp] theorem State.brd_askLater_modPanel (s : State) (n : Nat) (f : Panel → Panel) : (s.modPanel n f).brd.askLater = s.brd.askLater := rfl
@[simp] theorem State.brd_railHold_setPanel (s : State) (n : Nat) (x : Panel) : (s.setPanel n x).brd.railHold = s.brd.railHold := rfl
@[simp] theorem State.brd_railHold_modPanel (s : State) (n : Nat) (f : Panel → Panel) : (s.modPanel n f).brd.railHold = s.brd.railHold := rfl
@[simp] theorem State.brd_nextNo_setPanel (s : State) (n : Nat) (x : Panel) : (s.setPanel n x).brd.nextNo = s.brd.nextNo := rfl
@[simp] theorem State.brd_nextNo_modPanel (s : State) (n : Nat) (f : Panel → Panel) : (s.modPanel n f).brd.nextNo = s.brd.nextNo := rfl

/-! ### `slot` -/

@[simp] theorem State.slot_setSlot (s : State) (n : Nat) (x : KeySlot) : (s.setSlot n x).slot n = x := tget_tset_self ..
theorem State.slot_setSlot_ne (s : State) (n : Nat) (x : KeySlot) (m : Nat) (h : m ≠ n) : (s.setSlot n x).slot m = s.slot m := tget_tset_ne _ _ _ h
@[simp] theorem State.slot_modSlot (s : State) (n : Nat) (f : KeySlot → KeySlot) : (s.modSlot n f).slot n = f (s.slot n) := tget_tset_self ..
theorem State.slot_modSlot_ne (s : State) (n : Nat) (f : KeySlot → KeySlot) (m : Nat) (h : m ≠ n) : (s.modSlot n f).slot m = s.slot m := tget_tset_ne _ _ _ h
@[simp] theorem State.sys_setSlot (s : State) (n : Nat) (x : KeySlot) : (s.setSlot n x).sys = s.sys := rfl
@[simp] theorem State.sys_modSlot (s : State) (n : Nat) (f : KeySlot → KeySlot) : (s.modSlot n f).sys = s.sys := rfl
@[simp] theorem State.permits_setSlot (s : State) (n : Nat) (x : KeySlot) : (s.setSlot n x).permits = s.permits := rfl
@[simp] theorem State.permits_modSlot (s : State) (n : Nat) (f : KeySlot → KeySlot) : (s.modSlot n f).permits = s.permits := rfl
@[simp] theorem State.cfg_setSlot (s : State) (n : Nat) (x : KeySlot) : (s.setSlot n x).cfg = s.cfg := rfl
@[simp] theorem State.cfg_modSlot (s : State) (n : Nat) (f : KeySlot → KeySlot) : (s.modSlot n f).cfg = s.cfg := rfl
@[simp] theorem State.img_setSlot (s : State) (n : Nat) (x : KeySlot) : (s.setSlot n x).img = s.img := rfl
@[simp] theorem State.img_modSlot (s : State) (n : Nat) (f : KeySlot → KeySlot) : (s.modSlot n f).img = s.img := rfl
@[simp] theorem State.net_setSlot (s : State) (n : Nat) (x : KeySlot) : (s.setSlot n x).net = s.net := rfl
@[simp] theorem State.net_modSlot (s : State) (n : Nat) (f : KeySlot → KeySlot) : (s.modSlot n f).net = s.net := rfl
@[simp] theorem State.lnd_setSlot (s : State) (n : Nat) (x : KeySlot) : (s.setSlot n x).lnd = s.lnd := rfl
@[simp] theorem State.lnd_modSlot (s : State) (n : Nat) (f : KeySlot → KeySlot) : (s.modSlot n f).lnd = s.lnd := rfl
@[simp] theorem State.hst_setSlot (s : State) (n : Nat) (x : KeySlot) : (s.setSlot n x).hst = s.hst := rfl
@[simp] theorem State.hst_modSlot (s : State) (n : Nat) (f : KeySlot → KeySlot) : (s.modSlot n f).hst = s.hst := rfl
@[simp] theorem State.vlk_setSlot (s : State) (n : Nat) (x : KeySlot) : (s.setSlot n x).vlk = s.vlk := rfl
@[simp] theorem State.vlk_modSlot (s : State) (n : Nat) (f : KeySlot → KeySlot) : (s.modSlot n f).vlk = s.vlk := rfl
@[simp] theorem State.yrd_setSlot (s : State) (n : Nat) (x : KeySlot) : (s.setSlot n x).yrd = s.yrd := rfl
@[simp] theorem State.yrd_modSlot (s : State) (n : Nat) (f : KeySlot → KeySlot) : (s.modSlot n f).yrd = s.yrd := rfl
@[simp] theorem State.scl_setSlot (s : State) (n : Nat) (x : KeySlot) : (s.setSlot n x).scl = s.scl := rfl
@[simp] theorem State.scl_modSlot (s : State) (n : Nat) (f : KeySlot → KeySlot) : (s.modSlot n f).scl = s.scl := rfl
@[simp] theorem State.tly_setSlot (s : State) (n : Nat) (x : KeySlot) : (s.setSlot n x).tly = s.tly := rfl
@[simp] theorem State.tly_modSlot (s : State) (n : Nat) (f : KeySlot → KeySlot) : (s.modSlot n f).tly = s.tly := rfl
@[simp] theorem State.blz_setSlot (s : State) (n : Nat) (x : KeySlot) : (s.setSlot n x).blz = s.blz := rfl
@[simp] theorem State.blz_modSlot (s : State) (n : Nat) (f : KeySlot → KeySlot) : (s.modSlot n f).blz = s.blz := rfl
@[simp] theorem State.imd_setSlot (s : State) (n : Nat) (x : KeySlot) : (s.setSlot n x).imd = s.imd := rfl
@[simp] theorem State.imd_modSlot (s : State) (n : Nat) (f : KeySlot → KeySlot) : (s.modSlot n f).imd = s.imd := rfl
@[simp] theorem State.saf_setSlot (s : State) (n : Nat) (x : KeySlot) : (s.setSlot n x).saf = s.saf := rfl
@[simp] theorem State.saf_modSlot (s : State) (n : Nat) (f : KeySlot → KeySlot) : (s.modSlot n f).saf = s.saf := rfl
@[simp] theorem State.pvy_setSlot (s : State) (n : Nat) (x : KeySlot) : (s.setSlot n x).pvy = s.pvy := rfl
@[simp] theorem State.pvy_modSlot (s : State) (n : Nat) (f : KeySlot → KeySlot) : (s.modSlot n f).pvy = s.pvy := rfl
@[simp] theorem State.chk_setSlot (s : State) (n : Nat) (x : KeySlot) : (s.setSlot n x).chk = s.chk := rfl
@[simp] theorem State.chk_modSlot (s : State) (n : Nat) (f : KeySlot → KeySlot) : (s.modSlot n f).chk = s.chk := rfl
@[simp] theorem State.skl_setSlot (s : State) (n : Nat) (x : KeySlot) : (s.setSlot n x).skl = s.skl := rfl
@[simp] theorem State.skl_modSlot (s : State) (n : Nat) (f : KeySlot → KeySlot) : (s.modSlot n f).skl = s.skl := rfl
@[simp] theorem State.nfc_setSlot (s : State) (n : Nat) (x : KeySlot) : (s.setSlot n x).nfc = s.nfc := rfl
@[simp] theorem State.nfc_modSlot (s : State) (n : Nat) (f : KeySlot → KeySlot) : (s.modSlot n f).nfc = s.nfc := rfl
@[simp] theorem State.brd_setSlot (s : State) (n : Nat) (x : KeySlot) : (s.setSlot n x).brd = s.brd := rfl
@[simp] theorem State.brd_modSlot (s : State) (n : Nat) (f : KeySlot → KeySlot) : (s.modSlot n f).brd = s.brd := rfl
@[simp] theorem State.tim_setSlot (s : State) (n : Nat) (x : KeySlot) : (s.setSlot n x).tim = s.tim := rfl
@[simp] theorem State.tim_modSlot (s : State) (n : Nat) (f : KeySlot → KeySlot) : (s.modSlot n f).tim = s.tim := rfl
@[simp] theorem State.crs_setSlot (s : State) (n : Nat) (x : KeySlot) : (s.setSlot n x).crs = s.crs := rfl
@[simp] theorem State.crs_modSlot (s : State) (n : Nat) (f : KeySlot → KeySlot) : (s.modSlot n f).crs = s.crs := rfl
@[simp] theorem State.evt_setSlot (s : State) (n : Nat) (x : KeySlot) : (s.setSlot n x).evt = s.evt := rfl
@[simp] theorem State.evt_modSlot (s : State) (n : Nat) (f : KeySlot → KeySlot) : (s.modSlot n f).evt = s.evt := rfl
@[simp] theorem State.elog_setSlot (s : State) (n : Nat) (x : KeySlot) : (s.setSlot n x).elog = s.elog := rfl
@[simp] theorem State.elog_modSlot (s : State) (n : Nat) (f : KeySlot → KeySlot) : (s.modSlot n f).elog = s.elog := rfl
@[simp] theorem State.eseq_setSlot (s : State) (n : Nat) (x : KeySlot) : (s.setSlot n x).eseq = s.eseq := rfl
@[simp] theorem State.eseq_modSlot (s : State) (n : Nat) (f : KeySlot → KeySlot) : (s.modSlot n f).eseq = s.eseq := rfl
@[simp] theorem State.elost_setSlot (s : State) (n : Nat) (x : KeySlot) : (s.setSlot n x).elost = s.elost := rfl
@[simp] theorem State.elost_modSlot (s : State) (n : Nat) (f : KeySlot → KeySlot) : (s.modSlot n f).elost = s.elost := rfl
@[simp] theorem State.eSec_setSlot (s : State) (n : Nat) (x : KeySlot) : (s.setSlot n x).eSec = s.eSec := rfl
@[simp] theorem State.eSec_modSlot (s : State) (n : Nat) (f : KeySlot → KeySlot) : (s.modSlot n f).eSec = s.eSec := rfl
@[simp] theorem State.eCount_setSlot (s : State) (n : Nat) (x : KeySlot) : (s.setSlot n x).eCount = s.eCount := rfl
@[simp] theorem State.eCount_modSlot (s : State) (n : Nat) (f : KeySlot → KeySlot) : (s.modSlot n f).eCount = s.eCount := rfl
@[simp] theorem State.mem_setSlot (s : State) (n : Nat) (x : KeySlot) : (s.setSlot n x).mem = s.mem := rfl
@[simp] theorem State.mem_modSlot (s : State) (n : Nat) (f : KeySlot → KeySlot) : (s.modSlot n f).mem = s.mem := rfl
@[simp] theorem State.sent_setSlot (s : State) (n : Nat) (x : KeySlot) : (s.setSlot n x).sent = s.sent := rfl
@[simp] theorem State.sent_modSlot (s : State) (n : Nat) (f : KeySlot → KeySlot) : (s.modSlot n f).sent = s.sent := rfl
@[simp] theorem State.fresh_setSlot (s : State) (n : Nat) (x : KeySlot) : (s.setSlot n x).fresh = s.fresh := rfl
@[simp] theorem State.fresh_modSlot (s : State) (n : Nat) (f : KeySlot → KeySlot) : (s.modSlot n f).fresh = s.fresh := rfl
@[simp] theorem State.pending_setSlot (s : State) (n : Nat) (x : KeySlot) : (s.setSlot n x).pending = s.pending := rfl
@[simp] theorem State.pending_modSlot (s : State) (n : Nat) (f : KeySlot → KeySlot) : (s.modSlot n f).pending = s.pending := rfl
@[simp] theorem State.key_lc_setSlot (s : State) (n : Nat) (x : KeySlot) : (s.setSlot n x).key.lc = s.key.lc := rfl
@[simp] theorem State.key_lc_modSlot (s : State) (n : Nat) (f : KeySlot → KeySlot) : (s.modSlot n f).key.lc = s.key.lc := rfl
@[simp] theorem State.key_pendDestr_setSlot (s : State) (n : Nat) (x : KeySlot) : (s.setSlot n x).key.pendDestr = s.key.pendDestr := rfl
@[simp] theorem State.key_pendDestr_modSlot (s : State) (n : Nat) (f : KeySlot → KeySlot) : (s.modSlot n f).key.pendDestr = s.key.pendDestr := rfl
@[simp] theorem State.key_devId_setSlot (s : State) (n : Nat) (x : KeySlot) : (s.setSlot n x).key.devId = s.key.devId := rfl
@[simp] theorem State.key_devId_modSlot (s : State) (n : Nat) (f : KeySlot → KeySlot) : (s.modSlot n f).key.devId = s.key.devId := rfl
@[simp] theorem State.key_authKeys_setSlot (s : State) (n : Nat) (x : KeySlot) : (s.setSlot n x).key.authKeys = s.key.authKeys := rfl
@[simp] theorem State.key_authKeys_modSlot (s : State) (n : Nat) (f : KeySlot → KeySlot) : (s.modSlot n f).key.authKeys = s.key.authKeys := rfl
@[simp] theorem State.key_authCtrs_setSlot (s : State) (n : Nat) (x : KeySlot) : (s.setSlot n x).key.authCtrs = s.key.authCtrs := rfl
@[simp] theorem State.key_authCtrs_modSlot (s : State) (n : Nat) (f : KeySlot → KeySlot) : (s.modSlot n f).key.authCtrs = s.key.authCtrs := rfl
@[simp] theorem State.key_imgKeys_setSlot (s : State) (n : Nat) (x : KeySlot) : (s.setSlot n x).key.imgKeys = s.key.imgKeys := rfl
@[simp] theorem State.key_imgKeys_modSlot (s : State) (n : Nat) (f : KeySlot → KeySlot) : (s.modSlot n f).key.imgKeys = s.key.imgKeys := rfl
@[simp] theorem State.key_imgRevoked_setSlot (s : State) (n : Nat) (x : KeySlot) : (s.setSlot n x).key.imgRevoked = s.key.imgRevoked := rfl
@[simp] theorem State.key_imgRevoked_modSlot (s : State) (n : Nat) (f : KeySlot → KeySlot) : (s.modSlot n f).key.imgRevoked = s.key.imgRevoked := rfl
@[simp] theorem State.key_chains_setSlot (s : State) (n : Nat) (x : KeySlot) : (s.setSlot n x).key.chains = s.key.chains := rfl
@[simp] theorem State.key_chains_modSlot (s : State) (n : Nat) (f : KeySlot → KeySlot) : (s.modSlot n f).key.chains = s.key.chains := rfl
@[simp] theorem State.key_helperA_setSlot (s : State) (n : Nat) (x : KeySlot) : (s.setSlot n x).key.helperA = s.key.helperA := rfl
@[simp] theorem State.key_helperA_modSlot (s : State) (n : Nat) (f : KeySlot → KeySlot) : (s.modSlot n f).key.helperA = s.key.helperA := rfl
@[simp] theorem State.key_helperB_setSlot (s : State) (n : Nat) (x : KeySlot) : (s.setSlot n x).key.helperB = s.key.helperB := rfl
@[simp] theorem State.key_helperB_modSlot (s : State) (n : Nat) (f : KeySlot → KeySlot) : (s.modSlot n f).key.helperB = s.key.helperB := rfl
@[simp] theorem State.key_dbgAc_setSlot (s : State) (n : Nat) (x : KeySlot) : (s.setSlot n x).key.dbgAc = s.key.dbgAc := rfl
@[simp] theorem State.key_dbgAc_modSlot (s : State) (n : Nat) (f : KeySlot → KeySlot) : (s.modSlot n f).key.dbgAc = s.key.dbgAc := rfl
@[simp] theorem State.key_pufOk_setSlot (s : State) (n : Nat) (x : KeySlot) : (s.setSlot n x).key.pufOk = s.key.pufOk := rfl
@[simp] theorem State.key_pufOk_modSlot (s : State) (n : Nat) (f : KeySlot → KeySlot) : (s.modSlot n f).key.pufOk = s.key.pufOk := rfl

/-! ### `bank` -/

@[simp] theorem State.bank_setBank (s : State) (n : Nat) (x : Bank) : (s.setBank n x).bank n = x := tget_tset_self ..
theorem State.bank_setBank_ne (s : State) (n : Nat) (x : Bank) (m : Nat) (h : m ≠ n) : (s.setBank n x).bank m = s.bank m := tget_tset_ne _ _ _ h
@[simp] theorem State.bank_modBank (s : State) (n : Nat) (f : Bank → Bank) : (s.modBank n f).bank n = f (s.bank n) := tget_tset_self ..
theorem State.bank_modBank_ne (s : State) (n : Nat) (f : Bank → Bank) (m : Nat) (h : m ≠ n) : (s.modBank n f).bank m = s.bank m := tget_tset_ne _ _ _ h
@[simp] theorem State.sys_setBank (s : State) (n : Nat) (x : Bank) : (s.setBank n x).sys = s.sys := rfl
@[simp] theorem State.sys_modBank (s : State) (n : Nat) (f : Bank → Bank) : (s.modBank n f).sys = s.sys := rfl
@[simp] theorem State.permits_setBank (s : State) (n : Nat) (x : Bank) : (s.setBank n x).permits = s.permits := rfl
@[simp] theorem State.permits_modBank (s : State) (n : Nat) (f : Bank → Bank) : (s.modBank n f).permits = s.permits := rfl
@[simp] theorem State.img_setBank (s : State) (n : Nat) (x : Bank) : (s.setBank n x).img = s.img := rfl
@[simp] theorem State.img_modBank (s : State) (n : Nat) (f : Bank → Bank) : (s.modBank n f).img = s.img := rfl
@[simp] theorem State.net_setBank (s : State) (n : Nat) (x : Bank) : (s.setBank n x).net = s.net := rfl
@[simp] theorem State.net_modBank (s : State) (n : Nat) (f : Bank → Bank) : (s.modBank n f).net = s.net := rfl
@[simp] theorem State.lnd_setBank (s : State) (n : Nat) (x : Bank) : (s.setBank n x).lnd = s.lnd := rfl
@[simp] theorem State.lnd_modBank (s : State) (n : Nat) (f : Bank → Bank) : (s.modBank n f).lnd = s.lnd := rfl
@[simp] theorem State.hst_setBank (s : State) (n : Nat) (x : Bank) : (s.setBank n x).hst = s.hst := rfl
@[simp] theorem State.hst_modBank (s : State) (n : Nat) (f : Bank → Bank) : (s.modBank n f).hst = s.hst := rfl
@[simp] theorem State.vlk_setBank (s : State) (n : Nat) (x : Bank) : (s.setBank n x).vlk = s.vlk := rfl
@[simp] theorem State.vlk_modBank (s : State) (n : Nat) (f : Bank → Bank) : (s.modBank n f).vlk = s.vlk := rfl
@[simp] theorem State.yrd_setBank (s : State) (n : Nat) (x : Bank) : (s.setBank n x).yrd = s.yrd := rfl
@[simp] theorem State.yrd_modBank (s : State) (n : Nat) (f : Bank → Bank) : (s.modBank n f).yrd = s.yrd := rfl
@[simp] theorem State.scl_setBank (s : State) (n : Nat) (x : Bank) : (s.setBank n x).scl = s.scl := rfl
@[simp] theorem State.scl_modBank (s : State) (n : Nat) (f : Bank → Bank) : (s.modBank n f).scl = s.scl := rfl
@[simp] theorem State.tly_setBank (s : State) (n : Nat) (x : Bank) : (s.setBank n x).tly = s.tly := rfl
@[simp] theorem State.tly_modBank (s : State) (n : Nat) (f : Bank → Bank) : (s.modBank n f).tly = s.tly := rfl
@[simp] theorem State.blz_setBank (s : State) (n : Nat) (x : Bank) : (s.setBank n x).blz = s.blz := rfl
@[simp] theorem State.blz_modBank (s : State) (n : Nat) (f : Bank → Bank) : (s.modBank n f).blz = s.blz := rfl
@[simp] theorem State.imd_setBank (s : State) (n : Nat) (x : Bank) : (s.setBank n x).imd = s.imd := rfl
@[simp] theorem State.imd_modBank (s : State) (n : Nat) (f : Bank → Bank) : (s.modBank n f).imd = s.imd := rfl
@[simp] theorem State.saf_setBank (s : State) (n : Nat) (x : Bank) : (s.setBank n x).saf = s.saf := rfl
@[simp] theorem State.saf_modBank (s : State) (n : Nat) (f : Bank → Bank) : (s.modBank n f).saf = s.saf := rfl
@[simp] theorem State.pvy_setBank (s : State) (n : Nat) (x : Bank) : (s.setBank n x).pvy = s.pvy := rfl
@[simp] theorem State.pvy_modBank (s : State) (n : Nat) (f : Bank → Bank) : (s.modBank n f).pvy = s.pvy := rfl
@[simp] theorem State.chk_setBank (s : State) (n : Nat) (x : Bank) : (s.setBank n x).chk = s.chk := rfl
@[simp] theorem State.chk_modBank (s : State) (n : Nat) (f : Bank → Bank) : (s.modBank n f).chk = s.chk := rfl
@[simp] theorem State.skl_setBank (s : State) (n : Nat) (x : Bank) : (s.setBank n x).skl = s.skl := rfl
@[simp] theorem State.skl_modBank (s : State) (n : Nat) (f : Bank → Bank) : (s.modBank n f).skl = s.skl := rfl
@[simp] theorem State.nfc_setBank (s : State) (n : Nat) (x : Bank) : (s.setBank n x).nfc = s.nfc := rfl
@[simp] theorem State.nfc_modBank (s : State) (n : Nat) (f : Bank → Bank) : (s.modBank n f).nfc = s.nfc := rfl
@[simp] theorem State.brd_setBank (s : State) (n : Nat) (x : Bank) : (s.setBank n x).brd = s.brd := rfl
@[simp] theorem State.brd_modBank (s : State) (n : Nat) (f : Bank → Bank) : (s.modBank n f).brd = s.brd := rfl
@[simp] theorem State.key_setBank (s : State) (n : Nat) (x : Bank) : (s.setBank n x).key = s.key := rfl
@[simp] theorem State.key_modBank (s : State) (n : Nat) (f : Bank → Bank) : (s.modBank n f).key = s.key := rfl
@[simp] theorem State.tim_setBank (s : State) (n : Nat) (x : Bank) : (s.setBank n x).tim = s.tim := rfl
@[simp] theorem State.tim_modBank (s : State) (n : Nat) (f : Bank → Bank) : (s.modBank n f).tim = s.tim := rfl
@[simp] theorem State.crs_setBank (s : State) (n : Nat) (x : Bank) : (s.setBank n x).crs = s.crs := rfl
@[simp] theorem State.crs_modBank (s : State) (n : Nat) (f : Bank → Bank) : (s.modBank n f).crs = s.crs := rfl
@[simp] theorem State.evt_setBank (s : State) (n : Nat) (x : Bank) : (s.setBank n x).evt = s.evt := rfl
@[simp] theorem State.evt_modBank (s : State) (n : Nat) (f : Bank → Bank) : (s.modBank n f).evt = s.evt := rfl
@[simp] theorem State.elog_setBank (s : State) (n : Nat) (x : Bank) : (s.setBank n x).elog = s.elog := rfl
@[simp] theorem State.elog_modBank (s : State) (n : Nat) (f : Bank → Bank) : (s.modBank n f).elog = s.elog := rfl
@[simp] theorem State.eseq_setBank (s : State) (n : Nat) (x : Bank) : (s.setBank n x).eseq = s.eseq := rfl
@[simp] theorem State.eseq_modBank (s : State) (n : Nat) (f : Bank → Bank) : (s.modBank n f).eseq = s.eseq := rfl
@[simp] theorem State.elost_setBank (s : State) (n : Nat) (x : Bank) : (s.setBank n x).elost = s.elost := rfl
@[simp] theorem State.elost_modBank (s : State) (n : Nat) (f : Bank → Bank) : (s.modBank n f).elost = s.elost := rfl
@[simp] theorem State.eSec_setBank (s : State) (n : Nat) (x : Bank) : (s.setBank n x).eSec = s.eSec := rfl
@[simp] theorem State.eSec_modBank (s : State) (n : Nat) (f : Bank → Bank) : (s.modBank n f).eSec = s.eSec := rfl
@[simp] theorem State.eCount_setBank (s : State) (n : Nat) (x : Bank) : (s.setBank n x).eCount = s.eCount := rfl
@[simp] theorem State.eCount_modBank (s : State) (n : Nat) (f : Bank → Bank) : (s.modBank n f).eCount = s.eCount := rfl
@[simp] theorem State.mem_setBank (s : State) (n : Nat) (x : Bank) : (s.setBank n x).mem = s.mem := rfl
@[simp] theorem State.mem_modBank (s : State) (n : Nat) (f : Bank → Bank) : (s.modBank n f).mem = s.mem := rfl
@[simp] theorem State.sent_setBank (s : State) (n : Nat) (x : Bank) : (s.setBank n x).sent = s.sent := rfl
@[simp] theorem State.sent_modBank (s : State) (n : Nat) (f : Bank → Bank) : (s.modBank n f).sent = s.sent := rfl
@[simp] theorem State.fresh_setBank (s : State) (n : Nat) (x : Bank) : (s.setBank n x).fresh = s.fresh := rfl
@[simp] theorem State.fresh_modBank (s : State) (n : Nat) (f : Bank → Bank) : (s.modBank n f).fresh = s.fresh := rfl
@[simp] theorem State.pending_setBank (s : State) (n : Nat) (x : Bank) : (s.setBank n x).pending = s.pending := rfl
@[simp] theorem State.pending_modBank (s : State) (n : Nat) (f : Bank → Bank) : (s.modBank n f).pending = s.pending := rfl
@[simp] theorem State.cfg_prefBank_setBank (s : State) (n : Nat) (x : Bank) : (s.setBank n x).cfg.prefBank = s.cfg.prefBank := rfl
@[simp] theorem State.cfg_prefBank_modBank (s : State) (n : Nat) (f : Bank → Bank) : (s.modBank n f).cfg.prefBank = s.cfg.prefBank := rfl
@[simp] theorem State.cfg_trial_setBank (s : State) (n : Nat) (x : Bank) : (s.setBank n x).cfg.trial = s.cfg.trial := rfl
@[simp] theorem State.cfg_trial_modBank (s : State) (n : Nat) (f : Bank → Bank) : (s.modBank n f).cfg.trial = s.cfg.trial := rfl
@[simp] theorem State.cfg_triesLeft_setBank (s : State) (n : Nat) (x : Bank) : (s.setBank n x).cfg.triesLeft = s.cfg.triesLeft := rfl
@[simp] theorem State.cfg_triesLeft_modBank (s : State) (n : Nat) (f : Bank → Bank) : (s.modBank n f).cfg.triesLeft = s.cfg.triesLeft := rfl
@[simp] theorem State.cfg_arbMin_setBank (s : State) (n : Nat) (x : Bank) : (s.setBank n x).cfg.arbMin = s.cfg.arbMin := rfl
@[simp] theorem State.cfg_arbMin_modBank (s : State) (n : Nat) (f : Bank → Bank) : (s.modBank n f).cfg.arbMin = s.cfg.arbMin := rfl
@[simp] theorem State.cfg_verifiedMetro_setBank (s : State) (n : Nat) (x : Bank) : (s.setBank n x).cfg.verifiedMetro = s.cfg.verifiedMetro := rfl
@[simp] theorem State.cfg_verifiedMetro_modBank (s : State) (n : Nat) (f : Bank → Bank) : (s.modBank n f).cfg.verifiedMetro = s.cfg.verifiedMetro := rfl
@[simp] theorem State.cfg_lastReverify_setBank (s : State) (n : Nat) (x : Bank) : (s.setBank n x).cfg.lastReverify = s.cfg.lastReverify := rfl
@[simp] theorem State.cfg_lastReverify_modBank (s : State) (n : Nat) (f : Bank → Bank) : (s.modBank n f).cfg.lastReverify = s.cfg.lastReverify := rfl
@[simp] theorem State.cfg_storedVer_setBank (s : State) (n : Nat) (x : Bank) : (s.setBank n x).cfg.storedVer = s.cfg.storedVer := rfl
@[simp] theorem State.cfg_storedVer_modBank (s : State) (n : Nat) (f : Bank → Bank) : (s.modBank n f).cfg.storedVer = s.cfg.storedVer := rfl
@[simp] theorem State.cfg_swDone_setBank (s : State) (n : Nat) (x : Bank) : (s.setBank n x).cfg.swDone = s.cfg.swDone := rfl
@[simp] theorem State.cfg_swDone_modBank (s : State) (n : Nat) (f : Bank → Bank) : (s.modBank n f).cfg.swDone = s.cfg.swDone := rfl
@[simp] theorem State.cfg_migMark_setBank (s : State) (n : Nat) (x : Bank) : (s.setBank n x).cfg.migMark = s.cfg.migMark := rfl
@[simp] theorem State.cfg_migMark_modBank (s : State) (n : Nat) (f : Bank → Bank) : (s.modBank n f).cfg.migMark = s.cfg.migMark := rfl
@[simp] theorem State.cfg_bulk_setBank (s : State) (n : Nat) (x : Bank) : (s.setBank n x).cfg.bulk = s.cfg.bulk := rfl
@[simp] theorem State.cfg_bulk_modBank (s : State) (n : Nat) (f : Bank → Bank) : (s.modBank n f).cfg.bulk = s.cfg.bulk := rfl
@[simp] theorem State.cfg_safetyDigest_setBank (s : State) (n : Nat) (x : Bank) : (s.setBank n x).cfg.safetyDigest = s.cfg.safetyDigest := rfl
@[simp] theorem State.cfg_safetyDigest_modBank (s : State) (n : Nat) (f : Bank → Bank) : (s.modBank n f).cfg.safetyDigest = s.cfg.safetyDigest := rfl
@[simp] theorem State.cfg_runBank_setBank (s : State) (n : Nat) (x : Bank) : (s.setBank n x).cfg.runBank = s.cfg.runBank := rfl
@[simp] theorem State.cfg_runBank_modBank (s : State) (n : Nat) (f : Bank → Bank) : (s.modBank n f).cfg.runBank = s.cfg.runBank := rfl
@[simp] theorem State.cfg_fromPcie_setBank (s : State) (n : Nat) (x : Bank) : (s.setBank n x).cfg.fromPcie = s.cfg.fromPcie := rfl
@[simp] theorem State.cfg_fromPcie_modBank (s : State) (n : Nat) (f : Bank → Bank) : (s.modBank n f).cfg.fromPcie = s.cfg.fromPcie := rfl
@[simp] theorem State.cfg_runTrial_setBank (s : State) (n : Nat) (x : Bank) : (s.setBank n x).cfg.runTrial = s.cfg.runTrial := rfl
@[simp] theorem State.cfg_runTrial_modBank (s : State) (n : Nat) (f : Bank → Bank) : (s.modBank n f).cfg.runTrial = s.cfg.runTrial := rfl
@[simp] theorem State.cfg_fallback_setBank (s : State) (n : Nat) (x : Bank) : (s.setBank n x).cfg.fallback = s.cfg.fallback := rfl
@[simp] theorem State.cfg_fallback_modBank (s : State) (n : Nat) (f : Bank → Bank) : (s.modBank n f).cfg.fallback = s.cfg.fallback := rfl
@[simp] theorem State.cfg_reverify_setBank (s : State) (n : Nat) (x : Bank) : (s.setBank n x).cfg.reverify = s.cfg.reverify := rfl
@[simp] theorem State.cfg_reverify_modBank (s : State) (n : Nat) (f : Bank → Bank) : (s.modBank n f).cfg.reverify = s.cfg.reverify := rfl
@[simp] theorem State.cfg_migPending_setBank (s : State) (n : Nat) (x : Bank) : (s.setBank n x).cfg.migPending = s.cfg.migPending := rfl
@[simp] theorem State.cfg_migPending_modBank (s : State) (n : Nat) (f : Bank → Bank) : (s.modBank n f).cfg.migPending = s.cfg.migPending := rfl
@[simp] theorem State.cfg_pcieRej_setBank (s : State) (n : Nat) (x : Bank) : (s.setBank n x).cfg.pcieRej = s.cfg.pcieRej := rfl
@[simp] theorem State.cfg_pcieRej_modBank (s : State) (n : Nat) (f : Bank → Bank) : (s.modBank n f).cfg.pcieRej = s.cfg.pcieRej := rfl
@[simp] theorem State.cfg_runHdr_setBank (s : State) (n : Nat) (x : Bank) : (s.setBank n x).cfg.runHdr = s.cfg.runHdr := rfl
@[simp] theorem State.cfg_runHdr_modBank (s : State) (n : Nat) (f : Bank → Bank) : (s.modBank n f).cfg.runHdr = s.cfg.runHdr := rfl
@[simp] theorem State.cfg_xferLen_setBank (s : State) (n : Nat) (x : Bank) : (s.setBank n x).cfg.xferLen = s.cfg.xferLen := rfl
@[simp] theorem State.cfg_xferLen_modBank (s : State) (n : Nat) (f : Bank → Bank) : (s.modBank n f).cfg.xferLen = s.cfg.xferLen := rfl
@[simp] theorem State.cfg_own_setBank (s : State) (n : Nat) (x : Bank) : (s.setBank n x).cfg.own = s.cfg.own := rfl
@[simp] theorem State.cfg_own_modBank (s : State) (n : Nat) (f : Bank → Bank) : (s.modBank n f).cfg.own = s.cfg.own := rfl
@[simp] theorem State.cfg_pcieImg_setBank (s : State) (n : Nat) (x : Bank) : (s.setBank n x).cfg.pcieImg = s.cfg.pcieImg := rfl
@[simp] theorem State.cfg_pcieImg_modBank (s : State) (n : Nat) (f : Bank → Bank) : (s.modBank n f).cfg.pcieImg = s.cfg.pcieImg := rfl
@[simp] theorem State.cfg_pcieGot_setBank (s : State) (n : Nat) (x : Bank) : (s.setBank n x).cfg.pcieGot = s.cfg.pcieGot := rfl
@[simp] theorem State.cfg_pcieGot_modBank (s : State) (n : Nat) (f : Bank → Bank) : (s.modBank n f).cfg.pcieGot = s.cfg.pcieGot := rfl

/-! ### `port` -/

@[simp] theorem State.port_setPort (s : State) (n : Nat) (x : Port) : (s.setPort n x).port n = x := tget_tset_self ..
theorem State.port_setPort_ne (s : State) (n : Nat) (x : Port) (m : Nat) (h : m ≠ n) : (s.setPort n x).port m = s.port m := tget_tset_ne _ _ _ h
@[simp] theorem State.port_modPort (s : State) (n : Nat) (f : Port → Port) : (s.modPort n f).port n = f (s.port n) := tget_tset_self ..
theorem State.port_modPort_ne (s : State) (n : Nat) (f : Port → Port) (m : Nat) (h : m ≠ n) : (s.modPort n f).port m = s.port m := tget_tset_ne _ _ _ h
@[simp] theorem State.sys_setPort (s : State) (n : Nat) (x : Port) : (s.setPort n x).sys = s.sys := rfl
@[simp] theorem State.sys_modPort (s : State) (n : Nat) (f : Port → Port) : (s.modPort n f).sys = s.sys := rfl
@[simp] theorem State.permits_setPort (s : State) (n : Nat) (x : Port) : (s.setPort n x).permits = s.permits := rfl
@[simp] theorem State.permits_modPort (s : State) (n : Nat) (f : Port → Port) : (s.modPort n f).permits = s.permits := rfl
@[simp] theorem State.cfg_setPort (s : State) (n : Nat) (x : Port) : (s.setPort n x).cfg = s.cfg := rfl
@[simp] theorem State.cfg_modPort (s : State) (n : Nat) (f : Port → Port) : (s.modPort n f).cfg = s.cfg := rfl
@[simp] theorem State.img_setPort (s : State) (n : Nat) (x : Port) : (s.setPort n x).img = s.img := rfl
@[simp] theorem State.img_modPort (s : State) (n : Nat) (f : Port → Port) : (s.modPort n f).img = s.img := rfl
@[simp] theorem State.lnd_setPort (s : State) (n : Nat) (x : Port) : (s.setPort n x).lnd = s.lnd := rfl
@[simp] theorem State.lnd_modPort (s : State) (n : Nat) (f : Port → Port) : (s.modPort n f).lnd = s.lnd := rfl
@[simp] theorem State.hst_setPort (s : State) (n : Nat) (x : Port) : (s.setPort n x).hst = s.hst := rfl
@[simp] theorem State.hst_modPort (s : State) (n : Nat) (f : Port → Port) : (s.modPort n f).hst = s.hst := rfl
@[simp] theorem State.vlk_setPort (s : State) (n : Nat) (x : Port) : (s.setPort n x).vlk = s.vlk := rfl
@[simp] theorem State.vlk_modPort (s : State) (n : Nat) (f : Port → Port) : (s.modPort n f).vlk = s.vlk := rfl
@[simp] theorem State.yrd_setPort (s : State) (n : Nat) (x : Port) : (s.setPort n x).yrd = s.yrd := rfl
@[simp] theorem State.yrd_modPort (s : State) (n : Nat) (f : Port → Port) : (s.modPort n f).yrd = s.yrd := rfl
@[simp] theorem State.scl_setPort (s : State) (n : Nat) (x : Port) : (s.setPort n x).scl = s.scl := rfl
@[simp] theorem State.scl_modPort (s : State) (n : Nat) (f : Port → Port) : (s.modPort n f).scl = s.scl := rfl
@[simp] theorem State.tly_setPort (s : State) (n : Nat) (x : Port) : (s.setPort n x).tly = s.tly := rfl
@[simp] theorem State.tly_modPort (s : State) (n : Nat) (f : Port → Port) : (s.modPort n f).tly = s.tly := rfl
@[simp] theorem State.blz_setPort (s : State) (n : Nat) (x : Port) : (s.setPort n x).blz = s.blz := rfl
@[simp] theorem State.blz_modPort (s : State) (n : Nat) (f : Port → Port) : (s.modPort n f).blz = s.blz := rfl
@[simp] theorem State.imd_setPort (s : State) (n : Nat) (x : Port) : (s.setPort n x).imd = s.imd := rfl
@[simp] theorem State.imd_modPort (s : State) (n : Nat) (f : Port → Port) : (s.modPort n f).imd = s.imd := rfl
@[simp] theorem State.saf_setPort (s : State) (n : Nat) (x : Port) : (s.setPort n x).saf = s.saf := rfl
@[simp] theorem State.saf_modPort (s : State) (n : Nat) (f : Port → Port) : (s.modPort n f).saf = s.saf := rfl
@[simp] theorem State.pvy_setPort (s : State) (n : Nat) (x : Port) : (s.setPort n x).pvy = s.pvy := rfl
@[simp] theorem State.pvy_modPort (s : State) (n : Nat) (f : Port → Port) : (s.modPort n f).pvy = s.pvy := rfl
@[simp] theorem State.chk_setPort (s : State) (n : Nat) (x : Port) : (s.setPort n x).chk = s.chk := rfl
@[simp] theorem State.chk_modPort (s : State) (n : Nat) (f : Port → Port) : (s.modPort n f).chk = s.chk := rfl
@[simp] theorem State.skl_setPort (s : State) (n : Nat) (x : Port) : (s.setPort n x).skl = s.skl := rfl
@[simp] theorem State.skl_modPort (s : State) (n : Nat) (f : Port → Port) : (s.modPort n f).skl = s.skl := rfl
@[simp] theorem State.nfc_setPort (s : State) (n : Nat) (x : Port) : (s.setPort n x).nfc = s.nfc := rfl
@[simp] theorem State.nfc_modPort (s : State) (n : Nat) (f : Port → Port) : (s.modPort n f).nfc = s.nfc := rfl
@[simp] theorem State.brd_setPort (s : State) (n : Nat) (x : Port) : (s.setPort n x).brd = s.brd := rfl
@[simp] theorem State.brd_modPort (s : State) (n : Nat) (f : Port → Port) : (s.modPort n f).brd = s.brd := rfl
@[simp] theorem State.key_setPort (s : State) (n : Nat) (x : Port) : (s.setPort n x).key = s.key := rfl
@[simp] theorem State.key_modPort (s : State) (n : Nat) (f : Port → Port) : (s.modPort n f).key = s.key := rfl
@[simp] theorem State.tim_setPort (s : State) (n : Nat) (x : Port) : (s.setPort n x).tim = s.tim := rfl
@[simp] theorem State.tim_modPort (s : State) (n : Nat) (f : Port → Port) : (s.modPort n f).tim = s.tim := rfl
@[simp] theorem State.crs_setPort (s : State) (n : Nat) (x : Port) : (s.setPort n x).crs = s.crs := rfl
@[simp] theorem State.crs_modPort (s : State) (n : Nat) (f : Port → Port) : (s.modPort n f).crs = s.crs := rfl
@[simp] theorem State.evt_setPort (s : State) (n : Nat) (x : Port) : (s.setPort n x).evt = s.evt := rfl
@[simp] theorem State.evt_modPort (s : State) (n : Nat) (f : Port → Port) : (s.modPort n f).evt = s.evt := rfl
@[simp] theorem State.elog_setPort (s : State) (n : Nat) (x : Port) : (s.setPort n x).elog = s.elog := rfl
@[simp] theorem State.elog_modPort (s : State) (n : Nat) (f : Port → Port) : (s.modPort n f).elog = s.elog := rfl
@[simp] theorem State.eseq_setPort (s : State) (n : Nat) (x : Port) : (s.setPort n x).eseq = s.eseq := rfl
@[simp] theorem State.eseq_modPort (s : State) (n : Nat) (f : Port → Port) : (s.modPort n f).eseq = s.eseq := rfl
@[simp] theorem State.elost_setPort (s : State) (n : Nat) (x : Port) : (s.setPort n x).elost = s.elost := rfl
@[simp] theorem State.elost_modPort (s : State) (n : Nat) (f : Port → Port) : (s.modPort n f).elost = s.elost := rfl
@[simp] theorem State.eSec_setPort (s : State) (n : Nat) (x : Port) : (s.setPort n x).eSec = s.eSec := rfl
@[simp] theorem State.eSec_modPort (s : State) (n : Nat) (f : Port → Port) : (s.modPort n f).eSec = s.eSec := rfl
@[simp] theorem State.eCount_setPort (s : State) (n : Nat) (x : Port) : (s.setPort n x).eCount = s.eCount := rfl
@[simp] theorem State.eCount_modPort (s : State) (n : Nat) (f : Port → Port) : (s.modPort n f).eCount = s.eCount := rfl
@[simp] theorem State.mem_setPort (s : State) (n : Nat) (x : Port) : (s.setPort n x).mem = s.mem := rfl
@[simp] theorem State.mem_modPort (s : State) (n : Nat) (f : Port → Port) : (s.modPort n f).mem = s.mem := rfl
@[simp] theorem State.sent_setPort (s : State) (n : Nat) (x : Port) : (s.setPort n x).sent = s.sent := rfl
@[simp] theorem State.sent_modPort (s : State) (n : Nat) (f : Port → Port) : (s.modPort n f).sent = s.sent := rfl
@[simp] theorem State.fresh_setPort (s : State) (n : Nat) (x : Port) : (s.setPort n x).fresh = s.fresh := rfl
@[simp] theorem State.fresh_modPort (s : State) (n : Nat) (f : Port → Port) : (s.modPort n f).fresh = s.fresh := rfl
@[simp] theorem State.pending_setPort (s : State) (n : Nat) (x : Port) : (s.setPort n x).pending = s.pending := rfl
@[simp] theorem State.pending_modPort (s : State) (n : Nat) (f : Port → Port) : (s.modPort n f).pending = s.pending := rfl
@[simp] theorem State.net_ring_setPort (s : State) (n : Nat) (x : Port) : (s.setPort n x).net.ring = s.net.ring := rfl
@[simp] theorem State.net_ring_modPort (s : State) (n : Nat) (f : Port → Port) : (s.modPort n f).net.ring = s.net.ring := rfl
@[simp] theorem State.net_members_setPort (s : State) (n : Nat) (x : Port) : (s.setPort n x).net.members = s.net.members := rfl
@[simp] theorem State.net_members_modPort (s : State) (n : Nat) (f : Port → Port) : (s.modPort n f).net.members = s.net.members := rfl
@[simp] theorem State.net_mask_setPort (s : State) (n : Nat) (x : Port) : (s.setPort n x).net.mask = s.net.mask := rfl
@[simp] theorem State.net_mask_modPort (s : State) (n : Nat) (f : Port → Port) : (s.modPort n f).net.mask = s.net.mask := rfl
@[simp] theorem State.net_breakDev_setPort (s : State) (n : Nat) (x : Port) : (s.setPort n x).net.breakDev = s.net.breakDev := rfl
@[simp] theorem State.net_breakDev_modPort (s : State) (n : Nat) (f : Port → Port) : (s.modPort n f).net.breakDev = s.net.breakDev := rfl
@[simp] theorem State.net_verMinor_setPort (s : State) (n : Nat) (x : Port) : (s.setPort n x).net.verMinor = s.net.verMinor := rfl
@[simp] theorem State.net_verMinor_modPort (s : State) (n : Nat) (f : Port → Port) : (s.modPort n f).net.verMinor = s.net.verMinor := rfl
@[simp] theorem State.net_verMajor_setPort (s : State) (n : Nat) (x : Port) : (s.setPort n x).net.verMajor = s.net.verMajor := rfl
@[simp] theorem State.net_verMajor_modPort (s : State) (n : Nat) (f : Port → Port) : (s.modPort n f).net.verMajor = s.net.verMajor := rfl
@[simp] theorem State.net_pair_setPort (s : State) (n : Nat) (x : Port) : (s.setPort n x).net.pair = s.net.pair := rfl
@[simp] theorem State.net_pair_modPort (s : State) (n : Nat) (f : Port → Port) : (s.modPort n f).net.pair = s.net.pair := rfl
@[simp] theorem State.net_hbMiss_setPort (s : State) (n : Nat) (x : Port) : (s.setPort n x).net.hbMiss = s.net.hbMiss := rfl
@[simp] theorem State.net_hbMiss_modPort (s : State) (n : Nat) (f : Port → Port) : (s.modPort n f).net.hbMiss = s.net.hbMiss := rfl
@[simp] theorem State.net_takeovers_setPort (s : State) (n : Nat) (x : Port) : (s.setPort n x).net.takeovers = s.net.takeovers := rfl
@[simp] theorem State.net_takeovers_modPort (s : State) (n : Nat) (f : Port → Port) : (s.modPort n f).net.takeovers = s.net.takeovers := rfl
@[simp] theorem State.net_epoch_setPort (s : State) (n : Nat) (x : Port) : (s.setPort n x).net.epoch = s.net.epoch := rfl
@[simp] theorem State.net_epoch_modPort (s : State) (n : Nat) (f : Port → Port) : (s.modPort n f).net.epoch = s.net.epoch := rfl
@[simp] theorem State.net_svcSpeed_setPort (s : State) (n : Nat) (x : Port) : (s.setPort n x).net.svcSpeed = s.net.svcSpeed := rfl
@[simp] theorem State.net_svcSpeed_modPort (s : State) (n : Nat) (f : Port → Port) : (s.modPort n f).net.svcSpeed = s.net.svcSpeed := rfl
@[simp] theorem State.net_pcieGen_setPort (s : State) (n : Nat) (x : Port) : (s.setPort n x).net.pcieGen = s.net.pcieGen := rfl
@[simp] theorem State.net_pcieGen_modPort (s : State) (n : Nat) (f : Port → Port) : (s.modPort n f).net.pcieGen = s.net.pcieGen := rfl
@[simp] theorem State.net_pcieLanes_setPort (s : State) (n : Nat) (x : Port) : (s.setPort n x).net.pcieLanes = s.net.pcieLanes := rfl
@[simp] theorem State.net_pcieLanes_modPort (s : State) (n : Nat) (f : Port → Port) : (s.modPort n f).net.pcieLanes = s.net.pcieLanes := rfl
@[simp] theorem State.net_boomDrops_setPort (s : State) (n : Nat) (x : Port) : (s.setPort n x).net.boomDrops = s.net.boomDrops := rfl
@[simp] theorem State.net_boomDrops_modPort (s : State) (n : Nat) (f : Port → Port) : (s.modPort n f).net.boomDrops = s.net.boomDrops := rfl
@[simp] theorem State.net_boom0_setPort (s : State) (n : Nat) (x : Port) : (s.setPort n x).net.boom0 = s.net.boom0 := rfl
@[simp] theorem State.net_boom0_modPort (s : State) (n : Nat) (f : Port → Port) : (s.modPort n f).net.boom0 = s.net.boom0 := rfl
@[simp] theorem State.net_boom1_setPort (s : State) (n : Nat) (x : Port) : (s.setPort n x).net.boom1 = s.net.boom1 := rfl
@[simp] theorem State.net_boom1_modPort (s : State) (n : Nat) (f : Port → Port) : (s.modPort n f).net.boom1 = s.net.boom1 := rfl
@[simp] theorem State.net_candidate_setPort (s : State) (n : Nat) (x : Port) : (s.setPort n x).net.candidate = s.net.candidate := rfl
@[simp] theorem State.net_candidate_modPort (s : State) (n : Nat) (f : Port → Port) : (s.modPort n f).net.candidate = s.net.candidate := rfl
@[simp] theorem State.net_rejected_setPort (s : State) (n : Nat) (x : Port) : (s.setPort n x).net.rejected = s.net.rejected := rfl
@[simp] theorem State.net_rejected_modPort (s : State) (n : Nat) (f : Port → Port) : (s.modPort n f).net.rejected = s.net.rejected := rfl
@[simp] theorem State.net_masterSeen_setPort (s : State) (n : Nat) (x : Port) : (s.setPort n x).net.masterSeen = s.net.masterSeen := rfl
@[simp] theorem State.net_masterSeen_modPort (s : State) (n : Nat) (f : Port → Port) : (s.modPort n f).net.masterSeen = s.net.masterSeen := rfl
@[simp] theorem State.net_holding_setPort (s : State) (n : Nat) (x : Port) : (s.setPort n x).net.holding = s.net.holding := rfl
@[simp] theorem State.net_holding_modPort (s : State) (n : Nat) (f : Port → Port) : (s.modPort n f).net.holding = s.net.holding := rfl
@[simp] theorem State.net_ramped_setPort (s : State) (n : Nat) (x : Port) : (s.setPort n x).net.ramped = s.net.ramped := rfl
@[simp] theorem State.net_ramped_modPort (s : State) (n : Nat) (f : Port → Port) : (s.modPort n f).net.ramped = s.net.ramped := rfl
@[simp] theorem State.net_handoverSeen_setPort (s : State) (n : Nat) (x : Port) : (s.setPort n x).net.handoverSeen = s.net.handoverSeen := rfl
@[simp] theorem State.net_handoverSeen_modPort (s : State) (n : Nat) (f : Port → Port) : (s.modPort n f).net.handoverSeen = s.net.handoverSeen := rfl
@[simp] theorem State.net_masterId_setPort (s : State) (n : Nat) (x : Port) : (s.setPort n x).net.masterId = s.net.masterId := rfl
@[simp] theorem State.net_masterId_modPort (s : State) (n : Nat) (f : Port → Port) : (s.modPort n f).net.masterId = s.net.masterId := rfl
@[simp] theorem State.net_peerSynced_setPort (s : State) (n : Nat) (x : Port) : (s.setPort n x).net.peerSynced = s.net.peerSynced := rfl
@[simp] theorem State.net_peerSynced_modPort (s : State) (n : Nat) (f : Port → Port) : (s.modPort n f).net.peerSynced = s.net.peerSynced := rfl
@[simp] theorem State.net_mirror_setPort (s : State) (n : Nat) (x : Port) : (s.setPort n x).net.mirror = s.net.mirror := rfl
@[simp] theorem State.net_mirror_modPort (s : State) (n : Nat) (f : Port → Port) : (s.modPort n f).net.mirror = s.net.mirror := rfl
@[simp] theorem State.net_mirRecs_setPort (s : State) (n : Nat) (x : Port) : (s.setPort n x).net.mirRecs = s.net.mirRecs := rfl
@[simp] theorem State.net_mirRecs_modPort (s : State) (n : Nat) (f : Port → Port) : (s.modPort n f).net.mirRecs = s.net.mirRecs := rfl
@[simp] theorem State.net_orphans_setPort (s : State) (n : Nat) (x : Port) : (s.setPort n x).net.orphans = s.net.orphans := rfl
@[simp] theorem State.net_orphans_modPort (s : State) (n : Nat) (f : Port → Port) : (s.modPort n f).net.orphans = s.net.orphans := rfl

/-! ### `rcd` -/

@[simp] theorem State.rcd_setRcd (s : State) (n : Nat) (x : Rec) : (s.setRcd n x).rcd n = x := tget_tset_self ..
theorem State.rcd_setRcd_ne (s : State) (n : Nat) (x : Rec) (m : Nat) (h : m ≠ n) : (s.setRcd n x).rcd m = s.rcd m := tget_tset_ne _ _ _ h
@[simp] theorem State.rcd_modRcd (s : State) (n : Nat) (f : Rec → Rec) : (s.modRcd n f).rcd n = f (s.rcd n) := tget_tset_self ..
theorem State.rcd_modRcd_ne (s : State) (n : Nat) (f : Rec → Rec) (m : Nat) (h : m ≠ n) : (s.modRcd n f).rcd m = s.rcd m := tget_tset_ne _ _ _ h
@[simp] theorem State.sys_setRcd (s : State) (n : Nat) (x : Rec) : (s.setRcd n x).sys = s.sys := rfl
@[simp] theorem State.sys_modRcd (s : State) (n : Nat) (f : Rec → Rec) : (s.modRcd n f).sys = s.sys := rfl
@[simp] theorem State.permits_setRcd (s : State) (n : Nat) (x : Rec) : (s.setRcd n x).permits = s.permits := rfl
@[simp] theorem State.permits_modRcd (s : State) (n : Nat) (f : Rec → Rec) : (s.modRcd n f).permits = s.permits := rfl
@[simp] theorem State.cfg_setRcd (s : State) (n : Nat) (x : Rec) : (s.setRcd n x).cfg = s.cfg := rfl
@[simp] theorem State.cfg_modRcd (s : State) (n : Nat) (f : Rec → Rec) : (s.modRcd n f).cfg = s.cfg := rfl
@[simp] theorem State.img_setRcd (s : State) (n : Nat) (x : Rec) : (s.setRcd n x).img = s.img := rfl
@[simp] theorem State.img_modRcd (s : State) (n : Nat) (f : Rec → Rec) : (s.modRcd n f).img = s.img := rfl
@[simp] theorem State.net_setRcd (s : State) (n : Nat) (x : Rec) : (s.setRcd n x).net = s.net := rfl
@[simp] theorem State.net_modRcd (s : State) (n : Nat) (f : Rec → Rec) : (s.modRcd n f).net = s.net := rfl
@[simp] theorem State.lnd_setRcd (s : State) (n : Nat) (x : Rec) : (s.setRcd n x).lnd = s.lnd := rfl
@[simp] theorem State.lnd_modRcd (s : State) (n : Nat) (f : Rec → Rec) : (s.modRcd n f).lnd = s.lnd := rfl
@[simp] theorem State.hst_setRcd (s : State) (n : Nat) (x : Rec) : (s.setRcd n x).hst = s.hst := rfl
@[simp] theorem State.hst_modRcd (s : State) (n : Nat) (f : Rec → Rec) : (s.modRcd n f).hst = s.hst := rfl
@[simp] theorem State.vlk_setRcd (s : State) (n : Nat) (x : Rec) : (s.setRcd n x).vlk = s.vlk := rfl
@[simp] theorem State.vlk_modRcd (s : State) (n : Nat) (f : Rec → Rec) : (s.modRcd n f).vlk = s.vlk := rfl
@[simp] theorem State.yrd_setRcd (s : State) (n : Nat) (x : Rec) : (s.setRcd n x).yrd = s.yrd := rfl
@[simp] theorem State.yrd_modRcd (s : State) (n : Nat) (f : Rec → Rec) : (s.modRcd n f).yrd = s.yrd := rfl
@[simp] theorem State.scl_setRcd (s : State) (n : Nat) (x : Rec) : (s.setRcd n x).scl = s.scl := rfl
@[simp] theorem State.scl_modRcd (s : State) (n : Nat) (f : Rec → Rec) : (s.modRcd n f).scl = s.scl := rfl
@[simp] theorem State.blz_setRcd (s : State) (n : Nat) (x : Rec) : (s.setRcd n x).blz = s.blz := rfl
@[simp] theorem State.blz_modRcd (s : State) (n : Nat) (f : Rec → Rec) : (s.modRcd n f).blz = s.blz := rfl
@[simp] theorem State.imd_setRcd (s : State) (n : Nat) (x : Rec) : (s.setRcd n x).imd = s.imd := rfl
@[simp] theorem State.imd_modRcd (s : State) (n : Nat) (f : Rec → Rec) : (s.modRcd n f).imd = s.imd := rfl
@[simp] theorem State.saf_setRcd (s : State) (n : Nat) (x : Rec) : (s.setRcd n x).saf = s.saf := rfl
@[simp] theorem State.saf_modRcd (s : State) (n : Nat) (f : Rec → Rec) : (s.modRcd n f).saf = s.saf := rfl
@[simp] theorem State.pvy_setRcd (s : State) (n : Nat) (x : Rec) : (s.setRcd n x).pvy = s.pvy := rfl
@[simp] theorem State.pvy_modRcd (s : State) (n : Nat) (f : Rec → Rec) : (s.modRcd n f).pvy = s.pvy := rfl
@[simp] theorem State.chk_setRcd (s : State) (n : Nat) (x : Rec) : (s.setRcd n x).chk = s.chk := rfl
@[simp] theorem State.chk_modRcd (s : State) (n : Nat) (f : Rec → Rec) : (s.modRcd n f).chk = s.chk := rfl
@[simp] theorem State.skl_setRcd (s : State) (n : Nat) (x : Rec) : (s.setRcd n x).skl = s.skl := rfl
@[simp] theorem State.skl_modRcd (s : State) (n : Nat) (f : Rec → Rec) : (s.modRcd n f).skl = s.skl := rfl
@[simp] theorem State.nfc_setRcd (s : State) (n : Nat) (x : Rec) : (s.setRcd n x).nfc = s.nfc := rfl
@[simp] theorem State.nfc_modRcd (s : State) (n : Nat) (f : Rec → Rec) : (s.modRcd n f).nfc = s.nfc := rfl
@[simp] theorem State.brd_setRcd (s : State) (n : Nat) (x : Rec) : (s.setRcd n x).brd = s.brd := rfl
@[simp] theorem State.brd_modRcd (s : State) (n : Nat) (f : Rec → Rec) : (s.modRcd n f).brd = s.brd := rfl
@[simp] theorem State.key_setRcd (s : State) (n : Nat) (x : Rec) : (s.setRcd n x).key = s.key := rfl
@[simp] theorem State.key_modRcd (s : State) (n : Nat) (f : Rec → Rec) : (s.modRcd n f).key = s.key := rfl
@[simp] theorem State.tim_setRcd (s : State) (n : Nat) (x : Rec) : (s.setRcd n x).tim = s.tim := rfl
@[simp] theorem State.tim_modRcd (s : State) (n : Nat) (f : Rec → Rec) : (s.modRcd n f).tim = s.tim := rfl
@[simp] theorem State.crs_setRcd (s : State) (n : Nat) (x : Rec) : (s.setRcd n x).crs = s.crs := rfl
@[simp] theorem State.crs_modRcd (s : State) (n : Nat) (f : Rec → Rec) : (s.modRcd n f).crs = s.crs := rfl
@[simp] theorem State.evt_setRcd (s : State) (n : Nat) (x : Rec) : (s.setRcd n x).evt = s.evt := rfl
@[simp] theorem State.evt_modRcd (s : State) (n : Nat) (f : Rec → Rec) : (s.modRcd n f).evt = s.evt := rfl
@[simp] theorem State.elog_setRcd (s : State) (n : Nat) (x : Rec) : (s.setRcd n x).elog = s.elog := rfl
@[simp] theorem State.elog_modRcd (s : State) (n : Nat) (f : Rec → Rec) : (s.modRcd n f).elog = s.elog := rfl
@[simp] theorem State.eseq_setRcd (s : State) (n : Nat) (x : Rec) : (s.setRcd n x).eseq = s.eseq := rfl
@[simp] theorem State.eseq_modRcd (s : State) (n : Nat) (f : Rec → Rec) : (s.modRcd n f).eseq = s.eseq := rfl
@[simp] theorem State.elost_setRcd (s : State) (n : Nat) (x : Rec) : (s.setRcd n x).elost = s.elost := rfl
@[simp] theorem State.elost_modRcd (s : State) (n : Nat) (f : Rec → Rec) : (s.modRcd n f).elost = s.elost := rfl
@[simp] theorem State.eSec_setRcd (s : State) (n : Nat) (x : Rec) : (s.setRcd n x).eSec = s.eSec := rfl
@[simp] theorem State.eSec_modRcd (s : State) (n : Nat) (f : Rec → Rec) : (s.modRcd n f).eSec = s.eSec := rfl
@[simp] theorem State.eCount_setRcd (s : State) (n : Nat) (x : Rec) : (s.setRcd n x).eCount = s.eCount := rfl
@[simp] theorem State.eCount_modRcd (s : State) (n : Nat) (f : Rec → Rec) : (s.modRcd n f).eCount = s.eCount := rfl
@[simp] theorem State.mem_setRcd (s : State) (n : Nat) (x : Rec) : (s.setRcd n x).mem = s.mem := rfl
@[simp] theorem State.mem_modRcd (s : State) (n : Nat) (f : Rec → Rec) : (s.modRcd n f).mem = s.mem := rfl
@[simp] theorem State.sent_setRcd (s : State) (n : Nat) (x : Rec) : (s.setRcd n x).sent = s.sent := rfl
@[simp] theorem State.sent_modRcd (s : State) (n : Nat) (f : Rec → Rec) : (s.modRcd n f).sent = s.sent := rfl
@[simp] theorem State.fresh_setRcd (s : State) (n : Nat) (x : Rec) : (s.setRcd n x).fresh = s.fresh := rfl
@[simp] theorem State.fresh_modRcd (s : State) (n : Nat) (f : Rec → Rec) : (s.modRcd n f).fresh = s.fresh := rfl
@[simp] theorem State.pending_setRcd (s : State) (n : Nat) (x : Rec) : (s.setRcd n x).pending = s.pending := rfl
@[simp] theorem State.pending_modRcd (s : State) (n : Nat) (f : Rec → Rec) : (s.modRcd n f).pending = s.pending := rfl
@[simp] theorem State.tly_regs_setRcd (s : State) (n : Nat) (x : Rec) : (s.setRcd n x).tly.regs = s.tly.regs := rfl
@[simp] theorem State.tly_regs_modRcd (s : State) (n : Nat) (f : Rec → Rec) : (s.modRcd n f).tly.regs = s.tly.regs := rfl
@[simp] theorem State.tly_rems_setRcd (s : State) (n : Nat) (x : Rec) : (s.setRcd n x).tly.rems = s.tly.rems := rfl
@[simp] theorem State.tly_rems_modRcd (s : State) (n : Nat) (f : Rec → Rec) : (s.modRcd n f).tly.rems = s.tly.rems := rfl
@[simp] theorem State.tly_site_setRcd (s : State) (n : Nat) (x : Rec) : (s.setRcd n x).tly.site = s.tly.site := rfl
@[simp] theorem State.tly_site_modRcd (s : State) (n : Nat) (f : Rec → Rec) : (s.modRcd n f).tly.site = s.tly.site := rfl
@[simp] theorem State.tly_sched_setRcd (s : State) (n : Nat) (x : Rec) : (s.setRcd n x).tly.sched = s.tly.sched := rfl
@[simp] theorem State.tly_sched_modRcd (s : State) (n : Nat) (f : Rec → Rec) : (s.modRcd n f).tly.sched = s.tly.sched := rfl
@[simp] theorem State.tly_ckptSched_setRcd (s : State) (n : Nat) (x : Rec) : (s.setRcd n x).tly.ckptSched = s.tly.ckptSched := rfl
@[simp] theorem State.tly_ckptSched_modRcd (s : State) (n : Nat) (f : Rec → Rec) : (s.modRcd n f).tly.ckptSched = s.tly.ckptSched := rfl
@[simp] theorem State.tly_toJournal_setRcd (s : State) (n : Nat) (x : Rec) : (s.setRcd n x).tly.toJournal = s.tly.toJournal := rfl
@[simp] theorem State.tly_toJournal_modRcd (s : State) (n : Nat) (f : Rec → Rec) : (s.modRcd n f).tly.toJournal = s.tly.toJournal := rfl
@[simp] theorem State.tly_mode_setRcd (s : State) (n : Nat) (x : Rec) : (s.setRcd n x).tly.mode = s.tly.mode := rfl
@[simp] theorem State.tly_mode_modRcd (s : State) (n : Nat) (f : Rec → Rec) : (s.modRcd n f).tly.mode = s.tly.mode := rfl
@[simp] theorem State.tly_modeDue_setRcd (s : State) (n : Nat) (x : Rec) : (s.setRcd n x).tly.modeDue = s.tly.modeDue := rfl
@[simp] theorem State.tly_modeDue_modRcd (s : State) (n : Nat) (f : Rec → Rec) : (s.modRcd n f).tly.modeDue = s.tly.modeDue := rfl
@[simp] theorem State.tly_tariff_setRcd (s : State) (n : Nat) (x : Rec) : (s.setRcd n x).tly.tariff = s.tly.tariff := rfl
@[simp] theorem State.tly_tariff_modRcd (s : State) (n : Nat) (f : Rec → Rec) : (s.modRcd n f).tly.tariff = s.tly.tariff := rfl
@[simp] theorem State.tly_opened_setRcd (s : State) (n : Nat) (x : Rec) : (s.setRcd n x).tly.opened = s.tly.opened := rfl
@[simp] theorem State.tly_opened_modRcd (s : State) (n : Nat) (f : Rec → Rec) : (s.modRcd n f).tly.opened = s.tly.opened := rfl
@[simp] theorem State.tly_stored_setRcd (s : State) (n : Nat) (x : Rec) : (s.setRcd n x).tly.stored = s.tly.stored := rfl
@[simp] theorem State.tly_stored_modRcd (s : State) (n : Nat) (f : Rec → Rec) : (s.modRcd n f).tly.stored = s.tly.stored := rfl
@[simp] theorem State.tly_seqs_setRcd (s : State) (n : Nat) (x : Rec) : (s.setRcd n x).tly.seqs = s.tly.seqs := rfl
@[simp] theorem State.tly_seqs_modRcd (s : State) (n : Nat) (f : Rec → Rec) : (s.modRcd n f).tly.seqs = s.tly.seqs := rfl
@[simp] theorem State.tly_md_setRcd (s : State) (n : Nat) (x : Rec) : (s.setRcd n x).tly.md = s.tly.md := rfl
@[simp] theorem State.tly_md_modRcd (s : State) (n : Nat) (f : Rec → Rec) : (s.modRcd n f).tly.md = s.tly.md := rfl
@[simp] theorem State.tly_period_setRcd (s : State) (n : Nat) (x : Rec) : (s.setRcd n x).tly.period = s.tly.period := rfl
@[simp] theorem State.tly_period_modRcd (s : State) (n : Nat) (f : Rec → Rec) : (s.modRcd n f).tly.period = s.tly.period := rfl
@[simp] theorem State.tly_pCeil_setRcd (s : State) (n : Nat) (x : Rec) : (s.setRcd n x).tly.pCeil = s.tly.pCeil := rfl
@[simp] theorem State.tly_pCeil_modRcd (s : State) (n : Nat) (f : Rec → Rec) : (s.modRcd n f).tly.pCeil = s.tly.pCeil := rfl
@[simp] theorem State.tly_pNext_setRcd (s : State) (n : Nat) (x : Rec) : (s.setRcd n x).tly.pNext = s.tly.pNext := rfl
@[simp] theorem State.tly_pNext_modRcd (s : State) (n : Nat) (f : Rec → Rec) : (s.modRcd n f).tly.pNext = s.tly.pNext := rfl
@[simp] theorem State.tly_ivlSum_setRcd (s : State) (n : Nat) (x : Rec) : (s.setRcd n x).tly.ivlSum = s.tly.ivlSum := rfl
@[simp] theorem State.tly_ivlSum_modRcd (s : State) (n : Nat) (f : Rec → Rec) : (s.modRcd n f).tly.ivlSum = s.tly.ivlSum := rfl
@[simp] theorem State.tly_ivl_setRcd (s : State) (n : Nat) (x : Rec) : (s.setRcd n x).tly.ivl = s.tly.ivl := rfl
@[simp] theorem State.tly_ivl_modRcd (s : State) (n : Nat) (f : Rec → Rec) : (s.modRcd n f).tly.ivl = s.tly.ivl := rfl
@[simp] theorem State.tly_lastPeriodEnd_setRcd (s : State) (n : Nat) (x : Rec) : (s.setRcd n x).tly.lastPeriodEnd = s.tly.lastPeriodEnd := rfl
@[simp] theorem State.tly_lastPeriodEnd_modRcd (s : State) (n : Nat) (f : Rec → Rec) : (s.modRcd n f).tly.lastPeriodEnd = s.tly.lastPeriodEnd := rfl
@[simp] theorem State.tly_recNext_setRcd (s : State) (n : Nat) (x : Rec) : (s.setRcd n x).tly.recNext = s.tly.recNext := rfl
@[simp] theorem State.tly_recNext_modRcd (s : State) (n : Nat) (f : Rec → Rec) : (s.modRcd n f).tly.recNext = s.tly.recNext := rfl
@[simp] theorem State.tly_rseq_setRcd (s : State) (n : Nat) (x : Rec) : (s.setRcd n x).tly.rseq = s.tly.rseq := rfl
@[simp] theorem State.tly_rseq_modRcd (s : State) (n : Nat) (f : Rec → Rec) : (s.modRcd n f).tly.rseq = s.tly.rseq := rfl
@[simp] theorem State.tly_readings_setRcd (s : State) (n : Nat) (x : Rec) : (s.setRcd n x).tly.readings = s.tly.readings := rfl
@[simp] theorem State.tly_readings_modRcd (s : State) (n : Nat) (f : Rec → Rec) : (s.modRcd n f).tly.readings = s.tly.readings := rfl
@[simp] theorem State.tly_slotSeq_setRcd (s : State) (n : Nat) (x : Rec) : (s.setRcd n x).tly.slotSeq = s.tly.slotSeq := rfl
@[simp] theorem State.tly_slotSeq_modRcd (s : State) (n : Nat) (f : Rec → Rec) : (s.modRcd n f).tly.slotSeq = s.tly.slotSeq := rfl
@[simp] theorem State.tly_journal_setRcd (s : State) (n : Nat) (x : Rec) : (s.setRcd n x).tly.journal = s.tly.journal := rfl
@[simp] theorem State.tly_journal_modRcd (s : State) (n : Nat) (f : Rec → Rec) : (s.modRcd n f).tly.journal = s.tly.journal := rfl
@[simp] theorem State.tly_checkpoint_setRcd (s : State) (n : Nat) (x : Rec) : (s.setRcd n x).tly.checkpoint = s.tly.checkpoint := rfl
@[simp] theorem State.tly_checkpoint_modRcd (s : State) (n : Nat) (f : Rec → Rec) : (s.modRcd n f).tly.checkpoint = s.tly.checkpoint := rfl
@[simp] theorem State.tly_lastCheckpoint_setRcd (s : State) (n : Nat) (x : Rec) : (s.setRcd n x).tly.lastCheckpoint = s.tly.lastCheckpoint := rfl
@[simp] theorem State.tly_lastCheckpoint_modRcd (s : State) (n : Nat) (f : Rec → Rec) : (s.modRcd n f).tly.lastCheckpoint = s.tly.lastCheckpoint := rfl
@[simp] theorem State.tly_abrupt_setRcd (s : State) (n : Nat) (x : Rec) : (s.setRcd n x).tly.abrupt = s.tly.abrupt := rfl
@[simp] theorem State.tly_abrupt_modRcd (s : State) (n : Nat) (f : Rec → Rec) : (s.modRcd n f).tly.abrupt = s.tly.abrupt := rfl
@[simp] theorem State.tly_resLost_setRcd (s : State) (n : Nat) (x : Rec) : (s.setRcd n x).tly.resLost = s.tly.resLost := rfl
@[simp] theorem State.tly_resLost_modRcd (s : State) (n : Nat) (f : Rec → Rec) : (s.modRcd n f).tly.resLost = s.tly.resLost := rfl
@[simp] theorem State.tly_demandInv_setRcd (s : State) (n : Nat) (x : Rec) : (s.setRcd n x).tly.demandInv = s.tly.demandInv := rfl
@[simp] theorem State.tly_demandInv_modRcd (s : State) (n : Nat) (f : Rec → Rec) : (s.modRcd n f).tly.demandInv = s.tly.demandInv := rfl
@[simp] theorem State.tly_siteInc_setRcd (s : State) (n : Nat) (x : Rec) : (s.setRcd n x).tly.siteInc = s.tly.siteInc := rfl
@[simp] theorem State.tly_siteInc_modRcd (s : State) (n : Nat) (f : Rec → Rec) : (s.modRcd n f).tly.siteInc = s.tly.siteInc := rfl
@[simp] theorem State.tly_tariffPrev_setRcd (s : State) (n : Nat) (x : Rec) : (s.setRcd n x).tly.tariffPrev = s.tly.tariffPrev := rfl
@[simp] theorem State.tly_tariffPrev_modRcd (s : State) (n : Nat) (f : Rec → Rec) : (s.modRcd n f).tly.tariffPrev = s.tly.tariffPrev := rfl
@[simp] theorem State.tly_tariffSince_setRcd (s : State) (n : Nat) (x : Rec) : (s.setRcd n x).tly.tariffSince = s.tly.tariffSince := rfl
@[simp] theorem State.tly_tariffSince_modRcd (s : State) (n : Nat) (f : Rec → Rec) : (s.modRcd n f).tly.tariffSince = s.tly.tariffSince := rfl
@[simp] theorem State.tly_demandLast_setRcd (s : State) (n : Nat) (x : Rec) : (s.setRcd n x).tly.demandLast = s.tly.demandLast := rfl
@[simp] theorem State.tly_demandLast_modRcd (s : State) (n : Nat) (f : Rec → Rec) : (s.modRcd n f).tly.demandLast = s.tly.demandLast := rfl
@[simp] theorem State.tly_demandLastExp_setRcd (s : State) (n : Nat) (x : Rec) : (s.setRcd n x).tly.demandLastExp = s.tly.demandLastExp := rfl
@[simp] theorem State.tly_demandLastExp_modRcd (s : State) (n : Nat) (f : Rec → Rec) : (s.modRcd n f).tly.demandLastExp = s.tly.demandLastExp := rfl
@[simp] theorem State.tly_members_setRcd (s : State) (n : Nat) (x : Rec) : (s.setRcd n x).tly.members = s.tly.members := rfl
@[simp] theorem State.tly_members_modRcd (s : State) (n : Nat) (f : Rec → Rec) : (s.modRcd n f).tly.members = s.tly.members := rfl
@[simp] theorem State.tly_memberAt_setRcd (s : State) (n : Nat) (x : Rec) : (s.setRcd n x).tly.memberAt = s.tly.memberAt := rfl
@[simp] theorem State.tly_memberAt_modRcd (s : State) (n : Nat) (f : Rec → Rec) : (s.modRcd n f).tly.memberAt = s.tly.memberAt := rfl
@[simp] theorem State.tly_catchDue_setRcd (s : State) (n : Nat) (x : Rec) : (s.setRcd n x).tly.catchDue = s.tly.catchDue := rfl
@[simp] theorem State.tly_catchDue_modRcd (s : State) (n : Nat) (f : Rec → Rec) : (s.modRcd n f).tly.catchDue = s.tly.catchDue := rfl
@[simp] theorem State.tly_ceilImg_setRcd (s : State) (n : Nat) (x : Rec) : (s.setRcd n x).tly.ceilImg = s.tly.ceilImg := rfl
@[simp] theorem State.tly_ceilImg_modRcd (s : State) (n : Nat) (f : Rec → Rec) : (s.modRcd n f).tly.ceilImg = s.tly.ceilImg := rfl
@[simp] theorem State.tly_view_setRcd (s : State) (n : Nat) (x : Rec) : (s.setRcd n x).tly.view = s.tly.view := rfl
@[simp] theorem State.tly_view_modRcd (s : State) (n : Nat) (f : Rec → Rec) : (s.modRcd n f).tly.view = s.tly.view := rfl
@[simp] theorem State.tly_viewRegs_setRcd (s : State) (n : Nat) (x : Rec) : (s.setRcd n x).tly.viewRegs = s.tly.viewRegs := rfl
@[simp] theorem State.tly_viewRegs_modRcd (s : State) (n : Nat) (f : Rec → Rec) : (s.modRcd n f).tly.viewRegs = s.tly.viewRegs := rfl
@[simp] theorem State.tly_viewSite_setRcd (s : State) (n : Nat) (x : Rec) : (s.setRcd n x).tly.viewSite = s.tly.viewSite := rfl
@[simp] theorem State.tly_viewSite_modRcd (s : State) (n : Nat) (f : Rec → Rec) : (s.modRcd n f).tly.viewSite = s.tly.viewSite := rfl
@[simp] theorem State.tly_dirty_setRcd (s : State) (n : Nat) (x : Rec) : (s.setRcd n x).tly.dirty = s.tly.dirty := rfl
@[simp] theorem State.tly_dirty_modRcd (s : State) (n : Nat) (f : Rec → Rec) : (s.modRcd n f).tly.dirty = s.tly.dirty := rfl
@[simp] theorem State.tly_lastCommit_setRcd (s : State) (n : Nat) (x : Rec) : (s.setRcd n x).tly.lastCommit = s.tly.lastCommit := rfl
@[simp] theorem State.tly_lastCommit_modRcd (s : State) (n : Nat) (f : Rec → Rec) : (s.modRcd n f).tly.lastCommit = s.tly.lastCommit := rfl
@[simp] theorem State.tly_running_setRcd (s : State) (n : Nat) (x : Rec) : (s.setRcd n x).tly.running = s.tly.running := rfl
@[simp] theorem State.tly_running_modRcd (s : State) (n : Nat) (f : Rec → Rec) : (s.modRcd n f).tly.running = s.tly.running := rfl

/-! ### What is sent, free values, memory -/

@[simp] theorem State.sys_send (s : State) (o : Out) : (s.send o).sys = s.sys := rfl
@[simp] theorem State.permits_send (s : State) (o : Out) : (s.send o).permits = s.permits := rfl
@[simp] theorem State.cfg_send (s : State) (o : Out) : (s.send o).cfg = s.cfg := rfl
@[simp] theorem State.img_send (s : State) (o : Out) : (s.send o).img = s.img := rfl
@[simp] theorem State.net_send (s : State) (o : Out) : (s.send o).net = s.net := rfl
@[simp] theorem State.lnd_send (s : State) (o : Out) : (s.send o).lnd = s.lnd := rfl
@[simp] theorem State.hst_send (s : State) (o : Out) : (s.send o).hst = s.hst := rfl
@[simp] theorem State.vlk_send (s : State) (o : Out) : (s.send o).vlk = s.vlk := rfl
@[simp] theorem State.yrd_send (s : State) (o : Out) : (s.send o).yrd = s.yrd := rfl
@[simp] theorem State.scl_send (s : State) (o : Out) : (s.send o).scl = s.scl := rfl
@[simp] theorem State.tly_send (s : State) (o : Out) : (s.send o).tly = s.tly := rfl
@[simp] theorem State.blz_send (s : State) (o : Out) : (s.send o).blz = s.blz := rfl
@[simp] theorem State.imd_send (s : State) (o : Out) : (s.send o).imd = s.imd := rfl
@[simp] theorem State.saf_send (s : State) (o : Out) : (s.send o).saf = s.saf := rfl
@[simp] theorem State.pvy_send (s : State) (o : Out) : (s.send o).pvy = s.pvy := rfl
@[simp] theorem State.chk_send (s : State) (o : Out) : (s.send o).chk = s.chk := rfl
@[simp] theorem State.skl_send (s : State) (o : Out) : (s.send o).skl = s.skl := rfl
@[simp] theorem State.nfc_send (s : State) (o : Out) : (s.send o).nfc = s.nfc := rfl
@[simp] theorem State.brd_send (s : State) (o : Out) : (s.send o).brd = s.brd := rfl
@[simp] theorem State.key_send (s : State) (o : Out) : (s.send o).key = s.key := rfl
@[simp] theorem State.tim_send (s : State) (o : Out) : (s.send o).tim = s.tim := rfl
@[simp] theorem State.crs_send (s : State) (o : Out) : (s.send o).crs = s.crs := rfl
@[simp] theorem State.evt_send (s : State) (o : Out) : (s.send o).evt = s.evt := rfl
@[simp] theorem State.elog_send (s : State) (o : Out) : (s.send o).elog = s.elog := rfl
@[simp] theorem State.eseq_send (s : State) (o : Out) : (s.send o).eseq = s.eseq := rfl
@[simp] theorem State.elost_send (s : State) (o : Out) : (s.send o).elost = s.elost := rfl
@[simp] theorem State.eSec_send (s : State) (o : Out) : (s.send o).eSec = s.eSec := rfl
@[simp] theorem State.eCount_send (s : State) (o : Out) : (s.send o).eCount = s.eCount := rfl
@[simp] theorem State.mem_send (s : State) (o : Out) : (s.send o).mem = s.mem := rfl
@[simp] theorem State.fresh_send (s : State) (o : Out) : (s.send o).fresh = s.fresh := rfl
@[simp] theorem State.pending_send (s : State) (o : Out) : (s.send o).pending = s.pending := rfl

@[simp] theorem State.sys_writeMem (s : State) (a : Nat) (l : List Byte) : (s.writeMem a l).sys = s.sys := rfl
@[simp] theorem State.permits_writeMem (s : State) (a : Nat) (l : List Byte) : (s.writeMem a l).permits = s.permits := rfl
@[simp] theorem State.cfg_writeMem (s : State) (a : Nat) (l : List Byte) : (s.writeMem a l).cfg = s.cfg := rfl
@[simp] theorem State.img_writeMem (s : State) (a : Nat) (l : List Byte) : (s.writeMem a l).img = s.img := rfl
@[simp] theorem State.net_writeMem (s : State) (a : Nat) (l : List Byte) : (s.writeMem a l).net = s.net := rfl
@[simp] theorem State.lnd_writeMem (s : State) (a : Nat) (l : List Byte) : (s.writeMem a l).lnd = s.lnd := rfl
@[simp] theorem State.hst_writeMem (s : State) (a : Nat) (l : List Byte) : (s.writeMem a l).hst = s.hst := rfl
@[simp] theorem State.vlk_writeMem (s : State) (a : Nat) (l : List Byte) : (s.writeMem a l).vlk = s.vlk := rfl
@[simp] theorem State.yrd_writeMem (s : State) (a : Nat) (l : List Byte) : (s.writeMem a l).yrd = s.yrd := rfl
@[simp] theorem State.scl_writeMem (s : State) (a : Nat) (l : List Byte) : (s.writeMem a l).scl = s.scl := rfl
@[simp] theorem State.tly_writeMem (s : State) (a : Nat) (l : List Byte) : (s.writeMem a l).tly = s.tly := rfl
@[simp] theorem State.blz_writeMem (s : State) (a : Nat) (l : List Byte) : (s.writeMem a l).blz = s.blz := rfl
@[simp] theorem State.imd_writeMem (s : State) (a : Nat) (l : List Byte) : (s.writeMem a l).imd = s.imd := rfl
@[simp] theorem State.saf_writeMem (s : State) (a : Nat) (l : List Byte) : (s.writeMem a l).saf = s.saf := rfl
@[simp] theorem State.pvy_writeMem (s : State) (a : Nat) (l : List Byte) : (s.writeMem a l).pvy = s.pvy := rfl
@[simp] theorem State.chk_writeMem (s : State) (a : Nat) (l : List Byte) : (s.writeMem a l).chk = s.chk := rfl
@[simp] theorem State.skl_writeMem (s : State) (a : Nat) (l : List Byte) : (s.writeMem a l).skl = s.skl := rfl
@[simp] theorem State.nfc_writeMem (s : State) (a : Nat) (l : List Byte) : (s.writeMem a l).nfc = s.nfc := rfl
@[simp] theorem State.brd_writeMem (s : State) (a : Nat) (l : List Byte) : (s.writeMem a l).brd = s.brd := rfl
@[simp] theorem State.key_writeMem (s : State) (a : Nat) (l : List Byte) : (s.writeMem a l).key = s.key := rfl
@[simp] theorem State.tim_writeMem (s : State) (a : Nat) (l : List Byte) : (s.writeMem a l).tim = s.tim := rfl
@[simp] theorem State.crs_writeMem (s : State) (a : Nat) (l : List Byte) : (s.writeMem a l).crs = s.crs := rfl
@[simp] theorem State.evt_writeMem (s : State) (a : Nat) (l : List Byte) : (s.writeMem a l).evt = s.evt := rfl
@[simp] theorem State.elog_writeMem (s : State) (a : Nat) (l : List Byte) : (s.writeMem a l).elog = s.elog := rfl
@[simp] theorem State.eseq_writeMem (s : State) (a : Nat) (l : List Byte) : (s.writeMem a l).eseq = s.eseq := rfl
@[simp] theorem State.elost_writeMem (s : State) (a : Nat) (l : List Byte) : (s.writeMem a l).elost = s.elost := rfl
@[simp] theorem State.eSec_writeMem (s : State) (a : Nat) (l : List Byte) : (s.writeMem a l).eSec = s.eSec := rfl
@[simp] theorem State.eCount_writeMem (s : State) (a : Nat) (l : List Byte) : (s.writeMem a l).eCount = s.eCount := rfl
@[simp] theorem State.sent_writeMem (s : State) (a : Nat) (l : List Byte) : (s.writeMem a l).sent = s.sent := rfl
@[simp] theorem State.fresh_writeMem (s : State) (a : Nat) (l : List Byte) : (s.writeMem a l).fresh = s.fresh := rfl
@[simp] theorem State.pending_writeMem (s : State) (a : Nat) (l : List Byte) : (s.writeMem a l).pending = s.pending := rfl

@[simp] theorem State.sys_draw (s : State) : s.draw.2.sys = s.sys := rfl
@[simp] theorem State.permits_draw (s : State) : s.draw.2.permits = s.permits := rfl
@[simp] theorem State.cfg_draw (s : State) : s.draw.2.cfg = s.cfg := rfl
@[simp] theorem State.img_draw (s : State) : s.draw.2.img = s.img := rfl
@[simp] theorem State.net_draw (s : State) : s.draw.2.net = s.net := rfl
@[simp] theorem State.lnd_draw (s : State) : s.draw.2.lnd = s.lnd := rfl
@[simp] theorem State.hst_draw (s : State) : s.draw.2.hst = s.hst := rfl
@[simp] theorem State.vlk_draw (s : State) : s.draw.2.vlk = s.vlk := rfl
@[simp] theorem State.yrd_draw (s : State) : s.draw.2.yrd = s.yrd := rfl
@[simp] theorem State.scl_draw (s : State) : s.draw.2.scl = s.scl := rfl
@[simp] theorem State.tly_draw (s : State) : s.draw.2.tly = s.tly := rfl
@[simp] theorem State.blz_draw (s : State) : s.draw.2.blz = s.blz := rfl
@[simp] theorem State.imd_draw (s : State) : s.draw.2.imd = s.imd := rfl
@[simp] theorem State.saf_draw (s : State) : s.draw.2.saf = s.saf := rfl
@[simp] theorem State.pvy_draw (s : State) : s.draw.2.pvy = s.pvy := rfl
@[simp] theorem State.chk_draw (s : State) : s.draw.2.chk = s.chk := rfl
@[simp] theorem State.skl_draw (s : State) : s.draw.2.skl = s.skl := rfl
@[simp] theorem State.nfc_draw (s : State) : s.draw.2.nfc = s.nfc := rfl
@[simp] theorem State.brd_draw (s : State) : s.draw.2.brd = s.brd := rfl
@[simp] theorem State.key_draw (s : State) : s.draw.2.key = s.key := rfl
@[simp] theorem State.tim_draw (s : State) : s.draw.2.tim = s.tim := rfl
@[simp] theorem State.crs_draw (s : State) : s.draw.2.crs = s.crs := rfl
@[simp] theorem State.evt_draw (s : State) : s.draw.2.evt = s.evt := rfl
@[simp] theorem State.elog_draw (s : State) : s.draw.2.elog = s.elog := rfl
@[simp] theorem State.eseq_draw (s : State) : s.draw.2.eseq = s.eseq := rfl
@[simp] theorem State.elost_draw (s : State) : s.draw.2.elost = s.elost := rfl
@[simp] theorem State.eSec_draw (s : State) : s.draw.2.eSec = s.eSec := rfl
@[simp] theorem State.eCount_draw (s : State) : s.draw.2.eCount = s.eCount := rfl
@[simp] theorem State.mem_draw (s : State) : s.draw.2.mem = s.mem := rfl
@[simp] theorem State.sent_draw (s : State) : s.draw.2.sent = s.sent := rfl
@[simp] theorem State.pending_draw (s : State) : s.draw.2.pending = s.pending := rfl

/-! ### Event bits -/

theorem State.logEvent_eq (s : State) (blk bit : Nat) (v : Word) :
    ∃ l e o c n, s.logEvent blk bit v = { s with elog := l, eseq := e, elost := o, eSec := c, eCount := n } := by
  unfold State.logEvent
  dsimp only
  generalize (if s.eSec = s.tim.sec then s.eCount else 0) = k
  by_cases h : 1000 ≤ k
  · rw [if_pos h]; exact ⟨_, _, _, _, _, rfl⟩
  · rw [if_neg h]; exact ⟨_, _, _, _, _, rfl⟩

/-- Setting an event bit touches its register and the general event log alone. -/
theorem State.setEvt_eq (s : State) (blk bit : Nat) :
    ∃ r l e o c n, s.setEvt blk bit = { s with evt := r, elog := l, eseq := e, elost := o, eSec := c, eCount := n } := by
  unfold State.setEvt
  dsimp only
  split
  · exact ⟨_, _, _, _, _, _, rfl⟩
  · obtain ⟨l, e, o, c, n, h⟩ := State.logEvent_eq { s with evt := tset 0 s.evt blk (tget 0 s.evt blk ||| 1#32 <<< bit) } blk bit (tget 0 s.evt blk ||| 1#32 <<< bit)
    exact ⟨_, l, e, o, c, n, h⟩

theorem State.setEvtIf_eq (s : State) (b : Bool) (blk bit : Nat) :
    ∃ r l e o c n, s.setEvtIf b blk bit = { s with evt := r, elog := l, eseq := e, elost := o, eSec := c, eCount := n } := by
  unfold State.setEvtIf
  split
  · exact s.setEvt_eq blk bit
  · exact ⟨_, _, _, _, _, _, rfl⟩

@[simp] theorem State.evt_logEvent (s : State) (blk bit : Nat) (v : Word) : (s.logEvent blk bit v).evt = s.evt := by
  obtain ⟨_, _, _, _, _, h⟩ := s.logEvent_eq blk bit v
  rw [h]

/-- A set bit reads 1 (R6). -/
theorem State.evt_setEvt (s : State) (blk bit : Nat) :
    tget 0 (s.setEvt blk bit).evt blk = if (tget 0 s.evt blk).getLsbD bit then tget 0 s.evt blk else tget 0 s.evt blk ||| 1#32 <<< bit := by
  unfold State.setEvt
  dsimp only
  split
  · rfl
  · rw [State.evt_logEvent]; exact tget_tset_self ..

theorem State.evt_setEvt_ne (s : State) (blk bit : Nat) {b : Nat} (hb : b ≠ blk) : tget 0 (s.setEvt blk bit).evt b = tget 0 s.evt b := by
  unfold State.setEvt
  dsimp only
  split
  · rfl
  · rw [State.evt_logEvent]; exact tget_tset_ne _ _ _ hb

@[simp] theorem State.sys_setEvt (s : State) (blk bit : Nat) : (s.setEvt blk bit).sys = s.sys := by obtain ⟨_, _, _, _, _, _, h⟩ := s.setEvt_eq blk bit; rw [h]
@[simp] theorem State.sys_setEvtIf (s : State) (b : Bool) (blk bit : Nat) : (s.setEvtIf b blk bit).sys = s.sys := by obtain ⟨_, _, _, _, _, _, h⟩ := s.setEvtIf_eq b blk bit; rw [h]
@[simp] theorem State.permits_setEvt (s : State) (blk bit : Nat) : (s.setEvt blk bit).permits = s.permits := by obtain ⟨_, _, _, _, _, _, h⟩ := s.setEvt_eq blk bit; rw [h]
@[simp] theorem State.permits_setEvtIf (s : State) (b : Bool) (blk bit : Nat) : (s.setEvtIf b blk bit).permits = s.permits := by obtain ⟨_, _, _, _, _, _, h⟩ := s.setEvtIf_eq b blk bit; rw [h]
@[simp] theorem State.cfg_setEvt (s : State) (blk bit : Nat) : (s.setEvt blk bit).cfg = s.cfg := by obtain ⟨_, _, _, _, _, _, h⟩ := s.setEvt_eq blk bit; rw [h]
@[simp] theorem State.cfg_setEvtIf (s : State) (b : Bool) (blk bit : Nat) : (s.setEvtIf b blk bit).cfg = s.cfg := by obtain ⟨_, _, _, _, _, _, h⟩ := s.setEvtIf_eq b blk bit; rw [h]
@[simp] theorem State.img_setEvt (s : State) (blk bit : Nat) : (s.setEvt blk bit).img = s.img := by obtain ⟨_, _, _, _, _, _, h⟩ := s.setEvt_eq blk bit; rw [h]
@[simp] theorem State.img_setEvtIf (s : State) (b : Bool) (blk bit : Nat) : (s.setEvtIf b blk bit).img = s.img := by obtain ⟨_, _, _, _, _, _, h⟩ := s.setEvtIf_eq b blk bit; rw [h]
@[simp] theorem State.net_setEvt (s : State) (blk bit : Nat) : (s.setEvt blk bit).net = s.net := by obtain ⟨_, _, _, _, _, _, h⟩ := s.setEvt_eq blk bit; rw [h]
@[simp] theorem State.net_setEvtIf (s : State) (b : Bool) (blk bit : Nat) : (s.setEvtIf b blk bit).net = s.net := by obtain ⟨_, _, _, _, _, _, h⟩ := s.setEvtIf_eq b blk bit; rw [h]
@[simp] theorem State.lnd_setEvt (s : State) (blk bit : Nat) : (s.setEvt blk bit).lnd = s.lnd := by obtain ⟨_, _, _, _, _, _, h⟩ := s.setEvt_eq blk bit; rw [h]
@[simp] theorem State.lnd_setEvtIf (s : State) (b : Bool) (blk bit : Nat) : (s.setEvtIf b blk bit).lnd = s.lnd := by obtain ⟨_, _, _, _, _, _, h⟩ := s.setEvtIf_eq b blk bit; rw [h]
@[simp] theorem State.hst_setEvt (s : State) (blk bit : Nat) : (s.setEvt blk bit).hst = s.hst := by obtain ⟨_, _, _, _, _, _, h⟩ := s.setEvt_eq blk bit; rw [h]
@[simp] theorem State.hst_setEvtIf (s : State) (b : Bool) (blk bit : Nat) : (s.setEvtIf b blk bit).hst = s.hst := by obtain ⟨_, _, _, _, _, _, h⟩ := s.setEvtIf_eq b blk bit; rw [h]
@[simp] theorem State.vlk_setEvt (s : State) (blk bit : Nat) : (s.setEvt blk bit).vlk = s.vlk := by obtain ⟨_, _, _, _, _, _, h⟩ := s.setEvt_eq blk bit; rw [h]
@[simp] theorem State.vlk_setEvtIf (s : State) (b : Bool) (blk bit : Nat) : (s.setEvtIf b blk bit).vlk = s.vlk := by obtain ⟨_, _, _, _, _, _, h⟩ := s.setEvtIf_eq b blk bit; rw [h]
@[simp] theorem State.yrd_setEvt (s : State) (blk bit : Nat) : (s.setEvt blk bit).yrd = s.yrd := by obtain ⟨_, _, _, _, _, _, h⟩ := s.setEvt_eq blk bit; rw [h]
@[simp] theorem State.yrd_setEvtIf (s : State) (b : Bool) (blk bit : Nat) : (s.setEvtIf b blk bit).yrd = s.yrd := by obtain ⟨_, _, _, _, _, _, h⟩ := s.setEvtIf_eq b blk bit; rw [h]
@[simp] theorem State.scl_setEvt (s : State) (blk bit : Nat) : (s.setEvt blk bit).scl = s.scl := by obtain ⟨_, _, _, _, _, _, h⟩ := s.setEvt_eq blk bit; rw [h]
@[simp] theorem State.scl_setEvtIf (s : State) (b : Bool) (blk bit : Nat) : (s.setEvtIf b blk bit).scl = s.scl := by obtain ⟨_, _, _, _, _, _, h⟩ := s.setEvtIf_eq b blk bit; rw [h]
@[simp] theorem State.tly_setEvt (s : State) (blk bit : Nat) : (s.setEvt blk bit).tly = s.tly := by obtain ⟨_, _, _, _, _, _, h⟩ := s.setEvt_eq blk bit; rw [h]
@[simp] theorem State.tly_setEvtIf (s : State) (b : Bool) (blk bit : Nat) : (s.setEvtIf b blk bit).tly = s.tly := by obtain ⟨_, _, _, _, _, _, h⟩ := s.setEvtIf_eq b blk bit; rw [h]
@[simp] theorem State.blz_setEvt (s : State) (blk bit : Nat) : (s.setEvt blk bit).blz = s.blz := by obtain ⟨_, _, _, _, _, _, h⟩ := s.setEvt_eq blk bit; rw [h]
@[simp] theorem State.blz_setEvtIf (s : State) (b : Bool) (blk bit : Nat) : (s.setEvtIf b blk bit).blz = s.blz := by obtain ⟨_, _, _, _, _, _, h⟩ := s.setEvtIf_eq b blk bit; rw [h]
@[simp] theorem State.imd_setEvt (s : State) (blk bit : Nat) : (s.setEvt blk bit).imd = s.imd := by obtain ⟨_, _, _, _, _, _, h⟩ := s.setEvt_eq blk bit; rw [h]
@[simp] theorem State.imd_setEvtIf (s : State) (b : Bool) (blk bit : Nat) : (s.setEvtIf b blk bit).imd = s.imd := by obtain ⟨_, _, _, _, _, _, h⟩ := s.setEvtIf_eq b blk bit; rw [h]
@[simp] theorem State.saf_setEvt (s : State) (blk bit : Nat) : (s.setEvt blk bit).saf = s.saf := by obtain ⟨_, _, _, _, _, _, h⟩ := s.setEvt_eq blk bit; rw [h]
@[simp] theorem State.saf_setEvtIf (s : State) (b : Bool) (blk bit : Nat) : (s.setEvtIf b blk bit).saf = s.saf := by obtain ⟨_, _, _, _, _, _, h⟩ := s.setEvtIf_eq b blk bit; rw [h]
@[simp] theorem State.pvy_setEvt (s : State) (blk bit : Nat) : (s.setEvt blk bit).pvy = s.pvy := by obtain ⟨_, _, _, _, _, _, h⟩ := s.setEvt_eq blk bit; rw [h]
@[simp] theorem State.pvy_setEvtIf (s : State) (b : Bool) (blk bit : Nat) : (s.setEvtIf b blk bit).pvy = s.pvy := by obtain ⟨_, _, _, _, _, _, h⟩ := s.setEvtIf_eq b blk bit; rw [h]
@[simp] theorem State.chk_setEvt (s : State) (blk bit : Nat) : (s.setEvt blk bit).chk = s.chk := by obtain ⟨_, _, _, _, _, _, h⟩ := s.setEvt_eq blk bit; rw [h]
@[simp] theorem State.chk_setEvtIf (s : State) (b : Bool) (blk bit : Nat) : (s.setEvtIf b blk bit).chk = s.chk := by obtain ⟨_, _, _, _, _, _, h⟩ := s.setEvtIf_eq b blk bit; rw [h]
@[simp] theorem State.skl_setEvt (s : State) (blk bit : Nat) : (s.setEvt blk bit).skl = s.skl := by obtain ⟨_, _, _, _, _, _, h⟩ := s.setEvt_eq blk bit; rw [h]
@[simp] theorem State.skl_setEvtIf (s : State) (b : Bool) (blk bit : Nat) : (s.setEvtIf b blk bit).skl = s.skl := by obtain ⟨_, _, _, _, _, _, h⟩ := s.setEvtIf_eq b blk bit; rw [h]
@[simp] theorem State.nfc_setEvt (s : State) (blk bit : Nat) : (s.setEvt blk bit).nfc = s.nfc := by obtain ⟨_, _, _, _, _, _, h⟩ := s.setEvt_eq blk bit; rw [h]
@[simp] theorem State.nfc_setEvtIf (s : State) (b : Bool) (blk bit : Nat) : (s.setEvtIf b blk bit).nfc = s.nfc := by obtain ⟨_, _, _, _, _, _, h⟩ := s.setEvtIf_eq b blk bit; rw [h]
@[simp] theorem State.brd_setEvt (s : State) (blk bit : Nat) : (s.setEvt blk bit).brd = s.brd := by obtain ⟨_, _, _, _, _, _, h⟩ := s.setEvt_eq blk bit; rw [h]
@[simp] theorem State.brd_setEvtIf (s : State) (b : Bool) (blk bit : Nat) : (s.setEvtIf b blk bit).brd = s.brd := by obtain ⟨_, _, _, _, _, _, h⟩ := s.setEvtIf_eq b blk bit; rw [h]
@[simp] theorem State.key_setEvt (s : State) (blk bit : Nat) : (s.setEvt blk bit).key = s.key := by obtain ⟨_, _, _, _, _, _, h⟩ := s.setEvt_eq blk bit; rw [h]
@[simp] theorem State.key_setEvtIf (s : State) (b : Bool) (blk bit : Nat) : (s.setEvtIf b blk bit).key = s.key := by obtain ⟨_, _, _, _, _, _, h⟩ := s.setEvtIf_eq b blk bit; rw [h]
@[simp] theorem State.tim_setEvt (s : State) (blk bit : Nat) : (s.setEvt blk bit).tim = s.tim := by obtain ⟨_, _, _, _, _, _, h⟩ := s.setEvt_eq blk bit; rw [h]
@[simp] theorem State.tim_setEvtIf (s : State) (b : Bool) (blk bit : Nat) : (s.setEvtIf b blk bit).tim = s.tim := by obtain ⟨_, _, _, _, _, _, h⟩ := s.setEvtIf_eq b blk bit; rw [h]
@[simp] theorem State.crs_setEvt (s : State) (blk bit : Nat) : (s.setEvt blk bit).crs = s.crs := by obtain ⟨_, _, _, _, _, _, h⟩ := s.setEvt_eq blk bit; rw [h]
@[simp] theorem State.crs_setEvtIf (s : State) (b : Bool) (blk bit : Nat) : (s.setEvtIf b blk bit).crs = s.crs := by obtain ⟨_, _, _, _, _, _, h⟩ := s.setEvtIf_eq b blk bit; rw [h]
@[simp] theorem State.mem_setEvt (s : State) (blk bit : Nat) : (s.setEvt blk bit).mem = s.mem := by obtain ⟨_, _, _, _, _, _, h⟩ := s.setEvt_eq blk bit; rw [h]
@[simp] theorem State.mem_setEvtIf (s : State) (b : Bool) (blk bit : Nat) : (s.setEvtIf b blk bit).mem = s.mem := by obtain ⟨_, _, _, _, _, _, h⟩ := s.setEvtIf_eq b blk bit; rw [h]
@[simp] theorem State.sent_setEvt (s : State) (blk bit : Nat) : (s.setEvt blk bit).sent = s.sent := by obtain ⟨_, _, _, _, _, _, h⟩ := s.setEvt_eq blk bit; rw [h]
@[simp] theorem State.sent_setEvtIf (s : State) (b : Bool) (blk bit : Nat) : (s.setEvtIf b blk bit).sent = s.sent := by obtain ⟨_, _, _, _, _, _, h⟩ := s.setEvtIf_eq b blk bit; rw [h]
@[simp] theorem State.fresh_setEvt (s : State) (blk bit : Nat) : (s.setEvt blk bit).fresh = s.fresh := by obtain ⟨_, _, _, _, _, _, h⟩ := s.setEvt_eq blk bit; rw [h]
@[simp] theorem State.fresh_setEvtIf (s : State) (b : Bool) (blk bit : Nat) : (s.setEvtIf b blk bit).fresh = s.fresh := by obtain ⟨_, _, _, _, _, _, h⟩ := s.setEvtIf_eq b blk bit; rw [h]
@[simp] theorem State.pending_setEvt (s : State) (blk bit : Nat) : (s.setEvt blk bit).pending = s.pending := by obtain ⟨_, _, _, _, _, _, h⟩ := s.setEvt_eq blk bit; rw [h]
@[simp] theorem State.pending_setEvtIf (s : State) (b : Bool) (blk bit : Nat) : (s.setEvtIf b blk bit).pending = s.pending := by obtain ⟨_, _, _, _, _, _, h⟩ := s.setEvtIf_eq b blk bit; rw [h]

end Sys2Proof.Machine
end

