-- ==== Sys2Proof/Laws/Keeps.lean ====
section
/-! SUPPORT. How `Keeps` composes: each law takes what has been kept so far through one more change. -/
namespace Sys2Proof.Machine

theorem Keeps.refl (s : State) : Keeps s s :=
  ⟨rfl, ⟨[], rfl⟩, id, id, Nat.le_refl _, id, rfl, Nat.le_refl _, id, Nat.le_refl _, fun _ h => h⟩

theorem Keeps.trans {s t u : State} (h : Keeps s t) (k : Keeps t u) : Keeps s u where
  pending := k.pending.trans h.pending
  sent := by
    obtain ⟨l, hl⟩ := h.sent
    obtain ⟨m, hm⟩ := k.sent
    exact ⟨m ++ l, by rw [hm, hl, List.append_assoc]⟩
  mem := fun x => k.mem (h.mem x)
  budget := fun x => k.budget (h.budget x)
  floor := Nat.le_trans h.floor k.floor
  scrapped := fun x => k.scrapped (h.scrapped x)
  device := k.device.trans h.device
  lseq := Nat.le_trans h.lseq k.lseq
  relOk := fun x => k.relOk (h.relOk x)
  cseq := Nat.le_trans h.cseq k.cseq
  fuses := fun r x => k.fuses r (h.fuses r x)

/-- The parts of the state that `Keeps` speaks of, but for memory, what was sent, the permits and the queue. -/
def Marks (t u : State) : Prop :=
  u.cfg.arbMin = t.cfg.arbMin ∧ u.key.lc = t.key.lc ∧ u.key.devId = t.key.devId ∧ u.blz.last = t.blz.last ∧ u.blz.released = t.blz.released ∧ u.saf.last = t.saf.last ∧ u.crs.fused = t.crs.fused

theorem Keeps.ofMarks {t u : State} (h1 : u.pending = t.pending) (h2 : ∃ l, u.sent = l ++ t.sent) (h3 : t.memOk → u.memOk)
    (h4 : t.budgetOk → u.budgetOk) (m : Marks t u) : Keeps t u :=
  ⟨h1, h2, h3, h4, Nat.le_of_eq m.1.symm, fun x => by rw [m.2.1]; exact x, m.2.2.1, Nat.le_of_eq m.2.2.2.1.symm,
    fun x => by unfold State.legalOk at *; rw [m.2.2.2.1, m.2.2.2.2.1]; exact x, Nat.le_of_eq m.2.2.2.2.2.1.symm,
    fun r x => by rw [m.2.2.2.2.2.2]; exact x⟩

/-- A change that leaves the queue, what was sent, memory, permits and the marks alone. -/
theorem Keeps.same {s t u : State} (h : Keeps s t) (h1 : u.pending = t.pending) (h2 : u.sent = t.sent) (h3 : u.mem = t.mem)
    (h4 : u.permits = t.permits) (m : Marks t u) : Keeps s u :=
  h.trans (.ofMarks h1 ⟨[], h2⟩ (fun x => by unfold State.memOk at *; rw [h3]; exact x)
    (fun x => by unfold State.budgetOk at *; rw [h4]; exact x) m)

/-- A record update of the other parts. -/
theorem Keeps.upd {s t : State} (h : Keeps s t) {x_sys x_cfg x_img x_net x_lnd x_hst x_vlk x_yrd x_scl x_tly x_blz x_imd x_saf x_pvy x_chk x_skl x_nfc x_brd x_key x_tim x_crs x_evt x_elog x_eseq x_elost x_eSec x_eCount x_fresh}
    (h0 : x_cfg.arbMin = t.cfg.arbMin) (h1 : x_key.lc = t.key.lc) (h2 : x_key.devId = t.key.devId) (h3 : x_blz.last = t.blz.last) (h4 : x_blz.released = t.blz.released) (h5 : x_saf.last = t.saf.last) (h6 : x_crs.fused = t.crs.fused) :
    Keeps s ⟨x_sys, t.permits, x_cfg, x_img, x_net, x_lnd, x_hst, x_vlk, x_yrd, x_scl, x_tly, x_blz, x_imd, x_saf, x_pvy, x_chk, x_skl, x_nfc, x_brd, x_key, x_tim, x_crs, x_evt, x_elog, x_eseq, x_elost, x_eSec, x_eCount, t.mem, t.sent, x_fresh, t.pending⟩ :=
  h.same rfl rfl rfl rfl ⟨h0, h1, h2, h3, h4, h5, h6⟩

/-- A record update of the other parts that leaves every mark alone. -/
theorem Keeps.plain {s t u : State} (h : Keeps s t) (h1 : u.pending = t.pending) (h2 : u.sent = t.sent) (h3 : u.mem = t.mem)
    (h4 : u.permits = t.permits) (h5 : u.cfg = t.cfg) (h6 : u.key = t.key) (h7 : u.blz = t.blz) (h8 : u.saf = t.saf) (h9 : u.crs = t.crs) :
    Keeps s u := h.same h1 h2 h3 h4 (by rw [Marks, h5, h6, h7, h8, h9]; exact ⟨rfl, rfl, rfl, rfl, rfl, rfl, rfl⟩)

theorem Keeps.ofIte {s t u : State} {p : Prop} [Decidable p] (h : p → Keeps s t) (k : ¬p → Keeps s u) : Keeps s (if p then t else u) := by
  split
  · exact h ‹_›
  · exact k ‹_›

theorem Keeps.ofIte1 {β : Type} {s : State} {t u : State × β} {p : Prop} [Decidable p] (h : p → Keeps s t.1) (k : ¬p → Keeps s u.1) :
    Keeps s (if p then t else u).1 := by
  split
  · exact h ‹_›
  · exact k ‹_›

theorem Keeps.ofIte2 {β : Type} {s : State} {t u : β × State} {p : Prop} [Decidable p] (h : p → Keeps s t.2) (k : ¬p → Keeps s u.2) :
    Keeps s (if p then t else u).2 := by
  split
  · exact h ‹_›
  · exact k ‹_›

/-- What an answer's state keeps. -/
def AnsKeeps (s : State) : Answer → Prop
  | .done r => Keeps s r.st
  | .wait _ t => Keeps s t

/-- What the next state of a meaning keeps. -/
def ResKeeps (s : State) : Res → Prop
  | .next t => Keeps s t
  | _ => True

theorem AnsKeeps.ofIte {s : State} {a b : Answer} {p : Prop} [Decidable p] (h : p → AnsKeeps s a) (k : ¬p → AnsKeeps s b) :
    AnsKeeps s (if p then a else b) := by
  split
  · exact h ‹_›
  · exact k ‹_›

theorem ResKeeps.ofIte {s : State} {a b : Res} {p : Prop} [Decidable p] (h : p → ResKeeps s a) (k : ¬p → ResKeeps s b) :
    ResKeeps s (if p then a else b) := by
  split
  · exact h ‹_›
  · exact k ‹_›

theorem Keeps.foldl {β : Type} {s : State} (f : State → β → State) (hf : ∀ t x, Keeps s t → Keeps s (f t x)) (l : List β) :
    ∀ t, Keeps s t → Keeps s (l.foldl f t) := by
  induction l with
  | nil => exact fun _ h => h
  | cons x r ih => exact fun t h => ih _ (hf t x h)

theorem Keeps.fold {β : Type} {s t : State} {f : State → β → State} {l : List β} (h : Keeps s t)
    (hf : ∀ t x, Keeps s t → Keeps s (f t x)) : Keeps s (l.foldl f t) := Keeps.foldl f hf l t h

theorem Keeps.fold1 {β γ : Type} {s : State} {f : State × β → γ → State × β} {l : List γ} {x : State × β} (h : Keeps s x.1)
    (hf : ∀ y c, Keeps s y.1 → Keeps s (f y c).1) : Keeps s (l.foldl f x).1 := by
  induction l generalizing x with
  | nil => exact h
  | cons c r ih => exact ih (hf x c h)

theorem Keeps.fold2 {β γ : Type} {s : State} {f : β × State → γ → β × State} {l : List γ} {x : β × State} (h : Keeps s x.2)
    (hf : ∀ y c, Keeps s y.2 → Keeps s (f y c).2) : Keeps s (l.foldl f x).2 := by
  induction l generalizing x with
  | nil => exact h
  | cons c r ih => exact ih (hf x c h)

theorem Keeps.send {s t : State} (h : Keeps s t) (o : Out) : Keeps s (t.send o) :=
  h.trans (.ofMarks rfl ⟨[o], rfl⟩ id id ⟨rfl, rfl, rfl, rfl, rfl, rfl, rfl⟩)

theorem Keeps.draw {s t : State} (h : Keeps s t) : Keeps s t.draw.2 := h.same rfl rfl rfl rfl ⟨rfl, rfl, rfl, rfl, rfl, rfl, rfl⟩

theorem tabWf_writeTab {m : Tab Byte} (h : tabWf memDefault m = true) (a : Nat) (l : List Byte) :
    tabWf memDefault (writeTab m a l) = true := by
  induction l generalizing m a with
  | nil => exact h
  | cons b r ih => exact ih (tabWf_tset _ h a b) (a + 1)

theorem Keeps.writeMem {s t : State} (h : Keeps s t) (a : Nat) (l : List Byte) : Keeps s (t.writeMem a l) :=
  h.trans (.ofMarks rfl ⟨[], rfl⟩ (fun x => tabWf_writeTab x a l) id ⟨rfl, rfl, rfl, rfl, rfl, rfl, rfl⟩)

theorem Keeps.setEvt {s t : State} (h : Keeps s t) (blk bit : Nat) : Keeps s (t.setEvt blk bit) := by
  unfold State.setEvt State.logEvent
  repeat' first | exact h | split | (dsimp only; split) | exact h.same rfl rfl rfl rfl ⟨rfl, rfl, rfl, rfl, rfl, rfl, rfl⟩

/-! ### Permits -/

theorem grantedPower_from (l : List Grant) : ∀ n, l.foldl (fun n g => n + g.power) n = n + grantedPower l := by
  induction l with
  | nil => intro n; rfl
  | cons g r ih =>
    intro n
    simp only [grantedPower, List.foldl_cons]
    rw [ih, ih (0 + g.power)]
    omega

theorem grantedPower_cons (g : Grant) (l : List Grant) : grantedPower (g :: l) = g.power + grantedPower l := by
  show (g :: l).foldl (fun n g => n + g.power) 0 = _
  rw [List.foldl_cons, grantedPower_from]
  omega

theorem grantedPower_filter (f : Grant → Bool) (l : List Grant) : grantedPower (l.filter f) ≤ grantedPower l := by
  induction l with
  | nil => exact Nat.le_refl _
  | cons g r ih =>
    simp only [List.filter_cons]
    split <;> simp only [grantedPower_cons] <;> omega

theorem grantedPower_map (f : Grant → Grant) (hf : ∀ g, (f g).power = g.power) (l : List Grant) :
    grantedPower (l.map f) = grantedPower l := by
  induction l with
  | nil => rfl
  | cons g r ih => simp only [List.map_cons, grantedPower_cons, hf, ih]

theorem grantedPower_append (l m : List Grant) : grantedPower (l ++ m) = grantedPower l + grantedPower m := by
  induction l with
  | nil => simp [grantedPower]
  | cons g r ih => simp only [List.cons_append, grantedPower_cons, ih]; omega

/-- A change of the permits alone that keeps the budget and grants no more. -/
theorem Keeps.permits {s t : State} (h : Keeps s t) (p : Permits) (hb : p.budget = t.permits.budget)
    (hg : grantedPower p.grants ≤ grantedPower t.permits.grants) : Keeps s { t with permits := p } :=
  h.trans (.ofMarks rfl ⟨[], rfl⟩ id (fun x => by unfold State.budgetOk at *; rw [hb]; exact Nat.le_trans hg x) ⟨rfl, rfl, rfl, rfl, rfl, rfl, rfl⟩)

/-! ### Rows of the tables -/

theorem Keeps.setBay {s t : State} (h : Keeps s t) (n : Nat) (x : Bay) : Keeps s (t.setBay n x) := h.same rfl rfl rfl rfl ⟨rfl, rfl, rfl, rfl, rfl, rfl, rfl⟩
theorem Keeps.modBay {s t : State} (h : Keeps s t) (n : Nat) (f : Bay → Bay) : Keeps s (t.modBay n f) := h.same rfl rfl rfl rfl ⟨rfl, rfl, rfl, rfl, rfl, rfl, rfl⟩
theorem Keeps.setCtx {s t : State} (h : Keeps s t) (n : Nat) (x : Ctx) : Keeps s (t.setCtx n x) := h.same rfl rfl rfl rfl ⟨rfl, rfl, rfl, rfl, rfl, rfl, rfl⟩
theorem Keeps.modCtx {s t : State} (h : Keeps s t) (n : Nat) (f : Ctx → Ctx) : Keeps s (t.modCtx n f) := h.same rfl rfl rfl rfl ⟨rfl, rfl, rfl, rfl, rfl, rfl, rfl⟩
theorem Keeps.setNode {s t : State} (h : Keeps s t) (n : Nat) (x : Node) : Keeps s (t.setNode n x) := h.same rfl rfl rfl rfl ⟨rfl, rfl, rfl, rfl, rfl, rfl, rfl⟩
theorem Keeps.modNode {s t : State} (h : Keeps s t) (n : Nat) (f : Node → Node) : Keeps s (t.modNode n f) := h.same rfl rfl rfl rfl ⟨rfl, rfl, rfl, rfl, rfl, rfl, rfl⟩
theorem Keeps.setMbay {s t : State} (h : Keeps s t) (n : Nat) (x : MBay) : Keeps s (t.setMbay n x) := h.same rfl rfl rfl rfl ⟨rfl, rfl, rfl, rfl, rfl, rfl, rfl⟩
theorem Keeps.modMbay {s t : State} (h : Keeps s t) (n : Nat) (f : MBay → MBay) : Keeps s (t.modMbay n f) := h.same rfl rfl rfl rfl ⟨rfl, rfl, rfl, rfl, rfl, rfl, rfl⟩
theorem Keeps.setPulse {s t : State} (h : Keeps s t) (n : Nat) (x : Pulse) : Keeps s (t.setPulse n x) := h.same rfl rfl rfl rfl ⟨rfl, rfl, rfl, rfl, rfl, rfl, rfl⟩
theorem Keeps.modPulse {s t : State} (h : Keeps s t) (n : Nat) (f : Pulse → Pulse) : Keeps s (t.modPulse n f) := h.same rfl rfl rfl rfl ⟨rfl, rfl, rfl, rfl, rfl, rfl, rfl⟩
theorem Keeps.setImdB {s t : State} (h : Keeps s t) (n : Nat) (x : ImdBay) : Keeps s (t.setImdB n x) := h.same rfl rfl rfl rfl ⟨rfl, rfl, rfl, rfl, rfl, rfl, rfl⟩
theorem Keeps.modImdB {s t : State} (h : Keeps s t) (n : Nat) (f : ImdBay → ImdBay) : Keeps s (t.modImdB n f) := h.same rfl rfl rfl rfl ⟨rfl, rfl, rfl, rfl, rfl, rfl, rfl⟩
theorem Keeps.setPoint {s t : State} (h : Keeps s t) (n : Nat) (x : Point) : Keeps s (t.setPoint n x) := h.same rfl rfl rfl rfl ⟨rfl, rfl, rfl, rfl, rfl, rfl, rfl⟩
theorem Keeps.modPoint {s t : State} (h : Keeps s t) (n : Nat) (f : Point → Point) : Keeps s (t.modPoint n f) := h.same rfl rfl rfl rfl ⟨rfl, rfl, rfl, rfl, rfl, rfl, rfl⟩
theorem Keeps.setShadow {s t : State} (h : Keeps s t) (n : Nat) (x : Point) : Keeps s (t.setShadow n x) := h.same rfl rfl rfl rfl ⟨rfl, rfl, rfl, rfl, rfl, rfl, rfl⟩
theorem Keeps.modShadow {s t : State} (h : Keeps s t) (n : Nat) (f : Point → Point) : Keeps s (t.modShadow n f) := h.same rfl rfl rfl rfl ⟨rfl, rfl, rfl, rfl, rfl, rfl, rfl⟩
theorem Keeps.setSub {s t : State} (h : Keeps s t) (n : Nat) (x : Sub) : Keeps s (t.setSub n x) := h.same rfl rfl rfl rfl ⟨rfl, rfl, rfl, rfl, rfl, rfl, rfl⟩
theorem Keeps.modSub {s t : State} (h : Keeps s t) (n : Nat) (f : Sub → Sub) : Keeps s (t.modSub n f) := h.same rfl rfl rfl rfl ⟨rfl, rfl, rfl, rfl, rfl, rfl, rfl⟩
theorem Keeps.setQueue {s t : State} (h : Keeps s t) (n : Nat) (x : Queue) : Keeps s (t.setQueue n x) := h.same rfl rfl rfl rfl ⟨rfl, rfl, rfl, rfl, rfl, rfl, rfl⟩
theorem Keeps.modQueue {s t : State} (h : Keeps s t) (n : Nat) (f : Queue → Queue) : Keeps s (t.modQueue n f) := h.same rfl rfl rfl rfl ⟨rfl, rfl, rfl, rfl, rfl, rfl, rfl⟩
theorem Keeps.setCnt {s t : State} (h : Keeps s t) (n : Nat) (x : Cnt) : Keeps s (t.setCnt n x) := h.same rfl rfl rfl rfl ⟨rfl, rfl, rfl, rfl, rfl, rfl, rfl⟩
theorem Keeps.modCnt {s t : State} (h : Keeps s t) (n : Nat) (f : Cnt → Cnt) : Keeps s (t.modCnt n f) := h.same rfl rfl rfl rfl ⟨rfl, rfl, rfl, rfl, rfl, rfl, rfl⟩
theorem Keeps.setChan {s t : State} (h : Keeps s t) (n : Nat) (x : Chan) : Keeps s (t.setChan n x) := h.same rfl rfl rfl rfl ⟨rfl, rfl, rfl, rfl, rfl, rfl, rfl⟩
theorem Keeps.modChan {s t : State} (h : Keeps s t) (n : Nat) (f : Chan → Chan) : Keeps s (t.modChan n f) := h.same rfl rfl rfl rfl ⟨rfl, rfl, rfl, rfl, rfl, rfl, rfl⟩
theorem Keeps.setLane {s t : State} (h : Keeps s t) (n : Nat) (x : Lane) : Keeps s (t.setLane n x) := h.same rfl rfl rfl rfl ⟨rfl, rfl, rfl, rfl, rfl, rfl, rfl⟩
theorem Keeps.modLane {s t : State} (h : Keeps s t) (n : Nat) (f : Lane → Lane) : Keeps s (t.modLane n f) := h.same rfl rfl rfl rfl ⟨rfl, rfl, rfl, rfl, rfl, rfl, rfl⟩
theorem Keeps.setGate {s t : State} (h : Keeps s t) (n : Nat) (x : Gate) : Keeps s (t.setGate n x) := h.same rfl rfl rfl rfl ⟨rfl, rfl, rfl, rfl, rfl, rfl, rfl⟩
theorem Keeps.modGate {s t : State} (h : Keeps s t) (n : Nat) (f : Gate → Gate) : Keeps s (t.modGate n f) := h.same rfl rfl rfl rfl ⟨rfl, rfl, rfl, rfl, rfl, rfl, rfl⟩
theorem Keeps.setSin {s t : State} (h : Keeps s t) (n : Nat) (x : SafIn) : Keeps s (t.setSin n x) := h.same rfl rfl rfl rfl ⟨rfl, rfl, rfl, rfl, rfl, rfl, rfl⟩
theorem Keeps.modSin {s t : State} (h : Keeps s t) (n : Nat) (f : SafIn → SafIn) : Keeps s (t.modSin n f) := h.same rfl rfl rfl rfl ⟨rfl, rfl, rfl, rfl, rfl, rfl, rfl⟩
theorem Keeps.setConn {s t : State} (h : Keeps s t) (n : Nat) (x : Hinge) : Keeps s (t.setConn n x) := h.same rfl rfl rfl rfl ⟨rfl, rfl, rfl, rfl, rfl, rfl, rfl⟩
theorem Keeps.modConn {s t : State} (h : Keeps s t) (n : Nat) (f : Hinge → Hinge) : Keeps s (t.modConn n f) := h.same rfl rfl rfl rfl ⟨rfl, rfl, rfl, rfl, rfl, rfl, rfl⟩
theorem Keeps.setSklNode {s t : State} (h : Keeps s t) (n : Nat) (x : SklNode) : Keeps s (t.setSklNode n x) := h.same rfl rfl rfl rfl ⟨rfl, rfl, rfl, rfl, rfl, rfl, rfl⟩
theorem Keeps.modSklNode {s t : State} (h : Keeps s t) (n : Nat) (f : SklNode → SklNode) : Keeps s (t.modSklNode n f) := h.same rfl rfl rfl rfl ⟨rfl, rfl, rfl, rfl, rfl, rfl, rfl⟩
theorem Keeps.setAnt {s t : State} (h : Keeps s t) (n : Nat) (x : Ant) : Keeps s (t.setAnt n x) := h.same rfl rfl rfl rfl ⟨rfl, rfl, rfl, rfl, rfl, rfl, rfl⟩
theorem Keeps.modAnt {s t : State} (h : Keeps s t) (n : Nat) (f : Ant → Ant) : Keeps s (t.modAnt n f) := h.same rfl rfl rfl rfl ⟨rfl, rfl, rfl, rfl, rfl, rfl, rfl⟩
theorem Keeps.setPanel {s t : State} (h : Keeps s t) (n : Nat) (x : Panel) : Keeps s (t.setPanel n x) := h.same rfl rfl rfl rfl ⟨rfl, rfl, rfl, rfl, rfl, rfl, rfl⟩
theorem Keeps.modPanel {s t : State} (h : Keeps s t) (n : Nat) (f : Panel → Panel) : Keeps s (t.modPanel n f) := h.same rfl rfl rfl rfl ⟨rfl, rfl, rfl, rfl, rfl, rfl, rfl⟩
theorem Keeps.setSlot {s t : State} (h : Keeps s t) (n : Nat) (x : KeySlot) : Keeps s (t.setSlot n x) := h.same rfl rfl rfl rfl ⟨rfl, rfl, rfl, rfl, rfl, rfl, rfl⟩
theorem Keeps.modSlot {s t : State} (h : Keeps s t) (n : Nat) (f : KeySlot → KeySlot) : Keeps s (t.modSlot n f) := h.same rfl rfl rfl rfl ⟨rfl, rfl, rfl, rfl, rfl, rfl, rfl⟩
theorem Keeps.setBank {s t : State} (h : Keeps s t) (n : Nat) (x : Bank) : Keeps s (t.setBank n x) := h.same rfl rfl rfl rfl ⟨rfl, rfl, rfl, rfl, rfl, rfl, rfl⟩
theorem Keeps.modBank {s t : State} (h : Keeps s t) (n : Nat) (f : Bank → Bank) : Keeps s (t.modBank n f) := h.same rfl rfl rfl rfl ⟨rfl, rfl, rfl, rfl, rfl, rfl, rfl⟩
theorem Keeps.setPort {s t : State} (h : Keeps s t) (n : Nat) (x : Port) : Keeps s (t.setPort n x) := h.same rfl rfl rfl rfl ⟨rfl, rfl, rfl, rfl, rfl, rfl, rfl⟩
theorem Keeps.modPort {s t : State} (h : Keeps s t) (n : Nat) (f : Port → Port) : Keeps s (t.modPort n f) := h.same rfl rfl rfl rfl ⟨rfl, rfl, rfl, rfl, rfl, rfl, rfl⟩
theorem Keeps.setRcd {s t : State} (h : Keeps s t) (n : Nat) (x : Rec) : Keeps s (t.setRcd n x) := h.same rfl rfl rfl rfl ⟨rfl, rfl, rfl, rfl, rfl, rfl, rfl⟩
theorem Keeps.modRcd {s t : State} (h : Keeps s t) (n : Nat) (f : Rec → Rec) : Keeps s (t.modRcd n f) := h.same rfl rfl rfl rfl ⟨rfl, rfl, rfl, rfl, rfl, rfl, rfl⟩

/-! ### Commands -/

theorem AnsKeeps.okay {s t : State} (h : Keeps s t) (d : List Byte) : AnsKeeps s (Machine.okay t d) := h
theorem AnsKeeps.fail {s t : State} (h : Keeps s t) (st : Status) (d : Nat) : AnsKeeps s (Machine.fail t st d) := h
theorem AnsKeeps.done {s : State} {r : Reply} (h : Keeps s r.st) : AnsKeeps s (.done r) := h
theorem AnsKeeps.wait {s t : State} (h : Keeps s t) (w : Waiting) : AnsKeeps s (.wait w t) := h
theorem ResKeeps.next {s t : State} (h : Keeps s t) : ResKeeps s (.next t) := h

theorem Keeps.writeGen {s t : State} (h : Keeps s t) (off : Nat) (l : List Byte) : Keeps s (t.writeGen off l) :=
  (h.writeMem (landing off) l).same rfl rfl rfl rfl ⟨rfl, rfl, rfl, rfl, rfl, rfl, rfl⟩

theorem Keeps.complete {s t : State} (h : Keeps s t) (q idx : Nat) (c : Cmd) (opcode : Nat) (st : Status) (detail : Nat)
    (data : List Byte) : Keeps s (t.complete q idx c opcode st detail data) := by
  unfold State.complete
  dsimp only
  split
  · exact Keeps.send (Keeps.modCnt (Keeps.setQueue (Keeps.writeGen h _ _) _ _) _ _) _
  · exact Keeps.modCnt (Keeps.setQueue (Keeps.writeGen h _ _) _ _) _ _

theorem Keeps.answer {s t : State} (h : Keeps s t) (q idx : Nat) (c : Cmd) (opcode : Nat) {a : Answer} (ha : AnsKeeps s a) :
    Keeps s (t.answer q idx c opcode a) := by
  cases a with
  | done r =>
    unfold State.answer
    apply Keeps.complete
    split
    · exact ha
    · exact h
  | wait w u => exact Keeps.same (t := u) ha rfl rfl rfl rfl ⟨rfl, rfl, rfl, rfl, rfl, rfl, rfl⟩

theorem Keeps.runCmd {s t : State} (h : Keeps s t) (c : Cmd) (opcode : Nat) {body : State → Answer}
    (hb : ∀ u, Keeps s u → AnsKeeps s (body u)) : Keeps s (t.runCmd c opcode body) := by
  have h1 : Keeps s (t.startNext (queueOf (opcode / 256) c.side)) := h.same rfl rfl rfl rfl ⟨rfl, rfl, rfl, rfl, rfl, rfl, rfl⟩
  unfold State.runCmd
  dsimp only
  refine .ofIte (fun _ => .ofIte (fun _ => h1.answer _ _ _ _ h1) fun _ => .ofIte (fun _ => ?_) fun _ => ?_) fun _ => h
  · exact h1.answer _ _ _ _ (hb _ h1)
  · exact h1.answer _ _ _ _ h1

theorem Keeps.finish {s t : State} (h : Keeps s t) (sel : Flight → Bool) (st : Status) (detail : Nat) (data : List Byte) :
    Keeps s (t.finish sel st detail data) := by
  unfold State.finish
  dsimp only
  exact Keeps.fold (h.same rfl rfl rfl rfl ⟨rfl, rfl, rfl, rfl, rfl, rfl, rfl⟩) (fun t f ht => ht.complete _ _ _ _ _ _ _)

end Sys2Proof.Machine
end

