-- ==== Sys2Proof/Laws/KeepsOps.lean ====
section
/-! SUPPORT. What every function keeps (`Keeps`): shared operations of one block. -/
namespace Sys2Proof.Machine

/-! ### Ops -/

theorem Keeps.logEvent {s0 s : State} (h : Keeps s0 s) (blk : Nat) (bit : Nat) (evt : Word) : Keeps s0 (s.logEvent blk bit evt) := by
  unfold Sys2Proof.Machine.State.logEvent
  repeat' first | (with_reducible assumption) | (with_reducible apply Keeps.ofIte) | (with_reducible apply Keeps.fold) | (with_reducible rfl) | (dsimp only) | intro _ | split | (with_reducible apply Keeps.upd) | rfl

theorem Keeps.setEvtIf {s0 s : State} (h : Keeps s0 s) (b : Bool) (blk : Nat) (bit : Nat) : Keeps s0 (s.setEvtIf b blk bit) := by
  unfold Sys2Proof.Machine.State.setEvtIf
  repeat' first | (with_reducible assumption) | (with_reducible apply Keeps.setEvt) | (with_reducible apply Keeps.ofIte) | (with_reducible apply Keeps.fold) | (with_reducible rfl) | (dsimp only) | intro _ | split | (with_reducible apply Keeps.upd) | rfl

theorem Keeps.startNext {s0 s : State} (h : Keeps s0 s) (q : Nat) : Keeps s0 (s.startNext q) := by
  unfold Sys2Proof.Machine.State.startNext
  repeat' first | (with_reducible assumption) | (with_reducible apply Keeps.modQueue) | (with_reducible apply Keeps.ofIte) | (with_reducible apply Keeps.fold) | (with_reducible rfl) | (dsimp only) | intro _ | split | (with_reducible apply Keeps.upd) | rfl

/-! ### Permits -/

theorem Keeps.present {s0 s : State} (h : Keeps s0 s) (o : PermitOwner) (power dur prio wait : Nat) (arrival : Nat) :
    Keeps s0 (s.present o power dur prio wait arrival) := h.permits _ rfl (Nat.le_refl _)

theorem Keeps.release {s0 s : State} (h : Keeps s0 s) (o : PermitOwner) : Keeps s0 (s.release o) :=
  h.permits _ rfl (grantedPower_filter _ _)

theorem Keeps.unwait {s0 s : State} (h : Keeps s0 s) (id : Nat) : Keeps s0 (s.unwait id) := h.permits _ rfl (Nat.le_refl _)

/-- A request that fits the budget is granted (R65). -/
theorem Keeps.grantReq {s0 s : State} (h : Keeps s0 s) (r : PReq) (hf : s.fits r = true) : Keeps s0 (s.grantReq r) := by
  simp only [State.fits, Bool.and_eq_true, decide_eq_true_eq] at hf
  refine h.trans (.ofMarks rfl ⟨[], rfl⟩ id (fun _ => ?_) ⟨rfl, rfl, rfl, rfl, rfl, rfl, rfl⟩)
  show grantedPower (s.permits.grants ++ [_]) ≤ s.permits.budget
  rw [grantedPower_append]
  simpa [grantedPower] using hf.2

theorem Keeps.countFail {s0 s : State} (h : Keeps s0 s) : Keeps s0 s.countFail := h.permits _ rfl (Nat.le_refl _)

/-! ### Migrate -/

theorem Keeps.showPending {s0 s : State} (h : Keeps s0 s) : Keeps s0 (s.showPending) := by
  unfold Sys2Proof.Machine.State.showPending
  repeat' first | (with_reducible assumption) | (with_reducible apply Keeps.ofIte) | (with_reducible apply Keeps.fold) | (with_reducible rfl) | (dsimp only) | intro _ | split | (with_reducible apply Keeps.upd) | rfl

theorem Keeps.swMoved {s0 s : State} (h : Keeps s0 s) (id : Nat) : Keeps s0 (s.swMoved id) := by
  unfold Sys2Proof.Machine.State.swMoved
  repeat' first | (with_reducible assumption) | (with_reducible apply Keeps.ofIte1) | (with_reducible apply Keeps.fold1) | (with_reducible apply Keeps.ofIte) | (with_reducible apply Keeps.fold) | (with_reducible rfl) | (dsimp only) | intro _ | split | (with_reducible apply Keeps.upd) | rfl

theorem Keeps.migrateRec {s0 s : State} (h : Keeps s0 s) (r : Nat × Nat) : Keeps s0 (s.migrateRec r) := by
  unfold Sys2Proof.Machine.State.migrateRec
  repeat' first | (with_reducible assumption) | (with_reducible apply Keeps.swMoved) | (with_reducible apply Keeps.ofIte1) | (with_reducible apply Keeps.fold1) | (with_reducible apply Keeps.ofIte2) | (with_reducible apply Keeps.fold2) | (with_reducible apply Keeps.ofIte) | (with_reducible apply Keeps.fold) | (with_reducible rfl) | (dsimp only) | intro _ | split | (with_reducible apply Keeps.upd) | rfl

theorem Keeps.migrateSome {s0 : State} (n i : Nat) (l : List (Nat × Nat)) {s : State} (h : Keeps s0 s) :
    Keeps s0 (migrateSome n i l s) := by
  induction l generalizing i s with
  | nil => exact h
  | cons r l ih => exact .ofIte (fun _ => ih _ (h.migrateRec r)) fun _ => h

theorem Keeps.migrateRecords {s0 s : State} (h : Keeps s0 s) (n : Nat) : Keeps s0 (s.migrateRecords n) := by
  unfold Sys2Proof.Machine.State.migrateRecords
  repeat' first | (with_reducible assumption) | (with_reducible apply Keeps.migrateSome) | (with_reducible apply Keeps.ofIte) | (with_reducible apply Keeps.fold) | (with_reducible rfl) | (dsimp only) | intro _ | split | (with_reducible apply Keeps.upd) | rfl

theorem Keeps.resumeMark {s0 s : State} (h : Keeps s0 s) : Keeps s0 (s.resumeMark) := by
  unfold Sys2Proof.Machine.State.resumeMark
  repeat' first | (with_reducible assumption) | (with_reducible apply Keeps.migrateRec) | (with_reducible apply Keeps.ofIte) | (with_reducible apply Keeps.fold) | (with_reducible rfl) | (dsimp only) | intro _ | split | (with_reducible apply Keeps.upd) | rfl

/-! ### Choker -/

theorem Keeps.askConduction {s0 s : State} (h : Keeps s0 s) (ch : Nat) : Keeps s0 (s.askConduction ch) := by
  unfold Sys2Proof.Machine.State.askConduction
  repeat' first | (with_reducible assumption) | (with_reducible apply Keeps.present) | (with_reducible apply Keeps.ofIte) | (with_reducible apply Keeps.fold) | (with_reducible rfl) | (dsimp only) | intro _ | split | (with_reducible apply Keeps.upd) | rfl

theorem Keeps.chkAsk {s0 s : State} (h : Keeps s0 s) (ch : Nat) (duty : Nat) (retry : Bool) : Keeps s0 (s.chkAsk ch duty retry) := by
  unfold Sys2Proof.Machine.State.chkAsk
  repeat' first | (with_reducible assumption) | (with_reducible apply Keeps.modChan) | (with_reducible apply Keeps.present) | (with_reducible apply Keeps.ofIte) | (with_reducible apply Keeps.fold) | (with_reducible rfl) | (dsimp only) | intro _ | split | (with_reducible apply Keeps.upd) | rfl

theorem Keeps.chkRelease {s0 s : State} (h : Keeps s0 s) (ch : Nat) : Keeps s0 (s.chkRelease ch) := by
  unfold Sys2Proof.Machine.State.chkRelease
  repeat' first | (with_reducible assumption) | (with_reducible apply Keeps.release) | (with_reducible apply Keeps.ofIte) | (with_reducible apply Keeps.fold) | (with_reducible rfl) | (dsimp only) | intro _ | split | (with_reducible apply Keeps.upd) | rfl

theorem Keeps.chkStop {s0 s : State} (h : Keeps s0 s) (ch : Nat) (toSt : ChState) (cause : ChCause) : Keeps s0 (s.chkStop ch toSt cause) := by
  unfold Sys2Proof.Machine.State.chkStop
  repeat' first | (with_reducible assumption) | (with_reducible apply Keeps.chkRelease) | (with_reducible apply Keeps.modChan) | (with_reducible apply Keeps.ofIte) | (with_reducible apply Keeps.fold) | (with_reducible rfl) | (dsimp only) | intro _ | split | (with_reducible apply Keeps.upd) | rfl

theorem Keeps.chkOff {s0 s : State} (h : Keeps s0 s) (ch : Nat) : Keeps s0 (s.chkOff ch) := by
  unfold Sys2Proof.Machine.State.chkOff
  repeat' first | (with_reducible assumption) | (with_reducible apply Keeps.chkStop) | (with_reducible apply Keeps.modChan) | (with_reducible apply Keeps.ofIte) | (with_reducible apply Keeps.fold) | (with_reducible rfl) | (dsimp only) | intro _ | split | (with_reducible apply Keeps.upd) | rfl

theorem Keeps.chkInrush {s0 s : State} (h : Keeps s0 s) (ch : Nat) : Keeps s0 (s.chkInrush ch) := by
  unfold Sys2Proof.Machine.State.chkInrush
  repeat' first | (with_reducible assumption) | (with_reducible apply Keeps.modChan) | (with_reducible apply Keeps.ofIte) | (with_reducible apply Keeps.fold) | (with_reducible rfl) | (dsimp only) | intro _ | split | (with_reducible apply Keeps.upd) | rfl

theorem Keeps.chkConduct {s0 s : State} (h : Keeps s0 s) (ch : Nat) (power : Nat) : Keeps s0 (s.chkConduct ch power) := by
  unfold Sys2Proof.Machine.State.chkConduct
  repeat' first | (with_reducible assumption) | (with_reducible apply Keeps.modChan) | (with_reducible apply Keeps.ofIte) | (with_reducible apply Keeps.fold) | (with_reducible rfl) | (dsimp only) | intro _ | split | (with_reducible apply Keeps.upd) | rfl

theorem Keeps.chkLatch {s0 s : State} (h : Keeps s0 s) (ch : Nat) (cause : ChCause) : Keeps s0 (s.chkLatch ch cause) := by
  unfold Sys2Proof.Machine.State.chkLatch
  repeat' first | (with_reducible assumption) | (with_reducible apply Keeps.chkStop) | (with_reducible apply Keeps.setEvt) | (with_reducible apply Keeps.ofIte) | (with_reducible apply Keeps.fold) | (with_reducible rfl) | (dsimp only) | intro _ | split | (with_reducible apply Keeps.upd) | rfl

theorem Keeps.chkFault {s0 s : State} (h : Keeps s0 s) (ch : Nat) (cause : ChCause) : Keeps s0 (s.chkFault ch cause) := by
  unfold Sys2Proof.Machine.State.chkFault
  repeat' first | (with_reducible assumption) | (with_reducible apply Keeps.modChan) | (with_reducible apply Keeps.setEvt) | (with_reducible apply Keeps.chkLatch) | (with_reducible apply Keeps.chkStop) | (with_reducible apply Keeps.ofIte) | (with_reducible apply Keeps.fold) | (with_reducible rfl) | (dsimp only) | intro _ | split | (with_reducible apply Keeps.upd) | rfl

theorem Keeps.chkThermal {s0 s : State} (h : Keeps s0 s) (ch : Nat) (cause : ChCause) : Keeps s0 (s.chkThermal ch cause) := by
  unfold Sys2Proof.Machine.State.chkThermal
  repeat' first | (with_reducible assumption) | (with_reducible apply Keeps.modChan) | (with_reducible apply Keeps.chkStop) | (with_reducible apply Keeps.setEvt) | (with_reducible apply Keeps.ofIte) | (with_reducible apply Keeps.fold) | (with_reducible rfl) | (dsimp only) | intro _ | split | (with_reducible apply Keeps.upd) | rfl

theorem Keeps.shedOne {s0 s : State} (h : Keeps s0 s) (ch : Nat) : Keeps s0 (s.shedOne ch) := by
  unfold Sys2Proof.Machine.State.shedOne
  repeat' first | (with_reducible assumption) | (with_reducible apply Keeps.chkStop) | (with_reducible apply Keeps.modChan) | (with_reducible apply Keeps.setEvt) | (with_reducible apply Keeps.ofIte) | (with_reducible apply Keeps.fold) | (with_reducible rfl) | (dsimp only) | intro _ | split | (with_reducible apply Keeps.upd) | rfl

theorem Keeps.shedUntil {s0 s : State} (h : Keeps s0 s) (limit : Nat) (figure : Nat → Nat) (n total : Nat) :
    Keeps s0 (s.shedUntil limit figure n total) := by
  induction n generalizing s total with
  | zero => exact h
  | succ n ih =>
    unfold State.shedUntil
    repeat' first | (with_reducible assumption) | (with_reducible apply ih) | (with_reducible apply Keeps.shedOne) | (with_reducible apply Keeps.ofIte) | (dsimp only) | intro _ | split

theorem Keeps.chkDuty {s0 s : State} (h : Keeps s0 s) (ch : Nat) (d : Nat) : Keeps s0 (s.chkDuty ch d) := by
  unfold Sys2Proof.Machine.State.chkDuty
  repeat' first | (with_reducible assumption) | (with_reducible apply Keeps.chkOff) | (with_reducible apply Keeps.modChan) | (with_reducible apply Keeps.chkAsk) | (with_reducible apply Keeps.ofIte) | (with_reducible apply Keeps.fold) | (with_reducible rfl) | (dsimp only) | intro _ | split | (with_reducible apply Keeps.upd) | rfl

/-! ### Stand -/

theorem Keeps.lineWritten {s0 s : State} (h : Keeps s0 s) (mram : Bool) (a : Nat) (n : Nat) : Keeps s0 (s.lineWritten mram a n) := by
  unfold Sys2Proof.Machine.State.lineWritten
  repeat' first | (with_reducible assumption) | (with_reducible apply Keeps.ofIte1) | (with_reducible apply Keeps.fold1) | (with_reducible apply Keeps.ofIte2) | (with_reducible apply Keeps.fold2) | (with_reducible apply Keeps.ofIte) | (with_reducible apply Keeps.fold) | (with_reducible rfl) | (dsimp only) | intro _ | split | (with_reducible apply Keeps.upd) | rfl

theorem Keeps.writeBack {s0 s : State} (h : Keeps s0 s) (n : Nat) : Keeps s0 (s.writeBack n) := by
  unfold Sys2Proof.Machine.State.writeBack
  repeat' first | (with_reducible assumption) | (with_reducible apply Keeps.writeMem) | (with_reducible apply Keeps.lineWritten) | (with_reducible apply Keeps.setPoint) | (with_reducible apply Keeps.ofIte) | (with_reducible apply Keeps.fold) | (with_reducible rfl) | (dsimp only) | intro _ | split | (with_reducible apply Keeps.upd) | rfl

theorem Keeps.touch {s0 s : State} (h : Keeps s0 s) (n : Nat) : Keeps s0 (s.touch n) := by
  unfold Sys2Proof.Machine.State.touch
  repeat' first | (with_reducible assumption) | (with_reducible apply Keeps.writeBack) | (with_reducible apply Keeps.ofIte) | (with_reducible apply Keeps.fold) | (with_reducible rfl) | (dsimp only) | intro _ | split | (with_reducible apply Keeps.upd) | rfl

theorem Keeps.passOn {s0 s : State} (h : Keeps s0 s) (own : Bool) (f : RingFrame) : Keeps s0 (s.passOn own f) := by
  unfold Sys2Proof.Machine.State.passOn
  repeat' first | (with_reducible assumption) | (with_reducible apply Keeps.present) | (with_reducible apply Keeps.send) | (with_reducible apply Keeps.ofIte) | (with_reducible apply Keeps.fold) | (with_reducible rfl) | (dsimp only) | intro _ | split | (with_reducible apply Keeps.upd) | rfl

theorem Keeps.deliver {s0 s : State} (h : Keeps s0 s) (h : Nat) (gid : Nat) (p : Point) : Keeps s0 (s.deliver h gid p) := by
  unfold Sys2Proof.Machine.State.deliver
  repeat' first | (with_reducible assumption) | (with_reducible apply Keeps.draw) | (with_reducible apply Keeps.setSub) | (with_reducible apply Keeps.setEvt) | (with_reducible apply Keeps.writeGen) | (with_reducible apply Keeps.ofIte1) | (with_reducible apply Keeps.fold1) | (with_reducible apply Keeps.ofIte2) | (with_reducible apply Keeps.fold2) | (with_reducible apply Keeps.ofIte) | (with_reducible apply Keeps.fold) | (with_reducible rfl) | (dsimp only) | intro _ | split | (with_reducible apply Keeps.upd) | rfl

theorem Keeps.publish {s0 s : State} (h : Keeps s0 s) (gid : Nat) (p : Point) : Keeps s0 (s.publish gid p) := by
  unfold Sys2Proof.Machine.State.publish
  repeat' first | (with_reducible assumption) | (with_reducible apply Keeps.deliver) | (with_reducible apply Keeps.send) | (with_reducible apply Keeps.ofIte) | (with_reducible apply Keeps.fold) | (with_reducible rfl) | (dsimp only) | intro _ | split | (with_reducible apply Keeps.upd) | rfl

theorem Keeps.publishOwn {s0 s : State} (h : Keeps s0 s) (n : Nat) : Keeps s0 (s.publishOwn n) := by
  unfold Sys2Proof.Machine.State.publishOwn
  repeat' first | (with_reducible assumption) | (with_reducible apply Keeps.setPoint) | (with_reducible apply Keeps.publish) | (with_reducible apply Keeps.ofIte) | (with_reducible apply Keeps.fold) | (with_reducible rfl) | (dsimp only) | intro _ | split | (with_reducible apply Keeps.upd) | rfl

theorem Keeps.catchMark {s0 s : State} (h : Keeps s0 s) (dir : Nat) : Keeps s0 (s.catchMark dir) := by
  unfold Sys2Proof.Machine.State.catchMark
  repeat' first | (with_reducible assumption) | (with_reducible apply Keeps.ofIte) | (with_reducible apply Keeps.fold) | (with_reducible rfl) | (dsimp only) | intro _ | split | (with_reducible apply Keeps.upd) | rfl

theorem Keeps.siteAdd {s0 s : State} (h : Keeps s0 s) (dir : Nat) (inc : Nat) (t : Stamp) : Keeps s0 (s.siteAdd dir inc t) := by
  unfold Sys2Proof.Machine.State.siteAdd
  repeat' first | (with_reducible assumption) | (with_reducible apply Keeps.ofIte) | (with_reducible apply Keeps.fold) | (with_reducible rfl) | (dsimp only) | intro _ | split | (with_reducible apply Keeps.upd) | rfl

theorem Keeps.demandTake {s0 s : State} (h : Keeps s0 s) (dir : Nat) (last : Option Nat) (v : DWord) (t : Stamp) : Keeps s0 (s.demandTake dir last v t) := by
  unfold Sys2Proof.Machine.State.demandTake
  repeat' first | (with_reducible assumption) | (with_reducible apply Keeps.siteAdd) | (with_reducible apply Keeps.catchMark) | (with_reducible apply Keeps.setEvtIf) | (with_reducible apply Keeps.ofIte) | (with_reducible apply Keeps.fold) | (with_reducible rfl) | (dsimp only) | intro _ | split | (with_reducible apply Keeps.upd) | rfl

theorem Keeps.memberTake {s0 s : State} (h : Keeps s0 s) (dev : Nat) (bay : Nat) (imp : Nat) (exp : Nat) (t : Stamp) : Keeps s0 (s.memberTake dev bay imp exp t) := by
  unfold Sys2Proof.Machine.State.memberTake
  repeat' first | (with_reducible assumption) | (with_reducible apply Keeps.siteAdd) | (with_reducible apply Keeps.catchMark) | (with_reducible apply Keeps.ofIte1) | (with_reducible apply Keeps.fold1) | (with_reducible apply Keeps.ofIte) | (with_reducible apply Keeps.fold) | (with_reducible rfl) | (dsimp only) | intro _ | split | (with_reducible apply Keeps.upd) | rfl

theorem Keeps.demandSeen {s0 s : State} (h : Keeps s0 s) (gid : Nat) (v : DWord) (t : Stamp) : Keeps s0 (s.demandSeen gid v t) := by
  unfold Sys2Proof.Machine.State.demandSeen
  repeat' first | (with_reducible assumption) | (with_reducible apply Keeps.demandTake) | (with_reducible apply Keeps.ofIte) | (with_reducible apply Keeps.fold) | (with_reducible rfl) | (dsimp only) | intro _ | split | (with_reducible apply Keeps.upd) | rfl

theorem Keeps.storePoint {s0 s : State} (h : Keeps s0 s) (n : Nat) (old : Point) (new : Point) : Keeps s0 (s.storePoint n old new) := by
  unfold Sys2Proof.Machine.State.storePoint
  repeat' first | (with_reducible assumption) | (with_reducible apply Keeps.setEvtIf) | (with_reducible apply Keeps.touch) | (with_reducible apply Keeps.setPoint) | (with_reducible apply Keeps.publishOwn) | (with_reducible apply Keeps.ofIte) | (with_reducible apply Keeps.fold) | (with_reducible rfl) | (dsimp only) | intro _ | split | (with_reducible apply Keeps.upd) | rfl

theorem Keeps.pubNext {s0 s : State} (h : Keeps s0 s) (n : Nat) : Keeps s0 (s.pubNext n) := by
  unfold Sys2Proof.Machine.State.pubNext
  repeat' first | (with_reducible assumption) | (with_reducible apply Keeps.publishOwn) | (with_reducible apply Keeps.setPoint) | (with_reducible apply Keeps.ofIte) | (with_reducible apply Keeps.fold) | (with_reducible rfl) | (dsimp only) | intro _ | split | (with_reducible apply Keeps.upd) | rfl

theorem Keeps.ptUpdate {s0 s : State} (h : Keeps s0 s) (n : Nat) (x : DWord) (t : Stamp) (bad : Bool) : Keeps s0 (s.ptUpdate n x t bad) := by
  unfold Sys2Proof.Machine.State.ptUpdate
  repeat' first | (with_reducible assumption) | (with_reducible apply Keeps.setEvt) | (with_reducible apply Keeps.storePoint) | (with_reducible apply Keeps.demandSeen) | (with_reducible apply Keeps.ofIte1) | (with_reducible apply Keeps.fold1) | (with_reducible apply Keeps.ofIte2) | (with_reducible apply Keeps.fold2) | (with_reducible apply Keeps.ofIte) | (with_reducible apply Keeps.fold) | (with_reducible rfl) | (dsimp only) | intro _ | split | (with_reducible apply Keeps.upd) | rfl

theorem Keeps.later {s0 s : State} (h : Keeps s0 s) : Keeps s0 (s.later) := by
  unfold Sys2Proof.Machine.State.later
  repeat' first | (with_reducible assumption) | (with_reducible apply Keeps.ofIte) | (with_reducible apply Keeps.fold) | (with_reducible rfl) | (dsimp only) | intro _ | split | (with_reducible apply Keeps.upd) | rfl

theorem Keeps.ptArrive {s0 s : State} (h : Keeps s0 s) (n : Nat) (x : DWord) (bad : Bool) : Keeps s0 (s.ptArrive n x bad) := by
  unfold Sys2Proof.Machine.State.ptArrive
  repeat' first | (with_reducible assumption) | (with_reducible apply Keeps.later) | (with_reducible apply Keeps.ptUpdate) | (with_reducible apply Keeps.ofIte) | (with_reducible apply Keeps.fold) | (with_reducible rfl) | (dsimp only) | intro _ | split | (with_reducible apply Keeps.upd) | rfl

theorem Keeps.engineUpdate {s0 s : State} (h : Keeps s0 s) (gid : Nat) (q : Rat) (bad : Bool) : Keeps s0 (s.engineUpdate gid q bad) := by
  unfold Sys2Proof.Machine.State.engineUpdate
  repeat' first | (with_reducible assumption) | (with_reducible apply Keeps.ptArrive) | (with_reducible apply Keeps.send) | (with_reducible apply Keeps.ofIte) | (with_reducible apply Keeps.fold) | (with_reducible rfl) | (dsimp only) | intro _ | split | (with_reducible apply Keeps.upd) | rfl

/-! ### Peavey -/

theorem Keeps.laneDeliver {s0 s : State} (h : Keeps s0 s) (l : Lane) : Keeps s0 (s.laneDeliver l) := by
  unfold Sys2Proof.Machine.State.laneDeliver
  repeat' first | (with_reducible assumption) | (with_reducible apply Keeps.engineUpdate) | (with_reducible apply Keeps.chkDuty) | (with_reducible apply Keeps.ofIte) | (with_reducible apply Keeps.fold) | (with_reducible rfl) | (dsimp only) | intro _ | split | (with_reducible apply Keeps.upd) | rfl

theorem Keeps.laneHeld {s0 s : State} (h : Keeps s0 s) (n : Nat) (instant : Nat) : Keeps s0 (s.laneHeld n instant) := by
  unfold Sys2Proof.Machine.State.laneHeld
  repeat' first | (with_reducible assumption) | (with_reducible apply Keeps.setLane) | (with_reducible apply Keeps.setEvtIf) | (with_reducible apply Keeps.ofIte) | (with_reducible apply Keeps.fold) | (with_reducible rfl) | (dsimp only) | intro _ | split | (with_reducible apply Keeps.upd) | rfl

theorem Keeps.laneRun {s0 s : State} (h : Keeps s0 s) (n : Nat) (instant : Nat) : Keeps s0 (s.laneRun n instant) := by
  unfold Sys2Proof.Machine.State.laneRun
  repeat' first | (with_reducible assumption) | (with_reducible apply Keeps.shown) | (with_reducible apply Keeps.supervise) | (with_reducible apply Keeps.setLane) | (with_reducible apply Keeps.setEvtIf) | (with_reducible apply Keeps.laneDeliver) | (with_reducible apply Keeps.ofIte1) | (with_reducible apply Keeps.fold1) | (with_reducible apply Keeps.ofIte2) | (with_reducible apply Keeps.fold2) | (with_reducible apply Keeps.ofIte) | (with_reducible apply Keeps.fold) | (with_reducible rfl) | (dsimp only) | intro _ | split | (with_reducible apply Keeps.upd) | rfl

theorem Keeps.sampleLane {s0 s : State} (h : Keeps s0 s) (n : Nat) (instant : Nat) : Keeps s0 (s.sampleLane n instant) := by
  unfold Sys2Proof.Machine.State.sampleLane
  repeat' first | (with_reducible assumption) | (with_reducible apply Keeps.laneHeld) | (with_reducible apply Keeps.laneRun) | (with_reducible apply Keeps.ofIte) | (with_reducible apply Keeps.fold) | (with_reducible rfl) | (dsimp only) | intro _ | split | (with_reducible apply Keeps.upd) | rfl

theorem Keeps.laneWrite {s0 s : State} (h : Keeps s0 s) (off : Nat) (v : Word) : Keeps s0 (s.laneWrite off v) := by
  unfold State.laneWrite
  split
  · exact h
  · dsimp only
    exact .ofIte (fun _ => h) fun _ => .ofIte (fun _ => h.setLane _ _) fun _ => .ofIte (fun _ => h.setLane _ _) fun _ => h

theorem Keeps.lanesRestart {s0 s : State} (h : Keeps s0 s) : Keeps s0 (s.lanesRestart) := by
  unfold Sys2Proof.Machine.State.lanesRestart
  repeat' first | (with_reducible assumption) | (with_reducible apply Keeps.shown) | (with_reducible apply Keeps.ofIte) | (with_reducible apply Keeps.fold) | (with_reducible rfl) | (dsimp only) | intro _ | split | (with_reducible apply Keeps.upd) | rfl

/-! ### Clock -/

theorem Keeps.setServo {s0 s : State} (h : Keeps s0 s) (v : Servo) : Keeps s0 (s.setServo v) := by
  unfold Sys2Proof.Machine.State.setServo
  repeat' first | (with_reducible assumption) | (with_reducible apply Keeps.setEvtIf) | (with_reducible apply Keeps.ofIte) | (with_reducible apply Keeps.fold) | (with_reducible rfl) | (dsimp only) | intro _ | split | (with_reducible apply Keeps.upd) | rfl

theorem Keeps.lockIfDue {s0 s : State} (h : Keeps s0 s) : Keeps s0 (s.lockIfDue) := by
  unfold Sys2Proof.Machine.State.lockIfDue
  repeat' first | (with_reducible assumption) | (with_reducible apply Keeps.setServo) | (with_reducible apply Keeps.ofIte) | (with_reducible apply Keeps.fold) | (with_reducible rfl) | (dsimp only) | intro _ | split | (with_reducible apply Keeps.upd) | rfl

theorem Keeps.accept {s0 s : State} (h : Keeps s0 s) (o : Int) : Keeps s0 (s.accept o) := by
  unfold Sys2Proof.Machine.State.accept
  repeat' first | (with_reducible assumption) | (with_reducible apply Keeps.setServo) | (with_reducible apply Keeps.lockIfDue) | (with_reducible apply Keeps.ofIte) | (with_reducible apply Keeps.fold) | (with_reducible rfl) | (dsimp only) | intro _ | split | (with_reducible apply Keeps.upd) | rfl

theorem Keeps.offset {s0 s : State} (h : Keeps s0 s) (o : Int) : Keeps s0 (s.offset o).2 := by
  unfold Sys2Proof.Machine.State.offset
  repeat' first | (with_reducible assumption) | (with_reducible apply Keeps.accept) | (with_reducible apply Keeps.setEvt) | (with_reducible apply Keeps.ofIte2) | (with_reducible apply Keeps.fold2) | (with_reducible apply Keeps.ofIte) | (with_reducible apply Keeps.fold) | (with_reducible rfl) | (dsimp only) | intro _ | split | (with_reducible apply Keeps.upd) | rfl

theorem Keeps.holdCheck {s0 s : State} (h : Keeps s0 s) : Keeps s0 (s.holdCheck) := by
  unfold Sys2Proof.Machine.State.holdCheck
  repeat' first | (with_reducible assumption) | (with_reducible apply Keeps.setEvt) | (with_reducible apply Keeps.ofIte) | (with_reducible apply Keeps.fold) | (with_reducible rfl) | (dsimp only) | intro _ | split | (with_reducible apply Keeps.upd) | rfl

theorem Keeps.nextBoundary {s0 s : State} (h : Keeps s0 s) : Keeps s0 (s.nextBoundary) := by
  unfold Sys2Proof.Machine.State.nextBoundary
  repeat' first | (with_reducible assumption) | (with_reducible apply Keeps.ofIte) | (with_reducible apply Keeps.fold) | (with_reducible rfl) | (dsimp only) | intro _ | split | (with_reducible apply Keeps.upd) | rfl

theorem Keeps.setTime {s0 s : State} (h : Keeps s0 s) (t : Stamp) : Keeps s0 (s.setTime t) := by
  unfold Sys2Proof.Machine.State.setTime
  repeat' first | (with_reducible assumption) | (with_reducible apply Keeps.ofIte) | (with_reducible apply Keeps.fold) | (with_reducible rfl) | (dsimp only) | intro _ | split | (with_reducible apply Keeps.upd) | rfl

/-! ### Blaze -/

theorem Keeps.metroSign {s0 s : State} (h : Keeps s0 s) : Keeps s0 (s.metroSign).2 := by
  unfold Sys2Proof.Machine.State.metroSign
  repeat' first | (with_reducible assumption) | (with_reducible apply Keeps.draw) | (with_reducible apply Keeps.ofIte2) | (with_reducible apply Keeps.fold2) | (with_reducible apply Keeps.ofIte) | (with_reducible apply Keeps.fold) | (with_reducible rfl) | (dsimp only) | intro _ | split | (with_reducible apply Keeps.upd) | rfl

/-- An entry takes the next number (R294). -/
theorem Keeps.nextLegal {s t : State} (h : Keeps s t) (b : Blz) (hb : b.last = t.blz.last + 1) (hr : b.released = t.blz.released) (n : Nfc) :
    Keeps s { t with blz := b, nfc := n } :=
  h.trans ⟨rfl, ⟨[], rfl⟩, id, id, Nat.le_refl _, id, rfl, by show _ ≤ b.last; omega,
    fun x => by unfold State.legalOk at *; show b.released ≤ b.last; omega, Nat.le_refl _, fun _ x => x⟩

theorem State.metroSign_blz (s : State) : s.metroSign.2.blz = s.blz := by
  unfold State.metroSign
  split <;> rfl

theorem Keeps.legal {s0 s : State} (h : Keeps s0 s) (kind : Nat) (ev : Stamp) (body : List Byte) : Keeps s0 (s.legal kind ev body) := by
  unfold State.legal
  dsimp only
  apply Keeps.setEvtIf
  apply Keeps.nextLegal h.metroSign
  · rw [State.metroSign_blz]
  · rfl

theorem Keeps.legalChange {s0 s : State} (h : Keeps s0 s) (kind : Nat) (body : List Byte) : Keeps s0 (s.legalChange kind body) := by
  unfold Sys2Proof.Machine.State.legalChange
  repeat' first | (with_reducible assumption) | (with_reducible apply Keeps.legal) | (with_reducible apply Keeps.ofIte) | (with_reducible apply Keeps.fold) | (with_reducible rfl) | (dsimp only) | intro _ | split | (with_reducible apply Keeps.upd) | rfl

theorem AnsKeeps.logFull {s0 s : State} (h : Keeps s0 s) : AnsKeeps s0 (logFull s) := by
  unfold Sys2Proof.Machine.logFull
  repeat' first | (with_reducible assumption) | (with_reducible apply AnsKeeps.ofIte) | (with_reducible apply AnsKeeps.done) | (with_reducible apply AnsKeeps.wait) | (with_reducible apply Keeps.setEvt) | (with_reducible apply Keeps.ofIte) | (with_reducible apply Keeps.fold) | (with_reducible rfl) | (dsimp only) | intro _ | split | (with_reducible apply Keeps.upd) | rfl

theorem Keeps.signLateFrom {s0 : State} (n l : Nat) {s : State} (h : Keeps s0 s) : Keeps s0 (signLateFrom n l s) := by
  induction n generalizing s l with
  | zero => exact h
  | succ n ih =>
    unfold Sys2Proof.Machine.signLateFrom
    repeat' first | (with_reducible assumption) | (with_reducible apply ih) | (with_reducible apply Keeps.metroSign) | (with_reducible apply Keeps.ofIte) | (with_reducible rfl) | (dsimp only) | intro _ | split | (with_reducible apply Keeps.upd)

theorem Keeps.signLate {s0 s : State} (h : Keeps s0 s) : Keeps s0 (s.signLate) := by
  unfold Sys2Proof.Machine.State.signLate
  repeat' first | (with_reducible assumption) | (with_reducible apply Keeps.signLateFrom) | (with_reducible apply Keeps.ofIte) | (with_reducible apply Keeps.fold) | (with_reducible rfl) | (dsimp only) | intro _ | split | (with_reducible apply Keeps.upd) | rfl

theorem Blz.record_last (b : Blz) (e : TEntry) : (b.record e).last = b.last := by
  unfold Blz.record
  split <;> rfl

theorem Blz.record_released (b : Blz) (e : TEntry) : (b.record e).released = b.released := by
  unfold Blz.record
  split <;> rfl

theorem Keeps.tamperEvent {s0 s : State} (h : Keeps s0 s) (i : Nat) (high : Bool) : Keeps s0 (s.tamperEvent i high) := by
  unfold State.tamperEvent
  dsimp only
  refine .ofIte (fun _ => h) (fun _ => ?_)
  apply Keeps.setEvtIf
  apply Keeps.setEvt
  exact h.upd rfl rfl rfl (Blz.record_last _ _) (Blz.record_released _ _) rfl rfl

theorem Keeps.gap {s0 s : State} (h : Keeps s0 s) (cause : Nat) (lost : Nat) (lastSeq : Nat) : Keeps s0 (s.gap cause lost lastSeq) := by
  unfold Sys2Proof.Machine.State.gap
  repeat' first | (with_reducible assumption) | (with_reducible apply Keeps.draw) | (with_reducible apply Keeps.legal) | (with_reducible apply Keeps.ofIte1) | (with_reducible apply Keeps.fold1) | (with_reducible apply Keeps.ofIte2) | (with_reducible apply Keeps.fold2) | (with_reducible apply Keeps.ofIte) | (with_reducible apply Keeps.fold) | (with_reducible rfl) | (dsimp only) | intro _ | split | (with_reducible apply Keeps.upd) | rfl

theorem Keeps.transferOne {s0 s : State} (h : Keeps s0 s) (e : TEntry) : Keeps s0 (s.transferOne e) := by
  unfold Sys2Proof.Machine.State.transferOne
  repeat' first | (with_reducible assumption) | (with_reducible apply Keeps.legal) | (with_reducible apply Keeps.ofIte) | (with_reducible apply Keeps.fold) | (with_reducible rfl) | (dsimp only) | intro _ | split | (with_reducible apply Keeps.upd) | rfl

theorem Keeps.transferAll {s0 : State} (torn : List Nat) (l : List TEntry) (prev : Nat) {s : State} (h : Keeps s0 s) :
    Keeps s0 (transferAll torn l prev s) := by
  induction l generalizing s prev with
  | nil => exact h.same rfl rfl rfl rfl ⟨rfl, rfl, rfl, rfl, rfl, rfl, rfl⟩
  | cons e r ih =>
    unfold Sys2Proof.Machine.transferAll
    repeat' first | (with_reducible assumption) | (with_reducible apply ih) | (with_reducible apply Keeps.setEvt) | (with_reducible apply Keeps.gap) | (with_reducible apply Keeps.transferOne) | (with_reducible apply Keeps.ofIte) | (with_reducible rfl) | (dsimp only) | intro _ | split | (with_reducible apply Keeps.upd)

theorem Keeps.transfer {s0 s : State} (h : Keeps s0 s) (torn : List Nat) : Keeps s0 (s.transfer torn) := by
  unfold Sys2Proof.Machine.State.transfer
  repeat' first | (with_reducible assumption) | (with_reducible apply Keeps.setEvt) | (with_reducible apply Keeps.gap) | (with_reducible apply Keeps.transferAll) | (with_reducible apply Keeps.ofIte) | (with_reducible apply Keeps.fold) | (with_reducible rfl) | (dsimp only) | intro _ | split | (with_reducible apply Keeps.upd) | rfl

/-! ### Keys -/

theorem Keeps.lockMetro {s0 s : State} (h : Keeps s0 s) : Keeps s0 (s.lockMetro) := by
  unfold Sys2Proof.Machine.State.lockMetro
  repeat' first | (with_reducible assumption) | (with_reducible apply Keeps.ofIte) | (with_reducible apply Keeps.fold) | (with_reducible rfl) | (dsimp only) | intro _ | split | (with_reducible apply Keeps.upd) | rfl

theorem Keeps.destroy {s0 s : State} (h : Keeps s0 s) (sel : KeyClass → Bool) : Keeps s0 (s.destroy sel) := by
  unfold Sys2Proof.Machine.State.destroy
  repeat' first | (with_reducible assumption) | (with_reducible apply Keeps.ofIte) | (with_reducible apply Keeps.fold) | (with_reducible rfl) | (dsimp only) | intro _ | split | (with_reducible apply Keeps.upd) | rfl

theorem Keeps.storeCtr {s0 s : State} (h : Keeps s0 s) (m : KeyMsg) : Keeps s0 (s.storeCtr m) := by
  unfold Sys2Proof.Machine.State.storeCtr
  repeat' first | (with_reducible assumption) | (with_reducible apply Keeps.setEvt) | (with_reducible apply Keeps.ofIte) | (with_reducible apply Keeps.fold) | (with_reducible rfl) | (dsimp only) | intro _ | split | (with_reducible apply Keeps.upd) | rfl

theorem AnsKeeps.msgRej {s0 s : State} (h : Keeps s0 s) (st : Status) (detail : Nat) : AnsKeeps s0 (msgRej s st detail) := by
  unfold Sys2Proof.Machine.msgRej
  repeat' first | (with_reducible assumption) | (with_reducible apply AnsKeeps.ofIte) | (with_reducible apply AnsKeeps.done) | (with_reducible apply AnsKeeps.wait) | (with_reducible apply Keeps.setEvt) | (with_reducible apply Keeps.ofIte) | (with_reducible apply Keeps.fold) | (with_reducible rfl) | (dsimp only) | intro _ | split | (with_reducible apply Keeps.upd) | rfl

theorem Keeps.lcEffects {s0 s : State} (h : Keeps s0 s) (from_ : Lc) : Keeps s0 (s.lcEffects from_) := by
  unfold State.lcEffects
  repeat' first | (with_reducible assumption) | (with_reducible apply Keeps.signLate) | (with_reducible apply Keeps.lockMetro) | (with_reducible apply Keeps.destroy) | (with_reducible apply Keeps.ofIte) | (with_reducible rfl) | (dsimp only) | intro _ | split | (with_reducible apply Keeps.upd) | rfl

/-- A transition leaves a state that is not SCRAPPED. -/
theorem Keeps.leave {s t : State} (h : Keeps s t) (hs : s.key.lc ≠ .scrapped) (k : Key) (hd : k.devId = t.key.devId) : Keeps s { t with key := k } :=
  ⟨h.pending, h.sent, h.mem, h.budget, h.floor, fun x => absurd x hs, hd.trans h.device, h.lseq, h.relOk, h.cseq, h.fuses⟩

theorem Keeps.lcTransition {s0 s : State} (h : Keeps s0 s) (hs : s.key.lc ≠ .scrapped) (b : Lc) (ctr : Nat) : Keeps s0 (s.lcTransition b ctr) := by
  refine h.trans ?_
  unfold State.lcTransition
  dsimp only
  apply Keeps.setEvt
  apply Keeps.lcEffects
  refine Keeps.leave ?_ hs _ rfl
  exact .ofIte (fun _ => .refl s) (fun _ => .legalChange (.refl s) _ _)

theorem Keeps.installKey {s0 s : State} (h : Keeps s0 s) (m : KeyMsg) (slot : Nat) : Keeps s0 (s.installKey m slot) := by
  unfold Sys2Proof.Machine.State.installKey
  repeat' first | (with_reducible assumption) | (with_reducible apply Keeps.ofIte) | (with_reducible apply Keeps.fold) | (with_reducible rfl) | (dsimp only) | intro _ | split | (with_reducible apply Keeps.upd) | rfl

/-! ### Skidline -/

theorem Keeps.sklTake {s0 s : State} (h : Keeps s0 s) (z0 : Option Nat) : Keeps s0 (s.sklTake z0) := by
  unfold Sys2Proof.Machine.State.sklTake
  repeat' first | (with_reducible assumption) | (with_reducible apply Keeps.setEvtIf) | (with_reducible apply Keeps.ofIte) | (with_reducible apply Keeps.fold) | (with_reducible rfl) | (dsimp only) | intro _ | split | (with_reducible apply Keeps.upd) | rfl

theorem Keeps.sklParent {s0 s : State} (h : Keeps s0 s) : Keeps s0 (s.sklParent) := by
  unfold Sys2Proof.Machine.State.sklParent
  repeat' first | (with_reducible assumption) | (with_reducible apply Keeps.sklTake) | (with_reducible apply Keeps.ofIte) | (with_reducible apply Keeps.fold) | (with_reducible rfl) | (dsimp only) | intro _ | split | (with_reducible apply Keeps.upd) | rfl

theorem Keeps.sklReparent {s0 s : State} (h : Keeps s0 s) : Keeps s0 (s.sklReparent) := by
  unfold Sys2Proof.Machine.State.sklReparent
  repeat' first | (with_reducible assumption) | (with_reducible apply Keeps.sklTake) | (with_reducible apply Keeps.ofIte) | (with_reducible apply Keeps.fold) | (with_reducible rfl) | (dsimp only) | intro _ | split | (with_reducible apply Keeps.upd) | rfl

theorem Keeps.sklQueue {s0 s : State} (h : Keeps s0 s) (f : TxFrame) : Keeps s0 (s.sklQueue f) := by
  unfold Sys2Proof.Machine.State.sklQueue
  repeat' first | (with_reducible assumption) | (with_reducible apply Keeps.ofIte) | (with_reducible apply Keeps.fold) | (with_reducible rfl) | (dsimp only) | intro _ | split | (with_reducible apply Keeps.upd) | rfl

theorem Keeps.sklOwn {s0 s : State} (h : Keeps s0 s) (f : TxFrame) : Keeps s0 (s.sklOwn f) := by
  unfold Sys2Proof.Machine.State.sklOwn
  repeat' first | (with_reducible assumption) | (with_reducible apply Keeps.sklQueue) | (with_reducible apply Keeps.ofIte) | (with_reducible apply Keeps.fold) | (with_reducible rfl) | (dsimp only) | intro _ | split | (with_reducible apply Keeps.upd) | rfl

theorem Keeps.sklFailed {s0 s : State} (h : Keeps s0 s) : Keeps s0 (s.sklFailed) := by
  unfold Sys2Proof.Machine.State.sklFailed
  repeat' first | (with_reducible assumption) | (with_reducible apply Keeps.setEvt) | (with_reducible apply Keeps.ofIte) | (with_reducible apply Keeps.fold) | (with_reducible rfl) | (dsimp only) | intro _ | split | (with_reducible apply Keeps.upd) | rfl

theorem Keeps.sklUnqueue {s0 s : State} (h : Keeps s0 s) (id : Nat) : Keeps s0 (s.sklUnqueue id) := by
  unfold Sys2Proof.Machine.State.sklUnqueue
  repeat' first | (with_reducible assumption) | (with_reducible apply Keeps.ofIte) | (with_reducible apply Keeps.fold) | (with_reducible rfl) | (dsimp only) | intro _ | split | (with_reducible apply Keeps.upd) | rfl

theorem Keeps.sklDrop {s0 s : State} (h : Keeps s0 s) (f : TxFrame) : Keeps s0 (s.sklDrop f) := by
  unfold Sys2Proof.Machine.State.sklDrop
  repeat' first | (with_reducible assumption) | (with_reducible apply Keeps.sklUnqueue) | (with_reducible apply Keeps.sklFailed) | (with_reducible apply Keeps.setSklNode) | (with_reducible apply Keeps.sklReparent) | (with_reducible apply Keeps.modSklNode) | (with_reducible apply Keeps.finish) | (with_reducible apply Keeps.ofIte1) | (with_reducible apply Keeps.fold1) | (with_reducible apply Keeps.ofIte) | (with_reducible apply Keeps.fold) | (with_reducible rfl) | (dsimp only) | intro _ | split | (with_reducible apply Keeps.upd) | rfl

theorem Keeps.sklAttempt {s0 s : State} (h : Keeps s0 s) (dst : Nat) (ok : Bool) : Keeps s0 (s.sklAttempt dst ok) := by
  unfold Sys2Proof.Machine.State.sklAttempt
  repeat' first | (with_reducible assumption) | (with_reducible apply Keeps.modSklNode) | (with_reducible apply Keeps.ofIte) | (with_reducible apply Keeps.fold) | (with_reducible rfl) | (dsimp only) | intro _ | split | (with_reducible apply Keeps.upd) | rfl

theorem Keeps.sklAcked {s0 s : State} (h : Keeps s0 s) (f : TxFrame) (dst : Nat) : Keeps s0 (s.sklAcked f dst) := by
  unfold Sys2Proof.Machine.State.sklAcked
  repeat' first | (with_reducible assumption) | (with_reducible apply Keeps.sklUnqueue) | (with_reducible apply Keeps.sklAttempt) | (with_reducible apply Keeps.finish) | (with_reducible apply Keeps.ofIte) | (with_reducible apply Keeps.fold) | (with_reducible rfl) | (dsimp only) | intro _ | split | (with_reducible apply Keeps.upd) | rfl

theorem Keeps.sklOut {s0 s : State} (h : Keeps s0 s) (start : Nat) (f : SFrame) : Keeps s0 (s.sklOut start f) := by
  unfold Sys2Proof.Machine.State.sklOut
  repeat' first | (with_reducible assumption) | (with_reducible apply Keeps.setEvtIf) | (with_reducible apply Keeps.send) | (with_reducible apply Keeps.ofIte) | (with_reducible apply Keeps.fold) | (with_reducible rfl) | (dsimp only) | intro _ | split | (with_reducible apply Keeps.upd) | rfl

theorem Keeps.sklTransmit {s0 s : State} (h : Keeps s0 s) (start : Nat) (f : TxFrame) : Keeps s0 (s.sklTransmit start f) := by
  unfold Sys2Proof.Machine.State.sklTransmit
  repeat' first | (with_reducible assumption) | (with_reducible apply Keeps.sklDrop) | (with_reducible apply Keeps.sklOut) | (with_reducible apply Keeps.sklUnqueue) | (with_reducible apply Keeps.finish) | (with_reducible apply Keeps.ofIte) | (with_reducible apply Keeps.fold) | (with_reducible rfl) | (dsimp only) | intro _ | split | (with_reducible apply Keeps.upd) | rfl

theorem Keeps.sklHinge {s0 s : State} (h : Keeps s0 s) (peer : Nat) (kind : Nat) (f : HFrame) : Keeps s0 (s.sklHinge peer kind f) := by
  unfold Sys2Proof.Machine.State.sklHinge
  repeat' first | (with_reducible assumption) | (with_reducible apply Keeps.sklOwn) | (with_reducible apply Keeps.ofIte) | (with_reducible apply Keeps.fold) | (with_reducible rfl) | (dsimp only) | intro _ | split | (with_reducible apply Keeps.upd) | rfl

theorem Keeps.sklHear {s0 s : State} (h : Keeps s0 s) (a : Nat) (f : SFrame) : Keeps s0 (s.sklHear a f) := by
  unfold Sys2Proof.Machine.State.sklHear
  repeat' first | (with_reducible assumption) | (with_reducible apply Keeps.modSklNode) | (with_reducible apply Keeps.ofIte1) | (with_reducible apply Keeps.fold1) | (with_reducible apply Keeps.ofIte2) | (with_reducible apply Keeps.fold2) | (with_reducible apply Keeps.ofIte) | (with_reducible apply Keeps.fold) | (with_reducible rfl) | (dsimp only) | intro _ | split | (with_reducible apply Keeps.upd) | rfl

theorem Keeps.sklRouteRx {s0 s : State} (h : Keeps s0 s) (f : SFrame) : Keeps s0 (s.sklRouteRx f) := by
  unfold Sys2Proof.Machine.State.sklRouteRx
  repeat' first | (with_reducible assumption) | (with_reducible apply Keeps.sklHear) | (with_reducible apply Keeps.setEvtIf) | (with_reducible apply Keeps.sklParent) | (with_reducible apply Keeps.ofIte) | (with_reducible apply Keeps.fold) | (with_reducible rfl) | (dsimp only) | intro _ | split | (with_reducible apply Keeps.upd) | rfl

theorem Keeps.sklForward {s0 s : State} (h : Keeps s0 s) (f : SFrame) : Keeps s0 (s.sklForward f) := by
  unfold Sys2Proof.Machine.State.sklForward
  repeat' first | (with_reducible assumption) | (with_reducible apply Keeps.sklQueue) | (with_reducible apply Keeps.sklFailed) | (with_reducible apply Keeps.ofIte2) | (with_reducible apply Keeps.fold2) | (with_reducible apply Keeps.ofIte) | (with_reducible apply Keeps.fold) | (with_reducible rfl) | (dsimp only) | intro _ | split | (with_reducible apply Keeps.upd) | rfl

theorem Keeps.sklPoint {s0 s : State} (h : Keeps s0 s) (orig : Nat) (r : List Byte) : Keeps s0 (s.sklPoint orig r) := by
  unfold Sys2Proof.Machine.State.sklPoint
  repeat' first | (with_reducible assumption) | (with_reducible apply Keeps.ptUpdate) | (with_reducible apply Keeps.ofIte) | (with_reducible apply Keeps.fold) | (with_reducible rfl) | (dsimp only) | intro _ | split | (with_reducible apply Keeps.upd) | rfl

theorem Keeps.sklDeliver {s0 s : State} (h : Keeps s0 s) (snr : Nat) (f : SFrame) : Keeps s0 (s.sklDeliver snr f) := by
  unfold Sys2Proof.Machine.State.sklDeliver
  repeat' first | (with_reducible assumption) | (with_reducible apply Keeps.sklPoint) | (with_reducible apply Keeps.setEvt) | (with_reducible apply Keeps.ofIte) | (with_reducible apply Keeps.fold) | (with_reducible rfl) | (dsimp only) | intro _ | split | (with_reducible apply Keeps.upd) | rfl

/-- What either outcome of a check keeps. -/
def ExKeeps (s : State) : Except State State → Prop
  | .error t => Keeps s t
  | .ok t => Keeps s t

theorem ExKeeps.ofIte {s : State} {t u : Except State State} {p : Prop} [Decidable p] (h : p → ExKeeps s t) (k : ¬p → ExKeeps s u) :
    ExKeeps s (if p then t else u) := by
  split
  · exact h ‹_›
  · exact k ‹_›

theorem Keeps.sklVerify {s0 s : State} (h : Keeps s0 s) (r : SRx) (f : SFrame) : ExKeeps s0 (s.sklVerify r f) := by
  unfold State.sklVerify
  dsimp only
  have h1 := h
  refine .ofIte (fun _ => ?_) fun _ => .ofIte (fun _ => ?_) fun _ => .ofIte (fun _ => ?_) fun _ => ?_
  all_goals first | exact Keeps.modSklNode (h.same rfl rfl rfl rfl ⟨rfl, rfl, rfl, rfl, rfl, rfl, rfl⟩) _ _ | exact h1.same rfl rfl rfl rfl ⟨rfl, rfl, rfl, rfl, rfl, rfl, rfl⟩

theorem Keeps.sklOverhear {s0 s : State} (h : Keeps s0 s) (f : SFrame) : Keeps s0 (s.sklOverhear f) := by
  unfold Sys2Proof.Machine.State.sklOverhear
  repeat' first | (with_reducible assumption) | (with_reducible apply Keeps.ofIte) | (with_reducible apply Keeps.fold) | (with_reducible rfl) | (dsimp only) | intro _ | split | (with_reducible apply Keeps.upd) | rfl

theorem Keeps.sklAckRx {s0 s : State} (h : Keeps s0 s) (f : SFrame) : Keeps s0 (s.sklAckRx f) := by
  unfold Sys2Proof.Machine.State.sklAckRx
  repeat' first | (with_reducible assumption) | (with_reducible apply Keeps.sklAcked) | (with_reducible apply Keeps.ofIte) | (with_reducible apply Keeps.fold) | (with_reducible rfl) | (dsimp only) | intro _ | split | (with_reducible apply Keeps.upd) | rfl

theorem Keeps.sklLearn {s0 s : State} (h : Keeps s0 s) (f : SFrame) : Keeps s0 (s.sklLearn f) := by
  unfold Sys2Proof.Machine.State.sklLearn
  repeat' first | (with_reducible assumption) | (with_reducible apply Keeps.ofIte) | (with_reducible apply Keeps.fold) | (with_reducible rfl) | (dsimp only) | intro _ | split | (with_reducible apply Keeps.upd) | rfl

theorem Keeps.sklOweAck {s0 s : State} (h : Keeps s0 s) (f : SFrame) (awake : Bool) : Keeps s0 (s.sklOweAck f awake) := by
  unfold Sys2Proof.Machine.State.sklOweAck
  repeat' first | (with_reducible assumption) | (with_reducible apply Keeps.ofIte) | (with_reducible apply Keeps.fold) | (with_reducible rfl) | (dsimp only) | intro _ | split | (with_reducible apply Keeps.upd) | rfl

theorem Keeps.sklPass {s0 s : State} (h : Keeps s0 s) (snr : Nat) (f : SFrame) : Keeps s0 (s.sklPass snr f).1 := by
  unfold Sys2Proof.Machine.State.sklPass
  repeat' first | (with_reducible assumption) | (with_reducible apply Keeps.sklHear) | (with_reducible apply Keeps.sklForward) | (with_reducible apply Keeps.sklDeliver) | (with_reducible apply Keeps.ofIte1) | (with_reducible apply Keeps.fold1) | (with_reducible apply Keeps.ofIte) | (with_reducible apply Keeps.fold) | (with_reducible rfl) | (dsimp only) | intro _ | split | (with_reducible apply Keeps.upd) | rfl

theorem Keeps.sklAccept {s0 s : State} (h : Keeps s0 s) (snr : Nat) (f : SFrame) (awake : Bool) : Keeps s0 (s.sklAccept snr f awake).1 := by
  unfold Sys2Proof.Machine.State.sklAccept
  repeat' first | (with_reducible assumption) | (with_reducible apply Keeps.setEvt) | (with_reducible apply Keeps.sklAckRx) | (with_reducible apply Keeps.sklRouteRx) | (with_reducible apply Keeps.sklOweAck) | (with_reducible apply Keeps.sklLearn) | (with_reducible apply Keeps.sklPass) | (with_reducible apply Keeps.ofIte1) | (with_reducible apply Keeps.fold1) | (with_reducible apply Keeps.ofIte) | (with_reducible apply Keeps.fold) | (with_reducible rfl) | (dsimp only) | intro _ | split | (with_reducible apply Keeps.upd) | rfl

theorem Keeps.sklRx {s0 s : State} (h : Keeps s0 s) (r : SRx) (f : SFrame) (awake : Bool) : Keeps s0 (s.sklRx r f awake).1 := by
  unfold State.sklRx
  have hv := Keeps.sklVerify h r f
  split
  · rename_i e
    rw [e] at hv
    exact hv
  · rename_i s1 e
    rw [e] at hv
    replace hv : Keeps s0 s1 := hv
    clear h
    exact .ofIte1 (fun _ => hv.sklOverhear f) fun _ => hv.sklAccept _ f awake

/-! ### Spar -/

theorem Keeps.dropReq {s0 s : State} (h : Keeps s0 s) (j : Nat) : Keeps s0 (s.dropReq j) := by
  unfold Sys2Proof.Machine.State.dropReq
  repeat' first | (with_reducible assumption) | (with_reducible apply Keeps.modGate) | (with_reducible apply Keeps.chkOff) | (with_reducible apply Keeps.modChan) | (with_reducible apply Keeps.ofIte) | (with_reducible apply Keeps.fold) | (with_reducible rfl) | (dsimp only) | intro _ | split | (with_reducible apply Keeps.upd) | rfl

theorem Keeps.gateOne {s0 s : State} (h : Keeps s0 s) (j : Nat) : Keeps s0 (s.gateOne j).1 := by
  unfold Sys2Proof.Machine.State.gateOne
  repeat' first | (with_reducible assumption) | (with_reducible apply Keeps.setGate) | (with_reducible apply Keeps.setEvt) | (with_reducible apply Keeps.dropReq) | (with_reducible apply Keeps.ofIte1) | (with_reducible apply Keeps.fold1) | (with_reducible apply Keeps.ofIte) | (with_reducible apply Keeps.fold) | (with_reducible rfl) | (dsimp only) | intro _ | split | (with_reducible apply Keeps.upd) | rfl

theorem Keeps.gateAll {s0 s : State} (h : Keeps s0 s) : Keeps s0 (s.gateAll).1 := by
  unfold Sys2Proof.Machine.State.gateAll
  repeat' first | (with_reducible assumption) | (with_reducible apply Keeps.gateOne) | (with_reducible apply Keeps.ofIte1) | (with_reducible apply Keeps.fold1) | (with_reducible apply Keeps.ofIte2) | (with_reducible apply Keeps.fold2) | (with_reducible apply Keeps.ofIte) | (with_reducible apply Keeps.fold) | (with_reducible rfl) | (dsimp only) | intro _ | split | (with_reducible apply Keeps.upd) | rfl

theorem Keeps.request {s0 s : State} (h : Keeps s0 s) (j : Nat) : Keeps s0 (s.request j) := by
  unfold Sys2Proof.Machine.State.request
  repeat' first | (with_reducible assumption) | (with_reducible apply Keeps.modGate) | (with_reducible apply Keeps.chkAsk) | (with_reducible apply Keeps.ofIte) | (with_reducible apply Keeps.fold) | (with_reducible rfl) | (dsimp only) | intro _ | split | (with_reducible apply Keeps.upd) | rfl

theorem Keeps.latchTrip {s0 s : State} (h : Keeps s0 s) (i : Nat) : Keeps s0 (s.latchTrip i) := by
  unfold Sys2Proof.Machine.State.latchTrip
  repeat' first | (with_reducible assumption) | (with_reducible apply Keeps.modSin) | (with_reducible apply Keeps.setEvtIf) | (with_reducible apply Keeps.ofIte) | (with_reducible apply Keeps.fold) | (with_reducible rfl) | (dsimp only) | intro _ | split | (with_reducible apply Keeps.upd) | rfl

theorem Keeps.latchFault {s0 s : State} (h : Keeps s0 s) (i : Nat) (c : SiCause) : Keeps s0 (s.latchFault i c) := by
  unfold Sys2Proof.Machine.State.latchFault
  repeat' first | (with_reducible assumption) | (with_reducible apply Keeps.modSin) | (with_reducible apply Keeps.setEvtIf) | (with_reducible apply Keeps.latchTrip) | (with_reducible apply Keeps.ofIte) | (with_reducible apply Keeps.fold) | (with_reducible rfl) | (dsimp only) | intro _ | split | (with_reducible apply Keeps.upd) | rfl

theorem Keeps.safeStopCore {s0 s : State} (h : Keeps s0 s) (cause : Nat) (detail : Nat) : Keeps s0 (s.safeStopCore cause detail) := by
  unfold Sys2Proof.Machine.State.safeStopCore
  repeat' first | (with_reducible assumption) | (with_reducible apply Keeps.safeStop) | (with_reducible apply Keeps.dropReq) | (with_reducible apply Keeps.ofIte) | (with_reducible apply Keeps.fold) | (with_reducible rfl) | (dsimp only) | intro _ | split | (with_reducible apply Keeps.upd) | rfl

theorem Keeps.connTimeout {s0 s : State} (h : Keeps s0 s) (c : Nat) : Keeps s0 (s.connTimeout c) := by
  unfold Sys2Proof.Machine.State.connTimeout
  repeat' first | (with_reducible assumption) | (with_reducible apply Keeps.modConn) | (with_reducible apply Keeps.setEvt) | (with_reducible apply Keeps.ofIte) | (with_reducible apply Keeps.fold) | (with_reducible rfl) | (dsimp only) | intro _ | split | (with_reducible apply Keeps.upd) | rfl

theorem Keeps.crcFail {s0 s : State} (h : Keeps s0 s) (f : HFrame) : Keeps s0 (s.crcFail f).1 := by
  unfold Sys2Proof.Machine.State.crcFail
  repeat' first | (with_reducible assumption) | (with_reducible apply Keeps.setConn) | (with_reducible apply Keeps.connTimeout) | (with_reducible apply Keeps.ofIte1) | (with_reducible apply Keeps.fold1) | (with_reducible apply Keeps.ofIte) | (with_reducible apply Keeps.fold) | (with_reducible rfl) | (dsimp only) | intro _ | split | (with_reducible apply Keeps.upd) | rfl

/-- What either outcome of a Hinge frame's first checks keeps. -/
def HeadKeeps (s : State) : Except (State × Option Nat) (State × Nat) → Prop
  | .error t => Keeps s t.1
  | .ok t => Keeps s t.1

theorem Keeps.hingeHead {s0 s : State} (h : Keeps s0 s) (f : HFrame) : HeadKeeps s0 (s.hingeHead f) := by
  unfold State.hingeHead
  split
  · show Keeps s0 (_, _).1
    dsimp only
    split
    · exact h.modConn _ _
    · exact h
  · split
    · exact h.crcFail f
    · split
      · show Keeps s0 (_, _).1
        dsimp only
        split
        · exact h.modConn _ _
        · exact h
      · exact h.modConn _ _

theorem Keeps.hingeData {s0 s : State} (h : Keeps s0 s) (c : Nat) (f : HFrame) : Keeps s0 (s.hingeData c f).1 := by
  unfold Sys2Proof.Machine.State.hingeData
  repeat' first | (with_reducible assumption) | (with_reducible apply Keeps.setConn) | (with_reducible apply Keeps.ofIte1) | (with_reducible apply Keeps.fold1) | (with_reducible apply Keeps.ofIte) | (with_reducible apply Keeps.fold) | (with_reducible rfl) | (dsimp only) | intro _ | split | (with_reducible apply Keeps.upd) | rfl

theorem Keeps.sendHinge {s0 s : State} (h : Keeps s0 s) (c : Nat) (kind : Nat) (f : HFrame) : Keeps s0 (s.sendHinge c kind f) := by
  unfold Sys2Proof.Machine.State.sendHinge
  repeat' first | (with_reducible assumption) | (with_reducible apply Keeps.sklHinge) | (with_reducible apply Keeps.send) | (with_reducible apply Keeps.ofIte) | (with_reducible apply Keeps.fold) | (with_reducible rfl) | (dsimp only) | intro _ | split | (with_reducible apply Keeps.upd) | rfl

theorem Keeps.applyPointParams {s0 s : State} (h : Keeps s0 s) : Keeps s0 (s.applyPointParams) := by
  unfold Sys2Proof.Machine.State.applyPointParams
  repeat' first | (with_reducible assumption) | (with_reducible apply Keeps.modPoint) | (with_reducible apply Keeps.ofIte1) | (with_reducible apply Keeps.fold1) | (with_reducible apply Keeps.ofIte2) | (with_reducible apply Keeps.fold2) | (with_reducible apply Keeps.ofIte) | (with_reducible apply Keeps.fold) | (with_reducible rfl) | (dsimp only) | intro _ | split | (with_reducible apply Keeps.upd) | rfl

/-! ### SafLog -/

theorem Keeps.safLogPut {s0 s : State} (h : Keeps s0 s) (e : SafLog) : Keeps s0 (s.safLogPut e) := by
  unfold State.safLogPut
  dsimp only
  apply Keeps.setEvtIf
  exact h.trans ⟨rfl, ⟨[], rfl⟩, id, id, Nat.le_refl _, id, rfl, Nat.le_refl _, id, Nat.le_succ _, fun _ x => x⟩

theorem Keeps.safMigrated {s0 s : State} (h : Keeps s0 s) : Keeps s0 (s.safMigrated) := by
  unfold Sys2Proof.Machine.State.safMigrated
  repeat' first | (with_reducible assumption) | (with_reducible apply Keeps.safLogPut) | (with_reducible apply Keeps.ofIte) | (with_reducible apply Keeps.fold) | (with_reducible rfl) | (dsimp only) | intro _ | split | (with_reducible apply Keeps.upd) | rfl

theorem Keeps.safetyFromImage {s0 s : State} (h : Keeps s0 s) : Keeps s0 (s.safetyFromImage) := by
  unfold Sys2Proof.Machine.State.safetyFromImage
  repeat' first | (with_reducible assumption) | (with_reducible apply Keeps.safLogPut) | (with_reducible apply Keeps.ofIte1) | (with_reducible apply Keeps.fold1) | (with_reducible apply Keeps.ofIte2) | (with_reducible apply Keeps.fold2) | (with_reducible apply Keeps.ofIte) | (with_reducible apply Keeps.fold) | (with_reducible rfl) | (dsimp only) | intro _ | split | (with_reducible apply Keeps.upd) | rfl

/-! ### Brand -/

theorem Keeps.setRegion {s0 s : State} (h : Keeps s0 s) (p : Nat) (r : Nat) (x : Region) : Keeps s0 (s.setRegion p r x) := by
  unfold Sys2Proof.Machine.State.setRegion
  repeat' first | (with_reducible assumption) | (with_reducible apply Keeps.modPanel) | (with_reducible apply Keeps.ofIte) | (with_reducible apply Keeps.fold) | (with_reducible rfl) | (dsimp only) | intro _ | split | (with_reducible apply Keeps.upd) | rfl

theorem Keeps.placeUpd {s0 s : State} (h : Keeps s0 s) (p : Nat) (r : Nat) (u : Upd) : Keeps s0 (s.placeUpd p r u) := by
  unfold Sys2Proof.Machine.State.placeUpd
  repeat' first | (with_reducible assumption) | (with_reducible apply Keeps.setRegion) | (with_reducible apply Keeps.modPanel) | (with_reducible apply Keeps.setEvt) | (with_reducible apply Keeps.ofIte) | (with_reducible apply Keeps.fold) | (with_reducible rfl) | (dsimp only) | intro _ | split | (with_reducible apply Keeps.upd) | rfl

theorem Keeps.panelRest {s0 s : State} (h : Keeps s0 s) (p : Nat) : Keeps s0 (s.panelRest p) := by
  unfold Sys2Proof.Machine.State.panelRest
  repeat' first | (with_reducible assumption) | (with_reducible apply Keeps.release) | (with_reducible apply Keeps.modPanel) | (with_reducible apply Keeps.idle) | (with_reducible apply Keeps.ofIte) | (with_reducible apply Keeps.fold) | (with_reducible rfl) | (dsimp only) | intro _ | split | (with_reducible apply Keeps.upd) | rfl

theorem Keeps.askRails {s0 s : State} (h : Keeps s0 s) : Keeps s0 (s.askRails) := by
  unfold Sys2Proof.Machine.State.askRails
  repeat' first | (with_reducible assumption) | (with_reducible apply Keeps.present) | (with_reducible apply Keeps.ofIte) | (with_reducible apply Keeps.fold) | (with_reducible rfl) | (dsimp only) | intro _ | split | (with_reducible apply Keeps.upd) | rfl

theorem Keeps.askPanels {s0 s : State} (h : Keeps s0 s) : Keeps s0 (s.askPanels) := by
  unfold Sys2Proof.Machine.State.askPanels
  repeat' first | (with_reducible assumption) | (with_reducible apply Keeps.panelRest) | (with_reducible apply Keeps.present) | (with_reducible apply Keeps.ofIte) | (with_reducible apply Keeps.fold) | (with_reducible rfl) | (dsimp only) | intro _ | split | (with_reducible apply Keeps.upd) | rfl

theorem Keeps.panelTemp {s0 s : State} (h : Keeps s0 s) (p : Nat) : Keeps s0 (s.panelTemp p) := by
  unfold Sys2Proof.Machine.State.panelTemp
  repeat' first | (with_reducible assumption) | (with_reducible apply Keeps.setPanel) | (with_reducible apply Keeps.setEvtIf) | (with_reducible apply Keeps.ofIte) | (with_reducible apply Keeps.fold) | (with_reducible rfl) | (dsimp only) | intro _ | split | (with_reducible apply Keeps.upd) | rfl

theorem Keeps.refuseCold {s0 s : State} (h : Keeps s0 s) (p : Nat) : Keeps s0 (s.refuseCold p) := by
  unfold Sys2Proof.Machine.State.refuseCold
  repeat' first | (with_reducible assumption) | (with_reducible apply Keeps.setRegion) | (with_reducible apply Keeps.setEvt) | (with_reducible apply Keeps.ofIte) | (with_reducible apply Keeps.fold) | (with_reducible rfl) | (dsimp only) | intro _ | split | (with_reducible apply Keeps.upd) | rfl

theorem Keeps.startUpd {s0 s : State} (h : Keeps s0 s) (p : Nat) (r : Nat) : Keeps s0 (s.startUpd p r) := by
  unfold Sys2Proof.Machine.State.startUpd
  repeat' first | (with_reducible assumption) | (with_reducible apply Keeps.setRegion) | (with_reducible apply Keeps.modPanel) | (with_reducible apply Keeps.ofIte) | (with_reducible apply Keeps.fold) | (with_reducible rfl) | (dsimp only) | intro _ | split | (with_reducible apply Keeps.upd) | rfl

theorem Keeps.startInits {s0 s : State} (h : Keeps s0 s) (boundary : Option Nat) : Keeps s0 (s.startInits boundary) := by
  unfold Sys2Proof.Machine.State.startInits
  repeat' first | (with_reducible assumption) | (with_reducible apply Keeps.setPanel) | (with_reducible apply Keeps.ofIte) | (with_reducible apply Keeps.fold) | (with_reducible rfl) | (dsimp only) | intro _ | split | (with_reducible apply Keeps.upd) | rfl

theorem Keeps.startLoop {s0 : State} (boundary : Option Nat) (z0 : Nat) {s : State} (h : Keeps s0 s) : Keeps s0 (startLoop boundary z0 s) := by
  induction z0 generalizing s with
  | zero => unfold Sys2Proof.Machine.startLoop; repeat' first | (with_reducible assumption) | (with_reducible apply Keeps.startUpd) | (with_reducible apply Keeps.ofIte) | (with_reducible apply Keeps.fold) | (with_reducible rfl) | (dsimp only) | intro _ | split | (with_reducible apply Keeps.upd) | rfl
  | succ z0 ih => unfold Sys2Proof.Machine.startLoop; repeat' first | (with_reducible assumption) | (with_reducible apply Keeps.startUpd) | (with_reducible apply ih) | (with_reducible apply Keeps.ofIte) | (with_reducible apply Keeps.fold) | (with_reducible rfl) | (dsimp only) | intro _ | split | (with_reducible apply Keeps.upd) | rfl

theorem Keeps.panelTemps {s0 s : State} (h : Keeps s0 s) : Keeps s0 (s.panelTemps) := by
  unfold Sys2Proof.Machine.State.panelTemps
  repeat' first | (with_reducible assumption) | (with_reducible apply Keeps.panelTemp) | (with_reducible apply Keeps.ofIte) | (with_reducible apply Keeps.fold) | (with_reducible rfl) | (dsimp only) | intro _ | split | (with_reducible apply Keeps.upd) | rfl

theorem Keeps.brandRun {s0 s : State} (h : Keeps s0 s) (boundary : Option Nat) : Keeps s0 (s.brandRun boundary) := by
  unfold Sys2Proof.Machine.State.brandRun
  repeat' first | (with_reducible assumption) | (with_reducible apply Keeps.refuseCold) | (with_reducible apply Keeps.panelTemps) | (with_reducible apply Keeps.startLoop) | (with_reducible apply Keeps.startInits) | (with_reducible apply Keeps.askRails) | (with_reducible apply Keeps.askPanels) | (with_reducible apply Keeps.ofIte) | (with_reducible apply Keeps.fold) | (with_reducible rfl) | (dsimp only) | intro _ | split | (with_reducible apply Keeps.upd) | rfl

theorem Keeps.waveDone {s0 s : State} (h : Keeps s0 s) (p : Nat) (r : Nat) (u : Upd) : Keeps s0 (s.waveDone p r u) := by
  unfold Sys2Proof.Machine.State.waveDone
  repeat' first | (with_reducible assumption) | (with_reducible apply Keeps.setRegion) | (with_reducible apply Keeps.modPanel) | (with_reducible apply Keeps.legal) | (with_reducible apply Keeps.setEvt) | (with_reducible apply Keeps.ofIte) | (with_reducible apply Keeps.fold) | (with_reducible rfl) | (dsimp only) | intro _ | split | (with_reducible apply Keeps.upd) | rfl

theorem Keeps.waveCut {s0 s : State} (h : Keeps s0 s) (p : Nat) (r : Nat) : Keeps s0 (s.waveCut p r) := by
  unfold Sys2Proof.Machine.State.waveCut
  repeat' first | (with_reducible assumption) | (with_reducible apply Keeps.draw) | (with_reducible apply Keeps.setRegion) | (with_reducible apply Keeps.modPanel) | (with_reducible apply Keeps.setEvt) | (with_reducible apply Keeps.ofIte1) | (with_reducible apply Keeps.fold1) | (with_reducible apply Keeps.ofIte2) | (with_reducible apply Keeps.fold2) | (with_reducible apply Keeps.ofIte) | (with_reducible apply Keeps.fold) | (with_reducible rfl) | (dsimp only) | intro _ | split | (with_reducible apply Keeps.upd) | rfl

theorem Keeps.advanceFrame {s0 s : State} (h : Keeps s0 s) (p : Nat) : Keeps s0 (s.advanceFrame p) := by
  unfold Sys2Proof.Machine.State.advanceFrame
  repeat' first | (with_reducible assumption) | (with_reducible apply Keeps.modPanel) | (with_reducible apply Keeps.idle) | (with_reducible apply Keeps.setEvt) | (with_reducible apply Keeps.waveDone) | (with_reducible apply Keeps.setRegion) | (with_reducible apply Keeps.ofIte) | (with_reducible apply Keeps.fold) | (with_reducible rfl) | (dsimp only) | intro _ | split | (with_reducible apply Keeps.upd) | rfl

theorem Keeps.brandCut {s0 s : State} (h : Keeps s0 s) (drop : Bool) : Keeps s0 (s.brandCut drop) := by
  unfold Sys2Proof.Machine.State.brandCut
  repeat' first | (with_reducible assumption) | (with_reducible apply Keeps.draw) | (with_reducible apply Keeps.modPanel) | (with_reducible apply Keeps.setEvt) | (with_reducible apply Keeps.waveCut) | (with_reducible apply Keeps.setRegion) | (with_reducible apply Keeps.release) | (with_reducible apply Keeps.idle) | (with_reducible apply Keeps.ofIte1) | (with_reducible apply Keeps.fold1) | (with_reducible apply Keeps.ofIte2) | (with_reducible apply Keeps.fold2) | (with_reducible apply Keeps.ofIte) | (with_reducible apply Keeps.fold) | (with_reducible rfl) | (dsimp only) | intro _ | split | (with_reducible apply Keeps.upd) | rfl

theorem Keeps.railsStop {s0 s : State} (h : Keeps s0 s) (r : RailSt) : Keeps s0 (s.railsStop r) := by
  unfold Sys2Proof.Machine.State.railsStop
  repeat' first | (with_reducible assumption) | (with_reducible apply Keeps.release) | (with_reducible apply Keeps.ofIte) | (with_reducible apply Keeps.fold) | (with_reducible rfl) | (dsimp only) | intro _ | split | (with_reducible apply Keeps.upd) | rfl

theorem Keeps.legalRequest {s0 s : State} (h : Keeps s0 s) (p : Nat) (shown : List Nat) : Keeps s0 (s.legalRequest p shown) := by
  unfold Sys2Proof.Machine.State.legalRequest
  repeat' first | (with_reducible assumption) | (with_reducible apply Keeps.legal) | (with_reducible apply Keeps.placeUpd) | (with_reducible apply Keeps.shown) | (with_reducible apply Keeps.brandRun) | (with_reducible apply Keeps.ofIte) | (with_reducible apply Keeps.fold) | (with_reducible rfl) | (dsimp only) | intro _ | split | (with_reducible apply Keeps.upd) | rfl

/-! ### Tag -/

theorem Keeps.writeTag {s0 s : State} (h : Keeps s0 s) (p : Nat) (l : List Byte) : Keeps s0 (s.writeTag p l) := by
  unfold Sys2Proof.Machine.State.writeTag
  repeat' first | (with_reducible assumption) | (with_reducible apply Keeps.ofIte) | (with_reducible apply Keeps.fold) | (with_reducible rfl) | (dsimp only) | intro _ | split | (with_reducible apply Keeps.upd) | rfl

theorem Keeps.pubPage {s0 s : State} (h : Keeps s0 s) : Keeps s0 (s.pubPage) := by
  unfold Sys2Proof.Machine.State.pubPage
  repeat' first | (with_reducible assumption) | (with_reducible apply Keeps.writeTag) | (with_reducible apply Keeps.ofIte) | (with_reducible apply Keeps.fold) | (with_reducible rfl) | (dsimp only) | intro _ | split | (with_reducible apply Keeps.upd) | rfl

theorem Keeps.writeTotals {s0 s : State} (h : Keeps s0 s) : Keeps s0 (s.writeTotals) := by
  unfold Sys2Proof.Machine.State.writeTotals
  repeat' first | (with_reducible assumption) | (with_reducible apply Keeps.metroSign) | (with_reducible apply Keeps.writeTag) | (with_reducible apply Keeps.pubPage) | (with_reducible apply Keeps.ofIte1) | (with_reducible apply Keeps.fold1) | (with_reducible apply Keeps.ofIte2) | (with_reducible apply Keeps.fold2) | (with_reducible apply Keeps.ofIte) | (with_reducible apply Keeps.fold) | (with_reducible rfl) | (dsimp only) | intro _ | split | (with_reducible apply Keeps.upd) | rfl

theorem Keeps.publishTotals {s0 s : State} (h : Keeps s0 s) : Keeps s0 (s.publishTotals) := by
  unfold Sys2Proof.Machine.State.publishTotals
  repeat' first | (with_reducible assumption) | (with_reducible apply Keeps.setEvt) | (with_reducible apply Keeps.writeTotals) | (with_reducible apply Keeps.ofIte) | (with_reducible apply Keeps.fold) | (with_reducible rfl) | (dsimp only) | intro _ | split | (with_reducible apply Keeps.upd) | rfl

theorem Keeps.copyEntry {s0 s : State} (h : Keeps s0 s) (l : Nat) : Keeps s0 (s.copyEntry l) := by
  unfold Sys2Proof.Machine.State.copyEntry
  repeat' first | (with_reducible assumption) | (with_reducible apply Keeps.writeTag) | (with_reducible apply Keeps.pubPage) | (with_reducible apply Keeps.ofIte) | (with_reducible apply Keeps.fold) | (with_reducible rfl) | (dsimp only) | intro _ | split | (with_reducible apply Keeps.upd) | rfl

theorem Keeps.copyExcerpt {s0 s : State} (h : Keeps s0 s) : Keeps s0 (s.copyExcerpt) := by
  unfold Sys2Proof.Machine.State.copyExcerpt
  repeat' first | (with_reducible assumption) | (with_reducible apply Keeps.copyEntry) | (with_reducible apply Keeps.ofIte) | (with_reducible apply Keeps.fold) | (with_reducible rfl) | (dsimp only) | intro _ | split | (with_reducible apply Keeps.upd) | rfl

theorem Keeps.publishExcerpt {s0 s : State} (h : Keeps s0 s) : Keeps s0 (s.publishExcerpt) := by
  unfold Sys2Proof.Machine.State.publishExcerpt
  repeat' first | (with_reducible assumption) | (with_reducible apply Keeps.setEvt) | (with_reducible apply Keeps.copyExcerpt) | (with_reducible apply Keeps.ofIte) | (with_reducible apply Keeps.fold) | (with_reducible rfl) | (dsimp only) | intro _ | split | (with_reducible apply Keeps.upd) | rfl

theorem Keeps.publishDue {s0 s : State} (h : Keeps s0 s) : Keeps s0 (s.publishDue) := by
  unfold Sys2Proof.Machine.State.publishDue
  repeat' first | (with_reducible assumption) | (with_reducible apply Keeps.publishTotals) | (with_reducible apply Keeps.publishExcerpt) | (with_reducible apply Keeps.ofIte) | (with_reducible apply Keeps.fold) | (with_reducible rfl) | (dsimp only) | intro _ | split | (with_reducible apply Keeps.upd) | rfl

theorem Keeps.unlatch {s0 s : State} (h : Keeps s0 s) : Keeps s0 (s.unlatch) := by
  unfold Sys2Proof.Machine.State.unlatch
  repeat' first | (with_reducible assumption) | (with_reducible apply Keeps.writeTotals) | (with_reducible apply Keeps.copyExcerpt) | (with_reducible apply Keeps.ofIte) | (with_reducible apply Keeps.fold) | (with_reducible rfl) | (dsimp only) | intro _ | split | (with_reducible apply Keeps.upd) | rfl

theorem Keeps.readerAsk {s0 s : State} (h : Keeps s0 s) (ant : Nat) : Keeps s0 (s.readerAsk ant) := by
  unfold Sys2Proof.Machine.State.readerAsk
  repeat' first | (with_reducible assumption) | (with_reducible apply Keeps.present) | (with_reducible apply Keeps.ofIte) | (with_reducible apply Keeps.fold) | (with_reducible rfl) | (dsimp only) | intro _ | split | (with_reducible apply Keeps.upd) | rfl

theorem Keeps.fieldOff {s0 s : State} (h : Keeps s0 s) : Keeps s0 (s.fieldOff) := by
  unfold Sys2Proof.Machine.State.fieldOff
  repeat' first | (with_reducible assumption) | (with_reducible apply Keeps.release) | (with_reducible apply Keeps.ofIte) | (with_reducible apply Keeps.fold) | (with_reducible rfl) | (dsimp only) | intro _ | split | (with_reducible apply Keeps.upd) | rfl

/-! ### SkidlineCmd -/

theorem ResKeeps.execAckSend {s : State} (start : Nat) : ResKeeps s (execAckSend start s) := by
  have h := Keeps.refl s
  unfold Sys2Proof.Machine.execAckSend
  repeat' first | (with_reducible assumption) | (with_reducible apply ResKeeps.ofIte) | (with_reducible apply ResKeeps.next) | (with_reducible apply AnsKeeps.done) | (with_reducible apply AnsKeeps.wait) | (with_reducible apply Keeps.sklFailed) | (with_reducible apply Keeps.sklOut) | (with_reducible apply Keeps.ofIte1) | (with_reducible apply Keeps.fold1) | (with_reducible apply Keeps.ofIte2) | (with_reducible apply Keeps.fold2) | (with_reducible apply Keeps.ofIte) | (with_reducible apply Keeps.fold) | (with_reducible rfl) | (dsimp only) | intro _ | split | (with_reducible apply Keeps.upd) | rfl

theorem ResKeeps.execAckIntervalExpiry {s : State} (skip : Nat) : ResKeeps s (execAckIntervalExpiry skip s) := by
  have h := Keeps.refl s
  unfold Sys2Proof.Machine.execAckIntervalExpiry
  repeat' first | (with_reducible assumption) | (with_reducible apply ResKeeps.ofIte) | (with_reducible apply ResKeeps.next) | (with_reducible apply AnsKeeps.done) | (with_reducible apply AnsKeeps.wait) | (with_reducible apply Keeps.sklAttempt) | (with_reducible apply Keeps.sklDrop) | (with_reducible apply Keeps.skip) | (with_reducible apply Keeps.ofIte1) | (with_reducible apply Keeps.fold1) | (with_reducible apply Keeps.ofIte) | (with_reducible apply Keeps.fold) | (with_reducible rfl) | (dsimp only) | intro _ | split | (with_reducible apply Keeps.upd) | rfl

theorem ResKeeps.execSkidlineTxSlot {s : State} (idle : Nat) (window : Nat) (slot : Nat) (sensed : Bool) : ResKeeps s (execSkidlineTxSlot idle window slot sensed s) := by
  have h := Keeps.refl s
  unfold Sys2Proof.Machine.execSkidlineTxSlot
  repeat' first | (with_reducible assumption) | (with_reducible apply ResKeeps.ofIte) | (with_reducible apply ResKeeps.next) | (with_reducible apply AnsKeeps.done) | (with_reducible apply AnsKeeps.wait) | (with_reducible apply Keeps.idle) | (with_reducible apply Keeps.skip) | (with_reducible apply Keeps.sklTransmit) | (with_reducible apply Keeps.ofIte) | (with_reducible apply Keeps.fold) | (with_reducible rfl) | (dsimp only) | intro _ | split | (with_reducible apply Keeps.upd) | rfl

theorem ResKeeps.execFrameLifetimeExpiry {s : State} (id : Nat) : ResKeeps s (execFrameLifetimeExpiry id s) := by
  have h := Keeps.refl s
  unfold Sys2Proof.Machine.execFrameLifetimeExpiry
  repeat' first | (with_reducible assumption) | (with_reducible apply ResKeeps.ofIte) | (with_reducible apply ResKeeps.next) | (with_reducible apply AnsKeeps.done) | (with_reducible apply AnsKeeps.wait) | (with_reducible apply Keeps.sklDrop) | (with_reducible apply Keeps.ofIte) | (with_reducible apply Keeps.fold) | (with_reducible rfl) | (dsimp only) | intro _ | split | (with_reducible apply Keeps.upd) | rfl

theorem ResKeeps.execAlarmForced {s : State} (start : Nat) : ResKeeps s (execAlarmForced start s) := by
  have h := Keeps.refl s
  unfold Sys2Proof.Machine.execAlarmForced
  repeat' first | (with_reducible assumption) | (with_reducible apply ResKeeps.ofIte) | (with_reducible apply ResKeeps.next) | (with_reducible apply AnsKeeps.done) | (with_reducible apply AnsKeeps.wait) | (with_reducible apply Keeps.sklTransmit) | (with_reducible apply Keeps.setEvt) | (with_reducible apply Keeps.ofIte) | (with_reducible apply Keeps.fold) | (with_reducible rfl) | (dsimp only) | intro _ | split | (with_reducible apply Keeps.upd) | rfl

theorem ResKeeps.execRouteBroadcast {s : State} : ResKeeps s (execRouteBroadcast s) := by
  have h := Keeps.refl s
  unfold Sys2Proof.Machine.execRouteBroadcast
  repeat' first | (with_reducible assumption) | (with_reducible apply ResKeeps.ofIte) | (with_reducible apply ResKeeps.next) | (with_reducible apply AnsKeeps.done) | (with_reducible apply AnsKeeps.wait) | (with_reducible apply Keeps.sklOwn) | (with_reducible apply Keeps.ofIte) | (with_reducible apply Keeps.fold) | (with_reducible rfl) | (dsimp only) | intro _ | split | (with_reducible apply Keeps.upd) | rfl

theorem ResKeeps.execPathSend {s : State} : ResKeeps s (execPathSend s) := by
  have h := Keeps.refl s
  unfold Sys2Proof.Machine.execPathSend
  repeat' first | (with_reducible assumption) | (with_reducible apply ResKeeps.ofIte) | (with_reducible apply ResKeeps.next) | (with_reducible apply AnsKeeps.done) | (with_reducible apply AnsKeeps.wait) | (with_reducible apply Keeps.sklOwn) | (with_reducible apply Keeps.ofIte) | (with_reducible apply Keeps.fold) | (with_reducible rfl) | (dsimp only) | intro _ | split | (with_reducible apply Keeps.upd) | rfl

theorem ResKeeps.execRouteEntryExpiry {s : State} (node : Nat) : ResKeeps s (execRouteEntryExpiry node s) := by
  have h := Keeps.refl s
  unfold Sys2Proof.Machine.execRouteEntryExpiry
  repeat' first | (with_reducible assumption) | (with_reducible apply ResKeeps.ofIte) | (with_reducible apply ResKeeps.next) | (with_reducible apply AnsKeeps.done) | (with_reducible apply AnsKeeps.wait) | (with_reducible apply Keeps.ofIte) | (with_reducible apply Keeps.fold) | (with_reducible rfl) | (dsimp only) | intro _ | split | (with_reducible apply Keeps.upd) | rfl

theorem ResKeeps.execEpochActivation {s : State} : ResKeeps s (execEpochActivation s) := by
  have h := Keeps.refl s
  unfold Sys2Proof.Machine.execEpochActivation
  repeat' first | (with_reducible assumption) | (with_reducible apply ResKeeps.ofIte) | (with_reducible apply ResKeeps.next) | (with_reducible apply AnsKeeps.done) | (with_reducible apply AnsKeeps.wait) | (with_reducible apply Keeps.ofIte) | (with_reducible apply Keeps.fold) | (with_reducible rfl) | (dsimp only) | intro _ | split | (with_reducible apply Keeps.upd) | rfl

theorem ResKeeps.execOldEpochExpiry {s : State} : ResKeeps s (execOldEpochExpiry s) := by
  have h := Keeps.refl s
  unfold Sys2Proof.Machine.execOldEpochExpiry
  repeat' first | (with_reducible assumption) | (with_reducible apply ResKeeps.ofIte) | (with_reducible apply ResKeeps.next) | (with_reducible apply AnsKeeps.done) | (with_reducible apply AnsKeeps.wait) | (with_reducible apply Keeps.ofIte1) | (with_reducible apply Keeps.fold1) | (with_reducible apply Keeps.ofIte) | (with_reducible apply Keeps.fold) | (with_reducible rfl) | (dsimp only) | intro _ | split | (with_reducible apply Keeps.upd) | rfl

theorem ResKeeps.execSklSend {s : State} (c : Cmd) (final : Nat) (cls : Nat) (payload : List Byte) : ResKeeps s (execSklSend c final cls payload s) := by
  have h := Keeps.refl s
  unfold Sys2Proof.Machine.execSklSend
  repeat' first | (with_reducible assumption) | (with_reducible apply AnsKeeps.ofIte) | (with_reducible apply ResKeeps.ofIte) | (with_reducible apply ResKeeps.next) | (with_reducible apply AnsKeeps.done) | (with_reducible apply AnsKeeps.wait) | (with_reducible apply Keeps.runCmd) | (with_reducible apply AnsKeeps.fail) | (with_reducible apply Keeps.sklFailed) | (with_reducible apply Keeps.sklOwn) | (with_reducible apply Keeps.ofIte) | (with_reducible apply Keeps.fold) | (with_reducible rfl) | (dsimp only) | intro _ | split | (with_reducible apply Keeps.upd) | rfl

theorem ResKeeps.execSklRxRead {s : State} (c : Cmd) (count : Nat) (dst : Nat) : ResKeeps s (execSklRxRead c count dst s) := by
  have h := Keeps.refl s
  unfold Sys2Proof.Machine.execSklRxRead
  repeat' first | (with_reducible assumption) | (with_reducible apply AnsKeeps.ofIte) | (with_reducible apply ResKeeps.ofIte) | (with_reducible apply ResKeeps.next) | (with_reducible apply AnsKeeps.done) | (with_reducible apply AnsKeeps.wait) | (with_reducible apply Keeps.runCmd) | (with_reducible apply AnsKeeps.fail) | (with_reducible apply Keeps.writeGen) | (with_reducible apply AnsKeeps.okay) | (with_reducible apply Keeps.ofIte1) | (with_reducible apply Keeps.fold1) | (with_reducible apply Keeps.ofIte2) | (with_reducible apply Keeps.fold2) | (with_reducible apply Keeps.ofIte) | (with_reducible apply Keeps.fold) | (with_reducible rfl) | (dsimp only) | intro _ | split | (with_reducible apply Keeps.upd) | rfl

theorem ResKeeps.execSklNodeRead {s : State} (c : Cmd) (node : Nat) : ResKeeps s (execSklNodeRead c node s) := by
  have h := Keeps.refl s
  unfold Sys2Proof.Machine.execSklNodeRead
  repeat' first | (with_reducible assumption) | (with_reducible apply AnsKeeps.ofIte) | (with_reducible apply ResKeeps.ofIte) | (with_reducible apply ResKeeps.next) | (with_reducible apply AnsKeeps.done) | (with_reducible apply AnsKeeps.wait) | (with_reducible apply Keeps.runCmd) | (with_reducible apply AnsKeeps.fail) | (with_reducible apply AnsKeeps.okay) | (with_reducible apply Keeps.ofIte) | (with_reducible apply Keeps.fold) | (with_reducible rfl) | (dsimp only) | intro _ | split | (with_reducible apply Keeps.upd) | rfl

theorem ResKeeps.execSklRekey {s : State} (c : Cmd) (time : Nat) : ResKeeps s (execSklRekey c time s) := by
  have h := Keeps.refl s
  unfold Sys2Proof.Machine.execSklRekey
  repeat' first | (with_reducible assumption) | (with_reducible apply AnsKeeps.ofIte) | (with_reducible apply ResKeeps.ofIte) | (with_reducible apply ResKeeps.next) | (with_reducible apply AnsKeeps.done) | (with_reducible apply AnsKeeps.wait) | (with_reducible apply Keeps.runCmd) | (with_reducible apply AnsKeeps.fail) | (with_reducible apply AnsKeeps.okay) | (with_reducible apply Keeps.ofIte) | (with_reducible apply Keeps.fold) | (with_reducible rfl) | (dsimp only) | intro _ | split | (with_reducible apply Keeps.upd) | rfl

/-! ### Cruise -/

theorem Keeps.nextUnit {s0 s : State} (h : Keeps s0 s) : Keeps s0 (s.nextUnit) := by
  unfold Sys2Proof.Machine.State.nextUnit
  repeat' first | (with_reducible assumption) | (with_reducible apply Keeps.ofIte) | (with_reducible apply Keeps.fold) | (with_reducible rfl) | (dsimp only) | intro _ | split | (with_reducible apply Keeps.upd) | rfl

theorem Keeps.sliceOver {s0 s : State} (h : Keeps s0 s) : Keeps s0 (s.sliceOver) := by
  unfold Sys2Proof.Machine.State.sliceOver
  repeat' first | (with_reducible assumption) | (with_reducible apply Keeps.nextUnit) | (with_reducible apply Keeps.finish) | (with_reducible apply Keeps.idle) | (with_reducible apply Keeps.ofIte) | (with_reducible apply Keeps.fold) | (with_reducible rfl) | (dsimp only) | intro _ | split | (with_reducible apply Keeps.upd) | rfl

theorem Keeps.sliceAsk {s0 s : State} (h : Keeps s0 s) : Keeps s0 (s.sliceAsk) := by
  unfold Sys2Proof.Machine.State.sliceAsk
  repeat' first | (with_reducible assumption) | (with_reducible apply Keeps.present) | (with_reducible apply Keeps.ofIte) | (with_reducible apply Keeps.fold) | (with_reducible rfl) | (dsimp only) | intro _ | split | (with_reducible apply Keeps.upd) | rfl

theorem Keeps.sliceStart {s0 s : State} (h : Keeps s0 s) : Keeps s0 (s.sliceStart) := by
  unfold Sys2Proof.Machine.State.sliceStart
  repeat' first | (with_reducible assumption) | (with_reducible apply Keeps.ofIte) | (with_reducible apply Keeps.fold) | (with_reducible rfl) | (dsimp only) | intro _ | split | (with_reducible apply Keeps.upd) | rfl

theorem Keeps.failAddr {s0 s : State} (h : Keeps s0 s) (r : Nat × Nat) (rep : Bool) : Keeps s0 (s.failAddr r rep) := by
  unfold Sys2Proof.Machine.State.failAddr
  repeat' first | (with_reducible assumption) | (with_reducible apply Keeps.ofIte1) | (with_reducible apply Keeps.fold1) | (with_reducible apply Keeps.ofIte2) | (with_reducible apply Keeps.fold2) | (with_reducible apply Keeps.ofIte) | (with_reducible apply Keeps.fold) | (with_reducible rfl) | (dsimp only) | intro _ | split | (with_reducible apply Keeps.upd) | rfl

theorem Keeps.softRepair {s0 s : State} (h : Keeps s0 s) (r : Nat × Nat) : Keeps s0 (s.softRepair r).1 := by
  unfold Sys2Proof.Machine.State.softRepair
  repeat' first | (with_reducible assumption) | (with_reducible apply Keeps.failAddr) | (with_reducible apply Keeps.setEvt) | (with_reducible apply Keeps.ofIte1) | (with_reducible apply Keeps.fold1) | (with_reducible apply Keeps.ofIte) | (with_reducible apply Keeps.fold) | (with_reducible rfl) | (dsimp only) | intro _ | split | (with_reducible apply Keeps.upd) | rfl

end Sys2Proof.Machine
end

