-- ==== Sys2Proof/Laws/KeepsMeter.lean ====
section
/-! SUPPORT. What every function keeps (`Keeps`): metering, isolation and sessions. -/
namespace Sys2Proof.Machine

/-! ### Scaler -/

theorem Keeps.meanPoints {s0 s : State} (h : Keeps s0 s) (n : Nat) : Keeps s0 (s.meanPoints n) := by
  unfold Sys2Proof.Machine.State.meanPoints
  repeat' first | (with_reducible assumption) | (with_reducible apply Keeps.engineUpdate) | (with_reducible apply Keeps.ofIte) | (with_reducible apply Keeps.fold) | (with_reducible rfl) | (dsimp only) | intro _ | split | (with_reducible apply Keeps.upd) | rfl

theorem Keeps.sampleBay {s0 s : State} (h : Keeps s0 s) (n : Nat) (c : BayCodes) : Keeps s0 (s.sampleBay n c) := by
  unfold Sys2Proof.Machine.State.sampleBay
  repeat' first | (with_reducible assumption) | (with_reducible apply Keeps.setMbay) | (with_reducible apply Keeps.setEvtIf) | (with_reducible apply Keeps.modImdB) | (with_reducible apply Keeps.meanPoints) | (with_reducible apply Keeps.ofIte) | (with_reducible apply Keeps.fold) | (with_reducible rfl) | (dsimp only) | intro _ | split | (with_reducible apply Keeps.upd) | rfl

theorem Keeps.sampleAll {s0 s : State} (h : Keeps s0 s) (codes : List BayCodes) : Keeps s0 (s.sampleAll codes) := by
  unfold Sys2Proof.Machine.State.sampleAll
  repeat' first | (with_reducible assumption) | (with_reducible apply Keeps.sampleBay) | (with_reducible apply Keeps.ofIte) | (with_reducible apply Keeps.fold) | (with_reducible rfl) | (dsimp only) | intro _ | split | (with_reducible apply Keeps.upd) | rfl

theorem Keeps.pulseTick {s0 s : State} (h : Keeps s0 s) (hand : Nat → TickOut) : Keeps s0 (s.pulseTick hand) := by
  unfold Sys2Proof.Machine.State.pulseTick
  repeat' first | (with_reducible assumption) | (with_reducible apply Keeps.setPulse) | (with_reducible apply Keeps.setEvtIf) | (with_reducible apply Keeps.ofIte) | (with_reducible apply Keeps.fold) | (with_reducible rfl) | (dsimp only) | intro _ | split | (with_reducible apply Keeps.upd) | rfl

theorem Keeps.mfaultCore {s0 s : State} (h : Keeps s0 s) (n : Nat) (cause : Nat) : Keeps s0 (s.mfaultCore n cause) := by
  unfold Sys2Proof.Machine.State.mfaultCore
  repeat' first | (with_reducible assumption) | (with_reducible apply Keeps.mfault) | (with_reducible apply Keeps.setMbay) | (with_reducible apply Keeps.setEvt) | (with_reducible apply Keeps.ofIte) | (with_reducible apply Keeps.fold) | (with_reducible rfl) | (dsimp only) | intro _ | split | (with_reducible apply Keeps.upd) | rfl

/-! ### Tally -/

theorem Keeps.tlyAdd {s0 s : State} (h : Keeps s0 s) (n : Nat) (d : Nat) (t : Nat) (e : Nat) : Keeps s0 (s.tlyAdd n d t e).1 := by
  unfold Sys2Proof.Machine.State.tlyAdd
  repeat' first | (with_reducible assumption) | (with_reducible apply Keeps.ofIte1) | (with_reducible apply Keeps.fold1) | (with_reducible apply Keeps.ofIte) | (with_reducible apply Keeps.fold) | (with_reducible rfl) | (dsimp only) | intro _ | split | (with_reducible apply Keeps.upd) | rfl

theorem Keeps.reading {s0 s : State} (h : Keeps s0 s) (kind : Nat) (bay : Nat) (ref : Stamp) (loss : BitVec 16) : Keeps s0 (s.reading kind bay ref loss).2 := by
  unfold Sys2Proof.Machine.State.reading
  repeat' first | (with_reducible assumption) | (with_reducible apply Keeps.metroSign) | (with_reducible apply Keeps.ofIte1) | (with_reducible apply Keeps.fold1) | (with_reducible apply Keeps.ofIte2) | (with_reducible apply Keeps.fold2) | (with_reducible apply Keeps.ofIte) | (with_reducible apply Keeps.fold) | (with_reducible rfl) | (dsimp only) | intro _ | split | (with_reducible apply Keeps.upd) | rfl

theorem Keeps.readingStore {s0 s : State} (h : Keeps s0 s) (kind : Nat) (bay : Nat) (ref : Stamp) (loss : BitVec 16) : Keeps s0 (s.readingStore kind bay ref loss) := by
  unfold Sys2Proof.Machine.State.readingStore
  repeat' first | (with_reducible assumption) | (with_reducible apply Keeps.reading) | (with_reducible apply Keeps.ofIte1) | (with_reducible apply Keeps.fold1) | (with_reducible apply Keeps.ofIte2) | (with_reducible apply Keeps.fold2) | (with_reducible apply Keeps.ofIte) | (with_reducible apply Keeps.fold) | (with_reducible rfl) | (dsimp only) | intro _ | split | (with_reducible apply Keeps.upd) | rfl

theorem Keeps.readAll {s0 s : State} (h : Keeps s0 s) (kind : Nat) (ref : Stamp) (loss : BitVec 16) : Keeps s0 (s.readAll kind ref loss) := by
  unfold Sys2Proof.Machine.State.readAll
  repeat' first | (with_reducible assumption) | (with_reducible apply Keeps.readingStore) | (with_reducible apply Keeps.ofIte) | (with_reducible apply Keeps.fold) | (with_reducible rfl) | (dsimp only) | intro _ | split | (with_reducible apply Keeps.upd) | rfl

theorem Keeps.recReserve {s0 s : State} (h : Keeps s0 s) : Keeps s0 (s.recReserve).1 := by
  unfold Sys2Proof.Machine.State.recReserve
  repeat' first | (with_reducible assumption) | (with_reducible apply Keeps.setRcd) | (with_reducible apply Keeps.setEvtIf) | (with_reducible apply Keeps.setEvt) | (with_reducible apply Keeps.ofIte1) | (with_reducible apply Keeps.fold1) | (with_reducible apply Keeps.ofIte) | (with_reducible apply Keeps.fold) | (with_reducible rfl) | (dsimp only) | intro _ | split | (with_reducible apply Keeps.upd) | rfl

theorem Keeps.recRelease {s0 s : State} (h : Keeps s0 s) (n : Nat) : Keeps s0 (s.recRelease n) := by
  unfold Sys2Proof.Machine.State.recRelease
  repeat' first | (with_reducible assumption) | (with_reducible apply Keeps.setRcd) | (with_reducible apply Keeps.ofIte) | (with_reducible apply Keeps.fold) | (with_reducible rfl) | (dsimp only) | intro _ | split | (with_reducible apply Keeps.upd) | rfl

theorem Keeps.recOpen {s0 s : State} (h : Keeps s0 s) (n : Nat) (bay : Nat) (bridged : Bool) (m : Method) (ident : List Byte) (satImp : Nat) (satExp : Nat) : Keeps s0 (s.recOpen n bay bridged m ident satImp satExp) := by
  unfold Sys2Proof.Machine.State.recOpen
  repeat' first | (with_reducible assumption) | (with_reducible apply Keeps.setRcd) | (with_reducible apply Keeps.ofIte) | (with_reducible apply Keeps.fold) | (with_reducible rfl) | (dsimp only) | intro _ | split | (with_reducible apply Keeps.upd) | rfl

theorem Keeps.segment {s0 s : State} (h : Keeps s0 s) (n : Nat) (old : Nat) (new : Nat) : Keeps s0 (s.segment n old new) := by
  unfold Sys2Proof.Machine.State.segment
  repeat' first | (with_reducible assumption) | (with_reducible apply Keeps.modRcd) | (with_reducible apply Keeps.ofIte) | (with_reducible apply Keeps.fold) | (with_reducible rfl) | (dsimp only) | intro _ | split | (with_reducible apply Keeps.upd) | rfl

theorem Keeps.recSat {s0 s : State} (h : Keeps s0 s) (n : Nat) (imp : Nat) (exp : Nat) (t : Stamp) (gap : Bool) : Keeps s0 (s.recSat n imp exp t gap) := by
  unfold Sys2Proof.Machine.State.recSat
  repeat' first | (with_reducible assumption) | (with_reducible apply Keeps.modRcd) | (with_reducible apply Keeps.gap) | (with_reducible apply Keeps.siteAdd) | (with_reducible apply Keeps.catchMark) | (with_reducible apply Keeps.ofIte) | (with_reducible apply Keeps.fold) | (with_reducible rfl) | (dsimp only) | intro _ | split | (with_reducible apply Keeps.upd) | rfl

theorem Keeps.recClose {s0 s : State} (h : Keeps s0 s) (n : Nat) (e : EndReason) (tEnd : Stamp) (weld : Bool) (warn : Bool) (loss : BitVec 16) : Keeps s0 (s.recClose n e tEnd weld warn loss) := by
  unfold Sys2Proof.Machine.State.recClose
  repeat' first | (with_reducible assumption) | (with_reducible apply Keeps.segment) | (with_reducible apply Keeps.metroSign) | (with_reducible apply Keeps.setRcd) | (with_reducible apply Keeps.publishTotals) | (with_reducible apply Keeps.ofIte1) | (with_reducible apply Keeps.fold1) | (with_reducible apply Keeps.ofIte2) | (with_reducible apply Keeps.fold2) | (with_reducible apply Keeps.ofIte) | (with_reducible apply Keeps.fold) | (with_reducible rfl) | (dsimp only) | intro _ | split | (with_reducible apply Keeps.upd) | rfl

theorem Keeps.tlySignLate {s0 s : State} (h : Keeps s0 s) : Keeps s0 (s.tlySignLate) := by
  unfold Sys2Proof.Machine.State.tlySignLate
  repeat' first | (with_reducible assumption) | (with_reducible apply Keeps.metroSign) | (with_reducible apply Keeps.modRcd) | (with_reducible apply Keeps.ofIte1) | (with_reducible apply Keeps.fold1) | (with_reducible apply Keeps.ofIte2) | (with_reducible apply Keeps.fold2) | (with_reducible apply Keeps.ofIte) | (with_reducible apply Keeps.fold) | (with_reducible rfl) | (dsimp only) | intro _ | split | (with_reducible apply Keeps.upd) | rfl

theorem Keeps.modEntry {s0 s : State} (h : Keeps s0 s) (ch : Nat) (f : Entry → Entry) : Keeps s0 (s.modEntry ch f) := by
  unfold Sys2Proof.Machine.State.modEntry
  repeat' first | (with_reducible assumption) | (with_reducible apply Keeps.ofIte) | (with_reducible apply Keeps.fold) | (with_reducible rfl) | (dsimp only) | intro _ | split | (with_reducible apply Keeps.upd) | rfl

theorem Keeps.flagEntries {s0 s : State} (h : Keeps s0 s) (f : BitVec 16) : Keeps s0 (s.flagEntries f) := by
  unfold Sys2Proof.Machine.State.flagEntries
  repeat' first | (with_reducible assumption) | (with_reducible apply Keeps.ofIte) | (with_reducible apply Keeps.fold) | (with_reducible rfl) | (dsimp only) | intro _ | split | (with_reducible apply Keeps.upd) | rfl

theorem Keeps.openEntry {s0 s : State} (h : Keeps s0 s) (ch : Nat) (flags : BitVec 16) : Keeps s0 (s.openEntry ch flags) := by
  unfold Sys2Proof.Machine.State.openEntry
  repeat' first | (with_reducible assumption) | (with_reducible apply Keeps.ofIte) | (with_reducible apply Keeps.fold) | (with_reducible rfl) | (dsimp only) | intro _ | split | (with_reducible apply Keeps.upd) | rfl

theorem Keeps.openEntries {s0 s : State} (h : Keeps s0 s) (flags : BitVec 16) : Keeps s0 (s.openEntries flags) := by
  unfold Sys2Proof.Machine.State.openEntries
  repeat' first | (with_reducible assumption) | (with_reducible apply Keeps.openEntry) | (with_reducible apply Keeps.ofIte) | (with_reducible apply Keeps.fold) | (with_reducible rfl) | (dsimp only) | intro _ | split | (with_reducible apply Keeps.upd) | rfl

theorem Keeps.closeEntry {s0 s : State} (h : Keeps s0 s) (ch : Nat) (t : Stamp) (flags : BitVec 16) : Keeps s0 (s.closeEntry ch t flags) := by
  unfold Sys2Proof.Machine.State.closeEntry
  repeat' first | (with_reducible assumption) | (with_reducible apply Keeps.ofIte1) | (with_reducible apply Keeps.fold1) | (with_reducible apply Keeps.ofIte) | (with_reducible apply Keeps.fold) | (with_reducible rfl) | (dsimp only) | intro _ | split | (with_reducible apply Keeps.upd) | rfl

theorem Keeps.closeEntries {s0 s : State} (h : Keeps s0 s) (t : Stamp) (flags : BitVec 16) : Keeps s0 (s.closeEntries t flags) := by
  unfold Sys2Proof.Machine.State.closeEntries
  repeat' first | (with_reducible assumption) | (with_reducible apply Keeps.closeEntry) | (with_reducible apply Keeps.ofIte) | (with_reducible apply Keeps.fold) | (with_reducible rfl) | (dsimp only) | intro _ | split | (with_reducible apply Keeps.upd) | rfl

theorem Keeps.feedEntries {s0 s : State} (h : Keeps s0 s) (d : Nat → Nat → Nat) (site : Nat → Nat) (flagsOf : Nat → BitVec 16) : Keeps s0 (s.feedEntries d site flagsOf) := by
  unfold Sys2Proof.Machine.State.feedEntries
  repeat' first | (with_reducible assumption) | (with_reducible apply Keeps.modEntry) | (with_reducible apply Keeps.ofIte1) | (with_reducible apply Keeps.fold1) | (with_reducible apply Keeps.ofIte2) | (with_reducible apply Keeps.fold2) | (with_reducible apply Keeps.ofIte) | (with_reducible apply Keeps.fold) | (with_reducible rfl) | (dsimp only) | intro _ | split | (with_reducible apply Keeps.upd) | rfl

theorem Keeps.noteEv {s0 s : State} (h : Keeps s0 s) (e : JEvent) : Keeps s0 (s.noteEv e) := by
  unfold Sys2Proof.Machine.State.noteEv
  repeat' first | (with_reducible assumption) | (with_reducible apply Keeps.ofIte) | (with_reducible apply Keeps.fold) | (with_reducible rfl) | (dsimp only) | intro _ | split | (with_reducible apply Keeps.upd) | rfl

theorem Keeps.note {s0 s : State} (h : Keeps s0 s) (ev : Nat) : Keeps s0 (s.note ev) := by
  unfold Sys2Proof.Machine.State.note
  repeat' first | (with_reducible assumption) | (with_reducible apply Keeps.noteEv) | (with_reducible apply Keeps.ofIte) | (with_reducible apply Keeps.fold) | (with_reducible rfl) | (dsimp only) | intro _ | split | (with_reducible apply Keeps.upd) | rfl

theorem Keeps.setTariff {s0 s : State} (h : Keeps s0 s) (t : Nat) : Keeps s0 (s.setTariff t) := by
  unfold Sys2Proof.Machine.State.setTariff
  repeat' first | (with_reducible assumption) | (with_reducible apply Keeps.segment) | (with_reducible apply Keeps.flagEntries) | (with_reducible apply Keeps.setEvt) | (with_reducible apply Keeps.ofIte) | (with_reducible apply Keeps.fold) | (with_reducible rfl) | (dsimp only) | intro _ | split | (with_reducible apply Keeps.upd) | rfl

theorem Keeps.setMode {s0 s : State} (h : Keeps s0 s) (m : TMode) : Keeps s0 (s.setMode m) := by
  unfold Sys2Proof.Machine.State.setMode
  repeat' first | (with_reducible assumption) | (with_reducible apply Keeps.note) | (with_reducible apply Keeps.setEvt) | (with_reducible apply Keeps.ofIte) | (with_reducible apply Keeps.fold) | (with_reducible rfl) | (dsimp only) | intro _ | split | (with_reducible apply Keeps.upd) | rfl

theorem Keeps.applyMsg {s0 s : State} (h : Keeps s0 s) (m : TlyMsgOp) : Keeps s0 (s.applyMsg m) := by
  unfold Sys2Proof.Machine.State.applyMsg
  repeat' first | (with_reducible assumption) | (with_reducible apply Keeps.noteEv) | (with_reducible apply Keeps.ofIte) | (with_reducible apply Keeps.fold) | (with_reducible rfl) | (dsimp only) | intro _ | split | (with_reducible apply Keeps.upd) | rfl

theorem Keeps.closePeriod {s0 s : State} (h : Keeps s0 s) (ref : Stamp) (sec : Nat) : Keeps s0 (s.closePeriod ref sec) := by
  unfold Sys2Proof.Machine.State.closePeriod
  repeat' first | (with_reducible assumption) | (with_reducible apply Keeps.readAll) | (with_reducible apply Keeps.note) | (with_reducible apply Keeps.setEvt) | (with_reducible apply Keeps.ofIte) | (with_reducible apply Keeps.fold) | (with_reducible rfl) | (dsimp only) | intro _ | split | (with_reducible apply Keeps.upd) | rfl

theorem Keeps.closeInterval {s0 s : State} (h : Keeps s0 s) : Keeps s0 (s.closeInterval) := by
  unfold Sys2Proof.Machine.State.closeInterval
  repeat' first | (with_reducible assumption) | (with_reducible apply Keeps.closeEntries) | (with_reducible apply Keeps.note) | (with_reducible apply Keeps.setEvt) | (with_reducible apply Keeps.ofIte) | (with_reducible apply Keeps.fold) | (with_reducible rfl) | (dsimp only) | intro _ | split | (with_reducible apply Keeps.upd) | rfl

theorem Keeps.dueMsgs {s0 s : State} (h : Keeps s0 s) (kind : Nat) : Keeps s0 (s.dueMsgs kind).2 := by
  unfold Sys2Proof.Machine.State.dueMsgs
  repeat' first | (with_reducible assumption) | (with_reducible apply Keeps.ofIte2) | (with_reducible apply Keeps.fold2) | (with_reducible apply Keeps.ofIte) | (with_reducible apply Keeps.fold) | (with_reducible rfl) | (dsimp only) | intro _ | split | (with_reducible apply Keeps.upd) | rfl

theorem Keeps.periodDue {s0 s : State} (h : Keeps s0 s) : Keeps s0 (s.periodDue) := by
  unfold Sys2Proof.Machine.State.periodDue
  repeat' first | (with_reducible assumption) | (with_reducible apply Keeps.dueMsgs) | (with_reducible apply Keeps.closePeriod) | (with_reducible apply Keeps.ofIte1) | (with_reducible apply Keeps.fold1) | (with_reducible apply Keeps.ofIte2) | (with_reducible apply Keeps.fold2) | (with_reducible apply Keeps.ofIte) | (with_reducible apply Keeps.fold) | (with_reducible rfl) | (dsimp only) | intro _ | split | (with_reducible apply Keeps.upd) | rfl

theorem Keeps.boundaries {s0 s : State} (h : Keeps s0 s) (ivl : Bool) : Keeps s0 (s.boundaries ivl) := by
  unfold Sys2Proof.Machine.State.boundaries
  repeat' first | (with_reducible assumption) | (with_reducible apply Keeps.closeInterval) | (with_reducible apply Keeps.periodDue) | (with_reducible apply Keeps.setMode) | (with_reducible apply Keeps.dueMsgs) | (with_reducible apply Keeps.applyMsg) | (with_reducible apply Keeps.setTariff) | (with_reducible apply Keeps.openEntries) | (with_reducible apply Keeps.ofIte1) | (with_reducible apply Keeps.fold1) | (with_reducible apply Keeps.ofIte2) | (with_reducible apply Keeps.fold2) | (with_reducible apply Keeps.ofIte) | (with_reducible apply Keeps.fold) | (with_reducible rfl) | (dsimp only) | intro _ | split | (with_reducible apply Keeps.upd) | rfl

theorem Keeps.slotWrite {s0 s : State} (h : Keeps s0 s) (j : JSlot) : Keeps s0 (s.slotWrite j) := by
  unfold Sys2Proof.Machine.State.slotWrite
  repeat' first | (with_reducible assumption) | (with_reducible apply Keeps.ofIte1) | (with_reducible apply Keeps.fold1) | (with_reducible apply Keeps.ofIte2) | (with_reducible apply Keeps.fold2) | (with_reducible apply Keeps.ofIte) | (with_reducible apply Keeps.fold) | (with_reducible rfl) | (dsimp only) | intro _ | split | (with_reducible apply Keeps.upd) | rfl

theorem Keeps.eventSlots {s0 s : State} (h : Keeps s0 s) : Keeps s0 (s.eventSlots) := by
  unfold Sys2Proof.Machine.State.eventSlots
  repeat' first | (with_reducible assumption) | (with_reducible apply Keeps.slotWrite) | (with_reducible apply Keeps.ofIte) | (with_reducible apply Keeps.fold) | (with_reducible rfl) | (dsimp only) | intro _ | split | (with_reducible apply Keeps.upd) | rfl

theorem Keeps.checkpointNow {s0 s : State} (h : Keeps s0 s) : Keeps s0 (s.checkpointNow) := by
  unfold Sys2Proof.Machine.State.checkpointNow
  repeat' first | (with_reducible assumption) | (with_reducible apply Keeps.ofIte) | (with_reducible apply Keeps.fold) | (with_reducible rfl) | (dsimp only) | intro _ | split | (with_reducible apply Keeps.upd) | rfl

theorem Keeps.closeTicks {s0 s : State} (h : Keeps s0 s) : Keeps s0 (s.closeTicks).2 := by
  unfold Sys2Proof.Machine.State.closeTicks
  repeat' first | (with_reducible assumption) | (with_reducible apply Keeps.setMbay) | (with_reducible apply Keeps.modImdB) | (with_reducible apply Keeps.ofIte1) | (with_reducible apply Keeps.fold1) | (with_reducible apply Keeps.ofIte2) | (with_reducible apply Keeps.fold2) | (with_reducible apply Keeps.ofIte) | (with_reducible apply Keeps.fold) | (with_reducible rfl) | (dsimp only) | intro _ | split | (with_reducible apply Keeps.upd) | rfl

theorem Keeps.meterStart {s0 s : State} (h : Keeps s0 s) : Keeps s0 (s.meterStart) := by
  unfold Sys2Proof.Machine.State.meterStart
  repeat' first | (with_reducible assumption) | (with_reducible apply Keeps.gap) | (with_reducible apply Keeps.ofIte) | (with_reducible apply Keeps.fold) | (with_reducible rfl) | (dsimp only) | intro _ | split | (with_reducible apply Keeps.upd) | rfl

theorem Keeps.tickEnergy {s0 s : State} (h : Keeps s0 s) (hand : Tab TickOut) : Keeps s0 (s.tickEnergy hand) := by
  unfold Sys2Proof.Machine.State.tickEnergy
  repeat' first | (with_reducible assumption) | (with_reducible apply Keeps.tlyAdd) | (with_reducible apply Keeps.gap) | (with_reducible apply Keeps.feedEntries) | (with_reducible apply Keeps.setEvtIf) | (with_reducible apply Keeps.modRcd) | (with_reducible apply Keeps.ofIte1) | (with_reducible apply Keeps.fold1) | (with_reducible apply Keeps.ofIte2) | (with_reducible apply Keeps.fold2) | (with_reducible apply Keeps.ofIte) | (with_reducible apply Keeps.fold) | (with_reducible rfl) | (dsimp only) | intro _ | split | (with_reducible apply Keeps.upd) | rfl

theorem Keeps.showTally {s0 s : State} (h : Keeps s0 s) : Keeps s0 (s.showTally) := by
  unfold Sys2Proof.Machine.State.showTally
  repeat' first | (with_reducible assumption) | (with_reducible apply Keeps.ofIte) | (with_reducible apply Keeps.fold) | (with_reducible rfl) | (dsimp only) | intro _ | split | (with_reducible apply Keeps.upd) | rfl

theorem Keeps.sendEnergy {s0 s : State} (h : Keeps s0 s) : Keeps s0 (s.sendEnergy) := by
  unfold Sys2Proof.Machine.State.sendEnergy
  repeat' first | (with_reducible assumption) | (with_reducible apply Keeps.present) | (with_reducible apply Keeps.send) | (with_reducible apply Keeps.ofIte) | (with_reducible apply Keeps.fold) | (with_reducible rfl) | (dsimp only) | intro _ | split | (with_reducible apply Keeps.upd) | rfl

theorem Keeps.commit {s0 s : State} (h : Keeps s0 s) : Keeps s0 (s.commit) := by
  unfold Sys2Proof.Machine.State.commit
  repeat' first | (with_reducible assumption) | (with_reducible apply Keeps.closeTicks) | (with_reducible apply Keeps.tickEnergy) | (with_reducible apply Keeps.pulseTick) | (with_reducible apply Keeps.boundaries) | (with_reducible apply Keeps.slotWrite) | (with_reducible apply Keeps.eventSlots) | (with_reducible apply Keeps.checkpointNow) | (with_reducible apply Keeps.showTally) | (with_reducible apply Keeps.sendEnergy) | (with_reducible apply Keeps.send) | (with_reducible apply Keeps.meterStart) | (with_reducible apply Keeps.ofIte1) | (with_reducible apply Keeps.fold1) | (with_reducible apply Keeps.ofIte2) | (with_reducible apply Keeps.fold2) | (with_reducible apply Keeps.ofIte) | (with_reducible apply Keeps.fold) | (with_reducible rfl) | (dsimp only) | intro _ | split | (with_reducible apply Keeps.upd) | rfl

/-! ### Imd -/

theorem Keeps.imdSyncOne {s0 s : State} (h : Keeps s0 s) (n : Nat) : Keeps s0 (s.imdSyncOne n) := by
  unfold Sys2Proof.Machine.State.imdSyncOne
  repeat' first | (with_reducible assumption) | (with_reducible apply Keeps.setImdB) | (with_reducible apply Keeps.ofIte) | (with_reducible apply Keeps.fold) | (with_reducible rfl) | (dsimp only) | intro _ | split | (with_reducible apply Keeps.upd) | rfl

theorem Keeps.imdSync {s0 s : State} (h : Keeps s0 s) : Keeps s0 (s.imdSync) := by
  unfold Sys2Proof.Machine.State.imdSync
  repeat' first | (with_reducible assumption) | (with_reducible apply Keeps.imdSyncOne) | (with_reducible apply Keeps.ofIte) | (with_reducible apply Keeps.fold) | (with_reducible rfl) | (dsimp only) | intro _ | split | (with_reducible apply Keeps.upd) | rfl

theorem Keeps.imdEvents {s0 s : State} (h : Keeps s0 s) (n : Nat) (acts : List ImdAct) : Keeps s0 (s.imdEvents n acts) := by
  unfold Sys2Proof.Machine.State.imdEvents
  repeat' first | (with_reducible assumption) | (with_reducible apply Keeps.setEvtIf) | (with_reducible apply Keeps.ofIte) | (with_reducible apply Keeps.fold) | (with_reducible rfl) | (dsimp only) | intro _ | split | (with_reducible apply Keeps.upd) | rfl

/-! ### Session -/

theorem Keeps.evqPut {s0 s : State} (h : Keeps s0 s) (e : EvEntry) : Keeps s0 (s.evqPut e) := by
  unfold Sys2Proof.Machine.State.evqPut
  repeat' first | (with_reducible assumption) | (with_reducible apply Keeps.writeGen) | (with_reducible apply Keeps.send) | (with_reducible apply Keeps.setEvtIf) | (with_reducible apply Keeps.ofIte) | (with_reducible apply Keeps.fold) | (with_reducible rfl) | (dsimp only) | intro _ | split | (with_reducible apply Keeps.upd) | rfl

theorem Keeps.evqEmit {s0 s : State} (h : Keeps s0 s) (e : EvEntry) : Keeps s0 (s.evqEmit e) := by
  unfold Sys2Proof.Machine.State.evqEmit
  repeat' first | (with_reducible assumption) | (with_reducible apply Keeps.setEvt) | (with_reducible apply Keeps.evqPut) | (with_reducible apply Keeps.ofIte) | (with_reducible apply Keeps.fold) | (with_reducible rfl) | (dsimp only) | intro _ | split | (with_reducible apply Keeps.upd) | rfl

theorem Keeps.evqDrain {s0 : State}  (z0 : Nat) {s : State} (h : Keeps s0 s) : Keeps s0 (evqDrain z0 s) := by
  induction z0 generalizing s with
  | zero => unfold Sys2Proof.Machine.evqDrain; repeat' first | (with_reducible assumption) | (with_reducible apply Keeps.evqPut) | (with_reducible apply Keeps.ofIte) | (with_reducible apply Keeps.fold) | (with_reducible rfl) | (dsimp only) | intro _ | split | (with_reducible apply Keeps.upd) | rfl
  | succ z0 ih => unfold Sys2Proof.Machine.evqDrain; repeat' first | (with_reducible assumption) | (with_reducible apply Keeps.evqPut) | (with_reducible apply ih) | (with_reducible apply Keeps.ofIte) | (with_reducible apply Keeps.fold) | (with_reducible rfl) | (dsimp only) | intro _ | split | (with_reducible apply Keeps.upd) | rfl

theorem Keeps.sessEvent {s0 s : State} (h : Keeps s0 s) (k : Nat) (typ : Nat) : Keeps s0 (s.sessEvent k typ) := by
  unfold Sys2Proof.Machine.State.sessEvent
  repeat' first | (with_reducible assumption) | (with_reducible apply Keeps.evqEmit) | (with_reducible apply Keeps.ofIte) | (with_reducible apply Keeps.fold) | (with_reducible rfl) | (dsimp only) | intro _ | split | (with_reducible apply Keeps.upd) | rfl

theorem Keeps.pilotGen {s0 s : State} (h : Keeps s0 s) (n : Nat) : Keeps s0 (s.pilotGen n) := by
  unfold Sys2Proof.Machine.State.pilotGen
  repeat' first | (with_reducible assumption) | (with_reducible apply Keeps.modBay) | (with_reducible apply Keeps.ofIte) | (with_reducible apply Keeps.fold) | (with_reducible rfl) | (dsimp only) | intro _ | split | (with_reducible apply Keeps.upd) | rfl

theorem Keeps.legalBay {s0 s : State} (h : Keeps s0 s) (n : Nat) : Keeps s0 (s.legalBay n) := by
  unfold Sys2Proof.Machine.State.legalBay
  repeat' first | (with_reducible assumption) | (with_reducible apply Keeps.legalRequest) | (with_reducible apply Keeps.ofIte) | (with_reducible apply Keeps.fold) | (with_reducible rfl) | (dsimp only) | intro _ | split | (with_reducible apply Keeps.upd) | rfl

theorem Keeps.hingeSend {s0 s : State} (h : Keeps s0 s) (c : Nat) (l : List HPay) : Keeps s0 (s.hingeSend c l) := by
  unfold Sys2Proof.Machine.State.hingeSend
  repeat' first | (with_reducible assumption) | (with_reducible apply Keeps.setConn) | (with_reducible apply Keeps.sendHinge) | (with_reducible apply Keeps.ofIte) | (with_reducible apply Keeps.fold) | (with_reducible rfl) | (dsimp only) | intro _ | split | (with_reducible apply Keeps.upd) | rfl

theorem Keeps.stepCmd {s0 s : State} (h : Keeps s0 s) (k : Nat) (step : Nat) : Keeps s0 (s.stepCmd k step) := by
  unfold Sys2Proof.Machine.State.stepCmd
  repeat' first | (with_reducible assumption) | (with_reducible apply Keeps.hingeSend) | (with_reducible apply Keeps.ofIte) | (with_reducible apply Keeps.fold) | (with_reducible rfl) | (dsimp only) | intro _ | split | (with_reducible apply Keeps.upd) | rfl

theorem Keeps.setSt {s0 s : State} (h : Keeps s0 s) (k : Nat) (st : Sess) : Keeps s0 (s.setSt k st) := by
  unfold Sys2Proof.Machine.State.setSt
  repeat' first | (with_reducible assumption) | (with_reducible apply Keeps.modCtx) | (with_reducible apply Keeps.pilotGen) | (with_reducible apply Keeps.sessEvent) | (with_reducible apply Keeps.ofIte) | (with_reducible apply Keeps.fold) | (with_reducible rfl) | (dsimp only) | intro _ | split | (with_reducible apply Keeps.upd) | rfl

theorem Keeps.dropKeys {s0 s : State} (h : Keeps s0 s) (k : Nat) : Keeps s0 (s.dropKeys k) := by
  unfold Sys2Proof.Machine.State.dropKeys
  repeat' first | (with_reducible assumption) | (with_reducible apply Keeps.setSlot) | (with_reducible apply Keeps.modCtx) | (with_reducible apply Keeps.ofIte) | (with_reducible apply Keeps.fold) | (with_reducible rfl) | (dsimp only) | intro _ | split | (with_reducible apply Keeps.upd) | rfl

theorem Keeps.withdrawDue {s0 s : State} (h : Keeps s0 s) (k : Nat) : Keeps s0 (s.withdrawDue k) := by
  unfold Sys2Proof.Machine.State.withdrawDue
  repeat' first | (with_reducible assumption) | (with_reducible apply Keeps.ofIte) | (with_reducible apply Keeps.fold) | (with_reducible rfl) | (dsimp only) | intro _ | split | (with_reducible apply Keeps.upd) | rfl

theorem Keeps.bayFree {s0 s : State} (h : Keeps s0 s) (n : Nat) : Keeps s0 (s.bayFree n) := by
  unfold Sys2Proof.Machine.State.bayFree
  repeat' first | (with_reducible assumption) | (with_reducible apply Keeps.idle) | (with_reducible apply Keeps.release) | (with_reducible apply Keeps.setBay) | (with_reducible apply Keeps.modImdB) | (with_reducible apply Keeps.pilotGen) | (with_reducible apply Keeps.ofIte) | (with_reducible apply Keeps.fold) | (with_reducible rfl) | (dsimp only) | intro _ | split | (with_reducible apply Keeps.upd) | rfl

theorem Keeps.tunSend {s0 s : State} (h : Keeps s0 s) (sat : Nat) (bb : Nat) (b : TunBody) : Keeps s0 (s.tunSend sat bb b) := by
  unfold Sys2Proof.Machine.State.tunSend
  repeat' first | (with_reducible assumption) | (with_reducible apply Keeps.send) | (with_reducible apply Keeps.ofIte) | (with_reducible apply Keeps.fold) | (with_reducible rfl) | (dsimp only) | intro _ | split | (with_reducible apply Keeps.upd) | rfl

theorem Keeps.freeSess {s0 s : State} (h : Keeps s0 s) (k : Nat) : Keeps s0 (s.freeSess k) := by
  unfold Sys2Proof.Machine.State.freeSess
  repeat' first | (with_reducible assumption) | (with_reducible apply Keeps.setSt) | (with_reducible apply Keeps.dropKeys) | (with_reducible apply Keeps.setCtx) | (with_reducible apply Keeps.withdrawDue) | (with_reducible apply Keeps.tunSend) | (with_reducible apply Keeps.release) | (with_reducible apply Keeps.bayFree) | (with_reducible apply Keeps.ofIte) | (with_reducible apply Keeps.fold) | (with_reducible rfl) | (dsimp only) | intro _ | split | (with_reducible apply Keeps.upd) | rfl

theorem Keeps.unlockDue {s0 s : State} (h : Keeps s0 s) (n : Nat) : Keeps s0 (s.unlockDue n) := by
  unfold Sys2Proof.Machine.State.unlockDue
  repeat' first | (with_reducible assumption) | (with_reducible apply Keeps.dropReq) | (with_reducible apply Keeps.ofIte) | (with_reducible apply Keeps.fold) | (with_reducible rfl) | (dsimp only) | intro _ | split | (with_reducible apply Keeps.upd) | rfl

theorem Keeps.toUnplug {s0 s : State} (h : Keeps s0 s) (k : Nat) : Keeps s0 (s.toUnplug k) := by
  unfold Sys2Proof.Machine.State.toUnplug
  repeat' first | (with_reducible assumption) | (with_reducible apply Keeps.setSt) | (with_reducible apply Keeps.stepCmd) | (with_reducible apply Keeps.unlockDue) | (with_reducible apply Keeps.freeSess) | (with_reducible apply Keeps.ofIte) | (with_reducible apply Keeps.fold) | (with_reducible rfl) | (dsimp only) | intro _ | split | (with_reducible apply Keeps.upd) | rfl

theorem Keeps.closeRec {s0 s : State} (h : Keeps s0 s) (k : Nat) : Keeps s0 (s.closeRec k) := by
  unfold Sys2Proof.Machine.State.closeRec
  repeat' first | (with_reducible assumption) | (with_reducible apply Keeps.recClose) | (with_reducible apply Keeps.recRelease) | (with_reducible apply Keeps.ofIte) | (with_reducible apply Keeps.fold) | (with_reducible rfl) | (dsimp only) | intro _ | split | (with_reducible apply Keeps.upd) | rfl

theorem Keeps.toFinishing {s0 s : State} (h : Keeps s0 s) (k : Nat) : Keeps s0 (s.toFinishing k) := by
  unfold Sys2Proof.Machine.State.toFinishing
  repeat' first | (with_reducible assumption) | (with_reducible apply Keeps.setSt) | (with_reducible apply Keeps.closeRec) | (with_reducible apply Keeps.modCtx) | (with_reducible apply Keeps.modBay) | (with_reducible apply Keeps.legalBay) | (with_reducible apply Keeps.sessEvent) | (with_reducible apply Keeps.toUnplug) | (with_reducible apply Keeps.ofIte) | (with_reducible apply Keeps.fold) | (with_reducible rfl) | (dsimp only) | intro _ | split | (with_reducible apply Keeps.upd) | rfl

theorem Keeps.dropK {s0 s : State} (h : Keeps s0 s) (n : Nat) : Keeps s0 (s.dropK n) := by
  unfold Sys2Proof.Machine.State.dropK
  repeat' first | (with_reducible assumption) | (with_reducible apply Keeps.dropReq) | (with_reducible apply Keeps.ofIte) | (with_reducible apply Keeps.fold) | (with_reducible rfl) | (dsimp only) | intro _ | split | (with_reducible apply Keeps.upd) | rfl

theorem Keeps.toOpening {s0 s : State} (h : Keeps s0 s) (k : Nat) : Keeps s0 (s.toOpening k) := by
  unfold Sys2Proof.Machine.State.toOpening
  repeat' first | (with_reducible assumption) | (with_reducible apply Keeps.setEvtIf) | (with_reducible apply Keeps.modBay) | (with_reducible apply Keeps.setSt) | (with_reducible apply Keeps.stepCmd) | (with_reducible apply Keeps.dropK) | (with_reducible apply Keeps.ofIte) | (with_reducible apply Keeps.fold) | (with_reducible rfl) | (dsimp only) | intro _ | split | (with_reducible apply Keeps.upd) | rfl

theorem Keeps.endSess {s0 s : State} (h : Keeps s0 s) (k : Nat) (r : EndReason) (fast : Bool) : Keeps s0 (s.endSess k r fast) := by
  unfold Sys2Proof.Machine.State.endSess
  repeat' first | (with_reducible assumption) | (with_reducible apply Keeps.modCtx) | (with_reducible apply Keeps.toFinishing) | (with_reducible apply Keeps.authorise) | (with_reducible apply Keeps.dropK) | (with_reducible apply Keeps.toOpening) | (with_reducible apply Keeps.setSt) | (with_reducible apply Keeps.ofIte) | (with_reducible apply Keeps.fold) | (with_reducible rfl) | (dsimp only) | intro _ | split | (with_reducible apply Keeps.upd) | rfl

theorem Keeps.endNow {s0 s : State} (h : Keeps s0 s) (k : Nat) (r : EndReason) : Keeps s0 (s.endNow k r) := by
  unfold Sys2Proof.Machine.State.endNow
  repeat' first | (with_reducible assumption) | (with_reducible apply Keeps.modCtx) | (with_reducible apply Keeps.toFinishing) | (with_reducible apply Keeps.ofIte) | (with_reducible apply Keeps.fold) | (with_reducible rfl) | (dsimp only) | intro _ | split | (with_reducible apply Keeps.upd) | rfl

theorem Keeps.endBay {s0 s : State} (h : Keeps s0 s) (n : Nat) (r : EndReason) (fast : Bool) : Keeps s0 (s.endBay n r fast) := by
  unfold Sys2Proof.Machine.State.endBay
  repeat' first | (with_reducible assumption) | (with_reducible apply Keeps.endSess) | (with_reducible apply Keeps.ofIte) | (with_reducible apply Keeps.fold) | (with_reducible rfl) | (dsimp only) | intro _ | split | (with_reducible apply Keeps.upd) | rfl

theorem Keeps.weldSuspect {s0 s : State} (h : Keeps s0 s) (k : Nat) : Keeps s0 (s.weldSuspect k) := by
  unfold Sys2Proof.Machine.State.weldSuspect
  repeat' first | (with_reducible assumption) | (with_reducible apply Keeps.modBay) | (with_reducible apply Keeps.modCtx) | (with_reducible apply Keeps.setEvt) | (with_reducible apply Keeps.sessEvent) | (with_reducible apply Keeps.ofIte) | (with_reducible apply Keeps.fold) | (with_reducible rfl) | (dsimp only) | intro _ | split | (with_reducible apply Keeps.upd) | rfl

theorem Keeps.weldDone {s0 s : State} (h : Keeps s0 s) (k : Nat) (closedAt100 : Bool) : Keeps s0 (s.weldDone k closedAt100) := by
  unfold Sys2Proof.Machine.State.weldDone
  repeat' first | (with_reducible assumption) | (with_reducible apply Keeps.weldSuspect) | (with_reducible apply Keeps.toFinishing) | (with_reducible apply Keeps.ofIte) | (with_reducible apply Keeps.fold) | (with_reducible rfl) | (dsimp only) | intro _ | split | (with_reducible apply Keeps.upd) | rfl

theorem Keeps.tryClose {s0 s : State} (h : Keeps s0 s) (k : Nat) (j : Nat) : Keeps s0 (s.tryClose k j) := by
  unfold Sys2Proof.Machine.State.tryClose
  repeat' first | (with_reducible assumption) | (with_reducible apply Keeps.request) | (with_reducible apply Keeps.endSess) | (with_reducible apply Keeps.ofIte) | (with_reducible apply Keeps.fold) | (with_reducible rfl) | (dsimp only) | intro _ | split | (with_reducible apply Keeps.upd) | rfl

theorem Keeps.askK23 {s0 s : State} (h : Keeps s0 s) (k : Nat) : Keeps s0 (s.askK23 k) := by
  unfold Sys2Proof.Machine.State.askK23
  repeat' first | (with_reducible assumption) | (with_reducible apply Keeps.tryClose) | (with_reducible apply Keeps.ofIte) | (with_reducible apply Keeps.fold) | (with_reducible rfl) | (dsimp only) | intro _ | split | (with_reducible apply Keeps.upd) | rfl

theorem Keeps.enterCable {s0 s : State} (h : Keeps s0 s) (k : Nat) : Keeps s0 (s.enterCable k) := by
  unfold Sys2Proof.Machine.State.enterCable
  repeat' first | (with_reducible assumption) | (with_reducible apply Keeps.setSt) | (with_reducible apply Keeps.modCtx) | (with_reducible apply Keeps.stepCmd) | (with_reducible apply Keeps.endSess) | (with_reducible apply Keeps.modImdB) | (with_reducible apply Keeps.ofIte) | (with_reducible apply Keeps.fold) | (with_reducible rfl) | (dsimp only) | intro _ | split | (with_reducible apply Keeps.upd) | rfl

theorem Keeps.lockStep {s0 s : State} (h : Keeps s0 s) (k : Nat) : Keeps s0 (s.lockStep k) := by
  unfold Sys2Proof.Machine.State.lockStep
  repeat' first | (with_reducible assumption) | (with_reducible apply Keeps.tryClose) | (with_reducible apply Keeps.enterCable) | (with_reducible apply Keeps.ofIte) | (with_reducible apply Keeps.fold) | (with_reducible rfl) | (dsimp only) | intro _ | split | (with_reducible apply Keeps.upd) | rfl

theorem Keeps.enterLock {s0 s : State} (h : Keeps s0 s) (k : Nat) : Keeps s0 (s.enterLock k) := by
  unfold Sys2Proof.Machine.State.enterLock
  repeat' first | (with_reducible assumption) | (with_reducible apply Keeps.setSt) | (with_reducible apply Keeps.stepCmd) | (with_reducible apply Keeps.lockStep) | (with_reducible apply Keeps.ofIte) | (with_reducible apply Keeps.fold) | (with_reducible rfl) | (dsimp only) | intro _ | split | (with_reducible apply Keeps.upd) | rfl

theorem Keeps.tryGate {s0 s : State} (h : Keeps s0 s) (k : Nat) : Keeps s0 (s.tryGate k) := by
  unfold Sys2Proof.Machine.State.tryGate
  repeat' first | (with_reducible assumption) | (with_reducible apply Keeps.authorise) | (with_reducible apply Keeps.enterLock) | (with_reducible apply Keeps.ofIte) | (with_reducible apply Keeps.fold) | (with_reducible rfl) | (dsimp only) | intro _ | split | (with_reducible apply Keeps.upd) | rfl

theorem Keeps.authorise {s0 s : State} (h : Keeps s0 s) (k : Nat) (m : Method) (ident : List Byte) (wh : Nat) (min : Nat) : Keeps s0 (s.authorise k m ident wh min) := by
  unfold Sys2Proof.Machine.State.authorise
  repeat' first | (with_reducible assumption) | (with_reducible apply Keeps.recOpen) | (with_reducible apply Keeps.modCtx) | (with_reducible apply Keeps.legalBay) | (with_reducible apply Keeps.tryGate) | (with_reducible apply Keeps.ofIte) | (with_reducible apply Keeps.fold) | (with_reducible rfl) | (dsimp only) | intro _ | split | (with_reducible apply Keeps.upd) | rfl

theorem Keeps.authReq {s0 s : State} (h : Keeps s0 s) (k : Nat) (m : Method) (ident : List Byte) : Keeps s0 (s.authReq k m ident) := by
  unfold Sys2Proof.Machine.State.authReq
  repeat' first | (with_reducible assumption) | (with_reducible apply Keeps.modCtx) | (with_reducible apply Keeps.evqEmit) | (with_reducible apply Keeps.ofIte) | (with_reducible apply Keeps.fold) | (with_reducible rfl) | (dsimp only) | intro _ | split | (with_reducible apply Keeps.upd) | rfl

theorem Keeps.answerEv {s0 s : State} (h : Keeps s0 s) (k : Nat) (r : Resp) : Keeps s0 (s.answerEv k r) := by
  unfold Sys2Proof.Machine.State.answerEv
  repeat' first | (with_reducible assumption) | (with_reducible apply Keeps.setCtx) | (with_reducible apply Keeps.tunSend) | (with_reducible apply Keeps.answer) | (with_reducible apply Keeps.send) | (with_reducible apply Keeps.ofIte) | (with_reducible apply Keeps.fold) | (with_reducible rfl) | (dsimp only) | intro _ | split | (with_reducible apply Keeps.upd) | rfl

theorem Keeps.clearPre {s0 s : State} (h : Keeps s0 s) (bridged : Bool) (bay : Nat) : Keeps s0 (s.clearPre bridged bay) := by
  unfold Sys2Proof.Machine.State.clearPre
  repeat' first | (with_reducible assumption) | (with_reducible apply Keeps.modBay) | (with_reducible apply Keeps.ofIte1) | (with_reducible apply Keeps.fold1) | (with_reducible apply Keeps.ofIte) | (with_reducible apply Keeps.fold) | (with_reducible rfl) | (dsimp only) | intro _ | split | (with_reducible apply Keeps.upd) | rfl

theorem Keeps.enterAuth {s0 s : State} (h : Keeps s0 s) (k : Nat) : Keeps s0 (s.enterAuth k) := by
  unfold Sys2Proof.Machine.State.enterAuth
  repeat' first | (with_reducible assumption) | (with_reducible apply Keeps.setSt) | (with_reducible apply Keeps.authorise) | (with_reducible apply Keeps.recReserve) | (with_reducible apply Keeps.answerEv) | (with_reducible apply Keeps.endSess) | (with_reducible apply Keeps.draw) | (with_reducible apply Keeps.modCtx) | (with_reducible apply Keeps.clearPre) | (with_reducible apply Keeps.ofIte1) | (with_reducible apply Keeps.fold1) | (with_reducible apply Keeps.ofIte2) | (with_reducible apply Keeps.fold2) | (with_reducible apply Keeps.ofIte) | (with_reducible apply Keeps.fold) | (with_reducible rfl) | (dsimp only) | intro _ | split | (with_reducible apply Keeps.upd) | rfl

theorem Keeps.cardTap {s0 s : State} (h : Keeps s0 s) (n : Nat) (uid : List Byte) : Keeps s0 (s.cardTap n uid) := by
  unfold Sys2Proof.Machine.State.cardTap
  repeat' first | (with_reducible assumption) | (with_reducible apply Keeps.authorise) | (with_reducible apply Keeps.authReq) | (with_reducible apply Keeps.evqEmit) | (with_reducible apply Keeps.ofIte) | (with_reducible apply Keeps.fold) | (with_reducible rfl) | (dsimp only) | intro _ | split | (with_reducible apply Keeps.upd) | rfl

theorem Keeps.reject {s0 s : State} (h : Keeps s0 s) (k : Nat) : Keeps s0 (s.reject k) := by
  unfold Sys2Proof.Machine.State.reject
  repeat' first | (with_reducible assumption) | (with_reducible apply Keeps.modCtx) | (with_reducible apply Keeps.authReq) | (with_reducible apply Keeps.answerEv) | (with_reducible apply Keeps.endSess) | (with_reducible apply Keeps.ofIte) | (with_reducible apply Keeps.fold) | (with_reducible rfl) | (dsimp only) | intro _ | split | (with_reducible apply Keeps.upd) | rfl

theorem Keeps.cableResult {s0 s : State} (h : Keeps s0 s) (k : Nat) (ohm : Nat) : Keeps s0 (s.cableResult k ohm) := by
  unfold Sys2Proof.Machine.State.cableResult
  repeat' first | (with_reducible assumption) | (with_reducible apply Keeps.endSess) | (with_reducible apply Keeps.modCtx) | (with_reducible apply Keeps.sessEvent) | (with_reducible apply Keeps.setSt) | (with_reducible apply Keeps.ofIte) | (with_reducible apply Keeps.fold) | (with_reducible rfl) | (dsimp only) | intro _ | split | (with_reducible apply Keeps.upd) | rfl

theorem Keeps.powerStart {s0 s : State} (h : Keeps s0 s) (k : Nat) : Keeps s0 (s.powerStart k) := by
  unfold Sys2Proof.Machine.State.powerStart
  repeat' first | (with_reducible assumption) | (with_reducible apply Keeps.setSt) | (with_reducible apply Keeps.stepCmd) | (with_reducible apply Keeps.tryClose) | (with_reducible apply Keeps.endSess) | (with_reducible apply Keeps.ofIte) | (with_reducible apply Keeps.fold) | (with_reducible rfl) | (dsimp only) | intro _ | split | (with_reducible apply Keeps.upd) | rfl

theorem Keeps.enterCharging {s0 s : State} (h : Keeps s0 s) (k : Nat) : Keeps s0 (s.enterCharging k) := by
  unfold Sys2Proof.Machine.State.enterCharging
  repeat' first | (with_reducible assumption) | (with_reducible apply Keeps.dropReq) | (with_reducible apply Keeps.setSt) | (with_reducible apply Keeps.ofIte) | (with_reducible apply Keeps.fold) | (with_reducible rfl) | (dsimp only) | intro _ | split | (with_reducible apply Keeps.upd) | rfl

theorem Keeps.greenAsk {s0 s : State} (h : Keeps s0 s) (n : Nat) : Keeps s0 (s.greenAsk n) := by
  unfold Sys2Proof.Machine.State.greenAsk
  repeat' first | (with_reducible assumption) | (with_reducible apply Keeps.modBay) | (with_reducible apply Keeps.present) | (with_reducible apply Keeps.ofIte) | (with_reducible apply Keeps.fold) | (with_reducible rfl) | (dsimp only) | intro _ | split | (with_reducible apply Keeps.upd) | rfl

theorem Keeps.plugIn {s0 s : State} (h : Keeps s0 s) (n : Nat) : Keeps s0 (s.plugIn n) := by
  unfold Sys2Proof.Machine.State.plugIn
  repeat' first | (with_reducible assumption) | (with_reducible apply Keeps.setCtx) | (with_reducible apply Keeps.pilotGen) | (with_reducible apply Keeps.setSt) | (with_reducible apply Keeps.modBay) | (with_reducible apply Keeps.greenAsk) | (with_reducible apply Keeps.ofIte) | (with_reducible apply Keeps.fold) | (with_reducible rfl) | (dsimp only) | intro _ | split | (with_reducible apply Keeps.upd) | rfl

theorem Keeps.linkIsUp {s0 s : State} (h : Keeps s0 s) (k : Nat) : Keeps s0 (s.linkIsUp k) := by
  unfold Sys2Proof.Machine.State.linkIsUp
  repeat' first | (with_reducible assumption) | (with_reducible apply Keeps.modCtx) | (with_reducible apply Keeps.setSt) | (with_reducible apply Keeps.ofIte) | (with_reducible apply Keeps.fold) | (with_reducible rfl) | (dsimp only) | intro _ | split | (with_reducible apply Keeps.upd) | rfl

theorem Keeps.bayOut {s0 s : State} (h : Keeps s0 s) (n : Nat) : Keeps s0 (s.bayOut n) := by
  unfold Sys2Proof.Machine.State.bayOut
  repeat' first | (with_reducible assumption) | (with_reducible apply Keeps.modBay) | (with_reducible apply Keeps.pilotGen) | (with_reducible apply Keeps.ofIte) | (with_reducible apply Keeps.fold) | (with_reducible rfl) | (dsimp only) | intro _ | split | (with_reducible apply Keeps.upd) | rfl

theorem Keeps.leaveService {s0 s : State} (h : Keeps s0 s) (n : Nat) : Keeps s0 (s.leaveService n) := by
  unfold Sys2Proof.Machine.State.leaveService
  repeat' first | (with_reducible assumption) | (with_reducible apply Keeps.bayOut) | (with_reducible apply Keeps.modBay) | (with_reducible apply Keeps.ofIte) | (with_reducible apply Keeps.fold) | (with_reducible rfl) | (dsimp only) | intro _ | split | (with_reducible apply Keeps.upd) | rfl

theorem Keeps.gateEnd {s0 s : State} (h : Keeps s0 s) (x : Nat × Term) : Keeps s0 (s.gateEnd x) := by
  unfold Sys2Proof.Machine.State.gateEnd
  repeat' first | (with_reducible assumption) | (with_reducible apply Keeps.endBay) | (with_reducible apply Keeps.ofIte1) | (with_reducible apply Keeps.fold1) | (with_reducible apply Keeps.ofIte2) | (with_reducible apply Keeps.fold2) | (with_reducible apply Keeps.ofIte) | (with_reducible apply Keeps.fold) | (with_reducible rfl) | (dsimp only) | intro _ | split | (with_reducible apply Keeps.upd) | rfl

theorem Keeps.guard {s0 s : State} (h : Keeps s0 s) : Keeps s0 (s.guard) := by
  unfold Sys2Proof.Machine.State.guard
  repeat' first | (with_reducible assumption) | (with_reducible apply Keeps.gateAll) | (with_reducible apply Keeps.gateEnd) | (with_reducible apply Keeps.ofIte1) | (with_reducible apply Keeps.fold1) | (with_reducible apply Keeps.ofIte2) | (with_reducible apply Keeps.fold2) | (with_reducible apply Keeps.ofIte) | (with_reducible apply Keeps.fold) | (with_reducible rfl) | (dsimp only) | intro _ | split | (with_reducible apply Keeps.upd) | rfl

theorem Keeps.endAllSafe {s0 s : State} (h : Keeps s0 s) : Keeps s0 (s.endAllSafe) := by
  unfold Sys2Proof.Machine.State.endAllSafe
  repeat' first | (with_reducible assumption) | (with_reducible apply Keeps.endSess) | (with_reducible apply Keeps.ofIte) | (with_reducible apply Keeps.fold) | (with_reducible rfl) | (dsimp only) | intro _ | split | (with_reducible apply Keeps.upd) | rfl

theorem Keeps.safeStop {s0 s : State} (h : Keeps s0 s) (cause : Nat) (detail : Nat) : Keeps s0 (s.safeStop cause detail) := by
  unfold Sys2Proof.Machine.State.safeStop
  repeat' first | (with_reducible assumption) | (with_reducible apply Keeps.safeStopCore) | (with_reducible apply Keeps.endAllSafe) | (with_reducible apply Keeps.guard) | (with_reducible apply Keeps.ofIte) | (with_reducible apply Keeps.fold) | (with_reducible rfl) | (dsimp only) | intro _ | split | (with_reducible apply Keeps.upd) | rfl

theorem Keeps.imdStop {s0 s : State} (h : Keeps s0 s) (n : Nat) : Keeps s0 (s.imdStop n) := by
  unfold Sys2Proof.Machine.State.imdStop
  repeat' first | (with_reducible assumption) | (with_reducible apply Keeps.modImdB) | (with_reducible apply Keeps.endSess) | (with_reducible apply Keeps.ofIte) | (with_reducible apply Keeps.fold) | (with_reducible rfl) | (dsimp only) | intro _ | split | (with_reducible apply Keeps.upd) | rfl

theorem Keeps.imdAct {s0 s : State} (h : Keeps s0 s) (n : Nat) (a : ImdAct) : Keeps s0 (s.imdAct n a) := by
  unfold Sys2Proof.Machine.State.imdAct
  repeat' first | (with_reducible assumption) | (with_reducible apply Keeps.modCtx) | (with_reducible apply Keeps.modImdB) | (with_reducible apply Keeps.askK23) | (with_reducible apply Keeps.imdStop) | (with_reducible apply Keeps.sessEvent) | (with_reducible apply Keeps.cableResult) | (with_reducible apply Keeps.ofIte) | (with_reducible apply Keeps.fold) | (with_reducible rfl) | (dsimp only) | intro _ | split | (with_reducible apply Keeps.upd) | rfl

end Sys2Proof.Machine
end

