-- ==== Sys2Proof/Laws/KeepsSettle.lean ====
section
/-! SUPPORT. What every function keeps (`Keeps`): grants, resets and the boot order. -/
namespace Sys2Proof.Machine

/-! ### Grants -/

theorem Keeps.nfcRun {s0 s : State} (h : Keeps s0 s) (ant : Nat) (cards : List Card) : Keeps s0 (s.nfcRun ant cards).1 := by
  unfold Sys2Proof.Machine.State.nfcRun
  repeat' first | (with_reducible assumption) | (with_reducible apply Keeps.cardTap) | (with_reducible apply Keeps.modAnt) | (with_reducible apply Keeps.setEvtIf) | (with_reducible apply Keeps.fieldOff) | (with_reducible apply Keeps.ofIte1) | (with_reducible apply Keeps.fold1) | (with_reducible apply Keeps.ofIte) | (with_reducible apply Keeps.fold) | (with_reducible rfl) | (dsimp only) | intro _ | split | (with_reducible apply Keeps.upd) | rfl

theorem Keeps.readerGrant {s0 s : State} (h : Keeps s0 s) (ant : Nat) : Keeps s0 (s.readerGrant ant) := by
  unfold Sys2Proof.Machine.State.readerGrant
  repeat' first | (with_reducible assumption) | (with_reducible apply Keeps.nfcRun) | (with_reducible apply Keeps.finish) | (with_reducible apply Keeps.ofIte1) | (with_reducible apply Keeps.fold1) | (with_reducible apply Keeps.ofIte2) | (with_reducible apply Keeps.fold2) | (with_reducible apply Keeps.ofIte) | (with_reducible apply Keeps.fold) | (with_reducible rfl) | (dsimp only) | intro _ | split | (with_reducible apply Keeps.upd) | rfl

theorem Crs.fuse_fused (c : Crs) (r : Nat × Nat) (h : r ∈ c.fused) : r ∈ c.fuse.1.fused := by
  have hf : ∀ (l : List (Nat × Nat)) (a : Crs × Nat × Nat), r ∈ a.1.fused → r ∈ (l.foldl (fun a r =>
      if a.1.fusedIn r.1 < 4 then ({ a.1 with fused := a.1.fused ++ [r] }, a.2.1 + 1, a.2.2)
      else ({ a.1 with soft := a.1.soft ++ [r] }, a.2.1, a.2.2 + 1)) a).1.fused := by
    intro l
    induction l with
    | nil => exact fun _ h => h
    | cons x l ih =>
      intro a ha
      apply ih
      dsimp only
      split
      · exact List.mem_append_left _ ha
      · exact ha
  exact hf _ _ h

theorem Keeps.fuseNow {s0 s : State} (h : Keeps s0 s) : Keeps s0 s.fuseNow := by
  unfold State.fuseNow
  dsimp only
  apply Keeps.finish
  exact h.trans ⟨rfl, ⟨[], rfl⟩, id, id, Nat.le_refl _, id, rfl, Nat.le_refl _, id, Nat.le_refl _, fun r x => s.crs.fuse_fused r x⟩

theorem Keeps.bulkRun {s0 s : State} (h : Keeps s0 s) : Keeps s0 (s.bulkRun) := by
  unfold Sys2Proof.Machine.State.bulkRun
  repeat' first | (with_reducible assumption) | (with_reducible apply Keeps.migrateRecords) | (with_reducible apply Keeps.safMigrated) | (with_reducible apply Keeps.showPending) | (with_reducible apply Keeps.ofIte) | (with_reducible apply Keeps.fold) | (with_reducible rfl) | (dsimp only) | intro _ | split | (with_reducible apply Keeps.upd) | rfl

theorem Keeps.granted {s0 s : State} (h : Keeps s0 s) (r : PReq) : Keeps s0 (s.granted r) := by
  unfold State.granted
  split
  case h_1 =>
    dsimp only
    apply Keeps.finish
    apply h.permits
    · rfl
    · exact Nat.le_of_eq (grantedPower_map _ (fun g => by split <;> rfl) _)
  all_goals repeat' first | (with_reducible assumption) | (with_reducible apply Keeps.finish) | (with_reducible apply Keeps.chkInrush) | (with_reducible apply Keeps.chkConduct) | (with_reducible apply Keeps.modChan) | (with_reducible apply Keeps.modBay) | (with_reducible apply Keeps.readerGrant) | (with_reducible apply Keeps.brandRun) | (with_reducible apply Keeps.modPanel) | (with_reducible apply Keeps.sliceStart) | (with_reducible apply Keeps.fuseNow) | (with_reducible apply Keeps.bulkRun) | (with_reducible apply Keeps.ofIte) | (with_reducible rfl) | (dsimp only) | intro _ | split | (with_reducible apply Keeps.upd)

theorem Keeps.turnOnFailed {s0 s : State} (h : Keeps s0 s) (ch : Nat) : Keeps s0 (s.turnOnFailed ch) := by
  unfold Sys2Proof.Machine.State.turnOnFailed
  repeat' first | (with_reducible assumption) | (with_reducible apply Keeps.setEvt) | (with_reducible apply Keeps.chkOff) | (with_reducible apply Keeps.finish) | (with_reducible apply Keeps.modChan) | (with_reducible apply Keeps.dropReq) | (with_reducible apply Keeps.endBay) | (with_reducible apply Keeps.ofIte) | (with_reducible apply Keeps.fold) | (with_reducible rfl) | (dsimp only) | intro _ | split | (with_reducible apply Keeps.upd) | rfl

theorem Keeps.retryFailed {s0 s : State} (h : Keeps s0 s) (ch : Nat) : Keeps s0 (s.retryFailed ch) := by
  unfold Sys2Proof.Machine.State.retryFailed
  repeat' first | (with_reducible assumption) | (with_reducible apply Keeps.setEvt) | (with_reducible apply Keeps.chkLatch) | (with_reducible apply Keeps.chkRelease) | (with_reducible apply Keeps.modChan) | (with_reducible apply Keeps.ofIte) | (with_reducible apply Keeps.fold) | (with_reducible rfl) | (dsimp only) | intro _ | split | (with_reducible apply Keeps.upd) | rfl

theorem Keeps.permitFailed {s0 s : State} (h : Keeps s0 s) (r : PReq) : Keeps s0 (s.permitFailed r) := by
  unfold Sys2Proof.Machine.State.permitFailed
  repeat' first | (with_reducible assumption) | (with_reducible apply Keeps.finish) | (with_reducible apply Keeps.turnOnFailed) | (with_reducible apply Keeps.retryFailed) | (with_reducible apply Keeps.modChan) | (with_reducible apply Keeps.setEvt) | (with_reducible apply Keeps.modPanel) | (with_reducible apply Keeps.nextUnit) | (with_reducible apply Keeps.ofIte) | (with_reducible apply Keeps.fold) | (with_reducible rfl) | (dsimp only) | intro _ | split | (with_reducible apply Keeps.upd) | rfl

theorem grantable_fits {s : State} {r : PReq} (e : s.grantable = some r) : s.fits r = true := by
  unfold State.grantable at e
  split at e
  · split at e
    · rename_i hf
      cases e
      exact hf
    · cases e
  · cases e

theorem Keeps.settleOne {s0 s t : State} (h : Keeps s0 s) (e : s.settleOne = some t) : Keeps s0 t := by
  unfold State.settleOne at e
  split at e
  · cases e
    apply Keeps.permitFailed
    apply Keeps.unwait
    exact .ofIte (fun _ => h.countFail) (fun _ => h)
  · split at e
    · rename_i r hr
      cases e
      exact (h.grantReq r (grantable_fits hr)).granted r
    · cases e

theorem Keeps.grantLoop {s0 : State} (n : Nat) {s : State} (h : Keeps s0 s) : Keeps s0 (grantLoop n s) := by
  induction n generalizing s with
  | zero => exact h
  | succ n ih =>
    unfold Sys2Proof.Machine.grantLoop
    split
    · rename_i e
      exact ih (h.settleOne e)
    · exact h

theorem Keeps.failNow {s0 s : State} (h : Keeps s0 s) : Keeps s0 (s.failNow) := by
  unfold Sys2Proof.Machine.State.failNow
  repeat' first | (with_reducible assumption) | (with_reducible apply Keeps.countFail) | (with_reducible apply Keeps.unwait) | (with_reducible apply Keeps.permitFailed) | (with_reducible apply Keeps.ofIte) | (with_reducible apply Keeps.fold) | (with_reducible rfl) | (dsimp only) | intro _ | split | (with_reducible apply Keeps.upd) | rfl

theorem Keeps.soKick {s0 s : State} (h : Keeps s0 s) : Keeps s0 (s.soKick) := by
  unfold Sys2Proof.Machine.State.soKick
  repeat' first | (with_reducible assumption) | (with_reducible apply Keeps.request) | (with_reducible apply Keeps.dropReq) | (with_reducible apply Keeps.ofIte) | (with_reducible apply Keeps.fold) | (with_reducible rfl) | (dsimp only) | intro _ | split | (with_reducible apply Keeps.upd) | rfl

theorem Keeps.kickCtx {s0 s : State} (h : Keeps s0 s) (k : Nat) : Keeps s0 (s.kickCtx k) := by
  unfold Sys2Proof.Machine.State.kickCtx
  repeat' first | (with_reducible assumption) | (with_reducible apply Keeps.authorise) | (with_reducible apply Keeps.tryGate) | (with_reducible apply Keeps.lockStep) | (with_reducible apply Keeps.askK23) | (with_reducible apply Keeps.tryClose) | (with_reducible apply Keeps.ofIte) | (with_reducible apply Keeps.fold) | (with_reducible rfl) | (dsimp only) | intro _ | split | (with_reducible apply Keeps.upd) | rfl

theorem Keeps.kick {s0 s : State} (h : Keeps s0 s) : Keeps s0 (s.kick) := by
  unfold Sys2Proof.Machine.State.kick
  repeat' first | (with_reducible assumption) | (with_reducible apply Keeps.guard) | (with_reducible apply Keeps.kickCtx) | (with_reducible apply Keeps.soKick) | (with_reducible apply Keeps.imdSync) | (with_reducible apply Keeps.ofIte) | (with_reducible apply Keeps.fold) | (with_reducible rfl) | (dsimp only) | intro _ | split | (with_reducible apply Keeps.upd) | rfl

theorem Keeps.settleRound {s0 s : State} (h : Keeps s0 s) : Keeps s0 (s.settleRound) := by
  unfold Sys2Proof.Machine.State.settleRound
  repeat' first | (with_reducible assumption) | (with_reducible apply Keeps.grantLoop) | (with_reducible apply Keeps.failNow) | (with_reducible apply Keeps.kick) | (with_reducible apply Keeps.ofIte) | (with_reducible apply Keeps.fold) | (with_reducible rfl) | (dsimp only) | intro _ | split | (with_reducible apply Keeps.upd) | rfl

theorem Keeps.settle {s0 s : State} (h : Keeps s0 s) : Keeps s0 (s.settle) := by
  unfold Sys2Proof.Machine.State.settle
  repeat' first | (with_reducible assumption) | (with_reducible apply Keeps.settleRound) | (with_reducible apply Keeps.ofIte) | (with_reducible apply Keeps.fold) | (with_reducible rfl) | (dsimp only) | intro _ | split | (with_reducible apply Keeps.upd) | rfl

/-! ### ChokerCmd -/

theorem Keeps.runSettle {s0 s : State} (h : Keeps s0 s) (c : Cmd) (opcode : Nat) (body : State → Answer) (hb : ∀ u, Keeps s0 u → AnsKeeps s0 (body u)) : Keeps s0 (s.runSettle c opcode body) := by
  unfold Sys2Proof.Machine.State.runSettle
  repeat' first | (with_reducible assumption) | (with_reducible apply hb) | (with_reducible apply AnsKeeps.ofIte) | (with_reducible apply Keeps.runCmd) | (with_reducible apply Keeps.settle) | (with_reducible apply Keeps.ofIte) | (with_reducible apply Keeps.fold) | (with_reducible rfl) | (dsimp only) | intro _ | split | (with_reducible apply Keeps.upd) | rfl

theorem Keeps.safetyFail {s0 s : State} (h : Keeps s0 s) (ch : Nat) : Keeps s0 (s.safetyFail ch) := by
  unfold Sys2Proof.Machine.State.safetyFail
  repeat' first | (with_reducible assumption) | (with_reducible apply Keeps.modGate) | (with_reducible apply Keeps.endBay) | (with_reducible apply Keeps.ofIte) | (with_reducible apply Keeps.fold) | (with_reducible rfl) | (dsimp only) | intro _ | split | (with_reducible apply Keeps.upd) | rfl

theorem Keeps.chkRetry {s0 s : State} (h : Keeps s0 s) (ch : Nat) : Keeps s0 (s.chkRetry ch) := by
  unfold Sys2Proof.Machine.State.chkRetry
  repeat' first | (with_reducible assumption) | (with_reducible apply Keeps.modChan) | (with_reducible apply Keeps.chkLatch) | (with_reducible apply Keeps.chkOff) | (with_reducible apply Keeps.chkAsk) | (with_reducible apply Keeps.ofIte) | (with_reducible apply Keeps.fold) | (with_reducible rfl) | (dsimp only) | intro _ | split | (with_reducible apply Keeps.upd) | rfl

theorem Keeps.chkWake {s0 s : State} (h : Keeps s0 s) : Keeps s0 (s.chkWake) := by
  unfold Sys2Proof.Machine.State.chkWake
  repeat' first | (with_reducible assumption) | (with_reducible apply Keeps.chkAsk) | (with_reducible apply Keeps.chkRetry) | (with_reducible apply Keeps.ofIte) | (with_reducible apply Keeps.fold) | (with_reducible rfl) | (dsimp only) | intro _ | split | (with_reducible apply Keeps.upd) | rfl

theorem ResKeeps.execChkChSet {s : State} (c : Cmd) (ch : Nat) (on : Nat) (duty : Nat) : ResKeeps s (execChkChSet c ch on duty s) := by
  have h := Keeps.refl s
  unfold Sys2Proof.Machine.execChkChSet
  repeat' first | (with_reducible assumption) | (with_reducible apply AnsKeeps.ofIte) | (with_reducible apply ResKeeps.ofIte) | (with_reducible apply ResKeeps.next) | (with_reducible apply AnsKeeps.done) | (with_reducible apply AnsKeeps.wait) | (with_reducible apply Keeps.runSettle) | (with_reducible apply AnsKeeps.fail) | (with_reducible apply AnsKeeps.okay) | (with_reducible apply Keeps.chkOff) | (with_reducible apply Keeps.finish) | (with_reducible apply Keeps.modChan) | (with_reducible apply Keeps.chkAsk) | (with_reducible apply Keeps.ofIte) | (with_reducible apply Keeps.fold) | (with_reducible rfl) | (dsimp only) | intro _ | split | (with_reducible apply Keeps.upd) | rfl

theorem ResKeeps.execChkChClear {s : State} (c : Cmd) (ch : Nat) : ResKeeps s (execChkChClear c ch s) := by
  have h := Keeps.refl s
  unfold Sys2Proof.Machine.execChkChClear
  repeat' first | (with_reducible assumption) | (with_reducible apply AnsKeeps.ofIte) | (with_reducible apply ResKeeps.ofIte) | (with_reducible apply ResKeeps.next) | (with_reducible apply AnsKeeps.done) | (with_reducible apply AnsKeeps.wait) | (with_reducible apply Keeps.runCmd) | (with_reducible apply AnsKeeps.fail) | (with_reducible apply AnsKeeps.okay) | (with_reducible apply Keeps.modChan) | (with_reducible apply Keeps.ofIte) | (with_reducible apply Keeps.fold) | (with_reducible rfl) | (dsimp only) | intro _ | split | (with_reducible apply Keeps.upd) | rfl

theorem ResKeeps.execChkChInfo {s : State} (c : Cmd) (ch : Nat) : ResKeeps s (execChkChInfo c ch s) := by
  have h := Keeps.refl s
  unfold Sys2Proof.Machine.execChkChInfo
  repeat' first | (with_reducible assumption) | (with_reducible apply AnsKeeps.ofIte) | (with_reducible apply ResKeeps.ofIte) | (with_reducible apply ResKeeps.next) | (with_reducible apply AnsKeeps.done) | (with_reducible apply AnsKeeps.wait) | (with_reducible apply Keeps.runCmd) | (with_reducible apply AnsKeeps.fail) | (with_reducible apply AnsKeeps.okay) | (with_reducible apply Keeps.ofIte) | (with_reducible apply Keeps.fold) | (with_reducible rfl) | (dsimp only) | intro _ | split | (with_reducible apply Keeps.upd) | rfl

theorem ResKeeps.execInrushEnd {s : State} (ch : Nat) (mA : Nat) : ResKeeps s (execInrushEnd ch mA s) := by
  have h := Keeps.refl s
  unfold Sys2Proof.Machine.execInrushEnd
  repeat' first | (with_reducible assumption) | (with_reducible apply ResKeeps.ofIte) | (with_reducible apply ResKeeps.next) | (with_reducible apply AnsKeeps.done) | (with_reducible apply AnsKeeps.wait) | (with_reducible apply Keeps.release) | (with_reducible apply Keeps.modChan) | (with_reducible apply Keeps.chkFault) | (with_reducible apply Keeps.safetyFail) | (with_reducible apply Keeps.settle) | (with_reducible apply Keeps.askConduction) | (with_reducible apply Keeps.ofIte) | (with_reducible apply Keeps.fold) | (with_reducible rfl) | (dsimp only) | intro _ | split | (with_reducible apply Keeps.upd) | rfl

theorem ResKeeps.execChannelShort {s : State} (ch : Nat) (mA : Nat) (mvDs : Nat) : ResKeeps s (execChannelShort ch mA mvDs s) := by
  have h := Keeps.refl s
  unfold Sys2Proof.Machine.execChannelShort
  repeat' first | (with_reducible assumption) | (with_reducible apply ResKeeps.ofIte) | (with_reducible apply ResKeeps.next) | (with_reducible apply AnsKeeps.done) | (with_reducible apply AnsKeeps.wait) | (with_reducible apply Keeps.chkFault) | (with_reducible apply Keeps.safetyFail) | (with_reducible apply Keeps.settle) | (with_reducible apply Keeps.ofIte) | (with_reducible apply Keeps.fold) | (with_reducible rfl) | (dsimp only) | intro _ | split | (with_reducible apply Keeps.upd) | rfl

theorem ResKeeps.execChannelOverload {s : State} (ch : Nat) (mA : Nat) (ms : Nat) (first2s : Bool) : ResKeeps s (execChannelOverload ch mA ms first2s s) := by
  have h := Keeps.refl s
  unfold Sys2Proof.Machine.execChannelOverload
  repeat' first | (with_reducible assumption) | (with_reducible apply ResKeeps.ofIte) | (with_reducible apply ResKeeps.next) | (with_reducible apply AnsKeeps.done) | (with_reducible apply AnsKeeps.wait) | (with_reducible apply Keeps.chkFault) | (with_reducible apply Keeps.safetyFail) | (with_reducible apply Keeps.settle) | (with_reducible apply Keeps.ofIte) | (with_reducible apply Keeps.fold) | (with_reducible rfl) | (dsimp only) | intro _ | split | (with_reducible apply Keeps.upd) | rfl

theorem ResKeeps.execChannelThermal {s : State} (ch : Nat) (tj : Int) (refTj : Int) : ResKeeps s (execChannelThermal ch tj refTj s) := by
  have h := Keeps.refl s
  unfold Sys2Proof.Machine.execChannelThermal
  repeat' first | (with_reducible assumption) | (with_reducible apply ResKeeps.ofIte) | (with_reducible apply ResKeeps.next) | (with_reducible apply AnsKeeps.done) | (with_reducible apply AnsKeeps.wait) | (with_reducible apply Keeps.modChan) | (with_reducible apply Keeps.chkThermal) | (with_reducible apply Keeps.safetyFail) | (with_reducible apply Keeps.settle) | (with_reducible apply Keeps.ofIte) | (with_reducible apply Keeps.fold) | (with_reducible rfl) | (dsimp only) | intro _ | split | (with_reducible apply Keeps.upd) | rfl

theorem ResKeeps.execThermalRelease {s : State} (ch : Nat) (tj : Int) (refTj : Int) : ResKeeps s (execThermalRelease ch tj refTj s) := by
  have h := Keeps.refl s
  unfold Sys2Proof.Machine.execThermalRelease
  repeat' first | (with_reducible assumption) | (with_reducible apply ResKeeps.ofIte) | (with_reducible apply ResKeeps.next) | (with_reducible apply AnsKeeps.done) | (with_reducible apply AnsKeeps.wait) | (with_reducible apply Keeps.modChan) | (with_reducible apply Keeps.chkLatch) | (with_reducible apply Keeps.chkRetry) | (with_reducible apply Keeps.settle) | (with_reducible apply Keeps.ofIte) | (with_reducible apply Keeps.fold) | (with_reducible rfl) | (dsimp only) | intro _ | split | (with_reducible apply Keeps.upd) | rfl

theorem ResKeeps.execRetryTimerExpiry {s : State} (ch : Nat) : ResKeeps s (execRetryTimerExpiry ch s) := by
  have h := Keeps.refl s
  unfold Sys2Proof.Machine.execRetryTimerExpiry
  repeat' first | (with_reducible assumption) | (with_reducible apply ResKeeps.ofIte) | (with_reducible apply ResKeeps.next) | (with_reducible apply AnsKeeps.done) | (with_reducible apply AnsKeeps.wait) | (with_reducible apply Keeps.chkRetry) | (with_reducible apply Keeps.settle) | (with_reducible apply Keeps.ofIte) | (with_reducible apply Keeps.fold) | (with_reducible rfl) | (dsimp only) | intro _ | split | (with_reducible apply Keeps.upd) | rfl

theorem ResKeeps.execRetryBudgetRefill {s : State} (ch : Nat) : ResKeeps s (execRetryBudgetRefill ch s) := by
  have h := Keeps.refl s
  unfold Sys2Proof.Machine.execRetryBudgetRefill
  repeat' first | (with_reducible assumption) | (with_reducible apply ResKeeps.ofIte) | (with_reducible apply ResKeeps.next) | (with_reducible apply AnsKeeps.done) | (with_reducible apply AnsKeeps.wait) | (with_reducible apply Keeps.modChan) | (with_reducible apply Keeps.ofIte) | (with_reducible apply Keeps.fold) | (with_reducible rfl) | (dsimp only) | intro _ | split | (with_reducible apply Keeps.upd) | rfl

theorem Keeps.askMore {s0 s : State} (h : Keeps s0 s) (ch : Nat) : Keeps s0 (s.askMore ch) := by
  unfold Sys2Proof.Machine.State.askMore
  repeat' first | (with_reducible assumption) | (with_reducible apply Keeps.askConduction) | (with_reducible apply Keeps.present) | (with_reducible apply Keeps.ofIte) | (with_reducible apply Keeps.fold) | (with_reducible rfl) | (dsimp only) | intro _ | split | (with_reducible apply Keeps.upd) | rfl

theorem ResKeeps.execConductionRecompute {s : State} (meas : List ChMeas) : ResKeeps s (execConductionRecompute meas s) := by
  have h := Keeps.refl s
  unfold Sys2Proof.Machine.execConductionRecompute
  repeat' first | (with_reducible assumption) | (with_reducible apply ResKeeps.ofIte) | (with_reducible apply ResKeeps.next) | (with_reducible apply AnsKeeps.done) | (with_reducible apply AnsKeeps.wait) | (with_reducible apply Keeps.modChan) | (with_reducible apply Keeps.askMore) | (with_reducible apply Keeps.shedUntil) | (with_reducible apply Keeps.settle) | (with_reducible apply Keeps.ofIte) | (with_reducible apply Keeps.fold) | (with_reducible rfl) | (dsimp only) | intro _ | split | (with_reducible apply Keeps.upd) | rfl

theorem ResKeeps.execCurrentSumShed {s : State} (meas : List ChMeas) : ResKeeps s (execCurrentSumShed meas s) := by
  have h := Keeps.refl s
  unfold Sys2Proof.Machine.execCurrentSumShed
  repeat' first | (with_reducible assumption) | (with_reducible apply ResKeeps.ofIte) | (with_reducible apply ResKeeps.next) | (with_reducible apply AnsKeeps.done) | (with_reducible apply AnsKeeps.wait) | (with_reducible apply Keeps.modChan) | (with_reducible apply Keeps.shedUntil) | (with_reducible apply Keeps.settle) | (with_reducible apply Keeps.ofIte) | (with_reducible apply Keeps.fold) | (with_reducible rfl) | (dsimp only) | intro _ | split | (with_reducible apply Keeps.upd) | rfl

theorem ResKeeps.execDutyZeroTimeout {s : State} (ch : Nat) : ResKeeps s (execDutyZeroTimeout ch s) := by
  have h := Keeps.refl s
  unfold Sys2Proof.Machine.execDutyZeroTimeout
  repeat' first | (with_reducible assumption) | (with_reducible apply ResKeeps.ofIte) | (with_reducible apply ResKeeps.next) | (with_reducible apply AnsKeeps.done) | (with_reducible apply AnsKeeps.wait) | (with_reducible apply Keeps.chkOff) | (with_reducible apply Keeps.settle) | (with_reducible apply Keeps.ofIte) | (with_reducible apply Keeps.fold) | (with_reducible rfl) | (dsimp only) | intro _ | split | (with_reducible apply Keeps.upd) | rfl

theorem ResKeeps.execOpenLoad {s : State} (ch : Nat) (mA : Nat) (ms : Nat) : ResKeeps s (execOpenLoad ch mA ms s) := by
  have h := Keeps.refl s
  unfold Sys2Proof.Machine.execOpenLoad
  repeat' first | (with_reducible assumption) | (with_reducible apply ResKeeps.ofIte) | (with_reducible apply ResKeeps.next) | (with_reducible apply AnsKeeps.done) | (with_reducible apply AnsKeeps.wait) | (with_reducible apply Keeps.modChan) | (with_reducible apply Keeps.setEvtIf) | (with_reducible apply Keeps.ofIte) | (with_reducible apply Keeps.fold) | (with_reducible rfl) | (dsimp only) | intro _ | split | (with_reducible apply Keeps.upd) | rfl

theorem ResKeeps.execStuckOn {s : State} (ch : Nat) (near : Bool) (ms : Nat) : ResKeeps s (execStuckOn ch near ms s) := by
  have h := Keeps.refl s
  unfold Sys2Proof.Machine.execStuckOn
  repeat' first | (with_reducible assumption) | (with_reducible apply ResKeeps.ofIte) | (with_reducible apply ResKeeps.next) | (with_reducible apply AnsKeeps.done) | (with_reducible apply AnsKeeps.wait) | (with_reducible apply Keeps.modChan) | (with_reducible apply Keeps.setEvtIf) | (with_reducible apply Keeps.safeStop) | (with_reducible apply Keeps.settle) | (with_reducible apply Keeps.ofIte) | (with_reducible apply Keeps.fold) | (with_reducible rfl) | (dsimp only) | intro _ | split | (with_reducible apply Keeps.upd) | rfl

theorem Keeps.chanSupply {s0 s : State} (h : Keeps s0 s) (kind : Supply) (ch : Nat) : Keeps s0 (s.chanSupply kind ch) := by
  unfold Sys2Proof.Machine.State.chanSupply
  repeat' first | (with_reducible assumption) | (with_reducible apply Keeps.chkStop) | (with_reducible apply Keeps.modChan) | (with_reducible apply Keeps.finish) | (with_reducible apply Keeps.safetyFail) | (with_reducible apply Keeps.ofIte) | (with_reducible apply Keeps.fold) | (with_reducible rfl) | (dsimp only) | intro _ | split | (with_reducible apply Keeps.upd) | rfl

theorem Keeps.supplyFails {s0 s : State} (h : Keeps s0 s) (kind : Supply) : Keeps s0 (s.supplyFails kind) := by
  unfold Sys2Proof.Machine.State.supplyFails
  repeat' first | (with_reducible assumption) | (with_reducible apply Keeps.setEvtIf) | (with_reducible apply Keeps.chanSupply) | (with_reducible apply Keeps.ofIte) | (with_reducible apply Keeps.fold) | (with_reducible rfl) | (dsimp only) | intro _ | split | (with_reducible apply Keeps.upd) | rfl

theorem ResKeeps.execSupplyAnomaly {s : State} (vaux : Int) (gndMv : Int) : ResKeeps s (execSupplyAnomaly vaux gndMv s) := by
  have h := Keeps.refl s
  unfold Sys2Proof.Machine.execSupplyAnomaly
  repeat' first | (with_reducible assumption) | (with_reducible apply ResKeeps.ofIte) | (with_reducible apply ResKeeps.next) | (with_reducible apply AnsKeeps.done) | (with_reducible apply AnsKeeps.wait) | (with_reducible apply Keeps.supplyFails) | (with_reducible apply Keeps.settle) | (with_reducible apply Keeps.ofIte) | (with_reducible apply Keeps.fold) | (with_reducible rfl) | (dsimp only) | intro _ | split | (with_reducible apply Keeps.upd) | rfl

theorem Keeps.chanRestore {s0 s : State} (h : Keeps s0 s) (ch : Nat) : Keeps s0 (s.chanRestore ch) := by
  unfold Sys2Proof.Machine.State.chanRestore
  repeat' first | (with_reducible assumption) | (with_reducible apply Keeps.modChan) | (with_reducible apply Keeps.chkAsk) | (with_reducible apply Keeps.ofIte) | (with_reducible apply Keeps.fold) | (with_reducible rfl) | (dsimp only) | intro _ | split | (with_reducible apply Keeps.upd) | rfl

theorem ResKeeps.execSupplyAnomalyEnd {s : State} (vaux : Int) (gndMv : Int) : ResKeeps s (execSupplyAnomalyEnd vaux gndMv s) := by
  have h := Keeps.refl s
  unfold Sys2Proof.Machine.execSupplyAnomalyEnd
  repeat' first | (with_reducible assumption) | (with_reducible apply ResKeeps.ofIte) | (with_reducible apply ResKeeps.next) | (with_reducible apply AnsKeeps.done) | (with_reducible apply AnsKeeps.wait) | (with_reducible apply Keeps.supplyFails) | (with_reducible apply Keeps.settle) | (with_reducible apply Keeps.chanRestore) | (with_reducible apply Keeps.ofIte) | (with_reducible apply Keeps.fold) | (with_reducible rfl) | (dsimp only) | intro _ | split | (with_reducible apply Keeps.upd) | rfl

/-! ### Reset -/

/-- Cutting a migration leaves the rollback floor (R84). -/
theorem State.arbMin_cutMigration (s : State) : s.cutMigration.arbMin = s.cfg.arbMin := by
  unfold State.cutMigration
  split <;> rfl

/-- A reset empties the permits, and memory keeps what MRAM holds. -/
theorem Keeps.afterReset {s0 s : State} (h : Keeps s0 s) (c : RstCause) : Keeps s0 (s.afterReset c) :=
  h.trans (.ofMarks rfl ⟨[], rfl⟩ (fun x => tabWf_filter _ x _) (fun _ => Nat.le_refl 0) ⟨s.arbMin_cutMigration, rfl, rfl, rfl, rfl, rfl, rfl⟩)

theorem Keeps.enterReset {s0 s : State} (h : Keeps s0 s) (c : RstCause) (coin : Bool) : Keeps s0 (s.enterReset c coin) := by
  unfold Sys2Proof.Machine.State.enterReset
  repeat' first | (with_reducible assumption) | (with_reducible apply Keeps.afterReset) | (with_reducible apply Keeps.ofIte) | (with_reducible apply Keeps.fold) | (with_reducible rfl) | (dsimp only) | intro _ | split | (with_reducible apply Keeps.upd) | rfl

theorem Keeps.mainsOff {s0 s : State} (h : Keeps s0 s) : Keeps s0 (s.mainsOff) := by
  unfold Sys2Proof.Machine.State.mainsOff
  repeat' first | (with_reducible assumption) | (with_reducible apply Keeps.ofIte) | (with_reducible apply Keeps.fold) | (with_reducible rfl) | (dsimp only) | intro _ | split | (with_reducible apply Keeps.upd) | rfl

/-! ### ImageCheck -/

theorem Keeps.checkedBank {s0 s : State} (h : Keeps s0 s) (n : Nat) : Keeps s0 (s.checkedBank n) := by
  unfold Sys2Proof.Machine.State.checkedBank
  repeat' first | (with_reducible assumption) | (with_reducible apply Keeps.modBank) | (with_reducible apply Keeps.ofIte) | (with_reducible apply Keeps.fold) | (with_reducible rfl) | (dsimp only) | intro _ | split | (with_reducible apply Keeps.upd) | rfl

/-! ### Rebuild -/

theorem Keeps.skip {s0 s : State} (h : Keeps s0 s) (z0 : Skipped) : Keeps s0 (s.skip z0) := by
  unfold Sys2Proof.Machine.State.skip
  repeat' first | (with_reducible assumption) | (with_reducible apply Keeps.closePeriod) | (with_reducible apply Keeps.applyMsg) | (with_reducible apply Keeps.ofIte) | (with_reducible apply Keeps.fold) | (with_reducible rfl) | (dsimp only) | intro _ | split | (with_reducible apply Keeps.upd) | rfl

theorem Keeps.catchUp {s0 s : State} (h : Keeps s0 s) (t : Stamp) : Keeps s0 (s.catchUp t) := by
  unfold Sys2Proof.Machine.State.catchUp
  repeat' first | (with_reducible assumption) | (with_reducible apply Keeps.dueMsgs) | (with_reducible apply Keeps.note) | (with_reducible apply Keeps.skip) | (with_reducible apply Keeps.setEvtIf) | (with_reducible apply Keeps.ofIte1) | (with_reducible apply Keeps.fold1) | (with_reducible apply Keeps.ofIte2) | (with_reducible apply Keeps.fold2) | (with_reducible apply Keeps.ofIte) | (with_reducible apply Keeps.fold) | (with_reducible rfl) | (dsimp only) | intro _ | split | (with_reducible apply Keeps.upd) | rfl

theorem Keeps.fromSlot {s0 s : State} (h : Keeps s0 s) (j : JSlot) : Keeps s0 (s.fromSlot j) := by
  unfold Sys2Proof.Machine.State.fromSlot
  repeat' first | (with_reducible assumption) | (with_reducible apply Keeps.ofIte) | (with_reducible apply Keeps.fold) | (with_reducible rfl) | (dsimp only) | intro _ | split | (with_reducible apply Keeps.upd) | rfl

theorem Keeps.mergeResidual {s0 s : State} (h : Keeps s0 s) (r : Residual) (t : Nat) : Keeps s0 (s.mergeResidual r t) := by
  unfold Sys2Proof.Machine.State.mergeResidual
  repeat' first | (with_reducible assumption) | (with_reducible apply Keeps.tlyAdd) | (with_reducible apply Keeps.feedEntries) | (with_reducible apply Keeps.ofIte1) | (with_reducible apply Keeps.fold1) | (with_reducible apply Keeps.ofIte2) | (with_reducible apply Keeps.fold2) | (with_reducible apply Keeps.ofIte) | (with_reducible apply Keeps.fold) | (with_reducible rfl) | (dsimp only) | intro _ | split | (with_reducible apply Keeps.upd) | rfl

theorem Keeps.tlyStart {s0 s : State} (h : Keeps s0 s) (flags : BitVec 16) : Keeps s0 (s.tlyStart flags) := by
  unfold Sys2Proof.Machine.State.tlyStart
  repeat' first | (with_reducible assumption) | (with_reducible apply Keeps.setTariff) | (with_reducible apply Keeps.openEntries) | (with_reducible apply Keeps.checkpointNow) | (with_reducible apply Keeps.ofIte) | (with_reducible apply Keeps.fold) | (with_reducible rfl) | (dsimp only) | intro _ | split | (with_reducible apply Keeps.upd) | rfl

theorem Keeps.ceilFromImage {s0 s : State} (h : Keeps s0 s) (first : Bool) : Keeps s0 (s.ceilFromImage first) := by
  unfold Sys2Proof.Machine.State.ceilFromImage
  repeat' first | (with_reducible assumption) | (with_reducible apply Keeps.ofIte) | (with_reducible apply Keeps.fold) | (with_reducible rfl) | (dsimp only) | intro _ | split | (with_reducible apply Keeps.upd) | rfl

theorem Keeps.takeUp {s0 s : State} (h : Keeps s0 s) (j : JSlot) : Keeps s0 (s.takeUp j) := by
  unfold Sys2Proof.Machine.State.takeUp
  repeat' first | (with_reducible assumption) | (with_reducible apply Keeps.fromSlot) | (with_reducible apply Keeps.mergeResidual) | (with_reducible apply Keeps.ofIte) | (with_reducible apply Keeps.fold) | (with_reducible rfl) | (dsimp only) | intro _ | split | (with_reducible apply Keeps.upd) | rfl

theorem Keeps.rebuildFrom {s0 s : State} (h : Keeps s0 s) (j : JSlot) : Keeps s0 (s.rebuildFrom j) := by
  unfold Sys2Proof.Machine.State.rebuildFrom
  repeat' first | (with_reducible assumption) | (with_reducible apply Keeps.takeUp) | (with_reducible apply Keeps.closeEntries) | (with_reducible apply Keeps.catchUp) | (with_reducible apply Keeps.ceilFromImage) | (with_reducible apply Keeps.recClose) | (with_reducible apply Keeps.readAll) | (with_reducible apply Keeps.tlyStart) | (with_reducible apply Keeps.ofIte) | (with_reducible apply Keeps.fold) | (with_reducible rfl) | (dsimp only) | intro _ | split | (with_reducible apply Keeps.upd) | rfl

theorem Keeps.rebuildNew {s0 s : State} (h : Keeps s0 s) : Keeps s0 (s.rebuildNew) := by
  unfold Sys2Proof.Machine.State.rebuildNew
  repeat' first | (with_reducible assumption) | (with_reducible apply Keeps.ceilFromImage) | (with_reducible apply Keeps.readAll) | (with_reducible apply Keeps.tlyStart) | (with_reducible apply Keeps.ofIte) | (with_reducible apply Keeps.fold) | (with_reducible rfl) | (dsimp only) | intro _ | split | (with_reducible apply Keeps.upd) | rfl

theorem Keeps.rebuildFound {s0 s : State} (h : Keeps s0 s) (o : Option JSlot) :
    Keeps s0 (match o with | none => s.rebuildNew | some j => s.rebuildFrom j) := by
  cases o with
  | none => exact h.rebuildNew
  | some j => exact h.rebuildFrom j

theorem Keeps.rebuild {s0 s : State} (h : Keeps s0 s) : Keeps s0 (s.rebuild) := by
  unfold State.rebuild
  exact Keeps.rebuildFound (Keeps.upd (t := s) h rfl rfl rfl rfl rfl rfl rfl) _

/-! ### Boot -/

theorem Keeps.halt {s0 s : State} (h : Keeps s0 s) (stage : Nat) (code : Nat) : Keeps s0 (s.halt stage code) := by
  unfold Sys2Proof.Machine.State.halt
  repeat' first | (with_reducible assumption) | (with_reducible apply Keeps.bootFail) | (with_reducible apply Keeps.ofIte) | (with_reducible apply Keeps.fold) | (with_reducible rfl) | (dsimp only) | intro _ | split | (with_reducible apply Keeps.upd) | rfl

theorem Keeps.bootFail {s0 s : State} (h : Keeps s0 s) (code : Nat) : Keeps s0 (s.bootFail code) := by
  unfold Sys2Proof.Machine.State.bootFail
  repeat' first | (with_reducible assumption) | (with_reducible apply Keeps.halt) | (with_reducible apply Keeps.ofIte) | (with_reducible apply Keeps.fold) | (with_reducible rfl) | (dsimp only) | intro _ | split | (with_reducible apply Keeps.upd) | rfl

theorem Keeps.bootFail9 {s0 s : State} {done : State} (hd : Keeps s0 done) : Keeps s0 (s.bootFail9 done) := by
  unfold State.bootFail9
  dsimp only
  apply Keeps.bootFail
  exact (hd.afterReset s.sys.causeCopy).upd rfl rfl rfl rfl rfl rfl rfl

theorem Keeps.bootBegin {s0 s : State} (h : Keeps s0 s) (env : BootEnv) : Keeps s0 (s.bootBegin env) := by
  unfold Sys2Proof.Machine.State.bootBegin
  repeat' first | (with_reducible assumption) | (with_reducible apply Keeps.ofIte) | (with_reducible apply Keeps.fold) | (with_reducible rfl) | (dsimp only) | intro _ | split | (with_reducible apply Keeps.upd) | rfl

theorem Keeps.bootLife {s0 s : State} (h : Keeps s0 s) : Keeps s0 (s.bootLife) := by
  unfold Sys2Proof.Machine.State.bootLife
  repeat' first | (with_reducible assumption) | (with_reducible apply Keeps.lcEffects) | (with_reducible apply Keeps.lockMetro) | (with_reducible apply Keeps.ofIte) | (with_reducible apply Keeps.fold) | (with_reducible rfl) | (dsimp only) | intro _ | split | (with_reducible apply Keeps.upd) | rfl

theorem Keeps.bootKeys {s0 s : State} (h : Keeps s0 s) (env : BootEnv) : Keeps s0 (s.bootKeys env) := by
  unfold Sys2Proof.Machine.State.bootKeys
  repeat' first | (with_reducible assumption) | (with_reducible apply Keeps.setEvtIf) | (with_reducible apply Keeps.ofIte1) | (with_reducible apply Keeps.fold1) | (with_reducible apply Keeps.ofIte2) | (with_reducible apply Keeps.fold2) | (with_reducible apply Keeps.ofIte) | (with_reducible apply Keeps.fold) | (with_reducible rfl) | (dsimp only) | intro _ | split | (with_reducible apply Keeps.upd) | rfl

theorem Keeps.dramTrained {s0 s : State} (h : Keeps s0 s) (env : BootEnv) : Keeps s0 (s.dramTrained env) := by
  unfold Sys2Proof.Machine.State.dramTrained
  repeat' first | (with_reducible assumption) | (with_reducible apply Keeps.ofIte) | (with_reducible apply Keeps.fold) | (with_reducible rfl) | (dsimp only) | intro _ | split | (with_reducible apply Keeps.upd) | rfl

/-- An image's budget comes with no permits (R50, R69). -/
theorem Keeps.applyImage {s0 s : State} (h : Keeps s0 s) (img : Image) (c : ImageContent) : Keeps s0 (s.applyImage img c) :=
  h.trans (.ofMarks rfl ⟨[], rfl⟩ id (fun _ => Nat.zero_le _) ⟨rfl, rfl, rfl, rfl, rfl, rfl, rfl⟩)

theorem Keeps.bootRepair {s0 s : State} (h : Keeps s0 s) (env : BootEnv) : Keeps s0 (s.bootRepair env) := by
  unfold Sys2Proof.Machine.State.bootRepair
  repeat' first | (with_reducible assumption) | (with_reducible apply Keeps.idle) | (with_reducible apply Keeps.ofIte) | (with_reducible apply Keeps.fold) | (with_reducible rfl) | (dsimp only) | intro _ | split | (with_reducible apply Keeps.upd) | rfl

theorem Keeps.bootEngines {s0 s : State} (h : Keeps s0 s) (calBad : List Nat) : Keeps s0 (s.bootEngines calBad) := by
  unfold Sys2Proof.Machine.State.bootEngines
  repeat' first | (with_reducible assumption) | (with_reducible apply Keeps.mfaultCore) | (with_reducible apply Keeps.draw) | (with_reducible apply Keeps.writeTag) | (with_reducible apply Keeps.sklTake) | (with_reducible apply Keeps.ofIte1) | (with_reducible apply Keeps.fold1) | (with_reducible apply Keeps.ofIte2) | (with_reducible apply Keeps.fold2) | (with_reducible apply Keeps.ofIte) | (with_reducible apply Keeps.fold) | (with_reducible rfl) | (dsimp only) | intro _ | split | (with_reducible apply Keeps.upd) | rfl

theorem Keeps.migrate {s0 s : State} (h : Keeps s0 s) : Keeps s0 (s.migrate) := by
  unfold Sys2Proof.Machine.State.migrate
  repeat' first | (with_reducible assumption) | (with_reducible apply Keeps.resumeMark) | (with_reducible apply Keeps.draw) | (with_reducible apply Keeps.migrateRecords) | (with_reducible apply Keeps.showPending) | (with_reducible apply Keeps.ofIte1) | (with_reducible apply Keeps.fold1) | (with_reducible apply Keeps.ofIte2) | (with_reducible apply Keeps.fold2) | (with_reducible apply Keeps.ofIte) | (with_reducible apply Keeps.fold) | (with_reducible rfl) | (dsimp only) | intro _ | split | (with_reducible apply Keeps.upd) | rfl

theorem Keeps.startTime {s0 s : State} (h : Keeps s0 s) : Keeps s0 (s.startTime) := by
  unfold Sys2Proof.Machine.State.startTime
  repeat' first | (with_reducible assumption) | (with_reducible apply Keeps.ofIte) | (with_reducible apply Keeps.fold) | (with_reducible rfl) | (dsimp only) | intro _ | split | (with_reducible apply Keeps.upd) | rfl

theorem Keeps.sparStart {s0 s : State} (h : Keeps s0 s) : Keeps s0 (s.sparStart) := by
  unfold Sys2Proof.Machine.State.sparStart
  repeat' first | (with_reducible assumption) | (with_reducible apply Keeps.ofIte) | (with_reducible apply Keeps.fold) | (with_reducible rfl) | (dsimp only) | intro _ | split | (with_reducible apply Keeps.upd) | rfl

theorem Keeps.startEntries {s0 s : State} (h : Keeps s0 s) (migSafe : Bool) : Keeps s0 (s.startEntries migSafe) := by
  unfold Sys2Proof.Machine.State.startEntries
  repeat' first | (with_reducible assumption) | (with_reducible apply AnsKeeps.ofIte) | (with_reducible apply Keeps.legalChange) | (with_reducible apply Keeps.safMigrated) | (with_reducible apply Keeps.safetyFromImage) | (with_reducible apply Keeps.applyPointParams) | (with_reducible apply Keeps.ofIte) | (with_reducible apply Keeps.fold) | (with_reducible rfl) | (dsimp only) | intro _ | split | (with_reducible apply Keeps.upd) | rfl

theorem Keeps.baysUp {s0 s : State} (h : Keeps s0 s) : Keeps s0 (s.baysUp) := by
  unfold Sys2Proof.Machine.State.baysUp
  repeat' first | (with_reducible assumption) | (with_reducible apply Keeps.bootFail) | (with_reducible apply Keeps.modBay) | (with_reducible apply Keeps.mfault) | (with_reducible apply Keeps.pilotGen) | (with_reducible apply Keeps.ofIte) | (with_reducible apply Keeps.fold) | (with_reducible rfl) | (dsimp only) | intro _ | split | (with_reducible apply Keeps.upd) | rfl

theorem Keeps.bootLive {s0 s : State} (h : Keeps s0 s) (migSafe : Bool) : Keeps s0 (s.bootLive migSafe) := by
  unfold Sys2Proof.Machine.State.bootLive
  repeat' first | (with_reducible assumption) | (with_reducible apply Keeps.sparStart) | (with_reducible apply Keeps.startTime) | (with_reducible apply Keeps.rebuild) | (with_reducible apply Keeps.startEntries) | (with_reducible apply Keeps.transfer) | (with_reducible apply Keeps.publishTotals) | (with_reducible apply Keeps.publishExcerpt) | (with_reducible apply Keeps.legalBay) | (with_reducible apply Keeps.baysUp) | (with_reducible apply Keeps.settle) | (with_reducible apply Keeps.ofIte) | (with_reducible apply Keeps.fold) | (with_reducible rfl) | (dsimp only) | intro _ | split | (with_reducible apply Keeps.upd) | rfl

theorem Keeps.keepThr {s0 s : State} (h : Keeps s0 s) (c : ImageContent) : Keeps s0 (s.keepThr c) := by
  unfold Sys2Proof.Machine.State.keepThr
  repeat' first | (with_reducible assumption) | (with_reducible apply Keeps.ofIte) | (with_reducible apply Keeps.fold) | (with_reducible rfl) | (dsimp only) | intro _ | split | (with_reducible apply Keeps.upd) | rfl

theorem Keeps.bootImage {s0 s : State} (h : Keeps s0 s) (img : Image) (c : ImageContent) (env : BootEnv) : Keeps s0 (s.bootImage img c env) := by
  unfold Sys2Proof.Machine.State.bootImage
  repeat' first | (with_reducible assumption) | (with_reducible apply Keeps.applyImage) | (with_reducible apply Keeps.keepThr) | (with_reducible apply Keeps.bootFail) | (with_reducible apply Keeps.bootRepair) | (with_reducible apply Keeps.bootEngines) | (with_reducible apply Keeps.migrate) | (with_reducible apply Keeps.bootFail9) | (with_reducible apply Keeps.bootLive) | (with_reducible apply Keeps.ofIte) | (with_reducible apply Keeps.fold) | (with_reducible rfl) | (dsimp only) | intro _ | split | (with_reducible apply Keeps.upd) | rfl

theorem Keeps.tryBank {s0 s : State} (h : Keeps s0 s) (n : Nat) : Keeps s0 (s.tryBank n).1 := by
  unfold Sys2Proof.Machine.State.tryBank
  repeat' first | (with_reducible assumption) | (with_reducible apply Keeps.modBank) | (with_reducible apply Keeps.ofIte1) | (with_reducible apply Keeps.fold1) | (with_reducible apply Keeps.ofIte) | (with_reducible apply Keeps.fold) | (with_reducible rfl) | (dsimp only) | intro _ | split | (with_reducible apply Keeps.upd) | rfl

theorem Cfg.trialStep_arbMin (c : Cfg) : c.trialStep.arbMin = c.arbMin := by
  unfold Cfg.trialStep
  split
  · rfl
  · split <;> rfl

theorem Keeps.bootFlash {s0 s : State} (h : Keeps s0 s) (env : BootEnv) : Keeps s0 (s.bootFlash env) := by
  have h0 : Keeps s0 { s with cfg := s.cfg.trialStep } := h.upd (Cfg.trialStep_arbMin _) rfl rfl rfl rfl rfl rfl
  unfold State.bootFlash
  repeat' first | (with_reducible assumption) | (with_reducible apply Keeps.bootImage) | (with_reducible apply Keeps.tryBank) | (with_reducible apply Keeps.bootFail) | (with_reducible apply Keeps.ofIte1) | (with_reducible apply Keeps.ofIte) | (with_reducible rfl) | (dsimp only) | intro _ | split | (with_reducible apply Keeps.upd)

theorem Keeps.bootPcie {s0 s : State} (h : Keeps s0 s) (env : BootEnv) : Keeps s0 (s.bootPcie env) := by
  unfold Sys2Proof.Machine.State.bootPcie
  repeat' first | (with_reducible assumption) | (with_reducible apply Keeps.ofIte) | (with_reducible apply Keeps.fold) | (with_reducible rfl) | (dsimp only) | intro _ | split | (with_reducible apply Keeps.upd) | rfl

theorem Keeps.bootRun {s0 s : State} (h : Keeps s0 s) (env : BootEnv) : Keeps s0 (s.bootRun env) := by
  unfold Sys2Proof.Machine.State.bootRun
  repeat' first | (with_reducible assumption) | (with_reducible apply Keeps.bootBegin) | (with_reducible apply Keeps.bootLife) | (with_reducible apply Keeps.halt) | (with_reducible apply Keeps.send) | (with_reducible apply Keeps.bootKeys) | (with_reducible apply Keeps.dramTrained) | (with_reducible apply Keeps.bootPcie) | (with_reducible apply Keeps.bootFlash) | (with_reducible apply Keeps.ofIte) | (with_reducible apply Keeps.fold) | (with_reducible rfl) | (dsimp only) | intro _ | split | (with_reducible apply Keeps.upd) | rfl

end Sys2Proof.Machine
end

