-- ==== Sys2Proof/Laws/KeepsSys.lean ====
section
/-! SUPPORT. What every function keeps (`Keeps`): SYS, CFG and session commands, bay events. -/
namespace Sys2Proof.Machine

/-! ### SysCmd -/

theorem ResKeeps.execPorstNPulse {s : State} (lowUs : Nat) (straps : Straps) (coin : Bool) : ResKeeps s (execPorstNPulse lowUs straps coin s) := by
  have h := Keeps.refl s
  unfold Sys2Proof.Machine.execPorstNPulse
  repeat' first | (with_reducible assumption) | (with_reducible apply ResKeeps.ofIte) | (with_reducible apply ResKeeps.next) | (with_reducible apply AnsKeeps.done) | (with_reducible apply AnsKeeps.wait) | (with_reducible apply Keeps.enterReset) | (with_reducible apply Keeps.ofIte) | (with_reducible apply Keeps.fold) | (with_reducible rfl) | (dsimp only) | intro _ | split | (with_reducible apply Keeps.upd) | rfl

theorem ResKeeps.execRailFault {s : State} (outNs : Nat) (coin : Bool) (mainsFail : Bool) : ResKeeps s (execRailFault outNs coin mainsFail s) := by
  have h := Keeps.refl s
  unfold Sys2Proof.Machine.execRailFault
  repeat' first | (with_reducible assumption) | (with_reducible apply ResKeeps.ofIte) | (with_reducible apply ResKeeps.next) | (with_reducible apply AnsKeeps.done) | (with_reducible apply AnsKeeps.wait) | (with_reducible apply Keeps.enterReset) | (with_reducible apply Keeps.mainsOff) | (with_reducible apply Keeps.ofIte) | (with_reducible apply Keeps.fold) | (with_reducible rfl) | (dsimp only) | intro _ | split | (with_reducible apply Keeps.upd) | rfl

theorem ResKeeps.execClkFault {s : State} (permille : Nat) (us : Nat) (coin : Bool) : ResKeeps s (execClkFault permille us coin s) := by
  have h := Keeps.refl s
  unfold Sys2Proof.Machine.execClkFault
  repeat' first | (with_reducible assumption) | (with_reducible apply ResKeeps.ofIte) | (with_reducible apply ResKeeps.next) | (with_reducible apply AnsKeeps.done) | (with_reducible apply AnsKeeps.wait) | (with_reducible apply Keeps.enterReset) | (with_reducible apply Keeps.ofIte) | (with_reducible apply Keeps.fold) | (with_reducible rfl) | (dsimp only) | intro _ | split | (with_reducible apply Keeps.upd) | rfl

theorem Keeps.refGone {s0 s : State} (h : Keeps s0 s) : Keeps s0 (s.refGone) := by
  unfold Sys2Proof.Machine.State.refGone
  repeat' first | (with_reducible assumption) | (with_reducible apply Keeps.ofIte) | (with_reducible apply Keeps.fold) | (with_reducible rfl) | (dsimp only) | intro _ | split | (with_reducible apply Keeps.upd) | rfl

theorem ResKeeps.execNfcLoss {s : State} : ResKeeps s (execNfcLoss s) := by
  have h := Keeps.refl s
  unfold Sys2Proof.Machine.execNfcLoss
  repeat' first | (with_reducible assumption) | (with_reducible apply ResKeeps.ofIte) | (with_reducible apply ResKeeps.next) | (with_reducible apply AnsKeeps.done) | (with_reducible apply AnsKeeps.wait) | (with_reducible apply Keeps.refGone) | (with_reducible apply Keeps.fieldOff) | (with_reducible apply Keeps.release) | (with_reducible apply Keeps.finish) | (with_reducible apply Keeps.settle) | (with_reducible apply Keeps.ofIte) | (with_reducible apply Keeps.fold) | (with_reducible rfl) | (dsimp only) | intro _ | split | (with_reducible apply Keeps.upd) | rfl

theorem ResKeeps.execX32Loss {s : State} (backup : Bool) : ResKeeps s (execX32Loss backup s) := by
  have h := Keeps.refl s
  unfold Sys2Proof.Machine.execX32Loss
  repeat' first | (with_reducible assumption) | (with_reducible apply ResKeeps.ofIte) | (with_reducible apply ResKeeps.next) | (with_reducible apply AnsKeeps.done) | (with_reducible apply AnsKeeps.wait) | (with_reducible apply Keeps.mainsOff) | (with_reducible apply Keeps.ofIte) | (with_reducible apply Keeps.fold) | (with_reducible rfl) | (dsimp only) | intro _ | split | (with_reducible apply Keeps.upd) | rfl

theorem ResKeeps.execSecWdt {s : State} (coin : Bool) : ResKeeps s (execSecWdt coin s) := by
  have h := Keeps.refl s
  unfold Sys2Proof.Machine.execSecWdt
  repeat' first | (with_reducible assumption) | (with_reducible apply ResKeeps.ofIte) | (with_reducible apply ResKeeps.next) | (with_reducible apply AnsKeeps.done) | (with_reducible apply AnsKeeps.wait) | (with_reducible apply Keeps.enterReset) | (with_reducible apply Keeps.ofIte) | (with_reducible apply Keeps.fold) | (with_reducible rfl) | (dsimp only) | intro _ | split | (with_reducible apply Keeps.upd) | rfl

theorem ResKeeps.execSwReset {s : State} (coin : Bool) : ResKeeps s (execSwReset coin s) := by
  have h := Keeps.refl s
  unfold Sys2Proof.Machine.execSwReset
  repeat' first | (with_reducible assumption) | (with_reducible apply ResKeeps.ofIte) | (with_reducible apply ResKeeps.next) | (with_reducible apply AnsKeeps.done) | (with_reducible apply AnsKeeps.wait) | (with_reducible apply Keeps.enterReset) | (with_reducible apply Keeps.ofIte) | (with_reducible apply Keeps.fold) | (with_reducible rfl) | (dsimp only) | intro _ | split | (with_reducible apply Keeps.upd) | rfl

theorem Keeps.aonCleared {s0 s : State} (h : Keeps s0 s) : Keeps s0 (s.aonCleared) := by
  unfold Sys2Proof.Machine.State.aonCleared
  repeat' first | (with_reducible assumption) | (with_reducible apply Keeps.ofIte) | (with_reducible apply Keeps.fold) | (with_reducible rfl) | (dsimp only) | intro _ | split | (with_reducible apply Keeps.upd) | rfl

theorem ResKeeps.execAonReset {s : State} : ResKeeps s (execAonReset s) := by
  have h := Keeps.refl s
  unfold Sys2Proof.Machine.execAonReset
  repeat' first | (with_reducible assumption) | (with_reducible apply ResKeeps.ofIte) | (with_reducible apply ResKeeps.next) | (with_reducible apply AnsKeeps.done) | (with_reducible apply AnsKeeps.wait) | (with_reducible apply Keeps.afterReset) | (with_reducible apply Keeps.enterReset) | (with_reducible apply Keeps.aonCleared) | (with_reducible apply Keeps.ofIte) | (with_reducible apply Keeps.fold) | (with_reducible rfl) | (dsimp only) | intro _ | split | (with_reducible apply Keeps.upd) | rfl

theorem Keeps.pcieBlock {s0 s : State} (h : Keeps s0 s) (len : Nat) (img : Image) : Keeps s0 (s.pcieBlock len img) := by
  unfold Sys2Proof.Machine.State.pcieBlock
  repeat' first | (with_reducible assumption) | (with_reducible apply Keeps.ofIte) | (with_reducible apply Keeps.fold) | (with_reducible rfl) | (dsimp only) | intro _ | split | (with_reducible apply Keeps.upd) | rfl

theorem Keeps.pcieDone {s0 s : State} (h : Keeps s0 s) (env : BootEnv) : Keeps s0 (s.pcieDone env) := by
  unfold Sys2Proof.Machine.State.pcieDone
  repeat' first | (with_reducible assumption) | (with_reducible apply Keeps.bootImage) | (with_reducible apply Keeps.bootFail) | (with_reducible apply Keeps.ofIte) | (with_reducible apply Keeps.fold) | (with_reducible rfl) | (dsimp only) | intro _ | split | (with_reducible apply Keeps.upd) | rfl

theorem ResKeeps.execMigrationBackground {s : State} (records : Nat) : ResKeeps s (execMigrationBackground records s) := by
  have h := Keeps.refl s
  unfold Sys2Proof.Machine.execMigrationBackground
  repeat' first | (with_reducible assumption) | (with_reducible apply ResKeeps.ofIte) | (with_reducible apply ResKeeps.next) | (with_reducible apply AnsKeeps.done) | (with_reducible apply AnsKeeps.wait) | (with_reducible apply Keeps.present) | (with_reducible apply Keeps.settle) | (with_reducible apply Keeps.ofIte) | (with_reducible apply Keeps.fold) | (with_reducible rfl) | (dsimp only) | intro _ | split | (with_reducible apply Keeps.upd) | rfl

theorem ResKeeps.execSysPermitReq {s : State} (c : Cmd) (power : Nat) (dur : Nat) (prio : Nat) (wait : Nat) : ResKeeps s (execSysPermitReq c power dur prio wait s) := by
  have h := Keeps.refl s
  unfold Sys2Proof.Machine.execSysPermitReq
  repeat' first | (with_reducible assumption) | (with_reducible apply AnsKeeps.ofIte) | (with_reducible apply ResKeeps.ofIte) | (with_reducible apply ResKeeps.next) | (with_reducible apply AnsKeeps.done) | (with_reducible apply AnsKeeps.wait) | (with_reducible apply Keeps.runSettle) | (with_reducible apply AnsKeeps.fail) | (with_reducible apply Keeps.present) | (with_reducible apply Keeps.ofIte) | (with_reducible apply Keeps.fold) | (with_reducible rfl) | (dsimp only) | intro _ | split | (with_reducible apply Keeps.upd) | rfl

theorem ResKeeps.execSysPermitRelease {s : State} (c : Cmd) (handle : Nat) : ResKeeps s (execSysPermitRelease c handle s) := by
  have h := Keeps.refl s
  unfold Sys2Proof.Machine.execSysPermitRelease
  repeat' first | (with_reducible assumption) | (with_reducible apply AnsKeeps.ofIte) | (with_reducible apply ResKeeps.ofIte) | (with_reducible apply ResKeeps.next) | (with_reducible apply AnsKeeps.done) | (with_reducible apply AnsKeeps.wait) | (with_reducible apply Keeps.runSettle) | (with_reducible apply AnsKeeps.okay) | (with_reducible apply Keeps.release) | (with_reducible apply AnsKeeps.fail) | (with_reducible apply Keeps.ofIte) | (with_reducible apply Keeps.fold) | (with_reducible rfl) | (dsimp only) | intro _ | split | (with_reducible apply Keeps.upd) | rfl

theorem Keeps.idle {s0 s : State} (h : Keeps s0 s) (timer : Nat) : Keeps s0 (s.idle timer) := by
  unfold Sys2Proof.Machine.State.idle
  repeat' first | (with_reducible assumption) | (with_reducible apply Keeps.dropReq) | (with_reducible apply Keeps.fieldOff) | (with_reducible apply Keeps.send) | (with_reducible apply Keeps.ofIte) | (with_reducible apply Keeps.fold) | (with_reducible rfl) | (dsimp only) | intro _ | split | (with_reducible apply Keeps.upd) | rfl

theorem ResKeeps.execSysSleep {s : State} (c : Cmd) (timer : Nat) : ResKeeps s (execSysSleep c timer s) := by
  have h := Keeps.refl s
  unfold Sys2Proof.Machine.execSysSleep
  repeat' first | (with_reducible assumption) | (with_reducible apply AnsKeeps.ofIte) | (with_reducible apply ResKeeps.ofIte) | (with_reducible apply ResKeeps.next) | (with_reducible apply AnsKeeps.done) | (with_reducible apply AnsKeeps.wait) | (with_reducible apply Keeps.runCmd) | (with_reducible apply AnsKeeps.fail) | (with_reducible apply AnsKeeps.okay) | (with_reducible apply Keeps.idle) | (with_reducible apply Keeps.ofIte) | (with_reducible apply Keeps.fold) | (with_reducible rfl) | (dsimp only) | intro _ | split | (with_reducible apply Keeps.upd) | rfl

theorem ResKeeps.execSysPowerMode {s : State} (c : Cmd) (target : Nat) : ResKeeps s (execSysPowerMode c target s) := by
  have h := Keeps.refl s
  unfold Sys2Proof.Machine.execSysPowerMode
  repeat' first | (with_reducible assumption) | (with_reducible apply AnsKeeps.ofIte) | (with_reducible apply ResKeeps.ofIte) | (with_reducible apply ResKeeps.next) | (with_reducible apply AnsKeeps.done) | (with_reducible apply AnsKeeps.wait) | (with_reducible apply Keeps.runCmd) | (with_reducible apply AnsKeeps.fail) | (with_reducible apply AnsKeeps.okay) | (with_reducible apply Keeps.ofIte) | (with_reducible apply Keeps.fold) | (with_reducible rfl) | (dsimp only) | intro _ | split | (with_reducible apply Keeps.upd) | rfl

theorem ResKeeps.execSysReset {s : State} (c : Cmd) : ResKeeps s (execSysReset c s) := by
  have h := Keeps.refl s
  unfold Sys2Proof.Machine.execSysReset
  repeat' first | (with_reducible assumption) | (with_reducible apply AnsKeeps.ofIte) | (with_reducible apply ResKeeps.ofIte) | (with_reducible apply ResKeeps.next) | (with_reducible apply AnsKeeps.done) | (with_reducible apply AnsKeeps.wait) | (with_reducible apply Keeps.runCmd) | (with_reducible apply AnsKeeps.fail) | (with_reducible apply AnsKeeps.okay) | (with_reducible apply Keeps.ofIte) | (with_reducible apply Keeps.fold) | (with_reducible rfl) | (dsimp only) | intro _ | split | (with_reducible apply Keeps.upd) | rfl

theorem Keeps.wakeReader {s0 s : State} (h : Keeps s0 s) : Keeps s0 (s.wakeReader) := by
  unfold Sys2Proof.Machine.State.wakeReader
  repeat' first | (with_reducible assumption) | (with_reducible apply Keeps.readerAsk) | (with_reducible apply Keeps.ofIte) | (with_reducible apply Keeps.fold) | (with_reducible rfl) | (dsimp only) | intro _ | split | (with_reducible apply Keeps.upd) | rfl

theorem Keeps.wakeUp {s0 s : State} (h : Keeps s0 s) (src : Nat) (bay : Nat) : Keeps s0 (s.wakeUp src bay) := by
  unfold Sys2Proof.Machine.State.wakeUp
  repeat' first | (with_reducible assumption) | (with_reducible apply Keeps.idle) | (with_reducible apply Keeps.present) | (with_reducible apply Keeps.send) | (with_reducible apply Keeps.lanesRestart) | (with_reducible apply Keeps.catchUp) | (with_reducible apply Keeps.chkWake) | (with_reducible apply Keeps.brandRun) | (with_reducible apply Keeps.wakeReader) | (with_reducible apply Keeps.publishDue) | (with_reducible apply Keeps.settle) | (with_reducible apply Keeps.ofIte) | (with_reducible apply Keeps.fold) | (with_reducible rfl) | (dsimp only) | intro _ | split | (with_reducible apply Keeps.upd) | rfl

theorem ResKeeps.execWake {s : State} (src : Nat) (bay : Nat) : ResKeeps s (execWake src bay s) := by
  have h := Keeps.refl s
  unfold Sys2Proof.Machine.execWake
  repeat' first | (with_reducible assumption) | (with_reducible apply ResKeeps.ofIte) | (with_reducible apply ResKeeps.next) | (with_reducible apply AnsKeeps.done) | (with_reducible apply AnsKeeps.wait) | (with_reducible apply Keeps.wakeUp) | (with_reducible apply Keeps.ofIte) | (with_reducible apply Keeps.fold) | (with_reducible rfl) | (dsimp only) | intro _ | split | (with_reducible apply Keeps.upd) | rfl

theorem Keeps.ringBell {s0 s : State} (h : Keeps s0 s) (value : Word) : Keeps s0 (s.ringBell value) := by
  unfold Sys2Proof.Machine.State.ringBell
  repeat' first | (with_reducible assumption) | (with_reducible apply Keeps.wakeUp) | (with_reducible apply Keeps.ofIte) | (with_reducible apply Keeps.fold) | (with_reducible rfl) | (dsimp only) | intro _ | split | (with_reducible apply Keeps.upd) | rfl

theorem ResKeeps.execDoorbell {s : State} (value : Word) : ResKeeps s (execDoorbell value s) := by
  have h := Keeps.refl s
  unfold Sys2Proof.Machine.execDoorbell
  repeat' first | (with_reducible assumption) | (with_reducible apply ResKeeps.ofIte) | (with_reducible apply ResKeeps.next) | (with_reducible apply AnsKeeps.done) | (with_reducible apply AnsKeeps.wait) | (with_reducible apply Keeps.ringBell) | (with_reducible apply Keeps.ofIte) | (with_reducible apply Keeps.fold) | (with_reducible rfl) | (dsimp only) | intro _ | split | (with_reducible apply Keeps.upd) | rfl

theorem Keeps.finalCommit {s0 s : State} (h : Keeps s0 s) (warn : Stamp) : Keeps s0 (s.finalCommit warn) := by
  unfold Sys2Proof.Machine.State.finalCommit
  repeat' first | (with_reducible assumption) | (with_reducible apply Keeps.closeTicks) | (with_reducible apply Keeps.tickEnergy) | (with_reducible apply Keeps.setTime) | (with_reducible apply Keeps.setPulse) | (with_reducible apply Keeps.slotWrite) | (with_reducible apply Keeps.eventSlots) | (with_reducible apply Keeps.ofIte1) | (with_reducible apply Keeps.fold1) | (with_reducible apply Keeps.ofIte2) | (with_reducible apply Keeps.fold2) | (with_reducible apply Keeps.ofIte) | (with_reducible apply Keeps.fold) | (with_reducible rfl) | (dsimp only) | intro _ | split | (with_reducible apply Keeps.upd) | rfl

theorem Keeps.saveResidual {s0 s : State} (h : Keeps s0 s) (warn : Stamp) (post : List (List BayCodes)) : Keeps s0 (s.saveResidual warn post) := by
  unfold Sys2Proof.Machine.State.saveResidual
  repeat' first | (with_reducible assumption) | (with_reducible apply Keeps.sampleAll) | (with_reducible apply Keeps.closeTicks) | (with_reducible apply Keeps.ofIte1) | (with_reducible apply Keeps.fold1) | (with_reducible apply Keeps.ofIte) | (with_reducible apply Keeps.fold) | (with_reducible rfl) | (dsimp only) | intro _ | split | (with_reducible apply Keeps.upd) | rfl

theorem Keeps.failWaiting {s0 s : State} (h : Keeps s0 s) : Keeps s0 (s.failWaiting) := by
  unfold Sys2Proof.Machine.State.failWaiting
  repeat' first | (with_reducible assumption) | (with_reducible apply Keeps.grantLoop) | (with_reducible apply Keeps.ofIte) | (with_reducible apply Keeps.fold) | (with_reducible rfl) | (dsimp only) | intro _ | split | (with_reducible apply Keeps.upd) | rfl

theorem Keeps.powerFail {s0 s : State} (h : Keeps s0 s) (afterNs : Nat) (post : List (List BayCodes)) : Keeps s0 (s.powerFail afterNs post) := by
  unfold Sys2Proof.Machine.State.powerFail
  repeat' first | (with_reducible assumption) | (with_reducible apply Keeps.enterReset) | (with_reducible apply Keeps.failWaiting) | (with_reducible apply Keeps.brandCut) | (with_reducible apply Keeps.railsStop) | (with_reducible apply Keeps.finalCommit) | (with_reducible apply Keeps.saveResidual) | (with_reducible apply Keeps.ofIte) | (with_reducible apply Keeps.fold) | (with_reducible rfl) | (dsimp only) | intro _ | split | (with_reducible apply Keeps.upd) | rfl

theorem Keeps.warnedBy {s0 s : State} (h : Keeps s0 s) : Keeps s0 (s.warnedBy) := by
  unfold Sys2Proof.Machine.State.warnedBy
  repeat' first | (with_reducible assumption) | (with_reducible apply Keeps.powerFail) | (with_reducible apply Keeps.ofIte) | (with_reducible apply Keeps.fold) | (with_reducible rfl) | (dsimp only) | intro _ | split | (with_reducible apply Keeps.upd) | rfl

theorem ResKeeps.execPowerFailWarning {s : State} (pfwN : Bool) (vaux : Nat) (afterNs : Nat) (post : List (List BayCodes)) (mainsFail : Bool) : ResKeeps s (execPowerFailWarning pfwN vaux afterNs post mainsFail s) := by
  have h := Keeps.refl s
  unfold Sys2Proof.Machine.execPowerFailWarning
  repeat' first | (with_reducible assumption) | (with_reducible apply ResKeeps.ofIte) | (with_reducible apply ResKeeps.next) | (with_reducible apply AnsKeeps.done) | (with_reducible apply AnsKeeps.wait) | (with_reducible apply Keeps.powerFail) | (with_reducible apply Keeps.mainsOff) | (with_reducible apply Keeps.ofIte) | (with_reducible apply Keeps.fold) | (with_reducible rfl) | (dsimp only) | intro _ | split | (with_reducible apply Keeps.upd) | rfl

theorem ResKeeps.execBoot {s : State} (held : Bool) (env : BootEnv) : ResKeeps s (execBoot held env s) := by
  have h := Keeps.refl s
  unfold Sys2Proof.Machine.execBoot
  repeat' first | (with_reducible assumption) | (with_reducible apply ResKeeps.ofIte) | (with_reducible apply ResKeeps.next) | (with_reducible apply AnsKeeps.done) | (with_reducible apply AnsKeeps.wait) | (with_reducible apply Keeps.bootRun) | (with_reducible apply Keeps.warnedBy) | (with_reducible apply Keeps.ofIte) | (with_reducible apply Keeps.fold) | (with_reducible rfl) | (dsimp only) | intro _ | split | (with_reducible apply Keeps.upd) | rfl

theorem ResKeeps.execPcieImageBlock {s : State} (len : Nat) (img : Image) : ResKeeps s (execPcieImageBlock len img s) := by
  have h := Keeps.refl s
  unfold Sys2Proof.Machine.execPcieImageBlock
  repeat' first | (with_reducible assumption) | (with_reducible apply ResKeeps.ofIte) | (with_reducible apply ResKeeps.next) | (with_reducible apply AnsKeeps.done) | (with_reducible apply AnsKeeps.wait) | (with_reducible apply Keeps.pcieBlock) | (with_reducible apply Keeps.pcieDone) | (with_reducible apply Keeps.warnedBy) | (with_reducible apply Keeps.ofIte) | (with_reducible apply Keeps.fold) | (with_reducible rfl) | (dsimp only) | intro _ | split | (with_reducible apply Keeps.upd) | rfl

theorem ResKeeps.execPermitWaitExpiry {s : State} (id : Nat) : ResKeeps s (execPermitWaitExpiry id s) := by
  have h := Keeps.refl s
  unfold Sys2Proof.Machine.execPermitWaitExpiry
  repeat' first | (with_reducible assumption) | (with_reducible apply ResKeeps.ofIte) | (with_reducible apply ResKeeps.next) | (with_reducible apply AnsKeeps.done) | (with_reducible apply AnsKeeps.wait) | (with_reducible apply Keeps.countFail) | (with_reducible apply Keeps.unwait) | (with_reducible apply Keeps.permitFailed) | (with_reducible apply Keeps.settle) | (with_reducible apply Keeps.ofIte) | (with_reducible apply Keeps.fold) | (with_reducible rfl) | (dsimp only) | intro _ | split | (with_reducible apply Keeps.upd) | rfl

theorem ResKeeps.execPermitExpiry {s : State} (id : Nat) : ResKeeps s (execPermitExpiry id s) := by
  unfold Sys2Proof.Machine.execPermitExpiry
  have h0 := Keeps.refl s
  repeat' first | (with_reducible assumption) | (with_reducible apply ResKeeps.next) | (with_reducible apply Keeps.settle) | (with_reducible apply Keeps.askConduction) | (with_reducible apply Keeps.ofIte) | (dsimp only) | intro _ | split | exact h0.permits _ rfl (grantedPower_filter _ _)

/-! ### CfgCmd -/

theorem Keeps.runCfg {s0 s : State} (h : Keeps s0 s) (c : Cmd) (opcode : Nat) (body : State → Answer) (hb : ∀ u, Keeps s0 u → AnsKeeps s0 (body u)) : Keeps s0 (s.runCfg c opcode body) := by
  unfold Sys2Proof.Machine.State.runCfg
  repeat' first | (with_reducible assumption) | (with_reducible apply hb) | (with_reducible apply AnsKeeps.ofIte) | (with_reducible apply Keeps.runCmd) | (with_reducible apply AnsKeeps.fail) | (with_reducible apply Keeps.ofIte) | (with_reducible apply Keeps.fold) | (with_reducible rfl) | (dsimp only) | intro _ | split | (with_reducible apply Keeps.upd) | rfl

theorem ResKeeps.execCfgBankErase {s : State} (c : Cmd) (bank : Nat) : ResKeeps s (execCfgBankErase c bank s) := by
  have h := Keeps.refl s
  unfold Sys2Proof.Machine.execCfgBankErase
  repeat' first | (with_reducible assumption) | (with_reducible apply AnsKeeps.ofIte) | (with_reducible apply ResKeeps.ofIte) | (with_reducible apply ResKeeps.next) | (with_reducible apply AnsKeeps.done) | (with_reducible apply AnsKeeps.wait) | (with_reducible apply Keeps.runCfg) | (with_reducible apply AnsKeeps.fail) | (with_reducible apply AnsKeeps.okay) | (with_reducible apply Keeps.modBank) | (with_reducible apply Keeps.ofIte) | (with_reducible apply Keeps.fold) | (with_reducible rfl) | (dsimp only) | intro _ | split | (with_reducible apply Keeps.upd) | rfl

theorem ResKeeps.execCfgBankWrite {s : State} (c : Cmd) (bank : Nat) (off : Nat) (len : Nat) (img : Image) : ResKeeps s (execCfgBankWrite c bank off len img s) := by
  have h := Keeps.refl s
  unfold Sys2Proof.Machine.execCfgBankWrite
  repeat' first | (with_reducible assumption) | (with_reducible apply AnsKeeps.ofIte) | (with_reducible apply ResKeeps.ofIte) | (with_reducible apply ResKeeps.next) | (with_reducible apply AnsKeeps.done) | (with_reducible apply AnsKeeps.wait) | (with_reducible apply Keeps.runCfg) | (with_reducible apply AnsKeeps.fail) | (with_reducible apply AnsKeeps.okay) | (with_reducible apply Keeps.modBank) | (with_reducible apply Keeps.ofIte) | (with_reducible apply Keeps.fold) | (with_reducible rfl) | (dsimp only) | intro _ | split | (with_reducible apply Keeps.upd) | rfl

theorem ResKeeps.execCfgBankVerify {s : State} (c : Cmd) (bank : Nat) : ResKeeps s (execCfgBankVerify c bank s) := by
  have h := Keeps.refl s
  unfold Sys2Proof.Machine.execCfgBankVerify
  repeat' first | (with_reducible assumption) | (with_reducible apply AnsKeeps.ofIte) | (with_reducible apply ResKeeps.ofIte) | (with_reducible apply ResKeeps.next) | (with_reducible apply AnsKeeps.done) | (with_reducible apply AnsKeeps.wait) | (with_reducible apply Keeps.runCfg) | (with_reducible apply AnsKeeps.fail) | (with_reducible apply AnsKeeps.okay) | (with_reducible apply Keeps.checkedBank) | (with_reducible apply Keeps.ofIte1) | (with_reducible apply Keeps.fold1) | (with_reducible apply Keeps.ofIte2) | (with_reducible apply Keeps.fold2) | (with_reducible apply Keeps.ofIte) | (with_reducible apply Keeps.fold) | (with_reducible rfl) | (dsimp only) | intro _ | split | (with_reducible apply Keeps.upd) | rfl

theorem ResKeeps.execCfgActivate {s : State} (c : Cmd) (bank : Nat) : ResKeeps s (execCfgActivate c bank s) := by
  have h := Keeps.refl s
  unfold Sys2Proof.Machine.execCfgActivate
  repeat' first | (with_reducible assumption) | (with_reducible apply AnsKeeps.ofIte) | (with_reducible apply ResKeeps.ofIte) | (with_reducible apply ResKeeps.next) | (with_reducible apply AnsKeeps.done) | (with_reducible apply AnsKeeps.wait) | (with_reducible apply Keeps.runCfg) | (with_reducible apply AnsKeeps.fail) | (with_reducible apply AnsKeeps.okay) | (with_reducible apply Keeps.ofIte) | (with_reducible apply Keeps.fold) | (with_reducible rfl) | (dsimp only) | intro _ | split | (with_reducible apply Keeps.upd) | rfl

/-- A confirmed image may only raise the floor (R84). -/
theorem Keeps.raise {s t : State} (h : Keeps s t) (c : Cfg) (hc : t.cfg.arbMin ≤ c.arbMin) : Keeps s { t with cfg := c } :=
  ⟨h.pending, h.sent, h.mem, h.budget, Nat.le_trans h.floor hc, h.scrapped, h.device, h.lseq, h.relOk, h.cseq, h.fuses⟩

theorem ResKeeps.execCfgConfirm {s : State} (c : Cmd) : ResKeeps s (execCfgConfirm c s) := by
  unfold Sys2Proof.Machine.execCfgConfirm
  apply ResKeeps.next
  apply Keeps.runCfg (.refl s)
  intro u hu
  dsimp only
  split
  · exact .fail hu _ _
  · exact .okay (hu.raise _ (Nat.le_max_left _ _)) _

theorem ResKeeps.execCfgRevert {s : State} (c : Cmd) : ResKeeps s (execCfgRevert c s) := by
  have h := Keeps.refl s
  unfold Sys2Proof.Machine.execCfgRevert
  repeat' first | (with_reducible assumption) | (with_reducible apply AnsKeeps.ofIte) | (with_reducible apply ResKeeps.ofIte) | (with_reducible apply ResKeeps.next) | (with_reducible apply AnsKeeps.done) | (with_reducible apply AnsKeeps.wait) | (with_reducible apply Keeps.runCfg) | (with_reducible apply AnsKeeps.fail) | (with_reducible apply AnsKeeps.okay) | (with_reducible apply Keeps.ofIte1) | (with_reducible apply Keeps.fold1) | (with_reducible apply Keeps.ofIte2) | (with_reducible apply Keeps.fold2) | (with_reducible apply Keeps.ofIte) | (with_reducible apply Keeps.fold) | (with_reducible rfl) | (dsimp only) | intro _ | split | (with_reducible apply Keeps.upd) | rfl

theorem Keeps.reverified {s0 s : State} (h : Keeps s0 s) (m : KeyMsg) (digest : Nat) : Keeps s0 (s.reverified m digest) := by
  unfold Sys2Proof.Machine.State.reverified
  repeat' first | (with_reducible assumption) | (with_reducible apply Keeps.storeCtr) | (with_reducible apply Keeps.legalChange) | (with_reducible apply Keeps.ofIte) | (with_reducible apply Keeps.fold) | (with_reducible rfl) | (dsimp only) | intro _ | split | (with_reducible apply Keeps.upd) | rfl

theorem ResKeeps.execCfgReverifyClear {s : State} (c : Cmd) (m : KeyMsg) : ResKeeps s (execCfgReverifyClear c m s) := by
  have h := Keeps.refl s
  unfold Sys2Proof.Machine.execCfgReverifyClear
  repeat' first | (with_reducible assumption) | (with_reducible apply AnsKeeps.ofIte) | (with_reducible apply ResKeeps.ofIte) | (with_reducible apply ResKeeps.next) | (with_reducible apply AnsKeeps.done) | (with_reducible apply AnsKeeps.wait) | (with_reducible apply Keeps.runCfg) | (with_reducible apply AnsKeeps.fail) | (with_reducible apply AnsKeeps.msgRej) | (with_reducible apply AnsKeeps.logFull) | (with_reducible apply AnsKeeps.okay) | (with_reducible apply Keeps.reverified) | (with_reducible apply Keeps.ofIte) | (with_reducible apply Keeps.fold) | (with_reducible rfl) | (dsimp only) | intro _ | split | (with_reducible apply Keeps.upd) | rfl

/-! ### SessionCmd -/

theorem ResKeeps.execVlkBaySet {s : State} (c : Cmd) (bay : Nat) (target : Nat) : ResKeeps s (execVlkBaySet c bay target s) := by
  have h := Keeps.refl s
  unfold Sys2Proof.Machine.execVlkBaySet
  repeat' first | (with_reducible assumption) | (with_reducible apply AnsKeeps.ofIte) | (with_reducible apply ResKeeps.ofIte) | (with_reducible apply ResKeeps.next) | (with_reducible apply AnsKeeps.done) | (with_reducible apply AnsKeeps.wait) | (with_reducible apply Keeps.runCmd) | (with_reducible apply AnsKeeps.fail) | (with_reducible apply Keeps.mfault) | (with_reducible apply AnsKeeps.okay) | (with_reducible apply Keeps.modBay) | (with_reducible apply Keeps.pilotGen) | (with_reducible apply Keeps.bayOut) | (with_reducible apply Keeps.ofIte) | (with_reducible apply Keeps.fold) | (with_reducible rfl) | (dsimp only) | intro _ | split | (with_reducible apply Keeps.upd) | rfl

theorem ResKeeps.execVlkAuthDecide {s : State} (c : Cmd) (k : Nat) (reqId : Nat) (decision : Nat) (limWh : Nat) (limMin : Nat) : ResKeeps s (execVlkAuthDecide c k reqId decision limWh limMin s) := by
  have h := Keeps.refl s
  unfold Sys2Proof.Machine.execVlkAuthDecide
  repeat' first | (with_reducible assumption) | (with_reducible apply AnsKeeps.ofIte) | (with_reducible apply ResKeeps.ofIte) | (with_reducible apply ResKeeps.next) | (with_reducible apply AnsKeeps.done) | (with_reducible apply AnsKeeps.wait) | (with_reducible apply Keeps.runSettle) | (with_reducible apply AnsKeeps.fail) | (with_reducible apply Keeps.authorise) | (with_reducible apply AnsKeeps.okay) | (with_reducible apply Keeps.reject) | (with_reducible apply Keeps.ofIte) | (with_reducible apply Keeps.fold) | (with_reducible rfl) | (dsimp only) | intro _ | split | (with_reducible apply Keeps.upd) | rfl

theorem ResKeeps.execVlkPreauth {s : State} (c : Cmd) (bridged : Nat) (bay : Nat) (ident : List Byte) (limWh : Nat) (limMin : Nat) : ResKeeps s (execVlkPreauth c bridged bay ident limWh limMin s) := by
  have h := Keeps.refl s
  unfold Sys2Proof.Machine.execVlkPreauth
  repeat' first | (with_reducible assumption) | (with_reducible apply AnsKeeps.ofIte) | (with_reducible apply ResKeeps.ofIte) | (with_reducible apply ResKeeps.next) | (with_reducible apply AnsKeeps.done) | (with_reducible apply AnsKeeps.wait) | (with_reducible apply Keeps.runSettle) | (with_reducible apply Keeps.modBay) | (with_reducible apply AnsKeeps.fail) | (with_reducible apply AnsKeeps.okay) | (with_reducible apply Keeps.authorise) | (with_reducible apply Keeps.ofIte1) | (with_reducible apply Keeps.fold1) | (with_reducible apply Keeps.ofIte) | (with_reducible apply Keeps.fold) | (with_reducible rfl) | (dsimp only) | intro _ | split | (with_reducible apply Keeps.upd) | rfl

theorem ResKeeps.execPreauthExpiry {s : State} (bridged : Bool) (bay : Nat) : ResKeeps s (execPreauthExpiry bridged bay s) := by
  have h := Keeps.refl s
  unfold Sys2Proof.Machine.execPreauthExpiry
  repeat' first | (with_reducible assumption) | (with_reducible apply ResKeeps.ofIte) | (with_reducible apply ResKeeps.next) | (with_reducible apply AnsKeeps.done) | (with_reducible apply AnsKeeps.wait) | (with_reducible apply Keeps.clearPre) | (with_reducible apply Keeps.ofIte) | (with_reducible apply Keeps.fold) | (with_reducible rfl) | (dsimp only) | intro _ | split | (with_reducible apply Keeps.upd) | rfl

theorem ResKeeps.execVlkSessStop {s : State} (c : Cmd) (k : Nat) (reason : Nat) : ResKeeps s (execVlkSessStop c k reason s) := by
  have h := Keeps.refl s
  unfold Sys2Proof.Machine.execVlkSessStop
  repeat' first | (with_reducible assumption) | (with_reducible apply AnsKeeps.ofIte) | (with_reducible apply ResKeeps.ofIte) | (with_reducible apply ResKeeps.next) | (with_reducible apply AnsKeeps.done) | (with_reducible apply AnsKeeps.wait) | (with_reducible apply Keeps.runSettle) | (with_reducible apply AnsKeeps.fail) | (with_reducible apply Keeps.authorise) | (with_reducible apply AnsKeeps.okay) | (with_reducible apply Keeps.endSess) | (with_reducible apply Keeps.ofIte) | (with_reducible apply Keeps.fold) | (with_reducible rfl) | (dsimp only) | intro _ | split | (with_reducible apply Keeps.upd) | rfl

theorem ResKeeps.execVlkSessLimit {s : State} (c : Cmd) (k : Nat) (cap : Nat) : ResKeeps s (execVlkSessLimit c k cap s) := by
  have h := Keeps.refl s
  unfold Sys2Proof.Machine.execVlkSessLimit
  repeat' first | (with_reducible assumption) | (with_reducible apply AnsKeeps.ofIte) | (with_reducible apply ResKeeps.ofIte) | (with_reducible apply ResKeeps.next) | (with_reducible apply AnsKeeps.done) | (with_reducible apply AnsKeeps.wait) | (with_reducible apply Keeps.runCmd) | (with_reducible apply AnsKeeps.fail) | (with_reducible apply AnsKeeps.okay) | (with_reducible apply Keeps.modCtx) | (with_reducible apply Keeps.ofIte) | (with_reducible apply Keeps.fold) | (with_reducible rfl) | (dsimp only) | intro _ | split | (with_reducible apply Keeps.upd) | rfl

theorem ResKeeps.execVlkSessInfo {s : State} (c : Cmd) (k : Nat) : ResKeeps s (execVlkSessInfo c k s) := by
  have h := Keeps.refl s
  unfold Sys2Proof.Machine.execVlkSessInfo
  repeat' first | (with_reducible assumption) | (with_reducible apply AnsKeeps.ofIte) | (with_reducible apply ResKeeps.ofIte) | (with_reducible apply ResKeeps.next) | (with_reducible apply AnsKeeps.done) | (with_reducible apply AnsKeeps.wait) | (with_reducible apply Keeps.runCmd) | (with_reducible apply AnsKeeps.fail) | (with_reducible apply AnsKeeps.okay) | (with_reducible apply Keeps.ofIte) | (with_reducible apply Keeps.fold) | (with_reducible rfl) | (dsimp only) | intro _ | split | (with_reducible apply Keeps.upd) | rfl

theorem ResKeeps.execVlkWeldClear {s : State} (c : Cmd) (bridged : Nat) (bay : Nat) : ResKeeps s (execVlkWeldClear c bridged bay s) := by
  have h := Keeps.refl s
  unfold Sys2Proof.Machine.execVlkWeldClear
  repeat' first | (with_reducible assumption) | (with_reducible apply AnsKeeps.ofIte) | (with_reducible apply ResKeeps.ofIte) | (with_reducible apply ResKeeps.next) | (with_reducible apply AnsKeeps.done) | (with_reducible apply AnsKeeps.wait) | (with_reducible apply Keeps.runCmd) | (with_reducible apply AnsKeeps.fail) | (with_reducible apply Keeps.modBay) | (with_reducible apply Keeps.pilotGen) | (with_reducible apply AnsKeeps.okay) | (with_reducible apply Keeps.evqEmit) | (with_reducible apply Keeps.ofIte) | (with_reducible apply Keeps.fold) | (with_reducible rfl) | (dsimp only) | intro _ | split | (with_reducible apply Keeps.upd) | rfl

theorem Keeps.evqArea {s0 s : State} (h : Keeps s0 s) (value : Word) : Keeps s0 (s.evqArea value) := by
  unfold Sys2Proof.Machine.State.evqArea
  repeat' first | (with_reducible assumption) | (with_reducible apply Keeps.ofIte) | (with_reducible apply Keeps.fold) | (with_reducible rfl) | (dsimp only) | intro _ | split | (with_reducible apply Keeps.upd) | rfl

theorem ResKeeps.execEvqBaseWrite {s : State} (value : Word) : ResKeeps s (execEvqBaseWrite value s) := by
  have h := Keeps.refl s
  unfold Sys2Proof.Machine.execEvqBaseWrite
  repeat' first | (with_reducible assumption) | (with_reducible apply ResKeeps.ofIte) | (with_reducible apply ResKeeps.next) | (with_reducible apply AnsKeeps.done) | (with_reducible apply AnsKeeps.wait) | (with_reducible apply Keeps.evqArea) | (with_reducible apply Keeps.ofIte) | (with_reducible apply Keeps.fold) | (with_reducible rfl) | (dsimp only) | intro _ | split | (with_reducible apply Keeps.upd) | rfl

theorem Keeps.evqCtrl {s0 s : State} (h : Keeps s0 s) (value : Word) : Keeps s0 (s.evqCtrl value) := by
  unfold Sys2Proof.Machine.State.evqCtrl
  repeat' first | (with_reducible assumption) | (with_reducible apply Keeps.evqDrain) | (with_reducible apply Keeps.ofIte) | (with_reducible apply Keeps.fold) | (with_reducible rfl) | (dsimp only) | intro _ | split | (with_reducible apply Keeps.upd) | rfl

theorem ResKeeps.execEvqEnable {s : State} (value : Word) : ResKeeps s (execEvqEnable value s) := by
  have h := Keeps.refl s
  unfold Sys2Proof.Machine.execEvqEnable
  repeat' first | (with_reducible assumption) | (with_reducible apply ResKeeps.ofIte) | (with_reducible apply ResKeeps.next) | (with_reducible apply AnsKeeps.done) | (with_reducible apply AnsKeeps.wait) | (with_reducible apply Keeps.evqCtrl) | (with_reducible apply Keeps.ofIte) | (with_reducible apply Keeps.fold) | (with_reducible rfl) | (dsimp only) | intro _ | split | (with_reducible apply Keeps.upd) | rfl

theorem Keeps.evqConsume {s0 s : State} (h : Keeps s0 s) (value : Word) : Keeps s0 (s.evqConsume value) := by
  unfold Sys2Proof.Machine.State.evqConsume
  repeat' first | (with_reducible assumption) | (with_reducible apply Keeps.evqDrain) | (with_reducible apply Keeps.ofIte) | (with_reducible apply Keeps.fold) | (with_reducible rfl) | (dsimp only) | intro _ | split | (with_reducible apply Keeps.upd) | rfl

theorem ResKeeps.execEvqCiWrite {s : State} (value : Word) : ResKeeps s (execEvqCiWrite value s) := by
  have h := Keeps.refl s
  unfold Sys2Proof.Machine.execEvqCiWrite
  repeat' first | (with_reducible assumption) | (with_reducible apply ResKeeps.ofIte) | (with_reducible apply ResKeeps.next) | (with_reducible apply AnsKeeps.done) | (with_reducible apply AnsKeeps.wait) | (with_reducible apply Keeps.evqConsume) | (with_reducible apply Keeps.ofIte) | (with_reducible apply Keeps.fold) | (with_reducible rfl) | (dsimp only) | intro _ | split | (with_reducible apply Keeps.upd) | rfl

/-! ### BayEv -/

theorem Keeps.pilotAct {s0 s : State} (h : Keeps s0 s) (n : Nat) (p : Pilot) : Keeps s0 (s.pilotAct n p) := by
  unfold Sys2Proof.Machine.State.pilotAct
  repeat' first | (with_reducible assumption) | (with_reducible apply Keeps.modBay) | (with_reducible apply Keeps.freeSess) | (with_reducible apply Keeps.endSess) | (with_reducible apply Keeps.plugIn) | (with_reducible apply Keeps.ofIte) | (with_reducible apply Keeps.fold) | (with_reducible rfl) | (dsimp only) | intro _ | split | (with_reducible apply Keeps.upd) | rfl

theorem ResKeeps.execPilotStateChange {s : State} (bay : Nat) (high : Int) (low : Int) (samples : Nat) : ResKeeps s (execPilotStateChange bay high low samples s) := by
  have h := Keeps.refl s
  unfold Sys2Proof.Machine.execPilotStateChange
  repeat' first | (with_reducible assumption) | (with_reducible apply ResKeeps.ofIte) | (with_reducible apply ResKeeps.next) | (with_reducible apply AnsKeeps.done) | (with_reducible apply AnsKeeps.wait) | (with_reducible apply Keeps.modBay) | (with_reducible apply Keeps.setEvt) | (with_reducible apply Keeps.setEvtIf) | (with_reducible apply Keeps.pilotAct) | (with_reducible apply Keeps.settle) | (with_reducible apply Keeps.ofIte1) | (with_reducible apply Keeps.fold1) | (with_reducible apply Keeps.ofIte2) | (with_reducible apply Keeps.fold2) | (with_reducible apply Keeps.ofIte) | (with_reducible apply Keeps.fold) | (with_reducible rfl) | (dsimp only) | intro _ | split | (with_reducible apply Keeps.upd) | rfl

theorem Keeps.manualWrite {s0 s : State} (h : Keeps s0 s) (bay : Nat) (value : Word) : Keeps s0 (s.manualWrite bay value) := by
  unfold Sys2Proof.Machine.State.manualWrite
  repeat' first | (with_reducible assumption) | (with_reducible apply Keeps.modBay) | (with_reducible apply Keeps.pilotGen) | (with_reducible apply Keeps.ofIte) | (with_reducible apply Keeps.fold) | (with_reducible rfl) | (dsimp only) | intro _ | split | (with_reducible apply Keeps.upd) | rfl

theorem ResKeeps.execPilotManualWrite {s : State} (bay : Nat) (value : Word) : ResKeeps s (execPilotManualWrite bay value s) := by
  have h := Keeps.refl s
  unfold Sys2Proof.Machine.execPilotManualWrite
  repeat' first | (with_reducible assumption) | (with_reducible apply ResKeeps.ofIte) | (with_reducible apply ResKeeps.next) | (with_reducible apply AnsKeeps.done) | (with_reducible apply AnsKeeps.wait) | (with_reducible apply Keeps.manualWrite) | (with_reducible apply Keeps.ofIte) | (with_reducible apply Keeps.fold) | (with_reducible rfl) | (dsimp only) | intro _ | split | (with_reducible apply Keeps.upd) | rfl

theorem ResKeeps.execProximityChange {s : State} (bay : Nat) (mv : Nat) : ResKeeps s (execProximityChange bay mv s) := by
  have h := Keeps.refl s
  unfold Sys2Proof.Machine.execProximityChange
  repeat' first | (with_reducible assumption) | (with_reducible apply ResKeeps.ofIte) | (with_reducible apply ResKeeps.next) | (with_reducible apply AnsKeeps.done) | (with_reducible apply AnsKeeps.wait) | (with_reducible apply Keeps.modBay) | (with_reducible apply Keeps.setEvtIf) | (with_reducible apply Keeps.ofIte1) | (with_reducible apply Keeps.fold1) | (with_reducible apply Keeps.ofIte2) | (with_reducible apply Keeps.fold2) | (with_reducible apply Keeps.ofIte) | (with_reducible apply Keeps.fold) | (with_reducible rfl) | (dsimp only) | intro _ | split | (with_reducible apply Keeps.upd) | rfl

theorem ResKeeps.execGreenphyPermitRetry {s : State} (bay : Nat) : ResKeeps s (execGreenphyPermitRetry bay s) := by
  have h := Keeps.refl s
  unfold Sys2Proof.Machine.execGreenphyPermitRetry
  repeat' first | (with_reducible assumption) | (with_reducible apply ResKeeps.ofIte) | (with_reducible apply ResKeeps.next) | (with_reducible apply AnsKeeps.done) | (with_reducible apply AnsKeeps.wait) | (with_reducible apply Keeps.authorise) | (with_reducible apply Keeps.greenAsk) | (with_reducible apply Keeps.settle) | (with_reducible apply Keeps.ofIte) | (with_reducible apply Keeps.fold) | (with_reducible rfl) | (dsimp only) | intro _ | split | (with_reducible apply Keeps.upd) | rfl

theorem ResKeeps.execLockFeedback {s : State} (bay : Nat) (locked : Bool) : ResKeeps s (execLockFeedback bay locked s) := by
  have h := Keeps.refl s
  unfold Sys2Proof.Machine.execLockFeedback
  repeat' first | (with_reducible assumption) | (with_reducible apply ResKeeps.ofIte) | (with_reducible apply ResKeeps.next) | (with_reducible apply AnsKeeps.done) | (with_reducible apply AnsKeeps.wait) | (with_reducible apply Keeps.modSin) | (with_reducible apply Keeps.modBay) | (with_reducible apply Keeps.settle) | (with_reducible apply Keeps.endSess) | (with_reducible apply Keeps.ofIte) | (with_reducible apply Keeps.fold) | (with_reducible rfl) | (dsimp only) | intro _ | split | (with_reducible apply Keeps.upd) | rfl

theorem ResKeeps.execContactorFeedback {s : State} (bay : Nat) (kon : Kon) (closed : Bool) : ResKeeps s (execContactorFeedback bay kon closed s) := by
  have h := Keeps.refl s
  unfold Sys2Proof.Machine.execContactorFeedback
  repeat' first | (with_reducible assumption) | (with_reducible apply ResKeeps.ofIte) | (with_reducible apply ResKeeps.next) | (with_reducible apply AnsKeeps.done) | (with_reducible apply AnsKeeps.wait) | (with_reducible apply Keeps.modSin) | (with_reducible apply Keeps.modBay) | (with_reducible apply Keeps.enterCharging) | (with_reducible apply Keeps.settle) | (with_reducible apply Keeps.ofIte) | (with_reducible apply Keeps.fold) | (with_reducible rfl) | (dsimp only) | intro _ | split | (with_reducible apply Keeps.upd) | rfl

theorem ResKeeps.execK1FeedbackTimeout {s : State} (k : Nat) : ResKeeps s (execK1FeedbackTimeout k s) := by
  have h := Keeps.refl s
  unfold Sys2Proof.Machine.execK1FeedbackTimeout
  repeat' first | (with_reducible assumption) | (with_reducible apply ResKeeps.ofIte) | (with_reducible apply ResKeeps.next) | (with_reducible apply AnsKeeps.done) | (with_reducible apply AnsKeeps.wait) | (with_reducible apply Keeps.endSess) | (with_reducible apply Keeps.settle) | (with_reducible apply Keeps.ofIte) | (with_reducible apply Keeps.fold) | (with_reducible rfl) | (dsimp only) | intro _ | split | (with_reducible apply Keeps.upd) | rfl

theorem ResKeeps.execPrechargeComplete {s : State} (k : Nat) : ResKeeps s (execPrechargeComplete k s) := by
  have h := Keeps.refl s
  unfold Sys2Proof.Machine.execPrechargeComplete
  repeat' first | (with_reducible assumption) | (with_reducible apply ResKeeps.ofIte) | (with_reducible apply ResKeeps.next) | (with_reducible apply AnsKeeps.done) | (with_reducible apply AnsKeeps.wait) | (with_reducible apply Keeps.modCtx) | (with_reducible apply Keeps.ofIte) | (with_reducible apply Keeps.fold) | (with_reducible rfl) | (dsimp only) | intro _ | split | (with_reducible apply Keeps.upd) | rfl

theorem ResKeeps.execWeldCheckDone {s : State} (k : Nat) (closedAt100 : Bool) : ResKeeps s (execWeldCheckDone k closedAt100 s) := by
  have h := Keeps.refl s
  unfold Sys2Proof.Machine.execWeldCheckDone
  repeat' first | (with_reducible assumption) | (with_reducible apply ResKeeps.ofIte) | (with_reducible apply ResKeeps.next) | (with_reducible apply AnsKeeps.done) | (with_reducible apply AnsKeeps.wait) | (with_reducible apply Keeps.weldDone) | (with_reducible apply Keeps.settle) | (with_reducible apply Keeps.ofIte) | (with_reducible apply Keeps.fold) | (with_reducible rfl) | (dsimp only) | intro _ | split | (with_reducible apply Keeps.upd) | rfl

theorem Keeps.timerEnd {s0 s : State} (h : Keeps s0 s) (k : Nat) (st : Sess) (r : EndReason) : Keeps s0 (s.timerEnd k st r) := by
  unfold Sys2Proof.Machine.State.timerEnd
  repeat' first | (with_reducible assumption) | (with_reducible apply Keeps.endSess) | (with_reducible apply Keeps.settle) | (with_reducible apply Keeps.ofIte) | (with_reducible apply Keeps.fold) | (with_reducible rfl) | (dsimp only) | intro _ | split | (with_reducible apply Keeps.upd) | rfl

theorem ResKeeps.execTLinkExpiry {s : State} (k : Nat) : ResKeeps s (execTLinkExpiry k s) := by
  have h := Keeps.refl s
  unfold Sys2Proof.Machine.execTLinkExpiry
  repeat' first | (with_reducible assumption) | (with_reducible apply ResKeeps.ofIte) | (with_reducible apply ResKeeps.next) | (with_reducible apply AnsKeeps.done) | (with_reducible apply AnsKeeps.wait) | (with_reducible apply Keeps.modBay) | (with_reducible apply Keeps.timerEnd) | (with_reducible apply Keeps.ofIte) | (with_reducible apply Keeps.fold) | (with_reducible rfl) | (dsimp only) | intro _ | split | (with_reducible apply Keeps.upd) | rfl

theorem ResKeeps.execTNegExpiry {s : State} (k : Nat) : ResKeeps s (execTNegExpiry k s) := by
  have h := Keeps.refl s
  unfold Sys2Proof.Machine.execTNegExpiry
  repeat' first | (with_reducible assumption) | (with_reducible apply ResKeeps.ofIte) | (with_reducible apply ResKeeps.next) | (with_reducible apply AnsKeeps.done) | (with_reducible apply AnsKeeps.wait) | (with_reducible apply Keeps.timerEnd) | (with_reducible apply Keeps.ofIte) | (with_reducible apply Keeps.fold) | (with_reducible rfl) | (dsimp only) | intro _ | split | (with_reducible apply Keeps.upd) | rfl

theorem ResKeeps.execTAuthExpiry {s : State} (k : Nat) : ResKeeps s (execTAuthExpiry k s) := by
  have h := Keeps.refl s
  unfold Sys2Proof.Machine.execTAuthExpiry
  repeat' first | (with_reducible assumption) | (with_reducible apply ResKeeps.ofIte) | (with_reducible apply ResKeeps.next) | (with_reducible apply AnsKeeps.done) | (with_reducible apply AnsKeeps.wait) | (with_reducible apply Keeps.timerEnd) | (with_reducible apply Keeps.authorise) | (with_reducible apply Keeps.ofIte) | (with_reducible apply Keeps.fold) | (with_reducible rfl) | (dsimp only) | intro _ | split | (with_reducible apply Keeps.upd) | rfl

theorem ResKeeps.execTLockExpiry {s : State} (k : Nat) : ResKeeps s (execTLockExpiry k s) := by
  have h := Keeps.refl s
  unfold Sys2Proof.Machine.execTLockExpiry
  repeat' first | (with_reducible assumption) | (with_reducible apply ResKeeps.ofIte) | (with_reducible apply ResKeeps.next) | (with_reducible apply AnsKeeps.done) | (with_reducible apply AnsKeeps.wait) | (with_reducible apply Keeps.timerEnd) | (with_reducible apply Keeps.ofIte) | (with_reducible apply Keeps.fold) | (with_reducible rfl) | (dsimp only) | intro _ | split | (with_reducible apply Keeps.upd) | rfl

theorem ResKeeps.execTCableExpiry {s : State} (k : Nat) : ResKeeps s (execTCableExpiry k s) := by
  have h := Keeps.refl s
  unfold Sys2Proof.Machine.execTCableExpiry
  repeat' first | (with_reducible assumption) | (with_reducible apply ResKeeps.ofIte) | (with_reducible apply ResKeeps.next) | (with_reducible apply AnsKeeps.done) | (with_reducible apply AnsKeeps.wait) | (with_reducible apply Keeps.timerEnd) | (with_reducible apply Keeps.ofIte) | (with_reducible apply Keeps.fold) | (with_reducible rfl) | (dsimp only) | intro _ | split | (with_reducible apply Keeps.upd) | rfl

theorem ResKeeps.execTPreExpiry {s : State} (k : Nat) : ResKeeps s (execTPreExpiry k s) := by
  have h := Keeps.refl s
  unfold Sys2Proof.Machine.execTPreExpiry
  repeat' first | (with_reducible assumption) | (with_reducible apply ResKeeps.ofIte) | (with_reducible apply ResKeeps.next) | (with_reducible apply AnsKeeps.done) | (with_reducible apply AnsKeeps.wait) | (with_reducible apply Keeps.timerEnd) | (with_reducible apply Keeps.ofIte) | (with_reducible apply Keeps.fold) | (with_reducible rfl) | (dsimp only) | intro _ | split | (with_reducible apply Keeps.upd) | rfl

theorem ResKeeps.execTPdwaitExpiry {s : State} (k : Nat) : ResKeeps s (execTPdwaitExpiry k s) := by
  have h := Keeps.refl s
  unfold Sys2Proof.Machine.execTPdwaitExpiry
  repeat' first | (with_reducible assumption) | (with_reducible apply ResKeeps.ofIte) | (with_reducible apply ResKeeps.next) | (with_reducible apply AnsKeeps.done) | (with_reducible apply AnsKeeps.wait) | (with_reducible apply Keeps.timerEnd) | (with_reducible apply Keeps.ofIte) | (with_reducible apply Keeps.fold) | (with_reducible rfl) | (dsimp only) | intro _ | split | (with_reducible apply Keeps.upd) | rfl

theorem ResKeeps.execTRenegExpiry {s : State} (k : Nat) : ResKeeps s (execTRenegExpiry k s) := by
  have h := Keeps.refl s
  unfold Sys2Proof.Machine.execTRenegExpiry
  repeat' first | (with_reducible assumption) | (with_reducible apply ResKeeps.ofIte) | (with_reducible apply ResKeeps.next) | (with_reducible apply AnsKeeps.done) | (with_reducible apply AnsKeeps.wait) | (with_reducible apply Keeps.timerEnd) | (with_reducible apply Keeps.ofIte) | (with_reducible apply Keeps.fold) | (with_reducible rfl) | (dsimp only) | intro _ | split | (with_reducible apply Keeps.upd) | rfl

theorem ResKeeps.execTStopExpiry {s : State} (k : Nat) : ResKeeps s (execTStopExpiry k s) := by
  have h := Keeps.refl s
  unfold Sys2Proof.Machine.execTStopExpiry
  repeat' first | (with_reducible assumption) | (with_reducible apply ResKeeps.ofIte) | (with_reducible apply ResKeeps.next) | (with_reducible apply AnsKeeps.done) | (with_reducible apply AnsKeeps.wait) | (with_reducible apply Keeps.toOpening) | (with_reducible apply Keeps.settle) | (with_reducible apply Keeps.ofIte) | (with_reducible apply Keeps.fold) | (with_reducible rfl) | (dsimp only) | intro _ | split | (with_reducible apply Keeps.upd) | rfl

theorem ResKeeps.execDurationLimitExpiry {s : State} (k : Nat) : ResKeeps s (execDurationLimitExpiry k s) := by
  have h := Keeps.refl s
  unfold Sys2Proof.Machine.execDurationLimitExpiry
  repeat' first | (with_reducible assumption) | (with_reducible apply ResKeeps.ofIte) | (with_reducible apply ResKeeps.next) | (with_reducible apply AnsKeeps.done) | (with_reducible apply AnsKeeps.wait) | (with_reducible apply Keeps.endSess) | (with_reducible apply Keeps.settle) | (with_reducible apply Keeps.ofIte) | (with_reducible apply Keeps.fold) | (with_reducible rfl) | (dsimp only) | intro _ | split | (with_reducible apply Keeps.upd) | rfl

theorem ResKeeps.execUnplugWaitExpiry {s : State} (k : Nat) : ResKeeps s (execUnplugWaitExpiry k s) := by
  have h := Keeps.refl s
  unfold Sys2Proof.Machine.execUnplugWaitExpiry
  repeat' first | (with_reducible assumption) | (with_reducible apply ResKeeps.ofIte) | (with_reducible apply ResKeeps.next) | (with_reducible apply AnsKeeps.done) | (with_reducible apply AnsKeeps.wait) | (with_reducible apply Keeps.freeSess) | (with_reducible apply Keeps.settle) | (with_reducible apply Keeps.ofIte) | (with_reducible apply Keeps.fold) | (with_reducible rfl) | (dsimp only) | intro _ | split | (with_reducible apply Keeps.upd) | rfl

end Sys2Proof.Machine
end

