-- ==== Sys2Proof/Laws/KeepsShare.lean ====
section
/-! SUPPORT. What every function keeps (`Keeps`): Yarder, vehicle link, network, Blaze, Scaler and IMD. -/
namespace Sys2Proof.Machine

/-! ### Modules -/

theorem Keeps.modFault {s0 s : State} (h : Keeps s0 s) (n : Nat) : Keeps s0 (s.modFault n) := by
  unfold Sys2Proof.Machine.State.modFault
  repeat' first | (with_reducible assumption) | (with_reducible apply Keeps.modNode) | (with_reducible apply Keeps.setEvt) | (with_reducible apply Keeps.ofIte) | (with_reducible apply Keeps.fold) | (with_reducible rfl) | (dsimp only) | intro _ | split | (with_reducible apply Keeps.upd) | rfl

theorem Keeps.modStart {s0 s : State} (h : Keeps s0 s) (amps : Tab Nat) (n : Nat) : Keeps s0 (s.modStart amps n) := by
  unfold Sys2Proof.Machine.State.modStart
  repeat' first | (with_reducible assumption) | (with_reducible apply Keeps.modFault) | (with_reducible apply Keeps.modNode) | (with_reducible apply Keeps.ofIte) | (with_reducible apply Keeps.fold) | (with_reducible rfl) | (dsimp only) | intro _ | split | (with_reducible apply Keeps.upd) | rfl

theorem Keeps.modRelease {s0 s : State} (h : Keeps s0 s) (n : Nat) : Keeps s0 (s.modRelease n) := by
  unfold Sys2Proof.Machine.State.modRelease
  repeat' first | (with_reducible assumption) | (with_reducible apply Keeps.modNode) | (with_reducible apply Keeps.ofIte) | (with_reducible apply Keeps.fold) | (with_reducible rfl) | (dsimp only) | intro _ | split | (with_reducible apply Keeps.upd) | rfl

theorem Keeps.excessOut {s0 s : State} (h : Keeps s0 s) (w : Want) : Keeps s0 (s.excessOut w) := by
  unfold Sys2Proof.Machine.State.excessOut
  repeat' first | (with_reducible assumption) | (with_reducible apply Keeps.modRelease) | (with_reducible apply Keeps.modNode) | (with_reducible apply Keeps.ofIte) | (with_reducible apply Keeps.fold) | (with_reducible rfl) | (dsimp only) | intro _ | split | (with_reducible apply Keeps.upd) | rfl

theorem Keeps.serve {s0 : State} (all : List Want) (w : Want) (n : Nat) {x : State × List Nat} (h : Keeps s0 x.1) :
    Keeps s0 (State.serve all w n x).1 := by
  induction n generalizing x with
  | zero => exact h
  | succ n ih =>
    unfold State.serve
    dsimp only
    split
    · apply ih; dsimp only; apply Keeps.modNode; exact h
    · split
      · apply ih; exact h
      · split
        · apply ih; dsimp only; apply Keeps.modRelease; exact h
        · exact h

theorem Keeps.assign {s0 s : State} (h : Keeps s0 s) (dt : Rat) : Keeps s0 (s.assign dt) := by
  unfold State.assign
  exact .fold1 (.fold h (fun _ _ ht => ht.excessOut _)) (fun _ _ hy => .serve _ _ _ hy)

/-! ### YarderCmd -/

theorem Keeps.outSend {s0 s : State} (h : Keeps s0 s) (cycle : Word) (n : Nat) : Keeps s0 (s.outSend cycle n) := by
  unfold Sys2Proof.Machine.State.outSend
  repeat' first | (with_reducible assumption) | (with_reducible apply Keeps.modCtx) | (with_reducible apply Keeps.hingeSend) | (with_reducible apply Keeps.ofIte) | (with_reducible apply Keeps.fold) | (with_reducible rfl) | (dsimp only) | intro _ | split | (with_reducible apply Keeps.upd) | rfl

theorem Keeps.modSend {s0 s : State} (h : Keeps s0 s) (old : State) (cycle : Word) (n : Nat) : Keeps s0 (s.modSend old cycle n) := by
  unfold Sys2Proof.Machine.State.modSend
  repeat' first | (with_reducible assumption) | (with_reducible apply Keeps.hingeSend) | (with_reducible apply Keeps.ofIte) | (with_reducible apply Keeps.fold) | (with_reducible rfl) | (dsimp only) | intro _ | split | (with_reducible apply Keeps.upd) | rfl

theorem Keeps.yCycle {s0 s : State} (h : Keeps s0 s) (amps : Tab Nat) (us : Nat) : Keeps s0 (s.yCycle amps us) := by
  unfold Sys2Proof.Machine.State.yCycle
  repeat' first | (with_reducible assumption) | (with_reducible apply Keeps.modStart) | (with_reducible apply Keeps.assign) | (with_reducible apply Keeps.setEvtIf) | (with_reducible apply Keeps.outSend) | (with_reducible apply Keeps.modSend) | (with_reducible apply Keeps.send) | (with_reducible apply Keeps.ofIte2) | (with_reducible apply Keeps.fold2) | (with_reducible apply Keeps.ofIte) | (with_reducible apply Keeps.fold) | (with_reducible rfl) | (dsimp only) | intro _ | split | (with_reducible apply Keeps.upd) | rfl

theorem ResKeeps.execYarderCycle {s : State} (moduleAmps : Tab Nat) (us : Nat) : ResKeeps s (execYarderCycle moduleAmps us s) := by
  have h := Keeps.refl s
  unfold Sys2Proof.Machine.execYarderCycle
  repeat' first | (with_reducible assumption) | (with_reducible apply ResKeeps.ofIte) | (with_reducible apply ResKeeps.next) | (with_reducible apply AnsKeeps.done) | (with_reducible apply AnsKeeps.wait) | (with_reducible apply Keeps.yCycle) | (with_reducible apply Keeps.ofIte) | (with_reducible apply Keeps.fold) | (with_reducible rfl) | (dsimp only) | intro _ | split | (with_reducible apply Keeps.upd) | rfl

theorem ResKeeps.execMatrixSwitchDone {s : State} (node : Nat) : ResKeeps s (execMatrixSwitchDone node s) := by
  have h := Keeps.refl s
  unfold Sys2Proof.Machine.execMatrixSwitchDone
  repeat' first | (with_reducible assumption) | (with_reducible apply ResKeeps.ofIte) | (with_reducible apply ResKeeps.next) | (with_reducible apply AnsKeeps.done) | (with_reducible apply AnsKeeps.wait) | (with_reducible apply Keeps.modNode) | (with_reducible apply Keeps.ofIte) | (with_reducible apply Keeps.fold) | (with_reducible rfl) | (dsimp only) | intro _ | split | (with_reducible apply Keeps.upd) | rfl

theorem ResKeeps.execModuleReleaseTimeout {s : State} (node : Nat) : ResKeeps s (execModuleReleaseTimeout node s) := by
  have h := Keeps.refl s
  unfold Sys2Proof.Machine.execModuleReleaseTimeout
  repeat' first | (with_reducible assumption) | (with_reducible apply ResKeeps.ofIte) | (with_reducible apply ResKeeps.next) | (with_reducible apply AnsKeeps.done) | (with_reducible apply AnsKeeps.wait) | (with_reducible apply Keeps.modFault) | (with_reducible apply Keeps.ofIte) | (with_reducible apply Keeps.fold) | (with_reducible rfl) | (dsimp only) | intro _ | split | (with_reducible apply Keeps.upd) | rfl

theorem ResKeeps.execModuleExcessRelease {s : State} (node : Nat) : ResKeeps s (execModuleExcessRelease node s) := by
  have h := Keeps.refl s
  unfold Sys2Proof.Machine.execModuleExcessRelease
  repeat' first | (with_reducible assumption) | (with_reducible apply ResKeeps.ofIte) | (with_reducible apply ResKeeps.next) | (with_reducible apply AnsKeeps.done) | (with_reducible apply AnsKeeps.wait) | (with_reducible apply Keeps.modNode) | (with_reducible apply Keeps.ofIte) | (with_reducible apply Keeps.fold) | (with_reducible rfl) | (dsimp only) | intro _ | split | (with_reducible apply Keeps.upd) | rfl

theorem ResKeeps.execRequestPeriodic {s : State} : ResKeeps s (execRequestPeriodic s) := by
  have h := Keeps.refl s
  unfold Sys2Proof.Machine.execRequestPeriodic
  repeat' first | (with_reducible assumption) | (with_reducible apply ResKeeps.ofIte) | (with_reducible apply ResKeeps.next) | (with_reducible apply AnsKeeps.done) | (with_reducible apply AnsKeeps.wait) | (with_reducible apply Keeps.hingeSend) | (with_reducible apply Keeps.ofIte) | (with_reducible apply Keeps.fold) | (with_reducible rfl) | (dsimp only) | intro _ | split | (with_reducible apply Keeps.upd) | rfl

theorem Keeps.requestNow {s0 s : State} (h : Keeps s0 s) (old : State) (k : Nat) : Keeps s0 (s.requestNow old k) := by
  unfold Sys2Proof.Machine.State.requestNow
  repeat' first | (with_reducible assumption) | (with_reducible apply Keeps.hingeSend) | (with_reducible apply Keeps.ofIte) | (with_reducible apply Keeps.fold) | (with_reducible rfl) | (dsimp only) | intro _ | split | (with_reducible apply Keeps.upd) | rfl

theorem Keeps.clientStop {s0 s : State} (h : Keeps s0 s) : Keeps s0 (s.clientStop) := by
  unfold Sys2Proof.Machine.State.clientStop
  repeat' first | (with_reducible assumption) | (with_reducible apply Keeps.endSess) | (with_reducible apply Keeps.ofIte) | (with_reducible apply Keeps.fold) | (with_reducible rfl) | (dsimp only) | intro _ | split | (with_reducible apply Keeps.upd) | rfl

theorem Keeps.rampTick {s0 s : State} (h : Keeps s0 s) (k : Nat) : Keeps s0 (s.rampTick k) := by
  unfold Sys2Proof.Machine.State.rampTick
  repeat' first | (with_reducible assumption) | (with_reducible apply Keeps.modCtx) | (with_reducible apply Keeps.ofIte1) | (with_reducible apply Keeps.fold1) | (with_reducible apply Keeps.ofIte2) | (with_reducible apply Keeps.fold2) | (with_reducible apply Keeps.ofIte) | (with_reducible apply Keeps.fold) | (with_reducible rfl) | (dsimp only) | intro _ | split | (with_reducible apply Keeps.upd) | rfl

theorem Keeps.tickRamps {s0 s : State} (h : Keeps s0 s) : Keeps s0 (s.tickRamps) := by
  unfold Sys2Proof.Machine.State.tickRamps
  repeat' first | (with_reducible assumption) | (with_reducible apply Keeps.rampTick) | (with_reducible apply Keeps.ofIte) | (with_reducible apply Keeps.fold) | (with_reducible rfl) | (dsimp only) | intro _ | split | (with_reducible apply Keeps.upd) | rfl

theorem ResKeeps.execClientHoldExpiry {s : State} : ResKeeps s (execClientHoldExpiry s) := by
  have h := Keeps.refl s
  unfold Sys2Proof.Machine.execClientHoldExpiry
  repeat' first | (with_reducible assumption) | (with_reducible apply ResKeeps.ofIte) | (with_reducible apply ResKeeps.next) | (with_reducible apply AnsKeeps.done) | (with_reducible apply AnsKeeps.wait) | (with_reducible apply Keeps.clientStop) | (with_reducible apply Keeps.settle) | (with_reducible apply Keeps.ofIte) | (with_reducible apply Keeps.fold) | (with_reducible rfl) | (dsimp only) | intro _ | split | (with_reducible apply Keeps.upd) | rfl

theorem ResKeeps.execClientLossHoldExpiry {s : State} (node : Nat) : ResKeeps s (execClientLossHoldExpiry node s) := by
  have h := Keeps.refl s
  unfold Sys2Proof.Machine.execClientLossHoldExpiry
  repeat' first | (with_reducible assumption) | (with_reducible apply ResKeeps.ofIte) | (with_reducible apply ResKeeps.next) | (with_reducible apply AnsKeeps.done) | (with_reducible apply AnsKeeps.wait) | (with_reducible apply Keeps.modNode) | (with_reducible apply Keeps.ofIte) | (with_reducible apply Keeps.fold) | (with_reducible rfl) | (dsimp only) | intro _ | split | (with_reducible apply Keeps.upd) | rfl

theorem Keeps.runYrd {s0 s : State} (h : Keeps s0 s) (c : Cmd) (opcode : Nat) (node : Nat) (body : State → Answer) (hb : ∀ u, Keeps s0 u → AnsKeeps s0 (body u)) : Keeps s0 (s.runYrd c opcode node body) := by
  unfold Sys2Proof.Machine.State.runYrd
  repeat' first | (with_reducible assumption) | (with_reducible apply hb) | (with_reducible apply AnsKeeps.ofIte) | (with_reducible apply Keeps.runCmd) | (with_reducible apply AnsKeeps.fail) | (with_reducible apply Keeps.ofIte) | (with_reducible apply Keeps.fold) | (with_reducible rfl) | (dsimp only) | intro _ | split | (with_reducible apply Keeps.upd) | rfl

theorem ResKeeps.execYrdNodeRead {s : State} (c : Cmd) (node : Nat) : ResKeeps s (execYrdNodeRead c node s) := by
  have h := Keeps.refl s
  unfold Sys2Proof.Machine.execYrdNodeRead
  repeat' first | (with_reducible assumption) | (with_reducible apply AnsKeeps.ofIte) | (with_reducible apply ResKeeps.ofIte) | (with_reducible apply ResKeeps.next) | (with_reducible apply AnsKeeps.done) | (with_reducible apply AnsKeeps.wait) | (with_reducible apply Keeps.runYrd) | (with_reducible apply AnsKeeps.okay) | (with_reducible apply Keeps.ofIte) | (with_reducible apply Keeps.fold) | (with_reducible rfl) | (dsimp only) | intro _ | split | (with_reducible apply Keeps.upd) | rfl

theorem ResKeeps.execYrdLimitSet {s : State} (c : Cmd) (node : Nat) (limit : Word) : ResKeeps s (execYrdLimitSet c node limit s) := by
  have h := Keeps.refl s
  unfold Sys2Proof.Machine.execYrdLimitSet
  repeat' first | (with_reducible assumption) | (with_reducible apply AnsKeeps.ofIte) | (with_reducible apply ResKeeps.ofIte) | (with_reducible apply ResKeeps.next) | (with_reducible apply AnsKeeps.done) | (with_reducible apply AnsKeeps.wait) | (with_reducible apply Keeps.runYrd) | (with_reducible apply AnsKeeps.fail) | (with_reducible apply AnsKeeps.okay) | (with_reducible apply Keeps.modNode) | (with_reducible apply Keeps.ofIte) | (with_reducible apply Keeps.fold) | (with_reducible rfl) | (dsimp only) | intro _ | split | (with_reducible apply Keeps.upd) | rfl

theorem ResKeeps.execYrdClassSet {s : State} (c : Cmd) (node : Nat) (cls : Nat) (gMin : Nat) : ResKeeps s (execYrdClassSet c node cls gMin s) := by
  have h := Keeps.refl s
  unfold Sys2Proof.Machine.execYrdClassSet
  repeat' first | (with_reducible assumption) | (with_reducible apply AnsKeeps.ofIte) | (with_reducible apply ResKeeps.ofIte) | (with_reducible apply ResKeeps.next) | (with_reducible apply AnsKeeps.done) | (with_reducible apply AnsKeeps.wait) | (with_reducible apply Keeps.runYrd) | (with_reducible apply AnsKeeps.fail) | (with_reducible apply AnsKeeps.okay) | (with_reducible apply Keeps.modNode) | (with_reducible apply Keeps.ofIte) | (with_reducible apply Keeps.fold) | (with_reducible rfl) | (dsimp only) | intro _ | split | (with_reducible apply Keeps.upd) | rfl

theorem ResKeeps.execYrdStorageSet {s : State} (c : Cmd) (node : Nat) (mode : Nat) (socTgt : Nat) (setpoint : Int) : ResKeeps s (execYrdStorageSet c node mode socTgt setpoint s) := by
  have h := Keeps.refl s
  unfold Sys2Proof.Machine.execYrdStorageSet
  repeat' first | (with_reducible assumption) | (with_reducible apply AnsKeeps.ofIte) | (with_reducible apply ResKeeps.ofIte) | (with_reducible apply ResKeeps.next) | (with_reducible apply AnsKeeps.done) | (with_reducible apply AnsKeeps.wait) | (with_reducible apply Keeps.runYrd) | (with_reducible apply AnsKeeps.fail) | (with_reducible apply AnsKeeps.okay) | (with_reducible apply Keeps.modNode) | (with_reducible apply Keeps.ofIte) | (with_reducible apply Keeps.fold) | (with_reducible rfl) | (dsimp only) | intro _ | split | (with_reducible apply Keeps.upd) | rfl

theorem ResKeeps.execYrdExportSet {s : State} (c : Cmd) (node : Nat) (watts : Nat) : ResKeeps s (execYrdExportSet c node watts s) := by
  have h := Keeps.refl s
  unfold Sys2Proof.Machine.execYrdExportSet
  repeat' first | (with_reducible assumption) | (with_reducible apply AnsKeeps.ofIte) | (with_reducible apply ResKeeps.ofIte) | (with_reducible apply ResKeeps.next) | (with_reducible apply AnsKeeps.done) | (with_reducible apply AnsKeeps.wait) | (with_reducible apply Keeps.runYrd) | (with_reducible apply AnsKeeps.fail) | (with_reducible apply AnsKeeps.okay) | (with_reducible apply Keeps.modNode) | (with_reducible apply Keeps.ofIte) | (with_reducible apply Keeps.fold) | (with_reducible rfl) | (dsimp only) | intro _ | split | (with_reducible apply Keeps.upd) | rfl

theorem ResKeeps.execYrdModuleService {s : State} (c : Cmd) (node : Nat) (inService : Nat) : ResKeeps s (execYrdModuleService c node inService s) := by
  have h := Keeps.refl s
  unfold Sys2Proof.Machine.execYrdModuleService
  repeat' first | (with_reducible assumption) | (with_reducible apply AnsKeeps.ofIte) | (with_reducible apply ResKeeps.ofIte) | (with_reducible apply ResKeeps.next) | (with_reducible apply AnsKeeps.done) | (with_reducible apply AnsKeeps.wait) | (with_reducible apply Keeps.runYrd) | (with_reducible apply AnsKeeps.fail) | (with_reducible apply AnsKeeps.okay) | (with_reducible apply Keeps.modNode) | (with_reducible apply Keeps.ofIte) | (with_reducible apply Keeps.fold) | (with_reducible rfl) | (dsimp only) | intro _ | split | (with_reducible apply Keeps.upd) | rfl

theorem ResKeeps.execYrdSnapshot {s : State} (c : Cmd) (dst : Nat) : ResKeeps s (execYrdSnapshot c dst s) := by
  have h := Keeps.refl s
  unfold Sys2Proof.Machine.execYrdSnapshot
  repeat' first | (with_reducible assumption) | (with_reducible apply AnsKeeps.ofIte) | (with_reducible apply ResKeeps.ofIte) | (with_reducible apply ResKeeps.next) | (with_reducible apply AnsKeeps.done) | (with_reducible apply AnsKeeps.wait) | (with_reducible apply Keeps.runYrd) | (with_reducible apply AnsKeeps.fail) | (with_reducible apply AnsKeeps.okay) | (with_reducible apply Keeps.writeGen) | (with_reducible apply Keeps.ofIte) | (with_reducible apply Keeps.fold) | (with_reducible rfl) | (dsimp only) | intro _ | split | (with_reducible apply Keeps.upd) | rfl

/-! ### V2gEv -/

theorem ResKeeps.execLinkUp {s : State} (k : Nat) (mac : Nat) : ResKeeps s (execLinkUp k mac s) := by
  have h := Keeps.refl s
  unfold Sys2Proof.Machine.execLinkUp
  repeat' first | (with_reducible assumption) | (with_reducible apply ResKeeps.ofIte) | (with_reducible apply ResKeeps.next) | (with_reducible apply AnsKeeps.done) | (with_reducible apply AnsKeeps.wait) | (with_reducible apply Keeps.modCtx) | (with_reducible apply Keeps.linkIsUp) | (with_reducible apply Keeps.settle) | (with_reducible apply Keeps.modBay) | (with_reducible apply Keeps.ofIte) | (with_reducible apply Keeps.fold) | (with_reducible rfl) | (dsimp only) | intro _ | split | (with_reducible apply Keeps.upd) | rfl

theorem Keeps.linkLost {s0 s : State} (h : Keeps s0 s) (k : Nat) : Keeps s0 (s.linkLost k) := by
  unfold Sys2Proof.Machine.State.linkLost
  repeat' first | (with_reducible assumption) | (with_reducible apply Keeps.modCtx) | (with_reducible apply Keeps.freeSess) | (with_reducible apply Keeps.settle) | (with_reducible apply Keeps.ofIte) | (with_reducible apply Keeps.fold) | (with_reducible rfl) | (dsimp only) | intro _ | split | (with_reducible apply Keeps.upd) | rfl

theorem ResKeeps.execLinkLoss {s : State} (k : Nat) : ResKeeps s (execLinkLoss k s) := by
  have h := Keeps.refl s
  unfold Sys2Proof.Machine.execLinkLoss
  repeat' first | (with_reducible assumption) | (with_reducible apply ResKeeps.ofIte) | (with_reducible apply ResKeeps.next) | (with_reducible apply AnsKeeps.done) | (with_reducible apply AnsKeeps.wait) | (with_reducible apply Keeps.linkLost) | (with_reducible apply Keeps.ofIte) | (with_reducible apply Keeps.fold) | (with_reducible rfl) | (dsimp only) | intro _ | split | (with_reducible apply Keeps.upd) | rfl

theorem Keeps.sdpAnswer {s0 s : State} (h : Keeps s0 s) (k : Nat) (tls : Bool) : Keeps s0 (s.sdpAnswer k tls) := by
  unfold Sys2Proof.Machine.State.sdpAnswer
  repeat' first | (with_reducible assumption) | (with_reducible apply Keeps.tunSend) | (with_reducible apply Keeps.send) | (with_reducible apply Keeps.ofIte) | (with_reducible apply Keeps.fold) | (with_reducible rfl) | (dsimp only) | intro _ | split | (with_reducible apply Keeps.upd) | rfl

theorem ResKeeps.execSdpRequest {s : State} (k : Nat) (tls : Bool) : ResKeeps s (execSdpRequest k tls s) := by
  have h := Keeps.refl s
  unfold Sys2Proof.Machine.execSdpRequest
  repeat' first | (with_reducible assumption) | (with_reducible apply ResKeeps.ofIte) | (with_reducible apply ResKeeps.next) | (with_reducible apply AnsKeeps.done) | (with_reducible apply AnsKeeps.wait) | (with_reducible apply Keeps.modCtx) | (with_reducible apply Keeps.sdpAnswer) | (with_reducible apply Keeps.ofIte) | (with_reducible apply Keeps.fold) | (with_reducible rfl) | (dsimp only) | intro _ | split | (with_reducible apply Keeps.upd) | rfl

theorem ResKeeps.execTcpConnect {s : State} (k : Nat) : ResKeeps s (execTcpConnect k s) := by
  have h := Keeps.refl s
  unfold Sys2Proof.Machine.execTcpConnect
  repeat' first | (with_reducible assumption) | (with_reducible apply ResKeeps.ofIte) | (with_reducible apply ResKeeps.next) | (with_reducible apply AnsKeeps.done) | (with_reducible apply AnsKeeps.wait) | (with_reducible apply Keeps.dropKeys) | (with_reducible apply Keeps.modCtx) | (with_reducible apply Keeps.ofIte) | (with_reducible apply Keeps.fold) | (with_reducible rfl) | (dsimp only) | intro _ | split | (with_reducible apply Keeps.upd) | rfl

theorem Keeps.takeSlot {s0 s : State} (h : Keeps s0 s) (k : Nat) : Keeps s0 (s.takeSlot k) := by
  unfold Sys2Proof.Machine.State.takeSlot
  repeat' first | (with_reducible assumption) | (with_reducible apply Keeps.draw) | (with_reducible apply Keeps.setSlot) | (with_reducible apply Keeps.modCtx) | (with_reducible apply Keeps.ofIte1) | (with_reducible apply Keeps.fold1) | (with_reducible apply Keeps.ofIte2) | (with_reducible apply Keeps.fold2) | (with_reducible apply Keeps.ofIte) | (with_reducible apply Keeps.fold) | (with_reducible rfl) | (dsimp only) | intro _ | split | (with_reducible apply Keeps.upd) | rfl

theorem Keeps.dropSlot {s0 s : State} (h : Keeps s0 s) (k : Nat) : Keeps s0 (s.dropSlot k) := by
  unfold Sys2Proof.Machine.State.dropSlot
  repeat' first | (with_reducible assumption) | (with_reducible apply Keeps.setSlot) | (with_reducible apply Keeps.modCtx) | (with_reducible apply Keeps.ofIte) | (with_reducible apply Keeps.fold) | (with_reducible rfl) | (dsimp only) | intro _ | split | (with_reducible apply Keeps.upd) | rfl

theorem Keeps.handFails {s0 s : State} (h : Keeps s0 s) (k : Nat) : Keeps s0 (s.handFails k) := by
  unfold Sys2Proof.Machine.State.handFails
  repeat' first | (with_reducible assumption) | (with_reducible apply Keeps.takeSlot) | (with_reducible apply Keeps.dropSlot) | (with_reducible apply Keeps.ofIte) | (with_reducible apply Keeps.fold) | (with_reducible rfl) | (dsimp only) | intro _ | split | (with_reducible apply Keeps.upd) | rfl

theorem ResKeeps.execTlsHandshake {s : State} (k : Nat) (h : TlsOffer) : ResKeeps s (execTlsHandshake k h s) := by
  have h := Keeps.refl s
  unfold Sys2Proof.Machine.execTlsHandshake
  repeat' first | (with_reducible assumption) | (with_reducible apply ResKeeps.ofIte) | (with_reducible apply ResKeeps.next) | (with_reducible apply AnsKeeps.done) | (with_reducible apply AnsKeeps.wait) | (with_reducible apply Keeps.takeSlot) | (with_reducible apply Keeps.dropSlot) | (with_reducible apply Keeps.modCtx) | (with_reducible apply Keeps.handFails) | (with_reducible apply Keeps.ofIte) | (with_reducible apply Keeps.fold) | (with_reducible rfl) | (dsimp only) | intro _ | split | (with_reducible apply Keeps.upd) | rfl

theorem Keeps.outOfSeq {s0 s : State} (h : Keeps s0 s) (k : Nat) : Keeps s0 (s.outOfSeq k) := by
  unfold Sys2Proof.Machine.State.outOfSeq
  repeat' first | (with_reducible assumption) | (with_reducible apply Keeps.answerEv) | (with_reducible apply Keeps.ofIte) | (with_reducible apply Keeps.fold) | (with_reducible rfl) | (dsimp only) | intro _ | split | (with_reducible apply Keeps.upd) | rfl

theorem Keeps.undecoded {s0 s : State} (h : Keeps s0 s) (k : Nat) : Keeps s0 (s.undecoded k) := by
  unfold Sys2Proof.Machine.State.undecoded
  repeat' first | (with_reducible assumption) | (with_reducible apply Keeps.endSess) | (with_reducible apply Keeps.ofIte) | (with_reducible apply Keeps.fold) | (with_reducible rfl) | (dsimp only) | intro _ | split | (with_reducible apply Keeps.upd) | rfl

theorem Keeps.recordRx {s0 s : State} (h : Keeps s0 s) (k : Nat) : Keeps s0 (s.recordRx k) := by
  unfold Sys2Proof.Machine.State.recordRx
  repeat' first | (with_reducible assumption) | (with_reducible apply Keeps.modCtx) | (with_reducible apply Keeps.ofIte) | (with_reducible apply Keeps.fold) | (with_reducible rfl) | (dsimp only) | intro _ | split | (with_reducible apply Keeps.upd) | rfl

theorem Keeps.appProtocol {s0 s : State} (h : Keeps s0 s) (k : Nat) (list : List SapEntry) : Keeps s0 (s.appProtocol k list) := by
  unfold Sys2Proof.Machine.State.appProtocol
  repeat' first | (with_reducible assumption) | (with_reducible apply Keeps.outOfSeq) | (with_reducible apply Keeps.modCtx) | (with_reducible apply Keeps.answerEv) | (with_reducible apply Keeps.endSess) | (with_reducible apply Keeps.ofIte) | (with_reducible apply Keeps.fold) | (with_reducible rfl) | (dsimp only) | intro _ | split | (with_reducible apply Keeps.upd) | rfl

theorem ResKeeps.execSupportedAppProtocolReq {s : State} (k : Nat) (len : Nat) (list : List SapEntry) : ResKeeps s (execSupportedAppProtocolReq k len list s) := by
  have h := Keeps.refl s
  unfold Sys2Proof.Machine.execSupportedAppProtocolReq
  repeat' first | (with_reducible assumption) | (with_reducible apply ResKeeps.ofIte) | (with_reducible apply ResKeeps.next) | (with_reducible apply AnsKeeps.done) | (with_reducible apply AnsKeeps.wait) | (with_reducible apply Keeps.recordRx) | (with_reducible apply Keeps.undecoded) | (with_reducible apply Keeps.settle) | (with_reducible apply Keeps.appProtocol) | (with_reducible apply Keeps.ofIte) | (with_reducible apply Keeps.fold) | (with_reducible rfl) | (dsimp only) | intro _ | split | (with_reducible apply Keeps.upd) | rfl

theorem Keeps.evStops {s0 s : State} (h : Keeps s0 s) (k : Nat) : Keeps s0 (s.evStops k) := by
  unfold Sys2Proof.Machine.State.evStops
  repeat' first | (with_reducible assumption) | (with_reducible apply Keeps.answerEv) | (with_reducible apply Keeps.endSess) | (with_reducible apply Keeps.outOfSeq) | (with_reducible apply Keeps.ofIte) | (with_reducible apply Keeps.fold) | (with_reducible rfl) | (dsimp only) | intro _ | split | (with_reducible apply Keeps.upd) | rfl

theorem Keeps.evSessionStop {s0 s : State} (h : Keeps s0 s) (k : Nat) : Keeps s0 (s.evSessionStop k) := by
  unfold Sys2Proof.Machine.State.evSessionStop
  repeat' first | (with_reducible assumption) | (with_reducible apply Keeps.answerEv) | (with_reducible apply Keeps.freeSess) | (with_reducible apply Keeps.outOfSeq) | (with_reducible apply Keeps.ofIte) | (with_reducible apply Keeps.fold) | (with_reducible rfl) | (dsimp only) | intro _ | split | (with_reducible apply Keeps.upd) | rfl

theorem Keeps.selectService {s0 s : State} (h : Keeps s0 s) (k : Nat) (v : Service) : Keeps s0 (s.selectService k v) := by
  unfold Sys2Proof.Machine.State.selectService
  repeat' first | (with_reducible assumption) | (with_reducible apply Keeps.modCtx) | (with_reducible apply Keeps.answerEv) | (with_reducible apply Keeps.ofIte) | (with_reducible apply Keeps.fold) | (with_reducible rfl) | (dsimp only) | intro _ | split | (with_reducible apply Keeps.upd) | rfl

theorem Keeps.v2g {s0 s : State} (h : Keeps s0 s) (k : Nat) (m : V2g) : Keeps s0 (s.v2g k m) := by
  unfold Sys2Proof.Machine.State.v2g
  repeat' first | (with_reducible assumption) | (with_reducible apply Keeps.answerEv) | (with_reducible apply Keeps.undecoded) | (with_reducible apply Keeps.outOfSeq) | (with_reducible apply Keeps.modCtx) | (with_reducible apply Keeps.enterAuth) | (with_reducible apply Keeps.authorise) | (with_reducible apply Keeps.selectService) | (with_reducible apply Keeps.stepCmd) | (with_reducible apply Keeps.powerStart) | (with_reducible apply Keeps.setSt) | (with_reducible apply Keeps.evStops) | (with_reducible apply Keeps.evSessionStop) | (with_reducible apply Keeps.endSess) | (with_reducible apply Keeps.ofIte) | (with_reducible apply Keeps.fold) | (with_reducible rfl) | (dsimp only) | intro _ | split | (with_reducible apply Keeps.upd) | rfl

theorem Keeps.keepMsg {s0 s : State} (h : Keeps s0 s) (k : Nat) (m : V2g) : Keeps s0 (s.keepMsg k m) := by
  unfold Sys2Proof.Machine.State.keepMsg
  repeat' first | (with_reducible assumption) | (with_reducible apply Keeps.modCtx) | (with_reducible apply Keeps.ofIte) | (with_reducible apply Keeps.fold) | (with_reducible rfl) | (dsimp only) | intro _ | split | (with_reducible apply Keeps.upd) | rfl

theorem ResKeeps.execV2gMessageRx {s : State} (k : Nat) (len : Nat) (m : V2g) : ResKeeps s (execV2gMessageRx k len m s) := by
  have h := Keeps.refl s
  unfold Sys2Proof.Machine.execV2gMessageRx
  repeat' first | (with_reducible assumption) | (with_reducible apply ResKeeps.ofIte) | (with_reducible apply ResKeeps.next) | (with_reducible apply AnsKeeps.done) | (with_reducible apply AnsKeeps.wait) | (with_reducible apply Keeps.recordRx) | (with_reducible apply Keeps.undecoded) | (with_reducible apply Keeps.settle) | (with_reducible apply Keeps.keepMsg) | (with_reducible apply Keeps.v2g) | (with_reducible apply Keeps.requestNow) | (with_reducible apply Keeps.ofIte) | (with_reducible apply Keeps.fold) | (with_reducible rfl) | (dsimp only) | intro _ | split | (with_reducible apply Keeps.upd) | rfl

theorem ResKeeps.execV2gMessageTimeout {s : State} (k : Nat) : ResKeeps s (execV2gMessageTimeout k s) := by
  have h := Keeps.refl s
  unfold Sys2Proof.Machine.execV2gMessageTimeout
  repeat' first | (with_reducible assumption) | (with_reducible apply ResKeeps.ofIte) | (with_reducible apply ResKeeps.next) | (with_reducible apply AnsKeeps.done) | (with_reducible apply AnsKeeps.wait) | (with_reducible apply Keeps.endSess) | (with_reducible apply Keeps.settle) | (with_reducible apply Keeps.ofIte) | (with_reducible apply Keeps.fold) | (with_reducible rfl) | (dsimp only) | intro _ | split | (with_reducible apply Keeps.upd) | rfl

theorem ResKeeps.execContractCertVerify {s : State} (k : Nat) (cert : ContractOp) : ResKeeps s (execContractCertVerify k cert s) := by
  have h := Keeps.refl s
  unfold Sys2Proof.Machine.execContractCertVerify
  repeat' first | (with_reducible assumption) | (with_reducible apply ResKeeps.ofIte) | (with_reducible apply ResKeeps.next) | (with_reducible apply AnsKeeps.done) | (with_reducible apply AnsKeeps.wait) | (with_reducible apply Keeps.authorise) | (with_reducible apply Keeps.modCtx) | (with_reducible apply Keeps.answerEv) | (with_reducible apply Keeps.authReq) | (with_reducible apply Keeps.ofIte) | (with_reducible apply Keeps.fold) | (with_reducible rfl) | (dsimp only) | intro _ | split | (with_reducible apply Keeps.upd) | rfl

/-! ### LinkEv -/

theorem ResKeeps.execCmSlacParmReq {s : State} (bay : Nat) (runId : Nat) (mac : Nat) : ResKeeps s (execCmSlacParmReq bay runId mac s) := by
  have h := Keeps.refl s
  unfold Sys2Proof.Machine.execCmSlacParmReq
  repeat' first | (with_reducible assumption) | (with_reducible apply AnsKeeps.ofIte) | (with_reducible apply ResKeeps.ofIte) | (with_reducible apply ResKeeps.next) | (with_reducible apply AnsKeeps.done) | (with_reducible apply AnsKeeps.wait) | (with_reducible apply Keeps.modBay) | (with_reducible apply Keeps.send) | (with_reducible apply Keeps.ofIte) | (with_reducible apply Keeps.fold) | (with_reducible rfl) | (dsimp only) | intro _ | split | (with_reducible apply Keeps.upd) | rfl

theorem Keeps.attenSend {s0 s : State} (h : Keeps s0 s) (n : Nat) : Keeps s0 (s.attenSend n) := by
  unfold Sys2Proof.Machine.State.attenSend
  repeat' first | (with_reducible assumption) | (with_reducible apply AnsKeeps.ofIte) | (with_reducible apply Keeps.modBay) | (with_reducible apply Keeps.send) | (with_reducible apply Keeps.ofIte) | (with_reducible apply Keeps.fold) | (with_reducible rfl) | (dsimp only) | intro _ | split | (with_reducible apply Keeps.upd) | rfl

theorem ResKeeps.execCmMnbcSoundInd {s : State} (bay : Nat) (runId : Nat) (announced : Nat) (attens : List Nat) : ResKeeps s (execCmMnbcSoundInd bay runId announced attens s) := by
  have h := Keeps.refl s
  unfold Sys2Proof.Machine.execCmMnbcSoundInd
  repeat' first | (with_reducible assumption) | (with_reducible apply ResKeeps.ofIte) | (with_reducible apply ResKeeps.next) | (with_reducible apply AnsKeeps.done) | (with_reducible apply AnsKeeps.wait) | (with_reducible apply Keeps.modBay) | (with_reducible apply Keeps.attenSend) | (with_reducible apply Keeps.ofIte) | (with_reducible apply Keeps.fold) | (with_reducible rfl) | (dsimp only) | intro _ | split | (with_reducible apply Keeps.upd) | rfl

theorem ResKeeps.execTtEvseMatchMnbcExpiry {s : State} (bay : Nat) : ResKeeps s (execTtEvseMatchMnbcExpiry bay s) := by
  have h := Keeps.refl s
  unfold Sys2Proof.Machine.execTtEvseMatchMnbcExpiry
  repeat' first | (with_reducible assumption) | (with_reducible apply ResKeeps.ofIte) | (with_reducible apply ResKeeps.next) | (with_reducible apply AnsKeeps.done) | (with_reducible apply AnsKeeps.wait) | (with_reducible apply Keeps.modBay) | (with_reducible apply Keeps.attenSend) | (with_reducible apply Keeps.ofIte) | (with_reducible apply Keeps.fold) | (with_reducible rfl) | (dsimp only) | intro _ | split | (with_reducible apply Keeps.upd) | rfl

theorem ResKeeps.execCmAttenCharRsp {s : State} (bay : Nat) (runId : Nat) : ResKeeps s (execCmAttenCharRsp bay runId s) := by
  have h := Keeps.refl s
  unfold Sys2Proof.Machine.execCmAttenCharRsp
  repeat' first | (with_reducible assumption) | (with_reducible apply ResKeeps.ofIte) | (with_reducible apply ResKeeps.next) | (with_reducible apply AnsKeeps.done) | (with_reducible apply AnsKeeps.wait) | (with_reducible apply Keeps.modBay) | (with_reducible apply Keeps.ofIte) | (with_reducible apply Keeps.fold) | (with_reducible rfl) | (dsimp only) | intro _ | split | (with_reducible apply Keeps.upd) | rfl

theorem ResKeeps.execCmValidateReq {s : State} (bay : Nat) (runId : Nat) : ResKeeps s (execCmValidateReq bay runId s) := by
  have h := Keeps.refl s
  unfold Sys2Proof.Machine.execCmValidateReq
  repeat' first | (with_reducible assumption) | (with_reducible apply ResKeeps.ofIte) | (with_reducible apply ResKeeps.next) | (with_reducible apply AnsKeeps.done) | (with_reducible apply AnsKeeps.wait) | (with_reducible apply Keeps.send) | (with_reducible apply Keeps.ofIte) | (with_reducible apply Keeps.fold) | (with_reducible rfl) | (dsimp only) | intro _ | split | (with_reducible apply Keeps.upd) | rfl

theorem ResKeeps.execCmSlacMatchReq {s : State} (bay : Nat) (runId : Nat) : ResKeeps s (execCmSlacMatchReq bay runId s) := by
  have h := Keeps.refl s
  unfold Sys2Proof.Machine.execCmSlacMatchReq
  repeat' first | (with_reducible assumption) | (with_reducible apply ResKeeps.ofIte) | (with_reducible apply ResKeeps.next) | (with_reducible apply AnsKeeps.done) | (with_reducible apply AnsKeeps.wait) | (with_reducible apply Keeps.draw) | (with_reducible apply Keeps.modBay) | (with_reducible apply Keeps.send) | (with_reducible apply Keeps.ofIte1) | (with_reducible apply Keeps.fold1) | (with_reducible apply Keeps.ofIte2) | (with_reducible apply Keeps.fold2) | (with_reducible apply Keeps.ofIte) | (with_reducible apply Keeps.fold) | (with_reducible rfl) | (dsimp only) | intro _ | split | (with_reducible apply Keeps.upd) | rfl

theorem Keeps.tunTake {s0 s : State} (h : Keeps s0 s) (f : TunFrame) : Keeps s0 (s.tunTake f).1 := by
  unfold Sys2Proof.Machine.State.tunTake
  repeat' first | (with_reducible assumption) | (with_reducible apply Keeps.ofIte1) | (with_reducible apply Keeps.fold1) | (with_reducible apply Keeps.ofIte) | (with_reducible apply Keeps.fold) | (with_reducible rfl) | (dsimp only) | intro _ | split | (with_reducible apply Keeps.upd) | rfl

theorem Keeps.ctxAsk {s0 s : State} (h : Keeps s0 s) (f : TunFrame) : Keeps s0 (s.ctxAsk f) := by
  unfold Sys2Proof.Machine.State.ctxAsk
  repeat' first | (with_reducible assumption) | (with_reducible apply Keeps.tunSend) | (with_reducible apply Keeps.setEvt) | (with_reducible apply Keeps.setCtx) | (with_reducible apply Keeps.setSt) | (with_reducible apply Keeps.ofIte) | (with_reducible apply Keeps.fold) | (with_reducible rfl) | (dsimp only) | intro _ | split | (with_reducible apply Keeps.upd) | rfl

theorem Keeps.onTunnel {s0 s : State} (h : Keeps s0 s) (f : TunFrame) (act : State → State) (ha : ∀ u, Keeps s0 u → Keeps s0 (act u)) : Keeps s0 (s.onTunnel f act) := by
  unfold Sys2Proof.Machine.State.onTunnel
  repeat' first | (with_reducible assumption) | (with_reducible apply ha) | (with_reducible apply Keeps.tunTake) | (with_reducible apply Keeps.settle) | (with_reducible apply Keeps.ofIte1) | (with_reducible apply Keeps.fold1) | (with_reducible apply Keeps.ofIte2) | (with_reducible apply Keeps.fold2) | (with_reducible apply Keeps.ofIte) | (with_reducible apply Keeps.fold) | (with_reducible rfl) | (dsimp only) | intro _ | split | (with_reducible apply Keeps.upd) | rfl

theorem ResKeeps.execCtxReq {s : State} (f : TunFrame) : ResKeeps s (execCtxReq f s) := by
  have h := Keeps.refl s
  unfold Sys2Proof.Machine.execCtxReq
  repeat' first | (with_reducible assumption) | (with_reducible apply ResKeeps.ofIte) | (with_reducible apply ResKeeps.next) | (with_reducible apply AnsKeeps.done) | (with_reducible apply AnsKeeps.wait) | (with_reducible apply Keeps.onTunnel) | (with_reducible apply Keeps.ctxAsk) | (with_reducible apply Keeps.ofIte) | (with_reducible apply Keeps.fold) | (with_reducible rfl) | (dsimp only) | intro _ | split | (with_reducible apply Keeps.upd) | rfl

theorem ResKeeps.execTunnelData {s : State} (f : TunFrame) (mac : Nat) : ResKeeps s (execTunnelData f mac s) := by
  have h := Keeps.refl s
  unfold Sys2Proof.Machine.execTunnelData
  repeat' first | (with_reducible assumption) | (with_reducible apply ResKeeps.ofIte) | (with_reducible apply ResKeeps.next) | (with_reducible apply AnsKeeps.done) | (with_reducible apply AnsKeeps.wait) | (with_reducible apply Keeps.onTunnel) | (with_reducible apply Keeps.modCtx) | (with_reducible apply Keeps.ofIte) | (with_reducible apply Keeps.fold) | (with_reducible rfl) | (dsimp only) | intro _ | split | (with_reducible apply Keeps.upd) | rfl

theorem ResKeeps.execTunnelLinkUp {s : State} (f : TunFrame) : ResKeeps s (execTunnelLinkUp f s) := by
  have h := Keeps.refl s
  unfold Sys2Proof.Machine.execTunnelLinkUp
  repeat' first | (with_reducible assumption) | (with_reducible apply ResKeeps.ofIte) | (with_reducible apply ResKeeps.next) | (with_reducible apply AnsKeeps.done) | (with_reducible apply AnsKeeps.wait) | (with_reducible apply Keeps.onTunnel) | (with_reducible apply Keeps.linkIsUp) | (with_reducible apply Keeps.ofIte) | (with_reducible apply Keeps.fold) | (with_reducible rfl) | (dsimp only) | intro _ | split | (with_reducible apply Keeps.upd) | rfl

theorem ResKeeps.execTunnelLinkDown {s : State} (f : TunFrame) : ResKeeps s (execTunnelLinkDown f s) := by
  have h := Keeps.refl s
  unfold Sys2Proof.Machine.execTunnelLinkDown
  repeat' first | (with_reducible assumption) | (with_reducible apply ResKeeps.ofIte) | (with_reducible apply ResKeeps.next) | (with_reducible apply AnsKeeps.done) | (with_reducible apply AnsKeeps.wait) | (with_reducible apply Keeps.onTunnel) | (with_reducible apply Keeps.linkLost) | (with_reducible apply Keeps.ofIte) | (with_reducible apply Keeps.fold) | (with_reducible rfl) | (dsimp only) | intro _ | split | (with_reducible apply Keeps.upd) | rfl

theorem ResKeeps.execVlkLinkInfo {s : State} (c : Cmd) (k : Nat) : ResKeeps s (execVlkLinkInfo c k s) := by
  have h := Keeps.refl s
  unfold Sys2Proof.Machine.execVlkLinkInfo
  repeat' first | (with_reducible assumption) | (with_reducible apply AnsKeeps.ofIte) | (with_reducible apply ResKeeps.ofIte) | (with_reducible apply ResKeeps.next) | (with_reducible apply AnsKeeps.done) | (with_reducible apply AnsKeeps.wait) | (with_reducible apply Keeps.runCmd) | (with_reducible apply AnsKeeps.fail) | (with_reducible apply AnsKeeps.okay) | (with_reducible apply Keeps.ofIte) | (with_reducible apply Keeps.fold) | (with_reducible rfl) | (dsimp only) | intro _ | split | (with_reducible apply Keeps.upd) | rfl

theorem ResKeeps.execVlkCertRead {s : State} (c : Cmd) (k : Nat) (dst : Nat) (size : Nat) : ResKeeps s (execVlkCertRead c k dst size s) := by
  have h := Keeps.refl s
  unfold Sys2Proof.Machine.execVlkCertRead
  repeat' first | (with_reducible assumption) | (with_reducible apply AnsKeeps.ofIte) | (with_reducible apply ResKeeps.ofIte) | (with_reducible apply ResKeeps.next) | (with_reducible apply AnsKeeps.done) | (with_reducible apply AnsKeeps.wait) | (with_reducible apply Keeps.runCmd) | (with_reducible apply AnsKeeps.fail) | (with_reducible apply AnsKeeps.okay) | (with_reducible apply Keeps.writeGen) | (with_reducible apply Keeps.ofIte) | (with_reducible apply Keeps.fold) | (with_reducible rfl) | (dsimp only) | intro _ | split | (with_reducible apply Keeps.upd) | rfl

theorem ResKeeps.execVlkRootInstall {s : State} (c : Cmd) (kind : Nat) (key : Nat) (wellFormed : Bool) (der : List Byte) : ResKeeps s (execVlkRootInstall c kind key wellFormed der s) := by
  have h := Keeps.refl s
  unfold Sys2Proof.Machine.execVlkRootInstall
  repeat' first | (with_reducible assumption) | (with_reducible apply AnsKeeps.ofIte) | (with_reducible apply ResKeeps.ofIte) | (with_reducible apply ResKeeps.next) | (with_reducible apply AnsKeeps.done) | (with_reducible apply AnsKeeps.wait) | (with_reducible apply Keeps.runCmd) | (with_reducible apply AnsKeeps.fail) | (with_reducible apply AnsKeeps.okay) | (with_reducible apply Keeps.ofIte) | (with_reducible apply Keeps.fold) | (with_reducible rfl) | (dsimp only) | intro _ | split | (with_reducible apply Keeps.upd) | rfl

theorem ResKeeps.execVlkRootRemove {s : State} (c : Cmd) (index : Nat) : ResKeeps s (execVlkRootRemove c index s) := by
  have h := Keeps.refl s
  unfold Sys2Proof.Machine.execVlkRootRemove
  repeat' first | (with_reducible assumption) | (with_reducible apply AnsKeeps.ofIte) | (with_reducible apply ResKeeps.ofIte) | (with_reducible apply ResKeeps.next) | (with_reducible apply AnsKeeps.done) | (with_reducible apply AnsKeeps.wait) | (with_reducible apply Keeps.runCmd) | (with_reducible apply AnsKeeps.fail) | (with_reducible apply AnsKeeps.okay) | (with_reducible apply Keeps.ofIte) | (with_reducible apply Keeps.fold) | (with_reducible rfl) | (dsimp only) | intro _ | split | (with_reducible apply Keeps.upd) | rfl

/-! ### NetCmd -/

theorem Keeps.takeoverEnds {s0 s : State} (h : Keeps s0 s) : Keeps s0 (s.takeoverEnds) := by
  unfold Sys2Proof.Machine.State.takeoverEnds
  repeat' first | (with_reducible assumption) | (with_reducible apply Keeps.endNow) | (with_reducible apply Keeps.ofIte) | (with_reducible apply Keeps.fold) | (with_reducible rfl) | (dsimp only) | intro _ | split | (with_reducible apply Keeps.upd) | rfl

theorem Keeps.countTakeover {s0 s : State} (h : Keeps s0 s) : Keeps s0 (s.countTakeover) := by
  unfold Sys2Proof.Machine.State.countTakeover
  repeat' first | (with_reducible assumption) | (with_reducible apply Keeps.setEvt) | (with_reducible apply Keeps.ofIte) | (with_reducible apply Keeps.fold) | (with_reducible rfl) | (dsimp only) | intro _ | split | (with_reducible apply Keeps.upd) | rfl

theorem Keeps.holdEnds {s0 s : State} (h : Keeps s0 s) : Keeps s0 (s.holdEnds) := by
  unfold Sys2Proof.Machine.State.holdEnds
  repeat' first | (with_reducible assumption) | (with_reducible apply Keeps.ofIte) | (with_reducible apply Keeps.fold) | (with_reducible rfl) | (dsimp only) | intro _ | split | (with_reducible apply Keeps.upd) | rfl

theorem Keeps.loseMaster {s0 s : State} (h : Keeps s0 s) : Keeps s0 (s.loseMaster) := by
  unfold Sys2Proof.Machine.State.loseMaster
  repeat' first | (with_reducible assumption) | (with_reducible apply Keeps.ofIte) | (with_reducible apply Keeps.fold) | (with_reducible rfl) | (dsimp only) | intro _ | split | (with_reducible apply Keeps.upd) | rfl

theorem Keeps.rampDown {s0 s : State} (h : Keeps s0 s) : Keeps s0 (s.rampDown) := by
  unfold Sys2Proof.Machine.State.rampDown
  repeat' first | (with_reducible assumption) | (with_reducible apply Keeps.ofIte) | (with_reducible apply Keeps.fold) | (with_reducible rfl) | (dsimp only) | intro _ | split | (with_reducible apply Keeps.upd) | rfl

theorem Keeps.setRing {s0 s : State} (h : Keeps s0 s) (r : RingSt) : Keeps s0 (s.setRing r) := by
  unfold Sys2Proof.Machine.State.setRing
  repeat' first | (with_reducible assumption) | (with_reducible apply Keeps.setEvt) | (with_reducible apply Keeps.setEvtIf) | (with_reducible apply Keeps.present) | (with_reducible apply Keeps.loseMaster) | (with_reducible apply Keeps.holdEnds) | (with_reducible apply Keeps.ofIte) | (with_reducible apply Keeps.fold) | (with_reducible rfl) | (dsimp only) | intro _ | split | (with_reducible apply Keeps.upd) | rfl

theorem Keeps.ringRound {s0 s : State} (h : Keeps s0 s) (v : DiscView) : Keeps s0 (s.ringRound v) := by
  unfold Sys2Proof.Machine.State.ringRound
  repeat' first | (with_reducible assumption) | (with_reducible apply Keeps.setRing) | (with_reducible apply Keeps.ofIte) | (with_reducible apply Keeps.fold) | (with_reducible rfl) | (dsimp only) | intro _ | split | (with_reducible apply Keeps.upd) | rfl

theorem Keeps.discMaster {s0 s : State} (h : Keeps s0 s) (v : DiscView) : Keeps s0 (s.discMaster v) := by
  unfold Sys2Proof.Machine.State.discMaster
  repeat' first | (with_reducible assumption) | (with_reducible apply Keeps.setEvtIf) | (with_reducible apply Keeps.ofIte) | (with_reducible apply Keeps.fold) | (with_reducible rfl) | (dsimp only) | intro _ | split | (with_reducible apply Keeps.upd) | rfl

theorem Keeps.discMember {s0 s : State} (h : Keeps s0 s) (v : DiscView) : Keeps s0 (s.discMember v) := by
  unfold Sys2Proof.Machine.State.discMember
  repeat' first | (with_reducible assumption) | (with_reducible apply Keeps.setEvtIf) | (with_reducible apply Keeps.ofIte) | (with_reducible apply Keeps.fold) | (with_reducible rfl) | (dsimp only) | intro _ | split | (with_reducible apply Keeps.upd) | rfl

theorem Keeps.stepDown {s0 s : State} (h : Keeps s0 s) (epoch : Word) (ident : Option Nat) : Keeps s0 (s.stepDown epoch ident) := by
  unfold Sys2Proof.Machine.State.stepDown
  repeat' first | (with_reducible assumption) | (with_reducible apply Keeps.takeoverEnds) | (with_reducible apply Keeps.ofIte) | (with_reducible apply Keeps.fold) | (with_reducible rfl) | (dsimp only) | intro _ | split | (with_reducible apply Keeps.upd) | rfl

theorem ResKeeps.execDiscoveryRound {s : State} : ResKeeps s (execDiscoveryRound s) := by
  have h := Keeps.refl s
  unfold Sys2Proof.Machine.execDiscoveryRound
  repeat' first | (with_reducible assumption) | (with_reducible apply ResKeeps.ofIte) | (with_reducible apply ResKeeps.next) | (with_reducible apply AnsKeeps.done) | (with_reducible apply AnsKeeps.wait) | (with_reducible apply Keeps.send) | (with_reducible apply Keeps.ofIte) | (with_reducible apply Keeps.fold) | (with_reducible rfl) | (dsimp only) | intro _ | split | (with_reducible apply Keeps.upd) | rfl

theorem Keeps.passDiscovery {s0 s : State} (h : Keeps s0 s) (v : DiscView) : Keeps s0 (s.passDiscovery v) := by
  unfold Sys2Proof.Machine.State.passDiscovery
  repeat' first | (with_reducible assumption) | (with_reducible apply Keeps.send) | (with_reducible apply Keeps.ofIte) | (with_reducible apply Keeps.fold) | (with_reducible rfl) | (dsimp only) | intro _ | split | (with_reducible apply Keeps.upd) | rfl

theorem ResKeeps.execDiscoveryFrameRx {s : State} (v : DiscView) : ResKeeps s (execDiscoveryFrameRx v s) := by
  have h := Keeps.refl s
  unfold Sys2Proof.Machine.execDiscoveryFrameRx
  repeat' first | (with_reducible assumption) | (with_reducible apply ResKeeps.ofIte) | (with_reducible apply ResKeeps.next) | (with_reducible apply AnsKeeps.done) | (with_reducible apply AnsKeeps.wait) | (with_reducible apply Keeps.present) | (with_reducible apply Keeps.discMaster) | (with_reducible apply Keeps.discMember) | (with_reducible apply Keeps.passDiscovery) | (with_reducible apply Keeps.settle) | (with_reducible apply Keeps.ringRound) | (with_reducible apply Keeps.stepDown) | (with_reducible apply Keeps.ofIte) | (with_reducible apply Keeps.fold) | (with_reducible rfl) | (dsimp only) | intro _ | split | (with_reducible apply Keeps.upd) | rfl

theorem ResKeeps.execBoomLinkChange {s : State} (port : Nat) (up : Bool) : ResKeeps s (execBoomLinkChange port up s) := by
  have h := Keeps.refl s
  unfold Sys2Proof.Machine.execBoomLinkChange
  repeat' first | (with_reducible assumption) | (with_reducible apply ResKeeps.ofIte) | (with_reducible apply ResKeeps.next) | (with_reducible apply AnsKeeps.done) | (with_reducible apply AnsKeeps.wait) | (with_reducible apply Keeps.setRing) | (with_reducible apply Keeps.settle) | (with_reducible apply Keeps.ofIte) | (with_reducible apply Keeps.fold) | (with_reducible rfl) | (dsimp only) | intro _ | split | (with_reducible apply Keeps.upd) | rfl

theorem ResKeeps.execBoomFrameUncorr {s : State} : ResKeeps s (execBoomFrameUncorr s) := by
  have h := Keeps.refl s
  unfold Sys2Proof.Machine.execBoomFrameUncorr
  repeat' first | (with_reducible assumption) | (with_reducible apply ResKeeps.ofIte) | (with_reducible apply ResKeeps.next) | (with_reducible apply AnsKeeps.done) | (with_reducible apply AnsKeeps.wait) | (with_reducible apply Keeps.setEvt) | (with_reducible apply Keeps.ofIte) | (with_reducible apply Keeps.fold) | (with_reducible rfl) | (dsimp only) | intro _ | split | (with_reducible apply Keeps.upd) | rfl

theorem ResKeeps.execHeartbeatSend {s : State} : ResKeeps s (execHeartbeatSend s) := by
  have h := Keeps.refl s
  unfold Sys2Proof.Machine.execHeartbeatSend
  repeat' first | (with_reducible assumption) | (with_reducible apply ResKeeps.ofIte) | (with_reducible apply ResKeeps.next) | (with_reducible apply AnsKeeps.done) | (with_reducible apply AnsKeeps.wait) | (with_reducible apply Keeps.send) | (with_reducible apply Keeps.ofIte) | (with_reducible apply Keeps.fold) | (with_reducible rfl) | (dsimp only) | intro _ | split | (with_reducible apply Keeps.upd) | rfl

theorem Keeps.hbActive {s0 s : State} (h : Keeps s0 s) (hb : Heartbeat) : Keeps s0 (s.hbActive hb) := by
  unfold Sys2Proof.Machine.State.hbActive
  repeat' first | (with_reducible assumption) | (with_reducible apply Keeps.stepDown) | (with_reducible apply Keeps.ofIte) | (with_reducible apply Keeps.fold) | (with_reducible rfl) | (dsimp only) | intro _ | split | (with_reducible apply Keeps.upd) | rfl

theorem Keeps.hbHandover {s0 s : State} (h : Keeps s0 s) (hb : Heartbeat) : Keeps s0 (s.hbHandover hb) := by
  unfold Sys2Proof.Machine.State.hbHandover
  repeat' first | (with_reducible assumption) | (with_reducible apply Keeps.stepDown) | (with_reducible apply Keeps.countTakeover) | (with_reducible apply Keeps.finish) | (with_reducible apply Keeps.ofIte) | (with_reducible apply Keeps.fold) | (with_reducible rfl) | (dsimp only) | intro _ | split | (with_reducible apply Keeps.upd) | rfl

theorem Keeps.hbFollow {s0 s : State} (h : Keeps s0 s) (hb : Heartbeat) : Keeps s0 (s.hbFollow hb) := by
  unfold Sys2Proof.Machine.State.hbFollow
  repeat' first | (with_reducible assumption) | (with_reducible apply Keeps.holdEnds) | (with_reducible apply Keeps.countTakeover) | (with_reducible apply Keeps.idle) | (with_reducible apply Keeps.ofIte) | (with_reducible apply Keeps.fold) | (with_reducible rfl) | (dsimp only) | intro _ | split | (with_reducible apply Keeps.upd) | rfl

theorem Keeps.hbTake {s0 s : State} (h : Keeps s0 s) (hb : Heartbeat) : Keeps s0 (s.hbTake hb) := by
  unfold Sys2Proof.Machine.State.hbTake
  repeat' first | (with_reducible assumption) | (with_reducible apply Keeps.hbActive) | (with_reducible apply Keeps.hbHandover) | (with_reducible apply Keeps.hbFollow) | (with_reducible apply Keeps.ofIte) | (with_reducible apply Keeps.fold) | (with_reducible rfl) | (dsimp only) | intro _ | split | (with_reducible apply Keeps.upd) | rfl

theorem ResKeeps.execHeartbeatRx {s : State} (hb : Heartbeat) : ResKeeps s (execHeartbeatRx hb s) := by
  have h := Keeps.refl s
  unfold Sys2Proof.Machine.execHeartbeatRx
  repeat' first | (with_reducible assumption) | (with_reducible apply ResKeeps.ofIte) | (with_reducible apply ResKeeps.next) | (with_reducible apply AnsKeeps.done) | (with_reducible apply AnsKeeps.wait) | (with_reducible apply Keeps.present) | (with_reducible apply Keeps.passOn) | (with_reducible apply Keeps.hbTake) | (with_reducible apply Keeps.settle) | (with_reducible apply Keeps.ofIte) | (with_reducible apply Keeps.fold) | (with_reducible rfl) | (dsimp only) | intro _ | split | (with_reducible apply Keeps.upd) | rfl

theorem ResKeeps.execMasterLost {s : State} : ResKeeps s (execMasterLost s) := by
  have h := Keeps.refl s
  unfold Sys2Proof.Machine.execMasterLost
  repeat' first | (with_reducible assumption) | (with_reducible apply ResKeeps.ofIte) | (with_reducible apply ResKeeps.next) | (with_reducible apply AnsKeeps.done) | (with_reducible apply AnsKeeps.wait) | (with_reducible apply Keeps.present) | (with_reducible apply Keeps.loseMaster) | (with_reducible apply Keeps.ofIte) | (with_reducible apply Keeps.fold) | (with_reducible rfl) | (dsimp only) | intro _ | split | (with_reducible apply Keeps.upd) | rfl

theorem Keeps.openMirrored {s0 s : State} (h : Keeps s0 s) (r : MirRec) : Keeps s0 (s.openMirrored r) := by
  unfold Sys2Proof.Machine.State.openMirrored
  repeat' first | (with_reducible assumption) | (with_reducible apply Keeps.recReserve) | (with_reducible apply Keeps.recOpen) | (with_reducible apply Keeps.modRcd) | (with_reducible apply Keeps.recSat) | (with_reducible apply Keeps.ofIte1) | (with_reducible apply Keeps.fold1) | (with_reducible apply Keeps.ofIte2) | (with_reducible apply Keeps.fold2) | (with_reducible apply Keeps.ofIte) | (with_reducible apply Keeps.fold) | (with_reducible rfl) | (dsimp only) | intro _ | split | (with_reducible apply Keeps.upd) | rfl

theorem ResKeeps.execTakeover {s : State} : ResKeeps s (execTakeover s) := by
  have h := Keeps.refl s
  unfold Sys2Proof.Machine.execTakeover
  repeat' first | (with_reducible assumption) | (with_reducible apply ResKeeps.ofIte) | (with_reducible apply ResKeeps.next) | (with_reducible apply AnsKeeps.done) | (with_reducible apply AnsKeeps.wait) | (with_reducible apply Keeps.holdEnds) | (with_reducible apply Keeps.countTakeover) | (with_reducible apply Keeps.takeoverEnds) | (with_reducible apply Keeps.openMirrored) | (with_reducible apply Keeps.send) | (with_reducible apply Keeps.settle) | (with_reducible apply Keeps.ofIte) | (with_reducible apply Keeps.fold) | (with_reducible rfl) | (dsimp only) | intro _ | split | (with_reducible apply Keeps.upd) | rfl

theorem ResKeeps.execMemberHoldExpiry {s : State} : ResKeeps s (execMemberHoldExpiry s) := by
  have h := Keeps.refl s
  unfold Sys2Proof.Machine.execMemberHoldExpiry
  repeat' first | (with_reducible assumption) | (with_reducible apply ResKeeps.ofIte) | (with_reducible apply ResKeeps.next) | (with_reducible apply AnsKeeps.done) | (with_reducible apply AnsKeeps.wait) | (with_reducible apply Keeps.rampDown) | (with_reducible apply Keeps.ofIte) | (with_reducible apply Keeps.fold) | (with_reducible rfl) | (dsimp only) | intro _ | split | (with_reducible apply Keeps.upd) | rfl

theorem ResKeeps.execConflictHoldExpiry {s : State} : ResKeeps s (execConflictHoldExpiry s) := by
  have h := Keeps.refl s
  unfold Sys2Proof.Machine.execConflictHoldExpiry
  repeat' first | (with_reducible assumption) | (with_reducible apply ResKeeps.ofIte) | (with_reducible apply ResKeeps.next) | (with_reducible apply AnsKeeps.done) | (with_reducible apply AnsKeeps.wait) | (with_reducible apply Keeps.rampDown) | (with_reducible apply Keeps.ofIte) | (with_reducible apply Keeps.fold) | (with_reducible rfl) | (dsimp only) | intro _ | split | (with_reducible apply Keeps.upd) | rfl

theorem Keeps.mirrorTake {s0 s : State} (h : Keeps s0 s) (f : MirrorFrame) : Keeps s0 (s.mirrorTake f) := by
  unfold Sys2Proof.Machine.State.mirrorTake
  repeat' first | (with_reducible assumption) | (with_reducible apply Keeps.modPoint) | (with_reducible apply Keeps.ofIte1) | (with_reducible apply Keeps.fold1) | (with_reducible apply Keeps.ofIte2) | (with_reducible apply Keeps.fold2) | (with_reducible apply Keeps.ofIte) | (with_reducible apply Keeps.fold) | (with_reducible rfl) | (dsimp only) | intro _ | split | (with_reducible apply Keeps.upd) | rfl

theorem ResKeeps.execMirrorRx {s : State} (f : MirrorFrame) : ResKeeps s (execMirrorRx f s) := by
  have h := Keeps.refl s
  unfold Sys2Proof.Machine.execMirrorRx
  repeat' first | (with_reducible assumption) | (with_reducible apply ResKeeps.ofIte) | (with_reducible apply ResKeeps.next) | (with_reducible apply AnsKeeps.done) | (with_reducible apply AnsKeeps.wait) | (with_reducible apply Keeps.passOn) | (with_reducible apply Keeps.gap) | (with_reducible apply Keeps.mirrorTake) | (with_reducible apply Keeps.complete) | (with_reducible apply Keeps.ofIte) | (with_reducible apply Keeps.fold) | (with_reducible rfl) | (dsimp only) | intro _ | split | (with_reducible apply Keeps.upd) | rfl

theorem ResKeeps.execHandoverTimeout {s : State} : ResKeeps s (execHandoverTimeout s) := by
  have h := Keeps.refl s
  unfold Sys2Proof.Machine.execHandoverTimeout
  repeat' first | (with_reducible assumption) | (with_reducible apply ResKeeps.ofIte) | (with_reducible apply ResKeeps.next) | (with_reducible apply AnsKeeps.done) | (with_reducible apply AnsKeeps.wait) | (with_reducible apply Keeps.send) | (with_reducible apply Keeps.finish) | (with_reducible apply Keeps.settle) | (with_reducible apply Keeps.ofIte) | (with_reducible apply Keeps.fold) | (with_reducible rfl) | (dsimp only) | intro _ | split | (with_reducible apply Keeps.upd) | rfl

theorem ResKeeps.execNetPairSwitch {s : State} (c : Cmd) : ResKeeps s (execNetPairSwitch c s) := by
  have h := Keeps.refl s
  unfold Sys2Proof.Machine.execNetPairSwitch
  repeat' first | (with_reducible assumption) | (with_reducible apply AnsKeeps.ofIte) | (with_reducible apply ResKeeps.ofIte) | (with_reducible apply ResKeeps.next) | (with_reducible apply AnsKeeps.done) | (with_reducible apply AnsKeeps.wait) | (with_reducible apply Keeps.runCmd) | (with_reducible apply AnsKeeps.fail) | (with_reducible apply Keeps.send) | (with_reducible apply Keeps.ofIte) | (with_reducible apply Keeps.fold) | (with_reducible rfl) | (dsimp only) | intro _ | split | (with_reducible apply Keeps.upd) | rfl

theorem ResKeeps.execNetRingRediscover {s : State} (c : Cmd) : ResKeeps s (execNetRingRediscover c s) := by
  have h := Keeps.refl s
  unfold Sys2Proof.Machine.execNetRingRediscover
  repeat' first | (with_reducible assumption) | (with_reducible apply AnsKeeps.ofIte) | (with_reducible apply ResKeeps.ofIte) | (with_reducible apply ResKeeps.next) | (with_reducible apply AnsKeeps.done) | (with_reducible apply AnsKeeps.wait) | (with_reducible apply Keeps.runCmd) | (with_reducible apply AnsKeeps.okay) | (with_reducible apply Keeps.send) | (with_reducible apply AnsKeeps.fail) | (with_reducible apply Keeps.ofIte) | (with_reducible apply Keeps.fold) | (with_reducible rfl) | (dsimp only) | intro _ | split | (with_reducible apply Keeps.upd) | rfl

theorem Keeps.portMode {s0 s : State} (h : Keeps s0 s) (n : Nat) (value : Word) : Keeps s0 (s.portMode n value) := by
  unfold Sys2Proof.Machine.State.portMode
  repeat' first | (with_reducible assumption) | (with_reducible apply Keeps.setPort) | (with_reducible apply Keeps.ofIte) | (with_reducible apply Keeps.fold) | (with_reducible rfl) | (dsimp only) | intro _ | split | (with_reducible apply Keeps.upd) | rfl

theorem ResKeeps.execNetPortModeWrite {s : State} (n : Nat) (value : Word) : ResKeeps s (execNetPortModeWrite n value s) := by
  have h := Keeps.refl s
  unfold Sys2Proof.Machine.execNetPortModeWrite
  repeat' first | (with_reducible assumption) | (with_reducible apply ResKeeps.ofIte) | (with_reducible apply ResKeeps.next) | (with_reducible apply AnsKeeps.done) | (with_reducible apply AnsKeeps.wait) | (with_reducible apply Keeps.portMode) | (with_reducible apply Keeps.ofIte) | (with_reducible apply Keeps.fold) | (with_reducible rfl) | (dsimp only) | intro _ | split | (with_reducible apply Keeps.upd) | rfl

theorem ResKeeps.execNetPortLinkChange {s : State} (n : Nat) (up : Bool) (speed : Nat) : ResKeeps s (execNetPortLinkChange n up speed s) := by
  have h := Keeps.refl s
  unfold Sys2Proof.Machine.execNetPortLinkChange
  repeat' first | (with_reducible assumption) | (with_reducible apply ResKeeps.ofIte) | (with_reducible apply ResKeeps.next) | (with_reducible apply AnsKeeps.done) | (with_reducible apply AnsKeeps.wait) | (with_reducible apply Keeps.setPort) | (with_reducible apply Keeps.ofIte) | (with_reducible apply Keeps.fold) | (with_reducible rfl) | (dsimp only) | intro _ | split | (with_reducible apply Keeps.upd) | rfl

/-! ### BlazeCmd -/

theorem State.tamperEvent_log (s : State) (i : Nat) (high : Bool) :
    (s.tamperEvent i high).blz.last = s.blz.last ∧ (s.tamperEvent i high).blz.released = s.blz.released := by
  unfold State.tamperEvent
  dsimp only
  split
  · exact ⟨rfl, rfl⟩
  · rw [State.blz_setEvtIf, State.blz_setEvt]
    exact ⟨Blz.record_last _ _, Blz.record_released _ _⟩

theorem ResKeeps.execTamperEvent {s : State} (input : Nat) (first second backup : Bool) : ResKeeps s (execTamperEvent input first second backup s) := by
  unfold Sys2Proof.Machine.execTamperEvent
  have h0 : Keeps s (if backup then { s with sys := { s.sys with pstate := .backup } } else s) :=
    .ofIte (fun _ => (Keeps.refl s).upd rfl rfl rfl rfl rfl rfl rfl) (fun _ => .refl s)
  refine .ofIte (fun _ => .next (.refl s)) fun _ => .ofIte (fun _ => ?_) fun _ => .next (.ofIte (fun _ => ?_) fun _ => (Keeps.refl s).tamperEvent _ _)
  · exact .next (h0.upd rfl rfl rfl (State.tamperEvent_log _ _ _).1 (State.tamperEvent_log _ _ _).2 rfl rfl)
  · exact ((Keeps.refl s).tamperEvent _ _).wakeUp _ _

theorem ResKeeps.execTamperTransfer {s : State} (torn : List Nat) : ResKeeps s (execTamperTransfer torn s) := by
  have h := Keeps.refl s
  unfold Sys2Proof.Machine.execTamperTransfer
  repeat' first | (with_reducible assumption) | (with_reducible apply ResKeeps.ofIte) | (with_reducible apply ResKeeps.next) | (with_reducible apply AnsKeeps.done) | (with_reducible apply AnsKeeps.wait) | (with_reducible apply Keeps.transfer) | (with_reducible apply Keeps.ofIte) | (with_reducible apply Keeps.fold) | (with_reducible rfl) | (dsimp only) | intro _ | split | (with_reducible apply Keeps.upd) | rfl

theorem ResKeeps.execVbatLow {s : State} (backup : Bool) : ResKeeps s (execVbatLow backup s) := by
  have h := Keeps.refl s
  unfold Sys2Proof.Machine.execVbatLow
  repeat' first | (with_reducible assumption) | (with_reducible apply ResKeeps.ofIte) | (with_reducible apply ResKeeps.next) | (with_reducible apply AnsKeeps.done) | (with_reducible apply AnsKeeps.wait) | (with_reducible apply Keeps.setEvtIf) | (with_reducible apply Keeps.ofIte) | (with_reducible apply Keeps.fold) | (with_reducible rfl) | (dsimp only) | intro _ | split | (with_reducible apply Keeps.upd) | rfl

theorem ResKeeps.execBlzLogRead {s : State} (c : Cmd) (first : Nat) (count : Nat) (dst : Nat) : ResKeeps s (execBlzLogRead c first count dst s) := by
  have h := Keeps.refl s
  unfold Sys2Proof.Machine.execBlzLogRead
  repeat' first | (with_reducible assumption) | (with_reducible apply AnsKeeps.ofIte) | (with_reducible apply ResKeeps.ofIte) | (with_reducible apply ResKeeps.next) | (with_reducible apply AnsKeeps.done) | (with_reducible apply AnsKeeps.wait) | (with_reducible apply Keeps.runCmd) | (with_reducible apply AnsKeeps.fail) | (with_reducible apply AnsKeeps.okay) | (with_reducible apply Keeps.writeGen) | (with_reducible apply Keeps.ofIte) | (with_reducible apply Keeps.fold) | (with_reducible rfl) | (dsimp only) | intro _ | split | (with_reducible apply Keeps.upd) | rfl

theorem ResKeeps.execBlzTamperRead {s : State} (c : Cmd) (dst : Nat) : ResKeeps s (execBlzTamperRead c dst s) := by
  have h := Keeps.refl s
  unfold Sys2Proof.Machine.execBlzTamperRead
  repeat' first | (with_reducible assumption) | (with_reducible apply AnsKeeps.ofIte) | (with_reducible apply ResKeeps.ofIte) | (with_reducible apply ResKeeps.next) | (with_reducible apply AnsKeeps.done) | (with_reducible apply AnsKeeps.wait) | (with_reducible apply Keeps.runCmd) | (with_reducible apply AnsKeeps.fail) | (with_reducible apply AnsKeeps.okay) | (with_reducible apply Keeps.writeGen) | (with_reducible apply Keeps.ofIte) | (with_reducible apply Keeps.fold) | (with_reducible rfl) | (dsimp only) | intro _ | split | (with_reducible apply Keeps.upd) | rfl

theorem ResKeeps.execBlzTamperClear {s : State} (c : Cmd) (mask : BitVec 4) : ResKeeps s (execBlzTamperClear c mask s) := by
  have h := Keeps.refl s
  unfold Sys2Proof.Machine.execBlzTamperClear
  repeat' first | (with_reducible assumption) | (with_reducible apply AnsKeeps.ofIte) | (with_reducible apply ResKeeps.ofIte) | (with_reducible apply ResKeeps.next) | (with_reducible apply AnsKeeps.done) | (with_reducible apply AnsKeeps.wait) | (with_reducible apply Keeps.runCmd) | (with_reducible apply AnsKeeps.fail) | (with_reducible apply AnsKeeps.logFull) | (with_reducible apply AnsKeeps.okay) | (with_reducible apply Keeps.legalChange) | (with_reducible apply Keeps.ofIte) | (with_reducible apply Keeps.fold) | (with_reducible rfl) | (dsimp only) | intro _ | split | (with_reducible apply Keeps.upd) | rfl

/-- A release moves the released number up to one that stands (R297). -/
theorem Keeps.release_legal {s t : State} (h : Keeps s t) (n : Nat) (hn : n ≤ t.blz.last) : Keeps s { t with blz := { t.blz with released := n, logHold := false } } :=
  h.trans ⟨rfl, ⟨[], rfl⟩, id, id, Nat.le_refl _, id, rfl, Nat.le_refl _, fun _ => hn, Nat.le_refl _, fun _ x => x⟩

theorem State.storeCtr_blz (s : State) (m : KeyMsg) : (s.storeCtr m).blz = s.blz := State.blz_setEvt ..

theorem ResKeeps.execBlzLogRelease {s : State} (c : Cmd) (m : KeyMsg) : ResKeeps s (execBlzLogRelease c m s) := by
  unfold Sys2Proof.Machine.execBlzLogRelease
  apply ResKeeps.next
  apply Keeps.runCmd (.refl s)
  intro u hu
  dsimp only
  split
  · exact .msgRej hu _ _
  · split
    · exact .msgRej hu _ _
    · rename_i hn
      simp only [Bool.or_eq_true, decide_eq_true_eq, not_or, Nat.not_le, Nat.not_lt] at hn
      exact .okay (Keeps.legalChange (Keeps.release_legal (hu.storeCtr m) _ (by rw [State.storeCtr_blz]; exact hn.2)) _ _) _

/-! ### ScalerCmd -/

theorem Keeps.settleCount {s0 s : State} (h : Keeps s0 s) (n : Nat) : Keeps s0 (s.settleCount n) := by
  unfold Sys2Proof.Machine.State.settleCount
  repeat' first | (with_reducible assumption) | (with_reducible apply Keeps.modImdB) | (with_reducible apply Keeps.ofIte) | (with_reducible apply Keeps.fold) | (with_reducible rfl) | (dsimp only) | intro _ | split | (with_reducible apply Keeps.upd) | rfl

theorem Keeps.efFastCount {s0 s : State} (h : Keeps s0 s) (n : Nat) : Keeps s0 (s.efFastCount n) := by
  unfold Sys2Proof.Machine.State.efFastCount
  repeat' first | (with_reducible assumption) | (with_reducible apply Keeps.modImdB) | (with_reducible apply Keeps.ofIte) | (with_reducible apply Keeps.fold) | (with_reducible rfl) | (dsimp only) | intro _ | split | (with_reducible apply Keeps.upd) | rfl

theorem Keeps.efTick {s0 s : State} (h : Keeps s0 s) (n : Nat) : Keeps s0 (s.efTick n) := by
  unfold Sys2Proof.Machine.State.efTick
  repeat' first | (with_reducible assumption) | (with_reducible apply Keeps.modImdB) | (with_reducible apply Keeps.ofIte) | (with_reducible apply Keeps.fold) | (with_reducible rfl) | (dsimp only) | intro _ | split | (with_reducible apply Keeps.upd) | rfl

theorem Keeps.supervise {s0 s : State} (h : Keeps s0 s) (n : Nat) : Keeps s0 (s.supervise n) := by
  unfold Sys2Proof.Machine.State.supervise
  repeat' first | (with_reducible assumption) | (with_reducible apply Keeps.unlockDue) | (with_reducible apply Keeps.settleCount) | (with_reducible apply Keeps.efFastCount) | (with_reducible apply Keeps.toOpening) | (with_reducible apply Keeps.endSess) | (with_reducible apply Keeps.modMbay) | (with_reducible apply Keeps.ofIte) | (with_reducible apply Keeps.fold) | (with_reducible rfl) | (dsimp only) | intro _ | split | (with_reducible apply Keeps.upd) | rfl

theorem ResKeeps.execScalerSample {s : State} (codes : List BayCodes) : ResKeeps s (execScalerSample codes s) := by
  have h := Keeps.refl s
  unfold Sys2Proof.Machine.execScalerSample
  repeat' first | (with_reducible assumption) | (with_reducible apply ResKeeps.ofIte) | (with_reducible apply ResKeeps.next) | (with_reducible apply AnsKeeps.done) | (with_reducible apply AnsKeeps.wait) | (with_reducible apply Keeps.sampleAll) | (with_reducible apply Keeps.supervise) | (with_reducible apply Keeps.settle) | (with_reducible apply Keeps.ofIte) | (with_reducible apply Keeps.fold) | (with_reducible rfl) | (dsimp only) | intro _ | split | (with_reducible apply Keeps.upd) | rfl

theorem ResKeeps.execRangeToLow {s : State} (bay : Nat) : ResKeeps s (execRangeToLow bay s) := by
  have h := Keeps.refl s
  unfold Sys2Proof.Machine.execRangeToLow
  repeat' first | (with_reducible assumption) | (with_reducible apply ResKeeps.ofIte) | (with_reducible apply ResKeeps.next) | (with_reducible apply AnsKeeps.done) | (with_reducible apply AnsKeeps.wait) | (with_reducible apply Keeps.setMbay) | (with_reducible apply Keeps.ofIte) | (with_reducible apply Keeps.fold) | (with_reducible rfl) | (dsimp only) | intro _ | split | (with_reducible apply Keeps.upd) | rfl

theorem Keeps.mfault {s0 s : State} (h : Keeps s0 s) (n : Nat) (cause : Nat) : Keeps s0 (s.mfault n cause) := by
  unfold Sys2Proof.Machine.State.mfault
  repeat' first | (with_reducible assumption) | (with_reducible apply Keeps.mfaultCore) | (with_reducible apply Keeps.leaveService) | (with_reducible apply Keeps.ofIte) | (with_reducible apply Keeps.fold) | (with_reducible rfl) | (dsimp only) | intro _ | split | (with_reducible apply Keeps.upd) | rfl

theorem Keeps.pathOpens {s0 s : State} (h : Keeps s0 s) (n : Nat) : Keeps s0 (s.pathOpens n) := by
  unfold Sys2Proof.Machine.State.pathOpens
  repeat' first | (with_reducible assumption) | (with_reducible apply Keeps.endBay) | (with_reducible apply Keeps.ofIte) | (with_reducible apply Keeps.fold) | (with_reducible rfl) | (dsimp only) | intro _ | split | (with_reducible apply Keeps.upd) | rfl

theorem Keeps.efTripped {s0 s : State} (h : Keeps s0 s) (n : Nat) : Keeps s0 (s.efTripped n) := by
  unfold Sys2Proof.Machine.State.efTripped
  repeat' first | (with_reducible assumption) | (with_reducible apply Keeps.modImdB) | (with_reducible apply Keeps.setEvt) | (with_reducible apply Keeps.endBay) | (with_reducible apply Keeps.ofIte) | (with_reducible apply Keeps.fold) | (with_reducible rfl) | (dsimp only) | intro _ | split | (with_reducible apply Keeps.upd) | rfl

theorem Keeps.earthLost {s0 s : State} (h : Keeps s0 s) (n : Nat) (lost : Bool) : Keeps s0 (s.earthLost n lost) := by
  unfold Sys2Proof.Machine.State.earthLost
  repeat' first | (with_reducible assumption) | (with_reducible apply Keeps.modMbay) | (with_reducible apply Keeps.modImdB) | (with_reducible apply Keeps.efTripped) | (with_reducible apply Keeps.setEvt) | (with_reducible apply Keeps.ofIte) | (with_reducible apply Keeps.fold) | (with_reducible rfl) | (dsimp only) | intro _ | split | (with_reducible apply Keeps.upd) | rfl

theorem ResKeeps.execChannelLost {s : State} (bay : Nat) (ch : MChan) : ResKeeps s (execChannelLost bay ch s) := by
  have h := Keeps.refl s
  unfold Sys2Proof.Machine.execChannelLost
  repeat' first | (with_reducible assumption) | (with_reducible apply ResKeeps.ofIte) | (with_reducible apply ResKeeps.next) | (with_reducible apply AnsKeeps.done) | (with_reducible apply AnsKeeps.wait) | (with_reducible apply Keeps.modMbay) | (with_reducible apply Keeps.mfault) | (with_reducible apply Keeps.pathOpens) | (with_reducible apply Keeps.settle) | (with_reducible apply Keeps.earthLost) | (with_reducible apply Keeps.ofIte) | (with_reducible apply Keeps.fold) | (with_reducible rfl) | (dsimp only) | intro _ | split | (with_reducible apply Keeps.upd) | rfl

theorem ResKeeps.execChannelRestored {s : State} (bay : Nat) (ch : MChan) : ResKeeps s (execChannelRestored bay ch s) := by
  have h := Keeps.refl s
  unfold Sys2Proof.Machine.execChannelRestored
  repeat' first | (with_reducible assumption) | (with_reducible apply ResKeeps.ofIte) | (with_reducible apply ResKeeps.next) | (with_reducible apply AnsKeeps.done) | (with_reducible apply AnsKeeps.wait) | (with_reducible apply Keeps.modMbay) | (with_reducible apply Keeps.earthLost) | (with_reducible apply Keeps.settle) | (with_reducible apply Keeps.ofIte) | (with_reducible apply Keeps.fold) | (with_reducible rfl) | (dsimp only) | intro _ | split | (with_reducible apply Keeps.upd) | rfl

theorem ResKeeps.execXchkWindow {s : State} (bay : Nat) : ResKeeps s (execXchkWindow bay s) := by
  have h := Keeps.refl s
  unfold Sys2Proof.Machine.execXchkWindow
  repeat' first | (with_reducible assumption) | (with_reducible apply ResKeeps.ofIte) | (with_reducible apply ResKeeps.next) | (with_reducible apply AnsKeeps.done) | (with_reducible apply AnsKeeps.wait) | (with_reducible apply Keeps.setMbay) | (with_reducible apply Keeps.mfault) | (with_reducible apply Keeps.settle) | (with_reducible apply Keeps.ofIte) | (with_reducible apply Keeps.fold) | (with_reducible rfl) | (dsimp only) | intro _ | split | (with_reducible apply Keeps.upd) | rfl

theorem ResKeeps.execDspDeadline {s : State} : ResKeeps s (execDspDeadline s) := by
  have h := Keeps.refl s
  unfold Sys2Proof.Machine.execDspDeadline
  repeat' first | (with_reducible assumption) | (with_reducible apply ResKeeps.ofIte) | (with_reducible apply ResKeeps.next) | (with_reducible apply AnsKeeps.done) | (with_reducible apply AnsKeeps.wait) | (with_reducible apply Keeps.modMbay) | (with_reducible apply Keeps.modImdB) | (with_reducible apply Keeps.mfault) | (with_reducible apply Keeps.pathOpens) | (with_reducible apply Keeps.settle) | (with_reducible apply Keeps.ofIte) | (with_reducible apply Keeps.fold) | (with_reducible rfl) | (dsimp only) | intro _ | split | (with_reducible apply Keeps.upd) | rfl

theorem Keeps.energyLimits {s0 s : State} (h : Keeps s0 s) : Keeps s0 (s.energyLimits) := by
  unfold Sys2Proof.Machine.State.energyLimits
  repeat' first | (with_reducible assumption) | (with_reducible apply Keeps.endSess) | (with_reducible apply Keeps.ofIte) | (with_reducible apply Keeps.fold) | (with_reducible rfl) | (dsimp only) | intro _ | split | (with_reducible apply Keeps.upd) | rfl

theorem Keeps.lockTick {s0 s : State} (h : Keeps s0 s) : Keeps s0 (s.lockTick) := by
  unfold Sys2Proof.Machine.State.lockTick
  repeat' first | (with_reducible assumption) | (with_reducible apply Keeps.ofIte) | (with_reducible apply Keeps.fold) | (with_reducible rfl) | (dsimp only) | intro _ | split | (with_reducible apply Keeps.upd) | rfl

theorem Keeps.fabTick {s0 s : State} (h : Keeps s0 s) : Keeps s0 (s.fabTick) := by
  unfold Sys2Proof.Machine.State.fabTick
  repeat' first | (with_reducible assumption) | (with_reducible apply Keeps.ofIte) | (with_reducible apply Keeps.fold) | (with_reducible rfl) | (dsimp only) | intro _ | split | (with_reducible apply Keeps.upd) | rfl

theorem Keeps.passTick {s0 s : State} (h : Keeps s0 s) : Keeps s0 (s.passTick) := by
  unfold Sys2Proof.Machine.State.passTick
  repeat' first | (with_reducible assumption) | (with_reducible apply Keeps.nextBoundary) | (with_reducible apply Keeps.holdCheck) | (with_reducible apply Keeps.tickRamps) | (with_reducible apply Keeps.lockTick) | (with_reducible apply Keeps.fabTick) | (with_reducible apply Keeps.ofIte) | (with_reducible apply Keeps.fold) | (with_reducible rfl) | (dsimp only) | intro _ | split | (with_reducible apply Keeps.upd) | rfl

theorem Keeps.commitTick {s0 s : State} (h : Keeps s0 s) : Keeps s0 (s.commitTick) := by
  unfold Sys2Proof.Machine.State.commitTick
  repeat' first | (with_reducible assumption) | (with_reducible apply Keeps.efTick) | (with_reducible apply Keeps.commit) | (with_reducible apply Keeps.energyLimits) | (with_reducible apply Keeps.panelTemps) | (with_reducible apply Keeps.ofIte) | (with_reducible apply Keeps.fold) | (with_reducible rfl) | (dsimp only) | intro _ | split | (with_reducible apply Keeps.upd) | rfl

theorem ResKeeps.execTickCommit {s : State} : ResKeeps s (execTickCommit s) := by
  have h := Keeps.refl s
  unfold Sys2Proof.Machine.execTickCommit
  repeat' first | (with_reducible assumption) | (with_reducible apply ResKeeps.ofIte) | (with_reducible apply ResKeeps.next) | (with_reducible apply AnsKeeps.done) | (with_reducible apply AnsKeeps.wait) | (with_reducible apply Keeps.passTick) | (with_reducible apply Keeps.commitTick) | (with_reducible apply Keeps.settle) | (with_reducible apply Keeps.ofIte) | (with_reducible apply Keeps.fold) | (with_reducible rfl) | (dsimp only) | intro _ | split | (with_reducible apply Keeps.upd) | rfl

theorem Keeps.pulseCfgWrite {s0 s : State} (h : Keeps s0 s) (m : Nat) (value : Word) : Keeps s0 (s.pulseCfgWrite m value) := by
  unfold Sys2Proof.Machine.State.pulseCfgWrite
  repeat' first | (with_reducible assumption) | (with_reducible apply Keeps.modPulse) | (with_reducible apply Keeps.ofIte) | (with_reducible apply Keeps.fold) | (with_reducible rfl) | (dsimp only) | intro _ | split | (with_reducible apply Keeps.upd) | rfl

theorem ResKeeps.execPulseTestWrite {s : State} (m : Nat) (value : Word) : ResKeeps s (execPulseTestWrite m value s) := by
  have h := Keeps.refl s
  unfold Sys2Proof.Machine.execPulseTestWrite
  repeat' first | (with_reducible assumption) | (with_reducible apply ResKeeps.ofIte) | (with_reducible apply ResKeeps.next) | (with_reducible apply AnsKeeps.done) | (with_reducible apply AnsKeeps.wait) | (with_reducible apply Keeps.pulseCfgWrite) | (with_reducible apply Keeps.ofIte) | (with_reducible apply Keeps.fold) | (with_reducible rfl) | (dsimp only) | intro _ | split | (with_reducible apply Keeps.upd) | rfl

theorem Keeps.runScl {s0 s : State} (h : Keeps s0 s) (c : Cmd) (opcode : Nat) (bay : Nat) (body : State → Answer) (hb : ∀ u, Keeps s0 u → AnsKeeps s0 (body u)) : Keeps s0 (s.runScl c opcode bay body) := by
  unfold Sys2Proof.Machine.State.runScl
  repeat' first | (with_reducible assumption) | (with_reducible apply hb) | (with_reducible apply AnsKeeps.ofIte) | (with_reducible apply Keeps.runCmd) | (with_reducible apply AnsKeeps.fail) | (with_reducible apply Keeps.ofIte) | (with_reducible apply Keeps.fold) | (with_reducible rfl) | (dsimp only) | intro _ | split | (with_reducible apply Keeps.upd) | rfl

theorem ResKeeps.execSclCalRead {s : State} (c : Cmd) (bay : Nat) : ResKeeps s (execSclCalRead c bay s) := by
  have h := Keeps.refl s
  unfold Sys2Proof.Machine.execSclCalRead
  repeat' first | (with_reducible assumption) | (with_reducible apply AnsKeeps.ofIte) | (with_reducible apply ResKeeps.ofIte) | (with_reducible apply ResKeeps.next) | (with_reducible apply AnsKeeps.done) | (with_reducible apply AnsKeeps.wait) | (with_reducible apply Keeps.runScl) | (with_reducible apply AnsKeeps.okay) | (with_reducible apply Keeps.ofIte) | (with_reducible apply Keeps.fold) | (with_reducible rfl) | (dsimp only) | intro _ | split | (with_reducible apply Keeps.upd) | rfl

theorem Keeps.calTake {s0 s : State} (h : Keeps s0 s) (bay : Nat) (v : CalVals) : Keeps s0 (s.calTake bay v) := by
  unfold Sys2Proof.Machine.State.calTake
  repeat' first | (with_reducible assumption) | (with_reducible apply Keeps.legalChange) | (with_reducible apply Keeps.ofIte) | (with_reducible apply Keeps.fold) | (with_reducible rfl) | (dsimp only) | intro _ | split | (with_reducible apply Keeps.upd) | rfl

theorem ResKeeps.execSclCalWrite {s : State} (c : Cmd) (bay : Nat) (m : KeyMsg) (v : CalVals) : ResKeeps s (execSclCalWrite c bay m v s) := by
  have h := Keeps.refl s
  unfold Sys2Proof.Machine.execSclCalWrite
  repeat' first | (with_reducible assumption) | (with_reducible apply AnsKeeps.ofIte) | (with_reducible apply ResKeeps.ofIte) | (with_reducible apply ResKeeps.next) | (with_reducible apply AnsKeeps.done) | (with_reducible apply AnsKeeps.wait) | (with_reducible apply Keeps.runScl) | (with_reducible apply AnsKeeps.fail) | (with_reducible apply AnsKeeps.logFull) | (with_reducible apply AnsKeeps.okay) | (with_reducible apply Keeps.calTake) | (with_reducible apply AnsKeeps.msgRej) | (with_reducible apply Keeps.storeCtr) | (with_reducible apply Keeps.ofIte) | (with_reducible apply Keeps.fold) | (with_reducible rfl) | (dsimp only) | intro _ | split | (with_reducible apply Keeps.upd) | rfl

theorem ResKeeps.execSclFaultClear {s : State} (c : Cmd) (bay : Nat) (clearMs : Nat) : ResKeeps s (execSclFaultClear c bay clearMs s) := by
  have h := Keeps.refl s
  unfold Sys2Proof.Machine.execSclFaultClear
  repeat' first | (with_reducible assumption) | (with_reducible apply AnsKeeps.ofIte) | (with_reducible apply ResKeeps.ofIte) | (with_reducible apply ResKeeps.next) | (with_reducible apply AnsKeeps.done) | (with_reducible apply AnsKeeps.wait) | (with_reducible apply Keeps.runScl) | (with_reducible apply AnsKeeps.fail) | (with_reducible apply Keeps.mfault) | (with_reducible apply AnsKeeps.logFull) | (with_reducible apply Keeps.setMbay) | (with_reducible apply Keeps.modImdB) | (with_reducible apply AnsKeeps.okay) | (with_reducible apply Keeps.legalChange) | (with_reducible apply Keeps.ofIte) | (with_reducible apply Keeps.fold) | (with_reducible rfl) | (dsimp only) | intro _ | split | (with_reducible apply Keeps.upd) | rfl

theorem ResKeeps.execSclCapture {s : State} (c : Cmd) (bay : Nat) (dst : Nat) (codes : List BayCodes) : ResKeeps s (execSclCapture c bay dst codes s) := by
  have h := Keeps.refl s
  unfold Sys2Proof.Machine.execSclCapture
  repeat' first | (with_reducible assumption) | (with_reducible apply AnsKeeps.ofIte) | (with_reducible apply ResKeeps.ofIte) | (with_reducible apply ResKeeps.next) | (with_reducible apply AnsKeeps.done) | (with_reducible apply AnsKeeps.wait) | (with_reducible apply Keeps.runScl) | (with_reducible apply AnsKeeps.fail) | (with_reducible apply AnsKeeps.okay) | (with_reducible apply Keeps.writeGen) | (with_reducible apply Keeps.ofIte) | (with_reducible apply Keeps.fold) | (with_reducible rfl) | (dsimp only) | intro _ | split | (with_reducible apply Keeps.upd) | rfl

/-! ### ImdCmd -/

theorem Keeps.imdActs {s0 s : State} (h : Keeps s0 s) (n : Nat) (acts : List ImdAct) : Keeps s0 (s.imdActs n acts) := by
  unfold Sys2Proof.Machine.State.imdActs
  repeat' first | (with_reducible assumption) | (with_reducible apply Keeps.imdAct) | (with_reducible apply Keeps.imdEvents) | (with_reducible apply Keeps.ofIte) | (with_reducible apply Keeps.fold) | (with_reducible rfl) | (dsimp only) | intro _ | split | (with_reducible apply Keeps.upd) | rfl

theorem Keeps.imdFollow {s0 s : State} (h : Keeps s0 s) (m : Nat) (n : Nat) (value : Bool) (acts : List ImdAct) : Keeps s0 (s.imdFollow m n value acts) := by
  unfold Sys2Proof.Machine.State.imdFollow
  repeat' first | (with_reducible assumption) | (with_reducible apply Keeps.setImdB) | (with_reducible apply Keeps.imdActs) | (with_reducible apply Keeps.ofIte1) | (with_reducible apply Keeps.fold1) | (with_reducible apply Keeps.ofIte2) | (with_reducible apply Keeps.fold2) | (with_reducible apply Keeps.ofIte) | (with_reducible apply Keeps.fold) | (with_reducible rfl) | (dsimp only) | intro _ | split | (with_reducible apply Keeps.upd) | rfl

theorem ResKeeps.execImdHalfPeriod {s : State} (bay : Nat) (iInf : Int) (residual : Nat) (tau : Nat) (ovr : Bool) : ResKeeps s (execImdHalfPeriod bay iInf residual tau ovr s) := by
  have h := Keeps.refl s
  unfold Sys2Proof.Machine.execImdHalfPeriod
  repeat' first | (with_reducible assumption) | (with_reducible apply ResKeeps.ofIte) | (with_reducible apply ResKeeps.next) | (with_reducible apply AnsKeeps.done) | (with_reducible apply AnsKeeps.wait) | (with_reducible apply Keeps.setImdB) | (with_reducible apply Keeps.imdActs) | (with_reducible apply Keeps.imdFollow) | (with_reducible apply Keeps.settle) | (with_reducible apply Keeps.ofIte1) | (with_reducible apply Keeps.fold1) | (with_reducible apply Keeps.ofIte2) | (with_reducible apply Keeps.fold2) | (with_reducible apply Keeps.ofIte) | (with_reducible apply Keeps.fold) | (with_reducible rfl) | (dsimp only) | intro _ | split | (with_reducible apply Keeps.upd) | rfl

theorem ResKeeps.execImdDriverStuck {s : State} (bay : Nat) : ResKeeps s (execImdDriverStuck bay s) := by
  have h := Keeps.refl s
  unfold Sys2Proof.Machine.execImdDriverStuck
  repeat' first | (with_reducible assumption) | (with_reducible apply ResKeeps.ofIte) | (with_reducible apply ResKeeps.next) | (with_reducible apply AnsKeeps.done) | (with_reducible apply AnsKeeps.wait) | (with_reducible apply Keeps.setImdB) | (with_reducible apply Keeps.imdActs) | (with_reducible apply Keeps.imdFollow) | (with_reducible apply Keeps.settle) | (with_reducible apply Keeps.ofIte) | (with_reducible apply Keeps.fold) | (with_reducible rfl) | (dsimp only) | intro _ | split | (with_reducible apply Keeps.upd) | rfl

theorem Keeps.standing {s0 s : State} (h : Keeps s0 s) (n : Nat) : Keeps s0 (s.standing n) := by
  unfold Sys2Proof.Machine.State.standing
  repeat' first | (with_reducible assumption) | (with_reducible apply Keeps.setImdB) | (with_reducible apply Keeps.setEvt) | (with_reducible apply Keeps.ofIte) | (with_reducible apply Keeps.fold) | (with_reducible rfl) | (dsimp only) | intro _ | split | (with_reducible apply Keeps.upd) | rfl

theorem ResKeeps.execEarthCurrentTrip {s : State} (bay : Nat) : ResKeeps s (execEarthCurrentTrip bay s) := by
  have h := Keeps.refl s
  unfold Sys2Proof.Machine.execEarthCurrentTrip
  repeat' first | (with_reducible assumption) | (with_reducible apply ResKeeps.ofIte) | (with_reducible apply ResKeeps.next) | (with_reducible apply AnsKeeps.done) | (with_reducible apply AnsKeeps.wait) | (with_reducible apply Keeps.standing) | (with_reducible apply Keeps.efTripped) | (with_reducible apply Keeps.settle) | (with_reducible apply Keeps.ofIte) | (with_reducible apply Keeps.fold) | (with_reducible rfl) | (dsimp only) | intro _ | split | (with_reducible apply Keeps.upd) | rfl

theorem ResKeeps.execEfWarning {s : State} (bay : Nat) : ResKeeps s (execEfWarning bay s) := by
  have h := Keeps.refl s
  unfold Sys2Proof.Machine.execEfWarning
  repeat' first | (with_reducible assumption) | (with_reducible apply ResKeeps.ofIte) | (with_reducible apply ResKeeps.next) | (with_reducible apply AnsKeeps.done) | (with_reducible apply AnsKeeps.wait) | (with_reducible apply Keeps.setImdB) | (with_reducible apply Keeps.setEvt) | (with_reducible apply Keeps.sessEvent) | (with_reducible apply Keeps.ofIte) | (with_reducible apply Keeps.fold) | (with_reducible rfl) | (dsimp only) | intro _ | split | (with_reducible apply Keeps.upd) | rfl

theorem ResKeeps.execAlarmLineTimeout {s : State} (bay : Nat) : ResKeeps s (execAlarmLineTimeout bay s) := by
  have h := Keeps.refl s
  unfold Sys2Proof.Machine.execAlarmLineTimeout
  repeat' first | (with_reducible assumption) | (with_reducible apply ResKeeps.ofIte) | (with_reducible apply ResKeeps.next) | (with_reducible apply AnsKeeps.done) | (with_reducible apply AnsKeeps.wait) | (with_reducible apply Keeps.modImdB) | (with_reducible apply Keeps.settle) | (with_reducible apply Keeps.ofIte) | (with_reducible apply Keeps.fold) | (with_reducible rfl) | (dsimp only) | intro _ | split | (with_reducible apply Keeps.upd) | rfl

theorem ResKeeps.execImdSelftest {s : State} (c : Cmd) (bay : Nat) (r1 : Nat) (r2 : Nat) : ResKeeps s (execImdSelftest c bay r1 r2 s) := by
  have h := Keeps.refl s
  unfold Sys2Proof.Machine.execImdSelftest
  repeat' first | (with_reducible assumption) | (with_reducible apply AnsKeeps.ofIte) | (with_reducible apply ResKeeps.ofIte) | (with_reducible apply ResKeeps.next) | (with_reducible apply AnsKeeps.done) | (with_reducible apply AnsKeeps.wait) | (with_reducible apply Keeps.runCmd) | (with_reducible apply AnsKeeps.fail) | (with_reducible apply AnsKeeps.okay) | (with_reducible apply Keeps.modImdB) | (with_reducible apply Keeps.setImdB) | (with_reducible apply Keeps.setEvt) | (with_reducible apply Keeps.ofIte) | (with_reducible apply Keeps.fold) | (with_reducible rfl) | (dsimp only) | intro _ | split | (with_reducible apply Keeps.upd) | rfl

theorem ResKeeps.execImdTripTest {s : State} (c : Cmd) (bay : Nat) (us : Nat) : ResKeeps s (execImdTripTest c bay us s) := by
  have h := Keeps.refl s
  unfold Sys2Proof.Machine.execImdTripTest
  repeat' first | (with_reducible assumption) | (with_reducible apply AnsKeeps.ofIte) | (with_reducible apply ResKeeps.ofIte) | (with_reducible apply ResKeeps.next) | (with_reducible apply AnsKeeps.done) | (with_reducible apply AnsKeeps.wait) | (with_reducible apply Keeps.runCmd) | (with_reducible apply AnsKeeps.fail) | (with_reducible apply AnsKeeps.okay) | (with_reducible apply Keeps.modBay) | (with_reducible apply Keeps.ofIte) | (with_reducible apply Keeps.fold) | (with_reducible rfl) | (dsimp only) | intro _ | split | (with_reducible apply Keeps.upd) | rfl

end Sys2Proof.Machine
end

