-- ==== Sys2Proof/Laws/KeepsSafe.lean ====
section
/-! SUPPORT. What every function keeps (`Keeps`): Tally, safety, Hinge and Peavey. -/
namespace Sys2Proof.Machine

/-! ### TallyCmd -/

theorem ResKeeps.execLeaseExpiry {s : State} : ResKeeps s (execLeaseExpiry s) := by
  have h := Keeps.refl s
  unfold Sys2Proof.Machine.execLeaseExpiry
  repeat' first | (with_reducible assumption) | (with_reducible apply ResKeeps.ofIte) | (with_reducible apply ResKeeps.next) | (with_reducible apply AnsKeeps.done) | (with_reducible apply AnsKeeps.wait) | (with_reducible apply Keeps.ofIte) | (with_reducible apply Keeps.fold) | (with_reducible rfl) | (dsimp only) | intro _ | split | (with_reducible apply Keeps.upd) | rfl

theorem ResKeeps.execStartModeTimeout {s : State} : ResKeeps s (execStartModeTimeout s) := by
  have h := Keeps.refl s
  unfold Sys2Proof.Machine.execStartModeTimeout
  repeat' first | (with_reducible assumption) | (with_reducible apply ResKeeps.ofIte) | (with_reducible apply ResKeeps.next) | (with_reducible apply AnsKeeps.done) | (with_reducible apply AnsKeeps.wait) | (with_reducible apply Keeps.ofIte) | (with_reducible apply Keeps.fold) | (with_reducible rfl) | (dsimp only) | intro _ | split | (with_reducible apply Keeps.upd) | rfl

theorem Keeps.tlyTake {s0 s : State} (h : Keeps s0 s) (m : TlyMsgOp) : Keeps s0 (s.tlyTake m) := by
  unfold Sys2Proof.Machine.State.tlyTake
  repeat' first | (with_reducible assumption) | (with_reducible apply Keeps.noteEv) | (with_reducible apply Keeps.ofIte) | (with_reducible apply Keeps.fold) | (with_reducible rfl) | (dsimp only) | intro _ | split | (with_reducible apply Keeps.upd) | rfl

theorem ResKeeps.execTlyMsg {s : State} (c : Cmd) (m : TlyMsgOp) : ResKeeps s (execTlyMsg c m s) := by
  have h := Keeps.refl s
  unfold Sys2Proof.Machine.execTlyMsg
  repeat' first | (with_reducible assumption) | (with_reducible apply AnsKeeps.ofIte) | (with_reducible apply ResKeeps.ofIte) | (with_reducible apply ResKeeps.next) | (with_reducible apply AnsKeeps.done) | (with_reducible apply AnsKeeps.wait) | (with_reducible apply Keeps.runCmd) | (with_reducible apply Keeps.setEvt) | (with_reducible apply AnsKeeps.okay) | (with_reducible apply Keeps.tlyTake) | (with_reducible apply Keeps.ofIte) | (with_reducible apply Keeps.fold) | (with_reducible rfl) | (dsimp only) | intro _ | split | (with_reducible apply Keeps.upd) | rfl

theorem ResKeeps.execTlyRecRead {s : State} (c : Cmd) (recno : Nat) (dst : Nat) : ResKeeps s (execTlyRecRead c recno dst s) := by
  have h := Keeps.refl s
  unfold Sys2Proof.Machine.execTlyRecRead
  repeat' first | (with_reducible assumption) | (with_reducible apply AnsKeeps.ofIte) | (with_reducible apply ResKeeps.ofIte) | (with_reducible apply ResKeeps.next) | (with_reducible apply AnsKeeps.done) | (with_reducible apply AnsKeeps.wait) | (with_reducible apply Keeps.runCmd) | (with_reducible apply AnsKeeps.fail) | (with_reducible apply AnsKeeps.okay) | (with_reducible apply Keeps.writeGen) | (with_reducible apply Keeps.ofIte) | (with_reducible apply Keeps.fold) | (with_reducible rfl) | (dsimp only) | intro _ | split | (with_reducible apply Keeps.upd) | rfl

theorem ResKeeps.execTlyRecAck {s : State} (c : Cmd) (first : Nat) (count : Nat) : ResKeeps s (execTlyRecAck c first count s) := by
  have h := Keeps.refl s
  unfold Sys2Proof.Machine.execTlyRecAck
  repeat' first | (with_reducible assumption) | (with_reducible apply AnsKeeps.ofIte) | (with_reducible apply ResKeeps.ofIte) | (with_reducible apply ResKeeps.next) | (with_reducible apply AnsKeeps.done) | (with_reducible apply AnsKeeps.wait) | (with_reducible apply Keeps.runCmd) | (with_reducible apply AnsKeeps.fail) | (with_reducible apply Keeps.modRcd) | (with_reducible apply Keeps.ofIte) | (with_reducible apply Keeps.fold) | (with_reducible rfl) | (dsimp only) | intro _ | split | (with_reducible apply Keeps.upd) | rfl

theorem ResKeeps.execTlyRegSnapshot {s : State} (c : Cmd) (dst : Nat) : ResKeeps s (execTlyRegSnapshot c dst s) := by
  have h := Keeps.refl s
  unfold Sys2Proof.Machine.execTlyRegSnapshot
  repeat' first | (with_reducible assumption) | (with_reducible apply AnsKeeps.ofIte) | (with_reducible apply ResKeeps.ofIte) | (with_reducible apply ResKeeps.next) | (with_reducible apply AnsKeeps.done) | (with_reducible apply AnsKeeps.wait) | (with_reducible apply Keeps.runCmd) | (with_reducible apply AnsKeeps.fail) | (with_reducible apply AnsKeeps.okay) | (with_reducible apply Keeps.writeGen) | (with_reducible apply Keeps.ofIte) | (with_reducible apply Keeps.fold) | (with_reducible rfl) | (dsimp only) | intro _ | split | (with_reducible apply Keeps.upd) | rfl

theorem ResKeeps.execTlyReadSigned {s : State} (c : Cmd) (bay : Nat) (dst : Nat) : ResKeeps s (execTlyReadSigned c bay dst s) := by
  have h := Keeps.refl s
  unfold Sys2Proof.Machine.execTlyReadSigned
  repeat' first | (with_reducible assumption) | (with_reducible apply AnsKeeps.ofIte) | (with_reducible apply ResKeeps.ofIte) | (with_reducible apply ResKeeps.next) | (with_reducible apply AnsKeeps.done) | (with_reducible apply AnsKeeps.wait) | (with_reducible apply Keeps.runCmd) | (with_reducible apply AnsKeeps.fail) | (with_reducible apply Keeps.reading) | (with_reducible apply AnsKeeps.okay) | (with_reducible apply Keeps.writeGen) | (with_reducible apply Keeps.ofIte1) | (with_reducible apply Keeps.fold1) | (with_reducible apply Keeps.ofIte2) | (with_reducible apply Keeps.fold2) | (with_reducible apply Keeps.ofIte) | (with_reducible apply Keeps.fold) | (with_reducible rfl) | (dsimp only) | intro _ | split | (with_reducible apply Keeps.upd) | rfl

theorem ResKeeps.execTlyProfileRead {s : State} (c : Cmd) (ch : Nat) (first : Nat) (count : Nat) (dst : Nat) : ResKeeps s (execTlyProfileRead c ch first count dst s) := by
  have h := Keeps.refl s
  unfold Sys2Proof.Machine.execTlyProfileRead
  repeat' first | (with_reducible assumption) | (with_reducible apply AnsKeeps.ofIte) | (with_reducible apply ResKeeps.ofIte) | (with_reducible apply ResKeeps.next) | (with_reducible apply AnsKeeps.done) | (with_reducible apply AnsKeeps.wait) | (with_reducible apply Keeps.runCmd) | (with_reducible apply AnsKeeps.fail) | (with_reducible apply AnsKeeps.okay) | (with_reducible apply Keeps.writeGen) | (with_reducible apply Keeps.ofIte1) | (with_reducible apply Keeps.fold1) | (with_reducible apply Keeps.ofIte2) | (with_reducible apply Keeps.fold2) | (with_reducible apply Keeps.ofIte) | (with_reducible apply Keeps.fold) | (with_reducible rfl) | (dsimp only) | intro _ | split | (with_reducible apply Keeps.upd) | rfl

theorem ResKeeps.execTlySrRead {s : State} (c : Cmd) (first : Nat) (count : Nat) (dst : Nat) : ResKeeps s (execTlySrRead c first count dst s) := by
  have h := Keeps.refl s
  unfold Sys2Proof.Machine.execTlySrRead
  repeat' first | (with_reducible assumption) | (with_reducible apply AnsKeeps.ofIte) | (with_reducible apply ResKeeps.ofIte) | (with_reducible apply ResKeeps.next) | (with_reducible apply AnsKeeps.done) | (with_reducible apply AnsKeeps.wait) | (with_reducible apply Keeps.runCmd) | (with_reducible apply AnsKeeps.fail) | (with_reducible apply AnsKeeps.okay) | (with_reducible apply Keeps.writeGen) | (with_reducible apply Keeps.ofIte1) | (with_reducible apply Keeps.fold1) | (with_reducible apply Keeps.ofIte2) | (with_reducible apply Keeps.fold2) | (with_reducible apply Keeps.ofIte) | (with_reducible apply Keeps.fold) | (with_reducible rfl) | (dsimp only) | intro _ | split | (with_reducible apply Keeps.upd) | rfl

theorem ResKeeps.execTlyCeilSet {s : State} (c : Cmd) (watts : Word) : ResKeeps s (execTlyCeilSet c watts s) := by
  have h := Keeps.refl s
  unfold Sys2Proof.Machine.execTlyCeilSet
  repeat' first | (with_reducible assumption) | (with_reducible apply AnsKeeps.ofIte) | (with_reducible apply ResKeeps.ofIte) | (with_reducible apply ResKeeps.next) | (with_reducible apply AnsKeeps.done) | (with_reducible apply AnsKeeps.wait) | (with_reducible apply Keeps.runCmd) | (with_reducible apply AnsKeeps.fail) | (with_reducible apply AnsKeeps.okay) | (with_reducible apply Keeps.ofIte) | (with_reducible apply Keeps.fold) | (with_reducible rfl) | (dsimp only) | intro _ | split | (with_reducible apply Keeps.upd) | rfl

theorem ResKeeps.execTlyMdRead {s : State} (c : Cmd) : ResKeeps s (execTlyMdRead c s) := by
  have h := Keeps.refl s
  unfold Sys2Proof.Machine.execTlyMdRead
  repeat' first | (with_reducible assumption) | (with_reducible apply AnsKeeps.ofIte) | (with_reducible apply ResKeeps.ofIte) | (with_reducible apply ResKeeps.next) | (with_reducible apply AnsKeeps.done) | (with_reducible apply AnsKeeps.wait) | (with_reducible apply Keeps.runCmd) | (with_reducible apply AnsKeeps.fail) | (with_reducible apply AnsKeeps.okay) | (with_reducible apply Keeps.ofIte1) | (with_reducible apply Keeps.fold1) | (with_reducible apply Keeps.ofIte) | (with_reducible apply Keeps.fold) | (with_reducible rfl) | (dsimp only) | intro _ | split | (with_reducible apply Keeps.upd) | rfl

/-! ### SafetyCmd -/

theorem ResKeeps.execSafeClockLoss {s : State} : ResKeeps s (execSafeClockLoss s) := by
  have h := Keeps.refl s
  unfold Sys2Proof.Machine.execSafeClockLoss
  repeat' first | (with_reducible assumption) | (with_reducible apply ResKeeps.ofIte) | (with_reducible apply ResKeeps.next) | (with_reducible apply AnsKeeps.done) | (with_reducible apply AnsKeeps.wait) | (with_reducible apply Keeps.guard) | (with_reducible apply Keeps.endAllSafe) | (with_reducible apply Keeps.settle) | (with_reducible apply Keeps.ofIte) | (with_reducible apply Keeps.fold) | (with_reducible rfl) | (dsimp only) | intro _ | split | (with_reducible apply Keeps.upd) | rfl

theorem ResKeeps.execHeartbeatLineTimeout {s : State} : ResKeeps s (execHeartbeatLineTimeout s) := by
  have h := Keeps.refl s
  unfold Sys2Proof.Machine.execHeartbeatLineTimeout
  repeat' first | (with_reducible assumption) | (with_reducible apply ResKeeps.ofIte) | (with_reducible apply ResKeeps.next) | (with_reducible apply AnsKeeps.done) | (with_reducible apply AnsKeeps.wait) | (with_reducible apply Keeps.guard) | (with_reducible apply Keeps.endAllSafe) | (with_reducible apply Keeps.settle) | (with_reducible apply Keeps.ofIte) | (with_reducible apply Keeps.fold) | (with_reducible rfl) | (dsimp only) | intro _ | split | (with_reducible apply Keeps.upd) | rfl

theorem ResKeeps.execSparDiagnostic {s : State} (cause : Nat) (detail : Nat) (pass : Bool) : ResKeeps s (execSparDiagnostic cause detail pass s) := by
  have h := Keeps.refl s
  unfold Sys2Proof.Machine.execSparDiagnostic
  repeat' first | (with_reducible assumption) | (with_reducible apply ResKeeps.ofIte) | (with_reducible apply ResKeeps.next) | (with_reducible apply AnsKeeps.done) | (with_reducible apply AnsKeeps.wait) | (with_reducible apply Keeps.safeStop) | (with_reducible apply Keeps.settle) | (with_reducible apply Keeps.ofIte) | (with_reducible apply Keeps.fold) | (with_reducible rfl) | (dsimp only) | intro _ | split | (with_reducible apply Keeps.upd) | rfl

theorem ResKeeps.execGateTest {s : State} (j : Nat) (pass : Bool) : ResKeeps s (execGateTest j pass s) := by
  have h := Keeps.refl s
  unfold Sys2Proof.Machine.execGateTest
  repeat' first | (with_reducible assumption) | (with_reducible apply ResKeeps.ofIte) | (with_reducible apply ResKeeps.next) | (with_reducible apply AnsKeeps.done) | (with_reducible apply AnsKeeps.wait) | (with_reducible apply Keeps.modGate) | (with_reducible apply Keeps.settle) | (with_reducible apply Keeps.safeStop) | (with_reducible apply Keeps.ofIte) | (with_reducible apply Keeps.fold) | (with_reducible rfl) | (dsimp only) | intro _ | split | (with_reducible apply Keeps.upd) | rfl

theorem ResKeeps.execGateTestOverdue {s : State} (j : Nat) : ResKeeps s (execGateTestOverdue j s) := by
  have h := Keeps.refl s
  unfold Sys2Proof.Machine.execGateTestOverdue
  repeat' first | (with_reducible assumption) | (with_reducible apply ResKeeps.ofIte) | (with_reducible apply ResKeeps.next) | (with_reducible apply AnsKeeps.done) | (with_reducible apply AnsKeeps.wait) | (with_reducible apply Keeps.modGate) | (with_reducible apply Keeps.ofIte) | (with_reducible apply Keeps.fold) | (with_reducible rfl) | (dsimp only) | intro _ | split | (with_reducible apply Keeps.upd) | rfl

theorem Keeps.tripOne {s0 s : State} (h : Keeps s0 s) (i : Nat) : Keeps s0 (s.tripOne i) := by
  unfold Sys2Proof.Machine.State.tripOne
  repeat' first | (with_reducible assumption) | (with_reducible apply Keeps.latchTrip) | (with_reducible apply Keeps.ofIte) | (with_reducible apply Keeps.fold) | (with_reducible rfl) | (dsimp only) | intro _ | split | (with_reducible apply Keeps.upd) | rfl

theorem ResKeeps.execSafetyInputDemand {s : State} (input : Nat) (opened : Bool) : ResKeeps s (execSafetyInputDemand input opened s) := by
  have h := Keeps.refl s
  unfold Sys2Proof.Machine.execSafetyInputDemand
  repeat' first | (with_reducible assumption) | (with_reducible apply ResKeeps.ofIte) | (with_reducible apply ResKeeps.next) | (with_reducible apply AnsKeeps.done) | (with_reducible apply AnsKeeps.wait) | (with_reducible apply Keeps.modSin) | (with_reducible apply Keeps.tripOne) | (with_reducible apply Keeps.settle) | (with_reducible apply Keeps.ofIte) | (with_reducible apply Keeps.fold) | (with_reducible rfl) | (dsimp only) | intro _ | split | (with_reducible apply Keeps.upd) | rfl

theorem Keeps.pulseSeen {s0 s : State} (h : Keeps s0 s) (k : Nat) (i : Nat) (stuck : Bool) (cross : Bool) : Keeps s0 (s.pulseSeen k i stuck cross) := by
  unfold Sys2Proof.Machine.State.pulseSeen
  repeat' first | (with_reducible assumption) | (with_reducible apply Keeps.setSin) | (with_reducible apply Keeps.latchFault) | (with_reducible apply Keeps.ofIte) | (with_reducible apply Keeps.fold) | (with_reducible rfl) | (dsimp only) | intro _ | split | (with_reducible apply Keeps.upd) | rfl

theorem ResKeeps.execTestPulse {s : State} (k : Nat) (readLow : Bool) (readHigh : Bool) (high : BitVec 16) (cross : BitVec 16) : ResKeeps s (execTestPulse k readLow readHigh high cross s) := by
  have h := Keeps.refl s
  unfold Sys2Proof.Machine.execTestPulse
  repeat' first | (with_reducible assumption) | (with_reducible apply ResKeeps.ofIte) | (with_reducible apply ResKeeps.next) | (with_reducible apply AnsKeeps.done) | (with_reducible apply AnsKeeps.wait) | (with_reducible apply Keeps.pulseSeen) | (with_reducible apply Keeps.latchFault) | (with_reducible apply Keeps.settle) | (with_reducible apply Keeps.ofIte) | (with_reducible apply Keeps.fold) | (with_reducible rfl) | (dsimp only) | intro _ | split | (with_reducible apply Keeps.upd) | rfl

theorem ResKeeps.execDiscrepancyTimeout {s : State} (pair : Nat) : ResKeeps s (execDiscrepancyTimeout pair s) := by
  have h := Keeps.refl s
  unfold Sys2Proof.Machine.execDiscrepancyTimeout
  repeat' first | (with_reducible assumption) | (with_reducible apply ResKeeps.ofIte) | (with_reducible apply ResKeeps.next) | (with_reducible apply AnsKeeps.done) | (with_reducible apply AnsKeeps.wait) | (with_reducible apply Keeps.latchFault) | (with_reducible apply Keeps.settle) | (with_reducible apply Keeps.ofIte) | (with_reducible apply Keeps.fold) | (with_reducible rfl) | (dsimp only) | intro _ | split | (with_reducible apply Keeps.upd) | rfl

theorem Keeps.clearTrip {s0 s : State} (h : Keeps s0 s) (i : Nat) : Keeps s0 (s.clearTrip i) := by
  unfold Sys2Proof.Machine.State.clearTrip
  repeat' first | (with_reducible assumption) | (with_reducible apply Keeps.modSin) | (with_reducible apply Keeps.ofIte) | (with_reducible apply Keeps.fold) | (with_reducible rfl) | (dsimp only) | intro _ | split | (with_reducible apply Keeps.upd) | rfl

theorem ResKeeps.execTripAutoClear {s : State} (input : Nat) : ResKeeps s (execTripAutoClear input s) := by
  have h := Keeps.refl s
  unfold Sys2Proof.Machine.execTripAutoClear
  repeat' first | (with_reducible assumption) | (with_reducible apply ResKeeps.ofIte) | (with_reducible apply ResKeeps.next) | (with_reducible apply AnsKeeps.done) | (with_reducible apply AnsKeeps.wait) | (with_reducible apply Keeps.clearTrip) | (with_reducible apply Keeps.settle) | (with_reducible apply Keeps.ofIte) | (with_reducible apply Keeps.fold) | (with_reducible rfl) | (dsimp only) | intro _ | split | (with_reducible apply Keeps.upd) | rfl

theorem ResKeeps.execResetButtonRelease {s : State} (input : Nat) (ms : Nat) (clearMs : Tab Nat) : ResKeeps s (execResetButtonRelease input ms clearMs s) := by
  have h := Keeps.refl s
  unfold Sys2Proof.Machine.execResetButtonRelease
  repeat' first | (with_reducible assumption) | (with_reducible apply ResKeeps.ofIte) | (with_reducible apply ResKeeps.next) | (with_reducible apply AnsKeeps.done) | (with_reducible apply AnsKeeps.wait) | (with_reducible apply Keeps.reset) | (with_reducible apply Keeps.clearTrip) | (with_reducible apply Keeps.settle) | (with_reducible apply Keeps.ofIte) | (with_reducible apply Keeps.fold) | (with_reducible rfl) | (dsimp only) | intro _ | split | (with_reducible apply Keeps.upd) | rfl

theorem ResKeeps.execSoDarkPulse {s : State} (m : Nat) (readOk : Bool) : ResKeeps s (execSoDarkPulse m readOk s) := by
  have h := Keeps.refl s
  unfold Sys2Proof.Machine.execSoDarkPulse
  repeat' first | (with_reducible assumption) | (with_reducible apply ResKeeps.ofIte) | (with_reducible apply ResKeeps.next) | (with_reducible apply AnsKeeps.done) | (with_reducible apply AnsKeeps.wait) | (with_reducible apply Keeps.setGate) | (with_reducible apply Keeps.settle) | (with_reducible apply Keeps.ofIte) | (with_reducible apply Keeps.fold) | (with_reducible rfl) | (dsimp only) | intro _ | split | (with_reducible apply Keeps.upd) | rfl

theorem Keeps.pwdClose {s0 s : State} (h : Keeps s0 s) : Keeps s0 (s.pwdClose) := by
  unfold Sys2Proof.Machine.State.pwdClose
  repeat' first | (with_reducible assumption) | (with_reducible apply Keeps.ofIte) | (with_reducible apply Keeps.fold) | (with_reducible rfl) | (dsimp only) | intro _ | split | (with_reducible apply Keeps.upd) | rfl

theorem ResKeeps.execPwdSessionTimeout {s : State} : ResKeeps s (execPwdSessionTimeout s) := by
  have h := Keeps.refl s
  unfold Sys2Proof.Machine.execPwdSessionTimeout
  repeat' first | (with_reducible assumption) | (with_reducible apply ResKeeps.ofIte) | (with_reducible apply ResKeeps.next) | (with_reducible apply AnsKeeps.done) | (with_reducible apply AnsKeeps.wait) | (with_reducible apply Keeps.pwdClose) | (with_reducible apply Keeps.ofIte) | (with_reducible apply Keeps.fold) | (with_reducible rfl) | (dsimp only) | intro _ | split | (with_reducible apply Keeps.upd) | rfl

theorem ResKeeps.execLockoutExpiry {s : State} : ResKeeps s (execLockoutExpiry s) := by
  have h := Keeps.refl s
  unfold Sys2Proof.Machine.execLockoutExpiry
  repeat' first | (with_reducible assumption) | (with_reducible apply ResKeeps.ofIte) | (with_reducible apply ResKeeps.next) | (with_reducible apply AnsKeeps.done) | (with_reducible apply AnsKeeps.wait) | (with_reducible apply Keeps.ofIte) | (with_reducible apply Keeps.fold) | (with_reducible rfl) | (dsimp only) | intro _ | split | (with_reducible apply Keeps.upd) | rfl

theorem Keeps.pwdWrong {s0 s : State} (h : Keeps s0 s) : Keeps s0 (s.pwdWrong) := by
  unfold Sys2Proof.Machine.State.pwdWrong
  repeat' first | (with_reducible assumption) | (with_reducible apply Keeps.setEvt) | (with_reducible apply Keeps.ofIte) | (with_reducible apply Keeps.fold) | (with_reducible rfl) | (dsimp only) | intro _ | split | (with_reducible apply Keeps.upd) | rfl

theorem Keeps.runSaf {s0 s : State} (h : Keeps s0 s) (c : Cmd) (opcode : Nat) (body : State → Answer) (hb : ∀ u, Keeps s0 u → AnsKeeps s0 (body u)) : Keeps s0 (s.runSaf c opcode body) := by
  unfold Sys2Proof.Machine.State.runSaf
  repeat' first | (with_reducible assumption) | (with_reducible apply hb) | (with_reducible apply AnsKeeps.ofIte) | (with_reducible apply Keeps.runSettle) | (with_reducible apply AnsKeeps.fail) | (with_reducible apply Keeps.ofIte) | (with_reducible apply Keeps.fold) | (with_reducible rfl) | (dsimp only) | intro _ | split | (with_reducible apply Keeps.upd) | rfl

theorem ResKeeps.execSafPwdOpen {s : State} (c : Cmd) (pwd : List Byte) : ResKeeps s (execSafPwdOpen c pwd s) := by
  have h := Keeps.refl s
  unfold Sys2Proof.Machine.execSafPwdOpen
  repeat' first | (with_reducible assumption) | (with_reducible apply AnsKeeps.ofIte) | (with_reducible apply ResKeeps.ofIte) | (with_reducible apply ResKeeps.next) | (with_reducible apply AnsKeeps.done) | (with_reducible apply AnsKeeps.wait) | (with_reducible apply Keeps.runSaf) | (with_reducible apply AnsKeeps.fail) | (with_reducible apply AnsKeeps.okay) | (with_reducible apply Keeps.pwdWrong) | (with_reducible apply Keeps.ofIte2) | (with_reducible apply Keeps.fold2) | (with_reducible apply Keeps.ofIte) | (with_reducible apply Keeps.fold) | (with_reducible rfl) | (dsimp only) | intro _ | split | (with_reducible apply Keeps.upd) | rfl

theorem ResKeeps.execSafPwdClose {s : State} (c : Cmd) : ResKeeps s (execSafPwdClose c s) := by
  have h := Keeps.refl s
  unfold Sys2Proof.Machine.execSafPwdClose
  repeat' first | (with_reducible assumption) | (with_reducible apply AnsKeeps.ofIte) | (with_reducible apply ResKeeps.ofIte) | (with_reducible apply ResKeeps.next) | (with_reducible apply AnsKeeps.done) | (with_reducible apply AnsKeeps.wait) | (with_reducible apply Keeps.runCmd) | (with_reducible apply AnsKeeps.okay) | (with_reducible apply Keeps.pwdClose) | (with_reducible apply AnsKeeps.fail) | (with_reducible apply Keeps.ofIte) | (with_reducible apply Keeps.fold) | (with_reducible rfl) | (dsimp only) | intro _ | split | (with_reducible apply Keeps.upd) | rfl

theorem Keeps.safNote {s0 s : State} (h : Keeps s0 s) (kind : Nat) (sd : Nat) (old : Nat) (new : Nat) : Keeps s0 (s.safNote kind sd old new) := by
  unfold Sys2Proof.Machine.State.safNote
  repeat' first | (with_reducible assumption) | (with_reducible apply Keeps.safLogPut) | (with_reducible apply Keeps.ofIte) | (with_reducible apply Keeps.fold) | (with_reducible rfl) | (dsimp only) | intro _ | split | (with_reducible apply Keeps.upd) | rfl

theorem Keeps.newPassword {s0 s : State} (h : Keeps s0 s) (pwd : List Byte) : Keeps s0 (s.newPassword pwd) := by
  unfold Sys2Proof.Machine.State.newPassword
  repeat' first | (with_reducible assumption) | (with_reducible apply Keeps.draw) | (with_reducible apply Keeps.ofIte1) | (with_reducible apply Keeps.fold1) | (with_reducible apply Keeps.ofIte2) | (with_reducible apply Keeps.fold2) | (with_reducible apply Keeps.ofIte) | (with_reducible apply Keeps.fold) | (with_reducible rfl) | (dsimp only) | intro _ | split | (with_reducible apply Keeps.upd) | rfl

theorem ResKeeps.execSafPwdChange {s : State} (c : Cmd) (pwd : List Byte) : ResKeeps s (execSafPwdChange c pwd s) := by
  have h := Keeps.refl s
  unfold Sys2Proof.Machine.execSafPwdChange
  repeat' first | (with_reducible assumption) | (with_reducible apply AnsKeeps.ofIte) | (with_reducible apply ResKeeps.ofIte) | (with_reducible apply ResKeeps.next) | (with_reducible apply AnsKeeps.done) | (with_reducible apply AnsKeeps.wait) | (with_reducible apply Keeps.runSaf) | (with_reducible apply AnsKeeps.fail) | (with_reducible apply Keeps.safNote) | (with_reducible apply AnsKeeps.okay) | (with_reducible apply Keeps.newPassword) | (with_reducible apply Keeps.ofIte) | (with_reducible apply Keeps.fold) | (with_reducible rfl) | (dsimp only) | intro _ | split | (with_reducible apply Keeps.upd) | rfl

theorem ResKeeps.execSafPwdReset {s : State} (c : Cmd) (m : KeyMsg) (pwd : List Byte) : ResKeeps s (execSafPwdReset c m pwd s) := by
  have h := Keeps.refl s
  unfold Sys2Proof.Machine.execSafPwdReset
  repeat' first | (with_reducible assumption) | (with_reducible apply AnsKeeps.ofIte) | (with_reducible apply ResKeeps.ofIte) | (with_reducible apply ResKeeps.next) | (with_reducible apply AnsKeeps.done) | (with_reducible apply AnsKeeps.wait) | (with_reducible apply Keeps.runCmd) | (with_reducible apply AnsKeeps.msgRej) | (with_reducible apply AnsKeeps.fail) | (with_reducible apply Keeps.storeCtr) | (with_reducible apply Keeps.safNote) | (with_reducible apply AnsKeeps.okay) | (with_reducible apply Keeps.newPassword) | (with_reducible apply Keeps.ofIte) | (with_reducible apply Keeps.fold) | (with_reducible rfl) | (dsimp only) | intro _ | split | (with_reducible apply Keeps.upd) | rfl

theorem ResKeeps.execSafParamRead {s : State} (c : Cmd) (first : Nat) (count : Nat) (dst : Nat) : ResKeeps s (execSafParamRead c first count dst s) := by
  have h := Keeps.refl s
  unfold Sys2Proof.Machine.execSafParamRead
  repeat' first | (with_reducible assumption) | (with_reducible apply AnsKeeps.ofIte) | (with_reducible apply ResKeeps.ofIte) | (with_reducible apply ResKeeps.next) | (with_reducible apply AnsKeeps.done) | (with_reducible apply AnsKeeps.wait) | (with_reducible apply Keeps.runCmd) | (with_reducible apply AnsKeeps.fail) | (with_reducible apply AnsKeeps.okay) | (with_reducible apply Keeps.writeGen) | (with_reducible apply Keeps.ofIte1) | (with_reducible apply Keeps.fold1) | (with_reducible apply Keeps.ofIte2) | (with_reducible apply Keeps.fold2) | (with_reducible apply Keeps.ofIte) | (with_reducible apply Keeps.fold) | (with_reducible rfl) | (dsimp only) | intro _ | split | (with_reducible apply Keeps.upd) | rfl

theorem ResKeeps.execSafParamSet {s : State} (c : Cmd) (pairs : List (Nat × DWord)) : ResKeeps s (execSafParamSet c pairs s) := by
  have h := Keeps.refl s
  unfold Sys2Proof.Machine.execSafParamSet
  repeat' first | (with_reducible assumption) | (with_reducible apply AnsKeeps.ofIte) | (with_reducible apply ResKeeps.ofIte) | (with_reducible apply ResKeeps.next) | (with_reducible apply AnsKeeps.done) | (with_reducible apply AnsKeeps.wait) | (with_reducible apply Keeps.runSaf) | (with_reducible apply AnsKeeps.fail) | (with_reducible apply AnsKeeps.okay) | (with_reducible apply Keeps.ofIte1) | (with_reducible apply Keeps.fold1) | (with_reducible apply Keeps.ofIte2) | (with_reducible apply Keeps.fold2) | (with_reducible apply Keeps.ofIte) | (with_reducible apply Keeps.fold) | (with_reducible rfl) | (dsimp only) | intro _ | split | (with_reducible apply Keeps.upd) | rfl

theorem Keeps.paramCommit {s0 s : State} (h : Keeps s0 s) (sd : Nat) (t : Tab (Option DWord)) (outs : List Nat) : Keeps s0 (s.paramCommit sd t outs) := by
  unfold Sys2Proof.Machine.State.paramCommit
  repeat' first | (with_reducible assumption) | (with_reducible apply Keeps.safLogPut) | (with_reducible apply Keeps.tripOne) | (with_reducible apply Keeps.applyPointParams) | (with_reducible apply Keeps.setEvt) | (with_reducible apply Keeps.ofIte1) | (with_reducible apply Keeps.fold1) | (with_reducible apply Keeps.ofIte2) | (with_reducible apply Keeps.fold2) | (with_reducible apply Keeps.ofIte) | (with_reducible apply Keeps.fold) | (with_reducible rfl) | (dsimp only) | intro _ | split | (with_reducible apply Keeps.upd) | rfl

theorem ResKeeps.execSafParamCommit {s : State} (c : Cmd) : ResKeeps s (execSafParamCommit c s) := by
  have h := Keeps.refl s
  unfold Sys2Proof.Machine.execSafParamCommit
  repeat' first | (with_reducible assumption) | (with_reducible apply AnsKeeps.ofIte) | (with_reducible apply ResKeeps.ofIte) | (with_reducible apply ResKeeps.next) | (with_reducible apply AnsKeeps.done) | (with_reducible apply AnsKeeps.wait) | (with_reducible apply Keeps.runSaf) | (with_reducible apply AnsKeeps.fail) | (with_reducible apply AnsKeeps.okay) | (with_reducible apply Keeps.paramCommit) | (with_reducible apply Keeps.ofIte1) | (with_reducible apply Keeps.fold1) | (with_reducible apply Keeps.ofIte2) | (with_reducible apply Keeps.fold2) | (with_reducible apply Keeps.ofIte) | (with_reducible apply Keeps.fold) | (with_reducible rfl) | (dsimp only) | intro _ | split | (with_reducible apply Keeps.upd) | rfl

theorem ResKeeps.execSafParamConfirm {s : State} (c : Cmd) (crc : Word) : ResKeeps s (execSafParamConfirm c crc s) := by
  have h := Keeps.refl s
  unfold Sys2Proof.Machine.execSafParamConfirm
  repeat' first | (with_reducible assumption) | (with_reducible apply AnsKeeps.ofIte) | (with_reducible apply ResKeeps.ofIte) | (with_reducible apply ResKeeps.next) | (with_reducible apply AnsKeeps.done) | (with_reducible apply AnsKeeps.wait) | (with_reducible apply Keeps.runSaf) | (with_reducible apply AnsKeeps.fail) | (with_reducible apply Keeps.safNote) | (with_reducible apply AnsKeeps.okay) | (with_reducible apply Keeps.setEvt) | (with_reducible apply Keeps.ofIte) | (with_reducible apply Keeps.fold) | (with_reducible rfl) | (dsimp only) | intro _ | split | (with_reducible apply Keeps.upd) | rfl

theorem ResKeeps.execSafLogRead {s : State} (c : Cmd) (first : Nat) (count : Nat) (dst : Nat) : ResKeeps s (execSafLogRead c first count dst s) := by
  have h := Keeps.refl s
  unfold Sys2Proof.Machine.execSafLogRead
  repeat' first | (with_reducible assumption) | (with_reducible apply AnsKeeps.ofIte) | (with_reducible apply ResKeeps.ofIte) | (with_reducible apply ResKeeps.next) | (with_reducible apply AnsKeeps.done) | (with_reducible apply AnsKeeps.wait) | (with_reducible apply Keeps.runCmd) | (with_reducible apply AnsKeeps.fail) | (with_reducible apply AnsKeeps.okay) | (with_reducible apply Keeps.writeGen) | (with_reducible apply Keeps.ofIte1) | (with_reducible apply Keeps.fold1) | (with_reducible apply Keeps.ofIte2) | (with_reducible apply Keeps.fold2) | (with_reducible apply Keeps.ofIte) | (with_reducible apply Keeps.fold) | (with_reducible rfl) | (dsimp only) | intro _ | split | (with_reducible apply Keeps.upd) | rfl

theorem ResKeeps.execSafLogArchive {s : State} (c : Cmd) (m : KeyMsg) : ResKeeps s (execSafLogArchive c m s) := by
  have h := Keeps.refl s
  unfold Sys2Proof.Machine.execSafLogArchive
  repeat' first | (with_reducible assumption) | (with_reducible apply AnsKeeps.ofIte) | (with_reducible apply ResKeeps.ofIte) | (with_reducible apply ResKeeps.next) | (with_reducible apply AnsKeeps.done) | (with_reducible apply AnsKeeps.wait) | (with_reducible apply Keeps.runCmd) | (with_reducible apply AnsKeeps.msgRej) | (with_reducible apply Keeps.storeCtr) | (with_reducible apply AnsKeeps.okay) | (with_reducible apply Keeps.safNote) | (with_reducible apply Keeps.ofIte) | (with_reducible apply Keeps.fold) | (with_reducible rfl) | (dsimp only) | intro _ | split | (with_reducible apply Keeps.upd) | rfl

theorem Keeps.resetInput {s0 s : State} (h : Keeps s0 s) (i : Nat) : Keeps s0 (s.resetInput i) := by
  unfold Sys2Proof.Machine.State.resetInput
  repeat' first | (with_reducible assumption) | (with_reducible apply Keeps.modSin) | (with_reducible apply Keeps.clearTrip) | (with_reducible apply Keeps.ofIte) | (with_reducible apply Keeps.fold) | (with_reducible rfl) | (dsimp only) | intro _ | split | (with_reducible apply Keeps.upd) | rfl

theorem ResKeeps.execSafTripReset {s : State} (c : Cmd) (inputs : BitVec 16) (sos : BitVec 4) (clearMs : Tab Nat) : ResKeeps s (execSafTripReset c inputs sos clearMs s) := by
  have h := Keeps.refl s
  unfold Sys2Proof.Machine.execSafTripReset
  repeat' first | (with_reducible assumption) | (with_reducible apply AnsKeeps.ofIte) | (with_reducible apply ResKeeps.ofIte) | (with_reducible apply ResKeeps.next) | (with_reducible apply AnsKeeps.done) | (with_reducible apply AnsKeeps.wait) | (with_reducible apply Keeps.runSettle) | (with_reducible apply AnsKeeps.fail) | (with_reducible apply Keeps.resetInput) | (with_reducible apply AnsKeeps.okay) | (with_reducible apply Keeps.modGate) | (with_reducible apply Keeps.ofIte) | (with_reducible apply Keeps.fold) | (with_reducible rfl) | (dsimp only) | intro _ | split | (with_reducible apply Keeps.upd) | rfl

theorem ResKeeps.execSafHingeInfo {s : State} (c : Cmd) (index : Nat) : ResKeeps s (execSafHingeInfo c index s) := by
  have h := Keeps.refl s
  unfold Sys2Proof.Machine.execSafHingeInfo
  repeat' first | (with_reducible assumption) | (with_reducible apply AnsKeeps.ofIte) | (with_reducible apply ResKeeps.ofIte) | (with_reducible apply ResKeeps.next) | (with_reducible apply AnsKeeps.done) | (with_reducible apply AnsKeeps.wait) | (with_reducible apply Keeps.runCmd) | (with_reducible apply AnsKeeps.fail) | (with_reducible apply AnsKeeps.okay) | (with_reducible apply Keeps.ofIte) | (with_reducible apply Keeps.fold) | (with_reducible rfl) | (dsimp only) | intro _ | split | (with_reducible apply Keeps.upd) | rfl

/-! ### HingeCmd -/

theorem Keeps.remoteDrop {s0 s : State} (h : Keeps s0 s) (c : Nat) (r : EndReason) (j : Nat) : Keeps s0 (s.remoteDrop c r j) := by
  unfold Sys2Proof.Machine.State.remoteDrop
  repeat' first | (with_reducible assumption) | (with_reducible apply Keeps.dropReq) | (with_reducible apply Keeps.endBay) | (with_reducible apply Keeps.ofIte) | (with_reducible apply Keeps.fold) | (with_reducible rfl) | (dsimp only) | intro _ | split | (with_reducible apply Keeps.upd) | rfl

theorem Keeps.remoteAll {s0 s : State} (h : Keeps s0 s) (c : Nat) (r : EndReason) : Keeps s0 (s.remoteAll c r) := by
  unfold Sys2Proof.Machine.State.remoteAll
  repeat' first | (with_reducible assumption) | (with_reducible apply Keeps.remoteDrop) | (with_reducible apply Keeps.ofIte) | (with_reducible apply Keeps.fold) | (with_reducible rfl) | (dsimp only) | intro _ | split | (with_reducible apply Keeps.upd) | rfl

theorem Keeps.orphanClose {s0 s : State} (h : Keeps s0 s) (x : Nat × Nat) : Keeps s0 (s.orphanClose x) := by
  unfold Sys2Proof.Machine.State.orphanClose
  repeat' first | (with_reducible assumption) | (with_reducible apply Keeps.recClose) | (with_reducible apply Keeps.ofIte1) | (with_reducible apply Keeps.fold1) | (with_reducible apply Keeps.ofIte) | (with_reducible apply Keeps.fold) | (with_reducible rfl) | (dsimp only) | intro _ | split | (with_reducible apply Keeps.upd) | rfl

theorem Keeps.orphansEnd {s0 s : State} (h : Keeps s0 s) (c : Nat) : Keeps s0 (s.orphansEnd c) := by
  unfold Sys2Proof.Machine.State.orphansEnd
  repeat' first | (with_reducible assumption) | (with_reducible apply Keeps.orphanClose) | (with_reducible apply Keeps.ofIte2) | (with_reducible apply Keeps.fold2) | (with_reducible apply Keeps.ofIte) | (with_reducible apply Keeps.fold) | (with_reducible rfl) | (dsimp only) | intro _ | split | (with_reducible apply Keeps.upd) | rfl

theorem Keeps.orphanReading {s0 s : State} (h : Keeps s0 s) (c : Nat) (r : SatReading) : Keeps s0 (s.orphanReading c r) := by
  unfold Sys2Proof.Machine.State.orphanReading
  repeat' first | (with_reducible assumption) | (with_reducible apply Keeps.recSat) | (with_reducible apply Keeps.orphanClose) | (with_reducible apply Keeps.ofIte1) | (with_reducible apply Keeps.fold1) | (with_reducible apply Keeps.ofIte2) | (with_reducible apply Keeps.fold2) | (with_reducible apply Keeps.ofIte) | (with_reducible apply Keeps.fold) | (with_reducible rfl) | (dsimp only) | intro _ | split | (with_reducible apply Keeps.upd) | rfl

theorem Keeps.connLost {s0 s : State} (h : Keeps s0 s) (c : Nat) : Keeps s0 (s.connLost c) := by
  unfold Sys2Proof.Machine.State.connLost
  repeat' first | (with_reducible assumption) | (with_reducible apply Keeps.remoteAll) | (with_reducible apply Keeps.modNode) | (with_reducible apply Keeps.setEvtIf) | (with_reducible apply Keeps.endNow) | (with_reducible apply Keeps.orphansEnd) | (with_reducible apply Keeps.ofIte) | (with_reducible apply Keeps.fold) | (with_reducible rfl) | (dsimp only) | intro _ | split | (with_reducible apply Keeps.upd) | rfl

theorem ResKeeps.execHingeTimeout {s : State} (conn : Nat) : ResKeeps s (execHingeTimeout conn s) := by
  have h := Keeps.refl s
  unfold Sys2Proof.Machine.execHingeTimeout
  repeat' first | (with_reducible assumption) | (with_reducible apply ResKeeps.ofIte) | (with_reducible apply ResKeeps.next) | (with_reducible apply AnsKeeps.done) | (with_reducible apply AnsKeeps.wait) | (with_reducible apply Keeps.connTimeout) | (with_reducible apply Keeps.connLost) | (with_reducible apply Keeps.settle) | (with_reducible apply Keeps.ofIte) | (with_reducible apply Keeps.fold) | (with_reducible rfl) | (dsimp only) | intro _ | split | (with_reducible apply Keeps.upd) | rfl

theorem Keeps.requestRx {s0 s : State} (h : Keeps s0 s) (c : Nat) (dev : Nat) (bridged : Bool) (bay : Nat) (q : ClientReq) : Keeps s0 (s.requestRx c dev bridged bay q) := by
  unfold Sys2Proof.Machine.State.requestRx
  repeat' first | (with_reducible assumption) | (with_reducible apply Keeps.modNode) | (with_reducible apply Keeps.ofIte) | (with_reducible apply Keeps.fold) | (with_reducible rfl) | (dsimp only) | intro _ | split | (with_reducible apply Keeps.upd) | rfl

theorem Keeps.setpointRx {s0 s : State} (h : Keeps s0 s) (c : Nat) (dev : Nat) (bridged : Bool) (bay : Nat) (cycle : Word) (iSet : Nat) : Keeps s0 (s.setpointRx c dev bridged bay cycle iSet) := by
  unfold Sys2Proof.Machine.State.setpointRx
  repeat' first | (with_reducible assumption) | (with_reducible apply Keeps.modCtx) | (with_reducible apply Keeps.ofIte) | (with_reducible apply Keeps.fold) | (with_reducible rfl) | (dsimp only) | intro _ | split | (with_reducible apply Keeps.upd) | rfl

theorem Keeps.satReading {s0 s : State} (h : Keeps s0 s) (c : Nat) (whole : Option SatReading) : Keeps s0 (s.satReading c whole) := by
  unfold Sys2Proof.Machine.State.satReading
  repeat' first | (with_reducible assumption) | (with_reducible apply Keeps.orphanReading) | (with_reducible apply Keeps.endNow) | (with_reducible apply Keeps.gap) | (with_reducible apply Keeps.modCtx) | (with_reducible apply Keeps.recSat) | (with_reducible apply Keeps.endSess) | (with_reducible apply Keeps.ofIte) | (with_reducible apply Keeps.fold) | (with_reducible rfl) | (dsimp only) | intro _ | split | (with_reducible apply Keeps.upd) | rfl

theorem Keeps.fragRx {s0 s : State} (h : Keeps s0 s) (c : Nat) (seq : BitVec 16) (idx : Nat) (last : Nat) (whole : Option SatReading) : Keeps s0 (s.fragRx c seq idx last whole) := by
  unfold Sys2Proof.Machine.State.fragRx
  repeat' first | (with_reducible assumption) | (with_reducible apply Keeps.setConn) | (with_reducible apply Keeps.satReading) | (with_reducible apply Keeps.ofIte) | (with_reducible apply Keeps.fold) | (with_reducible rfl) | (dsimp only) | intro _ | split | (with_reducible apply Keeps.upd) | rfl

theorem Keeps.stepDone {s0 s : State} (h : Keeps s0 s) (k : Nat) (step : Nat) (fb : Nat) : Keeps s0 (s.stepDone k step fb) := by
  unfold Sys2Proof.Machine.State.stepDone
  repeat' first | (with_reducible assumption) | (with_reducible apply Keeps.enterCable) | (with_reducible apply Keeps.setSt) | (with_reducible apply Keeps.stepCmd) | (with_reducible apply Keeps.modCtx) | (with_reducible apply Keeps.enterCharging) | (with_reducible apply Keeps.weldSuspect) | (with_reducible apply Keeps.toFinishing) | (with_reducible apply Keeps.ofIte) | (with_reducible apply Keeps.fold) | (with_reducible rfl) | (dsimp only) | intro _ | split | (with_reducible apply Keeps.upd) | rfl

theorem Keeps.stepFailed {s0 s : State} (h : Keeps s0 s) (k : Nat) (step : Nat) (cause : Nat) : Keeps s0 (s.stepFailed k step cause) := by
  unfold Sys2Proof.Machine.State.stepFailed
  repeat' first | (with_reducible assumption) | (with_reducible apply Keeps.setSt) | (with_reducible apply Keeps.stepCmd) | (with_reducible apply Keeps.weldSuspect) | (with_reducible apply Keeps.toFinishing) | (with_reducible apply Keeps.endSess) | (with_reducible apply Keeps.ofIte) | (with_reducible apply Keeps.fold) | (with_reducible rfl) | (dsimp only) | intro _ | split | (with_reducible apply Keeps.upd) | rfl

theorem Keeps.stepRx {s0 s : State} (h : Keeps s0 s) (c : Nat) (bb : Nat) (step : Nat) (result : Nat) (cause : Nat) (vMeas : Nat) (iMeas : Int) (fb : Nat) : Keeps s0 (s.stepRx c bb step result cause vMeas iMeas fb) := by
  unfold Sys2Proof.Machine.State.stepRx
  repeat' first | (with_reducible assumption) | (with_reducible apply Keeps.modCtx) | (with_reducible apply Keeps.toOpening) | (with_reducible apply Keeps.stepDone) | (with_reducible apply Keeps.stepFailed) | (with_reducible apply Keeps.ofIte) | (with_reducible apply Keeps.fold) | (with_reducible rfl) | (dsimp only) | intro _ | split | (with_reducible apply Keeps.upd) | rfl

theorem Keeps.hingeDeliver {s0 s : State} (h : Keeps s0 s) (c : Nat) (seq : BitVec 16) (p : HPay) : Keeps s0 (s.hingeDeliver c seq p) := by
  unfold Sys2Proof.Machine.State.hingeDeliver
  repeat' first | (with_reducible assumption) | (with_reducible apply Keeps.request) | (with_reducible apply Keeps.requestRx) | (with_reducible apply Keeps.setpointRx) | (with_reducible apply Keeps.reading) | (with_reducible apply Keeps.fragRx) | (with_reducible apply Keeps.stepRx) | (with_reducible apply Keeps.modConn) | (with_reducible apply Keeps.remoteAll) | (with_reducible apply Keeps.ofIte) | (with_reducible apply Keeps.fold) | (with_reducible rfl) | (dsimp only) | intro _ | split | (with_reducible apply Keeps.upd) | rfl

theorem Keeps.hingeBad {s0 : State} {r : State × Option Nat} (h : Keeps s0 r.1) : Keeps s0 (State.hingeBad r) := by
  unfold State.hingeBad
  split
  · exact h.connLost _
  · exact h

theorem Keeps.dataRx {s0 s : State} (h : Keeps s0 s) (f : HFrame) : Keeps s0 (s.dataRx f) := by
  unfold State.dataRx
  have hv := Keeps.hingeHead h f
  split
  · rename_i e
    rw [e] at hv
    exact .hingeBad hv
  · rename_i x e
    rw [e] at hv
    replace hv : Keeps s0 x.1 := hv
    clear h
    repeat' first | (with_reducible assumption) | (with_reducible apply Keeps.hingeData) | (with_reducible apply Keeps.hingeDeliver) | (with_reducible apply Keeps.fold) | (with_reducible apply Keeps.ofIte) | (with_reducible rfl) | (dsimp only) | intro _ | split | (with_reducible apply Keeps.upd)

theorem Keeps.connectRx {s0 s : State} (h : Keeps s0 s) (f : HFrame) : Keeps s0 (s.connectRx f) := by
  unfold State.connectRx
  have hv := Keeps.hingeHead h f
  split
  · rename_i e
    rw [e] at hv
    exact .hingeBad hv
  · rename_i x e
    rw [e] at hv
    replace hv : Keeps s0 x.1 := hv
    clear h
    repeat' first | (with_reducible assumption) | (with_reducible apply Keeps.setConn) | (with_reducible apply Keeps.sendHinge) | (with_reducible apply Keeps.remoteAll) | (with_reducible apply Keeps.ofIte) | (with_reducible rfl) | (dsimp only) | intro _ | split | (with_reducible apply Keeps.upd)

theorem Keeps.ackRx {s0 s : State} (h : Keeps s0 s) (f : HFrame) : Keeps s0 (s.ackRx f) := by
  unfold State.ackRx
  have hv := Keeps.hingeHead h f
  split
  · rename_i e
    rw [e] at hv
    exact .hingeBad hv
  · rename_i x e
    rw [e] at hv
    replace hv : Keeps s0 x.1 := hv
    clear h
    repeat' first | (with_reducible assumption) | (with_reducible apply Keeps.setConn) | (with_reducible apply Keeps.modConn) | (with_reducible apply Keeps.ofIte) | (with_reducible rfl) | (dsimp only) | intro _ | split | (with_reducible apply Keeps.upd)

theorem ResKeeps.execHingeDataRx {s : State} (f : HFrame) : ResKeeps s (execHingeDataRx f s) := by
  have h := Keeps.refl s
  unfold Sys2Proof.Machine.execHingeDataRx
  repeat' first | (with_reducible assumption) | (with_reducible apply ResKeeps.ofIte) | (with_reducible apply ResKeeps.next) | (with_reducible apply AnsKeeps.done) | (with_reducible apply AnsKeeps.wait) | (with_reducible apply Keeps.dataRx) | (with_reducible apply Keeps.settle) | (with_reducible apply Keeps.ofIte) | (with_reducible apply Keeps.fold) | (with_reducible rfl) | (dsimp only) | intro _ | split | (with_reducible apply Keeps.upd) | rfl

theorem ResKeeps.execHingeConnectRx {s : State} (f : HFrame) : ResKeeps s (execHingeConnectRx f s) := by
  have h := Keeps.refl s
  unfold Sys2Proof.Machine.execHingeConnectRx
  repeat' first | (with_reducible assumption) | (with_reducible apply ResKeeps.ofIte) | (with_reducible apply ResKeeps.next) | (with_reducible apply AnsKeeps.done) | (with_reducible apply AnsKeeps.wait) | (with_reducible apply Keeps.connectRx) | (with_reducible apply Keeps.settle) | (with_reducible apply Keeps.ofIte) | (with_reducible apply Keeps.fold) | (with_reducible rfl) | (dsimp only) | intro _ | split | (with_reducible apply Keeps.upd) | rfl

theorem ResKeeps.execHingeConnectAckRx {s : State} (f : HFrame) : ResKeeps s (execHingeConnectAckRx f s) := by
  have h := Keeps.refl s
  unfold Sys2Proof.Machine.execHingeConnectAckRx
  repeat' first | (with_reducible assumption) | (with_reducible apply ResKeeps.ofIte) | (with_reducible apply ResKeeps.next) | (with_reducible apply AnsKeeps.done) | (with_reducible apply AnsKeeps.wait) | (with_reducible apply Keeps.ackRx) | (with_reducible apply Keeps.ofIte) | (with_reducible apply Keeps.fold) | (with_reducible rfl) | (dsimp only) | intro _ | split | (with_reducible apply Keeps.upd) | rfl

theorem ResKeeps.execHingeSend {s : State} (conn : Nat) (pays : List HPay) : ResKeeps s (execHingeSend conn pays s) := by
  have h := Keeps.refl s
  unfold Sys2Proof.Machine.execHingeSend
  repeat' first | (with_reducible assumption) | (with_reducible apply ResKeeps.ofIte) | (with_reducible apply ResKeeps.next) | (with_reducible apply AnsKeeps.done) | (with_reducible apply AnsKeeps.wait) | (with_reducible apply Keeps.hingeSend) | (with_reducible apply Keeps.ofIte) | (with_reducible apply Keeps.fold) | (with_reducible rfl) | (dsimp only) | intro _ | split | (with_reducible apply Keeps.upd) | rfl

theorem ResKeeps.execHingeConnectSend {s : State} (conn : Nat) : ResKeeps s (execHingeConnectSend conn s) := by
  have h := Keeps.refl s
  unfold Sys2Proof.Machine.execHingeConnectSend
  repeat' first | (with_reducible assumption) | (with_reducible apply ResKeeps.ofIte) | (with_reducible apply ResKeeps.next) | (with_reducible apply AnsKeeps.done) | (with_reducible apply AnsKeeps.wait) | (with_reducible apply Keeps.draw) | (with_reducible apply Keeps.modConn) | (with_reducible apply Keeps.sendHinge) | (with_reducible apply Keeps.ofIte1) | (with_reducible apply Keeps.fold1) | (with_reducible apply Keeps.ofIte2) | (with_reducible apply Keeps.fold2) | (with_reducible apply Keeps.ofIte) | (with_reducible apply Keeps.fold) | (with_reducible rfl) | (dsimp only) | intro _ | split | (with_reducible apply Keeps.upd) | rfl

theorem ResKeeps.execSkidlineFrameRx {s : State} (rx : SRx) (f : SFrame) : ResKeeps s (execSkidlineFrameRx rx f s) := by
  have h := Keeps.refl s
  unfold Sys2Proof.Machine.execSkidlineFrameRx
  repeat' first | (with_reducible assumption) | (with_reducible apply ResKeeps.ofIte) | (with_reducible apply ResKeeps.next) | (with_reducible apply AnsKeeps.done) | (with_reducible apply AnsKeeps.wait) | (with_reducible apply Keeps.idle) | (with_reducible apply Keeps.wakeUp) | (with_reducible apply Keeps.sklRx) | (with_reducible apply Keeps.dataRx) | (with_reducible apply Keeps.connectRx) | (with_reducible apply Keeps.ackRx) | (with_reducible apply Keeps.settle) | (with_reducible apply Keeps.ofIte1) | (with_reducible apply Keeps.fold1) | (with_reducible apply Keeps.ofIte2) | (with_reducible apply Keeps.fold2) | (with_reducible apply Keeps.ofIte) | (with_reducible apply Keeps.fold) | (with_reducible rfl) | (dsimp only) | intro _ | split | (with_reducible apply Keeps.upd) | rfl

/-! ### PeaveyCmd -/

theorem ResKeeps.execLaneSample {s : State} (n : Nat) (instant : Nat) : ResKeeps s (execLaneSample n instant s) := by
  have h := Keeps.refl s
  unfold Sys2Proof.Machine.execLaneSample
  repeat' first | (with_reducible assumption) | (with_reducible apply ResKeeps.ofIte) | (with_reducible apply ResKeeps.next) | (with_reducible apply AnsKeeps.done) | (with_reducible apply AnsKeeps.wait) | (with_reducible apply Keeps.sampleLane) | (with_reducible apply Keeps.settle) | (with_reducible apply Keeps.ofIte) | (with_reducible apply Keeps.fold) | (with_reducible rfl) | (dsimp only) | intro _ | split | (with_reducible apply Keeps.upd) | rfl

theorem ResKeeps.execLaneRegisterWrite {s : State} (off : Nat) (value : Word) : ResKeeps s (execLaneRegisterWrite off value s) := by
  have h := Keeps.refl s
  unfold Sys2Proof.Machine.execLaneRegisterWrite
  repeat' first | (with_reducible assumption) | (with_reducible apply ResKeeps.ofIte) | (with_reducible apply ResKeeps.next) | (with_reducible apply AnsKeeps.done) | (with_reducible apply AnsKeeps.wait) | (with_reducible apply Keeps.laneWrite) | (with_reducible apply Keeps.ofIte) | (with_reducible apply Keeps.fold) | (with_reducible rfl) | (dsimp only) | intro _ | split | (with_reducible apply Keeps.upd) | rfl

theorem ResKeeps.execLaneHold {s : State} (n : Nat) (hold : Bool) : ResKeeps s (execLaneHold n hold s) := by
  have h := Keeps.refl s
  unfold Sys2Proof.Machine.execLaneHold
  repeat' first | (with_reducible assumption) | (with_reducible apply ResKeeps.ofIte) | (with_reducible apply ResKeeps.next) | (with_reducible apply AnsKeeps.done) | (with_reducible apply AnsKeeps.wait) | (with_reducible apply Keeps.laneWrite) | (with_reducible apply Keeps.ofIte) | (with_reducible apply Keeps.fold) | (with_reducible rfl) | (dsimp only) | intro _ | split | (with_reducible apply Keeps.upd) | rfl

theorem ResKeeps.execStateRst {s : State} (n : Nat) : ResKeeps s (execStateRst n s) := by
  have h := Keeps.refl s
  unfold Sys2Proof.Machine.execStateRst
  repeat' first | (with_reducible assumption) | (with_reducible apply ResKeeps.ofIte) | (with_reducible apply ResKeeps.next) | (with_reducible apply AnsKeeps.done) | (with_reducible apply AnsKeeps.wait) | (with_reducible apply Keeps.laneWrite) | (with_reducible apply Keeps.ofIte) | (with_reducible apply Keeps.fold) | (with_reducible rfl) | (dsimp only) | intro _ | split | (with_reducible apply Keeps.upd) | rfl

theorem ResKeeps.execPvyLaneRead {s : State} (c : Cmd) (n : Nat) (sec : Nat) : ResKeeps s (execPvyLaneRead c n sec s) := by
  have h := Keeps.refl s
  unfold Sys2Proof.Machine.execPvyLaneRead
  repeat' first | (with_reducible assumption) | (with_reducible apply AnsKeeps.ofIte) | (with_reducible apply ResKeeps.ofIte) | (with_reducible apply ResKeeps.next) | (with_reducible apply AnsKeeps.done) | (with_reducible apply AnsKeeps.wait) | (with_reducible apply Keeps.runCmd) | (with_reducible apply AnsKeeps.fail) | (with_reducible apply AnsKeeps.okay) | (with_reducible apply Keeps.ofIte) | (with_reducible apply Keeps.fold) | (with_reducible rfl) | (dsimp only) | intro _ | split | (with_reducible apply Keeps.upd) | rfl

theorem ResKeeps.execPvyFeClear {s : State} (c : Cmd) (n : Nat) : ResKeeps s (execPvyFeClear c n s) := by
  have h := Keeps.refl s
  unfold Sys2Proof.Machine.execPvyFeClear
  repeat' first | (with_reducible assumption) | (with_reducible apply AnsKeeps.ofIte) | (with_reducible apply ResKeeps.ofIte) | (with_reducible apply ResKeeps.next) | (with_reducible apply AnsKeeps.done) | (with_reducible apply AnsKeeps.wait) | (with_reducible apply Keeps.runCmd) | (with_reducible apply AnsKeeps.fail) | (with_reducible apply AnsKeeps.okay) | (with_reducible apply Keeps.setLane) | (with_reducible apply Keeps.ofIte) | (with_reducible apply Keeps.fold) | (with_reducible rfl) | (dsimp only) | intro _ | split | (with_reducible apply Keeps.upd) | rfl

end Sys2Proof.Machine
end

