-- ==== Sys2Proof/Laws/KeepsHost.lean ====
section
/-! SUPPORT. What every function keeps (`Keeps`): Stand Table, rings, displays, keys, time, self-test, reader and registers. -/
namespace Sys2Proof.Machine

/-! ### LandCmd -/

theorem ResKeeps.execPointUpdate {s : State} (pt : Nat) (raw : DWord) (t : Option Stamp) (bad : Bool) : ResKeeps s (execPointUpdate pt raw t bad s) := by
  have h := Keeps.refl s
  unfold Sys2Proof.Machine.execPointUpdate
  repeat' first | (with_reducible assumption) | (with_reducible apply ResKeeps.ofIte) | (with_reducible apply ResKeeps.next) | (with_reducible apply AnsKeeps.done) | (with_reducible apply AnsKeeps.wait) | (with_reducible apply Keeps.ptUpdate) | (with_reducible apply Keeps.ptArrive) | (with_reducible apply Keeps.ofIte) | (with_reducible apply Keeps.fold) | (with_reducible rfl) | (dsimp only) | intro _ | split | (with_reducible apply Keeps.upd) | rfl

theorem Keeps.sweepOne {s0 s : State} (h : Keeps s0 s) (n : Nat) : Keeps s0 (s.sweepOne n) := by
  unfold Sys2Proof.Machine.State.sweepOne
  repeat' first | (with_reducible assumption) | (with_reducible apply Keeps.storePoint) | (with_reducible apply Keeps.ofIte) | (with_reducible apply Keeps.fold) | (with_reducible rfl) | (dsimp only) | intro _ | split | (with_reducible apply Keeps.upd) | rfl

theorem ResKeeps.execTimeoutSweep {s : State} : ResKeeps s (execTimeoutSweep s) := by
  have h := Keeps.refl s
  unfold Sys2Proof.Machine.execTimeoutSweep
  repeat' first | (with_reducible assumption) | (with_reducible apply ResKeeps.ofIte) | (with_reducible apply ResKeeps.next) | (with_reducible apply AnsKeeps.done) | (with_reducible apply AnsKeeps.wait) | (with_reducible apply Keeps.pubNext) | (with_reducible apply Keeps.sweepOne) | (with_reducible apply Keeps.modShadow) | (with_reducible apply Keeps.ofIte) | (with_reducible apply Keeps.fold) | (with_reducible rfl) | (dsimp only) | intro _ | split | (with_reducible apply Keeps.upd) | rfl

theorem ResKeeps.execCacheWriteback {s : State} (pt : Nat) : ResKeeps s (execCacheWriteback pt s) := by
  have h := Keeps.refl s
  unfold Sys2Proof.Machine.execCacheWriteback
  repeat' first | (with_reducible assumption) | (with_reducible apply ResKeeps.ofIte) | (with_reducible apply ResKeeps.next) | (with_reducible apply AnsKeeps.done) | (with_reducible apply AnsKeeps.wait) | (with_reducible apply Keeps.writeBack) | (with_reducible apply Keeps.ofIte) | (with_reducible apply Keeps.fold) | (with_reducible rfl) | (dsimp only) | intro _ | split | (with_reducible apply Keeps.upd) | rfl

theorem ResKeeps.execPeriodicPublication {s : State} (pt : Nat) : ResKeeps s (execPeriodicPublication pt s) := by
  have h := Keeps.refl s
  unfold Sys2Proof.Machine.execPeriodicPublication
  repeat' first | (with_reducible assumption) | (with_reducible apply ResKeeps.ofIte) | (with_reducible apply ResKeeps.next) | (with_reducible apply AnsKeeps.done) | (with_reducible apply AnsKeeps.wait) | (with_reducible apply Keeps.touch) | (with_reducible apply Keeps.publishOwn) | (with_reducible apply Keeps.ofIte) | (with_reducible apply Keeps.fold) | (with_reducible rfl) | (dsimp only) | intro _ | split | (with_reducible apply Keeps.upd) | rfl

theorem Keeps.pointRx {s0 s : State} (h : Keeps s0 s) (gid : Nat) (cfg : PtCfg) (val : PtVal) : Keeps s0 (s.pointRx gid cfg val) := by
  unfold Sys2Proof.Machine.State.pointRx
  repeat' first | (with_reducible assumption) | (with_reducible apply Keeps.passOn) | (with_reducible apply Keeps.deliver) | (with_reducible apply Keeps.setShadow) | (with_reducible apply Keeps.demandSeen) | (with_reducible apply Keeps.ofIte) | (with_reducible apply Keeps.fold) | (with_reducible rfl) | (dsimp only) | intro _ | split | (with_reducible apply Keeps.upd) | rfl

theorem Keeps.energyRx {s0 s : State} (h : Keeps s0 s) (dev : Nat) (bay : Nat) (imp : Nat) (exp : Nat) (t : Stamp) : Keeps s0 (s.energyRx dev bay imp exp t) := by
  unfold Sys2Proof.Machine.State.energyRx
  repeat' first | (with_reducible assumption) | (with_reducible apply Keeps.passOn) | (with_reducible apply Keeps.memberTake) | (with_reducible apply Keeps.ofIte) | (with_reducible apply Keeps.fold) | (with_reducible rfl) | (dsimp only) | intro _ | split | (with_reducible apply Keeps.upd) | rfl

theorem ResKeeps.execPublicationRx {s : State} (p : Publication) : ResKeeps s (execPublicationRx p s) := by
  have h := Keeps.refl s
  unfold Sys2Proof.Machine.execPublicationRx
  repeat' first | (with_reducible assumption) | (with_reducible apply ResKeeps.ofIte) | (with_reducible apply ResKeeps.next) | (with_reducible apply AnsKeeps.done) | (with_reducible apply AnsKeeps.wait) | (with_reducible apply Keeps.pointRx) | (with_reducible apply Keeps.energyRx) | (with_reducible apply Keeps.ofIte) | (with_reducible apply Keeps.fold) | (with_reducible rfl) | (dsimp only) | intro _ | split | (with_reducible apply Keeps.upd) | rfl

theorem Keeps.cacheLost {s0 s : State} (h : Keeps s0 s) : Keeps s0 (s.cacheLost) := by
  unfold Sys2Proof.Machine.State.cacheLost
  repeat' first | (with_reducible assumption) | (with_reducible apply Keeps.draw) | (with_reducible apply Keeps.storePoint) | (with_reducible apply Keeps.ofIte1) | (with_reducible apply Keeps.fold1) | (with_reducible apply Keeps.ofIte2) | (with_reducible apply Keeps.fold2) | (with_reducible apply Keeps.ofIte) | (with_reducible apply Keeps.fold) | (with_reducible rfl) | (dsimp only) | intro _ | split | (with_reducible apply Keeps.upd) | rfl

theorem Keeps.lineLost {s0 s : State} (h : Keeps s0 s) (off : Nat) : Keeps s0 (s.lineLost off) := by
  unfold Sys2Proof.Machine.State.lineLost
  repeat' first | (with_reducible assumption) | (with_reducible apply Keeps.cacheLost) | (with_reducible apply Keeps.endSess) | (with_reducible apply Keeps.ofIte) | (with_reducible apply Keeps.fold) | (with_reducible rfl) | (dsimp only) | intro _ | split | (with_reducible apply Keeps.upd) | rfl

theorem Keeps.landUncorr {s0 s : State} (h : Keeps s0 s) (off : Nat) : Keeps s0 (s.landUncorr off) := by
  unfold Sys2Proof.Machine.State.landUncorr
  repeat' first | (with_reducible assumption) | (with_reducible apply Keeps.setEvt) | (with_reducible apply Keeps.lineLost) | (with_reducible apply Keeps.ofIte) | (with_reducible apply Keeps.fold) | (with_reducible rfl) | (dsimp only) | intro _ | split | (with_reducible apply Keeps.upd) | rfl

theorem Keeps.lineCorrected {s0 s : State} (h : Keeps s0 s) (medium : Medium) : Keeps s0 (s.lineCorrected medium) := by
  unfold Sys2Proof.Machine.State.lineCorrected
  repeat' first | (with_reducible assumption) | (with_reducible apply Keeps.ofIte) | (with_reducible apply Keeps.fold) | (with_reducible rfl) | (dsimp only) | intro _ | split | (with_reducible apply Keeps.upd) | rfl

theorem Keeps.lineBad {s0 s : State} (h : Keeps s0 s) (medium : Medium) (addr : Nat) : Keeps s0 (s.lineBad medium addr) := by
  unfold Sys2Proof.Machine.State.lineBad
  repeat' first | (with_reducible assumption) | (with_reducible apply Keeps.setEvt) | (with_reducible apply Keeps.landUncorr) | (with_reducible apply Keeps.settle) | (with_reducible apply Keeps.ofIte) | (with_reducible apply Keeps.fold) | (with_reducible rfl) | (dsimp only) | intro _ | split | (with_reducible apply Keeps.upd) | rfl

theorem ResKeeps.execScrubLine {s : State} (medium : Medium) (addr : Nat) (errs : Nat) (wrongAddr : Bool) : ResKeeps s (execScrubLine medium addr errs wrongAddr s) := by
  have h := Keeps.refl s
  unfold Sys2Proof.Machine.execScrubLine
  repeat' first | (with_reducible assumption) | (with_reducible apply ResKeeps.ofIte) | (with_reducible apply ResKeeps.next) | (with_reducible apply AnsKeeps.done) | (with_reducible apply AnsKeeps.wait) | (with_reducible apply Keeps.draw) | (with_reducible apply Keeps.lineCorrected) | (with_reducible apply Keeps.lineBad) | (with_reducible apply Keeps.ofIte1) | (with_reducible apply Keeps.fold1) | (with_reducible apply Keeps.ofIte2) | (with_reducible apply Keeps.fold2) | (with_reducible apply Keeps.ofIte) | (with_reducible apply Keeps.fold) | (with_reducible rfl) | (dsimp only) | intro _ | split | (with_reducible apply Keeps.upd) | rfl

theorem ResKeeps.execLndPtRead {s : State} (c : Cmd) (list : Nat) (ids : List Nat) (dst : Nat) (remote : Tab RemotePt) : ResKeeps s (execLndPtRead c list ids dst remote s) := by
  have h := Keeps.refl s
  unfold Sys2Proof.Machine.execLndPtRead
  repeat' first | (with_reducible assumption) | (with_reducible apply AnsKeeps.ofIte) | (with_reducible apply ResKeeps.ofIte) | (with_reducible apply ResKeeps.next) | (with_reducible apply AnsKeeps.done) | (with_reducible apply AnsKeeps.wait) | (with_reducible apply Keeps.runCmd) | (with_reducible apply AnsKeeps.fail) | (with_reducible apply AnsKeeps.okay) | (with_reducible apply Keeps.touch) | (with_reducible apply Keeps.writeGen) | (with_reducible apply Keeps.ofIte) | (with_reducible apply Keeps.fold) | (with_reducible rfl) | (dsimp only) | intro _ | split | (with_reducible apply Keeps.upd) | rfl

theorem ResKeeps.execLndPtWrite {s : State} (c : Cmd) (pairs : List (Nat × DWord)) (remote : Tab RemotePt) : ResKeeps s (execLndPtWrite c pairs remote s) := by
  have h := Keeps.refl s
  unfold Sys2Proof.Machine.execLndPtWrite
  repeat' first | (with_reducible assumption) | (with_reducible apply AnsKeeps.ofIte) | (with_reducible apply ResKeeps.ofIte) | (with_reducible apply ResKeeps.next) | (with_reducible apply AnsKeeps.done) | (with_reducible apply AnsKeeps.wait) | (with_reducible apply Keeps.runCmd) | (with_reducible apply AnsKeeps.fail) | (with_reducible apply AnsKeeps.okay) | (with_reducible apply Keeps.ptArrive) | (with_reducible apply Keeps.send) | (with_reducible apply Keeps.ofIte1) | (with_reducible apply Keeps.fold1) | (with_reducible apply Keeps.ofIte2) | (with_reducible apply Keeps.fold2) | (with_reducible apply Keeps.ofIte) | (with_reducible apply Keeps.fold) | (with_reducible rfl) | (dsimp only) | intro _ | split | (with_reducible apply Keeps.upd) | rfl

theorem ResKeeps.execLndPtCfg {s : State} (c : Cmd) (op : PtCfgOp) (remote : Tab RemotePt) : ResKeeps s (execLndPtCfg c op remote s) := by
  have h := Keeps.refl s
  unfold Sys2Proof.Machine.execLndPtCfg
  repeat' first | (with_reducible assumption) | (with_reducible apply AnsKeeps.ofIte) | (with_reducible apply ResKeeps.ofIte) | (with_reducible apply ResKeeps.next) | (with_reducible apply AnsKeeps.done) | (with_reducible apply AnsKeeps.wait) | (with_reducible apply Keeps.runCmd) | (with_reducible apply AnsKeeps.fail) | (with_reducible apply AnsKeeps.okay) | (with_reducible apply Keeps.setPoint) | (with_reducible apply Keeps.touch) | (with_reducible apply Keeps.send) | (with_reducible apply Keeps.ofIte) | (with_reducible apply Keeps.fold) | (with_reducible rfl) | (dsimp only) | intro _ | split | (with_reducible apply Keeps.upd) | rfl

theorem Keeps.publishRange {s0 s : State} (h : Keeps s0 s) (first : Nat) (last : Nat) : Keeps s0 (s.publishRange first last) := by
  unfold Sys2Proof.Machine.State.publishRange
  repeat' first | (with_reducible assumption) | (with_reducible apply Keeps.publishOwn) | (with_reducible apply Keeps.publish) | (with_reducible apply Keeps.ofIte) | (with_reducible apply Keeps.fold) | (with_reducible rfl) | (dsimp only) | intro _ | split | (with_reducible apply Keeps.upd) | rfl

theorem ResKeeps.execLndSubOpen {s : State} (c : Cmd) (first : Nat) (last : Nat) (off : Nat) (len : Nat) : ResKeeps s (execLndSubOpen c first last off len s) := by
  have h := Keeps.refl s
  unfold Sys2Proof.Machine.execLndSubOpen
  repeat' first | (with_reducible assumption) | (with_reducible apply AnsKeeps.ofIte) | (with_reducible apply ResKeeps.ofIte) | (with_reducible apply ResKeeps.next) | (with_reducible apply AnsKeeps.done) | (with_reducible apply AnsKeeps.wait) | (with_reducible apply Keeps.runCmd) | (with_reducible apply AnsKeeps.fail) | (with_reducible apply Keeps.setSub) | (with_reducible apply AnsKeeps.okay) | (with_reducible apply Keeps.publishRange) | (with_reducible apply Keeps.ofIte) | (with_reducible apply Keeps.fold) | (with_reducible rfl) | (dsimp only) | intro _ | split | (with_reducible apply Keeps.upd) | rfl

theorem ResKeeps.execLndSubClose {s : State} (c : Cmd) (handle : Nat) : ResKeeps s (execLndSubClose c handle s) := by
  have h := Keeps.refl s
  unfold Sys2Proof.Machine.execLndSubClose
  repeat' first | (with_reducible assumption) | (with_reducible apply AnsKeeps.ofIte) | (with_reducible apply ResKeeps.ofIte) | (with_reducible apply ResKeeps.next) | (with_reducible apply AnsKeeps.done) | (with_reducible apply AnsKeeps.wait) | (with_reducible apply Keeps.runCmd) | (with_reducible apply AnsKeeps.fail) | (with_reducible apply Keeps.setSub) | (with_reducible apply AnsKeeps.okay) | (with_reducible apply Keeps.ofIte1) | (with_reducible apply Keeps.fold1) | (with_reducible apply Keeps.ofIte) | (with_reducible apply Keeps.fold) | (with_reducible rfl) | (dsimp only) | intro _ | split | (with_reducible apply Keeps.upd) | rfl

/-! ### HostCmd -/

theorem Keeps.piWrite {s0 s : State} (h : Keeps s0 s) (q : Nat) (value : Word) : Keeps s0 (s.piWrite q value) := by
  unfold Sys2Proof.Machine.State.piWrite
  repeat' first | (with_reducible assumption) | (with_reducible apply Keeps.setQueue) | (with_reducible apply Keeps.ofIte) | (with_reducible apply Keeps.fold) | (with_reducible rfl) | (dsimp only) | intro _ | split | (with_reducible apply Keeps.upd) | rfl

theorem ResKeeps.execHstQPiWrite {s : State} (q : Nat) (value : Word) : ResKeeps s (execHstQPiWrite q value s) := by
  have h := Keeps.refl s
  unfold Sys2Proof.Machine.execHstQPiWrite
  repeat' first | (with_reducible assumption) | (with_reducible apply ResKeeps.ofIte) | (with_reducible apply ResKeeps.next) | (with_reducible apply AnsKeeps.done) | (with_reducible apply AnsKeeps.wait) | (with_reducible apply Keeps.piWrite) | (with_reducible apply Keeps.ofIte) | (with_reducible apply Keeps.fold) | (with_reducible rfl) | (dsimp only) | intro _ | split | (with_reducible apply Keeps.upd) | rfl

theorem Keeps.zeroGen {s0 s : State} (h : Keeps s0 s) (off n : Nat) : Keeps s0 (s.zeroGen off n) :=
  h.trans (.ofMarks rfl ⟨[], rfl⟩ (fun x => tabWf_filter _ x _) id ⟨rfl, rfl, rfl, rfl, rfl, rfl, rfl⟩)

theorem Keeps.ringOn {s0 s : State} (h : Keeps s0 s) (q : Nat) : Keeps s0 (s.ringOn q) := by
  unfold Sys2Proof.Machine.State.ringOn
  repeat' first | (with_reducible assumption) | (with_reducible apply Keeps.zeroGen) | (with_reducible apply Keeps.setQueue) | (with_reducible apply Keeps.ofIte) | (with_reducible apply Keeps.fold) | (with_reducible rfl) | (dsimp only) | intro _ | split | (with_reducible apply Keeps.upd) | rfl

theorem Keeps.ringOff {s0 s : State} (h : Keeps s0 s) (q : Nat) : Keeps s0 (s.ringOff q) := by
  unfold Sys2Proof.Machine.State.ringOff
  repeat' first | (with_reducible assumption) | (with_reducible apply Keeps.setQueue) | (with_reducible apply Keeps.ofIte) | (with_reducible apply Keeps.fold) | (with_reducible rfl) | (dsimp only) | intro _ | split | (with_reducible apply Keeps.upd) | rfl

theorem Keeps.ctrlWrite {s0 s : State} (h : Keeps s0 s) (q : Nat) (v : Word) : Keeps s0 (s.ctrlWrite q v) := by
  unfold Sys2Proof.Machine.State.ctrlWrite
  repeat' first | (with_reducible assumption) | (with_reducible apply Keeps.setQueue) | (with_reducible apply Keeps.ringOn) | (with_reducible apply Keeps.ringOff) | (with_reducible apply Keeps.ofIte) | (with_reducible apply Keeps.fold) | (with_reducible rfl) | (dsimp only) | intro _ | split | (with_reducible apply Keeps.upd) | rfl

theorem ResKeeps.execRingEnable {s : State} (q : Nat) (value : Word) : ResKeeps s (execRingEnable q value s) := by
  have h := Keeps.refl s
  unfold Sys2Proof.Machine.execRingEnable
  repeat' first | (with_reducible assumption) | (with_reducible apply ResKeeps.ofIte) | (with_reducible apply ResKeeps.next) | (with_reducible apply AnsKeeps.done) | (with_reducible apply AnsKeeps.wait) | (with_reducible apply Keeps.ctrlWrite) | (with_reducible apply Keeps.ofIte) | (with_reducible apply Keeps.fold) | (with_reducible rfl) | (dsimp only) | intro _ | split | (with_reducible apply Keeps.upd) | rfl

theorem ResKeeps.execRingDisable {s : State} (q : Nat) (value : Word) : ResKeeps s (execRingDisable q value s) := by
  have h := Keeps.refl s
  unfold Sys2Proof.Machine.execRingDisable
  repeat' first | (with_reducible assumption) | (with_reducible apply ResKeeps.ofIte) | (with_reducible apply ResKeeps.next) | (with_reducible apply AnsKeeps.done) | (with_reducible apply AnsKeeps.wait) | (with_reducible apply Keeps.ctrlWrite) | (with_reducible apply Keeps.ofIte) | (with_reducible apply Keeps.fold) | (with_reducible rfl) | (dsimp only) | intro _ | split | (with_reducible apply Keeps.upd) | rfl

theorem ResKeeps.execRingDisableDone {s : State} (q : Nat) : ResKeeps s (execRingDisableDone q s) := by
  have h := Keeps.refl s
  unfold Sys2Proof.Machine.execRingDisableDone
  repeat' first | (with_reducible assumption) | (with_reducible apply ResKeeps.ofIte) | (with_reducible apply ResKeeps.next) | (with_reducible apply AnsKeeps.done) | (with_reducible apply AnsKeeps.wait) | (with_reducible apply Keeps.ringOff) | (with_reducible apply Keeps.ofIte) | (with_reducible apply Keeps.fold) | (with_reducible rfl) | (dsimp only) | intro _ | split | (with_reducible apply Keeps.upd) | rfl

theorem Keeps.areaWrite {s0 s : State} (h : Keeps s0 s) (q : Nat) (res : Bool) (value : Word) : Keeps s0 (s.areaWrite q res value) := by
  unfold Sys2Proof.Machine.State.areaWrite
  repeat' first | (with_reducible assumption) | (with_reducible apply Keeps.setQueue) | (with_reducible apply Keeps.ofIte) | (with_reducible apply Keeps.fold) | (with_reducible rfl) | (dsimp only) | intro _ | split | (with_reducible apply Keeps.upd) | rfl

theorem ResKeeps.execHstQBaseWrite {s : State} (q : Nat) (res : Bool) (value : Word) : ResKeeps s (execHstQBaseWrite q res value s) := by
  have h := Keeps.refl s
  unfold Sys2Proof.Machine.execHstQBaseWrite
  repeat' first | (with_reducible assumption) | (with_reducible apply ResKeeps.ofIte) | (with_reducible apply ResKeeps.next) | (with_reducible apply AnsKeeps.done) | (with_reducible apply AnsKeeps.wait) | (with_reducible apply Keeps.areaWrite) | (with_reducible apply Keeps.ofIte) | (with_reducible apply Keeps.fold) | (with_reducible rfl) | (dsimp only) | intro _ | split | (with_reducible apply Keeps.upd) | rfl

theorem ResKeeps.execHstQLog2sizeWrite {s : State} (q : Nat) (value : Word) : ResKeeps s (execHstQLog2sizeWrite q value s) := by
  have h := Keeps.refl s
  unfold Sys2Proof.Machine.execHstQLog2sizeWrite
  repeat' first | (with_reducible assumption) | (with_reducible apply ResKeeps.ofIte) | (with_reducible apply ResKeeps.next) | (with_reducible apply AnsKeeps.done) | (with_reducible apply AnsKeeps.wait) | (with_reducible apply Keeps.ctrlWrite) | (with_reducible apply Keeps.ofIte) | (with_reducible apply Keeps.fold) | (with_reducible rfl) | (dsimp only) | intro _ | split | (with_reducible apply Keeps.upd) | rfl

theorem ResKeeps.execUndefinedOpcode {s : State} (c : Cmd) (block : Nat) (opcode : BitVec 16) : ResKeeps s (execUndefinedOpcode c block opcode s) := by
  have h := Keeps.refl s
  unfold Sys2Proof.Machine.execUndefinedOpcode
  repeat' first | (with_reducible assumption) | (with_reducible apply ResKeeps.ofIte) | (with_reducible apply ResKeeps.next) | (with_reducible apply AnsKeeps.done) | (with_reducible apply AnsKeeps.wait) | (with_reducible apply Keeps.startNext) | (with_reducible apply Keeps.answer) | (with_reducible apply AnsKeeps.fail) | (with_reducible apply Keeps.ofIte) | (with_reducible apply Keeps.fold) | (with_reducible rfl) | (dsimp only) | intro _ | split | (with_reducible apply Keeps.upd) | rfl

theorem ResKeeps.execHstApiOpen {s : State} (c : Cmd) (loMajor : Nat) (loMinor : Nat) (hiMajor : Nat) (hiMinor : Nat) : ResKeeps s (execHstApiOpen c loMajor loMinor hiMajor hiMinor s) := by
  have h := Keeps.refl s
  unfold Sys2Proof.Machine.execHstApiOpen
  repeat' first | (with_reducible assumption) | (with_reducible apply AnsKeeps.ofIte) | (with_reducible apply ResKeeps.ofIte) | (with_reducible apply ResKeeps.next) | (with_reducible apply AnsKeeps.done) | (with_reducible apply AnsKeeps.wait) | (with_reducible apply Keeps.runCmd) | (with_reducible apply AnsKeeps.fail) | (with_reducible apply AnsKeeps.okay) | (with_reducible apply Keeps.ofIte1) | (with_reducible apply Keeps.fold1) | (with_reducible apply Keeps.ofIte2) | (with_reducible apply Keeps.fold2) | (with_reducible apply Keeps.ofIte) | (with_reducible apply Keeps.fold) | (with_reducible rfl) | (dsimp only) | intro _ | split | (with_reducible apply Keeps.upd) | rfl

/-! ### BrandCmd -/

theorem ResKeeps.execRailsUp {s : State} : ResKeeps s (execRailsUp s) := by
  have h := Keeps.refl s
  unfold Sys2Proof.Machine.execRailsUp
  repeat' first | (with_reducible assumption) | (with_reducible apply ResKeeps.ofIte) | (with_reducible apply ResKeeps.next) | (with_reducible apply AnsKeeps.done) | (with_reducible apply AnsKeeps.wait) | (with_reducible apply Keeps.brandRun) | (with_reducible apply Keeps.settle) | (with_reducible apply Keeps.ofIte) | (with_reducible apply Keeps.fold) | (with_reducible rfl) | (dsimp only) | intro _ | split | (with_reducible apply Keeps.upd) | rfl

theorem ResKeeps.execBrandRailFault {s : State} (panel : Nat) (rail : Nat) (mv : Int) : ResKeeps s (execBrandRailFault panel rail mv s) := by
  have h := Keeps.refl s
  unfold Sys2Proof.Machine.execBrandRailFault
  repeat' first | (with_reducible assumption) | (with_reducible apply ResKeeps.ofIte) | (with_reducible apply ResKeeps.next) | (with_reducible apply AnsKeeps.done) | (with_reducible apply AnsKeeps.wait) | (with_reducible apply Keeps.brandCut) | (with_reducible apply Keeps.railsStop) | (with_reducible apply Keeps.setEvt) | (with_reducible apply Keeps.settle) | (with_reducible apply Keeps.ofIte) | (with_reducible apply Keeps.fold) | (with_reducible rfl) | (dsimp only) | intro _ | split | (with_reducible apply Keeps.upd) | rfl

theorem ResKeeps.execRailHoldExpiry {s : State} : ResKeeps s (execRailHoldExpiry s) := by
  have h := Keeps.refl s
  unfold Sys2Proof.Machine.execRailHoldExpiry
  repeat' first | (with_reducible assumption) | (with_reducible apply ResKeeps.ofIte) | (with_reducible apply ResKeeps.next) | (with_reducible apply AnsKeeps.done) | (with_reducible apply AnsKeeps.wait) | (with_reducible apply Keeps.railsStop) | (with_reducible apply Keeps.settle) | (with_reducible apply Keeps.ofIte) | (with_reducible apply Keeps.fold) | (with_reducible rfl) | (dsimp only) | intro _ | split | (with_reducible apply Keeps.upd) | rfl

theorem Keeps.redraw {s0 s : State} (h : Keeps s0 s) (p : Nat) : Keeps s0 (s.redraw p) := by
  unfold Sys2Proof.Machine.State.redraw
  repeat' first | (with_reducible assumption) | (with_reducible apply Keeps.legal) | (with_reducible apply Keeps.legalBay) | (with_reducible apply Keeps.ofIte) | (with_reducible apply Keeps.fold) | (with_reducible rfl) | (dsimp only) | intro _ | split | (with_reducible apply Keeps.upd) | rfl

theorem ResKeeps.execPanelFrame {s : State} (p : Nat) : ResKeeps s (execPanelFrame p s) := by
  have h := Keeps.refl s
  unfold Sys2Proof.Machine.execPanelFrame
  repeat' first | (with_reducible assumption) | (with_reducible apply ResKeeps.ofIte) | (with_reducible apply ResKeeps.next) | (with_reducible apply AnsKeeps.done) | (with_reducible apply AnsKeeps.wait) | (with_reducible apply Keeps.advanceFrame) | (with_reducible apply Keeps.redraw) | (with_reducible apply Keeps.brandRun) | (with_reducible apply Keeps.panelRest) | (with_reducible apply Keeps.settle) | (with_reducible apply Keeps.ofIte) | (with_reducible apply Keeps.fold) | (with_reducible rfl) | (dsimp only) | intro _ | split | (with_reducible apply Keeps.upd) | rfl

theorem ResKeeps.execBrandPermitRetry {s : State} (panel : Option Nat) : ResKeeps s (execBrandPermitRetry panel s) := by
  have h := Keeps.refl s
  unfold Sys2Proof.Machine.execBrandPermitRetry
  repeat' first | (with_reducible assumption) | (with_reducible apply ResKeeps.ofIte) | (with_reducible apply ResKeeps.next) | (with_reducible apply AnsKeeps.done) | (with_reducible apply AnsKeeps.wait) | (with_reducible apply Keeps.modPanel) | (with_reducible apply Keeps.askRails) | (with_reducible apply Keeps.askPanels) | (with_reducible apply Keeps.settle) | (with_reducible apply Keeps.ofIte) | (with_reducible apply Keeps.fold) | (with_reducible rfl) | (dsimp only) | intro _ | split | (with_reducible apply Keeps.upd) | rfl

theorem ResKeeps.execLegalRegionRefresh {s : State} (bay : Nat) : ResKeeps s (execLegalRegionRefresh bay s) := by
  have h := Keeps.refl s
  unfold Sys2Proof.Machine.execLegalRegionRefresh
  repeat' first | (with_reducible assumption) | (with_reducible apply ResKeeps.ofIte) | (with_reducible apply ResKeeps.next) | (with_reducible apply AnsKeeps.done) | (with_reducible apply AnsKeeps.wait) | (with_reducible apply Keeps.legalRequest) | (with_reducible apply Keeps.settle) | (with_reducible apply Keeps.ofIte) | (with_reducible apply Keeps.fold) | (with_reducible rfl) | (dsimp only) | intro _ | split | (with_reducible apply Keeps.upd) | rfl

theorem ResKeeps.execBrdRegionUpdate {s : State} (c : Cmd) (p : Nat) (r : Nat) (mode : Nat) (dither : Nat) (off : Nat) (stride : Nat) : ResKeeps s (execBrdRegionUpdate c p r mode dither off stride s) := by
  have h := Keeps.refl s
  unfold Sys2Proof.Machine.execBrdRegionUpdate
  repeat' first | (with_reducible assumption) | (with_reducible apply AnsKeeps.ofIte) | (with_reducible apply ResKeeps.ofIte) | (with_reducible apply ResKeeps.next) | (with_reducible apply AnsKeeps.done) | (with_reducible apply AnsKeeps.wait) | (with_reducible apply Keeps.runSettle) | (with_reducible apply Keeps.panelTemp) | (with_reducible apply AnsKeeps.fail) | (with_reducible apply AnsKeeps.okay) | (with_reducible apply Keeps.placeUpd) | (with_reducible apply Keeps.brandRun) | (with_reducible apply Keeps.ofIte) | (with_reducible apply Keeps.fold) | (with_reducible rfl) | (dsimp only) | intro _ | split | (with_reducible apply Keeps.upd) | rfl

theorem ResKeeps.execBrdRegionInfo {s : State} (c : Cmd) (p : Nat) (r : Nat) : ResKeeps s (execBrdRegionInfo c p r s) := by
  have h := Keeps.refl s
  unfold Sys2Proof.Machine.execBrdRegionInfo
  repeat' first | (with_reducible assumption) | (with_reducible apply AnsKeeps.ofIte) | (with_reducible apply ResKeeps.ofIte) | (with_reducible apply ResKeeps.next) | (with_reducible apply AnsKeeps.done) | (with_reducible apply AnsKeeps.wait) | (with_reducible apply Keeps.runCmd) | (with_reducible apply AnsKeeps.fail) | (with_reducible apply AnsKeeps.okay) | (with_reducible apply Keeps.ofIte) | (with_reducible apply Keeps.fold) | (with_reducible rfl) | (dsimp only) | intro _ | split | (with_reducible apply Keeps.upd) | rfl

theorem ResKeeps.execBrdPanelInit {s : State} (c : Cmd) (p : Nat) : ResKeeps s (execBrdPanelInit c p s) := by
  have h := Keeps.refl s
  unfold Sys2Proof.Machine.execBrdPanelInit
  repeat' first | (with_reducible assumption) | (with_reducible apply AnsKeeps.ofIte) | (with_reducible apply ResKeeps.ofIte) | (with_reducible apply ResKeeps.next) | (with_reducible apply AnsKeeps.done) | (with_reducible apply AnsKeeps.wait) | (with_reducible apply Keeps.runSettle) | (with_reducible apply AnsKeeps.fail) | (with_reducible apply AnsKeeps.okay) | (with_reducible apply Keeps.modPanel) | (with_reducible apply Keeps.brandRun) | (with_reducible apply Keeps.ofIte) | (with_reducible apply Keeps.fold) | (with_reducible rfl) | (dsimp only) | intro _ | split | (with_reducible apply Keeps.upd) | rfl

theorem ResKeeps.execBrdRailClear {s : State} (c : Cmd) : ResKeeps s (execBrdRailClear c s) := by
  have h := Keeps.refl s
  unfold Sys2Proof.Machine.execBrdRailClear
  repeat' first | (with_reducible assumption) | (with_reducible apply AnsKeeps.ofIte) | (with_reducible apply ResKeeps.ofIte) | (with_reducible apply ResKeeps.next) | (with_reducible apply AnsKeeps.done) | (with_reducible apply AnsKeeps.wait) | (with_reducible apply Keeps.runCmd) | (with_reducible apply AnsKeeps.fail) | (with_reducible apply AnsKeeps.okay) | (with_reducible apply Keeps.ofIte) | (with_reducible apply Keeps.fold) | (with_reducible rfl) | (dsimp only) | intro _ | split | (with_reducible apply Keeps.upd) | rfl

/-! ### KeyCmd -/

theorem Keeps.lcHooks {s0 s : State} (h : Keeps s0 s) (from_ : Lc) : Keeps s0 (s.lcHooks from_) := by
  unfold Sys2Proof.Machine.State.lcHooks
  repeat' first | (with_reducible assumption) | (with_reducible apply Keeps.modBay) | (with_reducible apply Keeps.pilotGen) | (with_reducible apply Keeps.modPulse) | (with_reducible apply Keeps.tlySignLate) | (with_reducible apply Keeps.ofIte) | (with_reducible apply Keeps.fold) | (with_reducible rfl) | (dsimp only) | intro _ | split | (with_reducible apply Keeps.upd) | rfl

theorem lcMove_scrapped (b : Lc) (by_ : Nat) : lcMove .scrapped b by_ = false := by cases b <;> rfl

theorem AnsKeeps.lcChange {s0 s : State} (h : Keeps s0 s) (b : Lc) (by_ ctr : Nat) {rej : Status → Answer} (hr : ∀ e, AnsKeeps s0 (rej e))
    {full : Answer} (hf : AnsKeeps s0 full) (data : List Byte) : AnsKeeps s0 (s.lcChange b by_ ctr rej full data) := by
  unfold State.lcChange
  split
  · exact hr _
  · rename_i hm
    have hs : s.key.lc ≠ .scrapped := by
      intro e
      rw [e, lcMove_scrapped] at hm
      exact hm rfl
    split
    · exact hf
    · exact .okay ((h.lcTransition hs _ _).lcHooks _) _

theorem Keeps.keyApply {s0 s : State} (h : Keeps s0 s) (m : KeyMsg) : Keeps s0 (s.keyApply m) := by
  unfold Sys2Proof.Machine.State.keyApply
  repeat' first | (with_reducible assumption) | (with_reducible apply Keeps.installKey) | (with_reducible apply Keeps.setSlot) | (with_reducible apply Keeps.ofIte) | (with_reducible apply Keeps.fold) | (with_reducible rfl) | (dsimp only) | intro _ | split | (with_reducible apply Keeps.upd) | rfl

theorem ResKeeps.execKeyMsg {s : State} (c : Cmd) (m : KeyMsg) : ResKeeps s (execKeyMsg c m s) := by
  have h := Keeps.refl s
  unfold Sys2Proof.Machine.execKeyMsg
  repeat' first | (with_reducible assumption) | (with_reducible apply AnsKeeps.ofIte) | (with_reducible apply ResKeeps.ofIte) | (with_reducible apply ResKeeps.next) | (with_reducible apply AnsKeeps.done) | (with_reducible apply AnsKeeps.wait) | (with_reducible apply Keeps.runSettle) | (with_reducible apply AnsKeeps.msgRej) | (with_reducible apply Keeps.storeCtr) | (with_reducible apply AnsKeeps.lcChange) | (with_reducible apply AnsKeeps.logFull) | (with_reducible apply Keeps.setEvt) | (with_reducible apply Keeps.legalChange) | (with_reducible apply AnsKeeps.okay) | (with_reducible apply Keeps.keyApply) | (with_reducible apply Keeps.ofIte) | (with_reducible apply Keeps.fold) | (with_reducible rfl) | (dsimp only) | intro _ | split | (with_reducible apply Keeps.upd) | rfl

theorem ResKeeps.execKeySlotInfo {s : State} (c : Cmd) (slot : Nat) : ResKeeps s (execKeySlotInfo c slot s) := by
  have h := Keeps.refl s
  unfold Sys2Proof.Machine.execKeySlotInfo
  repeat' first | (with_reducible assumption) | (with_reducible apply AnsKeeps.ofIte) | (with_reducible apply ResKeeps.ofIte) | (with_reducible apply ResKeeps.next) | (with_reducible apply AnsKeeps.done) | (with_reducible apply AnsKeeps.wait) | (with_reducible apply Keeps.runCmd) | (with_reducible apply AnsKeeps.fail) | (with_reducible apply AnsKeeps.okay) | (with_reducible apply Keeps.ofIte) | (with_reducible apply Keeps.fold) | (with_reducible rfl) | (dsimp only) | intro _ | split | (with_reducible apply Keeps.upd) | rfl

theorem ResKeeps.execKeyPerso {s : State} (c : Cmd) (auth : Bool) (index : Nat) (key : Nat) (wellFormed : Bool) : ResKeeps s (execKeyPerso c auth index key wellFormed s) := by
  have h := Keeps.refl s
  unfold Sys2Proof.Machine.execKeyPerso
  repeat' first | (with_reducible assumption) | (with_reducible apply AnsKeeps.ofIte) | (with_reducible apply ResKeeps.ofIte) | (with_reducible apply ResKeeps.next) | (with_reducible apply AnsKeeps.done) | (with_reducible apply AnsKeeps.wait) | (with_reducible apply Keeps.runCmd) | (with_reducible apply AnsKeeps.fail) | (with_reducible apply AnsKeeps.okay) | (with_reducible apply Keeps.ofIte) | (with_reducible apply Keeps.fold) | (with_reducible rfl) | (dsimp only) | intro _ | split | (with_reducible apply Keeps.upd) | rfl

theorem ResKeeps.execKeyLcAdvance {s : State} (c : Cmd) (target : Nat) : ResKeeps s (execKeyLcAdvance c target s) := by
  have h := Keeps.refl s
  unfold Sys2Proof.Machine.execKeyLcAdvance
  repeat' first | (with_reducible assumption) | (with_reducible apply AnsKeeps.ofIte) | (with_reducible apply ResKeeps.ofIte) | (with_reducible apply ResKeeps.next) | (with_reducible apply AnsKeeps.done) | (with_reducible apply AnsKeeps.wait) | (with_reducible apply Keeps.runSettle) | (with_reducible apply AnsKeeps.fail) | (with_reducible apply AnsKeeps.lcChange) | (with_reducible apply AnsKeeps.logFull) | (with_reducible apply Keeps.ofIte) | (with_reducible apply Keeps.fold) | (with_reducible rfl) | (dsimp only) | intro _ | split | (with_reducible apply Keeps.upd) | rfl

theorem ResKeeps.execKeyAttest {s : State} (c : Cmd) (challenge : Nat) (dst : Nat) : ResKeeps s (execKeyAttest c challenge dst s) := by
  have h := Keeps.refl s
  unfold Sys2Proof.Machine.execKeyAttest
  repeat' first | (with_reducible assumption) | (with_reducible apply AnsKeeps.ofIte) | (with_reducible apply ResKeeps.ofIte) | (with_reducible apply ResKeeps.next) | (with_reducible apply AnsKeeps.done) | (with_reducible apply AnsKeeps.wait) | (with_reducible apply Keeps.runCmd) | (with_reducible apply AnsKeeps.fail) | (with_reducible apply Keeps.draw) | (with_reducible apply AnsKeeps.okay) | (with_reducible apply Keeps.writeGen) | (with_reducible apply Keeps.ofIte1) | (with_reducible apply Keeps.fold1) | (with_reducible apply Keeps.ofIte2) | (with_reducible apply Keeps.fold2) | (with_reducible apply Keeps.ofIte) | (with_reducible apply Keeps.fold) | (with_reducible rfl) | (dsimp only) | intro _ | split | (with_reducible apply Keeps.upd) | rfl

theorem ResKeeps.execKeyChainSet {s : State} (c : Cmd) (slot : Nat) (leafKey : Nat) (root : Nat) (size : Nat) (wellFormed : Bool) : ResKeeps s (execKeyChainSet c slot leafKey root size wellFormed s) := by
  have h := Keeps.refl s
  unfold Sys2Proof.Machine.execKeyChainSet
  repeat' first | (with_reducible assumption) | (with_reducible apply AnsKeeps.ofIte) | (with_reducible apply ResKeeps.ofIte) | (with_reducible apply ResKeeps.next) | (with_reducible apply AnsKeeps.done) | (with_reducible apply AnsKeeps.wait) | (with_reducible apply Keeps.runCmd) | (with_reducible apply AnsKeeps.fail) | (with_reducible apply AnsKeeps.okay) | (with_reducible apply Keeps.ofIte1) | (with_reducible apply Keeps.fold1) | (with_reducible apply Keeps.ofIte) | (with_reducible apply Keeps.fold) | (with_reducible rfl) | (dsimp only) | intro _ | split | (with_reducible apply Keeps.upd) | rfl

theorem ResKeeps.execKeySign {s : State} (c : Cmd) (slot : Nat) (digest : Nat) : ResKeeps s (execKeySign c slot digest s) := by
  have h := Keeps.refl s
  unfold Sys2Proof.Machine.execKeySign
  repeat' first | (with_reducible assumption) | (with_reducible apply AnsKeeps.ofIte) | (with_reducible apply ResKeeps.ofIte) | (with_reducible apply ResKeeps.next) | (with_reducible apply AnsKeeps.done) | (with_reducible apply AnsKeeps.wait) | (with_reducible apply Keeps.runCmd) | (with_reducible apply AnsKeeps.fail) | (with_reducible apply Keeps.draw) | (with_reducible apply AnsKeeps.okay) | (with_reducible apply Keeps.ofIte1) | (with_reducible apply Keeps.fold1) | (with_reducible apply Keeps.ofIte2) | (with_reducible apply Keeps.fold2) | (with_reducible apply Keeps.ofIte) | (with_reducible apply Keeps.fold) | (with_reducible rfl) | (dsimp only) | intro _ | split | (with_reducible apply Keeps.upd) | rfl

/-! ### TimCmd -/

theorem Keeps.tlyStep {s0 s : State} (h : Keeps s0 s) (old : Stamp) (from_ : Option Stamp) : Keeps s0 (s.tlyStep old from_) := by
  unfold Sys2Proof.Machine.State.tlyStep
  repeat' first | (with_reducible assumption) | (with_reducible apply Keeps.closeEntries) | (with_reducible apply Keeps.segment) | (with_reducible apply Keeps.modRcd) | (with_reducible apply Keeps.catchUp) | (with_reducible apply Keeps.setTariff) | (with_reducible apply Keeps.openEntries) | (with_reducible apply Keeps.noteEv) | (with_reducible apply Keeps.eventSlots) | (with_reducible apply Keeps.checkpointNow) | (with_reducible apply Keeps.setEvt) | (with_reducible apply Keeps.ofIte) | (with_reducible apply Keeps.fold) | (with_reducible rfl) | (dsimp only) | intro _ | split | (with_reducible apply Keeps.upd) | rfl

theorem Keeps.shiftStamps {s0 s : State} (h : Keeps s0 s) (d : Int) : Keeps s0 (s.shiftStamps d) := by
  unfold Sys2Proof.Machine.State.shiftStamps
  repeat' first | (with_reducible assumption) | (with_reducible apply Keeps.ofIte) | (with_reducible apply Keeps.fold) | (with_reducible rfl) | (dsimp only) | intro _ | split | (with_reducible apply Keeps.upd) | rfl

theorem Keeps.stepNow {s0 s : State} (h : Keeps s0 s) (d : Int) : Keeps s0 (s.stepNow d) := by
  unfold Sys2Proof.Machine.State.stepNow
  repeat' first | (with_reducible assumption) | (with_reducible apply Keeps.setTime) | (with_reducible apply Keeps.shiftStamps) | (with_reducible apply Keeps.setServo) | (with_reducible apply Keeps.tlyStep) | (with_reducible apply Keeps.setEvt) | (with_reducible apply Keeps.ofIte) | (with_reducible apply Keeps.fold) | (with_reducible rfl) | (dsimp only) | intro _ | split | (with_reducible apply Keeps.upd) | rfl

theorem ResKeeps.execStepApply {s : State} : ResKeeps s (execStepApply s) := by
  have h := Keeps.refl s
  unfold Sys2Proof.Machine.execStepApply
  repeat' first | (with_reducible assumption) | (with_reducible apply ResKeeps.ofIte) | (with_reducible apply ResKeeps.next) | (with_reducible apply AnsKeeps.done) | (with_reducible apply AnsKeeps.wait) | (with_reducible apply Keeps.stepNow) | (with_reducible apply Keeps.settle) | (with_reducible apply Keeps.nextBoundary) | (with_reducible apply Keeps.commit) | (with_reducible apply Keeps.energyLimits) | (with_reducible apply Keeps.ofIte) | (with_reducible apply Keeps.fold) | (with_reducible rfl) | (dsimp only) | intro _ | split | (with_reducible apply Keeps.upd) | rfl

theorem Keeps.utcChange {s0 s : State} (h : Keeps s0 s) (off : Int) : Keeps s0 (s.utcChange off) := by
  unfold Sys2Proof.Machine.State.utcChange
  repeat' first | (with_reducible assumption) | (with_reducible apply Keeps.tlyStep) | (with_reducible apply Keeps.ofIte) | (with_reducible apply Keeps.fold) | (with_reducible rfl) | (dsimp only) | intro _ | split | (with_reducible apply Keeps.upd) | rfl

theorem Keeps.takeSource {s0 s : State} (h : Keeps s0 s) (off : Int) (leap : Nat) : Keeps s0 (s.takeSource off leap) := by
  unfold Sys2Proof.Machine.State.takeSource
  repeat' first | (with_reducible assumption) | (with_reducible apply Keeps.utcChange) | (with_reducible apply Keeps.ofIte) | (with_reducible apply Keeps.fold) | (with_reducible rfl) | (dsimp only) | intro _ | split | (with_reducible apply Keeps.upd) | rfl

theorem ResKeeps.execBoomTimeSync {s : State} (port : Nat) (t1 : Int) (p2 : Int) (p3 : Int) (t4 : Int) (utcOff : Int) (leap : Nat) : ResKeeps s (execBoomTimeSync port t1 p2 p3 t4 utcOff leap s) := by
  have h := Keeps.refl s
  unfold Sys2Proof.Machine.execBoomTimeSync
  repeat' first | (with_reducible assumption) | (with_reducible apply ResKeeps.ofIte) | (with_reducible apply ResKeeps.next) | (with_reducible apply AnsKeeps.done) | (with_reducible apply AnsKeeps.wait) | (with_reducible apply Keeps.offset) | (with_reducible apply Keeps.takeSource) | (with_reducible apply Keeps.settle) | (with_reducible apply Keeps.ofIte2) | (with_reducible apply Keeps.fold2) | (with_reducible apply Keeps.ofIte) | (with_reducible apply Keeps.fold) | (with_reducible rfl) | (dsimp only) | intro _ | split | (with_reducible apply Keeps.upd) | rfl

theorem ResKeeps.execServoOffsetTimeout {s : State} : ResKeeps s (execServoOffsetTimeout s) := by
  have h := Keeps.refl s
  unfold Sys2Proof.Machine.execServoOffsetTimeout
  repeat' first | (with_reducible assumption) | (with_reducible apply ResKeeps.ofIte) | (with_reducible apply ResKeeps.next) | (with_reducible apply AnsKeeps.done) | (with_reducible apply AnsKeeps.wait) | (with_reducible apply Keeps.setServo) | (with_reducible apply Keeps.ofIte) | (with_reducible apply Keeps.fold) | (with_reducible rfl) | (dsimp only) | intro _ | split | (with_reducible apply Keeps.upd) | rfl

theorem ResKeeps.execHoldoverLimit {s : State} : ResKeeps s (execHoldoverLimit s) := by
  have h := Keeps.refl s
  unfold Sys2Proof.Machine.execHoldoverLimit
  repeat' first | (with_reducible assumption) | (with_reducible apply ResKeeps.ofIte) | (with_reducible apply ResKeeps.next) | (with_reducible apply AnsKeeps.done) | (with_reducible apply AnsKeeps.wait) | (with_reducible apply Keeps.setEvt) | (with_reducible apply Keeps.ofIte) | (with_reducible apply Keeps.fold) | (with_reducible rfl) | (dsimp only) | intro _ | split | (with_reducible apply Keeps.upd) | rfl

theorem Keeps.leapMark {s0 s : State} (h : Keeps s0 s) : Keeps s0 (s.leapMark) := by
  unfold Sys2Proof.Machine.State.leapMark
  repeat' first | (with_reducible assumption) | (with_reducible apply Keeps.flagEntries) | (with_reducible apply Keeps.setEvt) | (with_reducible apply Keeps.ofIte) | (with_reducible apply Keeps.fold) | (with_reducible rfl) | (dsimp only) | intro _ | split | (with_reducible apply Keeps.upd) | rfl

theorem ResKeeps.execLeapSecond {s : State} : ResKeeps s (execLeapSecond s) := by
  have h := Keeps.refl s
  unfold Sys2Proof.Machine.execLeapSecond
  repeat' first | (with_reducible assumption) | (with_reducible apply ResKeeps.ofIte) | (with_reducible apply ResKeeps.next) | (with_reducible apply AnsKeeps.done) | (with_reducible apply AnsKeeps.wait) | (with_reducible apply Keeps.leapMark) | (with_reducible apply Keeps.boundaries) | (with_reducible apply Keeps.eventSlots) | (with_reducible apply Keeps.checkpointNow) | (with_reducible apply Keeps.settle) | (with_reducible apply Keeps.ofIte) | (with_reducible apply Keeps.fold) | (with_reducible rfl) | (dsimp only) | intro _ | split | (with_reducible apply Keeps.upd) | rfl

theorem ResKeeps.execRtcTempComp {s : State} (temp : Int) : ResKeeps s (execRtcTempComp temp s) := by
  have h := Keeps.refl s
  unfold Sys2Proof.Machine.execRtcTempComp
  repeat' first | (with_reducible assumption) | (with_reducible apply ResKeeps.ofIte) | (with_reducible apply ResKeeps.next) | (with_reducible apply AnsKeeps.done) | (with_reducible apply AnsKeeps.wait) | (with_reducible apply Keeps.ofIte) | (with_reducible apply Keeps.fold) | (with_reducible rfl) | (dsimp only) | intro _ | split | (with_reducible apply Keeps.upd) | rfl

theorem ResKeeps.execRtcSync {s : State} : ResKeeps s (execRtcSync s) := by
  have h := Keeps.refl s
  unfold Sys2Proof.Machine.execRtcSync
  repeat' first | (with_reducible assumption) | (with_reducible apply ResKeeps.ofIte) | (with_reducible apply ResKeeps.next) | (with_reducible apply AnsKeeps.done) | (with_reducible apply AnsKeeps.wait) | (with_reducible apply Keeps.draw) | (with_reducible apply Keeps.ofIte1) | (with_reducible apply Keeps.fold1) | (with_reducible apply Keeps.ofIte2) | (with_reducible apply Keeps.fold2) | (with_reducible apply Keeps.ofIte) | (with_reducible apply Keeps.fold) | (with_reducible rfl) | (dsimp only) | intro _ | split | (with_reducible apply Keeps.upd) | rfl

theorem ResKeeps.execSlewEnd {s : State} : ResKeeps s (execSlewEnd s) := by
  have h := Keeps.refl s
  unfold Sys2Proof.Machine.execSlewEnd
  repeat' first | (with_reducible assumption) | (with_reducible apply ResKeeps.ofIte) | (with_reducible apply ResKeeps.next) | (with_reducible apply AnsKeeps.done) | (with_reducible apply AnsKeeps.wait) | (with_reducible apply Keeps.lockIfDue) | (with_reducible apply Keeps.ofIte) | (with_reducible apply Keeps.fold) | (with_reducible rfl) | (dsimp only) | intro _ | split | (with_reducible apply Keeps.upd) | rfl

theorem ResKeeps.execTimOffset {s : State} (c : Cmd) (sec : Int) (ns : Nat) (frac : Nat) (utcOff : Int) (leap : Nat) : ResKeeps s (execTimOffset c sec ns frac utcOff leap s) := by
  have h := Keeps.refl s
  unfold Sys2Proof.Machine.execTimOffset
  repeat' first | (with_reducible assumption) | (with_reducible apply AnsKeeps.ofIte) | (with_reducible apply ResKeeps.ofIte) | (with_reducible apply ResKeeps.next) | (with_reducible apply AnsKeeps.done) | (with_reducible apply AnsKeeps.wait) | (with_reducible apply Keeps.runSettle) | (with_reducible apply AnsKeeps.fail) | (with_reducible apply Keeps.offset) | (with_reducible apply AnsKeeps.okay) | (with_reducible apply Keeps.takeSource) | (with_reducible apply Keeps.ofIte1) | (with_reducible apply Keeps.fold1) | (with_reducible apply Keeps.ofIte2) | (with_reducible apply Keeps.fold2) | (with_reducible apply Keeps.ofIte) | (with_reducible apply Keeps.fold) | (with_reducible rfl) | (dsimp only) | intro _ | split | (with_reducible apply Keeps.upd) | rfl

theorem ResKeeps.execTimSet {s : State} (c : Cmd) (sec : Nat) (ns : Nat) : ResKeeps s (execTimSet c sec ns s) := by
  have h := Keeps.refl s
  unfold Sys2Proof.Machine.execTimSet
  repeat' first | (with_reducible assumption) | (with_reducible apply AnsKeeps.ofIte) | (with_reducible apply ResKeeps.ofIte) | (with_reducible apply ResKeeps.next) | (with_reducible apply AnsKeeps.done) | (with_reducible apply AnsKeeps.wait) | (with_reducible apply Keeps.runSettle) | (with_reducible apply AnsKeeps.fail) | (with_reducible apply AnsKeeps.okay) | (with_reducible apply Keeps.ofIte) | (with_reducible apply Keeps.fold) | (with_reducible rfl) | (dsimp only) | intro _ | split | (with_reducible apply Keeps.upd) | rfl

theorem ResKeeps.execTimRead {s : State} (c : Cmd) : ResKeeps s (execTimRead c s) := by
  have h := Keeps.refl s
  unfold Sys2Proof.Machine.execTimRead
  repeat' first | (with_reducible assumption) | (with_reducible apply AnsKeeps.ofIte) | (with_reducible apply ResKeeps.ofIte) | (with_reducible apply ResKeeps.next) | (with_reducible apply AnsKeeps.done) | (with_reducible apply AnsKeeps.wait) | (with_reducible apply Keeps.runCmd) | (with_reducible apply AnsKeeps.okay) | (with_reducible apply Keeps.ofIte) | (with_reducible apply Keeps.fold) | (with_reducible rfl) | (dsimp only) | intro _ | split | (with_reducible apply Keeps.upd) | rfl

/-! ### CruiseCmd -/

theorem ResKeeps.execCruiseSliceRequest {s : State} : ResKeeps s (execCruiseSliceRequest s) := by
  have h := Keeps.refl s
  unfold Sys2Proof.Machine.execCruiseSliceRequest
  repeat' first | (with_reducible assumption) | (with_reducible apply ResKeeps.ofIte) | (with_reducible apply ResKeeps.next) | (with_reducible apply AnsKeeps.done) | (with_reducible apply AnsKeeps.wait) | (with_reducible apply Keeps.idle) | (with_reducible apply Keeps.sliceAsk) | (with_reducible apply Keeps.settle) | (with_reducible apply Keeps.ofIte) | (with_reducible apply Keeps.fold) | (with_reducible rfl) | (dsimp only) | intro _ | split | (with_reducible apply Keeps.upd) | rfl

theorem Keeps.rowContext {s0 s : State} (h : Keeps s0 s) (k : Nat) : Keeps s0 (s.rowContext k) := by
  unfold Sys2Proof.Machine.State.rowContext
  repeat' first | (with_reducible assumption) | (with_reducible apply Keeps.modBay) | (with_reducible apply Keeps.pilotGen) | (with_reducible apply Keeps.ofIte) | (with_reducible apply Keeps.fold) | (with_reducible rfl) | (dsimp only) | intro _ | split | (with_reducible apply Keeps.upd) | rfl

theorem Keeps.rowLost {s0 s : State} (h : Keeps s0 s) (r : Nat × Nat) : Keeps s0 (s.rowLost r) := by
  unfold Sys2Proof.Machine.State.rowLost
  repeat' first | (with_reducible assumption) | (with_reducible apply Keeps.rowContext) | (with_reducible apply Keeps.landUncorr) | (with_reducible apply Keeps.ofIte1) | (with_reducible apply Keeps.fold1) | (with_reducible apply Keeps.ofIte2) | (with_reducible apply Keeps.fold2) | (with_reducible apply Keeps.ofIte) | (with_reducible apply Keeps.fold) | (with_reducible rfl) | (dsimp only) | intro _ | split | (with_reducible apply Keeps.upd) | rfl

theorem ResKeeps.execCruiseSliceEnd {s : State} (failRows : List Nat) : ResKeeps s (execCruiseSliceEnd failRows s) := by
  have h := Keeps.refl s
  unfold Sys2Proof.Machine.execCruiseSliceEnd
  repeat' first | (with_reducible assumption) | (with_reducible apply ResKeeps.ofIte) | (with_reducible apply ResKeeps.next) | (with_reducible apply AnsKeeps.done) | (with_reducible apply AnsKeeps.wait) | (with_reducible apply Keeps.softRepair) | (with_reducible apply Keeps.rowLost) | (with_reducible apply Keeps.sliceOver) | (with_reducible apply Keeps.settle) | (with_reducible apply Keeps.ofIte1) | (with_reducible apply Keeps.fold1) | (with_reducible apply Keeps.ofIte2) | (with_reducible apply Keeps.fold2) | (with_reducible apply Keeps.ofIte) | (with_reducible apply Keeps.fold) | (with_reducible rfl) | (dsimp only) | intro _ | split | (with_reducible apply Keeps.upd) | rfl

theorem ResKeeps.execSliceOverrun {s : State} : ResKeeps s (execSliceOverrun s) := by
  have h := Keeps.refl s
  unfold Sys2Proof.Machine.execSliceOverrun
  repeat' first | (with_reducible assumption) | (with_reducible apply ResKeeps.ofIte) | (with_reducible apply ResKeeps.next) | (with_reducible apply AnsKeeps.done) | (with_reducible apply AnsKeeps.wait) | (with_reducible apply Keeps.setEvt) | (with_reducible apply Keeps.sliceOver) | (with_reducible apply Keeps.settle) | (with_reducible apply Keeps.ofIte) | (with_reducible apply Keeps.fold) | (with_reducible rfl) | (dsimp only) | intro _ | split | (with_reducible apply Keeps.upd) | rfl

theorem ResKeeps.execCrsPause {s : State} (c : Cmd) : ResKeeps s (execCrsPause c s) := by
  have h := Keeps.refl s
  unfold Sys2Proof.Machine.execCrsPause
  repeat' first | (with_reducible assumption) | (with_reducible apply AnsKeeps.ofIte) | (with_reducible apply ResKeeps.ofIte) | (with_reducible apply ResKeeps.next) | (with_reducible apply AnsKeeps.done) | (with_reducible apply AnsKeeps.wait) | (with_reducible apply Keeps.runSettle) | (with_reducible apply Keeps.idle) | (with_reducible apply AnsKeeps.okay) | (with_reducible apply Keeps.release) | (with_reducible apply AnsKeeps.fail) | (with_reducible apply Keeps.ofIte) | (with_reducible apply Keeps.fold) | (with_reducible rfl) | (dsimp only) | intro _ | split | (with_reducible apply Keeps.upd) | rfl

theorem ResKeeps.execCrsResume {s : State} (c : Cmd) : ResKeeps s (execCrsResume c s) := by
  have h := Keeps.refl s
  unfold Sys2Proof.Machine.execCrsResume
  repeat' first | (with_reducible assumption) | (with_reducible apply AnsKeeps.ofIte) | (with_reducible apply ResKeeps.ofIte) | (with_reducible apply ResKeeps.next) | (with_reducible apply AnsKeeps.done) | (with_reducible apply AnsKeeps.wait) | (with_reducible apply Keeps.runCmd) | (with_reducible apply AnsKeeps.okay) | (with_reducible apply Keeps.idle) | (with_reducible apply AnsKeeps.fail) | (with_reducible apply Keeps.ofIte) | (with_reducible apply Keeps.fold) | (with_reducible rfl) | (dsimp only) | intro _ | split | (with_reducible apply Keeps.upd) | rfl

theorem ResKeeps.execCrsFuseRepair {s : State} (c : Cmd) : ResKeeps s (execCrsFuseRepair c s) := by
  have h := Keeps.refl s
  unfold Sys2Proof.Machine.execCrsFuseRepair
  repeat' first | (with_reducible assumption) | (with_reducible apply AnsKeeps.ofIte) | (with_reducible apply ResKeeps.ofIte) | (with_reducible apply ResKeeps.next) | (with_reducible apply AnsKeeps.done) | (with_reducible apply AnsKeeps.wait) | (with_reducible apply Keeps.runSettle) | (with_reducible apply AnsKeeps.fail) | (with_reducible apply Keeps.present) | (with_reducible apply Keeps.ofIte) | (with_reducible apply Keeps.fold) | (with_reducible rfl) | (dsimp only) | intro _ | split | (with_reducible apply Keeps.upd) | rfl

theorem ResKeeps.execCrsReport {s : State} (c : Cmd) (dst : Nat) : ResKeeps s (execCrsReport c dst s) := by
  have h := Keeps.refl s
  unfold Sys2Proof.Machine.execCrsReport
  repeat' first | (with_reducible assumption) | (with_reducible apply AnsKeeps.ofIte) | (with_reducible apply ResKeeps.ofIte) | (with_reducible apply ResKeeps.next) | (with_reducible apply AnsKeeps.done) | (with_reducible apply AnsKeeps.wait) | (with_reducible apply Keeps.runCmd) | (with_reducible apply AnsKeeps.fail) | (with_reducible apply AnsKeeps.okay) | (with_reducible apply Keeps.writeGen) | (with_reducible apply Keeps.ofIte) | (with_reducible apply Keeps.fold) | (with_reducible rfl) | (dsimp only) | intro _ | split | (with_reducible apply Keeps.upd) | rfl

/-! ### ReaderCmd -/

theorem ResKeeps.execDetectionPing {s : State} (ant : Nat) (amp : Int) (ph : Int) : ResKeeps s (execDetectionPing ant amp ph s) := by
  have h := Keeps.refl s
  unfold Sys2Proof.Machine.execDetectionPing
  repeat' first | (with_reducible assumption) | (with_reducible apply ResKeeps.ofIte) | (with_reducible apply ResKeeps.next) | (with_reducible apply AnsKeeps.done) | (with_reducible apply AnsKeeps.wait) | (with_reducible apply Keeps.setAnt) | (with_reducible apply Keeps.setEvt) | (with_reducible apply Keeps.readerAsk) | (with_reducible apply Keeps.settle) | (with_reducible apply Keeps.wakeUp) | (with_reducible apply Keeps.ofIte) | (with_reducible apply Keeps.fold) | (with_reducible rfl) | (dsimp only) | intro _ | split | (with_reducible apply Keeps.upd) | rfl

theorem ResKeeps.execCardHoldExpiry {s : State} : ResKeeps s (execCardHoldExpiry s) := by
  have h := Keeps.refl s
  unfold Sys2Proof.Machine.execCardHoldExpiry
  repeat' first | (with_reducible assumption) | (with_reducible apply ResKeeps.ofIte) | (with_reducible apply ResKeeps.next) | (with_reducible apply AnsKeeps.done) | (with_reducible apply AnsKeeps.wait) | (with_reducible apply Keeps.fieldOff) | (with_reducible apply Keeps.settle) | (with_reducible apply Keeps.ofIte) | (with_reducible apply Keeps.fold) | (with_reducible rfl) | (dsimp only) | intro _ | split | (with_reducible apply Keeps.upd) | rfl

theorem ResKeeps.execNfcTransaction {s : State} (ant : Nat) (cards : List Card) : ResKeeps s (execNfcTransaction ant cards s) := by
  have h := Keeps.refl s
  unfold Sys2Proof.Machine.execNfcTransaction
  repeat' first | (with_reducible assumption) | (with_reducible apply ResKeeps.ofIte) | (with_reducible apply ResKeeps.next) | (with_reducible apply AnsKeeps.done) | (with_reducible apply AnsKeeps.wait) | (with_reducible apply Keeps.nfcRun) | (with_reducible apply Keeps.settle) | (with_reducible apply Keeps.ofIte1) | (with_reducible apply Keeps.fold1) | (with_reducible apply Keeps.ofIte) | (with_reducible apply Keeps.fold) | (with_reducible rfl) | (dsimp only) | intro _ | split | (with_reducible apply Keeps.upd) | rfl

theorem ResKeeps.execTagSelect {s : State} (file : Nat) : ResKeeps s (execTagSelect file s) := by
  have h := Keeps.refl s
  unfold Sys2Proof.Machine.execTagSelect
  repeat' first | (with_reducible assumption) | (with_reducible apply ResKeeps.ofIte) | (with_reducible apply ResKeeps.next) | (with_reducible apply AnsKeeps.done) | (with_reducible apply AnsKeeps.wait) | (with_reducible apply Keeps.unlatch) | (with_reducible apply Keeps.ofIte) | (with_reducible apply Keeps.fold) | (with_reducible rfl) | (dsimp only) | intro _ | split | (with_reducible apply Keeps.upd) | rfl

theorem ResKeeps.execTagReadBinary {s : State} (page : Nat) (count : Nat) : ResKeeps s (execTagReadBinary page count s) := by
  have h := Keeps.refl s
  unfold Sys2Proof.Machine.execTagReadBinary
  repeat' first | (with_reducible assumption) | (with_reducible apply ResKeeps.ofIte) | (with_reducible apply ResKeeps.next) | (with_reducible apply AnsKeeps.done) | (with_reducible apply AnsKeeps.wait) | (with_reducible apply Keeps.send) | (with_reducible apply Keeps.ofIte) | (with_reducible apply Keeps.fold) | (with_reducible rfl) | (dsimp only) | intro _ | split | (with_reducible apply Keeps.upd) | rfl

theorem ResKeeps.execTagUpdateBinary {s : State} (page : Nat) (data : List Byte) : ResKeeps s (execTagUpdateBinary page data s) := by
  have h := Keeps.refl s
  unfold Sys2Proof.Machine.execTagUpdateBinary
  repeat' first | (with_reducible assumption) | (with_reducible apply ResKeeps.ofIte) | (with_reducible apply ResKeeps.next) | (with_reducible apply AnsKeeps.done) | (with_reducible apply AnsKeeps.wait) | (with_reducible apply Keeps.writeTag) | (with_reducible apply Keeps.setEvtIf) | (with_reducible apply Keeps.ofIte) | (with_reducible apply Keeps.fold) | (with_reducible rfl) | (dsimp only) | intro _ | split | (with_reducible apply Keeps.upd) | rfl

theorem ResKeeps.execTagFieldLoss {s : State} : ResKeeps s (execTagFieldLoss s) := by
  have h := Keeps.refl s
  unfold Sys2Proof.Machine.execTagFieldLoss
  repeat' first | (with_reducible assumption) | (with_reducible apply ResKeeps.ofIte) | (with_reducible apply ResKeeps.next) | (with_reducible apply AnsKeeps.done) | (with_reducible apply AnsKeeps.wait) | (with_reducible apply Keeps.unlatch) | (with_reducible apply Keeps.ofIte) | (with_reducible apply Keeps.fold) | (with_reducible rfl) | (dsimp only) | intro _ | split | (with_reducible apply Keeps.upd) | rfl

theorem ResKeeps.execTagNearResume {s : State} : ResKeeps s (execTagNearResume s) := by
  have h := Keeps.refl s
  unfold Sys2Proof.Machine.execTagNearResume
  repeat' first | (with_reducible assumption) | (with_reducible apply ResKeeps.ofIte) | (with_reducible apply ResKeeps.next) | (with_reducible apply AnsKeeps.done) | (with_reducible apply AnsKeeps.wait) | (with_reducible apply Keeps.ofIte) | (with_reducible apply Keeps.fold) | (with_reducible rfl) | (dsimp only) | intro _ | split | (with_reducible apply Keeps.upd) | rfl

theorem ResKeeps.execTagFieldSessionStart {s : State} : ResKeeps s (execTagFieldSessionStart s) := by
  have h := Keeps.refl s
  unfold Sys2Proof.Machine.execTagFieldSessionStart
  repeat' first | (with_reducible assumption) | (with_reducible apply ResKeeps.ofIte) | (with_reducible apply ResKeeps.next) | (with_reducible apply AnsKeeps.done) | (with_reducible apply AnsKeeps.wait) | (with_reducible apply Keeps.setEvt) | (with_reducible apply Keeps.modAnt) | (with_reducible apply Keeps.ofIte) | (with_reducible apply Keeps.fold) | (with_reducible rfl) | (dsimp only) | intro _ | split | (with_reducible apply Keeps.upd) | rfl

theorem ResKeeps.execTotalsPublish {s : State} : ResKeeps s (execTotalsPublish s) := by
  have h := Keeps.refl s
  unfold Sys2Proof.Machine.execTotalsPublish
  repeat' first | (with_reducible assumption) | (with_reducible apply ResKeeps.ofIte) | (with_reducible apply ResKeeps.next) | (with_reducible apply AnsKeeps.done) | (with_reducible apply AnsKeeps.wait) | (with_reducible apply Keeps.publishTotals) | (with_reducible apply Keeps.ofIte) | (with_reducible apply Keeps.fold) | (with_reducible rfl) | (dsimp only) | intro _ | split | (with_reducible apply Keeps.upd) | rfl

theorem ResKeeps.execExcerptCopy {s : State} : ResKeeps s (execExcerptCopy s) := by
  have h := Keeps.refl s
  unfold Sys2Proof.Machine.execExcerptCopy
  repeat' first | (with_reducible assumption) | (with_reducible apply ResKeeps.ofIte) | (with_reducible apply ResKeeps.next) | (with_reducible apply AnsKeeps.done) | (with_reducible apply AnsKeeps.wait) | (with_reducible apply Keeps.publishExcerpt) | (with_reducible apply Keeps.ofIte) | (with_reducible apply Keeps.fold) | (with_reducible rfl) | (dsimp only) | intro _ | split | (with_reducible apply Keeps.upd) | rfl

theorem ResKeeps.execNfcReferenceReturn {s : State} : ResKeeps s (execNfcReferenceReturn s) := by
  have h := Keeps.refl s
  unfold Sys2Proof.Machine.execNfcReferenceReturn
  repeat' first | (with_reducible assumption) | (with_reducible apply ResKeeps.ofIte) | (with_reducible apply ResKeeps.next) | (with_reducible apply AnsKeeps.done) | (with_reducible apply AnsKeeps.wait) | (with_reducible apply Keeps.publishDue) | (with_reducible apply Keeps.ofIte) | (with_reducible apply Keeps.fold) | (with_reducible rfl) | (dsimp only) | intro _ | split | (with_reducible apply Keeps.upd) | rfl

theorem ResKeeps.execNfcPoll {s : State} (c : Cmd) (ant : Nat) (cards : List Card) : ResKeeps s (execNfcPoll c ant cards s) := by
  have h := Keeps.refl s
  unfold Sys2Proof.Machine.execNfcPoll
  repeat' first | (with_reducible assumption) | (with_reducible apply AnsKeeps.ofIte) | (with_reducible apply ResKeeps.ofIte) | (with_reducible apply ResKeeps.next) | (with_reducible apply AnsKeeps.done) | (with_reducible apply AnsKeeps.wait) | (with_reducible apply Keeps.runSettle) | (with_reducible apply AnsKeeps.fail) | (with_reducible apply Keeps.readerAsk) | (with_reducible apply Keeps.ofIte) | (with_reducible apply Keeps.fold) | (with_reducible rfl) | (dsimp only) | intro _ | split | (with_reducible apply Keeps.upd) | rfl

theorem ResKeeps.execNfcXchg {s : State} (c : Cmd) (ant : Nat) (apdu : List Byte) (resp : Option (List Byte)) (dst : Nat) : ResKeeps s (execNfcXchg c ant apdu resp dst s) := by
  have h := Keeps.refl s
  unfold Sys2Proof.Machine.execNfcXchg
  repeat' first | (with_reducible assumption) | (with_reducible apply AnsKeeps.ofIte) | (with_reducible apply ResKeeps.ofIte) | (with_reducible apply ResKeeps.next) | (with_reducible apply AnsKeeps.done) | (with_reducible apply AnsKeeps.wait) | (with_reducible apply Keeps.runSettle) | (with_reducible apply AnsKeeps.fail) | (with_reducible apply Keeps.send) | (with_reducible apply AnsKeeps.okay) | (with_reducible apply Keeps.writeGen) | (with_reducible apply Keeps.fieldOff) | (with_reducible apply Keeps.ofIte) | (with_reducible apply Keeps.fold) | (with_reducible rfl) | (dsimp only) | intro _ | split | (with_reducible apply Keeps.upd) | rfl

theorem ResKeeps.execNfcRelease {s : State} (c : Cmd) (ant : Nat) : ResKeeps s (execNfcRelease c ant s) := by
  have h := Keeps.refl s
  unfold Sys2Proof.Machine.execNfcRelease
  repeat' first | (with_reducible assumption) | (with_reducible apply AnsKeeps.ofIte) | (with_reducible apply ResKeeps.ofIte) | (with_reducible apply ResKeeps.next) | (with_reducible apply AnsKeeps.done) | (with_reducible apply AnsKeeps.wait) | (with_reducible apply Keeps.runSettle) | (with_reducible apply AnsKeeps.fail) | (with_reducible apply AnsKeeps.okay) | (with_reducible apply Keeps.fieldOff) | (with_reducible apply Keeps.ofIte) | (with_reducible apply Keeps.fold) | (with_reducible rfl) | (dsimp only) | intro _ | split | (with_reducible apply Keeps.upd) | rfl

theorem ResKeeps.execNfcTagWrite {s : State} (c : Cmd) (page : Nat) (data : List Byte) (heldMs : Nat) : ResKeeps s (execNfcTagWrite c page data heldMs s) := by
  have h := Keeps.refl s
  unfold Sys2Proof.Machine.execNfcTagWrite
  repeat' first | (with_reducible assumption) | (with_reducible apply AnsKeeps.ofIte) | (with_reducible apply ResKeeps.ofIte) | (with_reducible apply ResKeeps.next) | (with_reducible apply AnsKeeps.done) | (with_reducible apply AnsKeeps.wait) | (with_reducible apply Keeps.runCmd) | (with_reducible apply AnsKeeps.fail) | (with_reducible apply AnsKeeps.okay) | (with_reducible apply Keeps.writeTag) | (with_reducible apply Keeps.ofIte) | (with_reducible apply Keeps.fold) | (with_reducible rfl) | (dsimp only) | intro _ | split | (with_reducible apply Keeps.upd) | rfl

theorem ResKeeps.execNfcTagRead {s : State} (c : Cmd) (page : Nat) (count : Nat) (dst : Nat) : ResKeeps s (execNfcTagRead c page count dst s) := by
  have h := Keeps.refl s
  unfold Sys2Proof.Machine.execNfcTagRead
  repeat' first | (with_reducible assumption) | (with_reducible apply AnsKeeps.ofIte) | (with_reducible apply ResKeeps.ofIte) | (with_reducible apply ResKeeps.next) | (with_reducible apply AnsKeeps.done) | (with_reducible apply AnsKeeps.wait) | (with_reducible apply Keeps.runCmd) | (with_reducible apply AnsKeeps.fail) | (with_reducible apply AnsKeeps.okay) | (with_reducible apply Keeps.writeGen) | (with_reducible apply Keeps.ofIte) | (with_reducible apply Keeps.fold) | (with_reducible rfl) | (dsimp only) | intro _ | split | (with_reducible apply Keeps.upd) | rfl

/-! ### RegCmd -/

theorem Keeps.evtClear {s0 s : State} (h : Keeps s0 s) (blk : Nat) (v : Word) : Keeps s0 (s.evtClear blk v) := by
  unfold Sys2Proof.Machine.State.evtClear
  repeat' first | (with_reducible assumption) | (with_reducible apply Keeps.ofIte) | (with_reducible apply Keeps.fold) | (with_reducible rfl) | (dsimp only) | intro _ | split | (with_reducible apply Keeps.upd) | rfl

theorem Keeps.writeSys {s0 s : State} (h : Keeps s0 s) (off : Nat) (v : Word) : Keeps s0 (s.writeSys off v) := by
  unfold Sys2Proof.Machine.State.writeSys
  repeat' first | (with_reducible assumption) | (with_reducible apply Keeps.ringBell) | (with_reducible apply Keeps.ofIte) | (with_reducible apply Keeps.fold) | (with_reducible rfl) | (dsimp only) | intro _ | split | (with_reducible apply Keeps.upd) | rfl

theorem Keeps.windowConsumed {s0 s : State} (h : Keeps s0 s) : Keeps s0 (s.windowConsumed) := by
  unfold Sys2Proof.Machine.State.windowConsumed
  repeat' first | (with_reducible assumption) | (with_reducible apply Keeps.pcieBlock) | (with_reducible apply Keeps.pcieDone) | (with_reducible apply Keeps.ofIte) | (with_reducible apply Keeps.fold) | (with_reducible rfl) | (dsimp only) | intro _ | split | (with_reducible apply Keeps.upd) | rfl

theorem Keeps.writeCfg {s0 s : State} (h : Keeps s0 s) (off : Nat) (v : Word) : Keeps s0 (s.writeCfg off v) := by
  unfold Sys2Proof.Machine.State.writeCfg
  repeat' first | (with_reducible assumption) | (with_reducible apply Keeps.windowConsumed) | (with_reducible apply Keeps.ofIte) | (with_reducible apply Keeps.fold) | (with_reducible rfl) | (dsimp only) | intro _ | split | (with_reducible apply Keeps.upd) | rfl

theorem Keeps.writeHst {s0 s : State} (h : Keeps s0 s) (off : Nat) (v : Word) : Keeps s0 (s.writeHst off v) := by
  unfold Sys2Proof.Machine.State.writeHst
  repeat' first | (with_reducible assumption) | (with_reducible apply Keeps.areaWrite) | (with_reducible apply Keeps.ctrlWrite) | (with_reducible apply Keeps.piWrite) | (with_reducible apply Keeps.ofIte) | (with_reducible apply Keeps.fold) | (with_reducible rfl) | (dsimp only) | intro _ | split | (with_reducible apply Keeps.upd) | rfl

theorem Keeps.writeVlk {s0 s : State} (h : Keeps s0 s) (off : Nat) (v : Word) : Keeps s0 (s.writeVlk off v) := by
  unfold Sys2Proof.Machine.State.writeVlk
  repeat' first | (with_reducible assumption) | (with_reducible apply Keeps.evqArea) | (with_reducible apply Keeps.evqCtrl) | (with_reducible apply Keeps.evqConsume) | (with_reducible apply Keeps.ofIte) | (with_reducible apply Keeps.fold) | (with_reducible rfl) | (dsimp only) | intro _ | split | (with_reducible apply Keeps.upd) | rfl

theorem Keeps.writeNfc {s0 s : State} (h : Keeps s0 s) (off : Nat) (v : Word) : Keeps s0 (s.writeNfc off v) := by
  unfold Sys2Proof.Machine.State.writeNfc
  repeat' first | (with_reducible assumption) | (with_reducible apply Keeps.modAnt) | (with_reducible apply Keeps.ofIte) | (with_reducible apply Keeps.fold) | (with_reducible rfl) | (dsimp only) | intro _ | split | (with_reducible apply Keeps.upd) | rfl

theorem Keeps.regWrite {s0 s : State} (h : Keeps s0 s) (blk : Nat) (off : Nat) (v : Word) : Keeps s0 (s.regWrite blk off v) := by
  unfold Sys2Proof.Machine.State.regWrite
  repeat' first | (with_reducible assumption) | (with_reducible apply Keeps.evtClear) | (with_reducible apply Keeps.writeSys) | (with_reducible apply Keeps.writeCfg) | (with_reducible apply Keeps.writeHst) | (with_reducible apply Keeps.manualWrite) | (with_reducible apply Keeps.writeVlk) | (with_reducible apply Keeps.pulseCfgWrite) | (with_reducible apply Keeps.laneWrite) | (with_reducible apply Keeps.writeNfc) | (with_reducible apply Keeps.portMode) | (with_reducible apply Keeps.ofIte) | (with_reducible apply Keeps.fold) | (with_reducible rfl) | (dsimp only) | intro _ | split | (with_reducible apply Keeps.upd) | rfl

theorem Keeps.memWrite {s0 s : State} (h : Keeps s0 s) (a : Access) : Keeps s0 (s.memWrite a) := by
  unfold Sys2Proof.Machine.State.memWrite
  repeat' first | (with_reducible assumption) | (with_reducible apply Keeps.send) | (with_reducible apply Keeps.writeGen) | (with_reducible apply Keeps.landUncorr) | (with_reducible apply Keeps.writeMem) | (with_reducible apply Keeps.lineWritten) | (with_reducible apply Keeps.ofIte) | (with_reducible apply Keeps.fold) | (with_reducible rfl) | (dsimp only) | intro _ | split | (with_reducible apply Keeps.upd) | rfl

theorem ResKeeps.execRegisterWrite {s : State} (a : Access) : ResKeeps s (execRegisterWrite a s) := by
  have h := Keeps.refl s
  unfold Sys2Proof.Machine.execRegisterWrite
  repeat' first | (with_reducible assumption) | (with_reducible apply ResKeeps.ofIte) | (with_reducible apply ResKeeps.next) | (with_reducible apply AnsKeeps.done) | (with_reducible apply AnsKeeps.wait) | (with_reducible apply Keeps.send) | (with_reducible apply Keeps.regWrite) | (with_reducible apply Keeps.memWrite) | (with_reducible apply Keeps.ofIte) | (with_reducible apply Keeps.fold) | (with_reducible rfl) | (dsimp only) | intro _ | split | (with_reducible apply Keeps.upd) | rfl

end Sys2Proof.Machine
end

