-- ==== Sys2Proof/Laws/Memory.lean ====
section
/-! SUPPORT. Memory laws: a read after a write gives what was written, and a write leaves every other octet alone. -/
namespace Sys2Proof.Machine

/-- What a table of octets reads after a run of octets was written. -/
theorem tget_writeTab (m : Tab Byte) (a : Nat) (l : List Byte) (x : Nat) :
    tget memDefault (writeTab m a l) x = if a ≤ x ∧ x < a + l.length then l.getD (x - a) 0 else tget memDefault m x := by
  induction l generalizing m a with
  | nil => simp only [writeTab, List.length_nil]; rw [if_neg (by omega)]
  | cons b r ih =>
    rw [writeTab, ih, List.length_cons]
    by_cases h : x = a
    · subst h; rw [if_neg (by omega), if_pos (by omega)]; simp [tget_tset_self]
    · rw [tget_tset_ne memDefault m b h]
      by_cases h2 : a + 1 ≤ x ∧ x < a + 1 + r.length
      · have : x - a = (x - (a + 1)) + 1 := by omega
        rw [if_pos h2, if_pos (by omega), this]; simp
      · rw [if_neg h2, if_neg (by omega)]

/-- A byte after a write to memory. -/
theorem State.byteAt_writeMem (s : State) (a : Nat) (l : List Byte) (x : Nat) :
    (s.writeMem a l).byteAt x = if a ≤ x ∧ x < a + l.length then l.getD (x - a) 0 else s.byteAt x := tget_writeTab _ _ _ _

/-- A byte after a write to the General region. -/
theorem State.byteAt_writeGen (s : State) (off : Nat) (l : List Byte) (x : Nat) :
    (s.writeGen off l).byteAt x = if landing off ≤ x ∧ x < landing off + l.length then l.getD (x - landing off) 0 else s.byteAt x :=
  tget_writeTab _ _ _ _

/-- Reading back what was written. -/
theorem State.readMem_of_byteAt {t : State} {a : Nat} {l : List Byte}
    (h : ∀ x, a ≤ x → x < a + l.length → t.byteAt x = l.getD (x - a) 0) : t.readMem a l.length = l := by
  apply List.ext_getElem
  · simp [State.readMem]
  · intro i h1 h2
    simp only [State.readMem, List.getElem_map, List.getElem_range]
    rw [h (a + i) (by omega) (by omega)]
    simp [h2]

/-- A read after a write to the General region. -/
theorem State.readMem_writeGen (s : State) (off : Nat) (l : List Byte) : (s.writeGen off l).readMem (landing off) l.length = l :=
  State.readMem_of_byteAt (fun x h1 h2 => by rw [State.byteAt_writeGen, if_pos ⟨h1, h2⟩])

/-- `le` gives as many octets as asked for. -/
@[simp] theorem le_length (n v : Nat) : (le n v).length = n := by
  induction n generalizing v with
  | zero => rfl
  | succ n ih => simp [le, ih]

/-- `padTo` gives as many octets as asked for. -/
@[simp] theorem padTo_length (n : Nat) (l : List Byte) : (padTo n l).length = n := by
  simp [padTo]

/-- A result block has 64 octets. -/
@[simp] theorem resultBlock_length (seq : Nat) (st : Status) (tag : BitVec 16) (opcode detail : Nat) (t : Stamp) (data : List Byte) :
    (resultBlock seq st tag opcode detail t data).length = 64 := by
  simp [resultBlock]

end Sys2Proof.Machine
end

