-- ==== Sys2Proof/Laws/PerInstr.lean ====
section
/-! SUPPORT. One lemma per command of the table: the opcode it is posted under is one that its block defines (R515). -/
namespace Sys2Proof.Laws.Opcode

/-- A posted command's opcode names a command of a block of the part. -/
def Statement (i : Instr) : Prop :=
  ∀ c o, i.posted = some (c, o) → 1 ≤ o % 256 ∧ o % 256 ≤ Machine.cmdCount (o / 256)

theorem of_none {i : Instr} (h : i.posted = none) : Statement i := fun c o e => by rw [h] at e; cases e

theorem of_some {i : Instr} {c : Cmd} {o : Nat} (h : i.posted = some (c, o))
    (ho : 1 ≤ o % 256 ∧ o % 256 ≤ Machine.cmdCount (o / 256)) : Statement i := fun c' o' e => by
  rw [h] at e
  cases e
  exact ho

theorem registerWrite (x0 : Access) : Statement (.registerWrite x0) := of_none rfl
theorem porstNPulse (x0 : Nat) (x1 : Straps) (x2 : Bool) : Statement (.porstNPulse x0 x1 x2) := of_none rfl
theorem railFault (x0 : Nat) (x1 : Bool) (x2 : Bool) : Statement (.railFault x0 x1 x2) := of_none rfl
theorem clkFault (x0 : Nat) (x1 : Nat) (x2 : Bool) : Statement (.clkFault x0 x1 x2) := of_none rfl
theorem nfcLoss : Statement (.nfcLoss) := of_none rfl
theorem x32Loss (x0 : Bool) : Statement (.x32Loss x0) := of_none rfl
theorem safeClockLoss : Statement (.safeClockLoss) := of_none rfl
theorem secWdt (x0 : Bool) : Statement (.secWdt x0) := of_none rfl
theorem swReset (x0 : Bool) : Statement (.swReset x0) := of_none rfl
theorem boot (x0 : Bool) (x1 : BootEnv) : Statement (.boot x0 x1) := of_none rfl
theorem migrationBackground (x0 : Nat) : Statement (.migrationBackground x0) := of_none rfl
theorem pcieImageBlock (x0 : Nat) (x1 : Image) : Statement (.pcieImageBlock x0 x1) := of_none rfl
theorem sysPermitReq (x0 : Cmd) (x1 : Nat) (x2 : Nat) (x3 : Nat) (x4 : Nat) : Statement (.sysPermitReq x0 x1 x2 x3 x4) := of_some rfl (by decide)
theorem sysPermitRelease (x0 : Cmd) (x1 : Nat) : Statement (.sysPermitRelease x0 x1) := of_some rfl (by decide)
theorem sysSleep (x0 : Cmd) (x1 : Nat) : Statement (.sysSleep x0 x1) := of_some rfl (by decide)
theorem sysPowerMode (x0 : Cmd) (x1 : Nat) : Statement (.sysPowerMode x0 x1) := of_some rfl (by decide)
theorem sysReset (x0 : Cmd) : Statement (.sysReset x0) := of_some rfl (by decide)
theorem wake (x0 : Nat) (x1 : Nat) : Statement (.wake x0 x1) := of_none rfl
theorem doorbell (x0 : Word) : Statement (.doorbell x0) := of_none rfl
theorem powerFailWarning (x0 : Bool) (x1 : Nat) (x2 : Nat) (x3 : List (List BayCodes)) (x4 : Bool) : Statement (.powerFailWarning x0 x1 x2 x3 x4) := of_none rfl
theorem permitWaitExpiry (x0 : Nat) : Statement (.permitWaitExpiry x0) := of_none rfl
theorem permitExpiry (x0 : Nat) : Statement (.permitExpiry x0) := of_none rfl
theorem cfgBankErase (x0 : Cmd) (x1 : Nat) : Statement (.cfgBankErase x0 x1) := of_some rfl (by decide)
theorem cfgBankWrite (x0 : Cmd) (x1 : Nat) (x2 : Nat) (x3 : Nat) (x4 : Image) : Statement (.cfgBankWrite x0 x1 x2 x3 x4) := of_some rfl (by decide)
theorem cfgBankVerify (x0 : Cmd) (x1 : Nat) : Statement (.cfgBankVerify x0 x1) := of_some rfl (by decide)
theorem cfgActivate (x0 : Cmd) (x1 : Nat) : Statement (.cfgActivate x0 x1) := of_some rfl (by decide)
theorem cfgConfirm (x0 : Cmd) : Statement (.cfgConfirm x0) := of_some rfl (by decide)
theorem cfgRevert (x0 : Cmd) : Statement (.cfgRevert x0) := of_some rfl (by decide)
theorem cfgReverifyClear (x0 : Cmd) (x1 : KeyMsg) : Statement (.cfgReverifyClear x0 x1) := of_some rfl (by decide)
theorem pointUpdate (x0 : Nat) (x1 : DWord) (x2 : Option Stamp) (x3 : Bool) : Statement (.pointUpdate x0 x1 x2 x3) := of_none rfl
theorem timeoutSweep : Statement (.timeoutSweep) := of_none rfl
theorem cacheWriteback (x0 : Nat) : Statement (.cacheWriteback x0) := of_none rfl
theorem periodicPublication (x0 : Nat) : Statement (.periodicPublication x0) := of_none rfl
theorem publicationRx (x0 : Publication) : Statement (.publicationRx x0) := of_none rfl
theorem scrubLine (x0 : Medium) (x1 : Nat) (x2 : Nat) (x3 : Bool) : Statement (.scrubLine x0 x1 x2 x3) := of_none rfl
theorem hstQPiWrite (x0 : Nat) (x1 : Word) : Statement (.hstQPiWrite x0 x1) := of_none rfl
theorem ringEnable (x0 : Nat) (x1 : Word) : Statement (.ringEnable x0 x1) := of_none rfl
theorem ringDisable (x0 : Nat) (x1 : Word) : Statement (.ringDisable x0 x1) := of_none rfl
theorem ringDisableDone (x0 : Nat) : Statement (.ringDisableDone x0) := of_none rfl
theorem hstQBaseWrite (x0 : Nat) (x1 : Bool) (x2 : Word) : Statement (.hstQBaseWrite x0 x1 x2) := of_none rfl
theorem hstQLog2sizeWrite (x0 : Nat) (x1 : Word) : Statement (.hstQLog2sizeWrite x0 x1) := of_none rfl
theorem undefinedOpcode (x0 : Cmd) (x1 : Nat) (x2 : BitVec 16) : Statement (.undefinedOpcode x0 x1 x2) := of_none rfl
theorem lndPtRead (x0 : Cmd) (x1 : Nat) (x2 : List Nat) (x3 : Nat) (x4 : Tab RemotePt) : Statement (.lndPtRead x0 x1 x2 x3 x4) := of_some rfl (by decide)
theorem lndPtWrite (x0 : Cmd) (x1 : List (Nat × DWord)) (x2 : Tab RemotePt) : Statement (.lndPtWrite x0 x1 x2) := of_some rfl (by decide)
theorem lndPtCfg (x0 : Cmd) (x1 : PtCfgOp) (x2 : Tab RemotePt) : Statement (.lndPtCfg x0 x1 x2) := of_some rfl (by decide)
theorem lndSubOpen (x0 : Cmd) (x1 : Nat) (x2 : Nat) (x3 : Nat) (x4 : Nat) : Statement (.lndSubOpen x0 x1 x2 x3 x4) := of_some rfl (by decide)
theorem lndSubClose (x0 : Cmd) (x1 : Nat) : Statement (.lndSubClose x0 x1) := of_some rfl (by decide)
theorem hstApiOpen (x0 : Cmd) (x1 : Nat) (x2 : Nat) (x3 : Nat) (x4 : Nat) : Statement (.hstApiOpen x0 x1 x2 x3 x4) := of_some rfl (by decide)
theorem pilotStateChange (x0 : Nat) (x1 : Int) (x2 : Int) (x3 : Nat) : Statement (.pilotStateChange x0 x1 x2 x3) := of_none rfl
theorem pilotManualWrite (x0 : Nat) (x1 : Word) : Statement (.pilotManualWrite x0 x1) := of_none rfl
theorem proximityChange (x0 : Nat) (x1 : Nat) : Statement (.proximityChange x0 x1) := of_none rfl
theorem linkUp (x0 : Nat) (x1 : Nat) : Statement (.linkUp x0 x1) := of_none rfl
theorem linkLoss (x0 : Nat) : Statement (.linkLoss x0) := of_none rfl
theorem tLinkExpiry (x0 : Nat) : Statement (.tLinkExpiry x0) := of_none rfl
theorem tNegExpiry (x0 : Nat) : Statement (.tNegExpiry x0) := of_none rfl
theorem tAuthExpiry (x0 : Nat) : Statement (.tAuthExpiry x0) := of_none rfl
theorem tLockExpiry (x0 : Nat) : Statement (.tLockExpiry x0) := of_none rfl
theorem tCableExpiry (x0 : Nat) : Statement (.tCableExpiry x0) := of_none rfl
theorem tPreExpiry (x0 : Nat) : Statement (.tPreExpiry x0) := of_none rfl
theorem tPdwaitExpiry (x0 : Nat) : Statement (.tPdwaitExpiry x0) := of_none rfl
theorem tRenegExpiry (x0 : Nat) : Statement (.tRenegExpiry x0) := of_none rfl
theorem tStopExpiry (x0 : Nat) : Statement (.tStopExpiry x0) := of_none rfl
theorem sdpRequest (x0 : Nat) (x1 : Bool) : Statement (.sdpRequest x0 x1) := of_none rfl
theorem tcpConnect (x0 : Nat) : Statement (.tcpConnect x0) := of_none rfl
theorem tlsHandshake (x0 : Nat) (x1 : TlsOffer) : Statement (.tlsHandshake x0 x1) := of_none rfl
theorem supportedAppProtocolReq (x0 : Nat) (x1 : Nat) (x2 : List SapEntry) : Statement (.supportedAppProtocolReq x0 x1 x2) := of_none rfl
theorem v2gMessageRx (x0 : Nat) (x1 : Nat) (x2 : V2g) : Statement (.v2gMessageRx x0 x1 x2) := of_none rfl
theorem v2gMessageTimeout (x0 : Nat) : Statement (.v2gMessageTimeout x0) := of_none rfl
theorem contractCertVerify (x0 : Nat) (x1 : ContractOp) : Statement (.contractCertVerify x0 x1) := of_none rfl
theorem vlkAuthDecide (x0 : Cmd) (x1 : Nat) (x2 : Nat) (x3 : Nat) (x4 : Nat) (x5 : Nat) : Statement (.vlkAuthDecide x0 x1 x2 x3 x4 x5) := of_some rfl (by decide)
theorem vlkPreauth (x0 : Cmd) (x1 : Nat) (x2 : Nat) (x3 : List Byte) (x4 : Nat) (x5 : Nat) : Statement (.vlkPreauth x0 x1 x2 x3 x4 x5) := of_some rfl (by decide)
theorem preauthExpiry (x0 : Bool) (x1 : Nat) : Statement (.preauthExpiry x0 x1) := of_none rfl
theorem lockFeedback (x0 : Nat) (x1 : Bool) : Statement (.lockFeedback x0 x1) := of_none rfl
theorem prechargeComplete (x0 : Nat) : Statement (.prechargeComplete x0) := of_none rfl
theorem contactorFeedback (x0 : Nat) (x1 : Kon) (x2 : Bool) : Statement (.contactorFeedback x0 x1 x2) := of_none rfl
theorem k1FeedbackTimeout (x0 : Nat) : Statement (.k1FeedbackTimeout x0) := of_none rfl
theorem durationLimitExpiry (x0 : Nat) : Statement (.durationLimitExpiry x0) := of_none rfl
theorem weldCheckDone (x0 : Nat) (x1 : Bool) : Statement (.weldCheckDone x0 x1) := of_none rfl
theorem unplugWaitExpiry (x0 : Nat) : Statement (.unplugWaitExpiry x0) := of_none rfl
theorem evqCiWrite (x0 : Word) : Statement (.evqCiWrite x0) := of_none rfl
theorem evqEnable (x0 : Word) : Statement (.evqEnable x0) := of_none rfl
theorem evqBaseWrite (x0 : Word) : Statement (.evqBaseWrite x0) := of_none rfl
theorem ctxReq (x0 : TunFrame) : Statement (.ctxReq x0) := of_none rfl
theorem tunnelData (x0 : TunFrame) (x1 : Nat) : Statement (.tunnelData x0 x1) := of_none rfl
theorem tunnelLinkUp (x0 : TunFrame) : Statement (.tunnelLinkUp x0) := of_none rfl
theorem tunnelLinkDown (x0 : TunFrame) : Statement (.tunnelLinkDown x0) := of_none rfl
theorem vlkBaySet (x0 : Cmd) (x1 : Nat) (x2 : Nat) : Statement (.vlkBaySet x0 x1 x2) := of_some rfl (by decide)
theorem vlkSessStop (x0 : Cmd) (x1 : Nat) (x2 : Nat) : Statement (.vlkSessStop x0 x1 x2) := of_some rfl (by decide)
theorem vlkSessLimit (x0 : Cmd) (x1 : Nat) (x2 : Nat) : Statement (.vlkSessLimit x0 x1 x2) := of_some rfl (by decide)
theorem vlkSessInfo (x0 : Cmd) (x1 : Nat) : Statement (.vlkSessInfo x0 x1) := of_some rfl (by decide)
theorem vlkWeldClear (x0 : Cmd) (x1 : Nat) (x2 : Nat) : Statement (.vlkWeldClear x0 x1 x2) := of_some rfl (by decide)
theorem greenphyPermitRetry (x0 : Nat) : Statement (.greenphyPermitRetry x0) := of_none rfl
theorem cmSlacParmReq (x0 : Nat) (x1 : Nat) (x2 : Nat) : Statement (.cmSlacParmReq x0 x1 x2) := of_none rfl
theorem cmMnbcSoundInd (x0 : Nat) (x1 : Nat) (x2 : Nat) (x3 : List Nat) : Statement (.cmMnbcSoundInd x0 x1 x2 x3) := of_none rfl
theorem ttEvseMatchMnbcExpiry (x0 : Nat) : Statement (.ttEvseMatchMnbcExpiry x0) := of_none rfl
theorem cmAttenCharRsp (x0 : Nat) (x1 : Nat) : Statement (.cmAttenCharRsp x0 x1) := of_none rfl
theorem cmValidateReq (x0 : Nat) (x1 : Nat) : Statement (.cmValidateReq x0 x1) := of_none rfl
theorem cmSlacMatchReq (x0 : Nat) (x1 : Nat) : Statement (.cmSlacMatchReq x0 x1) := of_none rfl
theorem vlkLinkInfo (x0 : Cmd) (x1 : Nat) : Statement (.vlkLinkInfo x0 x1) := of_some rfl (by decide)
theorem vlkCertRead (x0 : Cmd) (x1 : Nat) (x2 : Nat) (x3 : Nat) : Statement (.vlkCertRead x0 x1 x2 x3) := of_some rfl (by decide)
theorem vlkRootInstall (x0 : Cmd) (x1 : Nat) (x2 : Nat) (x3 : Bool) (x4 : List Byte) : Statement (.vlkRootInstall x0 x1 x2 x3 x4) := of_some rfl (by decide)
theorem vlkRootRemove (x0 : Cmd) (x1 : Nat) : Statement (.vlkRootRemove x0 x1) := of_some rfl (by decide)
theorem yarderCycle (x0 : Tab Nat) (x1 : Nat) : Statement (.yarderCycle x0 x1) := of_none rfl
theorem matrixSwitchDone (x0 : Nat) : Statement (.matrixSwitchDone x0) := of_none rfl
theorem moduleReleaseTimeout (x0 : Nat) : Statement (.moduleReleaseTimeout x0) := of_none rfl
theorem moduleExcessRelease (x0 : Nat) : Statement (.moduleExcessRelease x0) := of_none rfl
theorem requestPeriodic : Statement (.requestPeriodic) := of_none rfl
theorem clientHoldExpiry : Statement (.clientHoldExpiry) := of_none rfl
theorem clientLossHoldExpiry (x0 : Nat) : Statement (.clientLossHoldExpiry x0) := of_none rfl
theorem yrdNodeRead (x0 : Cmd) (x1 : Nat) : Statement (.yrdNodeRead x0 x1) := of_some rfl (by decide)
theorem yrdLimitSet (x0 : Cmd) (x1 : Nat) (x2 : Word) : Statement (.yrdLimitSet x0 x1 x2) := of_some rfl (by decide)
theorem yrdClassSet (x0 : Cmd) (x1 : Nat) (x2 : Nat) (x3 : Nat) : Statement (.yrdClassSet x0 x1 x2 x3) := of_some rfl (by decide)
theorem yrdStorageSet (x0 : Cmd) (x1 : Nat) (x2 : Nat) (x3 : Nat) (x4 : Int) : Statement (.yrdStorageSet x0 x1 x2 x3 x4) := of_some rfl (by decide)
theorem yrdExportSet (x0 : Cmd) (x1 : Nat) (x2 : Nat) : Statement (.yrdExportSet x0 x1 x2) := of_some rfl (by decide)
theorem yrdModuleService (x0 : Cmd) (x1 : Nat) (x2 : Nat) : Statement (.yrdModuleService x0 x1 x2) := of_some rfl (by decide)
theorem yrdSnapshot (x0 : Cmd) (x1 : Nat) : Statement (.yrdSnapshot x0 x1) := of_some rfl (by decide)
theorem scalerSample (x0 : List BayCodes) : Statement (.scalerSample x0) := of_none rfl
theorem rangeToLow (x0 : Nat) : Statement (.rangeToLow x0) := of_none rfl
theorem channelLost (x0 : Nat) (x1 : MChan) : Statement (.channelLost x0 x1) := of_none rfl
theorem channelRestored (x0 : Nat) (x1 : MChan) : Statement (.channelRestored x0 x1) := of_none rfl
theorem xchkWindow (x0 : Nat) : Statement (.xchkWindow x0) := of_none rfl
theorem dspDeadline : Statement (.dspDeadline) := of_none rfl
theorem tickCommit : Statement (.tickCommit) := of_none rfl
theorem pulseTestWrite (x0 : Nat) (x1 : Word) : Statement (.pulseTestWrite x0 x1) := of_none rfl
theorem sclCalRead (x0 : Cmd) (x1 : Nat) : Statement (.sclCalRead x0 x1) := of_some rfl (by decide)
theorem sclCalWrite (x0 : Cmd) (x1 : Nat) (x2 : KeyMsg) (x3 : CalVals) : Statement (.sclCalWrite x0 x1 x2 x3) := of_some rfl (by decide)
theorem sclFaultClear (x0 : Cmd) (x1 : Nat) (x2 : Nat) : Statement (.sclFaultClear x0 x1 x2) := of_some rfl (by decide)
theorem sclCapture (x0 : Cmd) (x1 : Nat) (x2 : Nat) (x3 : List BayCodes) : Statement (.sclCapture x0 x1 x2 x3) := of_some rfl (by decide)
theorem leaseExpiry : Statement (.leaseExpiry) := of_none rfl
theorem startModeTimeout : Statement (.startModeTimeout) := of_none rfl
theorem tlyMsg (x0 : Cmd) (x1 : TlyMsgOp) : Statement (.tlyMsg x0 x1) := of_some rfl (by decide)
theorem tlyRecRead (x0 : Cmd) (x1 : Nat) (x2 : Nat) : Statement (.tlyRecRead x0 x1 x2) := of_some rfl (by decide)
theorem tlyRecAck (x0 : Cmd) (x1 : Nat) (x2 : Nat) : Statement (.tlyRecAck x0 x1 x2) := of_some rfl (by decide)
theorem tlyRegSnapshot (x0 : Cmd) (x1 : Nat) : Statement (.tlyRegSnapshot x0 x1) := of_some rfl (by decide)
theorem tlyReadSigned (x0 : Cmd) (x1 : Nat) (x2 : Nat) : Statement (.tlyReadSigned x0 x1 x2) := of_some rfl (by decide)
theorem tlyProfileRead (x0 : Cmd) (x1 : Nat) (x2 : Nat) (x3 : Nat) (x4 : Nat) : Statement (.tlyProfileRead x0 x1 x2 x3 x4) := of_some rfl (by decide)
theorem tlySrRead (x0 : Cmd) (x1 : Nat) (x2 : Nat) (x3 : Nat) : Statement (.tlySrRead x0 x1 x2 x3) := of_some rfl (by decide)
theorem tlyCeilSet (x0 : Cmd) (x1 : Word) : Statement (.tlyCeilSet x0 x1) := of_some rfl (by decide)
theorem tlyMdRead (x0 : Cmd) : Statement (.tlyMdRead x0) := of_some rfl (by decide)
theorem tamperEvent (x0 : Nat) (x1 : Bool) (x2 : Bool) (x3 : Bool) : Statement (.tamperEvent x0 x1 x2 x3) := of_none rfl
theorem tamperTransfer (x0 : List Nat) : Statement (.tamperTransfer x0) := of_none rfl
theorem vbatLow (x0 : Bool) : Statement (.vbatLow x0) := of_none rfl
theorem blzLogRead (x0 : Cmd) (x1 : Nat) (x2 : Nat) (x3 : Nat) : Statement (.blzLogRead x0 x1 x2 x3) := of_some rfl (by decide)
theorem blzTamperRead (x0 : Cmd) (x1 : Nat) : Statement (.blzTamperRead x0 x1) := of_some rfl (by decide)
theorem blzTamperClear (x0 : Cmd) (x1 : BitVec 4) : Statement (.blzTamperClear x0 x1) := of_some rfl (by decide)
theorem blzLogRelease (x0 : Cmd) (x1 : KeyMsg) : Statement (.blzLogRelease x0 x1) := of_some rfl (by decide)
theorem imdHalfPeriod (x0 : Nat) (x1 : Int) (x2 : Nat) (x3 : Nat) (x4 : Bool) : Statement (.imdHalfPeriod x0 x1 x2 x3 x4) := of_none rfl
theorem imdDriverStuck (x0 : Nat) : Statement (.imdDriverStuck x0) := of_none rfl
theorem earthCurrentTrip (x0 : Nat) : Statement (.earthCurrentTrip x0) := of_none rfl
theorem efWarning (x0 : Nat) : Statement (.efWarning x0) := of_none rfl
theorem alarmLineTimeout (x0 : Nat) : Statement (.alarmLineTimeout x0) := of_none rfl
theorem imdSelftest (x0 : Cmd) (x1 : Nat) (x2 : Nat) (x3 : Nat) : Statement (.imdSelftest x0 x1 x2 x3) := of_some rfl (by decide)
theorem imdTripTest (x0 : Cmd) (x1 : Nat) (x2 : Nat) : Statement (.imdTripTest x0 x1 x2) := of_some rfl (by decide)
theorem safetyInputDemand (x0 : Nat) (x1 : Bool) : Statement (.safetyInputDemand x0 x1) := of_none rfl
theorem testPulse (x0 : Nat) (x1 : Bool) (x2 : Bool) (x3 : BitVec 16) (x4 : BitVec 16) : Statement (.testPulse x0 x1 x2 x3 x4) := of_none rfl
theorem discrepancyTimeout (x0 : Nat) : Statement (.discrepancyTimeout x0) := of_none rfl
theorem tripAutoClear (x0 : Nat) : Statement (.tripAutoClear x0) := of_none rfl
theorem resetButtonRelease (x0 : Nat) (x1 : Nat) (x2 : Tab Nat) : Statement (.resetButtonRelease x0 x1 x2) := of_none rfl
theorem soDarkPulse (x0 : Nat) (x1 : Bool) : Statement (.soDarkPulse x0 x1) := of_none rfl
theorem sparDiagnostic (x0 : Nat) (x1 : Nat) (x2 : Bool) : Statement (.sparDiagnostic x0 x1 x2) := of_none rfl
theorem gateTest (x0 : Nat) (x1 : Bool) : Statement (.gateTest x0 x1) := of_none rfl
theorem gateTestOverdue (x0 : Nat) : Statement (.gateTestOverdue x0) := of_none rfl
theorem heartbeatLineTimeout : Statement (.heartbeatLineTimeout) := of_none rfl
theorem hingeDataRx (x0 : HFrame) : Statement (.hingeDataRx x0) := of_none rfl
theorem hingeConnectRx (x0 : HFrame) : Statement (.hingeConnectRx x0) := of_none rfl
theorem hingeConnectAckRx (x0 : HFrame) : Statement (.hingeConnectAckRx x0) := of_none rfl
theorem hingeTimeout (x0 : Nat) : Statement (.hingeTimeout x0) := of_none rfl
theorem hingeSend (x0 : Nat) (x1 : List HPay) : Statement (.hingeSend x0 x1) := of_none rfl
theorem hingeConnectSend (x0 : Nat) : Statement (.hingeConnectSend x0) := of_none rfl
theorem pwdSessionTimeout : Statement (.pwdSessionTimeout) := of_none rfl
theorem lockoutExpiry : Statement (.lockoutExpiry) := of_none rfl
theorem safPwdOpen (x0 : Cmd) (x1 : List Byte) : Statement (.safPwdOpen x0 x1) := of_some rfl (by decide)
theorem safPwdClose (x0 : Cmd) : Statement (.safPwdClose x0) := of_some rfl (by decide)
theorem safParamRead (x0 : Cmd) (x1 : Nat) (x2 : Nat) (x3 : Nat) : Statement (.safParamRead x0 x1 x2 x3) := of_some rfl (by decide)
theorem safParamSet (x0 : Cmd) (x1 : List (Nat × DWord)) : Statement (.safParamSet x0 x1) := of_some rfl (by decide)
theorem safParamCommit (x0 : Cmd) : Statement (.safParamCommit x0) := of_some rfl (by decide)
theorem safParamConfirm (x0 : Cmd) (x1 : Word) : Statement (.safParamConfirm x0 x1) := of_some rfl (by decide)
theorem safPwdChange (x0 : Cmd) (x1 : List Byte) : Statement (.safPwdChange x0 x1) := of_some rfl (by decide)
theorem safPwdReset (x0 : Cmd) (x1 : KeyMsg) (x2 : List Byte) : Statement (.safPwdReset x0 x1 x2) := of_some rfl (by decide)
theorem safLogRead (x0 : Cmd) (x1 : Nat) (x2 : Nat) (x3 : Nat) : Statement (.safLogRead x0 x1 x2 x3) := of_some rfl (by decide)
theorem safLogArchive (x0 : Cmd) (x1 : KeyMsg) : Statement (.safLogArchive x0 x1) := of_some rfl (by decide)
theorem safTripReset (x0 : Cmd) (x1 : BitVec 16) (x2 : BitVec 4) (x3 : Tab Nat) : Statement (.safTripReset x0 x1 x2 x3) := of_some rfl (by decide)
theorem safHingeInfo (x0 : Cmd) (x1 : Nat) : Statement (.safHingeInfo x0 x1) := of_some rfl (by decide)
theorem laneSample (x0 : Nat) (x1 : Nat) : Statement (.laneSample x0 x1) := of_none rfl
theorem laneRegisterWrite (x0 : Nat) (x1 : Word) : Statement (.laneRegisterWrite x0 x1) := of_none rfl
theorem laneHold (x0 : Nat) (x1 : Bool) : Statement (.laneHold x0 x1) := of_none rfl
theorem stateRst (x0 : Nat) : Statement (.stateRst x0) := of_none rfl
theorem pvyLaneRead (x0 : Cmd) (x1 : Nat) (x2 : Nat) : Statement (.pvyLaneRead x0 x1 x2) := of_some rfl (by decide)
theorem pvyFeClear (x0 : Cmd) (x1 : Nat) : Statement (.pvyFeClear x0 x1) := of_some rfl (by decide)
theorem chkChSet (x0 : Cmd) (x1 : Nat) (x2 : Nat) (x3 : Nat) : Statement (.chkChSet x0 x1 x2 x3) := of_some rfl (by decide)
theorem chkChClear (x0 : Cmd) (x1 : Nat) : Statement (.chkChClear x0 x1) := of_some rfl (by decide)
theorem chkChInfo (x0 : Cmd) (x1 : Nat) : Statement (.chkChInfo x0 x1) := of_some rfl (by decide)
theorem inrushEnd (x0 : Nat) (x1 : Nat) : Statement (.inrushEnd x0 x1) := of_none rfl
theorem channelShort (x0 : Nat) (x1 : Nat) (x2 : Nat) : Statement (.channelShort x0 x1 x2) := of_none rfl
theorem channelOverload (x0 : Nat) (x1 : Nat) (x2 : Nat) (x3 : Bool) : Statement (.channelOverload x0 x1 x2 x3) := of_none rfl
theorem channelThermal (x0 : Nat) (x1 : Int) (x2 : Int) : Statement (.channelThermal x0 x1 x2) := of_none rfl
theorem thermalRelease (x0 : Nat) (x1 : Int) (x2 : Int) : Statement (.thermalRelease x0 x1 x2) := of_none rfl
theorem retryTimerExpiry (x0 : Nat) : Statement (.retryTimerExpiry x0) := of_none rfl
theorem retryBudgetRefill (x0 : Nat) : Statement (.retryBudgetRefill x0) := of_none rfl
theorem conductionRecompute (x0 : List ChMeas) : Statement (.conductionRecompute x0) := of_none rfl
theorem currentSumShed (x0 : List ChMeas) : Statement (.currentSumShed x0) := of_none rfl
theorem dutyZeroTimeout (x0 : Nat) : Statement (.dutyZeroTimeout x0) := of_none rfl
theorem openLoad (x0 : Nat) (x1 : Nat) (x2 : Nat) : Statement (.openLoad x0 x1 x2) := of_none rfl
theorem stuckOn (x0 : Nat) (x1 : Bool) (x2 : Nat) : Statement (.stuckOn x0 x1 x2) := of_none rfl
theorem supplyAnomaly (x0 : Int) (x1 : Int) : Statement (.supplyAnomaly x0 x1) := of_none rfl
theorem supplyAnomalyEnd (x0 : Int) (x1 : Int) : Statement (.supplyAnomalyEnd x0 x1) := of_none rfl
theorem skidlineFrameRx (x0 : SRx) (x1 : SFrame) : Statement (.skidlineFrameRx x0 x1) := of_none rfl
theorem ackSend (x0 : Nat) : Statement (.ackSend x0) := of_none rfl
theorem ackIntervalExpiry (x0 : Nat) : Statement (.ackIntervalExpiry x0) := of_none rfl
theorem skidlineTxSlot (x0 : Nat) (x1 : Nat) (x2 : Nat) (x3 : Bool) : Statement (.skidlineTxSlot x0 x1 x2 x3) := of_none rfl
theorem frameLifetimeExpiry (x0 : Nat) : Statement (.frameLifetimeExpiry x0) := of_none rfl
theorem alarmForced (x0 : Nat) : Statement (.alarmForced x0) := of_none rfl
theorem routeBroadcast : Statement (.routeBroadcast) := of_none rfl
theorem pathSend : Statement (.pathSend) := of_none rfl
theorem routeEntryExpiry (x0 : Nat) : Statement (.routeEntryExpiry x0) := of_none rfl
theorem epochActivation : Statement (.epochActivation) := of_none rfl
theorem oldEpochExpiry : Statement (.oldEpochExpiry) := of_none rfl
theorem sklSend (x0 : Cmd) (x1 : Nat) (x2 : Nat) (x3 : List Byte) : Statement (.sklSend x0 x1 x2 x3) := of_some rfl (by decide)
theorem sklRxRead (x0 : Cmd) (x1 : Nat) (x2 : Nat) : Statement (.sklRxRead x0 x1 x2) := of_some rfl (by decide)
theorem sklNodeRead (x0 : Cmd) (x1 : Nat) : Statement (.sklNodeRead x0 x1) := of_some rfl (by decide)
theorem sklRekey (x0 : Cmd) (x1 : Nat) : Statement (.sklRekey x0 x1) := of_some rfl (by decide)
theorem detectionPing (x0 : Nat) (x1 : Int) (x2 : Int) : Statement (.detectionPing x0 x1 x2) := of_none rfl
theorem nfcTransaction (x0 : Nat) (x1 : List Card) : Statement (.nfcTransaction x0 x1) := of_none rfl
theorem cardHoldExpiry : Statement (.cardHoldExpiry) := of_none rfl
theorem tagSelect (x0 : Nat) : Statement (.tagSelect x0) := of_none rfl
theorem tagReadBinary (x0 : Nat) (x1 : Nat) : Statement (.tagReadBinary x0 x1) := of_none rfl
theorem tagUpdateBinary (x0 : Nat) (x1 : List Byte) : Statement (.tagUpdateBinary x0 x1) := of_none rfl
theorem tagFieldLoss : Statement (.tagFieldLoss) := of_none rfl
theorem tagNearResume : Statement (.tagNearResume) := of_none rfl
theorem totalsPublish : Statement (.totalsPublish) := of_none rfl
theorem excerptCopy : Statement (.excerptCopy) := of_none rfl
theorem nfcPoll (x0 : Cmd) (x1 : Nat) (x2 : List Card) : Statement (.nfcPoll x0 x1 x2) := of_some rfl (by decide)
theorem nfcXchg (x0 : Cmd) (x1 : Nat) (x2 : List Byte) (x3 : Option (List Byte)) (x4 : Nat) : Statement (.nfcXchg x0 x1 x2 x3 x4) := of_some rfl (by decide)
theorem nfcRelease (x0 : Cmd) (x1 : Nat) : Statement (.nfcRelease x0 x1) := of_some rfl (by decide)
theorem nfcTagWrite (x0 : Cmd) (x1 : Nat) (x2 : List Byte) (x3 : Nat) : Statement (.nfcTagWrite x0 x1 x2 x3) := of_some rfl (by decide)
theorem nfcTagRead (x0 : Cmd) (x1 : Nat) (x2 : Nat) (x3 : Nat) : Statement (.nfcTagRead x0 x1 x2 x3) := of_some rfl (by decide)
theorem railsUp : Statement (.railsUp) := of_none rfl
theorem brandRailFault (x0 : Nat) (x1 : Nat) (x2 : Int) : Statement (.brandRailFault x0 x1 x2) := of_none rfl
theorem railHoldExpiry : Statement (.railHoldExpiry) := of_none rfl
theorem panelFrame (x0 : Nat) : Statement (.panelFrame x0) := of_none rfl
theorem brandPermitRetry (x0 : Option Nat) : Statement (.brandPermitRetry x0) := of_none rfl
theorem legalRegionRefresh (x0 : Nat) : Statement (.legalRegionRefresh x0) := of_none rfl
theorem brdRegionUpdate (x0 : Cmd) (x1 : Nat) (x2 : Nat) (x3 : Nat) (x4 : Nat) (x5 : Nat) (x6 : Nat) : Statement (.brdRegionUpdate x0 x1 x2 x3 x4 x5 x6) := of_some rfl (by decide)
theorem brdRegionInfo (x0 : Cmd) (x1 : Nat) (x2 : Nat) : Statement (.brdRegionInfo x0 x1 x2) := of_some rfl (by decide)
theorem brdPanelInit (x0 : Cmd) (x1 : Nat) : Statement (.brdPanelInit x0 x1) := of_some rfl (by decide)
theorem brdRailClear (x0 : Cmd) : Statement (.brdRailClear x0) := of_some rfl (by decide)
theorem keyMsg (x0 : Cmd) (x1 : KeyMsg) : Statement (.keyMsg x0 x1) := of_some rfl (by decide)
theorem keySlotInfo (x0 : Cmd) (x1 : Nat) : Statement (.keySlotInfo x0 x1) := of_some rfl (by decide)
theorem keyPerso (x0 : Cmd) (x1 : Bool) (x2 : Nat) (x3 : Nat) (x4 : Bool) : Statement (.keyPerso x0 x1 x2 x3 x4) := of_some rfl (by decide)
theorem keyLcAdvance (x0 : Cmd) (x1 : Nat) : Statement (.keyLcAdvance x0 x1) := of_some rfl (by decide)
theorem keyAttest (x0 : Cmd) (x1 : Nat) (x2 : Nat) : Statement (.keyAttest x0 x1 x2) := of_some rfl (by decide)
theorem keyChainSet (x0 : Cmd) (x1 : Nat) (x2 : Nat) (x3 : Nat) (x4 : Nat) (x5 : Bool) : Statement (.keyChainSet x0 x1 x2 x3 x4 x5) := of_some rfl (by decide)
theorem keySign (x0 : Cmd) (x1 : Nat) (x2 : Nat) : Statement (.keySign x0 x1 x2) := of_some rfl (by decide)
theorem boomTimeSync (x0 : Nat) (x1 : Int) (x2 : Int) (x3 : Int) (x4 : Int) (x5 : Int) (x6 : Nat) : Statement (.boomTimeSync x0 x1 x2 x3 x4 x5 x6) := of_none rfl
theorem stepApply : Statement (.stepApply) := of_none rfl
theorem servoOffsetTimeout : Statement (.servoOffsetTimeout) := of_none rfl
theorem holdoverLimit : Statement (.holdoverLimit) := of_none rfl
theorem leapSecond : Statement (.leapSecond) := of_none rfl
theorem rtcTempComp (x0 : Int) : Statement (.rtcTempComp x0) := of_none rfl
theorem rtcSync : Statement (.rtcSync) := of_none rfl
theorem timOffset (x0 : Cmd) (x1 : Int) (x2 : Nat) (x3 : Nat) (x4 : Int) (x5 : Nat) : Statement (.timOffset x0 x1 x2 x3 x4 x5) := of_some rfl (by decide)
theorem timSet (x0 : Cmd) (x1 : Nat) (x2 : Nat) : Statement (.timSet x0 x1 x2) := of_some rfl (by decide)
theorem timRead (x0 : Cmd) : Statement (.timRead x0) := of_some rfl (by decide)
theorem cruiseSliceRequest : Statement (.cruiseSliceRequest) := of_none rfl
theorem cruiseSliceEnd (x0 : List Nat) : Statement (.cruiseSliceEnd x0) := of_none rfl
theorem sliceOverrun : Statement (.sliceOverrun) := of_none rfl
theorem crsPause (x0 : Cmd) : Statement (.crsPause x0) := of_some rfl (by decide)
theorem crsResume (x0 : Cmd) : Statement (.crsResume x0) := of_some rfl (by decide)
theorem crsFuseRepair (x0 : Cmd) : Statement (.crsFuseRepair x0) := of_some rfl (by decide)
theorem crsReport (x0 : Cmd) (x1 : Nat) : Statement (.crsReport x0 x1) := of_some rfl (by decide)
theorem discoveryRound : Statement (.discoveryRound) := of_none rfl
theorem discoveryFrameRx (x0 : DiscView) : Statement (.discoveryFrameRx x0) := of_none rfl
theorem boomLinkChange (x0 : Nat) (x1 : Bool) : Statement (.boomLinkChange x0 x1) := of_none rfl
theorem boomFrameUncorr : Statement (.boomFrameUncorr) := of_none rfl
theorem heartbeatSend : Statement (.heartbeatSend) := of_none rfl
theorem heartbeatRx (x0 : Heartbeat) : Statement (.heartbeatRx x0) := of_none rfl
theorem masterLost : Statement (.masterLost) := of_none rfl
theorem takeover : Statement (.takeover) := of_none rfl
theorem memberHoldExpiry : Statement (.memberHoldExpiry) := of_none rfl
theorem conflictHoldExpiry : Statement (.conflictHoldExpiry) := of_none rfl
theorem mirrorRx (x0 : MirrorFrame) : Statement (.mirrorRx x0) := of_none rfl
theorem handoverTimeout : Statement (.handoverTimeout) := of_none rfl
theorem netPairSwitch (x0 : Cmd) : Statement (.netPairSwitch x0) := of_some rfl (by decide)
theorem netRingRediscover (x0 : Cmd) : Statement (.netRingRediscover x0) := of_some rfl (by decide)
theorem netPortModeWrite (x0 : Nat) (x1 : Word) : Statement (.netPortModeWrite x0 x1) := of_none rfl
theorem aonReset : Statement (.aonReset) := of_none rfl
theorem netPortLinkChange (x0 : Nat) (x1 : Bool) (x2 : Nat) : Statement (.netPortLinkChange x0 x1 x2) := of_none rfl
theorem nfcReferenceReturn : Statement (.nfcReferenceReturn) := of_none rfl
theorem tagFieldSessionStart : Statement (.tagFieldSessionStart) := of_none rfl
theorem slewEnd : Statement (.slewEnd) := of_none rfl

end Sys2Proof.Laws.Opcode
end

