-- ==== Sys2Proof/WellFormed.lean ====
section
/-! DEFINITION. Which commands the part can receive: an index names something the part has, and a number fits the field that
carries it. A meaning does not need its command well formed: one that is not leaves the state or completes with RANGE. -/
namespace Sys2Proof

/-- A number below a bound. -/
def below (n b : Nat) : Bool := decide (n < b)

/-- A number between two bounds. -/
def within (n lo hi : Nat) : Bool := decide (lo ≤ n) && decide (n ≤ hi)

/-- A number of a descriptor's 32-bit field (R114). -/
def u32 (n : Nat) : Bool := below n 4294967296

/-- Nanoseconds stay below 10^9 (R458). -/
def stampOk (t : Stamp) : Bool := below t.ns 1000000000

/-- A decimator's code has 24 bits, signed (R222). -/
def codeOk (v : Int) : Bool := decide (-8388608 ≤ v) && decide (v ≤ 8388607)

/-- Eight bays' codes at one sample instant. -/
def samplesOk (l : List BayCodes) : Bool :=
  decide (l.length = 8) && l.all (fun b => codeOk b.v && codeOk b.ih && codeOk b.il && codeOk b.e)

/-- Measurements name channels of the part (R360). -/
def measOk (l : List ChMeas) : Bool := l.all (fun c => below c.ch 32)

/-- A published entry stands at a global identity and carries a time; a bay's registers name a stack member (R24, R251). -/
def publicationOk : Publication → Bool
  | .point gid _ val => below gid 8388608 && stampOk val.stamp
  | .energy dev bay _ _ time => below dev 8 && below bay 8 && stampOk time

/-- A bus write carries octets and stays within the 40-bit address space. -/
def accessOk (a : Access) : Bool := !a.data.isEmpty && decide (a.addr + a.data.length ≤ 1099511627776)

/-- The checks of each command. -/
def Instr.wf : Instr → Bool
  | .registerWrite a => accessOk a
  | .porstNPulse _ straps _ => below straps.bootSrc 4
  | .railFault _ _ _ => true
  | .clkFault _ _ _ => true
  | .nfcLoss => true
  | .x32Loss _ => true
  | .safeClockLoss => true
  | .secWdt _ => true
  | .swReset _ => true
  | .boot _ env => env.badRows.all (fun r => below r.1 80)
  | .migrationBackground _ => true
  | .pcieImageBlock len _ => within len 1 4194304
  | .sysPermitReq _ power dur prio wait => u32 power && u32 dur && u32 prio && u32 wait
  | .sysPermitRelease _ handle => u32 handle
  | .sysSleep _ timer => u32 timer
  | .sysPowerMode _ target => u32 target
  | .sysReset _ => true
  | .wake src bay => below src 10 && below bay 8
  | .doorbell _ => true
  | .powerFailWarning _ _ _ post _ => post.all samplesOk
  | .permitWaitExpiry _ => true
  | .permitExpiry _ => true
  | .cfgBankErase _ bank => u32 bank
  | .cfgBankWrite _ bank off len _ => u32 bank && u32 off && u32 len
  | .cfgBankVerify _ bank => u32 bank
  | .cfgActivate _ bank => u32 bank
  | .cfgConfirm _ => true
  | .cfgRevert _ => true
  | .cfgReverifyClear _ _ => true
  | .pointUpdate pt _ t _ => below pt 1048576 && (t.map stampOk).getD true
  | .timeoutSweep => true
  | .cacheWriteback pt => below pt 1048576
  | .periodicPublication pt => below pt 1048576
  | .publicationRx p => publicationOk p
  | .scrubLine _ addr _ _ => below addr 1099511627776
  | .hstQPiWrite q _ => below q 42
  | .ringEnable q _ => below q 42
  | .ringDisable q _ => below q 42
  | .ringDisableDone q => below q 42
  | .hstQBaseWrite q _ _ => below q 42
  | .hstQLog2sizeWrite q _ => below q 42
  | .undefinedOpcode _ block _ => below block 21
  | .lndPtRead _ list _ dst _ => u32 list && u32 dst
  | .lndPtWrite _ _ _ => true
  | .lndPtCfg _ _ _ => true
  | .lndSubOpen _ first last off len => u32 first && u32 last && u32 off && u32 len
  | .lndSubClose _ handle => u32 handle
  | .hstApiOpen _ loMajor loMinor hiMajor hiMinor => u32 loMajor && u32 loMinor && u32 hiMajor && u32 hiMinor
  | .pilotStateChange bay _ _ _ => below bay 8
  | .pilotManualWrite bay _ => below bay 8
  | .proximityChange bay _ => below bay 8
  | .linkUp k mac => below k 128 && below mac 281474976710656
  | .linkLoss k => below k 128
  | .tLinkExpiry k => below k 128
  | .tNegExpiry k => below k 128
  | .tAuthExpiry k => below k 128
  | .tLockExpiry k => below k 128
  | .tCableExpiry k => below k 128
  | .tPreExpiry k => below k 128
  | .tPdwaitExpiry k => below k 128
  | .tRenegExpiry k => below k 128
  | .tStopExpiry k => below k 128
  | .sdpRequest k _ => below k 128
  | .tcpConnect k => below k 128
  | .tlsHandshake k _ => below k 128
  | .supportedAppProtocolReq k _ _ => below k 128
  | .v2gMessageRx k _ _ => below k 128
  | .v2gMessageTimeout k => below k 128
  | .contractCertVerify k _ => below k 128
  | .vlkAuthDecide _ k reqId decision limWh limMin => u32 k && u32 reqId && u32 decision && u32 limWh && u32 limMin
  | .vlkPreauth _ bridged bay ident limWh limMin => u32 bridged && u32 bay && u32 ident.length && u32 limWh && u32 limMin
  | .preauthExpiry bridged bay => below bay (if bridged then 256 else 8)
  | .lockFeedback bay _ => below bay 8
  | .prechargeComplete k => below k 128
  | .contactorFeedback bay _ _ => below bay 8
  | .k1FeedbackTimeout k => below k 128
  | .durationLimitExpiry k => below k 128
  | .weldCheckDone k _ => below k 128
  | .unplugWaitExpiry k => below k 128
  | .evqCiWrite _ => true
  | .evqEnable _ => true
  | .evqBaseWrite _ => true
  | .ctxReq _ => true
  | .tunnelData _ _ => true
  | .tunnelLinkUp _ => true
  | .tunnelLinkDown _ => true
  | .vlkBaySet _ bay target => u32 bay && u32 target
  | .vlkSessStop _ k reason => u32 k && u32 reason
  | .vlkSessLimit _ k cap => u32 k && u32 cap
  | .vlkSessInfo _ k => u32 k
  | .vlkWeldClear _ bridged bay => u32 bridged && u32 bay
  | .greenphyPermitRetry bay => below bay 8
  | .cmSlacParmReq bay _ mac => below bay 8 && below mac 281474976710656
  | .cmMnbcSoundInd bay _ _ attens => below bay 8 && attens.all (fun a => below a 256)
  | .ttEvseMatchMnbcExpiry bay => below bay 8
  | .cmAttenCharRsp bay _ => below bay 8
  | .cmValidateReq bay _ => below bay 8
  | .cmSlacMatchReq bay _ => below bay 8
  | .vlkLinkInfo _ k => u32 k
  | .vlkCertRead _ k dst size => u32 k && u32 dst && u32 size
  | .vlkRootInstall _ kind _ _ der => u32 kind && u32 der.length
  | .vlkRootRemove _ index => u32 index
  | .yarderCycle moduleAmps _ => moduleAmps.all (fun p => below p.1 4096)
  | .matrixSwitchDone node => below node 4096
  | .moduleReleaseTimeout node => below node 4096
  | .moduleExcessRelease node => below node 4096
  | .requestPeriodic => true
  | .clientHoldExpiry => true
  | .clientLossHoldExpiry node => below node 4096
  | .yrdNodeRead _ node => u32 node
  | .yrdLimitSet _ node _ => u32 node
  | .yrdClassSet _ node cls gMin => u32 node && u32 cls && u32 gMin
  | .yrdStorageSet _ node mode socTgt _ => u32 node && u32 mode && u32 socTgt
  | .yrdExportSet _ node watts => u32 node && u32 watts
  | .yrdModuleService _ node inService => u32 node && u32 inService
  | .yrdSnapshot _ dst => u32 dst
  | .scalerSample codes => samplesOk codes
  | .rangeToLow bay => below bay 8
  | .channelLost bay _ => below bay 8
  | .channelRestored bay _ => below bay 8
  | .xchkWindow bay => below bay 8
  | .dspDeadline => true
  | .tickCommit => true
  | .pulseTestWrite m _ => below m 4
  | .sclCalRead _ bay => u32 bay
  | .sclCalWrite _ bay _ _ => u32 bay
  | .sclFaultClear _ bay _ => u32 bay
  | .sclCapture _ bay dst _ => u32 bay && u32 dst
  | .leaseExpiry => true
  | .startModeTimeout => true
  | .tlyMsg _ _ => true
  | .tlyRecRead _ recno dst => u32 recno && u32 dst
  | .tlyRecAck _ first count => u32 first && u32 count
  | .tlyRegSnapshot _ dst => u32 dst
  | .tlyReadSigned _ bay dst => u32 bay && u32 dst
  | .tlyProfileRead _ ch first count dst => u32 ch && u32 first && u32 count && u32 dst
  | .tlySrRead _ first count dst => u32 first && u32 count && u32 dst
  | .tlyCeilSet _ _ => true
  | .tlyMdRead _ => true
  | .tamperEvent input _ _ _ => below input 4
  | .tamperTransfer torn => torn.all (fun i => below i 128)
  | .vbatLow _ => true
  | .blzLogRead _ first count dst => u32 first && u32 count && u32 dst
  | .blzTamperRead _ dst => u32 dst
  | .blzTamperClear _ _ => true
  | .blzLogRelease _ _ => true
  | .imdHalfPeriod bay _ _ _ _ => below bay 8
  | .imdDriverStuck bay => below bay 8
  | .earthCurrentTrip bay => below bay 8
  | .efWarning bay => below bay 8
  | .alarmLineTimeout bay => below bay 8
  | .imdSelftest _ bay r1 r2 => u32 bay && u32 r1 && u32 r2
  | .imdTripTest _ bay us => u32 bay && u32 us
  | .safetyInputDemand input _ => below input 16
  | .testPulse k _ _ _ _ => below k 4
  | .discrepancyTimeout pair => below pair 8
  | .tripAutoClear input => below input 16
  | .resetButtonRelease input _ _ => below input 16
  | .soDarkPulse m _ => below m 4
  | .sparDiagnostic cause detail _ => within cause 1 7 && below detail 64
  | .gateTest j _ => below j 36
  | .gateTestOverdue j => below j 36
  | .heartbeatLineTimeout => true
  | .hingeDataRx _ => true
  | .hingeConnectRx _ => true
  | .hingeConnectAckRx _ => true
  | .hingeTimeout conn => below conn 1024
  | .hingeSend conn _ => below conn 1024
  | .hingeConnectSend conn => below conn 1024
  | .pwdSessionTimeout => true
  | .lockoutExpiry => true
  | .safPwdOpen _ pwd => u32 pwd.length
  | .safPwdClose _ => true
  | .safParamRead _ first count dst => u32 first && u32 count && u32 dst
  | .safParamSet _ _ => true
  | .safParamCommit _ => true
  | .safParamConfirm _ _ => true
  | .safPwdChange _ pwd => u32 pwd.length
  | .safPwdReset _ _ pwd => u32 pwd.length
  | .safLogRead _ first count dst => u32 first && u32 count && u32 dst
  | .safLogArchive _ _ => true
  | .safTripReset _ _ _ _ => true
  | .safHingeInfo _ index => u32 index
  | .laneSample n _ => below n 64
  | .laneRegisterWrite off _ => below off 65536
  | .laneHold n _ => below n 64
  | .stateRst n => below n 64
  | .pvyLaneRead _ n _ => u32 n
  | .pvyFeClear _ n => u32 n
  | .chkChSet _ ch on duty => u32 ch && u32 on && u32 duty
  | .chkChClear _ ch => u32 ch
  | .chkChInfo _ ch => u32 ch
  | .inrushEnd ch _ => below ch 32
  | .channelShort ch _ _ => below ch 32
  | .channelOverload ch _ _ _ => below ch 32
  | .channelThermal ch _ _ => below ch 32
  | .thermalRelease ch _ _ => below ch 32
  | .retryTimerExpiry ch => below ch 32
  | .retryBudgetRefill ch => below ch 32
  | .conductionRecompute meas => measOk meas
  | .currentSumShed meas => measOk meas
  | .dutyZeroTimeout ch => below ch 32
  | .openLoad ch _ _ => below ch 32
  | .stuckOn ch _ _ => below ch 32
  | .supplyAnomaly _ _ => true
  | .supplyAnomalyEnd _ _ => true
  | .skidlineFrameRx rx f => within rx.blocks 1 8 && below f.src 4096 && below f.orig 4096
  | .ackSend start => decide (6144 ≤ start)
  | .ackIntervalExpiry _ => true
  | .skidlineTxSlot _ _ slot _ => below slot 16
  | .frameLifetimeExpiry _ => true
  | .alarmForced start => decide (6144 ≤ start)
  | .routeBroadcast => true
  | .pathSend => true
  | .routeEntryExpiry node => within node 1 4094
  | .epochActivation => true
  | .oldEpochExpiry => true
  | .sklSend _ final cls payload => u32 final && u32 cls && u32 payload.length
  | .sklRxRead _ count dst => u32 count && u32 dst
  | .sklNodeRead _ node => u32 node
  | .sklRekey _ _ => true
  | .detectionPing ant _ _ => below ant 8
  | .nfcTransaction ant _ => below ant 8
  | .cardHoldExpiry => true
  | .tagSelect _ => true
  | .tagReadBinary page _ => below page 256
  | .tagUpdateBinary page _ => below page 256
  | .tagFieldLoss => true
  | .tagNearResume => true
  | .totalsPublish => true
  | .excerptCopy => true
  | .nfcPoll _ ant _ => u32 ant
  | .nfcXchg _ ant apdu _ dst => u32 ant && u32 apdu.length && u32 dst
  | .nfcRelease _ ant => u32 ant
  | .nfcTagWrite _ page data _ => u32 page && u32 data.length
  | .nfcTagRead _ page count dst => u32 page && u32 count && u32 dst
  | .railsUp => true
  | .brandRailFault panel rail _ => below panel 8 && below rail 5
  | .railHoldExpiry => true
  | .panelFrame p => below p 8
  | .brandPermitRetry panel => panel.all (fun i => below i 8)
  | .legalRegionRefresh bay => below bay 8
  | .brdRegionUpdate _ p r mode dither off stride => u32 p && u32 r && u32 mode && u32 dither && u32 off && u32 stride
  | .brdRegionInfo _ p r => u32 p && u32 r
  | .brdPanelInit _ p => u32 p
  | .brdRailClear _ => true
  | .keyMsg _ _ => true
  | .keySlotInfo _ slot => u32 slot
  | .keyPerso _ _ index _ _ => u32 index
  | .keyLcAdvance _ target => u32 target
  | .keyAttest _ _ dst => u32 dst
  | .keyChainSet _ slot _ _ size _ => u32 slot && u32 size
  | .keySign _ slot _ => u32 slot
  | .boomTimeSync port _ _ _ _ _ _ => below port 2
  | .stepApply => true
  | .servoOffsetTimeout => true
  | .holdoverLimit => true
  | .leapSecond => true
  | .rtcTempComp _ => true
  | .rtcSync => true
  | .timOffset _ _ ns frac _ leap => u32 ns && u32 frac && u32 leap
  | .timSet _ _ ns => u32 ns
  | .timRead _ => true
  | .cruiseSliceRequest => true
  | .cruiseSliceEnd _ => true
  | .sliceOverrun => true
  | .crsPause _ => true
  | .crsResume _ => true
  | .crsFuseRepair _ => true
  | .crsReport _ dst => u32 dst
  | .discoveryRound => true
  | .discoveryFrameRx _ => true
  | .boomLinkChange port _ => below port 2
  | .boomFrameUncorr => true
  | .heartbeatSend => true
  | .heartbeatRx _ => true
  | .masterLost => true
  | .takeover => true
  | .memberHoldExpiry => true
  | .conflictHoldExpiry => true
  | .mirrorRx _ => true
  | .handoverTimeout => true
  | .netPairSwitch _ => true
  | .netRingRediscover _ => true
  | .netPortModeWrite n _ => below n 2
  | .aonReset => true
  | .netPortLinkChange n _ _ => below n 2
  | .nfcReferenceReturn => true
  | .tagFieldSessionStart => true
  | .slewEnd => true

end Sys2Proof
end

