-- ==== Sys2Proof/Tests/Slice0.lean ====
section
/-! SUPPORT. The model's own tests: a witness for the hypotheses of every statement, the checks of WellFormed against ill-formed
commands, and a few single steps whose results the spec gives. -/
namespace Sys2Proof.Machine
section
set_option Elab.async false
set_option linter.unusedVariables false

/-! ### States to start from -/

/-- A table with one row under every key below `n`. -/
def rows {α : Type} (n : Nat) (f : Nat → α) : Tab α := (List.range n).map (fun k => (k, f k))

/-- Edits of one row of the image's tables. -/
def State.cfgBay (s : State) (n : Nat) (f : BayCfg → BayCfg) : State := { s with img.bays := tset {} s.img.bays n (f (s.cBay n)) }
def State.cfgMeter (s : State) (n : Nat) (f : MeterCfg → MeterCfg) : State :=
  { s with img.metro.bays := tset {} s.img.metro.bays n (f (s.cMeter n)) }
def State.cfgChan (s : State) (n : Nat) (f : ChanCfg → ChanCfg) : State := { s with img.choker := tset {} s.img.choker n (f (s.cChan n)) }
def State.cfgNode (s : State) (n : Nat) (f : NodeCfg → NodeCfg) : State :=
  { s with img.yarder.nodes := tset {} s.img.yarder.nodes n (f (s.cNode n)) }
def State.cfgConn (s : State) (n : Nat) (f : HingeCfg → HingeCfg) : State :=
  { s with img.safety.conns := tset {} s.img.safety.conns n (f (s.cConn n)) }
def State.cfgPanel (s : State) (n : Nat) (f : PanelCfg → PanelCfg) : State :=
  { s with img.brand.panels := tset {} s.img.brand.panels n (f (s.cPanel n)) }
def State.modRegion (s : State) (p r : Nat) (f : Region → Region) : State := s.setRegion p r (f (s.region p r))
/-- A safety parameter's value. -/
def State.par (s : State) (id : Nat) (v : Nat) : State := { s with saf.params := tset none s.saf.params id (some (BitVec.ofNat 64 v)) }

/-- An image for a post that passes every check: one section of each type the role requires, keyed by its place. -/
def goodImage : Image :=
  let types := secTypes.filter (fun t => decide (secMark .post t = some .required))
  { hdr := { arbCtr := 4, bodyLen := 256 * 30, secCount := types.length, metroDigest := 9, signer := 42 }
    sections := (types.zip (List.range types.length)).map (fun p =>
      { typ := p.1, required := (secFlags p.1).1, metro := (secFlags p.1).2.1, safety := (secFlags p.1).2.2.1
        sealed := (secFlags p.1).2.2.2, offset := 0x400 + 256 * p.2, length := 256 })
    content := { struct_ := { role := .post, pBudget := 1000 }
                 cal := { seasons := [(1, 1, 0)], weeks := [[0, 0, 0, 0, 0, 0, 0]], days := [[(0, 0)]] } } }

/-- A combined device in FIELD, awake, with every ring enabled and one command posted in each. -/
def live : State := { State.reset with
  sys := { pstate := .full, rstOutN := true, dramGiB := 8, wakeTimer := 60 }
  permits := { budget := 2000 }
  img := {
    struct_ := { role := .combined, pBudget := 2000, wakeKeep := 0x3FF }
    bays := rows 8 (fun _ => { enabled := true, methods := 0xF, ratedV := 1000, ratedI := 500 })
    metro := { bays := rows 8 (fun _ => { mvEn := true, mihEn := true, milEn := true, meEn := true }), profiles := [(0, (1, 0))] }
    choker := rows 32 (fun _ => { configured := true, iNom := 10 })
    stand := { points := 16 }
    yarder := { nodes := rows 8 (fun n => { typ := .outlet, pMax := 100000, iMax := 5000, bayNum := n }), count := 8 }
    lanes := rows 64 (fun _ => { configured := true })
    skl := { on := true }
    safety := { conns := [(0, { used := true, connId := 5, paired := 1 }), (1, { used := true, connId := 6, tx := true })] }
    brand := { panels := rows 8 (fun _ => { used := true, width := 128, regions := rows 16 (fun r => { used := true, x := 8 * r, w := 8, h := 1 }) }) }
    nfc := { ants := rows 8 (fun _ => { en := true }) } }
  lnd := { points := 16 }
  hst := { coreMajor := 1, hostMajor := 1, queues := rows 42 (fun q => { en := true, log2 := 4, base := 0x800000 + 4096 * q, res := 0x800800 + 4096 * q, pi := 1 }) }
  scl := { run := true, calOk := 0xFF }
  tly := { running := true }
  imd := []
  saf := { spar := .run, heartbeat := true, tpRun := true, gates := (List.range 4).map (fun j => (32 + j, { en := true, tested := true })), conns := rows 2 (fun _ => { st := .opened, ver := 2 }) }
  pvy := { run := true, lanes := rows 64 (fun _ => { cfg := { configured := true } }) }
  skl := { run := true }
  nfc := { run := true }
  brd := { rail := .up }
  key := { lc := .field, devId := 77 }
  tim := { sec := 1000 }
  crs := { st := .idle } }

/-- Both flash banks hold the image, and its signing key and the authorities' keys are installed. -/
def flashed : State := { live with
  key.imgKeys := [(0, 42)], key.authKeys := [(0, 50), (1, 51), (2, 52)]
  cfg.banks := rows 2 (fun _ => { pieces := [{ off := 0, len := 256 + 256 * 30, img := goodImage }] }) }

/-- A reset lasts, and what a start reads stands: both flash banks and the keys. -/
def fresh : State := { flashed with sys.inReset := true, sys.bootStage := 0, sys.vauxThr := 75 }

/-- A satellite with bridged bay 3, its tunnel key in slot 48, and one of its sessions in context 8. -/
def tunnelled : State := { live with
  img.vlink.bridged := [(3, { used := true, sat := 9, slot := 48 })]
  key.slots := [(48, { st := .valid, usage := 4, key := 7 })] }
def bridged : State := tunnelled.setCtx 8 { bridged := true, bay := 3, st := .link }

/-- The tariff authority's key stands in slot 112. -/
def tariffed : State := live.setSlot 112 { st := .valid, usage := 0x10, key := 33 }

/-- The Skidline key of epoch 0 stands in slot 48. -/
def keyed : State := live.setSlot 48 { st := .valid, usage := 8, key := 9 }

/-- A member of a stack. -/
def stacked : State := { live with img.stack.present := true }


/-! ### Witnesses

For every statement with hypotheses, values that meet all of them together, clause by clause: one member of each conjunction per
clause, in the statement's order. The values that count are at the boundary of their range where the clause has one. -/

/-- The three tests of `ready` together. -/
theorem ready_of {s : State} {c : Cmd} {op : Nat} (h : s.canStart (queueOf (op / 256) c.side) = true ∧ s.apiOpen c.side = true ∧ s.descLost (s.queue (queueOf (op / 256) c.side)) = false) :
    s.ready c op := h

/-- 4 facts decided at once, before the rest of a conjunction. -/
theorem together4 {a b c d r : Prop} (h : a ∧ b ∧ c ∧ d) (x : r) : a ∧ b ∧ c ∧ d ∧ r :=
  ⟨h.1, h.2.1, h.2.2.1, h.2.2.2, x⟩

/-- 6 facts decided at once, before the rest of a conjunction. -/
theorem together6 {a b c d e f r : Prop} (h : a ∧ b ∧ c ∧ d ∧ e ∧ f) (x : r) : a ∧ b ∧ c ∧ d ∧ e ∧ f ∧ r :=
  ⟨h.1, h.2.1, h.2.2.1, h.2.2.2.1, h.2.2.2.2.1, h.2.2.2.2.2, x⟩

theorem witness_StepRunsTheFrontCommand :
    ∃ (s : State), s.pending = [] :=
  ⟨live, by decide +kernel⟩

theorem witness_CommandsCompleteAndLeaveTheQueue :
    ∃ (i : Instr) (s : State) (t : State), exec i s = .next t :=
  ⟨.wake 10 0, live, live, rfl⟩

theorem witness_ResetLeavesTheSpecifiedState :
    (∃ (n : Nat), n < 8) ∧
    (∃ (k : Nat), k < 128) :=
  ⟨⟨7, by decide +kernel⟩,
   ⟨127, by decide +kernel⟩⟩

theorem witness_MemoryStaysCanonical :
    ∃ (s : State) (t : State), s.memOk ∧ step s = .next t :=
  ⟨live, live, by unfold State.memOk; decide +kernel, rfl⟩

theorem witness_GrantedPowerStaysWithinBudget :
    ∃ (s : State) (t : State), s.budgetOk ∧ step s = .next t :=
  ⟨live, live, by unfold State.budgetOk; decide +kernel, rfl⟩

theorem witness_NoStepUndoesThese :
    (∃ (s : State) (t : State), s.legalOk ∧ step s = .next t) ∧
    (∃ (s : State) (t : State), step s = .next t) ∧
    (∃ (s : State) (t : State), s.key.lc = .scrapped ∧ step s = .next t) ∧
    (∃ (s : State) (t : State) (r : Nat × Nat), step s = .next t ∧ r ∈ s.crs.fused) :=
  ⟨⟨live, live, by unfold State.legalOk; decide +kernel, rfl⟩,
   ⟨live, live, rfl⟩,
   ⟨{ live with key.lc := .scrapped }, { live with key.lc := .scrapped }, by decide +kernel, rfl⟩,
   ⟨{ live with crs.fused := [(3, 5)] }, { live with crs.fused := [(3, 5)] }, (3, 5), rfl, by decide +kernel⟩⟩

theorem witness_CommandWaitsForItsRing :
    ∃ (i : Instr) (c : Cmd) (op : Nat) (s : State), i.posted = some (c, op) ∧ s.canStart (queueOf (op / 256) c.side) = false :=
  ⟨.lndPtRead {} 0 [] 0 [], {}, 0x0201, (live |>.modQueue 4 (fun x => { x with pi := 0 })), rfl, by decide +kernel⟩

theorem witness_ClosedApiAnswersVersion :
    (∃ (i : Instr) (c : Cmd) (op : Nat) (s : State), i.posted = some (c, op) ∧ s.canStart (queueOf (op / 256) c.side) = true ∧ op
     ≠ 0x0301 ∧ s.descRead c op ∧ s.apiOpen c.side = false) ∧
    (∃ (i : Instr) (c : Cmd) (op : Nat) (s : State), i.posted = some (c, op) ∧ s.canStart (queueOf (op / 256) c.side) = true ∧ ¬
     s.descRead c op) :=
  ⟨⟨.lndPtRead {} 0 [] 0 [], {}, 0x0201, { live with hst.coreMajor := 0 }, rfl,
     by simp only [State.descRead]; decide +kernel⟩,
   ⟨.lndPtRead {} 0 [] 0 [], {}, 0x0201, { live with lnd.poison := [0x804000] }, rfl,
     by simp only [State.descRead]; decide +kernel⟩⟩

theorem witness_CompletionWritesItsResult :
    (∃ (s : State) (c : Cmd) (q : Nat) (idx : Nat) (op : Nat) (detail : Nat) (st : Status) (data : List Byte) (x : Nat),
     let Q := s.queue q; let a := landing (Q.res + 64 * (idx % 2 ^ Q.log2)); let t := s.complete q idx c op st detail data; (x < a
     ∨ a + 64 ≤ x)) ∧
    (∃ (s : State) (c : Cmd) (q : Nat) (idx : Nat) (op : Nat) (detail : Nat) (st : Status) (data : List Byte) (p : Nat),
     let Q := s.queue q; let a := landing (Q.res + 64 * (idx % 2 ^ Q.log2)); let t := s.complete q idx c op st detail data; p ≠ q) ∧
    (∃ (s : State) (c : Cmd) (q : Nat) (idx : Nat) (op : Nat) (detail : Nat) (st : Status) (data : List Byte) (b : Nat),
     let Q := s.queue q; let a := landing (Q.res + 64 * (idx % 2 ^ Q.log2)); let t := s.complete q idx c op st detail data; b ≠ q
     / 2) :=
  ⟨⟨live, {}, 0, 0, 0, 0, .ok, [], landing 0x800800 - 1, by decide +kernel⟩,
   ⟨live, {}, 0, 0, 0, 0, .ok, [], 1, by decide +kernel⟩,
   ⟨live, {}, 0, 0, 0, 0, .ok, [], 1, by decide +kernel⟩⟩

theorem witness_CausesOfResetReset :
    (∃ (s : State) (us : Nat), s.closedOff = false ∧ 10 ≤ us) ∧
    (∃ (s : State) (ns : Nat), s.closedOff = false ∧ 2000 ≤ ns) ∧
    (∃ (s : State) (pm : Nat) (us : Nat), s.closedOff = false ∧ 20 < pm ∧ 100 ≤ us) ∧
    (∃ (s : State), s.closedOff = false) ∧
    (∃ (s : State), s.closedOff = false ∧ s.sys.swResetDue = true) ∧
    (∃ (s : State), s.closedOff = true) ∧
    (∃ (s : State), s.closedOff = true ∧ s.sys.swResetDue = true) ∧
    (∃ (s : State), s.closedOff = true ∧ s.sys.causeCopy.ctorIdx ≤ RstCause.secWdt.ctorIdx) ∧
    (∃ (s : State), s.closedOff = true ∧ RstCause.secWdt.ctorIdx < s.sys.causeCopy.ctorIdx) ∧
    (∃ (us : Nat), us < 10) ∧
    (∃ (ns : Nat), ns < 2000) ∧
    (∃ (pm : Nat) (us : Nat), (pm ≤ 20 ∨ us < 100)) ∧
    (∃ (s : State), s.sys.swResetDue = false) :=
  ⟨⟨live, 10, by decide +kernel⟩,
   ⟨live, 2000, by decide +kernel⟩,
   ⟨live, 21, 100, by decide +kernel⟩,
   ⟨live, by decide +kernel⟩,
   ⟨{ live with sys.swResetDue := true }, by decide +kernel⟩,
   ⟨State.reset, by decide +kernel⟩,
   ⟨{ State.reset with sys.swResetDue := true }, by decide +kernel⟩,
   ⟨State.reset, by decide +kernel⟩,
   ⟨{ live with sys.inReset := true, sys.bootStage := 0, sys.causeCopy := .swReset }, by decide +kernel⟩,
   ⟨9, by decide +kernel⟩,
   ⟨1999, by decide +kernel⟩,
   ⟨20, 0, by decide +kernel⟩,
   ⟨live, by decide +kernel⟩⟩

theorem witness_PowerFailAndClockLosses :
    (∃ (s : State) (pfwN : Bool) (vaux : Nat), s.sys.inReset = false ∧ (pfwN = false ∨ vaux < s.sys.vauxThr)) ∧
    (∃ (s : State) (pfwN : Bool) (mf : Bool) (vaux : Nat), ((pfwN = true ∧ s.sys.vauxThr ≤ vaux) ∨ (s.closedOff = true ∧ mf =
     false))) ∧
    (∃ (s : State), s.sys.inReset = false) ∧
    (∃ (s : State), s.sys.inReset = true) ∧
    (∃ (s : State), s.sys.inReset = false) ∧
    (∃ (s : State), s.closedOff = true) :=
  ⟨⟨live, false, 0, by decide +kernel⟩,
   ⟨State.reset, true, false, 0, by decide +kernel⟩,
   ⟨live, by decide +kernel⟩,
   ⟨{ live with sys.inReset := true }, by decide +kernel⟩,
   ⟨live, by decide +kernel⟩,
   ⟨State.reset, by decide +kernel⟩⟩

theorem witness_StartsReachTheirStage :
    (∃ (s : State) (env : BootEnv) (held : Bool), (held = false ∨ s.closedOff = false ∨ env.pfwN = false ∨ env.vaux ≤
     s.sys.vauxThr)) ∧
    (∃ (s : State) (env : BootEnv), s.closedOff = true ∧ env.pfwN = true ∧ s.sys.vauxThr < env.vaux ∧
     let w := (((s.bootBegin env).bootLife).bootKeys env).dramTrained env; let a : State := { w with cfg := w.cfg.trialStep };
     let p := a.cfg.prefBank; let x := a.tryBank p;
     let y := ({ x.1 with cfg := { x.1.cfg with fallback := true } } : State).tryBank (1 - p);
     let debug : Prop := s.sys.straps.bootSrc = 3 ∧ s.key.lc = .manufacture; (s.key.lc = .scrapped ∨ debug)) ∧
    (∃ (s : State) (env : BootEnv), s.closedOff = true ∧ env.pfwN = true ∧ s.sys.vauxThr < env.vaux ∧
     let w := (((s.bootBegin env).bootLife).bootKeys env).dramTrained env; let a : State := { w with cfg := w.cfg.trialStep };
     let p := a.cfg.prefBank; let x := a.tryBank p;
     let y := ({ x.1 with cfg := { x.1.cfg with fallback := true } } : State).tryBank (1 - p);
     let debug : Prop := s.sys.straps.bootSrc = 3 ∧ s.key.lc = .manufacture; s.key.lc ≠ .scrapped ∧ ¬ debug ∧ s.key.puf env =
     none) ∧
    (∃ (s : State) (env : BootEnv), s.closedOff = true ∧ env.pfwN = true ∧ s.sys.vauxThr < env.vaux ∧
     let w := (((s.bootBegin env).bootLife).bootKeys env).dramTrained env; let a : State := { w with cfg := w.cfg.trialStep };
     let p := a.cfg.prefBank; let x := a.tryBank p;
     let y := ({ x.1 with cfg := { x.1.cfg with fallback := true } } : State).tryBank (1 - p);
     let debug : Prop := s.sys.straps.bootSrc = 3 ∧ s.key.lc = .manufacture; s.key.lc ≠ .scrapped ∧ ¬ debug ∧ s.key.puf env ≠ none
     ∧ s.sys.straps.bootSrc = 1) ∧
    (∃ (s : State) (env : BootEnv) (r : Image × ImageContent), s.closedOff = true ∧ env.pfwN = true ∧ s.sys.vauxThr < env.vaux ∧
     let w := (((s.bootBegin env).bootLife).bootKeys env).dramTrained env; let a : State := { w with cfg := w.cfg.trialStep };
     let p := a.cfg.prefBank; let x := a.tryBank p;
     let y := ({ x.1 with cfg := { x.1.cfg with fallback := true } } : State).tryBank (1 - p);
     let debug : Prop := s.sys.straps.bootSrc = 3 ∧ s.key.lc = .manufacture; s.key.lc ≠ .scrapped ∧ ¬ debug ∧ s.key.puf env ≠ none
     ∧ s.sys.straps.bootSrc ≠ 1 ∧ x.2 = .ok r) ∧
    (∃ (s : State) (env : BootEnv) (e : Nat) (r : Image × ImageContent), s.closedOff = true ∧ env.pfwN = true ∧ s.sys.vauxThr <
     env.vaux ∧ let w := (((s.bootBegin env).bootLife).bootKeys env).dramTrained env;
     let a : State := { w with cfg := w.cfg.trialStep }; let p := a.cfg.prefBank; let x := a.tryBank p;
     let y := ({ x.1 with cfg := { x.1.cfg with fallback := true } } : State).tryBank (1 - p);
     let debug : Prop := s.sys.straps.bootSrc = 3 ∧ s.key.lc = .manufacture; s.key.lc ≠ .scrapped ∧ ¬ debug ∧ s.key.puf env ≠ none
     ∧ s.sys.straps.bootSrc ≠ 1 ∧ x.2 = .error e ∧ y.2 = .ok r) ∧
    (∃ (s : State) (env : BootEnv) (e : Nat) (e' : Nat), s.closedOff = true ∧ env.pfwN = true ∧ s.sys.vauxThr < env.vaux ∧
     let w := (((s.bootBegin env).bootLife).bootKeys env).dramTrained env; let a : State := { w with cfg := w.cfg.trialStep };
     let p := a.cfg.prefBank; let x := a.tryBank p;
     let y := ({ x.1 with cfg := { x.1.cfg with fallback := true } } : State).tryBank (1 - p);
     let debug : Prop := s.sys.straps.bootSrc = 3 ∧ s.key.lc = .manufacture; s.key.lc ≠ .scrapped ∧ ¬ debug ∧ s.key.puf env ≠ none
     ∧ s.sys.straps.bootSrc ≠ 1 ∧ x.2 = .error e ∧ y.2 = .error e') ∧
    (∃ (k : Cfg), k.trial = true ∧ k.triesLeft = 0) ∧
    (∃ (k : Cfg), k.trial = true ∧ k.triesLeft ≠ 0) ∧
    (∃ (k : Cfg), k.trial = false) ∧
    (∃ (s : State) (env : BootEnv) (img : Image) (c : ImageContent), let bad := (s.applyImage img c).testsFail env; bad = true) ∧
    (∃ (s : State) (env : BootEnv) (img : Image) (c : ImageContent), let bad := (s.applyImage img c).testsFail env; bad = false ∧
     env.loadFail = true) ∧
    (∃ (s : State) (env : BootEnv) (img : Image) (c : ImageContent), let bad := (s.applyImage img c).testsFail env; bad = false ∧
     env.loadFail = false ∧ env.sparFail = true) ∧
    (∃ (s : State) (env : BootEnv) (img : Image) (c : ImageContent), let bad := (s.applyImage img c).testsFail env; bad = false ∧
     env.loadFail = false ∧ env.sparFail = false) ∧
    (∃ (env : BootEnv), env.memFail = true) ∧
    (∃ (env : BootEnv), env.memFail = false ∧ env.badRows = []) ∧
    (∃ (s : State) (len : Nat), (s.sys.inReset = false ∨ s.sys.bootEnv = none ∨ len = 0 ∨ 4194304 < len)) ∧
    (∃ (s : State) (env : BootEnv) (len : Nat) (img : Image), s.sys.inReset = true ∧ s.sys.bootEnv = some env ∧ 1 ≤ len ∧ len ≤
     4194304 ∧ s.cfg.pcieGot = 0 ∧ (len < 256 ∨ (s.headerFail img.hdr).isSome = true)) ∧
    (∃ (s : State) (env : BootEnv) (len : Nat) (img : Image) (v : State) (i : Image), s.sys.inReset = true ∧ s.sys.bootEnv = some
     env ∧ 1 ≤ len ∧ len ≤ 4194304 ∧ ((s.cfg.pcieGot = 0 ∧ 256 ≤ len ∧ s.headerFail img.hdr = none ∧ i = img) ∨ (∃ j,
     s.cfg.pcieGot ≠ 0 ∧ s.cfg.pcieImg = some j ∧ (j = img → i = j) ∧ (j ≠ img → i = { j with bodyId := j.hdr.bodyDigest + 1 })))
     ∧ v = { s with cfg := { s.cfg with xferLen := len, own := false, pcieImg := some i, pcieGot := s.cfg.pcieGot + len } } ∧
     v.cfg.pcieGot < 256 + i.hdr.bodyLen) ∧
    (∃ (s : State) (env : BootEnv) (len : Nat) (img : Image) (v : State) (i : Image) (w : State) (c : ImageContent),
     s.sys.inReset = true ∧ s.sys.bootEnv = some env ∧ 1 ≤ len ∧ len ≤ 4194304 ∧ ((s.cfg.pcieGot = 0 ∧ 256 ≤ len ∧ s.headerFail
     img.hdr = none ∧ i = img) ∨ (∃ j, s.cfg.pcieGot ≠ 0 ∧ s.cfg.pcieImg = some j ∧ (j = img → i = j) ∧ (j ≠ img → i =
     { j with bodyId := j.hdr.bodyDigest + 1 }))) ∧ v =
     { s with cfg := { s.cfg with xferLen := len, own := false, pcieImg := some i, pcieGot := s.cfg.pcieGot + len } } ∧ 256 +
     i.hdr.bodyLen ≤ v.cfg.pcieGot ∧ w = { v with cfg := { v.cfg with pcieImg := none, pcieGot := 0 } } ∧ w.loadImage i = .ok c) ∧
    (∃ (s : State) (env : BootEnv) (len : Nat) (img : Image) (v : State) (i : Image) (w : State) (e : Nat), s.sys.inReset = true
     ∧ s.sys.bootEnv = some env ∧ 1 ≤ len ∧ len ≤ 4194304 ∧ ((s.cfg.pcieGot = 0 ∧ 256 ≤ len ∧ s.headerFail img.hdr = none ∧ i =
     img) ∨ (∃ j, s.cfg.pcieGot ≠ 0 ∧ s.cfg.pcieImg = some j ∧ (j = img → i = j) ∧ (j ≠ img → i =
     { j with bodyId := j.hdr.bodyDigest + 1 }))) ∧ v =
     { s with cfg := { s.cfg with xferLen := len, own := false, pcieImg := some i, pcieGot := s.cfg.pcieGot + len } } ∧ 256 +
     i.hdr.bodyLen ≤ v.cfg.pcieGot ∧ w = { v with cfg := { v.cfg with pcieImg := none, pcieGot := 0 } } ∧ w.loadImage i = .error
     e) ∧
    (∃ (s : State), s.sys.inReset = false ∧ s.nextRecord.isSome = true ∧ s.asks .mramBulk = false ∧ s.holds .mramBulk = false) ∧
    (∃ (s : State), (s.sys.inReset = true ∨ s.nextRecord = none ∨ s.asks .mramBulk = true ∨ s.holds .mramBulk = true)) :=
  ⟨⟨live, {}, false, by decide +kernel⟩,
   ⟨{ State.reset with key.lc := .scrapped }, {}, by decide +kernel⟩,
   ⟨{ fresh with key.helperA := true, key.helperB := true }, { pufA := 25, pufB := 25 }, by decide +kernel⟩,
   ⟨{ State.reset with sys.straps.bootSrc := 1 }, {}, by decide +kernel⟩,
   ⟨{ fresh with key.helperA := true }, {}, (goodImage, effective goodImage), by decide +kernel, by decide +kernel,
     by decide +kernel, together4 (by decide +kernel) (by rfl)⟩,
   ⟨{ fresh with key.helperA := true, cfg.banks := [(1, { pieces := [{ off := 0, len := 256 + 256 * 30, img := goodImage }] })] },
     {}, 5, (goodImage, effective goodImage), by decide +kernel, by decide +kernel, by decide +kernel, together4
     (by decide +kernel) ⟨by rfl, by rfl⟩⟩,
   ⟨{ fresh with key.helperA := true, cfg.banks := [] }, {}, 5, 5, by decide +kernel, by decide +kernel, by decide +kernel,
     together4 (by decide +kernel) ⟨by rfl, by rfl⟩⟩,
   ⟨{ trial := true }, by decide +kernel⟩,
   ⟨{ trial := true, triesLeft := 3 }, by decide +kernel⟩,
   ⟨{}, by decide +kernel⟩,
   ⟨live, { badRows := (List.range 9).map (fun i => (0, i)) }, {}, {}, by decide +kernel⟩,
   ⟨live, { badRows := (List.range 8).map (fun i => (0, i)), loadFail := true }, {}, {}, by decide +kernel⟩,
   ⟨live, { sparFail := true }, {}, {}, by decide +kernel⟩,
   ⟨live, {}, {}, {}, by decide +kernel⟩,
   ⟨{ memFail := true }, by decide +kernel⟩,
   ⟨{}, by decide +kernel⟩,
   ⟨live, 0, by decide +kernel⟩,
   ⟨{ live with sys.inReset := true, sys.bootEnv := some ({}), cfg.pcieGot := 0 }, {}, 255, {}, by decide +kernel⟩,
   ⟨{ flashed with sys.inReset := true, sys.bootEnv := some {} }, {}, 7935, goodImage,
     { flashed with sys.inReset := true, sys.bootEnv := some {}, cfg.xferLen := 7935, cfg.pcieImg := some goodImage, cfg.pcieGot := 7935 },
     goodImage, together4 (by decide +kernel) ⟨.inl (by decide +kernel), by decide +kernel⟩⟩,
   ⟨{ flashed with sys.inReset := true, sys.bootEnv := some {} }, {}, 7936, goodImage,
     { flashed with sys.inReset := true, sys.bootEnv := some {}, cfg.xferLen := 7936, cfg.pcieImg := some goodImage, cfg.pcieGot := 7936 },
     goodImage, { flashed with sys.inReset := true, sys.bootEnv := some {}, cfg.xferLen := 7936 }, effective goodImage,
     together4 (by decide +kernel) ⟨.inl (by decide +kernel), by decide +kernel, by decide +kernel, by decide +kernel, by
     rfl⟩⟩,
   ⟨{ flashed with sys.inReset := true, sys.bootEnv := some {}, cfg.pcieGot := 7935, cfg.pcieImg := some goodImage }, {},
     1, {},
     { flashed with sys.inReset := true, sys.bootEnv := some {}, cfg.xferLen := 1, cfg.pcieImg := some { goodImage with bodyId := goodImage.hdr.bodyDigest + 1 }, cfg.pcieGot := 7936 },
     { goodImage with bodyId := goodImage.hdr.bodyDigest + 1 },
     { flashed with sys.inReset := true, sys.bootEnv := some {}, cfg.xferLen := 1 }, 6, together4 (by decide +kernel) ⟨.inr
     ⟨goodImage, by decide +kernel⟩, by decide +kernel, by decide +kernel, by decide +kernel, by rfl⟩⟩,
   ⟨{ live with img.formats := [(0x10, { low := 1, high := 2 })], cfg.storedVer := [(0x10, 1)], img.migStepsV := [(0x10, 1)] },
     by decide +kernel⟩,
   ⟨{ live with sys.inReset := true }, by decide +kernel⟩⟩

theorem witness_PermitsAreAskedAndExpire :
    (∃ (s : State) (c : Cmd) (power : Nat) (dur : Nat) (prio : Nat) (wait : Nat), s.ready c 0x0001 ∧ 1 ≤ power ∧ power ≤ 65535 ∧
     dur ≤ 60000 ∧ 4 ≤ prio ∧ prio ≤ 7 ∧ wait ≤ 10000 ∧ power ≤ s.permits.budget ∧ s.sys.pfail = false) ∧
    (∃ (s : State) (c : Cmd) (power : Nat) (dur : Nat) (prio : Nat) (wait : Nat), s.ready c 0x0001 ∧ 1 ≤ power ∧ power ≤ 65535 ∧
     dur ≤ 60000 ∧ 4 ≤ prio ∧ prio ≤ 7 ∧ wait ≤ 10000 ∧ power ≤ s.permits.budget ∧ s.sys.pfail = true) ∧
    (∃ (s : State) (c : Cmd) (power : Nat) (dur : Nat) (prio : Nat) (wait : Nat), s.ready c 0x0001 ∧ (power = 0 ∨ 65535 < power ∨
     60000 < dur ∨ prio < 4 ∨ 7 < prio ∨ 10000 < wait ∨ s.permits.budget < power)) ∧
    (∃ (s : State) (c : Cmd) (h : Nat), s.ready c 0x0002 ∧ s.holds (.held h) = true) ∧
    (∃ (s : State) (c : Cmd) (h : Nat), s.ready c 0x0002 ∧ s.holds (.held h) = false) ∧
    (∃ (s : State) (id : Nat) (r : PReq), s.permits.waiting.find? (fun x => x.id = id) = some r) ∧
    (∃ (s : State) (id : Nat), s.permits.waiting.find? (fun x => x.id = id) = none) ∧
    (∃ (s : State) (id : Nat) (g : Grant), s.permits.grants.find? (fun x => decide (x.id = id) && !x.standing) = some g ∧ (∀ ch,
     g.owner ≠ .inrush ch ∧ g.owner ≠ .retry ch)) ∧
    (∃ (s : State) (id : Nat) (g : Grant) (ch : Nat), s.permits.grants.find? (fun x => decide (x.id = id) && !x.standing) = some
     g ∧ (g.owner = .inrush ch ∨ g.owner = .retry ch) ∧ (s.chan ch).st = .inrush) ∧
    (∃ (s : State) (id : Nat), (∀ g ∈ s.permits.grants, g.id = id → g.standing = true)) :=
  ⟨⟨live, {}, 2000, 60000, 7, 10000, ready_of (by decide +kernel), by decide +kernel⟩,
   ⟨{ live with sys.pfail := true }, {}, 2000, 60000, 7, 10000, ready_of (by decide +kernel), by decide +kernel⟩,
   ⟨live, {}, 0, 0, 0, 0, ready_of (by decide +kernel), by decide +kernel⟩,
   ⟨{ live with permits.grants := [{ id := 3, owner := .held 3, power := 5 }] }, {}, 3, ready_of (by decide +kernel),
     by decide +kernel⟩,
   ⟨live, {}, 0, ready_of (by decide +kernel), by decide +kernel⟩,
   ⟨{ live with permits.waiting := [{ id := 3 }] }, 3, { id := 3 }, by decide +kernel⟩,
   ⟨live, 0, by decide +kernel⟩,
   ⟨{ live with permits.grants := [{ id := 3 }] }, 3, { id := 3 }, by decide +kernel, fun _ => ⟨nofun, nofun⟩⟩,
   ⟨({ live with permits.grants := [{ id := 3, owner := .inrush 0 }] } |>.modChan 0 (fun x => { x with st := .inrush })),
     3, { id := 3, owner := .inrush 0 }, 0, by decide +kernel⟩,
   ⟨live, 0, by decide +kernel⟩⟩

theorem witness_PermitsAreGrantedInOrder :
    (∃ (s : State) (r : PReq), s.grantable = some r) ∧
    (∃ (s : State) (r : PReq), s.sys.pfail = false ∧ r ∈ s.permits.waiting ∧ s.presentable r = true ∧ (∀ x ∈ s.permits.waiting,
     s.presentable x = true → x ≠ r → r.prio < x.prio ∨ (x.prio = r.prio ∧ r.arrival < x.arrival))) :=
  ⟨⟨{ live with permits.waiting := [{ id := 3, power := 1000 }] }, { id := 3, power := 1000 }, by decide +kernel⟩,
   ⟨{ live with permits.waiting := [{ id := 4, power := 5, prio := 1, arrival := 3 }, { id := 3, power := 500, prio := 1, arrival := 2 }, { id := 5, power := 5, prio := 2 }] },
     { id := 3, power := 500, prio := 1, arrival := 2 }, by decide +kernel⟩⟩

theorem witness_PowerStatesChange :
    (∃ (s : State) (c : Cmd), s.ready c 0x0003 ∧ s.awake = true ∧ s.noSleep = false) ∧
    (∃ (s : State), s.saf.spar = .run) ∧
    (∃ (s : State) (c : Cmd), s.ready c 0x0003 ∧ (s.noSleep = true ∨ s.awake = false)) ∧
    (∃ (s : State) (c : Cmd), s.ready c 0x0004 ∧ s.awake = true) ∧
    (∃ (s : State) (c : Cmd) (target : Nat), s.ready c 0x0004 ∧ target ≠ 3 ∧ target ≠ 4) ∧
    (∃ (s : State) (c : Cmd) (target : Nat), s.ready c 0x0004 ∧ (target = 3 ∨ target = 4) ∧ s.awake = false) ∧
    (∃ (s : State) (c : Cmd), s.ready c 0x0005 ∧ s.contactorClosed = false ∧ s.anyContext = false) ∧
    (∃ (s : State) (c : Cmd), s.ready c 0x0005 ∧ (s.contactorClosed = true ∨ s.anyContext = true)) ∧
    (∃ (s : State) (src : Nat) (bay : Nat), s.sys.inReset = false ∧ s.sys.pstate = .idleSite ∧ src < 10 ∧
     s.img.struct_.wakeKeep.getLsbD src = true ∧ s.sys.wakeEn.getLsbD src = true ∧ (src = 0 → (s.cBay bay).enabled = true) ∧ (src
     = 7 → s.sys.wakeTimer ≠ 0)) ∧
    (∃ (s : State) (src : Nat) (bay : Nat), (s.canWake src bay = false ∨ (src = 7 ∧ s.sys.wakeTimer = 0))) ∧
    (∃ (s : State) (v : Word), v.getLsbD 0 = true ∧ s.sys.inReset = false ∧ s.sys.pstate = .idleSite ∧
     s.img.struct_.wakeKeep.getLsbD 9 = true ∧ s.sys.wakeEn.getLsbD 9 = true) ∧
    (∃ (s : State) (v : Word), (v.getLsbD 0 = false ∨ s.canWake 9 0 = false)) :=
  ⟨⟨live, {}, ready_of (by decide +kernel), by decide +kernel⟩,
   ⟨live, by decide +kernel⟩,
   ⟨{ live with crs.st := .slice }, {}, ready_of (by decide +kernel), by decide +kernel⟩,
   ⟨live, {}, ready_of (by decide +kernel), by decide +kernel⟩,
   ⟨live, {}, 0, ready_of (by decide +kernel), by decide +kernel⟩,
   ⟨({ live with sys.pstate := .idleSite } : State), {}, 3, ready_of (by decide +kernel), by decide +kernel⟩,
   ⟨live, {}, ready_of (by decide +kernel), by decide +kernel⟩,
   ⟨bridged, {}, ready_of (by decide +kernel), by decide +kernel⟩,
   ⟨{ live with sys.pstate := .idleSite, sys.wakeEn := 0x3FF }, 9, 0, by decide +kernel⟩,
   ⟨live, 0, 0, by decide +kernel⟩,
   ⟨{ live with sys.pstate := .idleSite }, 1, by decide +kernel⟩,
   ⟨live, 0, by decide +kernel⟩⟩

theorem witness_CfgCommandsComplete :
    (∃ (i : Instr) (c : Cmd) (op : Nat) (s : State), i.posted = some (c, op) ∧ op / 256 = 1 ∧ s.ready c op ∧ (s.key.lc ≠ .field ∧
     s.key.lc ≠ .service)) ∧
    (∃ (i : Instr) (c : Cmd) (op : Nat) (s : State), i.posted = some (c, op) ∧ op / 256 = 1 ∧ s.ready c op ∧ (s.key.lc = .field ∨
     s.key.lc = .service) ∧ s.sys.pfail = true) ∧
    (∃ (s : State) (c : Cmd) (bank : Nat), (s.key.lc = .field ∨ s.key.lc = .service) ∧ s.sys.pfail = false ∧ 1 < bank ∧ s.ready c
     0x0101) ∧
    (∃ (s : State) (c : Cmd) (bank : Nat), (s.key.lc = .field ∨ s.key.lc = .service) ∧ s.sys.pfail = false ∧ 1 < bank ∧ s.ready c
     0x0102) ∧
    (∃ (s : State) (c : Cmd) (bank : Nat), (s.key.lc = .field ∨ s.key.lc = .service) ∧ s.sys.pfail = false ∧ 1 < bank ∧ s.ready c
     0x0103) ∧
    (∃ (s : State) (c : Cmd) (bank : Nat), (s.key.lc = .field ∨ s.key.lc = .service) ∧ s.sys.pfail = false ∧ 1 < bank ∧ s.ready c
     0x0104) ∧
    (∃ (s : State) (c : Cmd) (bank : Nat), (s.key.lc = .field ∨ s.key.lc = .service) ∧ s.sys.pfail = false ∧ s.ready c 0x0101 ∧
     bank ≤ 1 ∧ s.bankRuns bank = false ∧ s.cfg.trial = false) ∧
    (∃ (s : State) (c : Cmd) (bank : Nat) (off : Nat) (len : Nat), (s.key.lc = .field ∨ s.key.lc = .service) ∧ s.sys.pfail =
     false ∧ s.ready c 0x0102 ∧ bank ≤ 1 ∧ s.bankRuns bank = false ∧ s.cfg.trial = false ∧ 1 ≤ len ∧ len ≤ 65536 ∧ off % 4096 = 0
     ∧ off + len ≤ 64 * 1024 * 1024) ∧
    (∃ (s : State) (c : Cmd) (bank : Nat) (off : Nat) (len : Nat), (s.key.lc = .field ∨ s.key.lc = .service) ∧ s.sys.pfail =
     false ∧ s.ready c 0x0102 ∧ bank ≤ 1 ∧ s.bankRuns bank = false ∧ s.cfg.trial = false ∧ (len = 0 ∨ 65536 < len ∨ off % 4096 ≠ 0
     ∨ 64 * 1024 * 1024 < off + len)) ∧
    (∃ (s : State) (c : Cmd) (bank : Nat), (s.key.lc = .field ∨ s.key.lc = .service) ∧ s.sys.pfail = false ∧ s.ready c 0x0103 ∧
     bank ≤ 1 ∧ s.bankRuns bank = true) ∧
    (∃ (s : State) (c : Cmd) (bank : Nat) (h : ImageHeader), (s.key.lc = .field ∨ s.key.lc = .service) ∧ s.sys.pfail = false ∧
     s.ready c 0x0103 ∧ bank ≤ 1 ∧ s.bankRuns bank = false ∧ s.verifyBank bank = none ∧ (s.bank bank).image.hdr = h) ∧
    (∃ (s : State) (c : Cmd) (bank : Nat) (e : Status) (d : Nat), (s.key.lc = .field ∨ s.key.lc = .service) ∧ s.sys.pfail = false
     ∧ s.ready c 0x0103 ∧ bank ≤ 1 ∧ s.bankRuns bank = false ∧ s.verifyBank bank = some (e, d)) ∧
    (∃ (s : State) (c : Cmd) (bank : Nat), (s.key.lc = .field ∨ s.key.lc = .service) ∧ s.sys.pfail = false ∧ s.ready c 0x0104 ∧
     bank ≤ 1 ∧ (s.bank bank).verified = true) ∧
    (∃ (s : State) (c : Cmd), (s.key.lc = .field ∨ s.key.lc = .service) ∧ s.sys.pfail = false ∧ s.ready c 0x0105 ∧ s.cfg.runTrial
     = true ∧ s.cfg.migPending = false) ∧
    (∃ (s : State) (c : Cmd), (s.key.lc = .field ∨ s.key.lc = .service) ∧ s.sys.pfail = false ∧ s.ready c 0x0106 ∧ s.cfg.trial =
     true ∧ s.verifyBank (1 - s.cfg.prefBank) = none) ∧
    (∃ (s : State) (c : Cmd) (e : Status) (d : Nat), (s.key.lc = .field ∨ s.key.lc = .service) ∧ s.sys.pfail = false ∧ s.ready c
     0x0106 ∧ s.cfg.trial = true ∧ s.verifyBank (1 - s.cfg.prefBank) = some (e, d)) ∧
    (∃ (s : State) (c : Cmd) (m : KeyMsg) (e : Status), (s.key.lc = .field ∨ s.key.lc = .service) ∧ s.sys.pfail = false ∧ s.ready
     c 0x0107 ∧ s.cfg.reverify = true ∧ s.cfg.trial = false ∧ s.checkMsg m [16] [.field, .service] = some e) ∧
    (∃ (s : State) (c : Cmd) (m : KeyMsg), (s.key.lc = .field ∨ s.key.lc = .service) ∧ s.sys.pfail = false ∧ s.ready c 0x0107 ∧
     s.cfg.reverify = true ∧ s.cfg.trial = false ∧ s.checkMsg m [16] [.field, .service] = none ∧ m.digest ≠ s.metroDigest) ∧
    (∃ (s : State) (c : Cmd) (m : KeyMsg), (s.key.lc = .field ∨ s.key.lc = .service) ∧ s.sys.pfail = false ∧ s.ready c 0x0107 ∧
     s.cfg.reverify = true ∧ s.cfg.trial = false ∧ s.checkMsg m [16] [.field, .service] = none ∧ m.digest = s.metroDigest ∧
     s.changeFull = true) ∧
    (∃ (s : State) (c : Cmd) (m : KeyMsg), (s.key.lc = .field ∨ s.key.lc = .service) ∧ s.sys.pfail = false ∧ s.ready c 0x0107 ∧
     s.cfg.reverify = true ∧ s.cfg.trial = false ∧ s.checkMsg m [16] [.field, .service] = none ∧ m.digest = s.metroDigest ∧
     s.changeFull = false) ∧
    (∃ (s : State) (c : Cmd) (bank : Nat), (s.key.lc = .field ∨ s.key.lc = .service) ∧ s.sys.pfail = false ∧ s.ready c 0x0101 ∧
     bank ≤ 1 ∧ (s.bankRuns bank = true ∨ s.cfg.trial = true)) ∧
    (∃ (s : State) (c : Cmd) (bank : Nat), (s.key.lc = .field ∨ s.key.lc = .service) ∧ s.sys.pfail = false ∧ s.ready c 0x0102 ∧
     bank ≤ 1 ∧ (s.bankRuns bank = true ∨ s.cfg.trial = true)) ∧
    (∃ (s : State) (c : Cmd) (bank : Nat), (s.key.lc = .field ∨ s.key.lc = .service) ∧ s.sys.pfail = false ∧ s.ready c 0x0104 ∧
     bank ≤ 1 ∧ (s.bank bank).verified = false) ∧
    (∃ (s : State) (c : Cmd), (s.key.lc = .field ∨ s.key.lc = .service) ∧ s.sys.pfail = false ∧ s.ready c 0x0105 ∧
     (s.cfg.runTrial = false ∨ s.cfg.migPending = true)) ∧
    (∃ (s : State) (c : Cmd), (s.key.lc = .field ∨ s.key.lc = .service) ∧ s.sys.pfail = false ∧ s.ready c 0x0106 ∧ s.cfg.trial =
     false) ∧
    (∃ (s : State) (c : Cmd), (s.key.lc = .field ∨ s.key.lc = .service) ∧ s.sys.pfail = false ∧ s.ready c 0x0107 ∧
     (s.cfg.reverify = false ∨ s.cfg.trial = true)) ∧
    (∃ (s : State), s.changeFull = false) :=
  ⟨⟨.cfgConfirm {}, {}, 0x0105, { live with key.lc := .personalised }, rfl, by decide +kernel, ready_of
     (by decide +kernel), by decide +kernel⟩,
   ⟨.cfgConfirm {}, {}, 0x0105, { live with sys.pfail := true }, rfl, by decide +kernel, ready_of (by decide +kernel),
     by decide +kernel⟩,
   ⟨live, {}, 2, by decide +kernel, by decide +kernel, by decide +kernel, ready_of (by decide +kernel)⟩,
   ⟨live, {}, 2, by decide +kernel, by decide +kernel, by decide +kernel, ready_of (by decide +kernel)⟩,
   ⟨live, {}, 2, by decide +kernel, by decide +kernel, by decide +kernel, ready_of (by decide +kernel)⟩,
   ⟨live, {}, 2, by decide +kernel, by decide +kernel, by decide +kernel, ready_of (by decide +kernel)⟩,
   ⟨live, {}, 1, by decide +kernel, by decide +kernel, ready_of (by decide +kernel), by decide +kernel⟩,
   ⟨live, {}, 1, 0, 65536, by decide +kernel, by decide +kernel, ready_of (by decide +kernel), by decide +kernel⟩,
   ⟨live, {}, 1, 0, 0, by decide +kernel, by decide +kernel, ready_of (by decide +kernel), by decide +kernel⟩,
   ⟨{ live with cfg.runBank := 1 }, {}, 1, by decide +kernel, by decide +kernel, ready_of (by decide +kernel),
     by decide +kernel⟩,
   ⟨flashed, {}, 1, goodImage.hdr, by decide +kernel, by decide +kernel, ready_of (by decide +kernel), by decide +kernel⟩,
   ⟨live, {}, 1, .range, 1, by decide +kernel, by decide +kernel, ready_of (by decide +kernel), by decide +kernel⟩,
   ⟨(live |>.modBank 1 (fun x => { x with verified := true })), {}, 1, by decide +kernel, by decide +kernel, ready_of
     (by decide +kernel), by decide +kernel⟩,
   ⟨{ live with cfg.runTrial := true }, {}, by decide +kernel, by decide +kernel, ready_of (by decide +kernel),
     by decide +kernel⟩,
   ⟨{ flashed with cfg.trial := true }, {}, by decide +kernel, by decide +kernel, ready_of (by decide +kernel),
     by decide +kernel⟩,
   ⟨{ live with cfg.trial := true }, {}, .range, 1, by decide +kernel, by decide +kernel, ready_of (by decide +kernel),
     by decide +kernel⟩,
   ⟨{ flashed with cfg.reverify := true }, {}, { kind := 16, auth := 1, devId := 77, ctr := 1, signer := 0 }, .auth,
     by decide +kernel, by decide +kernel, ready_of (by decide +kernel), by decide +kernel⟩,
   ⟨{ flashed with cfg.reverify := true }, {}, { kind := 16, auth := 1, devId := 77, ctr := 1, signer := 51, digest := 1 },
     by decide +kernel, by decide +kernel, ready_of (by decide +kernel), by decide +kernel⟩,
   ⟨{ flashed with cfg.reverify := true, blz.last := 1984 }, {},
     { kind := 16, auth := 1, devId := 77, ctr := 1, signer := 51 }, by decide +kernel, by decide +kernel, ready_of
     (by decide +kernel), by decide +kernel⟩,
   ⟨{ flashed with cfg.reverify := true }, {}, { kind := 16, auth := 1, devId := 77, ctr := 1, signer := 51 },
     by decide +kernel, by decide +kernel, ready_of (by decide +kernel), by decide +kernel⟩,
   ⟨{ live with cfg.trial := true }, {}, 1, by decide +kernel, by decide +kernel, ready_of (by decide +kernel),
     by decide +kernel⟩,
   ⟨{ live with cfg.trial := true }, {}, 1, by decide +kernel, by decide +kernel, ready_of (by decide +kernel),
     by decide +kernel⟩,
   ⟨live, {}, 1, by decide +kernel, by decide +kernel, ready_of (by decide +kernel), by decide +kernel⟩,
   ⟨live, {}, by decide +kernel, by decide +kernel, ready_of (by decide +kernel), by decide +kernel⟩,
   ⟨live, {}, by decide +kernel, by decide +kernel, ready_of (by decide +kernel), by decide +kernel⟩,
   ⟨live, {}, by decide +kernel, by decide +kernel, ready_of (by decide +kernel), by decide +kernel⟩,
   ⟨live, by decide +kernel⟩⟩

theorem witness_PointUpdateChecksInOrder :
    (∃ (v : PtVal) (t : Stamp), (v.qual ≠ .uninit ∧ t.toNs ≤ v.stamp.toNs)) ∧
    (∃ (v : PtVal) (t : Stamp), (¬ (v.qual ≠ .uninit ∧ t.toNs ≤ v.stamp.toNs))) ∧
    (∃ (v : PtVal) (t : Stamp) (bad : Bool), (¬ (v.qual ≠ .uninit ∧ t.toNs ≤ v.stamp.toNs)) ∧ bad = true) ∧
    (∃ (c : PtCfg) (v : PtVal) (x : DWord) (t : Stamp) (bad : Bool), (¬ (v.qual ≠ .uninit ∧ t.toNs ≤ v.stamp.toNs)) ∧ bad = false
     ∧ outOfRange c x = true) ∧
    (∃ (c : PtCfg) (v : PtVal) (x : DWord) (t : Stamp) (bad : Bool), (¬ (v.qual ≠ .uninit ∧ t.toNs ≤ v.stamp.toNs)) ∧ bad = false
     ∧ outOfRange c x = false ∧ tooFast c v x t = true) ∧
    (∃ (c : PtCfg) (v : PtVal) (x : DWord) (t : Stamp) (bad : Bool), (¬ (v.qual ≠ .uninit ∧ t.toNs ≤ v.stamp.toNs)) ∧ bad = false
     ∧ outOfRange c x = false ∧ tooFast c v x t = false ∧ (¬ (c.filter = 1 ∧ c.typ = .float64 ∧ v.qual = .good))) ∧
    (∃ (c : PtCfg) (v : PtVal) (x : DWord) (t : Stamp) (bad : Bool), (¬ (v.qual ≠ .uninit ∧ t.toNs ≤ v.stamp.toNs)) ∧ bad = false
     ∧ outOfRange c x = false ∧ tooFast c v x t = false ∧ c.filter = 1 ∧ c.typ = .float64 ∧ v.qual = .good) :=
  ⟨⟨{ qual := .good }, {}, by decide +kernel⟩,
   ⟨{}, {}, by decide +kernel⟩,
   ⟨{}, {}, true, by decide +kernel⟩,
   ⟨{ typ := .int64 }, {}, 1, {}, false, by decide +kernel⟩,
   ⟨{ typ := .float64, max := 0x4000000000000000, rate := 0x3F800000 }, { qual := .good }, 0x4000000000000000, { ns := 1 },
     false, by decide +kernel⟩,
   ⟨{}, {}, 0, {}, false, by decide +kernel⟩,
   ⟨{ typ := .float64, filter := 1, max := 0x4000000000000000 }, { qual := .good }, 0x4000000000000000, { ns := 1 }, false,
     by decide +kernel⟩⟩

theorem witness_StandTableEventsAct :
    (∃ (s : State) (pt : Nat) (raw : DWord) (t : Stamp) (bad : Bool), s.sys.inReset = false ∧ pt < s.lnd.points ∧ (ptStep
     (s.point pt).cfg (s.point pt).val raw t bad).2 = false) ∧
    (∃ (s : State) (pt : Nat), s.sys.inReset = false ∧ pt < s.lnd.points ∧ (s.point pt).cfg.pub = 0 ∧ s.img.metro.demandImp =
     none ∧ s.img.metro.demandExp = none) ∧
    (∃ (s : State) (pt : Nat) (t : Stamp), s.sys.inReset = false ∧ pt < s.lnd.points ∧ (s.point pt).val.qual ≠ .uninit ∧ t.toNs ≤
     (s.point pt).val.stamp.toNs) ∧
    (∃ (s : State) (pt : Nat), s.sys.inReset = false ∧ s.lnd.points ≤ pt) ∧
    (∃ (s : State), s.sys.inReset = false) ∧
    (∃ (s : State), s.sys.inReset = false) ∧
    (∃ (s : State) (pt : Nat), s.sys.inReset = false ∧ (s.point pt).dirty = true) ∧
    (∃ (s : State) (pt : Nat), s.sys.inReset = false ∧ (s.point pt).dirty = false) ∧
    (∃ (s : State) (pt : Nat), s.sys.inReset = false ∧ pt < s.lnd.points ∧ pt < 2 ^ 20 ∧ 2 ≤ (s.point pt).cfg.pub) ∧
    (∃ (s : State) (gid : Nat), s.sys.inReset = false ∧ s.isLocal gid = false ∧ s.ringTalks = true ∧ s.shadowed gid = true) ∧
    (∃ (s : State) (dev : Nat) (bay : Nat), s.sys.inReset = false ∧ s.awake = true ∧ s.activeMaster = true ∧ s.hubRole = true ∧
     s.ringTalks = true ∧ dev ≠ s.img.struct_.devNum ∧ dev < 8 ∧ bay < 8 ∧ s.img.metro.demandImp = none) ∧
    (∃ (s : State), s.awake = true) ∧
    (∃ (s : State), s.awake = true) ∧
    (∃ (s : State) (m : Medium) (errs : Nat), s.awake = true ∧ ((m = .mram ∧ errs = 1) ∨ (m = .dram ∧ 1 ≤ errs ∧ errs ≤ 2))) ∧
    (∃ (s : State) (a : Nat) (errs : Nat) (w : Bool), s.awake = true ∧ 0x800000 ≤ a ∧ a < 0xC00000 ∧ ((2 ≤ errs ∧ errs ≤ 3) ∨ w =
     true)) ∧
    (∃ (s : State) (m : Medium) (errs : Nat) (w : Bool), s.awake = true ∧ ((m = .mram ∧ 2 ≤ errs ∧ errs ≤ 3) ∨ ((m = .mram ∨ m =
     .dram) ∧ w = true))) :=
  ⟨⟨live, 0, 0, {}, false, by decide +kernel⟩,
   ⟨(live |>.modPoint 0 (fun x => { x with cfg.pub := 0 })), 0, by decide +kernel⟩,
   ⟨(live |>.modPoint 0 (fun x => { x with val := { qual := .good } })), 0, {}, by decide +kernel⟩,
   ⟨live, 16, by decide +kernel⟩,
   ⟨live, by decide +kernel⟩,
   ⟨live, by decide +kernel⟩,
   ⟨(live |>.modPoint 0 (fun x => { x with dirty := true })), 0, by decide +kernel⟩,
   ⟨live, 0, by decide +kernel⟩,
   ⟨(live |>.modPoint 15 (fun x => { x with cfg.pub := 2 })), 15, by decide +kernel⟩,
   ⟨{ live with img.stack.present := true, net.ring := .up, lnd.subs := [(0, { used := true, first := 0x100000, last := 0x100000 })] },
     0x100000, by decide +kernel⟩,
   ⟨{ live with img.stack.present := true, net.ring := .up, sys.straps.boomMstr := true, img.struct_.role := .hub }, 7, 7,
     by decide +kernel⟩,
   ⟨live, by decide +kernel⟩,
   ⟨live, by decide +kernel⟩,
   ⟨live, .mram, 1, by decide +kernel⟩,
   ⟨live, 12582911, 3, false, by decide +kernel⟩,
   ⟨live, .mram, 3, false, by decide +kernel⟩⟩

theorem witness_LndCommandsComplete :
    (∃ (s : State) (c : Cmd) (remote : Tab RemotePt) (list : Nat) (ids : List Nat) (dst : Nat), s.ready c 0x0201 ∧ 1 ≤ ids.length
     ∧ ids.length ≤ 4096 ∧ inGeneral list (4 * ids.length) = true ∧ dstOk dst (64 * ids.length) = true ∧ s.poisoned list (4 *
     ids.length) = false ∧ (∀ g ∈ ids, s.readBad remote g = false ∧ s.entryLost g = false)) ∧
    (∃ (s : State) (c : Cmd) (remote : Tab RemotePt) (pairs : List (Nat × DWord)), s.ready c 0x0202 ∧ 1 ≤ pairs.length ∧
     pairs.length ≤ 4 ∧ pairs.findSome? (fun p => s.writeCheck remote p.1) = none) ∧
    (∃ (s : State) (c : Cmd) (remote : Tab RemotePt) (pairs : List (Nat × DWord)) (e : Status), s.ready c 0x0202 ∧ 1 ≤
     pairs.length ∧ pairs.length ≤ 4 ∧ pairs.findSome? (fun p => s.writeCheck remote p.1) = some e) ∧
    (∃ (s : State) (c : Cmd) (op : PtCfgOp), s.ready c 0x0203 ∧ gidOk op.point = true ∧ op.mask ≠ 0 ∧ s.isLocal op.point = true ∧
     localPt op.point < s.lnd.points ∧ (s.point (localPt op.point)).cfg.safetyPt = false ∧ ptCfgOk (cfgAfter (s.point (localPt
     op.point)).cfg op) = true) ∧
    (∃ (s : State) (c : Cmd) (op : PtCfgOp), s.ready c 0x0203 ∧ gidOk op.point = true ∧ op.mask ≠ 0 ∧ s.isLocal op.point = true ∧
     localPt op.point < s.lnd.points ∧ (s.point (localPt op.point)).cfg.safetyPt = true) ∧
    (∃ (s : State) (c : Cmd) (remote : Tab RemotePt) (op : PtCfgOp) (r : RemotePt), s.ready c 0x0203 ∧ gidOk op.point = true ∧
     op.mask ≠ 0 ∧ s.isLocal op.point = false ∧ ownerOf remote op.point = some r ∧ r.known = true ∧ r.cfg.safetyPt = false ∧
     ptCfgOk (cfgAfter r.cfg op) = true) ∧
    (∃ (s : State) (c : Cmd) (first : Nat) (last : Nat) (off : Nat) (len : Nat) (h : Nat), s.ready c 0x0204 ∧ gidOk last = true ∧
     first ≤ last ∧ (s.isLocal last = true → localPt last < s.lnd.points) ∧ 64 ≤ len ∧ len % 64 = 0 ∧ dstOk off len = true ∧
     (List.range 16).find? (fun h => !(s.sub h).used) = some h) ∧
    (∃ (s : State) (first : Nat) (last : Nat) (n : Nat), n < s.lnd.points ∧ first ≤ s.globalId n ∧ s.globalId n ≤ last) ∧
    (∃ (s : State) (c : Cmd) (h : Nat), s.ready c 0x0205 ∧ h ≤ 15 ∧ (s.sub h).used = true) ∧
    (∃ (s : State) (c : Cmd) (h : Nat), s.ready c 0x0205 ∧ (15 < h ∨ (s.sub h).used = false)) :=
  ⟨⟨live, {}, [], 0x800000, [15], 0x800000, ready_of (by decide +kernel), by decide +kernel⟩,
   ⟨(live |>.modPoint 15 (fun x => { x with cfg.srcKind := 4 })), {}, [], [(15, 0)], ready_of (by decide +kernel),
     by decide +kernel⟩,
   ⟨live, {}, [], [(16, 0)], .range, ready_of (by decide +kernel), by decide +kernel⟩,
   ⟨live, {}, { point := 15, mask := 0x80 }, ready_of (by decide +kernel), by decide +kernel⟩,
   ⟨(live |>.modPoint 15 (fun x => { x with cfg.safetyPt := true })), {}, { point := 15, mask := 0x80 }, ready_of
     (by decide +kernel), by decide +kernel⟩,
   ⟨live, {}, [(0x100000, {})], { point := 0x100000, mask := 0x80 }, {}, ready_of (by decide +kernel), by decide +kernel⟩,
   ⟨live, {}, 15, 15, 0x800000, 64, 0, ready_of (by decide +kernel), by decide +kernel⟩,
   ⟨live, 0, 0, 0, by decide +kernel⟩,
   ⟨(live |>.modSub 15 (fun x => { x with used := true })), {}, 15, ready_of (by decide +kernel), by decide +kernel⟩,
   ⟨live, {}, 16, ready_of (by decide +kernel), by decide +kernel⟩⟩

theorem witness_RingsAndApiAct :
    (∃ (s : State) (q : Nat) (v : Word), s.closedOff = false ∧ q < 42 ∧ (s.queue q).en = true ∧ (s.queue q).disabling = false ∧
     ((s.queue q).pi + 65536 - (s.queue q).ci) % 65536 ≤ (v.toNat % 65536 + 65536 - (s.queue q).ci) % 65536 ∧ (v.toNat % 65536 +
     65536 - (s.queue q).ci) % 65536 ≤ 2 ^ (s.queue q).log2) ∧
    (∃ (s : State) (q : Nat) (v : Word), s.closedOff = false ∧ q < 42 ∧ (s.queue q).en = true ∧ (s.queue q).disabling = false ∧
     ((v.toNat % 65536 + 65536 - (s.queue q).ci) % 65536 < ((s.queue q).pi + 65536 - (s.queue q).ci) % 65536 ∨ 2 ^ (s.queue
     q).log2 < (v.toNat % 65536 + 65536 - (s.queue q).ci) % 65536)) ∧
    (∃ (s : State) (q : Nat), s.closedOff = false ∧ q < 42 ∧ ((s.queue q).en = false ∨ (s.queue q).disabling = true)) ∧
    (∃ (s : State) (q : Nat) (v : Word) (k : Nat), s.closedOff = false ∧ q < 42 ∧ (s.queue q).en = false ∧ (k = (if 4 ≤ v.toNat %
     16 ∧ v.toNat % 16 ≤ 12 then v.toNat % 16 else (s.queue q).log2)) ∧ enableOk { s.queue q with log2 := k } = true) ∧
    (∃ (s : State) (q : Nat) (v : Word) (k : Nat), s.closedOff = false ∧ q < 42 ∧ (s.queue q).en = false ∧ (k = (if 4 ≤ v.toNat %
     16 ∧ v.toNat % 16 ≤ 12 then v.toNat % 16 else (s.queue q).log2)) ∧ enableOk { s.queue q with log2 := k } = false) ∧
    (∃ (s : State) (q : Nat), s.closedOff = false ∧ q < 42 ∧ (s.queue q).en = true ∧ (s.queue q).disabling = false) ∧
    (∃ (s : State) (q : Nat), s.closedOff = false ∧ q < 42 ∧ s.sys.inReset = false ∧ (s.queue q).disabling = true ∧ (s.queue
     q).ci = (s.queue q).pi) ∧
    (∃ (s : State) (q : Nat) (v : Word), s.closedOff = false ∧ q < 42 ∧ (s.queue q).en = false ∧ v.toNat % 2 ^ 24 % 64 = 0) ∧
    (∃ (s : State) (q : Nat) (v : Word), s.closedOff = false ∧ q < 42 ∧ ((s.queue q).en = true ∨ v.toNat % 2 ^ 24 % 64 ≠ 0)) ∧
    (∃ (s : State) (q : Nat) (v : Word), s.closedOff = false ∧ q < 42 ∧ (s.queue q).en = false ∧ 4 ≤ v.toNat % 16 ∧ v.toNat % 16
     ≤ 12 ∧ v.getLsbD 4 = false ∧ v.getLsbD 10 = false ∧ v.getLsbD 11 = false ∧ v.getLsbD 12 = false) ∧
    (∃ (s : State) (q : Nat), s.closedOff = false ∧ q < 42 ∧ (s.queue q).en = true) ∧
    (∃ (s : State) (c : Cmd) (blk : Nat) (op : BitVec 16), blk ≤ 20 ∧ s.canStart (queueOf blk c.side) = true ∧ s.descLost
     (s.queue (queueOf blk c.side)) = false ∧ (¬ (op.toNat / 256 = blk ∧ 1 ≤ op.toNat % 256 ∧ op.toNat % 256 ≤ cmdCount blk))) ∧
    (∃ (s : State) (c : Cmd) (lo : Nat × Nat) (hi : Nat × Nat) (v : Nat × Nat), s.canStart (queueOf 3 c.side) = true ∧ s.descRead
     c 0x0301 ∧ s.hst.flights.any (fun f => decide (f.q % 2 = c.side.ctorIdx)) = false ∧ apiVersions.find? (fun v => verLe lo v &&
     verLe v hi) = some v) ∧
    (∃ (s : State) (c : Cmd) (lo : Nat × Nat) (hi : Nat × Nat), s.canStart (queueOf 3 c.side) = true ∧ s.descRead c 0x0301 ∧
     s.hst.flights.any (fun f => decide (f.q % 2 = c.side.ctorIdx)) = false ∧ apiVersions.find? (fun v => verLe lo v && verLe v
     hi) = none) ∧
    (∃ (s : State) (c : Cmd), s.canStart (queueOf 3 c.side) = true ∧ s.descRead c 0x0301 ∧ s.hst.flights.any (fun f => decide
     (f.q % 2 = c.side.ctorIdx)) = true) ∧
    (∃ (s : State), s.closedOff = false) ∧
    (∃ (s : State) (v : Word), s.closedOff = false ∧ s.vlk.evqEn = false ∧ v.getLsbD 4 = true ∧ (s.evqFits (if 4 ≤ v.toNat % 16 ∧
     v.toNat % 16 ≤ 12 then v.toNat % 16 else s.vlk.evqLog2) = true)) ∧
    (∃ (s : State) (v : Word), s.closedOff = false ∧ s.vlk.evqEn = false ∧ (s.evqFits (if 4 ≤ v.toNat % 16 ∧ v.toNat % 16 ≤ 12
     then v.toNat % 16 else s.vlk.evqLog2) = false) ∧ v.getLsbD 4 = true) ∧
    (∃ (s : State) (v : Word), s.closedOff = false ∧ v.getLsbD 4 = false) ∧
    (∃ (s : State) (v : Word), s.closedOff = false ∧ s.vlk.evqEn = true ∧ v.getLsbD 4 = true) ∧
    (∃ (s : State) (v : Word), s.closedOff = false ∧ (v.toNat % 65536 + 65536 - s.vlk.evqCi) % 65536 ≤ (s.vlk.evqPi + 65536 -
     s.vlk.evqCi) % 65536) ∧
    (∃ (s : State) (v : Word), s.closedOff = false ∧ (s.vlk.evqPi + 65536 - s.vlk.evqCi) % 65536 < (v.toNat % 65536 + 65536 -
     s.vlk.evqCi) % 65536) :=
  ⟨⟨(live |>.modQueue 41 (fun x => { x with en := true, disabling := false })), 41, 16, by decide +kernel⟩,
   ⟨(live |>.modQueue 41 (fun x => { x with en := true, disabling := false })), 41, 0, by decide +kernel⟩,
   ⟨(live |>.modQueue 41 (fun x => { x with en := false })), 41, by decide +kernel⟩,
   ⟨(live |>.modQueue 41 (fun x => { x with en := false, base := 0x900000, res := 0x940000 })), 41, 12, 12,
     by decide +kernel⟩,
   ⟨(live |>.modQueue 41 (fun x => { x with en := false, base := 0x900000, res := 0x900000 })), 41, 12, 12,
     by decide +kernel⟩,
   ⟨(live |>.modQueue 41 (fun x => { x with en := true, disabling := false })), 41, by decide +kernel⟩,
   ⟨(live |>.modQueue 41 (fun x => { x with disabling := true, ci := 1 })), 41, by decide +kernel⟩,
   ⟨(live |>.modQueue 41 (fun x => { x with en := false })), 41, 0, by decide +kernel⟩,
   ⟨(live |>.modQueue 41 (fun x => { x with en := true })), 41, 0, by decide +kernel⟩,
   ⟨(live |>.modQueue 41 (fun x => { x with en := false })), 41, 12, by decide +kernel⟩,
   ⟨(live |>.modQueue 41 (fun x => { x with en := true })), 41, by decide +kernel⟩,
   ⟨live, {}, 20, 0, by decide +kernel⟩,
   ⟨live, {}, (1, 0), (2, 9), (2, 3), by simp only [State.descRead]; decide +kernel⟩,
   ⟨live, {}, (2, 4), (2, 9), by simp only [State.descRead]; decide +kernel⟩,
   ⟨{ live with hst.flights := [{ q := 0 }] }, {}, by simp only [State.descRead]; decide +kernel⟩,
   ⟨live, by decide +kernel⟩,
   ⟨{ live with vlk.evqBase := 0x800000 }, 0x1C, by decide +kernel⟩,
   ⟨live, 16, by decide +kernel⟩,
   ⟨live, 0, by decide +kernel⟩,
   ⟨{ live with vlk.evqEn := true }, 16, by decide +kernel⟩,
   ⟨live, 0, by decide +kernel⟩,
   ⟨live, 1, by decide +kernel⟩⟩

theorem witness_RegisterAndMemoryWritesAct :
    (∃ (s : State), s.closedOff = true) ∧
    (∃ (a : Access), a.side = .host ∧ (hostReaches a.addr = false ∨ barRest a.addr = true)) ∧
    (∃ (s : State) (a : Access), s.closedOff = false ∧ s.issues a.side = true ∧ (a.side = .host → hostReaches a.addr = true ∧
     barRest a.addr = false) ∧ a.data ≠ [] ∧ 0x40000000 ≤ a.addr ∧ a.addr < 0x41000000 ∧ (a.data.length ≠ 4 ∨ a.addr % 4 ≠ 0)) ∧
    (∃ (s : State) (a : Access) (blk : Nat) (off : Nat), s.closedOff = false ∧ s.issues a.side = true ∧ (a.side = .host →
     hostReaches a.addr = true ∧ barRest a.addr = false) ∧ a.data ≠ [] ∧ evtOffset blk = some off ∧ off < 0x10000 ∧ a.addr =
     0x40000000 + 0x10000 * blk + off ∧ blk ≤ 20 ∧ (a.side = .host → blk ≠ 0x0B) ∧ a.data.length = 4) ∧
    (∃ (s : State) (a : Access) (blk : Nat), s.closedOff = false ∧ s.issues a.side = true ∧ (a.side = .host → hostReaches a.addr
     = true ∧ barRest a.addr = false) ∧ a.data ≠ [] ∧ blk ∈ [0x02, 0x06, 0x08, 0x09, 0x0A, 0x0B, 0x0E, 0x10, 0x11, 0x12, 0x13] ∧
     a.data.length = 4 ∧ a.addr % 4 = 0 ∧ a.addr / 0x10000 = 0x4000 + blk ∧ evtOffset blk ≠ some (a.addr % 0x10000)) ∧
    (∃ (s : State) (a : Access), s.closedOff = false ∧ s.issues a.side = true ∧ (a.side = .host → hostReaches a.addr = true ∧
     barRest a.addr = false) ∧ a.data ≠ [] ∧ a.addr = 0x40000010 ∧ a.data.length = 4) ∧
    (∃ (s : State) (a : Access), s.closedOff = false ∧ s.issues a.side = true ∧ (a.side = .host → hostReaches a.addr = true ∧
     barRest a.addr = false) ∧ a.data ≠ [] ∧ a.addr = 0x40000004 ∧ a.data.length = 4) ∧
    (∃ (s : State) (a : Access), s.closedOff = false ∧ s.issues a.side = true ∧ (a.side = .host → hostReaches a.addr = true ∧
     barRest a.addr = false) ∧ a.data ≠ [] ∧ landing generalLo ≤ a.addr ∧ a.addr + a.data.length ≤ landing generalHi ∧
     s.lnd.poison = []) ∧
    (∃ (s : State) (a : Access), s.closedOff = false ∧ s.issues a.side = true ∧ (a.side = .host → hostReaches a.addr = true ∧
     barRest a.addr = false) ∧ a.data ≠ [] ∧ a.addr < 0x10000000) ∧
    (∃ (s : State) (a : Access) (n : Nat), s.closedOff = false ∧ 0x40000000 ≤ a.addr ∧ a.addr < 0x40150000 ∧ (n ≠ 4 ∨ a.addr % 4
     ≠ 0)) ∧
    (∃ (s : State) (a : Access) (n : Nat), s.closedOff = false ∧ 0x40000000 ≤ a.addr ∧ a.addr < 0x40150000 ∧ n = 4 ∧ a.addr % 4 =
     0) :=
  ⟨⟨{ live with sys.inReset := true }, by decide +kernel⟩,
   ⟨{ side := .host, addr := 0x40200000, data := [0] }, by decide +kernel⟩,
   ⟨live, { side := .host, addr := 0x40140002, data := [0, 0, 0, 0] }, by decide +kernel⟩,
   ⟨live, { side := .host, addr := 0x40140020, data := [0, 0, 0, 0] }, 20, 0x20, by decide +kernel⟩,
   ⟨{ live with img.acFw := 1 }, { addr := 0x4002FFFC, data := [0, 0, 0, 0] }, 2, by decide +kernel⟩,
   ⟨live, { side := .host, addr := 0x40000010, data := [0, 0, 0, 0] }, by decide +kernel⟩,
   ⟨live, { side := .host, addr := 0x40000004, data := [0, 0, 0, 0] }, by decide +kernel⟩,
   ⟨live, { side := .host, addr := landing generalHi - 1, data := [0] }, by decide +kernel⟩,
   ⟨{ live with img.acFw := 0x80 }, { addr := 0x0FFFFFFF, data := [0] }, by decide +kernel⟩,
   ⟨live, { addr := 0x40140020, data := [0, 0, 0, 0] }, 0, by decide +kernel⟩,
   ⟨live, { addr := 0x40140020, data := [0, 0, 0, 0] }, 4, by decide +kernel⟩⟩

theorem witness_SessionEndPathByState :
    (∃ (s : State) (k : Nat) (r : EndReason) (fast : Bool), ((s.ctx k).bridged = true ∨ (s.ctx k).bay = k) ∧
     let first := if (s.ctx k).ending = .none then r else (s.ctx k).ending; ((s.ctx k).st = .charging ∨ (s.ctx k).st =
     .renegotiate) ∧ fast = false) ∧
    (∃ (s : State) (k : Nat) (r : EndReason) (fast : Bool), ((s.ctx k).bridged = true ∨ (s.ctx k).bay = k) ∧
     let first := if (s.ctx k).ending = .none then r else (s.ctx k).ending; ((((s.ctx k).st = .charging ∨ (s.ctx k).st =
     .renegotiate ∨ (s.ctx k).st = .stopping) ∧ fast = true) ∨ (s.ctx k).st = .precharge ∨ (s.ctx k).st = .closing ∨ ((s.ctx k).st
     = .cableCheck ∧ ((s.ctx k).bridged = true ∨ s.kGranted k = true)))) ∧
    (∃ (s : State) (k : Nat) (r : EndReason), ((s.ctx k).bridged = true ∨ (s.ctx k).bay = k) ∧
     let first := if (s.ctx k).ending = .none then r else (s.ctx k).ending; ((s.ctx k).st = .plugged ∨ (s.ctx k).st = .link ∨
     (s.ctx k).st = .negotiate ∨ (s.ctx k).st = .authorise ∨ (s.ctx k).st = .locking ∨ ((s.ctx k).st = .cableCheck ∧ (s.ctx
     k).bridged = false ∧ s.kGranted k = false)) ∧ (s.ctx k).bridged = true) ∧
    (∃ (s : State) (k : Nat) (r : EndReason), ((s.ctx k).bridged = true ∨ (s.ctx k).bay = k) ∧
     let first := if (s.ctx k).ending = .none then r else (s.ctx k).ending; ((s.ctx k).st = .plugged ∨ (s.ctx k).st = .link ∨
     (s.ctx k).st = .negotiate ∨ (s.ctx k).st = .authorise ∨ (s.ctx k).st = .locking ∨ ((s.ctx k).st = .cableCheck ∧ (s.ctx
     k).bridged = false ∧ s.kGranted k = false)) ∧ (s.ctx k).bridged = false) ∧
    (∃ (s : State) (k : Nat) (r : EndReason) (fast : Bool), ((s.ctx k).bridged = true ∨ (s.ctx k).bay = k) ∧
     let first := if (s.ctx k).ending = .none then r else (s.ctx k).ending; ((s.ctx k).st = .free ∨ (s.ctx k).st = .opening ∨
     (s.ctx k).st = .weldCheck ∨ (s.ctx k).st = .finishing ∨ (s.ctx k).st = .unplugWait ∨ ((s.ctx k).st = .stopping ∧ fast =
     false))) ∧
    (∃ (s : State) (k : Nat) (closedAt100 : Bool), (s.ctx k).st = .weldCheck ∧ (s.ctx k).bridged = false ∧ (s.ctx k).bay = k ∧
     (closedAt100 = true ∨ (s.below60 k = false ∧ (s.ctx k).vehOpen = true))) ∧
    (∃ (s : State) (k : Nat) (closedAt100 : Bool), (s.ctx k).st = .weldCheck ∧ (s.ctx k).bridged = false ∧ (s.ctx k).bay = k ∧
     closedAt100 = false ∧ (s.below60 k = true ∨ (s.ctx k).vehOpen = false)) ∧
    (∃ (s : State) (k : Nat), (s.ctx k).st = .weldCheck ∧ (s.ctx k).bridged = false ∧ (s.ctx k).bay = k) :=
  ⟨⟨(live |>.modCtx 0 (fun x => { x with bridged := true, st := .charging })), 0, .evStop, false, by decide +kernel⟩,
   ⟨(live |>.modCtx 0 (fun x => { x with bridged := true, st := .charging })), 0, .evStop, true, by decide +kernel⟩,
   ⟨(live |>.modCtx 0 (fun x => { x with bridged := true, st := .plugged })), 0, .evStop, by decide +kernel⟩,
   ⟨(live |>.modCtx 0 (fun x => { x with bay := 0, st := .plugged })), 0, .evStop, by decide +kernel⟩,
   ⟨(live |>.modCtx 0 (fun x => { x with bridged := true, st := .free })), 0, .evStop, false, by decide +kernel⟩,
   ⟨(live |>.modCtx 0 (fun x => { x with st := .weldCheck, bay := 0 })), 0, true, by decide +kernel⟩,
   ⟨(live |>.modCtx 0 (fun x => { x with st := .weldCheck, bay := 0 })), 0, false, by decide +kernel⟩,
   ⟨(live |>.modCtx 0 (fun x => { x with st := .weldCheck, bay := 0 })), 0, by decide +kernel⟩⟩

theorem witness_SessionTimersEndTheirState :
    (∃ (s : State), s.sys.inReset = false) ∧
    (∃ (s : State), s.sys.inReset = true) :=
  ⟨⟨live, by decide +kernel⟩,
   ⟨{ live with sys.inReset := true }, by decide +kernel⟩⟩

theorem witness_SessionEventsAdvance :
    (∃ (s : State) (k : Nat), s.sys.inReset = false ∧ (s.ctx k).bridged = false ∧ (s.ctx k).bay = k ∧ s.localCtx k = true ∧
     (s.ctx k).st = .link ∧ ((s.bay k).lstate = .matched ∨ (s.bay k).lstate = .t1sListen)) ∧
    (∃ (s : State) (k : Nat), s.sys.inReset = false ∧ (s.ctx k).bridged = false ∧ (s.ctx k).bay = k ∧ s.localCtx k = true ∧
     ((s.ctx k).st ≠ .link ∨ ((s.bay k).lstate ≠ .matched ∧ (s.bay k).lstate ≠ .t1sListen))) ∧
    (∃ (s : State) (k : Nat), s.sys.inReset = false ∧ (s.ctx k).bridged = false ∧ (s.ctx k).bay = k ∧ s.localCtx k = true ∧
     (s.ctx k).linkUp = true ∧ (s.ctx k).st ≠ .free ∧ (s.ctx k).st ≠ .unplugWait) ∧
    (∃ (s : State) (k : Nat), s.sys.inReset = false ∧ (s.ctx k).bridged = false ∧ (s.ctx k).bay = k ∧ s.localCtx k = true ∧
     (s.ctx k).linkUp = true ∧ (s.ctx k).st = .unplugWait) ∧
    (∃ (s : State) (k : Nat), s.sys.inReset = false ∧ (s.ctx k).bridged = false ∧ (s.ctx k).bay = k ∧ s.localCtx k = true ∧
     ((s.ctx k).linkUp = false ∨ (s.ctx k).st = .free)) ∧
    (∃ (s : State) (k : Nat), s.sys.inReset = false ∧ (s.ctx k).bridged = false ∧ (s.ctx k).bay = k ∧ s.localCtx k = true) ∧
    (∃ (s : State) (k : Nat) (locked : Bool), s.sys.inReset = false ∧ (s.ctx k).bridged = false ∧ (s.ctx k).bay = k ∧ s.localCtx
     k = true ∧ (locked = true ∨ s.ctxIn k [.cableCheck, .precharge, .closing, .charging, .renegotiate, .stopping, .opening,
     .weldCheck, .finishing] = false)) ∧
    (∃ (s : State) (k : Nat), s.sys.inReset = false ∧ (s.ctx k).bridged = false ∧ (s.ctx k).bay = k ∧ s.localCtx k = true ∧
     s.ctxIn k [.cableCheck, .precharge, .closing, .charging, .renegotiate, .stopping, .opening, .weldCheck, .finishing] = true) ∧
    (∃ (s : State) (k : Nat), s.sys.inReset = false ∧ (s.ctx k).bridged = false ∧ (s.ctx k).bay = k ∧ s.localCtx k = true) ∧
    (∃ (s : State) (k : Nat) (closed : Bool), s.sys.inReset = false ∧ (s.ctx k).bridged = false ∧ (s.ctx k).bay = k ∧ s.localCtx
     k = true ∧ (closed = false ∨ (s.ctx k).st ≠ .closing ∨ (s.sin (s.cBay k).siK1).fault = true ∨ chConducts (s.chan (s.cBay
     k).chK1).st = false)) ∧
    (∃ (s : State) (k : Nat), s.sys.inReset = false ∧ (s.ctx k).bridged = false ∧ (s.ctx k).bay = k ∧ s.localCtx k = true ∧
     (s.ctx k).st = .closing ∧ (s.sin (s.cBay k).siK1).fault = false ∧ chConducts (s.chan (s.cBay k).chK1).st = true) ∧
    (∃ (s : State) (k : Nat), s.sys.inReset = false ∧ (s.ctx k).bridged = false ∧ (s.ctx k).bay = k ∧ s.localCtx k = true) ∧
    (∃ (s : State) (k : Nat), s.sys.inReset = false ∧ (s.ctx k).bridged = false ∧ (s.ctx k).bay = k ∧ s.localCtx k = true ∧
     (s.ctx k).st = .unplugWait) :=
  ⟨⟨(live |>.modCtx 0 (fun x => { x with bay := 0, st := .link }) |>.modBay 0 (fun x => { x with lstate := .matched })), 0,
     by decide +kernel⟩,
   ⟨(live |>.modCtx 0 (fun x => { x with bay := 0 })), 0, by decide +kernel⟩,
   ⟨(live |>.modCtx 0 (fun x => { x with bay := 0, linkUp := true, st := .link })), 0, by decide +kernel⟩,
   ⟨(live |>.modCtx 0 (fun x => { x with bay := 0, linkUp := true, st := .unplugWait })), 0, by decide +kernel⟩,
   ⟨(live |>.modCtx 0 (fun x => { x with bay := 0 })), 0, by decide +kernel⟩,
   ⟨(live |>.modCtx 0 (fun x => { x with bay := 0 })), 0, by decide +kernel⟩,
   ⟨(live |>.modCtx 0 (fun x => { x with bay := 0 })), 0, true, by decide +kernel⟩,
   ⟨(live |>.modCtx 0 (fun x => { x with bay := 0, st := .finishing })), 0, by decide +kernel⟩,
   ⟨(live |>.modCtx 0 (fun x => { x with bay := 0 })), 0, by decide +kernel⟩,
   ⟨(live |>.modCtx 0 (fun x => { x with bay := 0 })), 0, false, by decide +kernel⟩,
   ⟨(live |>.modCtx 0 (fun x => { x with bay := 0, st := .closing }) |>.modChan 0 (fun x => { x with st := .on })), 0,
     by decide +kernel⟩,
   ⟨(live |>.modCtx 0 (fun x => { x with bay := 0 })), 0, by decide +kernel⟩,
   ⟨(live |>.modCtx 0 (fun x => { x with bay := 0, st := .unplugWait })), 0, by decide +kernel⟩⟩

theorem witness_BayEventsAct :
    (∃ (s : State) (n : Nat), s.awake = true ∧ s.localCtx n = true) ∧
    (∃ (s : State) (n : Nat), s.awake = true ∧ s.localCtx n = true ∧ s.canPlug n = true) ∧
    (∃ (s : State) (n : Nat) (j : Nat), s.awake = true ∧ s.localCtx n = true ∧ s.canPlug n = true ∧ j ≠ n) ∧
    (∃ (s : State) (n : Nat), s.awake = true ∧ s.localCtx n = true ∧ s.canPlug n = false) ∧
    (∃ (s : State) (n : Nat), s.awake = true ∧ s.localCtx n = true) ∧
    (∃ (s : State) (n : Nat) (p : Pilot), s.awake = true ∧ s.localCtx n = true ∧ (p = .e ∨ p = .f ∨ p = .diode)) ∧
    (∃ (s : State) (n : Nat), s.awake = true ∧ s.localCtx n = true ∧ (s.ctx n).st = .unplugWait) ∧
    (∃ (s : State) (n : Nat), s.awake = true ∧ s.localCtx n = true ∧ (s.ctx n).st = .free) ∧
    (∃ (s : State) (n : Nat), s.awake = true ∧ s.localCtx n = true ∧ (s.ctx n).st ≠ .free ∧ (s.ctx n).st ≠ .unplugWait) ∧
    (∃ (s : State) (n : Nat), s.awake = true ∧ s.localCtx n = true ∧ s.key.lc = .service ∧ (s.bay n).inService = false ∧ (s.ctx
     n).st = .free) ∧
    (∃ (s : State) (n : Nat), s.awake = true ∧ s.localCtx n = true ∧ (s.key.lc ≠ .service ∨ (s.bay n).inService = true ∨ (s.ctx
     n).st ≠ .free)) ∧
    (∃ (s : State) (n : Nat), s.awake = true ∧ s.localCtx n = true) ∧
    (∃ (s : State) (n : Nat), s.awake = true ∧ s.localCtx n = true ∧ (s.cBay n).mcs = false ∧ (s.ctx n).st ≠ .free ∧ (s.ctx n).st
     ≠ .plugged) ∧
    (∃ (s : State) (n : Nat), s.awake = true ∧ s.localCtx n = true ∧ ((s.cBay n).mcs = true ∨ (s.ctx n).st = .free ∨ (s.ctx n).st
     = .plugged)) ∧
    (∃ (bands : List Int) (now : Nat) (v : Int), (bandOf bands v = now ∨ bandOf bands (v - 200) = now ∨ bandOf bands (v + 200) =
     now)) ∧
    (∃ (bands : List Int) (now : Nat) (v : Int), bandOf bands v ≠ now ∧ bandOf bands (v - 200) ≠ now ∧ bandOf bands (v + 200) ≠
     now) ∧
    (∃ (v : Int), 10500 ≤ v ∧ v ≤ 13500) ∧
    (∃ (v : Int), 7500 ≤ v ∧ v < 10500) ∧
    (∃ (v : Int), 4500 ≤ v ∧ v < 7500) ∧
    (∃ (v : Int), 1500 ≤ v ∧ v < 4500) ∧
    (∃ (v : Int), v < -10500) ∧
    (∃ (v : Int), (13500 < v ∨ (-10500 ≤ v ∧ v < 1500))) ∧
    (∃ (s : State) (n : Nat), s.slacOn n = true ∧ (s.bay n).lstate = .waitParm) ∧
    (∃ (s : State) (n : Nat), s.slacOn n = true ∧ (s.bay n).lstate ≠ .waitParm) ∧
    (∃ (s : State) (n : Nat) (runId : Nat) (announced : Nat), s.slacOn n = true ∧ (s.bay n).runId = some runId ∧ (s.bay n).lstate
     = .sounding ∧ (s.bay n).sounds + 1 < announced) ∧
    (∃ (s : State) (n : Nat) (runId : Nat) (announced : Nat), s.slacOn n = true ∧ (s.bay n).runId = some runId ∧ (s.bay n).lstate
     = .sounding ∧ announced ≤ (s.bay n).sounds + 1) ∧
    (∃ (s : State) (n : Nat), s.slacOn n = true ∧ (s.bay n).lstate = .sounding ∧ (s.bay n).sounds = 0) ∧
    (∃ (s : State) (n : Nat) (runId : Nat), s.slacOn n = true ∧ (s.bay n).lstate = .sounding ∧ 0 < (s.bay n).sounds ∧ (s.bay
     n).runId = some runId) ∧
    (∃ (s : State) (n : Nat), s.slacOn n = true ∧ (s.bay n).lstate ≠ .sounding) ∧
    (∃ (s : State) (n : Nat) (runId : Nat), s.slacOn n = true ∧ (s.bay n).runId = some runId ∧ ((s.bay n).lstate = .waitMatch ∨
     (s.bay n).lstate = .validate)) ∧
    (∃ (s : State) (n : Nat) (runId : Nat), s.slacOn n = true ∧ ((s.bay n).runId ≠ some runId ∨ ((s.bay n).lstate ≠ .waitMatch ∧
     (s.bay n).lstate ≠ .validate))) ∧
    (∃ (s : State) (n : Nat) (runId : Nat), s.slacOn n = true ∧ ((s.bay n).runId ≠ some runId ∨ (s.bay n).lstate ≠ .sounding)) :=
  ⟨⟨live, 0, by decide +kernel⟩,
   ⟨(live |>.modBay 0 (fun x => { x with gen := .plus12, pilot := .a, inService := true })), 0, by decide +kernel⟩,
   ⟨(live |>.modBay 7 (fun x => { x with inService := true })), 7, 0, by decide +kernel⟩,
   ⟨live, 0, by decide +kernel⟩,
   ⟨live, 0, by decide +kernel⟩,
   ⟨live, 0, .e, by decide +kernel⟩,
   ⟨(live |>.modCtx 0 (fun x => { x with st := .unplugWait })), 0, by decide +kernel⟩,
   ⟨(live |>.modCtx 0 (fun x => { x with st := .free })), 0, by decide +kernel⟩,
   ⟨(live |>.modCtx 0 (fun x => { x with st := .link })), 0, by decide +kernel⟩,
   ⟨({ live with key.lc := .service } |>.modCtx 0 (fun x => { x with st := .free })), 0, by decide +kernel⟩,
   ⟨live, 0, by decide +kernel⟩,
   ⟨live, 0, by decide +kernel⟩,
   ⟨(live |>.cfgBay 0 (fun x => { x with mcs := false }) |>.modCtx 0 (fun x => { x with st := .link })), 0,
     by decide +kernel⟩,
   ⟨(live |>.cfgBay 0 (fun x => { x with mcs := true })), 0, by decide +kernel⟩,
   ⟨[], 0, 0, by decide +kernel⟩,
   ⟨[], 5, 0, by decide +kernel⟩,
   ⟨13500, by decide +kernel⟩,
   ⟨10499, by decide +kernel⟩,
   ⟨7499, by decide +kernel⟩,
   ⟨4499, by decide +kernel⟩,
   ⟨-10501, by decide +kernel⟩,
   ⟨13501, by decide +kernel⟩,
   ⟨(live |>.modBay 0 (fun x => { x with lstate := .waitParm }) |>.modCtx 0 (fun x => { x with st := .link })), 0,
     by decide +kernel⟩,
   ⟨(live |>.modCtx 0 (fun x => { x with st := .link })), 0, by decide +kernel⟩,
   ⟨(live |>.modBay 0 (fun x => { x with runId := some 0, lstate := .sounding }) |>.modCtx 0 (fun x =>
     { x with st := .link })), 0, 0, 2, by decide +kernel⟩,
   ⟨(live |>.modBay 0 (fun x => { x with runId := some 0, lstate := .sounding }) |>.modCtx 0 (fun x =>
     { x with st := .link })), 0, 0, 1, by decide +kernel⟩,
   ⟨(live |>.modBay 0 (fun x => { x with lstate := .sounding, sounds := 0 }) |>.modCtx 0 (fun x =>
     { x with st := .link })), 0, by decide +kernel⟩,
   ⟨(live |>.modBay 0 (fun x => { x with lstate := .sounding, runId := some 0, sounds := 1 }) |>.modCtx 0 (fun x =>
     { x with st := .link })), 0, 0, by decide +kernel⟩,
   ⟨(live |>.modCtx 0 (fun x => { x with st := .link })), 0, by decide +kernel⟩,
   ⟨(live |>.modBay 0 (fun x => { x with runId := some 0, lstate := .waitMatch }) |>.modCtx 0 (fun x =>
     { x with st := .link })), 0, 0, by decide +kernel⟩,
   ⟨(live |>.modCtx 0 (fun x => { x with st := .link })), 0, 0, by decide +kernel⟩,
   ⟨(live |>.modCtx 0 (fun x => { x with st := .link })), 0, 0, by decide +kernel⟩⟩

theorem witness_VehicleMessagesAct :
    (∃ (s : State), s.sys.inReset = false) ∧
    (∃ (s : State) (k : Nat), s.sys.inReset = false ∧ (s.ctx k).st = .negotiate) ∧
    (∃ (s : State) (k : Nat), s.sys.inReset = false ∧ (s.ctx k).st = .negotiate) ∧
    (∃ (s : State) (k : Nat), s.sys.inReset = false ∧ (s.ctx k).st ≠ .negotiate) ∧
    (∃ (s : State) (k : Nat), s.sys.inReset = false ∧ (s.ctx k).st ≠ .negotiate) ∧
    (∃ (s : State) (k : Nat), s.sys.inReset = false ∧ (s.ctx k).st ≠ .negotiate) ∧
    (∃ (s : State) (k : Nat), s.sys.inReset = false ∧ (s.ctx k).st = .negotiate ∧ (s.ctx k).tcp = true ∧ (s.ctx k).tlsAnswer =
     true ∧ (s.ctx k).transport = .tcp) ∧
    (∃ (s : State) (k : Nat) (len : Nat) (l : List SapEntry) (e : SapEntry), s.sys.inReset = false ∧ (s.ctx k).st = .negotiate ∧
     (s.ctx k).speaks = true ∧ len ≤ 6144 ∧ bestEntry (l.filter (fun e => s.eligible k e)) = some e) ∧
    (∃ (s : State) (k : Nat) (len : Nat) (l : List SapEntry), s.sys.inReset = false ∧ (s.ctx k).st = .negotiate ∧ (s.ctx
     k).speaks = true ∧ len ≤ 6144 ∧ bestEntry (l.filter (fun e => s.eligible k e)) = none) ∧
    (∃ (s : State) (k : Nat) (len : Nat), s.sys.inReset = false ∧ (s.ctx k).st ≠ .negotiate ∧ (s.ctx k).st ≠ .free ∧ (s.ctx
     k).speaks = true ∧ len ≤ 6144) ∧
    (∃ (s : State) (k : Nat) (len : Nat), s.sys.inReset = false ∧ (s.ctx k).st ≠ .free ∧ (s.ctx k).speaks = true ∧ 6144 < len) ∧
    (∃ (s : State), s.sys.inReset = false) ∧
    (∃ (s : State) (k : Nat) (len : Nat), s.sys.inReset = false ∧ (s.ctx k).st ≠ .free ∧ (s.ctx k).speaks = true ∧ len ≤ 6144) ∧
    (∃ (s : State) (k : Nat), s.sys.inReset = false ∧ ((s.ctx k).st = .free ∨ (s.ctx k).speaks = false)) ∧
    (∃ (s : State) (k : Nat) (m : V2g), s.sys.inReset = false ∧ ¬ (s.ctx k).takes m) ∧
    (∃ (s : State) (k : Nat), s.sys.inReset = false ∧ (s.ctx k).takes .serviceDiscovery) ∧
    (∃ (s : State) (k : Nat) (i : Nat) (v : Nat), s.sys.inReset = false ∧ (s.ctx k).takes (.chargeLoop i v)) ∧
    (∃ (s : State) (k : Nat), s.sys.inReset = false ∧ (s.ctx k).takes .powerStart ∧ (s.ctx k).st = .precharge) ∧
    (∃ (s : State) (k : Nat), s.sys.inReset = false ∧ ((s.ctx k).st = .charging ∨ (s.ctx k).st = .renegotiate)) ∧
    (∃ (s : State) (k : Nat), s.sys.inReset = false ∧ (s.ctx k).st = .unplugWait) ∧
    (∃ (s : State) (k : Nat), s.sys.inReset = false ∧ (s.ctx k).st = .authorise ∧ (s.ctx k).proto ≠ .din ∧ (s.ctx k).proto ≠
     .none ∧ (s.ctx k).speaks = true) ∧
    (∃ (s : State) (k : Nat), s.sys.inReset = false ∧ ((s.ctx k).st ≠ .authorise ∨ (s.ctx k).proto = .din ∨ (s.ctx k).proto =
     .none ∨ (s.ctx k).speaks = false)) ∧
    (∃ (l : List SapEntry) (e : SapEntry), bestEntry l = some e) :=
  ⟨⟨live, by decide +kernel⟩,
   ⟨(live |>.modCtx 0 (fun x => { x with st := .negotiate })), 0, by decide +kernel⟩,
   ⟨(live |>.modCtx 0 (fun x => { x with st := .negotiate })), 0, by decide +kernel⟩,
   ⟨live, 0, by decide +kernel⟩,
   ⟨live, 0, by decide +kernel⟩,
   ⟨live, 0, by decide +kernel⟩,
   ⟨(live |>.modCtx 0 (fun x => { x with st := .negotiate, tcp := true, tlsAnswer := true, transport := .tcp })), 0,
     by decide +kernel⟩,
   ⟨(live |>.modCtx 0 (fun x => { x with st := .negotiate, tcp := true, tlsAnswer := true, transport := .tls13 }) |>.cfgBay
     0 (fun x => { x with protos := [.iso20] })), 0, 6144, [{ proto := .iso20, major := 1 }],
     { proto := .iso20, major := 1 }, by decide +kernel⟩,
   ⟨(live |>.modCtx 0 (fun x => { x with st := .negotiate, tcp := true })), 0, 6144, [], by decide +kernel⟩,
   ⟨(live |>.modCtx 0 (fun x => { x with st := .authorise, tcp := true })), 0, 6144, by decide +kernel⟩,
   ⟨(live |>.modCtx 0 (fun x => { x with st := .negotiate, tcp := true, tlsAnswer := true, transport := .tls13 }) |>.cfgBay
     0 (fun x => { x with protos := [.iso20] })), 0, 6145, by decide +kernel⟩,
   ⟨live, by decide +kernel⟩,
   ⟨(live |>.modCtx 0 (fun x => { x with st := .negotiate, tcp := true, tlsAnswer := true, transport := .tls13 }) |>.cfgBay
     0 (fun x => { x with protos := [.iso20] })), 0, 6144, by decide +kernel⟩,
   ⟨(live |>.modCtx 0 (fun x => { x with st := .free })), 0, by decide +kernel⟩,
   ⟨live, 0, .serviceDiscovery, by simp only [Ctx.takes]; decide +kernel⟩,
   ⟨(live |>.modCtx 0 (fun x => { x with st := .authorise })), 0, by simp only [Ctx.takes]; decide +kernel⟩,
   ⟨(live |>.modCtx 0 (fun x => { x with st := .charging, proto := .iso2 })), 0, 0, 0,
     by simp only [Ctx.takes]; decide +kernel⟩,
   ⟨(live |>.modCtx 0 (fun x => { x with st := .precharge, preDone := true })), 0,
     by simp only [Ctx.takes]; decide +kernel⟩,
   ⟨(live |>.modCtx 0 (fun x => { x with st := .charging })), 0, by decide +kernel⟩,
   ⟨(live |>.modCtx 0 (fun x => { x with st := .unplugWait })), 0, by decide +kernel⟩,
   ⟨(live |>.modCtx 0 (fun x => { x with st := .authorise, proto := .iso2, tcp := true })), 0, by decide +kernel⟩,
   ⟨live, 0, by decide +kernel⟩,
   ⟨[{}], {}, by decide +kernel⟩⟩

theorem witness_SessionCommandsComplete :
    (∃ (s : State) (c : Cmd), s.ready c 0x0501 ∧ s.noBays = true) ∧
    (∃ (s : State) (c : Cmd) (k : Nat) (target : Nat), s.ready c 0x0501 ∧ s.noBays = false ∧ (s.localCtx k = false ∨ 2 < target)) ∧
    (∃ (s : State) (c : Cmd) (k : Nat), s.ready c 0x0501 ∧ s.noBays = false ∧ s.localCtx k = true) ∧
    (∃ (s : State) (c : Cmd) (k : Nat) (d : Nat), s.ready c 0x0502 ∧ (127 < k ∨ 1 < d)) ∧
    (∃ (s : State) (c : Cmd) (k : Nat) (reqId : Nat) (d : Nat), s.ready c 0x0502 ∧ k ≤ 127 ∧ d ≤ 1 ∧ ((s.ctx k).st ≠ .authorise ∨
     (s.ctx k).reqOut ≠ some reqId)) ∧
    (∃ (s : State) (c : Cmd) (k : Nat) (reqId : Nat), s.ready c 0x0502 ∧ k ≤ 127 ∧ (s.ctx k).st = .authorise ∧ (s.ctx k).reqOut =
     some reqId) ∧
    (∃ (s : State) (c : Cmd) (br : Nat), s.ready c 0x0503 ∧ 1 < br) ∧
    (∃ (s : State) (c : Cmd) (br : Nat), s.ready c 0x0503 ∧ br ≤ 1 ∧ s.noKind br = true) ∧
    (∃ (s : State) (c : Cmd) (k : Nat) (br : Nat) (ident : List Byte), s.ready c 0x0503 ∧ br ≤ 1 ∧ s.noKind br = false ∧ (24 <
     ident.length ∨ (br = 0 ∧ s.localCtx k = false) ∨ (br = 1 ∧ (255 < k ∨ (s.cBridged k).used = false)))) ∧
    (∃ (s : State) (c : Cmd) (k : Nat) (ident : List Byte), s.ready c 0x0503 ∧ s.noKind 0 = false ∧ ident.length ≤ 24 ∧
     s.localCtx k = true ∧ ((s.bay k).inService = false ∨ (s.bay k).weldLock = true ∨ (s.cBay k).methods.getLsbD 2 = false ∨
     (s.bay k).pre.isSome = true ∨ ((s.ctx k).st ≠ .free ∧ (s.ctx k).bridged = false ∧ s.preLate k = true))) ∧
    (∃ (s : State) (c : Cmd) (k : Nat) (ident : List Byte), s.ready c 0x0503 ∧ s.noKind 0 = false ∧ ident.length ≤ 24 ∧
     s.localCtx k = true ∧ (s.bay k).inService = true ∧ (s.bay k).weldLock = false ∧ (s.cBay k).methods.getLsbD 2 = true ∧ (s.bay
     k).pre = none ∧ ((s.ctx k).st = .free ∨ ((s.ctx k).bridged = false ∧ s.preLate k = false ∧ (s.ctx k).st ≠ .authorise))) ∧
    (∃ (s : State) (c : Cmd) (k : Nat) (ident : List Byte), s.ready c 0x0503 ∧ s.noKind 0 = false ∧ ident.length ≤ 24 ∧
     s.localCtx k = true ∧ (s.bay k).inService = true ∧ (s.bay k).weldLock = false ∧ (s.cBay k).methods.getLsbD 2 = true ∧ (s.bay
     k).pre = none ∧ (s.ctx k).st = .authorise ∧ (s.ctx k).bridged = false ∧ (s.ctx k).authorised = false) ∧
    (∃ (s : State) (c : Cmd) (k : Nat) (ident : List Byte), s.ready c 0x0503 ∧ s.noKind 1 = false ∧ ident.length ≤ 24 ∧ k ≤ 255 ∧
     (s.cBridged k).used = true ∧ (s.vlk.weldB.contains k = true ∨ s.vlk.preBridged.any (fun x => x.1 = k) = true)) ∧
    (∃ (s : State) (c : Cmd) (k : Nat) (ident : List Byte) (j : Nat), s.ready c 0x0503 ∧ s.noKind 1 = false ∧ ident.length ≤ 24 ∧
     k ≤ 255 ∧ (s.cBridged k).used = true ∧ s.vlk.weldB.contains k = false ∧ s.vlk.preBridged.any (fun x => x.1 = k) = false ∧
     s.bridgedCtx k = some j ∧ s.preLate j = true) ∧
    (∃ (s : State) (c : Cmd) (k : Nat) (ident : List Byte) (j : Nat), s.ready c 0x0503 ∧ s.noKind 1 = false ∧ ident.length ≤ 24 ∧
     k ≤ 255 ∧ (s.cBridged k).used = true ∧ s.vlk.weldB.contains k = false ∧ s.vlk.preBridged.any (fun x => x.1 = k) = false ∧
     s.bridgedCtx k = some j ∧ (s.ctx j).st = .authorise ∧ (s.ctx j).authorised = false) ∧
    (∃ (s : State) (c : Cmd) (k : Nat) (ident : List Byte), s.ready c 0x0503 ∧ s.noKind 1 = false ∧ ident.length ≤ 24 ∧ k ≤ 255 ∧
     (s.cBridged k).used = true ∧ s.vlk.weldB.contains k = false ∧ s.vlk.preBridged.any (fun x => x.1 = k) = false ∧ (∀ j,
     s.bridgedCtx k = some j → s.preLate j = false ∧ (s.ctx j).st ≠ .authorise)) ∧
    (∃ (s : State) (c : Cmd) (k : Nat) (reason : Nat), s.ready c 0x0504 ∧ (127 < k ∨ (reason ≠ 1 ∧ reason ≠ 2))) ∧
    (∃ (s : State) (c : Cmd) (k : Nat) (reason : Nat), s.ready c 0x0504 ∧ k ≤ 127 ∧ (reason = 1 ∨ reason = 2)) ∧
    (∃ (s : State) (c : Cmd) (k : Nat), s.ready c 0x0505 ∧ 127 < k) ∧
    (∃ (s : State) (c : Cmd) (k : Nat), s.ready c 0x0505 ∧ k ≤ 127) ∧
    (∃ (s : State) (c : Cmd) (k : Nat), s.ready c 0x0506 ∧ 127 < k) ∧
    (∃ (s : State) (c : Cmd) (k : Nat), s.ready c 0x0506 ∧ k ≤ 127) ∧
    (∃ (s : State) (c : Cmd) (br : Nat), s.ready c 0x0507 ∧ 1 < br) ∧
    (∃ (s : State) (c : Cmd) (br : Nat), s.ready c 0x0507 ∧ br ≤ 1 ∧ s.noKind br = true) ∧
    (∃ (s : State) (c : Cmd) (br : Nat), s.ready c 0x0507 ∧ br ≤ 1 ∧ s.noKind br = false ∧ s.key.lc ≠ .service) ∧
    (∃ (s : State) (c : Cmd) (k : Nat) (br : Nat), s.ready c 0x0507 ∧ br ≤ 1 ∧ s.noKind br = false ∧ s.key.lc = .service ∧
     s.weldClearable br k = false) ∧
    (∃ (s : State) (c : Cmd) (k : Nat) (br : Nat), s.ready c 0x0507 ∧ br ≤ 1 ∧ s.noKind br = false ∧ s.key.lc = .service ∧
     s.weldClearable br k = true) ∧
    (∃ (s : State) (k : Nat) (i : Nat), (s.ctx k).st = .authorise ∧ (s.ctx k).slot = some i) :=
  ⟨⟨{ live with img.struct_.role := .hub }, {}, ready_of (by decide +kernel), by decide +kernel⟩,
   ⟨live, {}, 0, 3, ready_of (by decide +kernel), by decide +kernel⟩,
   ⟨live, {}, 0, ready_of (by decide +kernel), by decide +kernel⟩,
   ⟨live, {}, 128, 0, ready_of (by decide +kernel), by decide +kernel⟩,
   ⟨live, {}, 127, 0, 1, ready_of (by decide +kernel), by decide +kernel⟩,
   ⟨(live |>.modCtx 127 (fun x => { x with st := .authorise, reqOut := some 0 })), {}, 127, 0, ready_of
     (by decide +kernel), by decide +kernel⟩,
   ⟨live, {}, 2, ready_of (by decide +kernel), by decide +kernel⟩,
   ⟨{ live with img.struct_.role := .post }, {}, 1, ready_of (by decide +kernel), by decide +kernel⟩,
   ⟨live, {}, 0, 1, [], ready_of (by decide +kernel), by decide +kernel⟩,
   ⟨live, {}, 0, [], ready_of (by decide +kernel), by decide +kernel⟩,
   ⟨(live |>.modBay 0 (fun x => { x with inService := true }) |>.modCtx 0 (fun x => { x with st := .free })), {}, 0, [],
     ready_of (by decide +kernel), by decide +kernel⟩,
   ⟨(live |>.modBay 0 (fun x => { x with inService := true }) |>.modCtx 0 (fun x => { x with st := .authorise })), {}, 0,
     [], ready_of (by decide +kernel), by decide +kernel⟩,
   ⟨{ bridged with vlk.weldB := [3] }, {}, 3, [], ready_of (by decide +kernel), by decide +kernel⟩,
   ⟨(bridged |>.modCtx 8 (fun x => { x with authorised := true })), {}, 3, [], 8, ready_of (by decide +kernel),
     by decide +kernel⟩,
   ⟨(bridged |>.modCtx 8 (fun x => { x with st := .authorise })), {}, 3, [], 8, ready_of (by decide +kernel),
     by decide +kernel⟩,
   ⟨tunnelled, {}, 3, [], ready_of (by decide +kernel),
     together6 (by decide +kernel) (by intro j h; rw [show State.bridgedCtx _ 3 = none from by decide +kernel] at h; cases h)⟩,
   ⟨live, {}, 128, 0, ready_of (by decide +kernel), by decide +kernel⟩,
   ⟨live, {}, 127, 1, ready_of (by decide +kernel), by decide +kernel⟩,
   ⟨live, {}, 128, ready_of (by decide +kernel), by decide +kernel⟩,
   ⟨live, {}, 127, ready_of (by decide +kernel), by decide +kernel⟩,
   ⟨live, {}, 128, ready_of (by decide +kernel), by decide +kernel⟩,
   ⟨live, {}, 127, ready_of (by decide +kernel), by decide +kernel⟩,
   ⟨live, {}, 2, ready_of (by decide +kernel), by decide +kernel⟩,
   ⟨{ live with img.struct_.role := .post }, {}, 1, ready_of (by decide +kernel), by decide +kernel⟩,
   ⟨live, {}, 1, ready_of (by decide +kernel), by decide +kernel⟩,
   ⟨{ live with key.lc := .service }, {}, 0, 1, ready_of (by decide +kernel), by decide +kernel⟩,
   ⟨{ tunnelled with key.lc := .service, vlk.weldB := [3] }, {}, 3, 1, ready_of (by decide +kernel), by decide +kernel⟩,
   ⟨(live |>.modCtx 0 (fun x => { x with st := .authorise, slot := some 0 })), 0, 0, by decide +kernel⟩⟩

theorem witness_LinkAndTunnelAct :
    (∃ (s : State) (c : Cmd) (k : Nat), s.ready c 0x0508 ∧ 127 < k) ∧
    (∃ (s : State) (c : Cmd) (k : Nat), s.ready c 0x0508 ∧ k ≤ 127) ∧
    (∃ (s : State) (c : Cmd) (k : Nat), s.ready c 0x0509 ∧ 127 < k) ∧
    (∃ (s : State) (c : Cmd) (k : Nat), s.ready c 0x0509 ∧ k ≤ 127 ∧ ((s.ctx k).st.ctorIdx < 4 ∨ (s.ctx k).chainOk = false)) ∧
    (∃ (s : State) (c : Cmd) (k : Nat) (dst : Nat) (size : Nat), s.ready c 0x0509 ∧ k ≤ 127 ∧ 4 ≤ (s.ctx k).st.ctorIdx ∧ (s.ctx
     k).chainOk = true ∧ (size < 2400 ∨ dstOk dst size = false)) ∧
    (∃ (s : State) (c : Cmd) (k : Nat) (dst : Nat) (size : Nat), s.ready c 0x0509 ∧ k ≤ 127 ∧ 4 ≤ (s.ctx k).st.ctorIdx ∧ (s.ctx
     k).chainOk = true ∧ 2400 ≤ size ∧ dstOk dst size = true) ∧
    (∃ (s : State) (c : Cmd), s.ready c 0x050A ∧ s.key.lc ≠ .field ∧ s.key.lc ≠ .service) ∧
    (∃ (s : State) (c : Cmd) (kind : Nat) (wf : Bool) (der : List Byte), s.ready c 0x050A ∧ (s.key.lc = .field ∨ s.key.lc =
     .service) ∧ ((kind ≠ 1 ∧ kind ≠ 2) ∨ wf = false ∨ der.length = 0 ∨ 1024 < der.length)) ∧
    (∃ (s : State) (c : Cmd) (kind : Nat) (der : List Byte), s.ready c 0x050A ∧ (s.key.lc = .field ∨ s.key.lc = .service) ∧ (kind
     = 1 ∨ kind = 2) ∧ 1 ≤ der.length ∧ der.length ≤ 1024 ∧ s.freeRoot = none) ∧
    (∃ (s : State) (c : Cmd) (kind : Nat) (der : List Byte) (i : Nat), s.ready c 0x050A ∧ (s.key.lc = .field ∨ s.key.lc =
     .service) ∧ (kind = 1 ∨ kind = 2) ∧ 1 ≤ der.length ∧ der.length ≤ 1024 ∧ s.freeRoot = some i) ∧
    (∃ (s : State) (c : Cmd), s.ready c 0x050B ∧ s.key.lc ≠ .field ∧ s.key.lc ≠ .service) ∧
    (∃ (s : State) (c : Cmd) (i : Nat), s.ready c 0x050B ∧ (s.key.lc = .field ∨ s.key.lc = .service) ∧ (31 < i ∨ (tget ({} :
     Root) s.vlk.roots i).kind = 0)) ∧
    (∃ (s : State) (c : Cmd) (i : Nat), s.ready c 0x050B ∧ (s.key.lc = .field ∨ s.key.lc = .service) ∧ i ≤ 31 ∧ (tget ({} : Root)
     s.vlk.roots i).kind ≠ 0) ∧
    (∃ (s : State) (f : TunFrame), s.sys.inReset = false ∧ f.ver ≠ 1) ∧
    (∃ (s : State) (f : TunFrame), s.sys.inReset = false ∧ f.ver ≠ 1) ∧
    (∃ (s : State) (f : TunFrame), s.sys.inReset = false ∧ f.ver = 1 ∧ (s.satCfg f.sat = none ∨ ∃ b, s.satCfg f.sat = some b ∧
     (s.keyFor b.slot 2 = false ∨ f.signer ≠ (s.slot b.slot).key ∨ 1518 < f.payload.length ∨ (tget ({} : Window) s.vlk.tunRx
     f.sat).fresh 64 f.ctr = false))) ∧
    (∃ (s : State) (f : TunFrame) (b : BridgedCfg), s.sys.inReset = false ∧ f.ver = 1 ∧ s.satCfg f.sat = some b ∧ s.keyFor b.slot
     2 = true ∧ f.signer = (s.slot b.slot).key ∧ f.payload.length ≤ 1518 ∧ (tget ({} : Window) s.vlk.tunRx f.sat).fresh 64 f.ctr =
     true) ∧
    (∃ (s : State) (f : TunFrame) (g : TunFrame), (s.tunTake f).2 = true ∧ g.sat = f.sat ∧ g.ctr = f.ctr) :=
  ⟨⟨live, {}, 128, ready_of (by decide +kernel), by decide +kernel⟩,
   ⟨live, {}, 127, ready_of (by decide +kernel), by decide +kernel⟩,
   ⟨live, {}, 128, ready_of (by decide +kernel), by decide +kernel⟩,
   ⟨live, {}, 127, ready_of (by decide +kernel), by decide +kernel⟩,
   ⟨live.modCtx 127 (fun x => { x with st := .authorise, chainOk := true }), {}, 127, 0x800000, 2399, ready_of
     (by decide +kernel), by decide +kernel⟩,
   ⟨(live |>.modCtx 127 (fun x => { x with chainOk := true, st := .authorise })), {}, 127, 0x800000, 2400, ready_of
     (by decide +kernel), by decide +kernel⟩,
   ⟨({ live with key.lc := .manufacture } : State), {}, ready_of (by decide +kernel), by decide +kernel⟩,
   ⟨live, {}, 0, false, [], ready_of (by decide +kernel), by decide +kernel⟩,
   ⟨{ live with vlk.roots := rows 32 (fun _ => { kind := 1 }) }, {}, 1, [0], ready_of (by decide +kernel),
     by decide +kernel⟩,
   ⟨live, {}, 1, [0], 0, ready_of (by decide +kernel), by decide +kernel⟩,
   ⟨{ live with key.lc := .personalised }, {}, ready_of (by decide +kernel), by decide +kernel⟩,
   ⟨live, {}, 32, ready_of (by decide +kernel), by decide +kernel⟩,
   ⟨{ live with vlk.roots := [(31, { kind := 1 })] }, {}, 31, ready_of (by decide +kernel), by decide +kernel⟩,
   ⟨live, { ver := 2 }, by decide +kernel⟩,
   ⟨live, { ver := 2 }, by decide +kernel⟩,
   ⟨live, {}, by decide +kernel⟩,
   ⟨tunnelled, { sat := 9, signer := 7, bb := 3 }, { used := true, sat := 9, slot := 48 }, by decide +kernel⟩,
   ⟨tunnelled, { sat := 9, signer := 7 }, { bb := 1, sat := 9 }, by decide +kernel⟩⟩

theorem witness_YarderEventsAct :
    (∃ (s : State), s.awake = true ∧ s.allocates = true) ∧
    (∃ (s : State), s.awake = true ∧ s.allocates = false) ∧
    (∃ (s : State), s.awake = true) ∧
    (∃ (s : State) (n : Nat), s.awake = true ∧ (s.node n).sw = .releasing ∧ (s.node n).swFault = false) ∧
    (∃ (s : State) (n : Nat), s.awake = true ∧ ((s.node n).sw ≠ .releasing ∨ (s.node n).swFault = true)) ∧
    (∃ (s : State), s.awake = true ∧ s.yrd.clientHold = true ∧ s.yrd.clientRamp = false) ∧
    (∃ (s : State), s.awake = true ∧ (s.yrd.clientHold = false ∨ s.yrd.clientRamp = true)) ∧
    (∃ (s : State), s.awake = true ∧ s.isClient = true ∧ (s.cConn s.img.net.hub).used = true ∧ (s.cConn s.img.net.hub).tx = true
     ∧ (s.conn s.img.net.hub).st = .opened) ∧
    (∃ (s : State), s.awake = true ∧ (s.isClient = false ∨ (s.cConn s.img.net.hub).used = false ∨ (s.cConn s.img.net.hub).tx =
     false ∨ (s.conn s.img.net.hub).st ≠ .opened)) ∧
    (∃ (a : Int) (v : Rat), 0 < v ∧ 0 < a) :=
  ⟨⟨live, by decide +kernel⟩,
   ⟨{ live with net.ring := .conflict }, by decide +kernel⟩,
   ⟨live, by decide +kernel⟩,
   ⟨(live |>.modNode 0 (fun x => { x with sw := .releasing })), 0, by decide +kernel⟩,
   ⟨live, 0, by decide +kernel⟩,
   ⟨{ live with yrd.clientHold := true }, by decide +kernel⟩,
   ⟨live, by decide +kernel⟩,
   ⟨{ live with img.net.hub := 1, img.struct_.role := .post, img.bays := rows 1 (fun _ => { enabled := true }) },
     by decide +kernel⟩,
   ⟨live, by decide +kernel⟩,
   ⟨1, 1, by decide +kernel⟩⟩

theorem witness_YarderCommandsComplete :
    (∃ (s : State) (c : Cmd) (n : Nat), s.allocates = true ∧ s.img.yarder.count ≤ n ∧ s.ready c 0x0601) ∧
    (∃ (s : State) (c : Cmd) (n : Nat), s.allocates = true ∧ s.img.yarder.count ≤ n ∧ s.ready c 0x0602) ∧
    (∃ (s : State) (c : Cmd) (n : Nat), s.allocates = true ∧ s.img.yarder.count ≤ n ∧ s.ready c 0x0603) ∧
    (∃ (s : State) (c : Cmd) (n : Nat), s.allocates = true ∧ s.img.yarder.count ≤ n ∧ s.ready c 0x0604) ∧
    (∃ (s : State) (c : Cmd) (n : Nat), s.allocates = true ∧ s.img.yarder.count ≤ n ∧ s.ready c 0x0605) ∧
    (∃ (s : State) (c : Cmd) (n : Nat), s.allocates = true ∧ s.img.yarder.count ≤ n ∧ s.ready c 0x0606) ∧
    (∃ (s : State) (c : Cmd) (n : Nat), s.allocates = true ∧ n < s.img.yarder.count ∧ s.ready c 0x0601) ∧
    (∃ (s : State) (c : Cmd) (n : Nat) (l : Word), s.allocates = true ∧ n < s.img.yarder.count ∧ s.ready c 0x0602 ∧ ((s.cNode
     n).typ = .module ∨ (s.cNode n).typ = .pv ∨ (l ≠ 0xFFFFFFFF ∧ (if (s.cNode n).typ = .outlet then (s.cNode n).iMax else
     (s.cNode n).pMax) < l.toNat))) ∧
    (∃ (s : State) (c : Cmd) (n : Nat) (l : Word), s.allocates = true ∧ n < s.img.yarder.count ∧ s.ready c 0x0602 ∧ (s.cNode
     n).typ ≠ .module ∧ (s.cNode n).typ ≠ .pv ∧ (l = 0xFFFFFFFF ∨ l.toNat ≤ (if (s.cNode n).typ = .outlet then (s.cNode n).iMax
     else (s.cNode n).pMax))) ∧
    (∃ (s : State) (c : Cmd) (n : Nat), s.allocates = true ∧ n < s.img.yarder.count ∧ s.ready c 0x0603) ∧
    (∃ (s : State) (c : Cmd) (n : Nat), s.allocates = true ∧ n < s.img.yarder.count ∧ s.ready c 0x0604) ∧
    (∃ (s : State) (c : Cmd) (n : Nat), s.allocates = true ∧ n < s.img.yarder.count ∧ s.ready c 0x0605) ∧
    (∃ (s : State) (c : Cmd) (n : Nat) (b : Nat), s.allocates = true ∧ n < s.img.yarder.count ∧ s.ready c 0x0606 ∧ ((s.cNode
     n).typ ≠ .module ∨ 1 < b)) ∧
    (∃ (s : State) (c : Cmd) (n : Nat), s.allocates = true ∧ n < s.img.yarder.count ∧ s.ready c 0x0606 ∧ (s.cNode n).typ =
     .module) ∧
    (∃ (s : State) (c : Cmd), s.allocates = true ∧ s.ready c 0x0607 ∧ 0 < s.img.yarder.count) ∧
    (∃ (i : Instr) (c : Cmd) (op : Nat) (s : State), i.posted = some (c, op) ∧ op / 256 = 6 ∧ s.ready c op ∧ s.allocates = false) :=
  ⟨⟨live, {}, 8, by decide +kernel, by decide +kernel, ready_of (by decide +kernel)⟩,
   ⟨live, {}, 8, by decide +kernel, by decide +kernel, ready_of (by decide +kernel)⟩,
   ⟨live, {}, 8, by decide +kernel, by decide +kernel, ready_of (by decide +kernel)⟩,
   ⟨live, {}, 8, by decide +kernel, by decide +kernel, ready_of (by decide +kernel)⟩,
   ⟨live, {}, 8, by decide +kernel, by decide +kernel, ready_of (by decide +kernel)⟩,
   ⟨live, {}, 8, by decide +kernel, by decide +kernel, ready_of (by decide +kernel)⟩,
   ⟨live, {}, 0, by decide +kernel, by decide +kernel, ready_of (by decide +kernel)⟩,
   ⟨(live |>.cfgNode 0 (fun x => { x with typ := .module })), {}, 0, 0, by decide +kernel, by decide +kernel, ready_of
     (by decide +kernel), by decide +kernel⟩,
   ⟨live, {}, 0, 4294967295, by decide +kernel, by decide +kernel, ready_of (by decide +kernel), by decide +kernel⟩,
   ⟨live, {}, 0, by decide +kernel, by decide +kernel, ready_of (by decide +kernel)⟩,
   ⟨live, {}, 0, by decide +kernel, by decide +kernel, ready_of (by decide +kernel)⟩,
   ⟨live, {}, 0, by decide +kernel, by decide +kernel, ready_of (by decide +kernel)⟩,
   ⟨live, {}, 0, 0, by decide +kernel, by decide +kernel, ready_of (by decide +kernel), by decide +kernel⟩,
   ⟨(live |>.cfgNode 0 (fun x => { x with typ := .module })), {}, 0, by decide +kernel, by decide +kernel, ready_of
     (by decide +kernel), by decide +kernel⟩,
   ⟨live, {}, by decide +kernel, ready_of (by decide +kernel), by decide +kernel⟩,
   ⟨.yrdSnapshot {} 0, {}, 0x0607, { live with net.ring := .conflict }, rfl, by decide +kernel, ready_of
     (by decide +kernel), by decide +kernel⟩⟩

theorem witness_PortsLinksAndMastersAct :
    (∃ (s : State) (n : Nat), n < 2 ∧ s.awake = true) ∧
    (∃ (s : State) (n : Nat), n < 2 ∧ s.awake = true) ∧
    (∃ (s : State) (n : Nat) (up : Bool), n < 2 ∧ s.awake = true ∧ s.net.ring = .down ∧ (up = true ∨ (n = 0 ∧ s.net.boom1 = true)
     ∨ (n = 1 ∧ s.net.boom0 = true))) ∧
    (∃ (s : State) (n : Nat), n < 2 ∧ s.awake = true ∧ (if n = 0 then s.net.boom1 else s.net.boom0) = false ∧ s.net.ring ≠ .down) ∧
    (∃ (s : State) (n : Nat) (up : Bool), n < 2 ∧ s.awake = true ∧ s.net.ring ≠ .down ∧ (up = true ∨ (n = 0 ∧ s.net.boom1 = true)
     ∨ (n = 1 ∧ s.net.boom0 = true))) ∧
    (∃ (s : State) (n : Nat), n < 2 ∧ s.awake = true) ∧
    (∃ (s : State) (d : DiscFrame), s.awake = true ∧ d =
     { ident := s.key.devId, pair := s.img.stack.pair, epoch := s.net.epoch, verLo := 0, verHi := 2, minor := if s.net.verMajor = 0 then 2 else s.net.verMinor }
     ∧ s.stackMaster = true) ∧
    (∃ (s : State) (d : DiscFrame), s.awake = true ∧ d =
     { ident := s.key.devId, pair := s.img.stack.pair, epoch := s.net.epoch, verLo := 0, verHi := 2, minor := if s.net.verMajor = 0 then 2 else s.net.verMinor }
     ∧ s.stackMaster = false) ∧
    (∃ (s : State) (d : DiscFrame), s.awake = true ∧ d =
     { ident := s.key.devId, pair := s.img.stack.pair, epoch := s.net.epoch, verLo := 0, verHi := 2, minor := if s.net.verMajor = 0 then 2 else s.net.verMinor }
     ∧ s.activeMaster = true ∧ s.ringTalks = true) ∧
    (∃ (s : State) (d : DiscFrame), s.awake = true ∧ d =
     { ident := s.key.devId, pair := s.img.stack.pair, epoch := s.net.epoch, verLo := 0, verHi := 2, minor := if s.net.verMajor = 0 then 2 else s.net.verMinor }
     ∧ (s.activeMaster = false ∨ s.ringTalks = false)) ∧
    (∃ (s : State) (c : Cmd) (d : DiscFrame), s.awake = true ∧ d =
     { ident := s.key.devId, pair := s.img.stack.pair, epoch := s.net.epoch, verLo := 0, verHi := 2, minor := if s.net.verMajor = 0 then 2 else s.net.verMinor }
     ∧ s.ready c 0x1402 ∧ s.stackMaster = true) ∧
    (∃ (s : State) (c : Cmd) (d : DiscFrame), s.awake = true ∧ d =
     { ident := s.key.devId, pair := s.img.stack.pair, epoch := s.net.epoch, verLo := 0, verHi := 2, minor := if s.net.verMajor = 0 then 2 else s.net.verMinor }
     ∧ s.ready c 0x1402 ∧ s.stackMaster = false) :=
  ⟨⟨live, 1, by decide +kernel⟩,
   ⟨live, 1, by decide +kernel⟩,
   ⟨{ live with net.ring := .down }, 1, true, by decide +kernel⟩,
   ⟨{ live with net.boom1 := true, net.boom0 := false, net.ring := .up }, 1, by decide +kernel⟩,
   ⟨{ live with net.boom1 := true, net.boom0 := false, net.ring := .up }, 1, true, by decide +kernel⟩,
   ⟨live, 1, by decide +kernel⟩,
   ⟨{ stacked with sys.straps.boomMstr := true },
     { ident := ({ stacked with sys.straps.boomMstr := true } : State).key.devId, pair := ({ stacked with sys.straps.boomMstr := true } : State).img.stack.pair, epoch := ({ stacked with sys.straps.boomMstr := true } : State).net.epoch, verLo := 0, verHi := 2, minor := if ({ stacked with sys.straps.boomMstr := true } : State).net.verMajor = 0 then 2 else ({ stacked with sys.straps.boomMstr := true } : State).net.verMinor },
     by decide +kernel⟩,
   ⟨live,
     { ident := live.key.devId, pair := live.img.stack.pair, epoch := live.net.epoch, verLo := 0, verHi := 2, minor := if live.net.verMajor = 0 then 2 else live.net.verMinor },
     by decide +kernel⟩,
   ⟨{ live with img.stack.present := true, net.ring := .up, sys.straps.boomMstr := true }, { ident := 77 },
     by decide +kernel⟩,
   ⟨live,
     { ident := live.key.devId, pair := live.img.stack.pair, epoch := live.net.epoch, verLo := 0, verHi := 2, minor := if live.net.verMajor = 0 then 2 else live.net.verMinor },
     by decide +kernel⟩,
   ⟨{ stacked with sys.straps.boomMstr := true }, {},
     { ident := ({ stacked with sys.straps.boomMstr := true } : State).key.devId, pair := ({ stacked with sys.straps.boomMstr := true } : State).img.stack.pair, epoch := ({ stacked with sys.straps.boomMstr := true } : State).net.epoch, verLo := 0, verHi := 2, minor := if ({ stacked with sys.straps.boomMstr := true } : State).net.verMajor = 0 then 2 else ({ stacked with sys.straps.boomMstr := true } : State).net.verMinor },
     by decide +kernel, by decide +kernel, ready_of (by decide +kernel), by decide +kernel⟩,
   ⟨live, {},
     { ident := live.key.devId, pair := live.img.stack.pair, epoch := live.net.epoch, verLo := 0, verHi := 2, minor := if live.net.verMajor = 0 then 2 else live.net.verMinor },
     by decide +kernel, by decide +kernel, ready_of (by decide +kernel), by decide +kernel⟩⟩

theorem witness_PairAndHeartbeatsAct :
    (∃ (s : State) (hb : Heartbeat), s.awake = true ∧ s.img.stack.present = true ∧ (s.ringTalks = false ∨ (s.net.pair = .active ∧
     serialAfter hb.epoch s.net.epoch = false ∧ (hb.epoch ≠ s.net.epoch ∨ s.sys.straps.pairB = false ∨ hb.pairB = true)) ∨
     (s.net.pair = .handover ∧ hb.epoch ≠ s.net.epoch + 1) ∨ (s.net.pair ≠ .active ∧ s.net.pair ≠ .handover ∧ (s.activeMaster =
     true ∨ serialAfter s.net.epoch hb.epoch = true ∨ s.yields hb = true)))) ∧
    (∃ (s : State) (hb : Heartbeat), s.awake = true ∧ s.img.stack.present = true ∧ s.ringTalks = true ∧ s.net.pair ≠ .active ∧
     s.net.pair ≠ .handover ∧ s.activeMaster = false ∧ serialAfter s.net.epoch hb.epoch = false ∧ s.yields hb = false) ∧
    (∃ (s : State) (hb : Heartbeat), s.awake = true ∧ s.img.stack.present = true ∧ s.ringTalks = true ∧ s.net.pair = .active ∧
     (serialAfter hb.epoch s.net.epoch = true ∨ (hb.epoch = s.net.epoch ∧ s.sys.straps.pairB = true ∧ hb.pairB = false))) ∧
    (∃ (s : State) (hb : Heartbeat), s.awake = true ∧ s.img.stack.present = true ∧ s.ringTalks = true ∧ s.net.pair = .handover ∧
     hb.epoch = s.net.epoch + 1) ∧
    (∃ (s : State), s.awake = true ∧ s.img.stack.present = true ∧ s.activeMaster = false ∧ s.net.pair ≠ .handover ∧
     s.net.rejected = false) ∧
    (∃ (s : State), s.awake = true ∧ s.img.stack.present = true ∧ (s.activeMaster = true ∨ s.net.pair = .handover ∨
     s.net.rejected = true)) ∧
    (∃ (s : State), s.awake = true ∧ s.img.stack.present = true ∧ s.stackMaster = true ∧ s.net.pair = .synced ∧ (s.net.masterSeen
     = false ∨ s.net.handoverSeen = true)) ∧
    (∃ (s : State), s.awake = true ∧ s.img.stack.present = true ∧ (s.stackMaster = false ∨ s.net.pair ≠ .synced ∨
     (s.net.masterSeen = true ∧ s.net.handoverSeen = false))) ∧
    (∃ (s : State), s.awake = true ∧ s.img.stack.present = true ∧ s.net.pair = .handover) ∧
    (∃ (s : State), s.awake = true ∧ s.img.stack.present = true ∧ s.net.pair ≠ .handover) ∧
    (∃ (s : State) (c : Cmd), s.awake = true ∧ s.img.stack.present = true ∧ s.ready c 0x1401 ∧ s.net.pair = .active ∧
     s.stackMaster = true ∧ s.net.peerSynced = true ∧ s.net.ring ≠ .conflict) ∧
    (∃ (s : State) (c : Cmd), s.awake = true ∧ s.img.stack.present = true ∧ s.ready c 0x1401 ∧ (s.net.pair ≠ .active ∨
     s.stackMaster = false ∨ s.net.peerSynced = false ∨ s.net.ring = .conflict)) ∧
    (∃ (s : State), s.awake = true ∧ s.img.stack.present = true) :=
  ⟨⟨{ live with img.stack.present := true }, {}, by decide +kernel⟩,
   ⟨{ live with img.stack.present := true, net.ring := .up }, { epoch := 1 }, by decide +kernel⟩,
   ⟨{ live with img.stack.present := true, net.pair := .active, net.ring := .up }, { epoch := 1 }, by decide +kernel⟩,
   ⟨{ live with img.stack.present := true, net.pair := .handover, net.ring := .up }, { epoch := 1 }, by decide +kernel⟩,
   ⟨{ live with img.stack.present := true }, by decide +kernel⟩,
   ⟨{ live with img.stack.present := true, net.pair := .handover }, by decide +kernel⟩,
   ⟨{ live with img.stack.present := true, net.pair := .synced, sys.straps.boomMstr := true }, by decide +kernel⟩,
   ⟨{ live with img.stack.present := true }, by decide +kernel⟩,
   ⟨{ live with img.stack.present := true, net.pair := .handover }, by decide +kernel⟩,
   ⟨{ live with img.stack.present := true }, by decide +kernel⟩,
   ⟨{ live with img.stack.present := true, net.pair := .active, net.peerSynced := true, sys.straps.boomMstr := true }, {},
     by decide +kernel, by decide +kernel, ready_of (by decide +kernel), by decide +kernel⟩,
   ⟨{ live with img.stack.present := true }, {}, by decide +kernel, by decide +kernel, ready_of (by decide +kernel),
     by decide +kernel⟩,
   ⟨{ live with img.stack.present := true }, by decide +kernel⟩⟩

theorem witness_RingAndMirrorFollowFrames :
    (∃ (s : State), s.awake = true ∧ s.img.stack.present = true ∧ (s.net.boom0 = true ∨ s.net.boom1 = true) ∧ s.stackMaster =
     true ∧ s.net.rejected = false) ∧
    (∃ (s : State) (v : DiscView), s.awake = true ∧ s.img.stack.present = true ∧ (s.net.boom0 = true ∨ s.net.boom1 = true) ∧
     s.stackMaster = false ∧ (s.devNum = 0 ∨ tget 0 v.members s.devNum ≠ s.key.devId ∨ 2 < v.minor)) ∧
    (∃ (s : State) (v : DiscView), s.awake = true ∧ s.img.stack.present = true ∧ (s.net.boom0 = true ∨ s.net.boom1 = true) ∧
     s.stackMaster = false ∧ s.devNum ≠ 0 ∧ tget 0 v.members s.devNum = s.key.devId ∧ v.minor ≤ 2 ∧ s.net.pair = .none) ∧
    (∃ (s : State) (v : DiscView), s.awake = true ∧ s.img.stack.present = true ∧ (s.net.boom0 = true ∨ s.net.boom1 = true) ∧ 2 ≤
     v.masters ∧ v.pairOk = false) ∧
    (∃ (s : State) (v : DiscView), s.awake = true ∧ s.img.stack.present = true ∧ (s.net.boom0 = true ∨ s.net.boom1 = true) ∧
     v.masters = 0) ∧
    (∃ (s : State) (v : DiscView), s.awake = true ∧ s.img.stack.present = true ∧ (s.net.boom0 = true ∨ s.net.boom1 = true) ∧
     (v.masters = 1 ∨ (2 ≤ v.masters ∧ v.pairOk = true)) ∧ v.complete = false) ∧
    (∃ (s : State) (v : DiscView), s.awake = true ∧ s.img.stack.present = true ∧ (s.net.boom0 = true ∨ s.net.boom1 = true) ∧
     (v.masters = 1 ∨ (2 ≤ v.masters ∧ v.pairOk = true)) ∧ v.complete = true ∧ v.reachable = false) ∧
    (∃ (s : State) (v : DiscView), s.awake = true ∧ s.img.stack.present = true ∧ (s.net.boom0 = true ∨ s.net.boom1 = true) ∧
     (v.masters = 1 ∨ (2 ≤ v.masters ∧ v.pairOk = true)) ∧ v.complete = true ∧ v.reachable = true) ∧
    (∃ (s : State) (v : DiscView), s.awake = true ∧ s.img.stack.present = true ∧ (s.net.boom0 = true ∨ s.net.boom1 = true) ∧
     ((s.net.ring = .conflict ∧ 1 ≤ v.masters ∧ ringOf v ≠ .conflict) ∨ (s.net.ring = .forming ∧ ringOf v = .up)) ∧
     s.net.candidate ≠ some (ringOf v)) ∧
    (∃ (s : State) (v : DiscView), s.awake = true ∧ s.img.stack.present = true ∧ (s.net.boom0 = true ∨ s.net.boom1 = true) ∧
     ((s.net.ring = .conflict ∧ 1 ≤ v.masters ∧ ringOf v ≠ .conflict) ∨ (s.net.ring = .forming ∧ ringOf v = .up)) ∧
     s.net.candidate = some (ringOf v)) ∧
    (∃ (s : State) (v : DiscView), s.awake = true ∧ s.img.stack.present = true ∧ (s.net.boom0 = true ∨ s.net.boom1 = true) ∧
     s.net.ring = .conflict ∧ v.masters = 0) ∧
    (∃ (s : State) (v : DiscView), s.awake = true ∧ s.img.stack.present = true ∧ (s.net.boom0 = true ∨ s.net.boom1 = true) ∧
     s.net.ring ≠ .conflict ∧ (s.net.ring ≠ .forming ∨ ringOf v ≠ .up)) ∧
    (∃ (s : State) (f : MirrorFrame), s.awake = true ∧ s.img.stack.present = true ∧ (s.net.boom0 = true ∨ s.net.boom1 = true) ∧
     (s.ringTalks = false ∨ 3 ≤ f.kind ∨ (s.net.pair ≠ .syncing ∧ s.net.pair ≠ .synced))) ∧
    (∃ (s : State) (f : MirrorFrame), s.awake = true ∧ s.img.stack.present = true ∧ (s.net.boom0 = true ∨ s.net.boom1 = true) ∧
     (s.net.pair = .syncing ∨ s.net.pair = .synced) ∧ f.kind < 3 ∧ s.ringTalks = true ∧ f.gap = true) ∧
    (∃ (s : State) (f : MirrorFrame), s.awake = true ∧ s.img.stack.present = true ∧ (s.net.boom0 = true ∨ s.net.boom1 = true) ∧
     (s.net.pair = .syncing ∨ s.net.pair = .synced) ∧ f.kind < 3 ∧ s.ringTalks = true ∧ f.gap = false) ∧
    (∃ (s : State) (w : State), s.awake = true ∧ s.img.stack.present = true ∧ (s.net.boom0 = true ∨ s.net.boom1 = true) ∧ w =
     { s with net := { s.net with boom0 := false, boom1 := false } }) :=
  ⟨⟨{ live with img.stack.present := true, net.boom0 := true, sys.straps.boomMstr := true }, by decide +kernel⟩,
   ⟨{ live with img.stack.present := true, net.boom0 := true }, {}, by decide +kernel⟩,
   ⟨{ live with img.stack.present := true, net.boom0 := true, img.struct_.devNum := 7 }, { members := [(7, 77)] },
     by decide +kernel⟩,
   ⟨{ live with img.stack.present := true, net.boom0 := true }, { masters := 2 }, by decide +kernel⟩,
   ⟨{ live with img.stack.present := true, net.boom0 := true }, { masters := 0 }, by decide +kernel⟩,
   ⟨{ live with img.stack.present := true, net.boom0 := true }, { complete := false }, by decide +kernel⟩,
   ⟨{ live with img.stack.present := true, net.boom0 := true }, { reachable := false }, by decide +kernel⟩,
   ⟨{ live with img.stack.present := true, net.boom0 := true }, {}, by decide +kernel⟩,
   ⟨{ live with img.stack.present := true, net.boom0 := true, net.ring := .conflict }, {}, by decide +kernel⟩,
   ⟨{ live with img.stack.present := true, net.boom0 := true, net.ring := .conflict, net.candidate := some (ringOf ({})) },
     {}, by decide +kernel⟩,
   ⟨{ live with img.stack.present := true, net.boom0 := true, net.ring := .conflict }, { masters := 0 }, by decide +kernel⟩,
   ⟨{ live with img.stack.present := true, net.boom0 := true }, {}, by decide +kernel⟩,
   ⟨{ live with img.stack.present := true, net.boom0 := true }, {}, by decide +kernel⟩,
   ⟨{ live with img.stack.present := true, net.boom0 := true, net.ring := .up, net.pair := .syncing },
     { kind := 2, gap := true }, by decide +kernel⟩,
   ⟨{ live with img.stack.present := true, net.boom0 := true, net.ring := .up, net.pair := .syncing }, { kind := 2 },
     by decide +kernel⟩,
   ⟨{ live with img.stack.present := true, net.boom0 := true },
     { ({ live with img.stack.present := true, net.boom0 := true } : State) with net := { ({ live with img.stack.present := true, net.boom0 := true } : State).net with boom0 := false, boom1 := false } },
     by decide +kernel⟩⟩

theorem witness_SamplesFeedTheTick :
    (∃ (s : State), s.awake = false) ∧
    (∃ (s : State), s.awake = false) ∧
    (∃ (s : State), s.awake = true ∧ s.scl.fill < 16) ∧
    (∃ (s : State), s.awake = true ∧ 16 ≤ s.scl.fill) ∧
    (∃ (s : State), s.awake = true) :=
  ⟨⟨State.reset, by decide +kernel⟩,
   ⟨State.reset, by decide +kernel⟩,
   ⟨live, by decide +kernel⟩,
   ⟨{ live with scl.fill := 16 }, by decide +kernel⟩,
   ⟨live, by decide +kernel⟩⟩

theorem witness_MeteringChecksAct :
    (∃ (s : State) (n : Nat) (ch : MChan), s.awake = true ∧ n < 8 ∧ (s.cBay n).enabled = true ∧ chanOn (s.cMeter n) ch = false) ∧
    (∃ (s : State) (n : Nat) (ch : MChan), s.awake = true ∧ n < 8 ∧ (s.cBay n).enabled = true ∧ chanOn (s.cMeter n) ch = true ∧
     ch ≠ .me) ∧
    (∃ (s : State) (n : Nat), s.awake = true ∧ n < 8 ∧ (s.cBay n).enabled = true ∧ (s.cMeter n).meEn = true) ∧
    (∃ (s : State) (n : Nat), s.awake = true ∧ n < 8 ∧ (s.cBay n).enabled = true ∧ (s.cMeter n).mvEn = true) ∧
    (∃ (s : State) (n : Nat), s.awake = true ∧ n < 8 ∧ (s.cBay n).enabled = true ∧ (s.cMeter n).mihEn = true) ∧
    (∃ (s : State) (n : Nat), s.awake = true ∧ n < 8 ∧ (s.cBay n).enabled = true ∧ (s.cMeter n).milEn = true) ∧
    (∃ (s : State) (n : Nat), s.awake = true ∧ n < 8 ∧ (s.cBay n).enabled = true ∧ (s.meters n = false ∨ (s.mbay n).xchkN ≠
     16000)) ∧
    (∃ (s : State) (n : Nat), s.awake = true ∧ n < 8 ∧ (s.cBay n).enabled = true ∧ s.meters n = true ∧ (s.mbay n).xchkN = 16000 ∧
     (s.mbay n).xchkVoid = true) ∧
    (∃ (s : State) (n : Nat), s.awake = true ∧ n < 8 ∧ (s.cBay n).enabled = true ∧ s.meters n = true ∧ (s.mbay n).xchkN = 16000 ∧
     (s.mbay n).xchkVoid = false ∧ xchkBad (s.cMeter n).fsIh (s.mbay n).xchkHi (s.mbay n).xchkLo = false) ∧
    (∃ (s : State) (n : Nat), s.awake = true ∧ n < 8 ∧ (s.cBay n).enabled = true ∧ s.meters n = true ∧ (s.mbay n).xchkN = 16000 ∧
     (s.mbay n).xchkVoid = false ∧ xchkBad (s.cMeter n).fsIh (s.mbay n).xchkHi (s.mbay n).xchkLo = true ∧ (s.mbay n).xchkRun < 2) ∧
    (∃ (s : State) (n : Nat), s.awake = true ∧ n < 8 ∧ (s.cBay n).enabled = true ∧ s.meters n = true ∧ (s.mbay n).xchkN = 16000 ∧
     (s.mbay n).xchkVoid = false ∧ xchkBad (s.cMeter n).fsIh (s.mbay n).xchkHi (s.mbay n).xchkLo = true ∧ 2 ≤ (s.mbay n).xchkRun) ∧
    (∃ (s : State) (n : Nat), s.awake = true ∧ n < 8 ∧ (s.cBay n).enabled = true) :=
  ⟨⟨(live |>.cfgBay 7 (fun x => { x with enabled := true }) |>.cfgMeter 7 (fun x => { x with mvEn := false })), 7, .mv,
     by decide +kernel⟩,
   ⟨(live |>.cfgBay 7 (fun x => { x with enabled := true })), 7, .mv, by decide +kernel⟩,
   ⟨(live |>.cfgBay 7 (fun x => { x with enabled := true }) |>.cfgMeter 7 (fun x => { x with meEn := true })), 7,
     by decide +kernel⟩,
   ⟨(live |>.cfgBay 7 (fun x => { x with enabled := true }) |>.cfgMeter 7 (fun x => { x with mvEn := true })), 7,
     by decide +kernel⟩,
   ⟨(live |>.cfgBay 7 (fun x => { x with enabled := true }) |>.cfgMeter 7 (fun x => { x with mihEn := true })), 7,
     by decide +kernel⟩,
   ⟨(live |>.cfgBay 7 (fun x => { x with enabled := true }) |>.cfgMeter 7 (fun x => { x with milEn := true })), 7,
     by decide +kernel⟩,
   ⟨(live |>.cfgBay 7 (fun x => { x with enabled := true })), 7, by decide +kernel⟩,
   ⟨(live |>.cfgBay 7 (fun x => { x with enabled := true }) |>.modMbay 7 (fun x =>
     { x with xchkN := 16000, xchkVoid := true })), 7, by decide +kernel⟩,
   ⟨(live |>.cfgBay 7 (fun x => { x with enabled := true }) |>.modMbay 7 (fun x => { x with xchkN := 16000 })), 7,
     by decide +kernel⟩,
   ⟨(live |>.cfgBay 7 (fun x => { x with enabled := true }) |>.modMbay 7 (fun x =>
     { x with xchkN := 16000, xchkHi := 0x7FFFFFFFFFFF, xchkRun := 1 })), 7, by decide +kernel⟩,
   ⟨(live |>.cfgBay 7 (fun x => { x with enabled := true }) |>.modMbay 7 (fun x =>
     { x with xchkN := 16000, xchkHi := 0x7FFFFFFFFFFF, xchkRun := 2 })), 7, by decide +kernel⟩,
   ⟨(live |>.cfgBay 7 (fun x => { x with enabled := true })), 7, by decide +kernel⟩⟩

theorem witness_TickCommitsEnergy :
    (∃ (s : State), s.sys.inReset = true) ∧
    (∃ (s : State), s.tim.ns < 1000000000) ∧
    (∃ (s : State), s.sys.inReset = false ∧ (¬(s.awake = true ∧ s.tly.running = true))) ∧
    (∃ (s : State), s.awake = true ∧ s.tly.running = true) ∧
    (∃ (s : State) (j : JSlot) (k : Nat), let u := s.slotWrite j; k ≠ u.tly.slotSeq % 4096) :=
  ⟨⟨{ live with sys.inReset := true }, by decide +kernel⟩,
   ⟨live, by decide +kernel⟩,
   ⟨{ live with tly.running := false }, by decide +kernel⟩,
   ⟨{ live with tly.running := true }, by decide +kernel⟩,
   ⟨live, {}, 0, by decide +kernel⟩⟩

theorem witness_HandedOnEnergyIsConserved :
    (∃ (i : Nat) (b : MBay), creeps i b = false) ∧
    (∃ (i : Nat) (b : MBay), creeps i b = true) ∧
    (∃ (c : PulseCfg) (p : Pulse) (e : Nat), p.backlog ≤ 0xFFFFFFFF) :=
  ⟨⟨0, { tickN := 1 }, by decide +kernel⟩,
   ⟨0, {}, by decide +kernel⟩,
   ⟨{}, {}, 0, by decide +kernel⟩⟩

theorem witness_ScalerCommandsComplete :
    (∃ (s : State) (c : Cmd) (n : Nat) (e : Status), ((s.noBays = true ∧ e = Status.state) ∨ (s.noBays = false ∧ (8 ≤ n ∨ (s.cBay
     n).enabled = false) ∧ e = Status.range)) ∧ s.ready c 0x0701) ∧
    (∃ (s : State) (c : Cmd) (n : Nat) (e : Status), ((s.noBays = true ∧ e = Status.state) ∨ (s.noBays = false ∧ (8 ≤ n ∨ (s.cBay
     n).enabled = false) ∧ e = Status.range)) ∧ s.ready c 0x0702) ∧
    (∃ (s : State) (c : Cmd) (n : Nat) (e : Status), ((s.noBays = true ∧ e = Status.state) ∨ (s.noBays = false ∧ (8 ≤ n ∨ (s.cBay
     n).enabled = false) ∧ e = Status.range)) ∧ s.ready c 0x0703) ∧
    (∃ (s : State) (c : Cmd) (n : Nat) (e : Status), ((s.noBays = true ∧ e = Status.state) ∨ (s.noBays = false ∧ (8 ≤ n ∨ (s.cBay
     n).enabled = false) ∧ e = Status.range)) ∧ s.ready c 0x0704) ∧
    (∃ (s : State) (c : Cmd) (n : Nat), s.noBays = false ∧ n < 8 ∧ (s.cBay n).enabled = true ∧ s.ready c 0x0701) ∧
    (∃ (s : State) (c : Cmd) (n : Nat), s.noBays = false ∧ n < 8 ∧ (s.cBay n).enabled = true ∧ s.ready c 0x0702 ∧ s.key.lc ≠
     .manufacture ∧ s.key.lc ≠ .service) ∧
    (∃ (s : State) (c : Cmd) (n : Nat) (m : KeyMsg) (v : CalVals) (e : Status), s.noBays = false ∧ n < 8 ∧ (s.cBay n).enabled =
     true ∧ s.ready c 0x0702 ∧ s.key.lc = .service ∧ (s.checkMsg m [17] [.service] = some e ∨ (s.checkMsg m [17] [.service] = none
     ∧ (m.num ≠ n ∨ m.digest ≠ v.digest) ∧ e = .auth))) ∧
    (∃ (s : State) (c : Cmd) (n : Nat) (m : KeyMsg) (v : CalVals), s.noBays = false ∧ n < 8 ∧ (s.cBay n).enabled = true ∧ s.ready
     c 0x0702 ∧ (s.key.lc = .manufacture ∨ (s.key.lc = .service ∧ s.checkMsg m [17] [.service] = none ∧ m.num = n ∧ m.digest =
     v.digest)) ∧ s.bayBusy n = true) ∧
    (∃ (s : State) (c : Cmd) (n : Nat) (m : KeyMsg) (v : CalVals), s.noBays = false ∧ n < 8 ∧ (s.cBay n).enabled = true ∧ s.ready
     c 0x0702 ∧ (s.key.lc = .manufacture ∨ (s.key.lc = .service ∧ s.checkMsg m [17] [.service] = none ∧ m.num = n ∧ m.digest =
     v.digest)) ∧ s.bayBusy n = false ∧ calValid v = false) ∧
    (∃ (s : State) (c : Cmd) (n : Nat) (m : KeyMsg) (v : CalVals), s.noBays = false ∧ n < 8 ∧ (s.cBay n).enabled = true ∧ s.ready
     c 0x0702 ∧ (s.key.lc = .manufacture ∨ (s.key.lc = .service ∧ s.checkMsg m [17] [.service] = none ∧ m.num = n ∧ m.digest =
     v.digest)) ∧ s.bayBusy n = false ∧ calValid v = true ∧ s.changeFull = true) ∧
    (∃ (s : State) (c : Cmd) (n : Nat) (m : KeyMsg) (v : CalVals), s.noBays = false ∧ n < 8 ∧ (s.cBay n).enabled = true ∧ s.ready
     c 0x0702 ∧ (s.key.lc = .manufacture ∨ (s.key.lc = .service ∧ s.checkMsg m [17] [.service] = none ∧ m.num = n ∧ m.digest =
     v.digest)) ∧ s.bayBusy n = false ∧ calValid v = true ∧ s.changeFull = false) ∧
    (∃ (s : State) (n : Nat), s.noBays = false ∧ n < 8 ∧ (s.cBay n).enabled = true) ∧
    (∃ (s : State) (c : Cmd) (n : Nat), s.noBays = false ∧ n < 8 ∧ (s.cBay n).enabled = true ∧ s.ready c 0x0703 ∧ s.key.lc ≠
     .field ∧ s.key.lc ≠ .service) ∧
    (∃ (s : State) (c : Cmd) (n : Nat) (ms : Nat), s.noBays = false ∧ n < 8 ∧ (s.cBay n).enabled = true ∧ s.ready c 0x0703 ∧
     (s.key.lc = .field ∨ s.key.lc = .service) ∧ ((s.mbay n).mfault = false ∨ (s.mbay n).lossV = true ∨ (s.mbay n).lossIh = true ∨
     (s.mbay n).lossIl = true ∨ (s.mbay n).lossE = true ∨ s.scl.calOk.getLsbD n = false ∨ ms < 1000 ∨ s.bayBusy n = true)) ∧
    (∃ (s : State) (c : Cmd) (n : Nat) (ms : Nat), s.noBays = false ∧ n < 8 ∧ (s.cBay n).enabled = true ∧ s.ready c 0x0703 ∧
     (s.key.lc = .field ∨ s.key.lc = .service) ∧ (s.mbay n).mfault = true ∧ (s.mbay n).lossV = false ∧ (s.mbay n).lossIh = false ∧
     (s.mbay n).lossIl = false ∧ (s.mbay n).lossE = false ∧ s.scl.calOk.getLsbD n = true ∧ 1000 ≤ ms ∧ s.bayBusy n = false ∧
     s.changeFull = true) ∧
    (∃ (s : State) (c : Cmd) (n : Nat) (ms : Nat), s.noBays = false ∧ n < 8 ∧ (s.cBay n).enabled = true ∧ s.ready c 0x0703 ∧
     (s.key.lc = .field ∨ s.key.lc = .service) ∧ (s.mbay n).mfault = true ∧ (s.mbay n).lossV = false ∧ (s.mbay n).lossIh = false ∧
     (s.mbay n).lossIl = false ∧ (s.mbay n).lossE = false ∧ s.scl.calOk.getLsbD n = true ∧ 1000 ≤ ms ∧ s.bayBusy n = false ∧
     s.changeFull = false) ∧
    (∃ (s : State) (c : Cmd) (n : Nat), s.noBays = false ∧ n < 8 ∧ (s.cBay n).enabled = true ∧ s.ready c 0x0704) :=
  ⟨⟨live, {}, 8, Status.range, by decide +kernel, ready_of (by decide +kernel)⟩,
   ⟨live, {}, 8, Status.range, by decide +kernel, ready_of (by decide +kernel)⟩,
   ⟨live, {}, 8, Status.range, by decide +kernel, ready_of (by decide +kernel)⟩,
   ⟨live, {}, 8, Status.range, by decide +kernel, ready_of (by decide +kernel)⟩,
   ⟨(live |>.cfgBay 7 (fun x => { x with enabled := true })), {}, 7, by decide +kernel, by decide +kernel,
     by decide +kernel, ready_of (by decide +kernel)⟩,
   ⟨(live |>.cfgBay 7 (fun x => { x with enabled := true })), {}, 7, by decide +kernel, by decide +kernel,
     by decide +kernel, ready_of (by decide +kernel), by decide +kernel⟩,
   ⟨({ live with key.lc := .service } |>.cfgBay 7 (fun x => { x with enabled := true })), {}, 7, {}, {}, .auth,
     by decide +kernel, by decide +kernel, by decide +kernel, ready_of (by decide +kernel), by decide +kernel⟩,
   ⟨({ live with key.lc := .manufacture } |>.cfgBay 7 (fun x => { x with enabled := true }) |>.modCtx 7 (fun x =>
     { x with st := .link })), {}, 7, {}, {}, by decide +kernel, by decide +kernel, by decide +kernel, ready_of
     (by decide +kernel), by decide +kernel⟩,
   ⟨({ live with key.lc := .manufacture } |>.cfgBay 7 (fun x => { x with enabled := true })), {}, 7, {}, {},
     by decide +kernel, by decide +kernel, by decide +kernel, ready_of (by decide +kernel), by decide +kernel⟩,
   ⟨{ live with key.lc := .manufacture, blz.last := 1984 }, {}, 7, {},
     { gainV := 1073741824, gainIh := 1073741824, gainIl := 1073741824, gainE := 1073741824 }, by decide +kernel,
     by decide +kernel, by decide +kernel, ready_of (by decide +kernel), by decide +kernel⟩,
   ⟨({ live with key.lc := .manufacture } |>.cfgBay 7 (fun x => { x with enabled := true })), {}, 7, {},
     { gainV := 1073741824, gainIh := 1073741824, gainIl := 1073741824, gainE := 1073741824 }, by decide +kernel,
     by decide +kernel, by decide +kernel, ready_of (by decide +kernel), by decide +kernel⟩,
   ⟨(live |>.cfgBay 7 (fun x => { x with enabled := true })), 7, by decide +kernel⟩,
   ⟨(({ live with key.lc := .manufacture } : State) |>.cfgBay 7 (fun x => { x with enabled := true })), {}, 7,
     by decide +kernel, by decide +kernel, by decide +kernel, ready_of (by decide +kernel), by decide +kernel⟩,
   ⟨(live |>.cfgBay 7 (fun x => { x with enabled := true })), {}, 7, 0, by decide +kernel, by decide +kernel,
     by decide +kernel, ready_of (by decide +kernel), by decide +kernel⟩,
   ⟨({ live with blz.last := 1984 } |>.cfgBay 7 (fun x => { x with enabled := true }) |>.modMbay 7 (fun x =>
     { x with mfault := true })), {}, 7, 1000, by decide +kernel, by decide +kernel, by decide +kernel, ready_of
     (by decide +kernel), by decide +kernel⟩,
   ⟨(live |>.cfgBay 7 (fun x => { x with enabled := true }) |>.modMbay 7 (fun x => { x with mfault := true })), {}, 7,
     1000, by decide +kernel, by decide +kernel, by decide +kernel, ready_of (by decide +kernel), by decide +kernel⟩,
   ⟨(live |>.cfgBay 7 (fun x => { x with enabled := true })), {}, 7, by decide +kernel, by decide +kernel,
     by decide +kernel, ready_of (by decide +kernel)⟩⟩

theorem witness_TariffModesAndMessages :
    (∃ (s : State) (c : Cmd) (m : TlyMsgOp) (e : Status), s.ready c 0x0801 ∧ s.tlyCheck m = some e) ∧
    (∃ (s : State), s.key.lc = .service) ∧
    (∃ (s : State), s.key.lc ≠ .service ∧ s.key.lc ≠ .field) ∧
    (∃ (s : State) (m : TlyMsgOp), s.key.lc = .field ∧ m.ver ≠ 1) ∧
    (∃ (s : State) (m : TlyMsgOp), s.key.lc = .field ∧ m.ver = 1 ∧ (m.devId ≠ s.key.devId ∨ s.authKeyOk = false ∨ m.signer ≠
     (s.slot s.img.cal.authSlot).key ∨ m.ctr ≤ s.tly.sched.ctr)) ∧
    (∃ (s : State) (m : TlyMsgOp), s.key.lc = .field ∧ m.ver = 1 ∧ m.devId = s.key.devId ∧ s.authKeyOk = true ∧ m.signer =
     (s.slot s.img.cal.authSlot).key ∧ s.tly.sched.ctr < m.ctr ∧
     let lease : Prop := s.tim.sec < m.leaseEnd ∧ m.leaseEnd ≤ s.tim.sec + 31 * 86400;
     let change : Prop := m.kind = 1 ∧ 1 ≤ m.tariff ∧ m.tariff ≤ 8 ∧ m.effective ≤ s.tim.sec + 400 * 86400 ∧ s.tly.sched.lastEff ≤ m.effective;
     let close : Prop := m.kind = 3 ∧ s.tim.sec < m.effective ∧ ((m.effective : Int) - s.tim.utcOff - 946684800) % 900 = 0; (¬
     (lease ∧ (change ∨ m.kind = 2 ∨ close)))) ∧
    (∃ (s : State) (m : TlyMsgOp), s.key.lc = .field ∧ m.ver = 1 ∧ m.devId = s.key.devId ∧ s.authKeyOk = true ∧ m.signer =
     (s.slot s.img.cal.authSlot).key ∧ s.tly.sched.ctr < m.ctr ∧
     let lease : Prop := s.tim.sec < m.leaseEnd ∧ m.leaseEnd ≤ s.tim.sec + 31 * 86400;
     let change : Prop := m.kind = 1 ∧ 1 ≤ m.tariff ∧ m.tariff ≤ 8 ∧ m.effective ≤ s.tim.sec + 400 * 86400 ∧ s.tly.sched.lastEff ≤ m.effective;
     let close : Prop := m.kind = 3 ∧ s.tim.sec < m.effective ∧ ((m.effective : Int) - s.tim.utcOff - 946684800) % 900 = 0; lease
     ∧ (change ∨ close)) ∧
    (∃ (s : State) (m : TlyMsgOp), s.key.lc = .field ∧ m.ver = 1 ∧ m.devId = s.key.devId ∧ s.authKeyOk = true ∧ m.signer =
     (s.slot s.img.cal.authSlot).key ∧ s.tly.sched.ctr < m.ctr ∧
     let lease : Prop := s.tim.sec < m.leaseEnd ∧ m.leaseEnd ≤ s.tim.sec + 31 * 86400;
     let change : Prop := m.kind = 1 ∧ 1 ≤ m.tariff ∧ m.tariff ≤ 8 ∧ m.effective ≤ s.tim.sec + 400 * 86400 ∧ s.tly.sched.lastEff ≤ m.effective;
     let close : Prop := m.kind = 3 ∧ s.tim.sec < m.effective ∧ ((m.effective : Int) - s.tim.utcOff - 946684800) % 900 = 0; lease
     ∧ m.kind = 2) ∧
    (∃ (s : State) (c : Cmd) (m : TlyMsgOp), s.ready c 0x0801 ∧ s.tlyCheck m = none) ∧
    (∃ (s : State) (m : TlyMsgOp), let u := s.tlyTake m; m.kind = 2) ∧
    (∃ (s : State) (m : TlyMsgOp), let u := s.tlyTake m; m.kind ≠ 2) ∧
    (∃ (s : State) (m : TlyMsgOp), let u := s.tlyTake m; s.tly.mode ≠ .remote) ∧
    (∃ (s : State) (m : TlyMsgOp), let u := s.tlyTake m; s.tly.mode = .remote) :=
  ⟨⟨live, {}, { ver := 2 }, .version, ready_of (by decide +kernel), by decide +kernel⟩,
   ⟨{ live with key.lc := .service }, by decide +kernel⟩,
   ⟨State.reset, by decide +kernel⟩,
   ⟨live, { ver := 2 }, by decide +kernel⟩,
   ⟨live, {}, by decide +kernel⟩,
   ⟨tariffed, { kind := 3, devId := 77, signer := 33, ctr := 1, leaseEnd := 1001 }, by decide +kernel⟩,
   ⟨tariffed, { kind := 1, tariff := 8, devId := 77, ctr := 1, effective := 34561000, leaseEnd := 2679400, signer := 33 },
     by decide +kernel⟩,
   ⟨tariffed, { kind := 2, devId := 77, signer := 33, ctr := 1, leaseEnd := 1001 }, by decide +kernel⟩,
   ⟨tariffed, {},
     { kind := 1, tariff := 8, devId := 77, ctr := 1, effective := 34561000, leaseEnd := 2679400, signer := 33 }, ready_of
     (by decide +kernel), by decide +kernel⟩,
   ⟨live, { kind := 2 }, by decide +kernel⟩,
   ⟨live, {}, by decide +kernel⟩,
   ⟨live, {}, by decide +kernel⟩,
   ⟨{ live with tly.mode := .remote }, {}, by decide +kernel⟩⟩

theorem witness_TallyCommandsComplete :
    (∃ (s : State) (c : Cmd) (no : Nat) (dst : Nat) (n : Nat), s.ready c 0x0802 ∧ s.recOf no = some n ∧ dstOk dst 256 = true) ∧
    (∃ (s : State) (c : Cmd) (no : Nat) (dst : Nat), s.ready c 0x0802 ∧ (s.recOf no = none ∨ dstOk dst 256 = false)) ∧
    (∃ (s : State) (c : Cmd) (no : Nat) (k : Nat), s.ready c 0x0803 ∧ (k = 0 ∨ 256 < k ∨ ∃ i, i < k ∧ s.recOf (no + i) = none)) ∧
    (∃ (s : State) (c : Cmd) (no : Nat) (k : Nat), s.ready c 0x0803 ∧ 1 ≤ k ∧ k ≤ 256 ∧ (∀ i, i < k → (s.recOf (no + i)).isSome =
     true) ∧ (∃ i n, i < k ∧ s.recOf (no + i) = some n ∧ (s.rcd n).st = .opened)) ∧
    (∃ (s : State) (c : Cmd) (no : Nat) (k : Nat), s.ready c 0x0803 ∧ 1 ≤ k ∧ k ≤ 256 ∧ (∀ i, i < k → (s.recOf (no + i)).isSome =
     true) ∧ (∀ i n, i < k → s.recOf (no + i) = some n → (s.rcd n).st ≠ .opened)) ∧
    (∃ (s : State) (c : Cmd) (dst : Nat), s.ready c 0x0804 ∧ dstOk dst 1152 = true) ∧
    (∃ (s : State) (c : Cmd) (dst : Nat), s.ready c 0x0804 ∧ dstOk dst 1152 = false) ∧
    (∃ (s : State) (c : Cmd) (bay : Nat), s.ready c 0x0805 ∧ bay = 0xFE ∧ s.img.struct_.role = .post) ∧
    (∃ (s : State) (c : Cmd) (bay : Nat) (dst : Nat), s.ready c 0x0805 ∧ dstOk dst 256 = false ∧ (bay ≠ 0xFE ∨ s.img.struct_.role
     ≠ .post)) ∧
    (∃ (s : State) (c : Cmd) (bay : Nat), s.ready c 0x0805 ∧ bay ≠ 0xFE ∧ (8 ≤ bay ∨ (s.cBay bay).enabled = false)) ∧
    (∃ (s : State) (c : Cmd) (bay : Nat) (dst : Nat), s.ready c 0x0805 ∧ dstOk dst 256 = true ∧ ((bay = 0xFE ∧ s.img.struct_.role
     ≠ .post) ∨ (bay < 8 ∧ (s.cBay bay).enabled = true)) ∧ s.metroSigns = false) ∧
    (∃ (s : State) (c : Cmd) (bay : Nat) (dst : Nat), s.ready c 0x0805 ∧ dstOk dst 256 = true ∧ ((bay = 0xFE ∧ s.img.struct_.role
     ≠ .post) ∨ (bay < 8 ∧ (s.cBay bay).enabled = true)) ∧ s.metroSigns = true) ∧
    (∃ (s : State) (kind : Nat) (bay : Nat) (ref : Stamp) (fl : BitVec 16) (t : Nat), let r := (s.reading kind bay ref fl).1; t <
     8 ∧ bay ≠ 0xFE) ∧
    (∃ (s : State) (kind : Nat) (bay : Nat) (ref : Stamp) (fl : BitVec 16) (t : Nat), let r := (s.reading kind bay ref fl).1; t <
     8 ∧ bay = 0xFE) ∧
    (∃ (s : State) (kind : Nat) (bay : Nat) (ref : Stamp) (fl : BitVec 16), let r := (s.reading kind bay ref fl).1; r.sig.isNone
     = true) ∧
    (∃ (s : State) (c : Cmd) (ch : Nat) (start : Nat) (n : Nat) (dst : Nat), s.ready c 0x0806 ∧
     let serial (p : Nat × Entry) : Bool := decide (p.2.chan = ch) && decide ((p.2.seq + 2 ^ 32 - start) % 2 ^ 32 < 2 ^ 31);
     let l := (((s.tly.stored.filter (fun p => serial p && decide (entryKey ch start ≤ p.1))) ++ (s.tly.stored.filter (fun p => serial p && decide (p.1 < entryKey ch start)))).take n).map (fun p => p.2);
     (16 ≤ ch ∨ (s.source ch).1 = 0 ∨ n = 0 ∨ 4096 < n ∨ dstOk dst (24 * n) = false ∨ l = [])) ∧
    (∃ (s : State) (c : Cmd) (ch : Nat) (start : Nat) (n : Nat) (dst : Nat) (e : Entry) (r : List Entry), s.ready c 0x0806 ∧
     let serial (p : Nat × Entry) : Bool := decide (p.2.chan = ch) && decide ((p.2.seq + 2 ^ 32 - start) % 2 ^ 32 < 2 ^ 31);
     let l := (((s.tly.stored.filter (fun p => serial p && decide (entryKey ch start ≤ p.1))) ++ (s.tly.stored.filter (fun p => serial p && decide (p.1 < entryKey ch start)))).take n).map (fun p => p.2);
     ch < 16 ∧ (s.source ch).1 ≠ 0 ∧ 1 ≤ n ∧ n ≤ 4096 ∧ dstOk dst (24 * n) = true ∧ l = e :: r) ∧
    (∃ (s : State) (c : Cmd) (start : Nat) (n : Nat) (dst : Nat), s.ready c 0x0807 ∧
     let l := ((s.tly.readings.filter (fun p => decide (start ≤ p.1))).take n).map (fun p => p.2); (n = 0 ∨ 64 < n ∨ dstOk dst
     (256 * n) = false ∨ l = [])) ∧
    (∃ (s : State) (c : Cmd) (start : Nat) (n : Nat) (dst : Nat), s.ready c 0x0807 ∧
     let l := ((s.tly.readings.filter (fun p => decide (start ≤ p.1))).take n).map (fun p => p.2); 1 ≤ n ∧ n ≤ 64 ∧ dstOk dst (256
     * n) = true ∧ l ≠ []) ∧
    (∃ (s : State) (c : Cmd), s.ready c 0x0808) ∧
    (∃ (s : State) (c : Cmd), s.ready c 0x0809) :=
  ⟨⟨(live |>.modRcd 0 (fun x => { x with st := .closed, recno := 5 })), {}, 5, 0x800000, 0, ready_of (by decide +kernel),
     by decide +kernel⟩,
   ⟨live, {}, 0, 0, ready_of (by decide +kernel), by decide +kernel⟩,
   ⟨live, {}, 0, 0, ready_of (by decide +kernel), .inl rfl⟩,
   ⟨{ live with tly.recs := [(0, { st := .opened, recno := 5 })] }, {}, 5, 1, ready_of (by decide +kernel),
     by decide +kernel, by decide +kernel, by intro i h; have h0 : i = 0 := (by omega); subst h0; decide +kernel, ⟨0, 0,
     by decide +kernel, by decide +kernel, by decide +kernel⟩⟩,
   ⟨{ live with tly.recs := [(0, { st := .closed, recno := 5 })] }, {}, 5, 1, ready_of (by decide +kernel),
     by decide +kernel, by decide +kernel, by intro i h; have h0 : i = 0 := (by omega); subst h0; decide +kernel,
     by intro i n h hn; have h0 : i = 0 := (by omega); subst h0; rw [show State.recOf _ (5 + 0) = some 0 from by decide +kernel] at hn; cases hn; decide +kernel⟩,
   ⟨live, {}, 0x800000, ready_of (by decide +kernel), by decide +kernel⟩,
   ⟨live, {}, 0, ready_of (by decide +kernel), by decide +kernel⟩,
   ⟨{ live with img.struct_.role := .post }, {}, 254, ready_of (by decide +kernel), by decide +kernel⟩,
   ⟨live, {}, 0, 0, ready_of (by decide +kernel), by decide +kernel⟩,
   ⟨live, {}, 8, ready_of (by decide +kernel), by decide +kernel⟩,
   ⟨(live |>.modRcd 0 (fun x => { x with st := .closed, recno := 5 })), {}, 254, 0x800000, ready_of (by decide +kernel),
     by decide +kernel⟩,
   ⟨(live |>.modSlot 16 (fun x => { x with st := .valid, usage := 1 })), {}, 254, 0x800000, ready_of (by decide +kernel),
     by decide +kernel⟩,
   ⟨live, 0, 0, {}, 0, 7, by decide +kernel⟩,
   ⟨live, 0, 254, {}, 0, 7, by decide +kernel⟩,
   ⟨live, 0, 0, {}, 0, by decide +kernel⟩,
   ⟨live, {}, 16, 0, 0, 0, ready_of (by decide +kernel), by decide +kernel⟩,
   ⟨{ live with tly.stored := [(0, {})] }, {}, 0, 0, 4096, 0x800000, {}, [], ready_of (by decide +kernel),
     by decide +kernel⟩,
   ⟨live, {}, 0, 0, 0, ready_of (by decide +kernel), by decide +kernel⟩,
   ⟨{ live with tly.readings := [(0, {})] }, {}, 0, 64, 0x800000, ready_of (by decide +kernel), by decide +kernel⟩,
   ⟨live, {}, ready_of (by decide +kernel)⟩,
   ⟨live, {}, ready_of (by decide +kernel)⟩⟩

theorem witness_TamperLogActs :
    (∃ (a : Bool) (b : Bool), a ≠ b) ∧
    (∃ (s : State) (i : Nat) (h : Bool), s.sys.inReset = false ∧ (4 ≤ i ∨ tget .disabled s.blz.modes i = .disabled ∨
     s.blz.active.getLsbD i = activeLevel (tget .disabled s.blz.modes i) h)) ∧
    (∃ (s : State) (i : Nat) (h : Bool), i < 4 ∧ tget .disabled s.blz.modes i ≠ .disabled ∧ s.blz.active.getLsbD i ≠ activeLevel
     (tget .disabled s.blz.modes i) h ∧ let u := s.tamperEvent i h; s.sys.inReset = false) ∧
    (∃ (s : State) (i : Nat) (h : Bool), i < 4 ∧ tget .disabled s.blz.modes i ≠ .disabled ∧ s.blz.active.getLsbD i ≠ activeLevel
     (tget .disabled s.blz.modes i) h) ∧
    (∃ (s : State) (i : Nat) (h : Bool) (j : Nat), i < 4 ∧ tget .disabled s.blz.modes i ≠ .disabled ∧ s.blz.active.getLsbD i ≠
     activeLevel (tget .disabled s.blz.modes i) h ∧ let u := s.tamperEvent i h; j < 4 ∧ j ≠ i) ∧
    (∃ (s : State), s.sys.inReset = true) ∧
    (∃ (s : State), s.awake = false) ∧
    (∃ (s : State), s.awake = true ∧ s.eventFull = true ∧ (s.blz.gapDue = true ∨ s.blz.pendingT ≠ [])) ∧
    (∃ (s : State), s.awake = true ∧ s.eventFull = false ∧ s.blz.gapDue = true) ∧
    (∃ (s : State), s.awake = true ∧ s.blz.gapDue = false) ∧
    (∃ (s : State) (e : TEntry), s.eventFull = false ∧ (s.blz.gapBefore ≠ some e.aseq ∨ s.blz.lost = 0)) ∧
    (∃ (s : State), s.sys.inReset = false) ∧
    (∃ (s : State), s.sys.inReset = true) ∧
    (∃ (s : State) (c : Cmd) (lo : Nat) (n : Nat) (dst : Nat), s.ready c 0x0901 ∧ 1 ≤ n ∧ n ≤ 256 ∧ lo ≤ s.blz.last ∧ dstOk dst
     (128 * n) = true) ∧
    (∃ (s : State) (c : Cmd) (lo : Nat) (n : Nat) (dst : Nat), s.ready c 0x0901 ∧ (n = 0 ∨ 256 < n ∨ s.blz.last < lo ∨ dstOk dst
     (128 * n) = false)) ∧
    (∃ (s : State) (c : Cmd), s.ready c 0x0902) ∧
    (∃ (s : State) (c : Cmd), s.ready c 0x0903 ∧ s.key.lc ≠ .service) ∧
    (∃ (s : State) (c : Cmd) (m : BitVec 4), s.ready c 0x0903 ∧ s.key.lc = .service ∧ (m &&& ~~~ s.tamperOn ≠ 0 ∨ m &&&
     s.blz.active ≠ 0)) ∧
    (∃ (s : State) (c : Cmd) (m : BitVec 4), s.ready c 0x0903 ∧ s.key.lc = .service ∧ m &&& ~~~ s.tamperOn = 0 ∧ m &&&
     s.blz.active = 0 ∧ s.changeFull = true) ∧
    (∃ (s : State) (c : Cmd) (m : BitVec 4), s.ready c 0x0903 ∧ s.key.lc = .service ∧ m &&& ~~~ s.tamperOn = 0 ∧ m &&&
     s.blz.active = 0 ∧ s.changeFull = false) ∧
    (∃ (s : State) (c : Cmd) (m : KeyMsg) (e : Status), s.ready c 0x0904 ∧ s.checkMsg m [18] [.field, .service] = some e) ∧
    (∃ (s : State) (c : Cmd) (m : KeyMsg), s.ready c 0x0904 ∧ s.checkMsg m [18] [.field, .service] = none ∧ (m.num ≤
     s.blz.released ∨ s.blz.last < m.num)) ∧
    (∃ (s : State) (c : Cmd) (m : KeyMsg), s.ready c 0x0904 ∧ s.checkMsg m [18] [.field, .service] = none ∧ s.blz.released <
     m.num ∧ m.num ≤ s.blz.last) :=
  ⟨⟨true, false, by decide +kernel⟩,
   ⟨live, 4, false, by decide +kernel⟩,
   ⟨{ live with blz.modes := [(3, .nc)] }, 3, true, by decide +kernel⟩,
   ⟨{ live with blz.modes := [(3, .nc)] }, 3, true, by decide +kernel⟩,
   ⟨{ live with blz.modes := [(3, .nc)] }, 3, true, 2, by decide +kernel⟩,
   ⟨{ live with sys.inReset := true }, by decide +kernel⟩,
   ⟨State.reset, by decide +kernel⟩,
   ⟨{ live with blz.gapDue := true, blz.last := 2048, blz.pendingT := [{}] }, by decide +kernel⟩,
   ⟨{ live with blz.gapDue := true }, by decide +kernel⟩,
   ⟨live, by decide +kernel⟩,
   ⟨live, {}, by decide +kernel⟩,
   ⟨live, by decide +kernel⟩,
   ⟨{ live with sys.inReset := true }, by decide +kernel⟩,
   ⟨{ live with blz.last := 1 }, {}, 0, 256, 0x800000, ready_of (by decide +kernel), by decide +kernel⟩,
   ⟨live, {}, 0, 0, 0, ready_of (by decide +kernel), by decide +kernel⟩,
   ⟨live, {}, ready_of (by decide +kernel)⟩,
   ⟨live, {}, ready_of (by decide +kernel), by decide +kernel⟩,
   ⟨{ live with key.lc := .service, blz.active := 1 }, {}, 1, ready_of (by decide +kernel), by decide +kernel⟩,
   ⟨{ live with key.lc := .service, blz.last := 2048, blz.pendingT := [{}] }, {}, 0, ready_of (by decide +kernel),
     by decide +kernel⟩,
   ⟨{ live with key.lc := .service }, {}, 0, ready_of (by decide +kernel), by decide +kernel⟩,
   ⟨flashed, {}, { kind := 18, auth := 1, devId := 77, ctr := 1 }, .auth, ready_of (by decide +kernel), by decide +kernel⟩,
   ⟨{ flashed with blz.last := 5 }, {}, { kind := 18, auth := 1, devId := 77, ctr := 1, num := 6, signer := 51 }, ready_of
     (by decide +kernel), by decide +kernel⟩,
   ⟨{ flashed with blz.last := 5 }, {}, { kind := 18, auth := 1, devId := 77, ctr := 1, num := 5, signer := 51 }, ready_of
     (by decide +kernel), by decide +kernel⟩⟩

theorem witness_InsulationMonitorActs :
    (∃ (s : State) (n : Nat), (s.awake = false ∨ 8 ≤ n ∨ (s.imdB n).st = .off ∨ (s.imdB n).st = .following)) ∧
    (∃ (s : State) (n : Nat), s.awake = true ∧ n < 8 ∧ (s.imdB n).st ≠ .off ∧ (s.imdB n).st ≠ .following) ∧
    (∃ (s : State) (n : Nat), n < 8 ∧ (s.ctx n).st = .free) ∧
    (∃ (s : State) (n : Nat) (acts : List ImdAct), n < 8 ∧ (s.ctx n).st = .free ∧ .alarm ∈ acts) ∧
    (∃ (s : State) (n : Nat) (acts : List ImdAct), n < 8 ∧ (s.ctx n).st = .free ∧ .warn ∈ acts) ∧
    (∃ (s : State) (n : Nat) (acts : List ImdAct), n < 8 ∧ (s.ctx n).st = .free ∧ .measFault ∈ acts) ∧
    (∃ (s : State) (n : Nat), (s.awake = false ∨ 8 ≤ n ∨ (s.imdB n).st = .off ∨ (s.imdB n).st = .following ∨ (s.imdB n).measFault
     = true)) ∧
    (∃ (s : State) (n : Nat), s.awake = true ∧ n < 8 ∧ (s.imdB n).st ≠ .off ∧ (s.imdB n).st ≠ .following ∧ (s.imdB n).measFault =
     false) ∧
    (∃ (s : State) (n : Nat), s.efOn n = false) ∧
    (∃ (s : State) (n : Nat), s.efOn n = true ∧ s.kOn n = false) ∧
    (∃ (s : State) (n : Nat), s.efOn n = true ∧ s.kOn n = false ∧ 0 < (s.imdB n).efOverMs ∧ (s.imdB n).measFault = false) ∧
    (∃ (s : State) (n : Nat), s.efOn n = true ∧ s.kOn n = false ∧ 0 < (s.imdB n).efOverMs ∧ (s.imdB n).measFault = true) ∧
    (∃ (s : State) (n : Nat), s.efOn n = true ∧ s.kOn n = false ∧ (s.imdB n).efOverMs = 0) ∧
    (∃ (s : State) (n : Nat), s.efOn n = true ∧ s.kOn n = true ∧
     let trip := (0 < (s.imdB n).efOverMs ∧ s.efDly n ≤ (s.imdB n).efOverMs) ∨ 2 ≤ (s.imdB n).efFastN; ¬ trip) ∧
    (∃ (s : State) (n : Nat), s.efOn n = true ∧ s.kOn n = true ∧
     let trip := (0 < (s.imdB n).efOverMs ∧ s.efDly n ≤ (s.imdB n).efOverMs) ∨ 2 ≤ (s.imdB n).efFastN; trip ∧ (s.imdB n).efAlarm =
     true) ∧
    (∃ (s : State) (n : Nat), s.efOn n = true ∧ s.kOn n = true ∧
     let trip := (0 < (s.imdB n).efOverMs ∧ s.efDly n ≤ (s.imdB n).efOverMs) ∨ 2 ≤ (s.imdB n).efFastN; trip ∧ (s.imdB n).efAlarm =
     false) ∧
    (∃ (s : State) (n : Nat), s.efOn n = true ∧ s.kOn n = true ∧ 1000 ≤ (s.imdB n).efHighMs ∧ (s.imdB n).efWarn = false) ∧
    (∃ (s : State) (n : Nat), s.efOn n = true ∧ s.kOn n = true ∧ ((s.imdB n).efHighMs < 1000 ∨ (s.imdB n).efWarn = true)) ∧
    (∃ (s : State) (c : Cmd), s.ready c 0x0A01 ∧ s.noBays = true) ∧
    (∃ (s : State) (c : Cmd) (n : Nat), s.ready c 0x0A01 ∧ s.noBays = false ∧ (8 ≤ n ∨ (s.cBay n).enabled = false)) ∧
    (∃ (s : State) (c : Cmd) (n : Nat), s.ready c 0x0A01 ∧ s.noBays = false ∧ n < 8 ∧ (s.cBay n).enabled = true ∧ s.bayIdle n =
     false) ∧
    (∃ (s : State) (c : Cmd) (n : Nat) (r1 : Nat) (r2 : Nat), s.ready c 0x0A01 ∧ s.noBays = false ∧ n < 8 ∧ (s.cBay n).enabled =
     true ∧ s.bayIdle n = true ∧ refOk (some (r1 : Int)) = true ∧ refOk (some (r2 : Int)) = true) ∧
    (∃ (s : State) (c : Cmd) (n : Nat) (r1 : Nat) (r2 : Nat), s.ready c 0x0A01 ∧ s.noBays = false ∧ n < 8 ∧ (s.cBay n).enabled =
     true ∧ s.bayIdle n = true ∧ (refOk (some (r1 : Int)) = false ∨ refOk (some (r2 : Int)) = false)) ∧
    (∃ (s : State) (c : Cmd), s.ready c 0x0A02 ∧ s.noBays = true) ∧
    (∃ (s : State) (c : Cmd), s.ready c 0x0A02 ∧ s.noBays = false ∧ s.key.lc ≠ .service) ∧
    (∃ (s : State) (c : Cmd) (n : Nat), s.ready c 0x0A02 ∧ s.noBays = false ∧ s.key.lc = .service ∧ (8 ≤ n ∨ (s.cBay n).enabled =
     false)) ∧
    (∃ (s : State) (c : Cmd) (n : Nat), s.ready c 0x0A02 ∧ s.noBays = false ∧ s.key.lc = .service ∧ n < 8 ∧ (s.cBay n).enabled =
     true ∧ s.bayIdle n = false) ∧
    (∃ (s : State) (c : Cmd) (n : Nat), s.ready c 0x0A02 ∧ s.noBays = false ∧ s.key.lc = .service ∧ n < 8 ∧ (s.cBay n).enabled =
     true ∧ s.bayIdle n = true) :=
  ⟨⟨live, 0, by decide +kernel⟩,
   ⟨(live |>.modImdB 7 (fun x => { x with st := .measuring })), 7, by decide +kernel⟩,
   ⟨(live |>.modCtx 7 (fun x => { x with st := .free })), 7, by decide +kernel⟩,
   ⟨(live |>.modCtx 7 (fun x => { x with st := .free })), 7, [.alarm], by decide +kernel⟩,
   ⟨(live |>.modCtx 7 (fun x => { x with st := .free })), 7, [.warn], by decide +kernel⟩,
   ⟨(live |>.modCtx 7 (fun x => { x with st := .free })), 7, [.measFault], by decide +kernel⟩,
   ⟨live, 0, by decide +kernel⟩,
   ⟨(live |>.modImdB 7 (fun x => { x with st := .measuring })), 7, by decide +kernel⟩,
   ⟨State.reset, 0, by decide +kernel⟩,
   ⟨live, 0, by decide +kernel⟩,
   ⟨(live |>.modImdB 7 (fun x => { x with efOverMs := 1 })), 7, by decide +kernel⟩,
   ⟨(live |>.modImdB 7 (fun x => { x with measFault := true, efOverMs := 1 })), 7, by decide +kernel⟩,
   ⟨(live |>.modImdB 0 (fun x => { x with efOverMs := 0 })), 0, by decide +kernel⟩,
   ⟨(live |>.modChan 0 (fun x => { x with st := .on })), 0, by decide +kernel⟩,
   ⟨(live |>.modImdB 7 (fun x => { x with efAlarm := true, efFastN := 2 }) |>.modChan 0 (fun x => { x with st := .on })
     |>.cfgBay 7 (fun x => { x with chK1 := 0 })), 7, by decide +kernel⟩,
   ⟨(live |>.modChan 0 (fun x => { x with st := .on }) |>.modImdB 7 (fun x => { x with efFastN := 2 })), 7,
     by decide +kernel⟩,
   ⟨(live |>.modChan 0 (fun x => { x with st := .on }) |>.modImdB 7 (fun x => { x with efHighMs := 1000 })), 7,
     by decide +kernel⟩,
   ⟨(live |>.modChan 0 (fun x => { x with st := .on })), 0, by decide +kernel⟩,
   ⟨{ live with img.struct_.role := .hub }, {}, ready_of (by decide +kernel), by decide +kernel⟩,
   ⟨live, {}, 8, ready_of (by decide +kernel), by decide +kernel⟩,
   ⟨(live |>.cfgBay 7 (fun x => { x with enabled := true }) |>.modBay 7 (fun x => { x with inService := true })), {}, 7,
     ready_of (by decide +kernel), by decide +kernel⟩,
   ⟨(live |>.cfgBay 7 (fun x => { x with enabled := true })), {}, 7, 950000, 1050000, ready_of (by decide +kernel),
     by decide +kernel⟩,
   ⟨(live |>.cfgBay 7 (fun x => { x with enabled := true })), {}, 7, 0, 0, ready_of (by decide +kernel), by decide +kernel⟩,
   ⟨{ live with img.struct_.role := .hub }, {}, ready_of (by decide +kernel), by decide +kernel⟩,
   ⟨live, {}, ready_of (by decide +kernel), by decide +kernel⟩,
   ⟨{ live with key.lc := .service }, {}, 8, ready_of (by decide +kernel), by decide +kernel⟩,
   ⟨({ live with key.lc := .service } |>.cfgBay 7 (fun x => { x with enabled := true }) |>.modBay 7 (fun x =>
     { x with inService := true })), {}, 7, ready_of (by decide +kernel), by decide +kernel⟩,
   ⟨({ live with key.lc := .service } |>.cfgBay 7 (fun x => { x with enabled := true })), {}, 7, ready_of
     (by decide +kernel), by decide +kernel⟩⟩

theorem witness_FalseTermDropsEnable :
    (∃ (s : State) (j : Nat), j < 36 ∧ s.gated j = true ∧ let t := s.gateAll.1; s.falseTerm j ≠ none) ∧
    (∃ (s : State) (j : Nat), j < 36 ∧ s.gated j = true ∧ let t := s.gateAll.1; s.falseTerm j ≠ none ∧ (s.gate j).req = true) ∧
    (∃ (s : State) (j : Nat), j < 36 ∧ s.gated j = true ∧ let t := s.gateAll.1; s.falseTerm j = none) ∧
    (∃ (s : State) (j : Nat), j < 36 ∧ s.gated j = true) ∧
    (∃ (s : State) (j : Nat), j < 36 ∧ s.gated j = true) :=
  ⟨⟨{ live with saf.heartbeat := false }, 35, by decide +kernel⟩,
   ⟨({ live with saf.heartbeat := false } |>.modGate 35 (fun x => { x with req := true })), 35, by decide +kernel⟩,
   ⟨live, 35, by decide +kernel⟩,
   ⟨live, 35, by decide +kernel⟩,
   ⟨live, 35, by decide +kernel⟩⟩

theorem witness_SparEventsAct :
    (∃ (s : State) (k : Nat) (p : Bool), (s.sys.inReset = true ∨ s.saf.spar ≠ .run ∨ p = true ∨ k = 0 ∨ 7 < k)) ∧
    (∃ (s : State) (k : Nat), s.sys.inReset = false ∧ s.saf.spar = .run ∧ 1 ≤ k ∧ k ≤ 7) ∧
    (∃ (s : State) (j : Nat), (s.sys.inReset = true ∨ s.saf.spar ≠ .run ∨ s.gated j = false ∨ (s.gate j).req = true)) ∧
    (∃ (s : State) (j : Nat), s.sys.inReset = false ∧ s.saf.spar = .run ∧ s.gated j = true ∧ (s.gate j).req = false) ∧
    (∃ (s : State), s.sys.inReset = true) ∧
    (∃ (s : State), s.sys.inReset = false) :=
  ⟨⟨{ live with sys.inReset := true }, 0, false, by decide +kernel⟩,
   ⟨live, 7, by decide +kernel⟩,
   ⟨{ live with sys.inReset := true }, 0, by decide +kernel⟩,
   ⟨live, 35, by decide +kernel⟩,
   ⟨{ live with sys.inReset := true }, by decide +kernel⟩,
   ⟨live, by decide +kernel⟩⟩

theorem witness_SafetyInputsAct :
    (∃ (s : State) (i : Nat), (s.saf.tpRun = false ∨ 16 ≤ i)) ∧
    (∃ (s : State) (i : Nat), s.saf.tpRun = true ∧ i < 16) ∧
    (∃ (s : State) (i : Nat), siMode (s.inPar i) = .single) ∧
    (∃ (s : State) (i : Nat) (e : Nat), e = 2 * (i / 2) ∧ pairMode (siMode (s.inPar i)) = true) ∧
    (∃ (s : State) (k : Nat), (s.saf.tpRun = false ∨ 4 ≤ k)) ∧
    (∃ (s : State) (i : Nat) (k : Nat), s.saf.tpRun = true ∧ i < 16 ∧ k < 4) ∧
    (∃ (s : State) (i : Nat) (k : Nat) (lo : Bool) (hi : Bool), s.saf.tpRun = true ∧ i < 16 ∧ k < 4 ∧ (lo || hi) = true) ∧
    (∃ (s : State) (p : Nat), (s.saf.tpRun = false ∨ 8 ≤ p ∨ s.disagree p = false)) ∧
    (∃ (s : State) (p : Nat), s.saf.tpRun = true ∧ p < 8 ∧ s.disagree p = true) ∧
    (∃ (s : State) (i : Nat), (s.saf.tpRun = false ∨ 16 ≤ i ∨ (s.sin i).trip = false ∨ s.inDemand i = true ∨ siReset (s.govPar i)
     ≠ .auto)) ∧
    (∃ (s : State) (i : Nat), s.saf.tpRun = true ∧ i < 16 ∧ (s.sin i).trip = true ∧ s.inDemand i = false ∧ siReset (s.govPar i) =
     .auto) ∧
    (∃ (s : State) (b : Nat) (ms : Nat), (s.saf.tpRun = false ∨ 16 ≤ b ∨ siMode (s.inPar b) ≠ .reset ∨ (s.sin b).fault = true ∨
     ms < 100 ∨ 2000 < ms)) ∧
    (∃ (s : State) (b : Nat) (ms : Nat) (i : Nat), s.saf.tpRun = true ∧ b < 16 ∧ siMode (s.inPar b) = .reset ∧ (s.sin b).fault =
     false ∧ 100 ≤ ms ∧ ms ≤ 2000 ∧ i < 16) ∧
    (∃ (s : State) (m : Nat), (s.saf.tpRun = false ∨ 4 ≤ m ∨ (s.gate (32 + m)).req = false ∨ (s.gate (32 + m)).en = false ∨
     outNoDark (s.outPar (32 + m)) = true)) ∧
    (∃ (s : State) (m : Nat), s.saf.tpRun = true ∧ m < 4 ∧ (s.gate (32 + m)).req = true ∧ (s.gate (32 + m)).en = true ∧ outNoDark
     (s.outPar (32 + m)) = false) ∧
    (∃ (s : State) (m : Nat), s.saf.tpRun = true ∧ m < 4 ∧ (s.gate (32 + m)).req = true ∧ (s.gate (32 + m)).en = true ∧ outNoDark
     (s.outPar (32 + m)) = false ∧ (s.gate (32 + m)).rbOnce = false) ∧
    (∃ (s : State) (m : Nat), s.saf.tpRun = true ∧ m < 4 ∧ (s.gate (32 + m)).req = true ∧ (s.gate (32 + m)).en = true ∧ outNoDark
     (s.outPar (32 + m)) = false ∧ (s.gate (32 + m)).rbOnce = true) :=
  ⟨⟨{ live with saf.tpRun := false }, 0, by decide +kernel⟩,
   ⟨{ live with saf.tpRun := true }, 15, by decide +kernel⟩,
   ⟨live.par 0x10 1, 0, by decide +kernel⟩,
   ⟨live.par 0x11 2, 1, 0, by decide +kernel⟩,
   ⟨{ live with saf.tpRun := false }, 0, by decide +kernel⟩,
   ⟨{ live with saf.tpRun := true }, 15, 3, by decide +kernel⟩,
   ⟨{ live with saf.tpRun := true }, 15, 3, true, false, by decide +kernel⟩,
   ⟨{ live with saf.tpRun := false }, 0, by decide +kernel⟩,
   ⟨({ live with saf.tpRun := true } |>.par 0x1E 2 |>.par 0x1F 2 |>.modSin 14 (fun x => { x with isOpen := true })), 7,
     by decide +kernel⟩,
   ⟨{ live with saf.tpRun := false }, 0, by decide +kernel⟩,
   ⟨({ live with saf.tpRun := true } |>.modSin 15 (fun x => { x with trip := true })), 15, by decide +kernel⟩,
   ⟨{ live with saf.tpRun := false }, 0, 0, by decide +kernel⟩,
   ⟨({ live with saf.tpRun := true } |>.par 0x1F 6), 15, 2000, 15, by decide +kernel⟩,
   ⟨{ live with saf.tpRun := false }, 0, by decide +kernel⟩,
   ⟨({ live with saf.tpRun := true } |>.modGate (32 + 3) (fun x => { x with req := true, en := true })), 3,
     by decide +kernel⟩,
   ⟨({ live with saf.tpRun := true } |>.modGate (32 + 3) (fun x => { x with req := true, en := true })), 3,
     by decide +kernel⟩,
   ⟨({ live with saf.tpRun := true } |>.modGate (32 + 3) (fun x => { x with req := true, en := true, rbOnce := true })), 3,
     by decide +kernel⟩⟩

theorem witness_HingeFramesAct :
    (∃ (s : State), s.hingeLive = false) ∧
    (∃ (s : State), s.hingeLive = false) ∧
    (∃ (s : State) (f : HFrame), s.hingeLive = true ∧ (f.fmtOk = false ∨ (f.version ≠ 1 ∧ f.version ≠ 2))) ∧
    (∃ (s : State) (f : HFrame), s.hingeLive = true ∧ f.fmtOk = true ∧ (f.version = 1 ∨ f.version = 2) ∧ f.crcOk = false ∧
     s.rxConn f = none) ∧
    (∃ (s : State) (f : HFrame) (k : Nat), s.hingeLive = true ∧ f.fmtOk = true ∧ (f.version = 1 ∨ f.version = 2) ∧ f.crcOk =
     false ∧ s.rxConn f = some k) ∧
    (∃ (s : State) (f : HFrame), s.hingeLive = true ∧ f.fmtOk = true ∧ (f.version = 1 ∨ f.version = 2) ∧ f.crcOk = true ∧
     s.rxConn f = none) ∧
    (∃ (s : State) (f : HFrame) (c : Nat) (v : State), s.hingeLive = true ∧ f.fmtOk = true ∧ (f.version = 1 ∨ f.version = 2) ∧
     f.crcOk = true ∧ s.rxConn f = some c ∧ v = s.setConn c
     { s.conn c with st := if (s.conn c).st = .timedOut then .connecting else (s.conn c).st } ∧ (s.conn c).st ≠ .opened) ∧
    (∃ (s : State) (f : HFrame) (c : Nat) (v : State), s.hingeLive = true ∧ f.fmtOk = true ∧ (f.version = 1 ∨ f.version = 2) ∧
     f.crcOk = true ∧ s.rxConn f = some c ∧ v = s.setConn c
     { s.conn c with st := if (s.conn c).st = .timedOut then .connecting else (s.conn c).st } ∧ (s.conn c).st = .opened ∧
     let d := (f.seq - (s.conn c).seq).toNat; (d = 0 ∨ s.connWindow c < d)) ∧
    (∃ (s : State) (f : HFrame) (c : Nat) (v : State), s.hingeLive = true ∧ f.fmtOk = true ∧ (f.version = 1 ∨ f.version = 2) ∧
     f.crcOk = true ∧ s.rxConn f = some c ∧ v = s.setConn c
     { s.conn c with st := if (s.conn c).st = .timedOut then .connecting else (s.conn c).st } ∧ (s.conn c).st = .opened ∧
     let d := (f.seq - (s.conn c).seq).toNat; d ≠ 0 ∧ d ≤ s.connWindow c ∧ s.connTimeoutMs c * 10 < f.texp) ∧
    (∃ (s : State) (f : HFrame) (c : Nat) (v : State), s.hingeLive = true ∧ f.fmtOk = true ∧ (f.version = 1 ∨ f.version = 2) ∧
     f.crcOk = true ∧ s.rxConn f = some c ∧ v = s.setConn c
     { s.conn c with st := if (s.conn c).st = .timedOut then .connecting else (s.conn c).st } ∧ (s.conn c).st = .opened ∧
     let d := (f.seq - (s.conn c).seq).toNat; d ≠ 0 ∧ d ≤ s.connWindow c ∧ f.texp ≤ s.connTimeoutMs c * 10 ∧ f.pays.all (payOk
     (s.conn c).ver) = false) ∧
    (∃ (s : State) (f : HFrame) (c : Nat) (v : State), s.hingeLive = true ∧ f.fmtOk = true ∧ (f.version = 1 ∨ f.version = 2) ∧
     f.crcOk = true ∧ s.rxConn f = some c ∧ v = s.setConn c
     { s.conn c with st := if (s.conn c).st = .timedOut then .connecting else (s.conn c).st } ∧ (s.conn c).st = .opened ∧
     let d := (f.seq - (s.conn c).seq).toNat; d ≠ 0 ∧ d ≤ s.connWindow c ∧ f.texp ≤ s.connTimeoutMs c * 10 ∧ f.pays.all (payOk
     (s.conn c).ver) = true) ∧
    (∃ (s : State) (f : HFrame) (c : Nat) (v : State), s.hingeLive = true ∧ f.fmtOk = true ∧ (f.version = 1 ∨ f.version = 2) ∧
     f.crcOk = true ∧ s.rxConn f = some c ∧ v = s.setConn c
     { s.conn c with st := if (s.conn c).st = .timedOut then .connecting else (s.conn c).st } ∧ f.bodyOk = false) ∧
    (∃ (s : State) (f : HFrame) (c : Nat) (v : State) (r : Nat) (t : Nat), s.hingeLive = true ∧ f.fmtOk = true ∧ (f.version = 1 ∨
     f.version = 2) ∧ f.crcOk = true ∧ s.rxConn f = some c ∧ v = s.setConn c
     { s.conn c with st := if (s.conn c).st = .timedOut then .connecting else (s.conn c).st } ∧ f.bodyOk = true ∧ (r = (if f.verLo
     ≤ 2 ∧ 2 ≤ f.verHi then 2 else if f.verLo ≤ 1 ∧ 1 ≤ f.verHi then 1 else 0)) ∧ t = (s.cConn c).paired) ∧
    (∃ (s : State) (f : HFrame) (c : Nat) (v : State) (t : Nat), s.hingeLive = true ∧ f.fmtOk = true ∧ (f.version = 1 ∨ f.version
     = 2) ∧ f.crcOk = true ∧ s.rxConn f = some c ∧ v = s.setConn c
     { s.conn c with st := if (s.conn c).st = .timedOut then .connecting else (s.conn c).st } ∧ t = (s.cConn c).paired ∧ (f.bodyOk
     = false ∨ 2 < f.verLo)) ∧
    (∃ (s : State) (f : HFrame) (c : Nat) (v : State) (t : Nat), s.hingeLive = true ∧ f.fmtOk = true ∧ (f.version = 1 ∨ f.version
     = 2) ∧ f.crcOk = true ∧ s.rxConn f = some c ∧ v = s.setConn c
     { s.conn c with st := if (s.conn c).st = .timedOut then .connecting else (s.conn c).st } ∧ t = (s.cConn c).paired ∧ f.bodyOk
     = true ∧ f.verLo ≤ 2 ∧ ((s.cConn t).tx = false ∨ (s.cConn t).connId ≠ f.ackId ∨ (v.conn t).st = .opened)) ∧
    (∃ (s : State) (f : HFrame) (c : Nat) (v : State) (t : Nat), s.hingeLive = true ∧ f.fmtOk = true ∧ (f.version = 1 ∨ f.version
     = 2) ∧ f.crcOk = true ∧ s.rxConn f = some c ∧ v = s.setConn c
     { s.conn c with st := if (s.conn c).st = .timedOut then .connecting else (s.conn c).st } ∧ t = (s.cConn c).paired ∧ f.bodyOk
     = true ∧ f.verLo ≤ 2 ∧ (s.cConn t).tx = true ∧ (s.cConn t).connId = f.ackId ∧ (v.conn t).st ≠ .opened) ∧
    (∃ (s : State) (c : Nat), s.hingeLive = true ∧ ((s.cConn c).used = false ∨ (s.cConn c).tx = true ∨ (s.conn c).st ≠ .opened)) ∧
    (∃ (s : State) (c : Nat), s.hingeLive = true ∧ (s.cConn c).used = true ∧ (s.cConn c).tx = false ∧ (s.conn c).st = .opened) ∧
    (∃ (s : State) (c : Nat) (l : List HPay), s.hingeLive = true ∧ ((s.cConn c).used = false ∨ (s.cConn c).tx = false ∨ (s.conn
     c).st ≠ .opened ∨ l.all (payOk (s.conn c).ver) = false ∨ 64 < l.foldl (fun n p => n + payLen p) 0)) ∧
    (∃ (s : State) (c : Nat) (l : List HPay), s.hingeLive = true ∧ (s.cConn c).used = true ∧ (s.cConn c).tx = true ∧ (s.conn
     c).st = .opened ∧ l.all (payOk (s.conn c).ver) = true ∧ l.foldl (fun n p => n + payLen p) 0 ≤ 64) ∧
    (∃ (s : State) (c : Nat), s.hingeLive = true ∧ ((s.cConn c).used = false ∨ (s.cConn c).tx = false ∨ (s.conn c).st = .opened)) ∧
    (∃ (s : State) (c : Nat), s.hingeLive = true ∧ (s.cConn c).used = true ∧ (s.cConn c).tx = true ∧ (s.conn c).st ≠ .opened) :=
  ⟨⟨State.reset, by decide +kernel⟩,
   ⟨State.reset, by decide +kernel⟩,
   ⟨live, { version := 3 }, by decide +kernel⟩,
   ⟨live, { crcOk := false }, by decide +kernel⟩,
   ⟨live, { connId := 5, crcOk := false }, 0, by decide +kernel⟩,
   ⟨live, {}, by decide +kernel⟩,
   ⟨live.modConn 0 (fun x => { x with st := .connecting }), { connId := 5 }, 0, (live.modConn 0 (fun x =>
     { x with st := .connecting }) : State).setConn (0 : Nat)
     { (live.modConn 0 (fun x => { x with st := .connecting }) : State).conn (0 : Nat) with st := if ((live.modConn 0 (fun x => { x with st := .connecting }) : State).conn (0 : Nat)).st = .timedOut then .connecting else ((live.modConn 0 (fun x => { x with st := .connecting }) : State).conn (0 : Nat)).st },
     by decide +kernel⟩,
   ⟨(live |>.modConn 0 (fun x => { x with st := .opened })), { connId := 5, seq := 17 }, 0, ((live |>.modConn 0 (fun x =>
     { x with st := .opened })) : State).setConn (0 : Nat)
     { ((live |>.modConn 0 (fun x => { x with st := .opened })) : State).conn (0 : Nat) with st := if (((live |>.modConn 0 (fun x => { x with st := .opened })) : State).conn (0 : Nat)).st = .timedOut then .connecting else (((live |>.modConn 0 (fun x => { x with st := .opened })) : State).conn (0 : Nat)).st },
     by decide +kernel⟩,
   ⟨(live |>.modConn 0 (fun x => { x with st := .opened })), { connId := 5, seq := 16, texp := 401 }, 0, ((live |>.modConn
     0 (fun x => { x with st := .opened })) : State).setConn (0 : Nat)
     { ((live |>.modConn 0 (fun x => { x with st := .opened })) : State).conn (0 : Nat) with st := if (((live |>.modConn 0 (fun x => { x with st := .opened })) : State).conn (0 : Nat)).st = .timedOut then .connecting else (((live |>.modConn 0 (fun x => { x with st := .opened })) : State).conn (0 : Nat)).st },
     by decide +kernel⟩,
   ⟨(live.modConn 0 (fun x => { x with st := .opened })).cfgConn 0 (fun x => { x with window := 10 }),
     { connId := 5, seq := 1, texp := 0, pays := [.malformed] }, 0, ((live.modConn 0 (fun x =>
     { x with st := .opened })).cfgConn 0 (fun x => { x with window := 10 }) : State).setConn (0 : Nat)
     { ((live.modConn 0 (fun x => { x with st := .opened })).cfgConn 0 (fun x => { x with window := 10 }) : State).conn (0 : Nat) with st := if (((live.modConn 0 (fun x => { x with st := .opened })).cfgConn 0 (fun x => { x with window := 10 }) : State).conn (0 : Nat)).st = .timedOut then .connecting else (((live.modConn 0 (fun x => { x with st := .opened })).cfgConn 0 (fun x => { x with window := 10 }) : State).conn (0 : Nat)).st },
     by decide +kernel⟩,
   ⟨(live |>.modConn 0 (fun x => { x with st := .opened })), { connId := 5, seq := 16, texp := 400 }, 0, ((live |>.modConn
     0 (fun x => { x with st := .opened })) : State).setConn (0 : Nat)
     { ((live |>.modConn 0 (fun x => { x with st := .opened })) : State).conn (0 : Nat) with st := if (((live |>.modConn 0 (fun x => { x with st := .opened })) : State).conn (0 : Nat)).st = .timedOut then .connecting else (((live |>.modConn 0 (fun x => { x with st := .opened })) : State).conn (0 : Nat)).st },
     by decide +kernel⟩,
   ⟨live, { connId := 5, bodyOk := false }, 0, live.setConn (0 : Nat)
     { live.conn (0 : Nat) with st := if (live.conn (0 : Nat)).st = .timedOut then .connecting else (live.conn (0 : Nat)).st },
     by decide +kernel⟩,
   ⟨live, { connId := 5, seq := 16, texp := 400 }, 0, live.setConn (0 : Nat)
     { live.conn (0 : Nat) with st := if (live.conn (0 : Nat)).st = .timedOut then .connecting else (live.conn (0 : Nat)).st },
     (if ({ connId := 5, seq := 16, texp := 400 } : HFrame).verLo ≤ 2 ∧ 2 ≤ ({ connId := 5, seq := 16, texp := 400 } :
     HFrame).verHi then 2 else if ({ connId := 5, seq := 16, texp := 400 } : HFrame).verLo ≤ 1 ∧ 1 ≤
     ({ connId := 5, seq := 16, texp := 400 } : HFrame).verHi then 1 else 0), (live.cConn (0 : Nat)).paired,
     by decide +kernel⟩,
   ⟨live, { connId := 5, bodyOk := false }, 0, live.setConn (0 : Nat)
     { live.conn (0 : Nat) with st := if (live.conn (0 : Nat)).st = .timedOut then .connecting else (live.conn (0 : Nat)).st },
     1, by decide +kernel⟩,
   ⟨live, { connId := 5, seq := 16, texp := 400 }, 0, live.setConn (0 : Nat)
     { live.conn (0 : Nat) with st := if (live.conn (0 : Nat)).st = .timedOut then .connecting else (live.conn (0 : Nat)).st },
     (live.cConn (0 : Nat)).paired, by decide +kernel⟩,
   ⟨live.modConn 1 (fun x => { x with st := .connecting }), { connId := 5, ackId := 6 }, 0, (live.modConn 1 (fun x =>
     { x with st := .connecting }) : State).setConn (0 : Nat)
     { (live.modConn 1 (fun x => { x with st := .connecting }) : State).conn (0 : Nat) with st := if ((live.modConn 1 (fun x => { x with st := .connecting }) : State).conn (0 : Nat)).st = .timedOut then .connecting else ((live.modConn 1 (fun x => { x with st := .connecting }) : State).conn (0 : Nat)).st },
     1, by decide +kernel⟩,
   ⟨(live |>.cfgConn 0 (fun x => { x with used := false })), 0, by decide +kernel⟩,
   ⟨(live |>.cfgConn 0 (fun x => { x with used := true, tx := false }) |>.modConn 0 (fun x => { x with st := .opened })),
     0, by decide +kernel⟩,
   ⟨(live |>.cfgConn 0 (fun x => { x with used := false })), 0, [], by decide +kernel⟩,
   ⟨(live |>.cfgConn 0 (fun x => { x with used := true, tx := true }) |>.modConn 0 (fun x => { x with st := .opened })), 0,
     [], by decide +kernel⟩,
   ⟨(live |>.cfgConn 0 (fun x => { x with used := false })), 0, by decide +kernel⟩,
   ⟨(live |>.cfgConn 2 (fun x => { x with used := true, tx := true })), 2, by decide +kernel⟩⟩

theorem witness_SafetyCommandsComplete :
    (∃ (s : State) (c : Cmd), s.key.lc ≠ .field ∧ s.key.lc ≠ .service ∧ s.ready c 0x0B01) ∧
    (∃ (s : State) (c : Cmd), s.key.lc ≠ .field ∧ s.key.lc ≠ .service ∧ s.ready c 0x0B04) ∧
    (∃ (s : State) (c : Cmd), s.key.lc ≠ .field ∧ s.key.lc ≠ .service ∧ s.ready c 0x0B05) ∧
    (∃ (s : State) (c : Cmd), s.key.lc ≠ .field ∧ s.key.lc ≠ .service ∧ s.ready c 0x0B06) ∧
    (∃ (s : State) (c : Cmd), s.key.lc ≠ .field ∧ s.key.lc ≠ .service ∧ s.ready c 0x0B07) ∧
    (∃ (s : State) (c : Cmd), (s.key.lc = .field ∨ s.key.lc = .service) ∧ s.ready c 0x0B01 ∧ s.saf.lockMin ≠ 0) ∧
    (∃ (s : State) (c : Cmd), (s.key.lc = .field ∨ s.key.lc = .service) ∧ s.ready c 0x0B01 ∧ s.saf.lockMin = 0 ∧ (∃ x,
     s.saf.pwdSide = some x ∧ x ≠ c.side)) ∧
    (∃ (s : State) (c : Cmd) (p : List Byte), (s.key.lc = .field ∨ s.key.lc = .service) ∧ s.ready c 0x0B01 ∧ s.saf.lockMin = 0 ∧
     (s.saf.pwdSide = none ∨ s.saf.pwdSide = some c.side) ∧ (∃ salt, s.saf.password = some (salt, p))) ∧
    (∃ (s : State) (c : Cmd) (p : List Byte), (s.key.lc = .field ∨ s.key.lc = .service) ∧ s.ready c 0x0B01 ∧ s.saf.lockMin = 0 ∧
     (s.saf.pwdSide = none ∨ s.saf.pwdSide = some c.side) ∧ (∀ salt, s.saf.password ≠ some (salt, p))) ∧
    (∃ (s : State) (c : Cmd) (l : List (Nat × DWord)), (s.key.lc = .field ∨ s.key.lc = .service) ∧ s.ready c 0x0B04 ∧
     let fits := l.all (fun p => hasParam s.saf.params p.1 && paramInRange p.1 p.2.toNat); s.saf.pwdSide ≠ some c.side) ∧
    (∃ (s : State) (c : Cmd) (l : List (Nat × DWord)), (s.key.lc = .field ∨ s.key.lc = .service) ∧ s.ready c 0x0B04 ∧
     let fits := l.all (fun p => hasParam s.saf.params p.1 && paramInRange p.1 p.2.toNat); s.saf.pwdSide = some c.side ∧ (l = [] ∨
     4 < l.length ∨ fits = false)) ∧
    (∃ (s : State) (c : Cmd) (l : List (Nat × DWord)), (s.key.lc = .field ∨ s.key.lc = .service) ∧ s.ready c 0x0B04 ∧
     let fits := l.all (fun p => hasParam s.saf.params p.1 && paramInRange p.1 p.2.toNat); s.saf.pwdSide = some c.side ∧ l ≠ [] ∧
     l.length ≤ 4 ∧ fits = true) ∧
    (∃ (s : State) (c : Cmd), (s.key.lc = .field ∨ s.key.lc = .service) ∧ s.ready c 0x0B05 ∧
     let t := s.changed.foldl (fun t p => tset none t p.1 (some p.2)) s.saf.params;
     let live := ∃ j p, j < 36 ∧ s.gated j = true ∧ p ∈ s.changed ∧ s.affectsOut (fun i => ((tget none t i).getD 0).toNat) p.1 j = true ∧ s.outOff j = false;
     s.saf.pwdSide ≠ some c.side) ∧
    (∃ (s : State) (c : Cmd), (s.key.lc = .field ∨ s.key.lc = .service) ∧ s.ready c 0x0B05 ∧
     let t := s.changed.foldl (fun t p => tset none t p.1 (some p.2)) s.saf.params;
     let live := ∃ j p, j < 36 ∧ s.gated j = true ∧ p ∈ s.changed ∧ s.affectsOut (fun i => ((tget none t i).getD 0).toNat) p.1 j = true ∧ s.outOff j = false;
     s.saf.pwdSide = some c.side ∧ s.setOk t = false) ∧
    (∃ (s : State) (c : Cmd), (s.key.lc = .field ∨ s.key.lc = .service) ∧ s.ready c 0x0B05 ∧
     let t := s.changed.foldl (fun t p => tset none t p.1 (some p.2)) s.saf.params;
     let live := ∃ j p, j < 36 ∧ s.gated j = true ∧ p ∈ s.changed ∧ s.affectsOut (fun i => ((tget none t i).getD 0).toNat) p.1 j = true ∧ s.outOff j = false;
     s.saf.pwdSide = some c.side ∧ s.setOk t = true ∧ live) ∧
    (∃ (s : State) (c : Cmd), (s.key.lc = .field ∨ s.key.lc = .service) ∧ s.ready c 0x0B05 ∧
     let t := s.changed.foldl (fun t p => tset none t p.1 (some p.2)) s.saf.params;
     let live := ∃ j p, j < 36 ∧ s.gated j = true ∧ p ∈ s.changed ∧ s.affectsOut (fun i => ((tget none t i).getD 0).toNat) p.1 j = true ∧ s.outOff j = false;
     s.saf.pwdSide = some c.side ∧ s.setOk t = true ∧ ¬ live ∧ s.safRoom ≤ s.changed.length) ∧
    (∃ (s : State) (c : Cmd), (s.key.lc = .field ∨ s.key.lc = .service) ∧ s.ready c 0x0B05 ∧
     let t := s.changed.foldl (fun t p => tset none t p.1 (some p.2)) s.saf.params;
     let live := ∃ j p, j < 36 ∧ s.gated j = true ∧ p ∈ s.changed ∧ s.affectsOut (fun i => ((tget none t i).getD 0).toNat) p.1 j = true ∧ s.outOff j = false;
     s.saf.pwdSide = some c.side ∧ s.setOk t = true ∧ ¬ live ∧ s.changed.length < s.safRoom) ∧
    (∃ (s : State) (c : Cmd), (s.key.lc = .field ∨ s.key.lc = .service) ∧ s.ready c 0x0B06 ∧ (s.saf.pwdSide ≠ some c.side ∨
     s.saf.unconfirmed = false)) ∧
    (∃ (s : State) (c : Cmd) (x : Word), (s.key.lc = .field ∨ s.key.lc = .service) ∧ s.ready c 0x0B06 ∧ s.saf.pwdSide = some
     c.side ∧ s.saf.unconfirmed = true ∧ x ≠ paramCrc s.saf.params) ∧
    (∃ (s : State) (c : Cmd) (x : Word), (s.key.lc = .field ∨ s.key.lc = .service) ∧ s.ready c 0x0B06 ∧ s.saf.pwdSide = some
     c.side ∧ s.saf.unconfirmed = true ∧ x = paramCrc s.saf.params ∧ s.safRoom = 0) ∧
    (∃ (s : State) (c : Cmd) (x : Word), (s.key.lc = .field ∨ s.key.lc = .service) ∧ s.ready c 0x0B06 ∧ s.saf.pwdSide = some
     c.side ∧ s.saf.unconfirmed = true ∧ x = paramCrc s.saf.params ∧ s.safRoom ≠ 0) ∧
    (∃ (s : State) (c : Cmd), (s.key.lc = .field ∨ s.key.lc = .service) ∧ s.ready c 0x0B07 ∧ s.saf.pwdSide ≠ some c.side) ∧
    (∃ (s : State) (c : Cmd) (p : List Byte), (s.key.lc = .field ∨ s.key.lc = .service) ∧ s.ready c 0x0B07 ∧ s.saf.pwdSide = some
     c.side ∧ pwdOk p = false) ∧
    (∃ (s : State) (c : Cmd) (p : List Byte), (s.key.lc = .field ∨ s.key.lc = .service) ∧ s.ready c 0x0B07 ∧ s.saf.pwdSide = some
     c.side ∧ pwdOk p = true ∧ s.safRoom = 0) ∧
    (∃ (s : State) (c : Cmd) (p : List Byte), (s.key.lc = .field ∨ s.key.lc = .service) ∧ s.ready c 0x0B07 ∧ s.saf.pwdSide = some
     c.side ∧ pwdOk p = true ∧ s.safRoom ≠ 0) ∧
    (∃ (s : State) (c : Cmd), s.ready c 0x0B02) ∧
    (∃ (s : State) (c : Cmd) (a : Nat) (n : Nat) (dst : Nat), s.ready c 0x0B03 ∧
     let l := s.saf.params.filter (fun p => decide (a ≤ p.1)); (n = 0 ∨ 256 < n ∨ dstOk dst (10 * n) = false ∨ hasParam
     s.saf.params a = false ∨ l.length < n)) ∧
    (∃ (s : State) (c : Cmd) (a : Nat) (n : Nat) (dst : Nat), s.ready c 0x0B03 ∧
     let l := s.saf.params.filter (fun p => decide (a ≤ p.1)); 1 ≤ n ∧ n ≤ 256 ∧ dstOk dst (10 * n) = true ∧ hasParam s.saf.params
     a = true ∧ n ≤ l.length) ∧
    (∃ (s : State) (c : Cmd) (m : KeyMsg) (e : Status), s.ready c 0x0B08 ∧ s.checkMsg m [20] [.service] = some e) ∧
    (∃ (s : State) (c : Cmd) (m : KeyMsg) (p : List Byte), s.ready c 0x0B08 ∧ s.checkMsg m [20] [.service] = none ∧ pwdOk p =
     false) ∧
    (∃ (s : State) (c : Cmd) (m : KeyMsg) (p : List Byte), s.ready c 0x0B08 ∧ s.checkMsg m [20] [.service] = none ∧ pwdOk p =
     true ∧ s.safRoom = 0) ∧
    (∃ (s : State) (c : Cmd) (m : KeyMsg) (p : List Byte), s.ready c 0x0B08 ∧ s.checkMsg m [20] [.service] = none ∧ pwdOk p =
     true ∧ s.safRoom ≠ 0) ∧
    (∃ (s : State) (c : Cmd) (a : Nat) (n : Nat) (dst : Nat), s.ready c 0x0B09 ∧
     let l := (s.saf.log.filter (fun p => decide (a ≤ p.1))).take n; (n = 0 ∨ 256 < n ∨ dstOk dst (64 * n) = false ∨ s.saf.last <
     a)) ∧
    (∃ (s : State) (c : Cmd) (a : Nat) (n : Nat) (dst : Nat), s.ready c 0x0B09 ∧
     let l := (s.saf.log.filter (fun p => decide (a ≤ p.1))).take n; 1 ≤ n ∧ n ≤ 256 ∧ dstOk dst (64 * n) = true ∧ a ≤ s.saf.last) ∧
    (∃ (s : State) (c : Cmd) (m : KeyMsg) (e : Status), s.ready c 0x0B0A ∧ s.checkMsg m [19] [.field, .service] = some e) ∧
    (∃ (s : State) (c : Cmd) (m : KeyMsg), s.ready c 0x0B0A ∧ s.checkMsg m [19] [.field, .service] = none ∧ (m.num ≤
     s.saf.archived ∨ s.saf.last < m.num)) ∧
    (∃ (s : State) (c : Cmd) (m : KeyMsg), s.ready c 0x0B0A ∧ s.checkMsg m [19] [.field, .service] = none ∧ s.saf.archived <
     m.num ∧ m.num ≤ s.saf.last) ∧
    (∃ (s : State) (i : Nat), i < 16 ∧ siMode (s.inPar i) = .single ∧ siMode (s.inPar (2 * (i / 2))) = .single) ∧
    (∃ (s : State) (c : Cmd) (ins : BitVec 16) (cl : Tab Nat), s.ready c 0x0B0B ∧ (∃ i, i < 16 ∧ ins.getLsbD i = true ∧
     s.mayReset ins cl i = false)) ∧
    (∃ (s : State) (c : Cmd) (ins : BitVec 16) (cl : Tab Nat), s.ready c 0x0B0B ∧ (∀ i, i < 16 → ins.getLsbD i = true →
     s.mayReset ins cl i = true)) ∧
    (∃ (s : State) (c : Cmd), s.ready c 0x0B0C) :=
  ⟨⟨({ live with key.lc := .manufacture } : State), {}, by decide +kernel, by decide +kernel, ready_of (by decide +kernel)⟩,
   ⟨({ live with key.lc := .manufacture } : State), {}, by decide +kernel, by decide +kernel, ready_of (by decide +kernel)⟩,
   ⟨({ live with key.lc := .manufacture } : State), {}, by decide +kernel, by decide +kernel, ready_of (by decide +kernel)⟩,
   ⟨({ live with key.lc := .manufacture } : State), {}, by decide +kernel, by decide +kernel, ready_of (by decide +kernel)⟩,
   ⟨({ live with key.lc := .manufacture } : State), {}, by decide +kernel, by decide +kernel, ready_of (by decide +kernel)⟩,
   ⟨{ live with saf.lockMin := 1 }, {}, by decide +kernel, ready_of (by decide +kernel), by decide +kernel⟩,
   ⟨{ live with saf.lockMin := 0, saf.pwdSide := some .host }, {}, by decide +kernel, ready_of (by decide +kernel),
     by decide +kernel, ⟨.host, by decide +kernel⟩⟩,
   ⟨{ live with saf.lockMin := 0, saf.password := some (4, [0x41]) }, {}, [0x41], by decide +kernel, ready_of
     (by decide +kernel), by decide +kernel, by decide +kernel, ⟨4, rfl⟩⟩,
   ⟨{ live with saf.lockMin := 0 }, {}, [], by decide +kernel, ready_of (by decide +kernel), by decide +kernel,
     by decide +kernel, fun _ => nofun⟩,
   ⟨live, {}, [], by decide +kernel, ready_of (by decide +kernel), by decide +kernel⟩,
   ⟨{ live with saf.pwdSide := some .core }, {}, [], by decide +kernel, ready_of (by decide +kernel), by decide +kernel⟩,
   ⟨({ live with saf.pwdSide := some .core } |>.par 0x10 0), {}, [(0x10, 1)], by decide +kernel, ready_of
     (by decide +kernel), by decide +kernel⟩,
   ⟨live, {}, by decide +kernel, ready_of (by decide +kernel), by decide +kernel⟩,
   ⟨{ live with saf.pwdSide := some .core, saf.staged := [(0x10, 7)] }, {}, by decide +kernel, ready_of
     (by decide +kernel), by decide +kernel⟩,
   ⟨{ live with saf.pwdSide := some .core, saf.staged := [(0x60, 1)] }.modGate 32 (fun x => { x with req := true }), {},
     by decide +kernel, ready_of (by decide +kernel), by decide +kernel, by decide +kernel, ⟨32, (0x60, 1),
     by decide +kernel⟩⟩,
   ⟨{ live with saf.pwdSide := some .core, saf.last := 1024 }, {}, by decide +kernel, ready_of (by decide +kernel),
     by decide +kernel, by decide +kernel,
     (by intro x; obtain ⟨_, _, _, _, h, _⟩ := x; rw [show State.changed _ = [] from (by decide +kernel)] at h; cases h),
     by decide +kernel⟩,
   ⟨{ live with saf.pwdSide := some .core, saf.last := 0 }, {}, by decide +kernel, ready_of (by decide +kernel),
     by decide +kernel, by decide +kernel,
     (by intro x; obtain ⟨_, _, _, _, h, _⟩ := x; rw [show State.changed _ = [] from (by decide +kernel)] at h; cases h),
     by decide +kernel⟩,
   ⟨live, {}, by decide +kernel, ready_of (by decide +kernel), by decide +kernel⟩,
   ⟨{ live with saf.pwdSide := some .core, saf.unconfirmed := true }, {}, 1, by decide +kernel, ready_of
     (by decide +kernel), by decide +kernel⟩,
   ⟨{ live with saf.pwdSide := some .core, saf.last := 1024, saf.unconfirmed := true }, {}, paramCrc
     ({ live with saf.pwdSide := some .core, saf.last := 1024, saf.unconfirmed := true } : State).saf.params,
     by decide +kernel, ready_of (by decide +kernel), by decide +kernel⟩,
   ⟨{ live with saf.pwdSide := some .core, saf.unconfirmed := true }, {}, paramCrc
     ({ live with saf.pwdSide := some .core, saf.unconfirmed := true } : State).saf.params, by decide +kernel, ready_of
     (by decide +kernel), by decide +kernel⟩,
   ⟨live, {}, by decide +kernel, ready_of (by decide +kernel), by decide +kernel⟩,
   ⟨{ live with saf.pwdSide := some .core }, {}, [], by decide +kernel, ready_of (by decide +kernel), by decide +kernel⟩,
   ⟨{ live with saf.pwdSide := some .core, saf.last := 1024 }, {}, List.replicate 8 65, by decide +kernel, ready_of
     (by decide +kernel), by decide +kernel⟩,
   ⟨{ live with saf.pwdSide := some .core }, {}, List.replicate 8 0x20, by decide +kernel, ready_of (by decide +kernel),
     by decide +kernel⟩,
   ⟨live, {}, ready_of (by decide +kernel)⟩,
   ⟨live, {}, 0, 0, 0, ready_of (by decide +kernel), by decide +kernel⟩,
   ⟨(live |>.par 0x10 0), {}, 0x10, 1, 0x800000, ready_of (by decide +kernel), by decide +kernel⟩,
   ⟨flashed, {}, { kind := 20, auth := 2, devId := 77, ctr := 1 }, .auth, ready_of (by decide +kernel), by decide +kernel⟩,
   ⟨{ flashed with key.lc := .service }, {}, { kind := 20, auth := 2, devId := 77, ctr := 1, signer := 52 }, [], ready_of
     (by decide +kernel), by decide +kernel⟩,
   ⟨{ flashed with key.lc := .service, saf.last := 1024 }, {},
     { kind := 20, auth := 2, devId := 77, ctr := 1, signer := 52 }, List.replicate 8 65, ready_of (by decide +kernel),
     by decide +kernel⟩,
   ⟨{ flashed with key.lc := .service }, {}, { kind := 20, auth := 2, devId := 77, ctr := 1, signer := 52 }, List.replicate
     32 0x7E, ready_of (by decide +kernel), by decide +kernel⟩,
   ⟨live, {}, 0, 0, 0, ready_of (by decide +kernel), by decide +kernel⟩,
   ⟨{ live with saf.last := 5 }, {}, 5, 256, 0x800000, ready_of (by decide +kernel), by decide +kernel⟩,
   ⟨flashed, {}, { kind := 19, auth := 2, devId := 77, ctr := 1 }, .auth, ready_of (by decide +kernel), by decide +kernel⟩,
   ⟨flashed, {}, { kind := 19, auth := 2, devId := 77, ctr := 1, signer := 52, num := 1 }, ready_of (by decide +kernel),
     by decide +kernel⟩,
   ⟨{ flashed with saf.last := 5 }, {}, { kind := 19, auth := 2, devId := 77, ctr := 1, num := 5, signer := 52 }, ready_of
     (by decide +kernel), by decide +kernel⟩,
   ⟨(live.par 0x1E 1).par 0x1F 1, 15, by decide +kernel⟩,
   ⟨live.modSin 15 (fun x => { x with fault := true }), {}, 0x8000, [], ready_of (by decide +kernel), ⟨15,
     by decide +kernel⟩⟩,
   ⟨live, {}, 0, [], ready_of (by decide +kernel), by decide +kernel⟩,
   ⟨live, {}, ready_of (by decide +kernel)⟩⟩

theorem witness_LanesAct :
    (∃ (s : State), s.awake = false) ∧
    (∃ (s : State) (n : Nat) (i : Nat), s.awake = true ∧ (s.pvy.run = false ∨ (s.lane n).cfg.configured = false ∨ 64 ≤ n ∨
     (s.laneDue n).getD i ≠ i)) ∧
    (∃ (s : State) (n : Nat) (i : Nat), s.awake = true ∧ s.pvy.run = true ∧ (s.lane n).cfg.configured = true ∧ n < 64 ∧
     (s.laneDue n).getD i = i ∧ (s.lane n).holdReq = false) ∧
    (∃ (s : State) (n : Nat) (i : Nat), s.awake = true ∧ s.pvy.run = true ∧ (s.lane n).cfg.configured = true ∧ n < 64 ∧
     (s.laneDue n).getD i = i ∧ (s.lane n).holdReq = true) ∧
    (∃ (g : LaneCfg) (k : Nat) (x : Int) (a : Int) (b : Int), let o := section40 g k x a b; o.sat = false) ∧
    (∃ (s : State) (off : Nat), (s.sys.inReset = true ∨ laneOf off = none ∨ off % 4 ≠ 0)) ∧
    (∃ (s : State) (n : Nat) (off : Nat), s.sys.inReset = false ∧ laneOf off = some n ∧ off % 4 = 0) ∧
    (∃ (s : State) (c : Cmd), s.ready c 0x0C01) ∧
    (∃ (s : State) (n : Nat) (c : Cmd), s.ready c 0x0C02 ∧ (64 ≤ n ∨ (s.lane n).cfg.configured = false)) ∧
    (∃ (s : State) (n : Nat) (c : Cmd), s.ready c 0x0C02 ∧ n < 64 ∧ (s.lane n).cfg.configured = true) :=
  ⟨⟨State.reset, by decide +kernel⟩,
   ⟨{ live with pvy.run := false }, 0, 0, by decide +kernel⟩,
   ⟨({ live with pvy.run := true } |>.modLane 63 (fun x => { x with cfg.configured := true, holdReq := false })), 63, 0,
     by decide +kernel⟩,
   ⟨({ live with pvy.run := true } |>.modLane 63 (fun x => { x with cfg.configured := true, holdReq := true })), 63, 0,
     by decide +kernel⟩,
   ⟨{}, 0, 0, 0, 0, by decide +kernel⟩,
   ⟨{ live with sys.inReset := true }, 0, by decide +kernel⟩,
   ⟨live, 0, 0x1000, by decide +kernel⟩,
   ⟨live, {}, ready_of (by decide +kernel)⟩,
   ⟨live, 64, {}, ready_of (by decide +kernel), by decide +kernel⟩,
   ⟨(live |>.modLane 63 (fun x => { x with cfg.configured := true })), 63, {}, ready_of (by decide +kernel),
     by decide +kernel⟩⟩

theorem witness_ChannelCommandsComplete :
    (∃ (s : State) (c : Cmd) (ch : Nat) (o : Nat) (d : Nat), s.ready c 0x0D01 ∧ (32 ≤ ch ∨ 1000 < d ∨ 1 < o)) ∧
    (∃ (s : State) (c : Cmd) (ch : Nat) (o : Nat) (d : Nat), s.ready c 0x0D01 ∧ ch < 32 ∧ d ≤ 1000 ∧ o ≤ 1 ∧ ((s.cChan
     ch).configured = false ∨ (s.cChan ch).owner ≠ .software ∨ (s.chan ch).st = .thermLatch ∨ (s.chan ch).st = .latchedOff ∨
     (s.chan ch).st = .supplyOff)) ∧
    (∃ (s : State) (c : Cmd) (ch : Nat) (d : Nat), s.ready c 0x0D01 ∧ ch < 32 ∧ d ≤ 1000 ∧ (s.cChan ch).configured = true ∧
     (s.cChan ch).owner = .software ∧ (s.chan ch).st ≠ .thermLatch ∧ (s.chan ch).st ≠ .latchedOff ∧ (s.chan ch).st ≠ .supplyOff) ∧
    (∃ (s : State) (c : Cmd) (ch : Nat) (d : Nat), s.ready c 0x0D01 ∧ ch < 32 ∧ d ≤ 1000 ∧ (s.cChan ch).configured = true ∧
     (s.cChan ch).owner = .software ∧ (s.chan ch).st = .on) ∧
    (∃ (s : State) (c : Cmd) (ch : Nat) (d : Nat), s.ready c 0x0D01 ∧ ch < 32 ∧ d ≤ 1000 ∧ (s.cChan ch).configured = true ∧
     (s.cChan ch).owner = .software ∧ ((s.chan ch).st = .inrush ∨ (s.chan ch).st = .hold ∨ (s.chan ch).st = .retryWait ∨ ((s.chan
     ch).st = .permitWait ∧ (s.chan ch).retrying = true))) ∧
    (∃ (s : State) (c : Cmd) (ch : Nat) (d : Nat), s.ready c 0x0D01 ∧ ch < 32 ∧ d ≤ 1000 ∧ (s.cChan ch).configured = true ∧
     (s.cChan ch).owner = .software ∧ (s.chan ch).st = .permitWait ∧ (s.chan ch).retrying = false) ∧
    (∃ (s : State) (c : Cmd) (ch : Nat) (d : Nat), s.ready c 0x0D01 ∧ ch < 32 ∧ d ≤ 1000 ∧ (s.cChan ch).configured = true ∧
     (s.cChan ch).owner = .software ∧ (s.chan ch).st = .off ∧ d = 0) ∧
    (∃ (s : State) (c : Cmd) (ch : Nat) (d : Nat), s.ready c 0x0D01 ∧ ch < 32 ∧ d ≤ 1000 ∧ (s.cChan ch).configured = true ∧
     (s.cChan ch).owner = .software ∧ (s.chan ch).st = .off ∧ d ≠ 0 ∧ s.chk.supply ≠ .normal) ∧
    (∃ (s : State) (c : Cmd) (ch : Nat) (d : Nat), s.ready c 0x0D01 ∧ ch < 32 ∧ d ≤ 1000 ∧ (s.cChan ch).configured = true ∧
     (s.cChan ch).owner = .software ∧ (s.chan ch).st = .off ∧ d ≠ 0 ∧ s.chk.supply = .normal) ∧
    (∃ (s : State) (c : Cmd) (ch : Nat), s.ready c 0x0D02 ∧ 32 ≤ ch) ∧
    (∃ (s : State) (c : Cmd) (ch : Nat), s.ready c 0x0D02 ∧ ch < 32) ∧
    (∃ (s : State) (c : Cmd) (ch : Nat), s.ready c 0x0D03 ∧ 32 ≤ ch) ∧
    (∃ (s : State) (c : Cmd) (ch : Nat), s.ready c 0x0D03 ∧ ch < 32) :=
  ⟨⟨live, {}, 32, 0, 0, ready_of (by decide +kernel), by decide +kernel⟩,
   ⟨(live |>.cfgChan 31 (fun x => { x with configured := false })), {}, 31, 1, 1000, ready_of (by decide +kernel),
     by decide +kernel⟩,
   ⟨(live |>.cfgChan 31 (fun x => { x with configured := true, owner := .software })), {}, 31, 1000, ready_of
     (by decide +kernel), by decide +kernel⟩,
   ⟨(live |>.cfgChan 31 (fun x => { x with configured := true, owner := .software }) |>.modChan 31 (fun x =>
     { x with st := .on })), {}, 31, 1000, ready_of (by decide +kernel), by decide +kernel⟩,
   ⟨(live |>.cfgChan 31 (fun x => { x with configured := true, owner := .software }) |>.modChan 31 (fun x =>
     { x with st := .inrush })), {}, 31, 1000, ready_of (by decide +kernel), by decide +kernel⟩,
   ⟨(live |>.cfgChan 31 (fun x => { x with configured := true, owner := .software }) |>.modChan 31 (fun x =>
     { x with st := .permitWait })), {}, 31, 1000, ready_of (by decide +kernel), by decide +kernel⟩,
   ⟨(live |>.cfgChan 31 (fun x => { x with configured := true, owner := .software }) |>.modChan 31 (fun x =>
     { x with st := .off })), {}, 31, 0, ready_of (by decide +kernel), by decide +kernel⟩,
   ⟨({ live with chk.supply := .surge }.cfgChan 31 (fun x => { x with configured := true, owner := .software })).modChan 31
     (fun x => { x with st := .off }), {}, 31, 1000, ready_of (by decide +kernel), by decide +kernel⟩,
   ⟨({ live with chk.supply := .normal } |>.cfgChan 31 (fun x => { x with configured := true, owner := .software })
     |>.modChan 31 (fun x => { x with st := .off })), {}, 31, 1000, ready_of (by decide +kernel), by decide +kernel⟩,
   ⟨live, {}, 32, ready_of (by decide +kernel), by decide +kernel⟩,
   ⟨live, {}, 31, ready_of (by decide +kernel), by decide +kernel⟩,
   ⟨live, {}, 32, ready_of (by decide +kernel), by decide +kernel⟩,
   ⟨live, {}, 31, ready_of (by decide +kernel), by decide +kernel⟩⟩

theorem witness_ChannelEventsAct :
    (∃ (s : State) (ch : Nat), (s.chanLive ch = false ∨ (s.chan ch).st ≠ .inrush)) ∧
    (∃ (s : State) (ch : Nat) (mA : Nat), s.chanLive ch = true ∧ (s.chan ch).st = .inrush ∧ mA ≤ overloadLevel (s.cChan ch)
     false) ∧
    (∃ (s : State) (ch : Nat) (mA : Nat), s.chanLive ch = true ∧ (s.chan ch).st = .inrush ∧ overloadLevel (s.cChan ch) false <
     mA) ∧
    (∃ (s : State) (ch : Nat) (cause : ChCause) (k : Nat), let u := s.chkFault ch cause; k ≠ ch) ∧
    (∃ (s : State) (ch : Nat), s.chanLive ch = false) ∧
    (∃ (s : State) (ch : Nat) (tj : Int) (rt : Int) (v : State), s.chanLive ch = true ∧ v = s.setChan ch
     { s.chan ch with tj := tj, tjMax := max (s.chan ch).tjMax tj } ∧ let hot := 170 < tj;
     let dt := (∀ k, k / 4 = ch / 4 → (v.chan k).tj ≤ tj) ∧ 60 < tj - rt; (chConducts (s.chan ch).st = false ∨ (¬ hot ∧ ¬ dt))) ∧
    (∃ (s : State) (ch : Nat) (tj : Int) (rt : Int) (v : State), s.chanLive ch = true ∧ v = s.setChan ch
     { s.chan ch with tj := tj, tjMax := max (s.chan ch).tjMax tj } ∧ let hot := 170 < tj;
     let dt := (∀ k, k / 4 = ch / 4 → (v.chan k).tj ≤ tj) ∧ 60 < tj - rt; chConducts (s.chan ch).st = true ∧ hot) ∧
    (∃ (s : State) (ch : Nat) (tj : Int) (rt : Int) (v : State), s.chanLive ch = true ∧ v = s.setChan ch
     { s.chan ch with tj := tj, tjMax := max (s.chan ch).tjMax tj } ∧ let hot := 170 < tj;
     let dt := (∀ k, k / 4 = ch / 4 → (v.chan k).tj ≤ tj) ∧ 60 < tj - rt; chConducts (s.chan ch).st = true ∧ ¬ hot ∧ dt) ∧
    (∃ (s : State) (ch : Nat) (cause : ChCause) (k : Nat), let u := s.chkThermal ch cause; k ≠ ch) ∧
    (∃ (s : State) (ch : Nat) (tj : Int) (rt : Int) (v : State), v = s.setChan ch { s.chan ch with tj := tj } ∧
     let cooled := if (s.chan ch).cause = .deltaT then (∀ k, k / 4 = ch / 4 → (v.chan k).tj - rt ≤ 40) else tj ≤ 150; (¬
     (s.chanLive ch = true ∧ (s.chan ch).st = .thermLatch ∧ cooled))) ∧
    (∃ (s : State) (ch : Nat) (tj : Int) (rt : Int) (v : State), v = s.setChan ch { s.chan ch with tj := tj } ∧
     let cooled := if (s.chan ch).cause = .deltaT then (∀ k, k / 4 = ch / 4 → (v.chan k).tj - rt ≤ 40) else tj ≤ 150; s.chanLive
     ch = true ∧ (s.chan ch).st = .thermLatch ∧ cooled) ∧
    (∃ (s : State) (ch : Nat) (cause : ChCause) (k : Nat), let u := s.chkLatch ch cause; k ≠ ch) ∧
    (∃ (s : State), s.chk.supply ≠ .normal) ∧
    (∃ (s : State), s.chk.supply = .normal ∧ s.awake = false) ∧
    (∃ (s : State) (ch : Nat), s.chk.supply = .normal ∧ s.awake = true ∧ (s.chan ch).left = 0) ∧
    (∃ (s : State) (ch : Nat), s.chk.supply = .normal ∧ s.awake = true ∧ (s.chan ch).left ≠ 0 ∧ (s.chan ch).wantDuty = 0) ∧
    (∃ (s : State) (ch : Nat), s.chk.supply = .normal ∧ s.awake = true ∧ (s.chan ch).left ≠ 0 ∧ (s.chan ch).wantDuty ≠ 0) ∧
    (∃ (s : State) (ch : Nat) (k : Nat), s.chk.supply = .normal ∧ s.awake = true ∧ (s.chan ch).left ≠ 0 ∧ (s.chan ch).wantDuty ≠
     0 ∧ let u := s.chkRetry ch; k ≠ ch) ∧
    (∃ (s : State) (ch : Nat) (k : Nat), let u := s.chkOff ch; k ≠ ch) ∧
    (∃ (s : State) (ch : Nat) (ms : Nat), (s.chanLive ch = false ∨ chConducts (s.chan ch).st = false ∨ ms < 100)) ∧
    (∃ (s : State) (ch : Nat) (ms : Nat), s.chanLive ch = true ∧ chConducts (s.chan ch).st = true ∧ 100 ≤ ms) ∧
    (∃ (s : State) (ch : Nat) (ms : Nat), (s.chanLive ch = false ∨ chConducts (s.chan ch).st = true ∨ ms < 10)) ∧
    (∃ (s : State) (ch : Nat) (ms : Nat), s.chanLive ch = true ∧ chConducts (s.chan ch).st = false ∧ 10 ≤ ms) ∧
    (∃ (s : State), s.sys.inReset = true) ∧
    (∃ (s : State) (vaux : Int) (gnd : Int) (v : State), s.sys.inReset = false ∧
     let kind : Supply := if 2000 < gnd then .groundLoss else if vaux < -10 then .reverse else if 380 < vaux then .surge else if vaux < 60 then .undervoltage else .normal;
     let ended := (s.chk.supply = .undervoltage ∧ 70 < vaux) ∨ (s.chk.supply = .surge ∧ vaux < 360) ∨ (s.chk.supply = .groundLoss ∧ gnd ≤ 2000) ∨ (s.chk.supply = .reverse ∧ 0 < vaux);
     v = { s with sys := { s.sys with vaux := vaux } } ∧ (kind = .normal ∨ kind = s.chk.supply)) ∧
    (∃ (s : State) (vaux : Int) (gnd : Int) (v : State), s.sys.inReset = false ∧
     let kind : Supply := if 2000 < gnd then .groundLoss else if vaux < -10 then .reverse else if 380 < vaux then .surge else if vaux < 60 then .undervoltage else .normal;
     let ended := (s.chk.supply = .undervoltage ∧ 70 < vaux) ∨ (s.chk.supply = .surge ∧ vaux < 360) ∨ (s.chk.supply = .groundLoss ∧ gnd ≤ 2000) ∨ (s.chk.supply = .reverse ∧ 0 < vaux);
     v = { s with sys := { s.sys with vaux := vaux } } ∧ kind ≠ .normal ∧ kind ≠ s.chk.supply) ∧
    (∃ (s : State) (vaux : Int) (gnd : Int) (v : State), s.sys.inReset = false ∧
     let kind : Supply := if 2000 < gnd then .groundLoss else if vaux < -10 then .reverse else if 380 < vaux then .surge else if vaux < 60 then .undervoltage else .normal;
     let ended := (s.chk.supply = .undervoltage ∧ 70 < vaux) ∨ (s.chk.supply = .surge ∧ vaux < 360) ∨ (s.chk.supply = .groundLoss ∧ gnd ≤ 2000) ∨ (s.chk.supply = .reverse ∧ 0 < vaux);
     v = { s with sys := { s.sys with vaux := vaux } } ∧ ¬ ended) ∧
    (∃ (s : State) (vaux : Int) (gnd : Int) (v : State), s.sys.inReset = false ∧
     let kind : Supply := if 2000 < gnd then .groundLoss else if vaux < -10 then .reverse else if 380 < vaux then .surge else if vaux < 60 then .undervoltage else .normal;
     let ended := (s.chk.supply = .undervoltage ∧ 70 < vaux) ∨ (s.chk.supply = .surge ∧ vaux < 360) ∨ (s.chk.supply = .groundLoss ∧ gnd ≤ 2000) ∨ (s.chk.supply = .reverse ∧ 0 < vaux);
     v = { s with sys := { s.sys with vaux := vaux } } ∧ ended ∧ kind ≠ .normal) ∧
    (∃ (s : State) (vaux : Int) (gnd : Int) (v : State), s.sys.inReset = false ∧
     let kind : Supply := if 2000 < gnd then .groundLoss else if vaux < -10 then .reverse else if 380 < vaux then .surge else if vaux < 60 then .undervoltage else .normal;
     let ended := (s.chk.supply = .undervoltage ∧ 70 < vaux) ∨ (s.chk.supply = .surge ∧ vaux < 360) ∨ (s.chk.supply = .groundLoss ∧ gnd ≤ 2000) ∨ (s.chk.supply = .reverse ∧ 0 < vaux);
     v = { s with sys := { s.sys with vaux := vaux } } ∧ ended ∧ kind = .normal) ∧
    (∃ (s : State) (ch : Nat) (kind : Supply), let live := chConducts (s.chan ch).st || decide ((s.chan ch).st = .permitWait);
     ((s.cChan ch).configured = false ∨ (s.chan ch).st = .supplyOff ∨ (live = false ∧ kind ≠ .reverse))) ∧
    (∃ (s : State) (ch : Nat) (kind : Supply), let live := chConducts (s.chan ch).st || decide ((s.chan ch).st = .permitWait);
     (s.cChan ch).configured = true ∧ (s.chan ch).st ≠ .supplyOff ∧ (live = true ∨ kind = .reverse)) ∧
    (∃ (s : State) (ch : Nat), let x := s.chan ch; x.st ≠ .supplyOff) ∧
    (∃ (s : State) (ch : Nat), let x := s.chan ch; x.st = .supplyOff ∧ (x.before = .retryWait ∨ x.before = .thermLatch ∨ x.before
     = .latchedOff)) ∧
    (∃ (s : State) (ch : Nat), let x := s.chan ch; x.st = .supplyOff ∧ x.before ≠ .retryWait ∧ x.before ≠ .thermLatch ∧ x.before
     ≠ .latchedOff ∧ (x.want = false ∨ (s.cChan ch).safety = true ∨ x.wantDuty = 0)) ∧
    (∃ (s : State) (ch : Nat), let x := s.chan ch; x.st = .supplyOff ∧ x.before ≠ .retryWait ∧ x.before ≠ .thermLatch ∧ x.before
     ≠ .latchedOff ∧ x.want = true ∧ (s.cChan ch).safety = false ∧ x.wantDuty ≠ 0) ∧
    (∃ (s : State), s.sys.inReset = true) ∧
    (∃ (s : State), s.sys.inReset = false) ∧
    (∃ (s : State) (meas : List ChMeas) (v : State), s.sys.inReset = false ∧ v = meas.foldl (fun (a : State) m => if a.chanLive
     m.ch then a.setChan m.ch { a.chan m.ch with mA := m.mA, tj := m.tj } else a) s) ∧
    (∃ (s : State) (limit : Nat) (total : Nat), (total ≤ limit ∨ s.shedNext = none)) ∧
    (∃ (s : State) (limit : Nat) (total : Nat) (a : Nat), limit < total ∧ s.shedNext = some a) ∧
    (∃ (s : State) (a : Nat), s.shedNext = some a) ∧
    (∃ (s : State) (a : Nat) (b : Nat), s.shedNext = some a ∧ b < 32 ∧ s.sheddable b = true) ∧
    (∃ (s : State) (b : Nat), s.shedNext = none ∧ b < 32) ∧
    (∃ (s : State) (b : Nat), ((s.cChan b).safety = true ∨ (s.cChan b).shed = 0)) ∧
    (∃ (s : State) (b : Nat), s.sheddable b = false) ∧
    (∃ (s : State) (a : Nat) (k : Nat), let u := s.shedOne a; k ≠ a) :=
  ⟨⟨live, 0, by decide +kernel⟩,
   ⟨(live |>.modChan 0 (fun x => { x with st := .inrush })), 0, 0, by decide +kernel⟩,
   ⟨(live |>.modChan 0 (fun x => { x with st := .inrush })), 0, 1501, by decide +kernel⟩,
   ⟨live, 0, .short, 1, by decide +kernel⟩,
   ⟨State.reset, 0, by decide +kernel⟩,
   ⟨live, 0, 0, 0, live.setChan (0 : Nat)
     { live.chan (0 : Nat) with tj := (0 : Int), tjMax := max (live.chan (0 : Nat)).tjMax (0 : Int) }, by decide +kernel,
     by decide +kernel, .inl (by decide +kernel)⟩,
   ⟨(live |>.modChan 0 (fun x => { x with st := .on })), 0, 171, 0, ((live |>.modChan 0 (fun x => { x with st := .on })) :
     State).setChan (0 : Nat)
     { ((live |>.modChan 0 (fun x => { x with st := .on })) : State).chan (0 : Nat) with tj := (171 : Int), tjMax := max (((live |>.modChan 0 (fun x => { x with st := .on })) : State).chan (0 : Nat)).tjMax (171 : Int) },
     by decide +kernel⟩,
   ⟨live.modChan 0 (fun x => { x with st := .on }), 0, 170, 109, (live.modChan 0 (fun x => { x with st := .on }) :
     State).setChan (0 : Nat)
     { (live.modChan 0 (fun x => { x with st := .on }) : State).chan (0 : Nat) with tj := (170 : Int), tjMax := max ((live.modChan 0 (fun x => { x with st := .on }) : State).chan (0 : Nat)).tjMax (170 : Int) },
     by decide +kernel, by decide +kernel, by decide +kernel, by decide +kernel,
     ⟨by intro k hk; have h : k = 0 ∨ k = 1 ∨ k = 2 ∨ k = 3 := (by omega); rcases h with rfl | rfl | rfl | rfl <;> decide +kernel, by decide⟩⟩,
   ⟨live, 0, .short, 1, by decide +kernel⟩,
   ⟨live, 0, 0, 0, live.setChan (0 : Nat) { live.chan (0 : Nat) with tj := (0 : Int) }, by decide +kernel, fun h => absurd
     h.2.1 (by decide +kernel)⟩,
   ⟨live.modChan 0 (fun x => { x with st := .thermLatch }), 0, 0, 0, (live.modChan 0 (fun x =>
     { x with st := .thermLatch }) : State).setChan (0 : Nat)
     { (live.modChan 0 (fun x => { x with st := .thermLatch }) : State).chan (0 : Nat) with tj := (0 : Int) },
     by decide +kernel, by decide +kernel, by decide +kernel, by dsimp only; rw [if_neg (by decide +kernel)]; decide⟩,
   ⟨live, 0, .short, 1, by decide +kernel⟩,
   ⟨{ live with chk.supply := .surge }, by decide +kernel⟩,
   ⟨{ State.reset with chk.supply := .normal }, by decide +kernel⟩,
   ⟨({ live with chk.supply := .normal } |>.modChan 0 (fun x => { x with left := 0 })), 0, by decide +kernel⟩,
   ⟨live.modChan 0 (fun x => { x with left := 3, wantDuty := 0 }), 0, by decide +kernel⟩,
   ⟨({ live with chk.supply := .normal } |>.modChan 0 (fun x => { x with left := 1, wantDuty := 1000 })), 0,
     by decide +kernel⟩,
   ⟨live.modChan 0 (fun x => { x with left := 3, wantDuty := 1000 }), 0, 1, by decide +kernel⟩,
   ⟨live, 0, 1, by decide +kernel⟩,
   ⟨live, 0, 0, by decide +kernel⟩,
   ⟨(live |>.modChan 0 (fun x => { x with st := .on })), 0, 100, by decide +kernel⟩,
   ⟨live, 0, 0, by decide +kernel⟩,
   ⟨live, 0, 10, by decide +kernel⟩,
   ⟨{ live with sys.inReset := true }, by decide +kernel⟩,
   ⟨live, 120, 0, { live with sys := { live.sys with vaux := (120 : Int) } }, by decide +kernel⟩,
   ⟨live, 0, 0, { live with sys := { live.sys with vaux := (0 : Int) } }, by decide +kernel⟩,
   ⟨live, 0, 0, { live with sys := { live.sys with vaux := (0 : Int) } }, by decide +kernel⟩,
   ⟨{ live with chk.supply := .groundLoss }, 0, 2000,
     { ({ live with chk.supply := .groundLoss } : State) with sys := { ({ live with chk.supply := .groundLoss } : State).sys with vaux := (0 : Int) } },
     by decide +kernel⟩,
   ⟨{ live with chk.supply := .undervoltage }, 71, 0,
     { ({ live with chk.supply := .undervoltage } : State) with sys := { ({ live with chk.supply := .undervoltage } : State).sys with vaux := (71 : Int) } },
     by decide +kernel⟩,
   ⟨(live |>.cfgChan 0 (fun x => { x with configured := false })), 0, .surge, by decide +kernel⟩,
   ⟨(live |>.cfgChan 0 (fun x => { x with configured := true })), 0, .reverse, by decide +kernel⟩,
   ⟨live, 0, by decide +kernel⟩,
   ⟨(live |>.modChan 0 (fun x => { x with st := .supplyOff, before := .retryWait })), 0, by decide +kernel⟩,
   ⟨(live |>.modChan 0 (fun x => { x with st := .supplyOff })), 0, by decide +kernel⟩,
   ⟨(live |>.modChan 0 (fun x => { x with st := .supplyOff, want := true }) |>.cfgChan 0 (fun x =>
     { x with safety := false })), 0, by decide +kernel⟩,
   ⟨{ live with sys.inReset := true }, by decide +kernel⟩,
   ⟨live, by decide +kernel⟩,
   ⟨live, [], ([] : List ChMeas).foldl (fun (a : State) m => if a.chanLive m.ch then a.setChan m.ch
     { a.chan m.ch with mA := m.mA, tj := m.tj } else a) live, by decide +kernel⟩,
   ⟨live, 0, 0, by decide +kernel⟩,
   ⟨(live.modChan 0 (fun x => { x with st := .on })).cfgChan 0 (fun x => { x with shed := 1 }), 0, 1, 0, by decide +kernel⟩,
   ⟨(live |>.cfgChan 5 (fun x => { x with shed := 3 }) |>.modChan 5 (fun x => { x with st := .on })), 5, by decide +kernel⟩,
   ⟨(live |>.cfgChan 5 (fun x => { x with shed := 3 }) |>.modChan 5 (fun x => { x with st := .on })), 5, 5,
     by decide +kernel⟩,
   ⟨live, 31, by decide +kernel⟩,
   ⟨(live |>.cfgChan 0 (fun x => { x with safety := true })), 0, by decide +kernel⟩,
   ⟨live, 0, by decide +kernel⟩,
   ⟨live, 0, 1, by decide +kernel⟩⟩

theorem witness_SkidlineFramesReceived :
    (∃ (s : State) (rx : SRx) (f : SFrame), let idle := decide (s.sys.pstate = .idleSite);
     let wakes := s.canWake 3 0 && (decide (f.dst = s.sklAddr) || decide (f.dst = everyone)) && (rx.codewords s.img.skl.coupling).all codewordOk;
     (s.sys.inReset = true ∨ s.skl.run = false ∨ (idle = true ∧ wakes = false))) ∧
    (∃ (s : State) (rx : SRx) (f : SFrame) (r : State × Bool), let idle := decide (s.sys.pstate = .idleSite);
     let wakes := s.canWake 3 0 && (decide (f.dst = s.sklAddr) || decide (f.dst = everyone)) && (rx.codewords s.img.skl.coupling).all codewordOk;
     s.sys.inReset = false ∧ s.skl.run = true ∧ (idle = true → wakes = true) ∧ r = (if idle then s.wakeUp 3 0 else s).sklRx rx f
     (!idle) ∧ (r.2 = false ∨ f.hinge = none ∨ r.1.hingeLive = false)) ∧
    (∃ (s : State) (rx : SRx) (f : SFrame) (r : State × Bool) (h : HFrame) (g : HFrame),
     let idle := decide (s.sys.pstate = .idleSite);
     let wakes := s.canWake 3 0 && (decide (f.dst = s.sklAddr) || decide (f.dst = everyone)) && (rx.codewords s.img.skl.coupling).all codewordOk;
     s.sys.inReset = false ∧ s.skl.run = true ∧ (idle = true → wakes = true) ∧ r = (if idle then s.wakeUp 3 0 else s).sklRx rx f
     (!idle) ∧ r.2 = true ∧ f.hinge = some h ∧ r.1.hingeLive = true ∧ g = { h with link := sklLink, peer := f.orig }) ∧
    (∃ (s : State) (rx : SRx) (f : SFrame), let idle := decide (s.sys.pstate = .idleSite);
     let wakes := s.canWake 3 0 && (decide (f.dst = s.sklAddr) || decide (f.dst = everyone)) && (rx.codewords s.img.skl.coupling).all codewordOk;
     let cw := rx.codewords s.img.skl.coupling; let k := s.sklKey f.epoch;
     let live := f.epoch = s.skl.epoch ∨ s.skl.prevEpoch = some f.epoch; cw.all codewordOk = false) ∧
    (∃ (s : State) (rx : SRx) (f : SFrame), let idle := decide (s.sys.pstate = .idleSite);
     let wakes := s.canWake 3 0 && (decide (f.dst = s.sklAddr) || decide (f.dst = everyone)) && (rx.codewords s.img.skl.coupling).all codewordOk;
     let cw := rx.codewords s.img.skl.coupling; let k := s.sklKey f.epoch;
     let live := f.epoch = s.skl.epoch ∨ s.skl.prevEpoch = some f.epoch; cw.all codewordOk = true ∧ f.domain ≠ s.img.skl.domain) ∧
    (∃ (s : State) (rx : SRx) (f : SFrame), let idle := decide (s.sys.pstate = .idleSite);
     let wakes := s.canWake 3 0 && (decide (f.dst = s.sklAddr) || decide (f.dst = everyone)) && (rx.codewords s.img.skl.coupling).all codewordOk;
     let cw := rx.codewords s.img.skl.coupling; let k := s.sklKey f.epoch;
     let live := f.epoch = s.skl.epoch ∨ s.skl.prevEpoch = some f.epoch; cw.all codewordOk = true ∧ f.domain = s.img.skl.domain ∧
     (¬ (live ∧ k = some f.signer))) ∧
    (∃ (s : State) (rx : SRx) (f : SFrame), let idle := decide (s.sys.pstate = .idleSite);
     let wakes := s.canWake 3 0 && (decide (f.dst = s.sklAddr) || decide (f.dst = everyone)) && (rx.codewords s.img.skl.coupling).all codewordOk;
     let cw := rx.codewords s.img.skl.coupling; let k := s.sklKey f.epoch;
     let live := f.epoch = s.skl.epoch ∨ s.skl.prevEpoch = some f.epoch; cw.all codewordOk = true ∧ f.domain = s.img.skl.domain ∧
     live ∧ k = some f.signer) ∧
    (∃ (s : State) (rx : SRx) (f : SFrame) (g : TxFrame), let idle := decide (s.sys.pstate = .idleSite);
     let wakes := s.canWake 3 0 && (decide (f.dst = s.sklAddr) || decide (f.dst = everyone)) && (rx.codewords s.img.skl.coupling).all codewordOk;
     s.skl.ackWait = some g.id ∧ s.skl.txq.find? (fun x => x.id = g.id) = some g) ∧
    (∃ (s : State) (rx : SRx) (f : SFrame), let idle := decide (s.sys.pstate = .idleSite);
     let wakes := s.canWake 3 0 && (decide (f.dst = s.sklAddr) || decide (f.dst = everyone)) && (rx.codewords s.img.skl.coupling).all codewordOk;
     s.skl.ackWait = none) ∧
    (∃ (s : State) (rx : SRx) (f : SFrame) (g : TxFrame) (d : Nat), let idle := decide (s.sys.pstate = .idleSite);
     let wakes := s.canWake 3 0 && (decide (f.dst = s.sklAddr) || decide (f.dst = everyone)) && (rx.codewords s.img.skl.coupling).all codewordOk;
     let u := s.sklAcked g d; s.skl.ackWait = some g.id) ∧
    (∃ (s : State) (rx : SRx) (f : SFrame), let idle := decide (s.sys.pstate = .idleSite);
     let wakes := s.canWake 3 0 && (decide (f.dst = s.sklAddr) || decide (f.dst = everyone)) && (rx.codewords s.img.skl.coupling).all codewordOk;
     (f.orig = s.sklAddr ∨ (f.orig, f.mseq) ∈ s.skl.dups)) ∧
    (∃ (s : State) (rx : SRx) (f : SFrame), let idle := decide (s.sys.pstate = .idleSite);
     let wakes := s.canWake 3 0 && (decide (f.dst = s.sklAddr) || decide (f.dst = everyone)) && (rx.codewords s.img.skl.coupling).all codewordOk;
     f.typ = .data ∧ f.proto = 3 ∧ f.final = s.sklAddr ∧ f.orig ≠ s.sklAddr ∧ (f.orig, f.mseq) ∉ s.skl.dups) ∧
    (∃ (s : State) (rx : SRx) (f : SFrame), let idle := decide (s.sys.pstate = .idleSite);
     let wakes := s.canWake 3 0 && (decide (f.dst = s.sklAddr) || decide (f.dst = everyone)) && (rx.codewords s.img.skl.coupling).all codewordOk;
     f.typ = .data ∧ f.proto = 1 ∧ f.final = s.sklAddr ∧ f.orig ≠ s.sklAddr ∧ (f.orig, f.mseq) ∉ s.skl.dups) :=
  ⟨⟨{ live with sys.inReset := true }, {}, {}, by decide +kernel⟩,
   ⟨{ live with skl.run := true }, {}, {}, (if (decide (({ live with skl.run := true } : State).sys.pstate = .idleSite))
     then ({ live with skl.run := true } : State).wakeUp 3 0 else ({ live with skl.run := true } : State)).sklRx ({} : SRx)
     ({} : SFrame) (!(decide (({ live with skl.run := true } : State).sys.pstate = .idleSite))), by decide +kernel⟩,
   ⟨{ keyed with skl.run := true }, {}, { proto := 1, orig := 2, src := 2, signer := 9, hinge := some {} }, (if (decide
     (({ keyed with skl.run := true } : State).sys.pstate = .idleSite)) then ({ keyed with skl.run := true } : State).wakeUp
     3 0 else ({ keyed with skl.run := true } : State)).sklRx ({} : SRx)
     ({ proto := 1, orig := 2, src := 2, signer := 9, hinge := some {} } : SFrame) (!(decide (({ keyed with skl.run := true }
     : State).sys.pstate = .idleSite))), {},
     { ({} : HFrame) with link := sklLink, peer := ({ proto := 1, orig := 2, src := 2, signer := 9, hinge := some {} } : SFrame).orig },
     by decide +kernel⟩,
   ⟨live, { phases := [{ wrong := (List.range 9).map (fun i => (0, 0, i)) }] }, {}, by decide +kernel⟩,
   ⟨live, {}, { domain := 1 }, by decide +kernel⟩,
   ⟨live, {}, {}, by decide +kernel⟩,
   ⟨keyed, {}, { dst := 1, signer := 9 }, by decide +kernel⟩,
   ⟨{ keyed with skl.ackWait := some 1, skl.txq := [{ id := 1, sent := some (3, 4) }] }, {},
     { typ := .ack, src := 3, ackCtr := 4, signer := 9 }, { id := 1, sent := some (3, 4) }, by decide +kernel⟩,
   ⟨live, {}, {}, by decide +kernel⟩,
   ⟨{ keyed with skl.ackWait := some 1, skl.txq := [{ id := 1, sent := some (3, 4) }] }, {},
     { typ := .ack, src := 3, ackCtr := 4, signer := 9 }, { id := 1, sent := some (3, 4) }, 0, by decide +kernel⟩,
   ⟨live, {}, {}, by decide +kernel⟩,
   ⟨keyed, {}, { orig := 1, signer := 9 }, by decide +kernel⟩,
   ⟨live, {}, { proto := 1, orig := 1 }, by decide +kernel⟩⟩

theorem witness_SkidlineSends :
    (∃ (s : State) (start : Nat) (f : SFrame) (k : Nat), let u := s.sklOut start f; let w := s.img.skl.planW;
     let fin := start + sklSpan w (f.blocks w); k ≠ f.dst) ∧
    (∃ (s : State) (start : Nat) (f : SFrame), let u := s.sklOut start f; let w := s.img.skl.planW;
     let fin := start + sklSpan w (f.blocks w); tget 0 s.skl.ctrs f.dst + 1 = 2 ^ 31) ∧
    (∃ (s : State) (start : Nat) (f : SFrame), let u := s.sklOut start f; let w := s.img.skl.planW;
     let fin := start + sklSpan w (f.blocks w); tget 0 s.skl.ctrs f.dst + 1 = 0xFFFFFFFF) ∧
    (∃ (s : State), (s.skl.ackDue = none ∨ s.sklLive = false ∨ s.skl.orphan = true)) ∧
    (∃ (s : State) (d : Nat × Nat) (v : State), s.skl.ackDue = some d ∧ s.sklLive = true ∧ s.skl.orphan = false ∧ v =
     { s with skl := { s.skl with ackDue := none, busy := s.skl.ackWait.isSome } } ∧ 0xFFFFFFFF ≤ tget 0 s.skl.ctrs d.1) ∧
    (∃ (s : State) (d : Nat × Nat) (v : State), s.skl.ackDue = some d ∧ s.sklLive = true ∧ s.skl.orphan = false ∧ v =
     { s with skl := { s.skl with ackDue := none, busy := s.skl.ackWait.isSome } } ∧ tget 0 s.skl.ctrs d.1 < 0xFFFFFFFF ∧ s.sklKey
     s.skl.epoch = none) ∧
    (∃ (s : State) (d : Nat × Nat) (v : State), s.skl.ackDue = some d ∧ s.sklLive = true ∧ s.skl.orphan = false ∧ v =
     { s with skl := { s.skl with ackDue := none, busy := s.skl.ackWait.isSome } } ∧ tget 0 s.skl.ctrs d.1 < 0xFFFFFFFF ∧ s.sklKey
     s.skl.epoch ≠ none) ∧
    (∃ (s : State), (∀ id, s.skl.ackWait = some id → s.skl.txq.find? (fun g => g.id = id) = none)) ∧
    (∃ (s : State) (g : TxFrame), s.skl.ackWait = some g.id ∧ s.skl.txq.find? (fun x => x.id = g.id) = some g) ∧
    (∃ (s : State) (idle : Nat) (n : Nat) (slot : Nat) (sensed : Bool), let w := s.img.skl.planW;
     let start := if w then idle + 61440 + (16 * n + slot) * 6144 else idle + 1044480 + (16 * n + slot) * 23040;
     let cls : SklClass := if slot = 0 then .alarm else if slot ≤ 3 then .control else .bulk;
     let clear := s.sklLive = true ∧ sensed = false ∧ s.skl.busy = false ∧ slot < 16 ∧ s.skl.pauseTo ≤ start; (¬ clear ∨ s.sklPick
     cls = none)) ∧
    (∃ (s : State) (idle : Nat) (n : Nat) (slot : Nat) (sensed : Bool) (f : TxFrame), let w := s.img.skl.planW;
     let start := if w then idle + 61440 + (16 * n + slot) * 6144 else idle + 1044480 + (16 * n + slot) * 23040;
     let cls : SklClass := if slot = 0 then .alarm else if slot ≤ 3 then .control else .bulk;
     let clear := s.sklLive = true ∧ sensed = false ∧ s.skl.busy = false ∧ slot < 16 ∧ s.skl.pauseTo ≤ start; clear ∧ s.sklPick
     cls = some f ∧ f.win = some (idle, n)) ∧
    (∃ (s : State) (idle : Nat) (n : Nat) (slot : Nat) (sensed : Bool) (f : TxFrame), let w := s.img.skl.planW;
     let start := if w then idle + 61440 + (16 * n + slot) * 6144 else idle + 1044480 + (16 * n + slot) * 23040;
     let cls : SklClass := if slot = 0 then .alarm else if slot ≤ 3 then .control else .bulk;
     let clear := s.sklLive = true ∧ sensed = false ∧ s.skl.busy = false ∧ slot < 16 ∧ s.skl.pauseTo ≤ start; clear ∧ s.sklPick
     cls = some f ∧ f.win ≠ some (idle, n) ∧ f.skip = 0) ∧
    (∃ (s : State) (idle : Nat) (n : Nat) (slot : Nat) (sensed : Bool) (f : TxFrame), let w := s.img.skl.planW;
     let start := if w then idle + 61440 + (16 * n + slot) * 6144 else idle + 1044480 + (16 * n + slot) * 23040;
     let cls : SklClass := if slot = 0 then .alarm else if slot ≤ 3 then .control else .bulk;
     let clear := s.sklLive = true ∧ sensed = false ∧ s.skl.busy = false ∧ slot < 16 ∧ s.skl.pauseTo ≤ start; clear ∧ s.sklPick
     cls = some f ∧ f.win ≠ some (idle, n) ∧ f.skip ≠ 0) ∧
    (∃ (s : State) (cls : SklClass) (f : TxFrame), s.sklPick cls = some f) ∧
    (∃ (s : State) (cls : SklClass) (f : TxFrame), s.sklPick cls = some f ∧ s.skl.orphan = true) ∧
    (∃ (s : State) (cls : SklClass) (f : TxFrame), s.sklPick cls = some f ∧ f.forwarded = false) ∧
    (∃ (s : State) (f : TxFrame), (∀ d, s.sklNext f = some d → 0xFFFFFFFF ≤ tget 0 s.skl.ctrs d)) ∧
    (∃ (s : State) (f : TxFrame) (d : Nat), s.sklNext f = some d ∧ tget 0 s.skl.ctrs d < 0xFFFFFFFF ∧ s.sklKey s.skl.epoch =
     none) ∧
    (∃ (s : State) (start : Nat) (f : TxFrame) (d : Nat) (v : State), s.sklNext f = some d ∧ tget 0 s.skl.ctrs d < 0xFFFFFFFF ∧
     s.sklKey s.skl.epoch ≠ none ∧ v = s.sklOut start (f.frame d) ∧ (f.ackReq = false ∨ d = everyone)) ∧
    (∃ (s : State) (start : Nat) (f : TxFrame) (d : Nat) (v : State), s.sklNext f = some d ∧ tget 0 s.skl.ctrs d < 0xFFFFFFFF ∧
     s.sklKey s.skl.epoch ≠ none ∧ v = s.sklOut start (f.frame d) ∧ f.ackReq = true ∧ d ≠ everyone) ∧
    (∃ (s : State) (id : Nat), s.skl.txq.find? (fun f => f.id = id) = none) ∧
    (∃ (s : State) (id : Nat) (f : TxFrame), s.skl.txq.find? (fun f => f.id = id) = some f) ∧
    (∃ (s : State), (s.sklLive = false ∨ s.sklPick .alarm = none)) ∧
    (∃ (s : State) (f : TxFrame), s.sklLive = true ∧ s.sklPick .alarm = some f) ∧
    (∃ (s : State), s.sklLive = false) ∧
    (∃ (s : State), s.sklLive = true) ∧
    (∃ (s : State), (s.sklLive = false ∨ s.img.skl.coord = true ∨ s.skl.orphan = true)) ∧
    (∃ (s : State), s.sklLive = true ∧ s.img.skl.coord = false ∧ s.skl.orphan = false) ∧
    (∃ (s : State), s.skl.prevEpoch = none) ∧
    (∃ (s : State) (e : Nat), s.skl.prevEpoch = some e) ∧
    (∃ (w : Window) (x : Nat), (w.top = 0 ∨ w.top ∈ w.seen) ∧ w.fresh 32 x = true) ∧
    (∃ (w : Window) (x : Nat) (y : Nat), (w.top = 0 ∨ w.top ∈ w.seen) ∧ w.fresh 32 x = true ∧ w.fresh 32 y = false) :=
  ⟨⟨live, 0, {}, 1, by decide +kernel⟩,
   ⟨{ live with skl.ctrs := [(0, 2 ^ 31 - 1)] }, 0, {}, by decide +kernel⟩,
   ⟨{ live with skl.ctrs := [(0, 0xFFFFFFFE)] }, 0, {}, by decide +kernel⟩,
   ⟨live, by decide +kernel⟩,
   ⟨{ live with skl.ackDue := some (0, 0), skl.ctrs := [(0, 0xFFFFFFFF)] }, (0, 0),
     { ({ live with skl.ackDue := some (0, 0), skl.ctrs := [(0, 0xFFFFFFFF)] } : State) with skl := { ({ live with skl.ackDue := some (0, 0), skl.ctrs := [(0, 0xFFFFFFFF)] } : State).skl with ackDue := none, busy := ({ live with skl.ackDue := some (0, 0), skl.ctrs := [(0, 0xFFFFFFFF)] } : State).skl.ackWait.isSome } },
     by decide +kernel⟩,
   ⟨{ live with skl.ackDue := some ((0, 0)) }, (0, 0),
     { ({ live with skl.ackDue := some ((0, 0)) } : State) with skl := { ({ live with skl.ackDue := some ((0, 0)) } : State).skl with ackDue := none, busy := ({ live with skl.ackDue := some ((0, 0)) } : State).skl.ackWait.isSome } },
     by decide +kernel⟩,
   ⟨{ keyed with skl.ackDue := some ((0, 0)) }, (0, 0),
     { ({ keyed with skl.ackDue := some ((0, 0)) } : State) with skl := { ({ keyed with skl.ackDue := some ((0, 0)) } : State).skl with ackDue := none, busy := ({ keyed with skl.ackDue := some ((0, 0)) } : State).skl.ackWait.isSome } },
     by decide +kernel⟩,
   ⟨live, fun _ h => nomatch h⟩,
   ⟨{ live with skl.ackWait := some 1, skl.txq := [{ id := 1, attempts := 3 }] }, { id := 1, attempts := 3 },
     by decide +kernel⟩,
   ⟨live, 0, 0, 0, false, by decide +kernel⟩,
   ⟨{ live with skl.txq := [{ cls := .bulk, win := some (0, 0) }] }, 0, 0, 15, false, { cls := .bulk, win := some (0, 0) },
     by decide +kernel⟩,
   ⟨{ live with skl.txq := [{ cls := .bulk }] }, 0, 0, 15, false, { cls := .bulk }, by decide +kernel⟩,
   ⟨{ live with skl.txq := [{ cls := .bulk, skip := 1 }] }, 0, 0, 15, false, { cls := .bulk, skip := 1 },
     by decide +kernel⟩,
   ⟨{ live with skl.txq := [{ id := 1 }] }, .control, { id := 1 }, by decide +kernel⟩,
   ⟨{ live with skl.orphan := true, skl.txq := [{ cls := .control, typ := .route }] }, .control,
     { cls := .control, typ := .route }, by decide +kernel⟩,
   ⟨{ live with skl.txq := [{ id := 1 }] }, .control, { id := 1 }, by decide +kernel⟩,
   ⟨{ live with img.skl.coord := true }, {},
     by intro d h; rw [show State.sklNext _ _ = none from by decide +kernel] at h; cases h⟩,
   ⟨{ live with skl.txq := [{ id := 1 }] }, { id := 1 }, 0xFFF, by decide +kernel⟩,
   ⟨keyed, 0, { final := everyone }, everyone, keyed.sklOut (0 : Nat) (({ final := everyone } : TxFrame).frame everyone),
     by decide +kernel⟩,
   ⟨{ keyed with skl.txq := [{ id := 1 }] }, 0, { id := 1 }, 0xFFF, ({ keyed with skl.txq := [{ id := 1 }] } :
     State).sklOut (0 : Nat) (({ id := 1 } : TxFrame).frame (0xFFF : Nat)), by decide +kernel⟩,
   ⟨live, 0, by decide +kernel⟩,
   ⟨{ live with skl.txq := [{}] }, 0, {}, by decide +kernel⟩,
   ⟨live, by decide +kernel⟩,
   ⟨{ live with skl.txq := [{ id := 1, cls := .alarm, ackReq := false }] }, { id := 1, cls := .alarm, ackReq := false },
     by decide +kernel⟩,
   ⟨State.reset, by decide +kernel⟩,
   ⟨live, by decide +kernel⟩,
   ⟨{ live with img.skl.coord := true }, by decide +kernel⟩,
   ⟨live, by decide +kernel⟩,
   ⟨live, by decide +kernel⟩,
   ⟨{ live with skl.prevEpoch := some 0 }, 0, by decide +kernel⟩,
   ⟨{}, 31, by decide +kernel⟩,
   ⟨{}, 31, 0, by decide +kernel⟩⟩

theorem witness_SkidlineCommandsComplete :
    (∃ (s : State) (c : Cmd) (n : Nat) (k : Nat) (p : List Byte), s.ready c 0x0E01 ∧
     let fits := (n ≤ 4095 ∨ n = everyone) ∧ (k = 1 ∨ k = 2) ∧ p.length ≠ 0 ∧ p.length ≤ (if s.img.skl.planW then 737 else 161);
     let ended := ∃ h, s.sklHop n = some h ∧ 0xFFFFFFFF ≤ tget 0 s.skl.ctrs h; s.skl.run = false) ∧
    (∃ (s : State) (c : Cmd) (n : Nat) (k : Nat) (p : List Byte), s.ready c 0x0E01 ∧
     let fits := (n ≤ 4095 ∨ n = everyone) ∧ (k = 1 ∨ k = 2) ∧ p.length ≠ 0 ∧ p.length ≤ (if s.img.skl.planW then 737 else 161);
     let ended := ∃ h, s.sklHop n = some h ∧ 0xFFFFFFFF ≤ tget 0 s.skl.ctrs h; s.skl.run = true ∧ ¬ fits) ∧
    (∃ (s : State) (c : Cmd) (n : Nat) (k : Nat) (p : List Byte), s.ready c 0x0E01 ∧
     let fits := (n ≤ 4095 ∨ n = everyone) ∧ (k = 1 ∨ k = 2) ∧ p.length ≠ 0 ∧ p.length ≤ (if s.img.skl.planW then 737 else 161);
     let ended := ∃ h, s.sklHop n = some h ∧ 0xFFFFFFFF ≤ tget 0 s.skl.ctrs h; s.skl.run = true ∧ fits ∧ (s.skl.orphan = true ∨
     ended)) ∧
    (∃ (s : State) (c : Cmd) (n : Nat) (k : Nat) (p : List Byte), s.ready c 0x0E01 ∧
     let fits := (n ≤ 4095 ∨ n = everyone) ∧ (k = 1 ∨ k = 2) ∧ p.length ≠ 0 ∧ p.length ≤ (if s.img.skl.planW then 737 else 161);
     let ended := ∃ h, s.sklHop n = some h ∧ 0xFFFFFFFF ≤ tget 0 s.skl.ctrs h; s.skl.run = true ∧ fits ∧ s.skl.orphan = false ∧ ¬
     ended ∧ 32 ≤ s.skl.txq.length) ∧
    (∃ (s : State) (c : Cmd) (n : Nat) (k : Nat) (p : List Byte), s.ready c 0x0E01 ∧
     let fits := (n ≤ 4095 ∨ n = everyone) ∧ (k = 1 ∨ k = 2) ∧ p.length ≠ 0 ∧ p.length ≤ (if s.img.skl.planW then 737 else 161);
     let ended := ∃ h, s.sklHop n = some h ∧ 0xFFFFFFFF ≤ tget 0 s.skl.ctrs h; s.skl.run = true ∧ fits ∧ s.skl.orphan = false ∧ ¬
     ended ∧ s.skl.txq.length < 32 ∧ s.sklHop n = none) ∧
    (∃ (s : State) (c : Cmd) (n : Nat) (k : Nat) (p : List Byte), s.ready c 0x0E01 ∧
     let fits := (n ≤ 4095 ∨ n = everyone) ∧ (k = 1 ∨ k = 2) ∧ p.length ≠ 0 ∧ p.length ≤ (if s.img.skl.planW then 737 else 161);
     let ended := ∃ h, s.sklHop n = some h ∧ 0xFFFFFFFF ≤ tget 0 s.skl.ctrs h; s.skl.run = true ∧ fits ∧ s.skl.orphan = false ∧ ¬
     ended ∧ s.skl.txq.length < 32 ∧ s.sklHop n ≠ none) ∧
    (∃ (s : State) (c : Cmd), s.ready c 0x0E02 ∧ s.skl.run = false) ∧
    (∃ (s : State) (c : Cmd) (n : Nat) (dst : Nat), s.ready c 0x0E02 ∧ s.skl.run = true ∧ (n = 0 ∨ 16 < n ∨ dstOk dst (768 * n) =
     false)) ∧
    (∃ (s : State) (c : Cmd) (n : Nat) (dst : Nat), s.ready c 0x0E02 ∧ s.skl.run = true ∧ 1 ≤ n ∧ n ≤ 16 ∧ dstOk dst (768 * n) =
     true) ∧
    (∃ (s : State) (c : Cmd), s.ready c 0x0E03) ∧
    (∃ (s : State) (c : Cmd), s.ready c 0x0E04 ∧ (s.skl.run = false ∨ s.img.skl.coord = false ∨ s.sklKey ((s.skl.epoch + 1) %
     256) = none)) ∧
    (∃ (s : State) (c : Cmd), s.ready c 0x0E04 ∧ s.skl.run = true ∧ s.img.skl.coord = true ∧ s.sklKey ((s.skl.epoch + 1) % 256) ≠
     none) :=
  ⟨⟨{ live with skl.run := false }, {}, 0, 0, [], ready_of (by decide +kernel), by decide +kernel⟩,
   ⟨{ live with skl.run := true }, {}, 4096, 0, [], ready_of (by decide +kernel), by decide +kernel⟩,
   ⟨{ live with skl.run := true, skl.orphan := true }, {}, 4095, 1, List.replicate 161 0, ready_of (by decide +kernel),
     by decide +kernel⟩,
   ⟨{ live with skl.run := true, skl.txq := List.replicate 32 {} }, {}, 4095, 1, [0], ready_of (by decide +kernel),
     by decide +kernel⟩,
   ⟨{ live with img.skl.coord := true }, {}, 4095, 1, [0], ready_of (by decide +kernel), by decide +kernel,
     by decide +kernel, by decide +kernel,
     (by intro x; obtain ⟨h, h1, _⟩ := x; rw [show State.sklHop _ _ = none from (by decide +kernel)] at h1; cases h1),
     by decide +kernel⟩,
   ⟨{ live with skl.run := true }, {}, 4095, 1, List.replicate 161 0, ready_of (by decide +kernel), by decide +kernel⟩,
   ⟨{ live with skl.run := false }, {}, ready_of (by decide +kernel), by decide +kernel⟩,
   ⟨{ live with skl.run := true }, {}, 0, 0, ready_of (by decide +kernel), by decide +kernel⟩,
   ⟨{ live with skl.run := true }, {}, 16, 0x800000, ready_of (by decide +kernel), by decide +kernel⟩,
   ⟨live, {}, ready_of (by decide +kernel)⟩,
   ⟨{ live with skl.run := false }, {}, ready_of (by decide +kernel), by decide +kernel⟩,
   ⟨({ live with skl.run := true, img.skl.coord := true } |>.modSlot 48 (fun x =>
     { x with st := .valid, usage := 8, label := 1 })), {}, ready_of (by decide +kernel), by decide +kernel⟩⟩

theorem witness_ReaderAndTagEventsAct :
    (∃ (s : State) (n : Nat),
     let up := s.sys.inReset = false ∧ s.nfc.run = true ∧ n < 8 ∧ (s.cAnt n).en = true ∧ (s.ant n).suspended = false ∧ s.readerBusy = false ∧ (s.awake = true ∨ (s.sys.pstate = .idleSite ∧ s.img.struct_.wakeKeep.getLsbD 2 = true));
     ¬ up) ∧
    (∃ (s : State) (n : Nat),
     let up := s.sys.inReset = false ∧ s.nfc.run = true ∧ n < 8 ∧ (s.cAnt n).en = true ∧ (s.ant n).suspended = false ∧ s.readerBusy = false ∧ (s.awake = true ∨ (s.sys.pstate = .idleSite ∧ s.img.struct_.wakeKeep.getLsbD 2 = true));
     up ∧ (s.ant n).retake = true) ∧
    (∃ (s : State) (n : Nat) (a : Int) (p : Int),
     let up := s.sys.inReset = false ∧ s.nfc.run = true ∧ n < 8 ∧ (s.cAnt n).en = true ∧ (s.ant n).suspended = false ∧ s.readerBusy = false ∧ (s.awake = true ∨ (s.sys.pstate = .idleSite ∧ s.img.struct_.wakeKeep.getLsbD 2 = true));
     up ∧ (s.ant n).retake = false ∧ detects (s.ant n) a p = false) ∧
    (∃ (s : State) (n : Nat) (a : Int) (p : Int),
     let up := s.sys.inReset = false ∧ s.nfc.run = true ∧ n < 8 ∧ (s.cAnt n).en = true ∧ (s.ant n).suspended = false ∧ s.readerBusy = false ∧ (s.awake = true ∨ (s.sys.pstate = .idleSite ∧ s.img.struct_.wakeKeep.getLsbD 2 = true));
     up ∧ (s.ant n).retake = false ∧ detects (s.ant n) a p = true) ∧
    (∃ (s : State) (h : Card), s.nfc.heldCard = some h) ∧
    (∃ (s : State), s.nfc.heldCard = none) ∧
    (∃ (s : State) (n : Nat) (cards : List Card) (k : Nat), let all := reached (s.cAnt n) cards; let u := (s.nfcRun n cards).1; k
     ≠ n) ∧
    (∃ (s : State) (n : Nat) (cards : List Card), let all := reached (s.cAnt n) cards; let u := (s.nfcRun n cards).1; 8 <
     all.length) ∧
    (∃ (s : State) (n : Nat) (cards : List Card) (k : Card), let all := reached (s.cAnt n) cards; let u := (s.nfcRun n cards).1;
     (all.take 8).getLast? = some k ∧ k.iso4 = true) ∧
    (∃ (s : State) (n : Nat) (cards : List Card), let all := reached (s.cAnt n) cards; let u := (s.nfcRun n cards).1; (∀ k,
     (all.take 8).getLast? = some k → k.iso4 = false)) ∧
    (∃ (s : State) (n : Nat) (w : State), w = (if n = s.nfc.selected then s else s.unlatch)) ∧
    (∃ (s : State) (v : State), v = { s with nfc := { s.nfc with latchBuf := none, latchHead := none } } ∧
     let t := s.nfc.pubDue && s.tagHost; let x := s.nfc.exDue && s.tagHost; t = false ∧ x = false) ∧
    (∃ (s : State) (v : State), v = { s with nfc := { s.nfc with latchBuf := none, latchHead := none } } ∧
     let t := s.nfc.pubDue && s.tagHost; let x := s.nfc.exDue && s.tagHost; t = true ∧ x = false) ∧
    (∃ (s : State) (v : State), v = { s with nfc := { s.nfc with latchBuf := none, latchHead := none } } ∧
     let t := s.nfc.pubDue && s.tagHost; let x := s.nfc.exDue && s.tagHost; t = false ∧ x = true) ∧
    (∃ (s : State) (v : State), v = { s with nfc := { s.nfc with latchBuf := none, latchHead := none } } ∧
     let t := s.nfc.pubDue && s.tagHost; let x := s.nfc.exDue && s.tagHost; t = true ∧ x = true) ∧
    (∃ (s : State) (n : Nat) (d : List Byte), (s.nfc.mbox = false ∨ n < 0xE0 ∨ 8192 < 32 * n + d.length)) ∧
    (∃ (s : State) (n : Nat) (d : List Byte), s.nfc.mbox = true ∧ 0xE0 ≤ n ∧ 32 * n + d.length ≤ 8192) ∧
    (∃ (s : State), s.tagHost = false) ∧
    (∃ (s : State), s.tagHost = true) ∧
    (∃ (s : State), s.tagHost = true ∧ s.nfc.latchBuf = some (!s.nfc.activeBuf)) ∧
    (∃ (s : State), s.tagHost = true ∧ s.nfc.latchBuf ≠ some (!s.nfc.activeBuf)) ∧
    (∃ (s : State), s.sys.inReset = true) ∧
    (∃ (s : State), s.sys.inReset = false ∧ s.blz.last ≤ s.nfc.exLseq) ∧
    (∃ (s : State), s.sys.inReset = false ∧ s.nfc.exLseq < s.blz.last ∧ s.tagHost = false) ∧
    (∃ (s : State), s.sys.inReset = false ∧ s.nfc.exLseq < s.blz.last ∧ s.tagHost = true ∧ s.nfc.latchHead ≠ none) ∧
    (∃ (s : State), s.sys.inReset = false ∧ s.nfc.exLseq < s.blz.last ∧ s.tagHost = true ∧ s.nfc.latchHead = none) :=
  ⟨⟨{ live with sys.inReset := true }, 0, by decide +kernel⟩,
   ⟨({ live with nfc.run := true } |>.modAnt 7 (fun x => { x with retake := true })), 7, by decide +kernel⟩,
   ⟨({ live with nfc.run := true } |>.modAnt 7 (fun x => { x with retake := false })), 7, 10, 0, by decide +kernel⟩,
   ⟨({ live with nfc.run := true, permits.grants := [{ id := 9, owner := .mramBulk, power := 2000 }] } |>.modAnt 7 (fun x
     => { x with retake := false })), 7, 11, 0, by decide +kernel⟩,
   ⟨{ live with nfc.heldCard := some ({}) }, {}, by decide +kernel⟩,
   ⟨live, by decide +kernel⟩,
   ⟨live, 0, [], 1, by decide +kernel⟩,
   ⟨{ live with img.nfc.ants := [(0, { en := true, proto := 1 })] }, 0, List.replicate 9 {}, by decide +kernel⟩,
   ⟨{ live with img.nfc.ants := [(0, { en := true, proto := 1 })] }, 0, [{ iso4 := true }], { iso4 := true },
     by decide +kernel⟩,
   ⟨live, 0, [], fun k h => nomatch (show (none : Option Card) = some k from h)⟩,
   ⟨live, 0, (if (0 : Nat) = live.nfc.selected then live else live.unlatch), by decide +kernel⟩,
   ⟨live, { live with nfc := { live.nfc with latchBuf := none, latchHead := none } }, by decide +kernel⟩,
   ⟨{ live with nfc.pubDue := true },
     { ({ live with nfc.pubDue := true } : State) with nfc := { ({ live with nfc.pubDue := true } : State).nfc with latchBuf := none, latchHead := none } },
     by decide +kernel⟩,
   ⟨{ live with nfc.exDue := true },
     { ({ live with nfc.exDue := true } : State) with nfc := { ({ live with nfc.exDue := true } : State).nfc with latchBuf := none, latchHead := none } },
     by decide +kernel⟩,
   ⟨{ live with nfc.exDue := true, nfc.pubDue := true },
     { ({ live with nfc.exDue := true, nfc.pubDue := true } : State) with nfc := { ({ live with nfc.exDue := true, nfc.pubDue := true } : State).nfc with latchBuf := none, latchHead := none } },
     by decide +kernel⟩,
   ⟨live, 0, [], by decide +kernel⟩,
   ⟨{ live with nfc.mbox := true }, 224, [], by decide +kernel⟩,
   ⟨State.reset, by decide +kernel⟩,
   ⟨live, by decide +kernel⟩,
   ⟨{ live with nfc.latchBuf := some true }, by decide +kernel⟩,
   ⟨live, by decide +kernel⟩,
   ⟨{ live with sys.inReset := true }, by decide +kernel⟩,
   ⟨live, by decide +kernel⟩,
   ⟨{ live with blz.last := 1, sys.pstate := .idleSite }, by decide +kernel⟩,
   ⟨{ live with blz.last := 1, nfc.latchHead := some 0 }, by decide +kernel⟩,
   ⟨{ live with blz.last := 1 }, by decide +kernel⟩⟩

theorem witness_NfcCommandsComplete :
    (∃ (s : State) (c : Cmd) (n : Nat), s.ready c 0x0F01 ∧ (8 ≤ n ∨ (s.cAnt n).en = false)) ∧
    (∃ (s : State) (c : Cmd) (n : Nat), s.ready c 0x0F01 ∧ n < 8 ∧ (s.cAnt n).en = true) ∧
    (∃ (s : State) (c : Cmd) (n : Nat) (a : List Byte) (dst : Nat), s.ready c 0x0F02 ∧
     let held := s.nfc.heldCard.isSome = true ∧ s.nfc.ant = n; let fits := a.length ≠ 0 ∧ a.length ≤ 261 ∧ dstOk dst 320 = true; ¬
     fits) ∧
    (∃ (s : State) (c : Cmd) (n : Nat) (a : List Byte) (dst : Nat), s.ready c 0x0F02 ∧
     let held := s.nfc.heldCard.isSome = true ∧ s.nfc.ant = n; let fits := a.length ≠ 0 ∧ a.length ≤ 261 ∧ dstOk dst 320 = true;
     fits ∧ ¬ held) ∧
    (∃ (s : State) (c : Cmd) (n : Nat) (a : List Byte) (r : Option (List Byte)) (dst : Nat) (l : List Byte), s.ready c 0x0F02 ∧
     let held := s.nfc.heldCard.isSome = true ∧ s.nfc.ant = n; let fits := a.length ≠ 0 ∧ a.length ≤ 261 ∧ dstOk dst 320 = true;
     fits ∧ held ∧ r = some l) ∧
    (∃ (s : State) (c : Cmd) (n : Nat) (a : List Byte) (r : Option (List Byte)) (dst : Nat), s.ready c 0x0F02 ∧
     let held := s.nfc.heldCard.isSome = true ∧ s.nfc.ant = n; let fits := a.length ≠ 0 ∧ a.length ≤ 261 ∧ dstOk dst 320 = true;
     fits ∧ held ∧ r = none) ∧
    (∃ (s : State) (c : Cmd), s.ready c 0x0F03) ∧
    (∃ (s : State) (c : Cmd) (n : Nat), s.ready c 0x0F04 ∧ (n = 0 ∨ (0x10 ≤ n ∧ n < 0xC0) ∨ 0x100 ≤ n)) ∧
    (∃ (s : State) (c : Cmd) (n : Nat), s.ready c 0x0F04 ∧ ((1 ≤ n ∧ n < 0x10) ∨ (0xC0 ≤ n ∧ n < 0x100)) ∧ s.tagHost = false) ∧
    (∃ (s : State) (c : Cmd) (n : Nat) (ms : Nat), s.ready c 0x0F04 ∧ ((1 ≤ n ∧ n < 0x10) ∨ (0xC0 ≤ n ∧ n < 0x100)) ∧ s.tagHost =
     true ∧ ms = 0) ∧
    (∃ (s : State) (c : Cmd) (n : Nat) (ms : Nat), s.ready c 0x0F04 ∧ ((1 ≤ n ∧ n < 0x10) ∨ (0xC0 ≤ n ∧ n < 0x100)) ∧ s.tagHost =
     true ∧ 1 ≤ ms ∧ ms ≤ 50) ∧
    (∃ (s : State) (c : Cmd) (n : Nat) (ms : Nat), s.ready c 0x0F04 ∧ ((1 ≤ n ∧ n < 0x10) ∨ (0xC0 ≤ n ∧ n < 0x100)) ∧ s.tagHost =
     true ∧ 50 < ms) ∧
    (∃ (s : State) (c : Cmd) (n : Nat) (k : Nat) (dst : Nat), s.ready c 0x0F05 ∧ (k = 0 ∨ 256 < n + k ∨ dstOk dst (32 * k) =
     false)) ∧
    (∃ (s : State) (c : Cmd) (n : Nat) (k : Nat) (dst : Nat), s.ready c 0x0F05 ∧ 1 ≤ k ∧ n + k ≤ 256 ∧ dstOk dst (32 * k) = true) :=
  ⟨⟨live, {}, 8, ready_of (by decide +kernel), by decide +kernel⟩,
   ⟨live, {}, 7, ready_of (by decide +kernel), by decide +kernel⟩,
   ⟨live, {}, 0, [], 0, ready_of (by decide +kernel), by decide +kernel⟩,
   ⟨live, {}, 0, [0], 0x800000, ready_of (by decide +kernel), by decide +kernel⟩,
   ⟨{ live with nfc.ant := 0, nfc.heldCard := some {} }, {}, 0, [0], some [0], 0x800000, [0], ready_of (by decide +kernel),
     by decide +kernel⟩,
   ⟨{ live with nfc.ant := 0, nfc.heldCard := some {} }, {}, 0, [0], none, 0x800000, ready_of (by decide +kernel),
     by decide +kernel⟩,
   ⟨live, {}, ready_of (by decide +kernel)⟩,
   ⟨live, {}, 0, ready_of (by decide +kernel), by decide +kernel⟩,
   ⟨({ live with sys.pstate := .idleSite } : State), {}, 15, ready_of (by decide +kernel), by decide +kernel⟩,
   ⟨live, {}, 15, 0, ready_of (by decide +kernel), by decide +kernel⟩,
   ⟨live, {}, 15, 50, ready_of (by decide +kernel), by decide +kernel⟩,
   ⟨live, {}, 15, 51, ready_of (by decide +kernel), by decide +kernel⟩,
   ⟨live, {}, 0, 0, 0, ready_of (by decide +kernel), by decide +kernel⟩,
   ⟨live, {}, 0, 1, 0x800000, ready_of (by decide +kernel), by decide +kernel⟩⟩

theorem witness_BrandEventsAct :
    (∃ (s : State) (p : Nat) (rail : Nat) (mv : Int), let v := railMv (s.cPanel p) rail;
     let bad : Prop := rail < 5 ∧ ((s.brd.rail = .starting ∧ (if v < 0 then -mv else mv) * 10 < 9 * (v.natAbs : Int)) ∨ (s.brd.rail = .up ∧ v.natAbs < (mv - v).natAbs * 10));
     (¬ (s.awake = true ∧ bad))) ∧
    (∃ (s : State) (p : Nat) (rail : Nat) (mv : Int), let v := railMv (s.cPanel p) rail;
     let bad : Prop := rail < 5 ∧ ((s.brd.rail = .starting ∧ (if v < 0 then -mv else mv) * 10 < 9 * (v.natAbs : Int)) ∨ (s.brd.rail = .up ∧ v.natAbs < (mv - v).natAbs * 10));
     s.awake = true ∧ bad) ∧
    (∃ (s : State) (p : Nat), (s.awake = false ∨ 8 ≤ p ∨ s.brd.rail ≠ .up ∨ s.panelRuns p = false)) ∧
    (∃ (s : State) (p : Nat), s.awake = true ∧ p < 8 ∧ s.brd.rail = .up ∧ s.panelRuns p = true) ∧
    (∃ (s : State), s.awake = false) ∧
    (∃ (s : State), s.awake = true) ∧
    (∃ (s : State),
     let asksNow : Prop := s.brd.rail = .off ∧ s.brd.askLater = false ∧ (∃ q, q < 8 ∧ s.panelWaits q = true) ∧ s.asks .brandRail = false ∧ s.holds .brandRail = false;
     asksNow) ∧
    (∃ (s : State),
     let asksNow : Prop := s.brd.rail = .off ∧ s.brd.askLater = false ∧ (∃ q, q < 8 ∧ s.panelWaits q = true) ∧ s.asks .brandRail = false ∧ s.holds .brandRail = false;
     ¬ asksNow) ∧
    (∃ (s : State) (p : Nat), p < 8 ∧ s.brd.rail = .up ∧ s.panelWaits p = true ∧ (s.panel p).permit = false ∧ (s.panel
     p).askLater = false) ∧
    (∃ (s : State) (bay : Nat), (s.legalPanel bay = none ∨ s.awake = false)) ∧
    (∃ (s : State) (p : Nat) (bay : Nat), s.legalPanel bay = some p ∧ (s.panel p).legalShown = some (s.legalContent bay)) ∧
    (∃ (s : State) (p : Nat) (bay : Nat), s.legalPanel bay = some p ∧ s.awake = true ∧ (s.panel p).legalShown ≠ some
     (s.legalContent bay)) ∧
    (∃ (s : State), s.busLoad none ≤ 4 / 5 ∧ s.runningCount ≤ 16) ∧
    (∃ (s : State) (b : Option Nat) (p : Nat) (r : Nat), s.nextStart b = some (p, r)) ∧
    (∃ (s : State) (b : Option Nat) (p : Nat) (r : Nat) (q : Nat) (k : Nat), s.nextStart b = some (p, r) ∧ s.legalRegion p r =
     false ∧ q < 8 ∧ k < 16 ∧ s.qualifies b q k = true) ∧
    (∃ (s : State) (p : Nat) (r : Nat) (u : Upd) (k : Nat), let t := s.placeUpd p r u; k ≠ r) ∧
    (∃ (s : State) (p : Nat) (r : Nat) (u : Upd) (q : Nat), let t := s.placeUpd p r u; q ≠ p) ∧
    (∃ (s : State) (p : Nat) (r : Nat) (u : Upd), let t := s.placeUpd p r u; (s.region p r).waiting.isSome = true) ∧
    (∃ (s : State) (p : Nat) (r : Nat) (u : Upd), let t := s.placeUpd p r u; (s.region p r).waiting = none) :=
  ⟨⟨live, 0, 5, 0, by decide +kernel⟩,
   ⟨{ live with brd.rail := .starting }, 0, 4, 0, by decide +kernel⟩,
   ⟨live, 0, by decide +kernel⟩,
   ⟨({ live with brd.rail := .up } |>.modRegion 7 15 (fun x => { x with running := some {} })), 7, by decide +kernel⟩,
   ⟨State.reset, by decide +kernel⟩,
   ⟨live, by decide +kernel⟩,
   ⟨{ live with brd.rail := .off }.modPanel 0 (fun x => { x with initWait := true }), ⟨rfl, rfl, ⟨0, by decide,
     by decide +kernel⟩, by decide +kernel, by decide +kernel⟩⟩,
   ⟨live, by decide +kernel⟩,
   ⟨({ live with brd.rail := .up, permits.grants := [{ id := 9, owner := .mramBulk, power := 2000 }] } |>.modRegion 7 15
     (fun x => { x with waiting := some {} })), 7, by decide +kernel⟩,
   ⟨live, 0, by decide +kernel⟩,
   ⟨(live |>.cfgPanel 3 (fun x => { x with legal := true, bay := some 3 }) |>.modPanel 3 (fun x =>
     { x with legalShown := some (live.legalContent 3) })), 3, 3, by decide +kernel⟩,
   ⟨(live |>.cfgPanel 3 (fun x => { x with legal := true, bay := some 3 })), 3, 3, by decide +kernel⟩,
   ⟨live, by decide +kernel⟩,
   ⟨(live |>.modRegion 7 15 (fun x => { x with waiting := some {} }) |>.modPanel 7 (fun x =>
     { x with st := .idle, permit := true })), none, 7, 15, by decide +kernel⟩,
   ⟨(live |>.modRegion 7 15 (fun x => { x with waiting := some {} }) |>.modPanel 7 (fun x =>
     { x with st := .idle, permit := true })), none, 7, 15, 7, 15, by decide +kernel⟩,
   ⟨live, 0, 0, {}, 1, by decide +kernel⟩,
   ⟨live, 0, 0, {}, 1, by decide +kernel⟩,
   ⟨(live |>.modRegion 0 0 (fun x => { x with waiting := some {} })), 0, 0, {}, by decide +kernel⟩,
   ⟨live, 0, 0, {}, by decide +kernel⟩⟩

theorem witness_BrandCommandsComplete :
    (∃ (s : State) (c : Cmd) (p : Nat) (r : Nat) (m : Nat) (d : Nat) (off : Nat) (st : Nat), let g := s.cRegion p r;
     let there : Prop := p ≤ 7 ∧ (s.cPanel p).used = true ∧ r ≤ 15 ∧ g.used = true; s.ready c 0x1001 ∧
     let good : Prop := there ∧ (m = 1 ∨ m = 2) ∧ d ≤ 1 ∧ areaOk g off st = true;
     let hurt : Prop := s.brd.rail = .fault ∨ ∃ j, j < g.h ∧ s.poisoned (off + j * st) (3 * g.w) = true; ¬ good) ∧
    (∃ (s : State) (c : Cmd) (p : Nat) (r : Nat) (m : Nat) (d : Nat) (off : Nat) (st : Nat), let g := s.cRegion p r;
     let there : Prop := p ≤ 7 ∧ (s.cPanel p).used = true ∧ r ≤ 15 ∧ g.used = true; s.ready c 0x1001 ∧
     let good : Prop := there ∧ (m = 1 ∨ m = 2) ∧ d ≤ 1 ∧ areaOk g off st = true;
     let hurt : Prop := s.brd.rail = .fault ∨ ∃ j, j < g.h ∧ s.poisoned (off + j * st) (3 * g.w) = true; good ∧ s.legalRegion p r
     = true) ∧
    (∃ (s : State) (c : Cmd) (p : Nat) (r : Nat) (m : Nat) (d : Nat) (off : Nat) (st : Nat), let g := s.cRegion p r;
     let there : Prop := p ≤ 7 ∧ (s.cPanel p).used = true ∧ r ≤ 15 ∧ g.used = true; s.ready c 0x1001 ∧
     let good : Prop := there ∧ (m = 1 ∨ m = 2) ∧ d ≤ 1 ∧ areaOk g off st = true;
     let hurt : Prop := s.brd.rail = .fault ∨ ∃ j, j < g.h ∧ s.poisoned (off + j * st) (3 * g.w) = true; good ∧ s.legalRegion p r
     = false ∧ hurt) ∧
    (∃ (s : State) (c : Cmd) (p : Nat) (r : Nat) (m : Nat) (d : Nat) (off : Nat) (st : Nat), let g := s.cRegion p r;
     let there : Prop := p ≤ 7 ∧ (s.cPanel p).used = true ∧ r ≤ 15 ∧ g.used = true; s.ready c 0x1001 ∧
     let good : Prop := there ∧ (m = 1 ∨ m = 2) ∧ d ≤ 1 ∧ areaOk g off st = true;
     let hurt : Prop := s.brd.rail = .fault ∨ ∃ j, j < g.h ∧ s.poisoned (off + j * st) (3 * g.w) = true; good ∧ s.legalRegion p r
     = false ∧ ¬ hurt ∧ ((s.panelTemp p).panel p).cold = true) ∧
    (∃ (s : State) (c : Cmd) (p : Nat) (r : Nat) (m : Nat) (d : Nat) (off : Nat) (st : Nat), let g := s.cRegion p r;
     let there : Prop := p ≤ 7 ∧ (s.cPanel p).used = true ∧ r ≤ 15 ∧ g.used = true; s.ready c 0x1001 ∧
     let good : Prop := there ∧ (m = 1 ∨ m = 2) ∧ d ≤ 1 ∧ areaOk g off st = true;
     let hurt : Prop := s.brd.rail = .fault ∨ ∃ j, j < g.h ∧ s.poisoned (off + j * st) (3 * g.w) = true; good ∧ s.legalRegion p r
     = false ∧ ¬ hurt ∧ ((s.panelTemp p).panel p).cold = false ∧ s.captureFits p r = false) ∧
    (∃ (s : State) (c : Cmd) (p : Nat) (r : Nat) (m : Nat) (d : Nat) (off : Nat) (st : Nat), let g := s.cRegion p r;
     let there : Prop := p ≤ 7 ∧ (s.cPanel p).used = true ∧ r ≤ 15 ∧ g.used = true; s.ready c 0x1001 ∧
     let good : Prop := there ∧ (m = 1 ∨ m = 2) ∧ d ≤ 1 ∧ areaOk g off st = true;
     let hurt : Prop := s.brd.rail = .fault ∨ ∃ j, j < g.h ∧ s.poisoned (off + j * st) (3 * g.w) = true; good ∧ s.legalRegion p r
     = false ∧ ¬ hurt ∧ ((s.panelTemp p).panel p).cold = false ∧ s.captureFits p r = true) ∧
    (∃ (s : State) (c : Cmd) (p : Nat) (r : Nat), let g := s.cRegion p r;
     let there : Prop := p ≤ 7 ∧ (s.cPanel p).used = true ∧ r ≤ 15 ∧ g.used = true; s.ready c 0x1002 ∧ ¬ there) ∧
    (∃ (s : State) (c : Cmd) (p : Nat) (r : Nat), let g := s.cRegion p r;
     let there : Prop := p ≤ 7 ∧ (s.cPanel p).used = true ∧ r ≤ 15 ∧ g.used = true; s.ready c 0x1002 ∧ there) ∧
    (∃ (s : State) (c : Cmd) (p : Nat) (r : Nat), let g := s.cRegion p r;
     let there : Prop := p ≤ 7 ∧ (s.cPanel p).used = true ∧ r ≤ 15 ∧ g.used = true; s.ready c 0x1003 ∧ (8 ≤ p ∨ (s.cPanel p).used
     = false)) ∧
    (∃ (s : State) (c : Cmd) (p : Nat) (r : Nat), let g := s.cRegion p r;
     let there : Prop := p ≤ 7 ∧ (s.cPanel p).used = true ∧ r ≤ 15 ∧ g.used = true; s.ready c 0x1003 ∧ p < 8 ∧ (s.cPanel p).used =
     true ∧ s.brd.rail = .fault) ∧
    (∃ (s : State) (c : Cmd) (p : Nat) (r : Nat), let g := s.cRegion p r;
     let there : Prop := p ≤ 7 ∧ (s.cPanel p).used = true ∧ r ≤ 15 ∧ g.used = true; s.ready c 0x1003 ∧ p < 8 ∧ (s.cPanel p).used =
     true ∧ s.brd.rail ≠ .fault ∧ (s.panelRuns p = true ∨ s.panelWaits p = true)) ∧
    (∃ (s : State) (c : Cmd) (p : Nat) (r : Nat), let g := s.cRegion p r;
     let there : Prop := p ≤ 7 ∧ (s.cPanel p).used = true ∧ r ≤ 15 ∧ g.used = true; s.ready c 0x1003 ∧ p < 8 ∧ (s.cPanel p).used =
     true ∧ s.brd.rail ≠ .fault ∧ s.panelRuns p = false ∧ s.panelWaits p = false) ∧
    (∃ (s : State) (c : Cmd) (p : Nat) (r : Nat), let g := s.cRegion p r;
     let there : Prop := p ≤ 7 ∧ (s.cPanel p).used = true ∧ r ≤ 15 ∧ g.used = true; s.ready c 0x1004 ∧ s.brd.rail = .fault) ∧
    (∃ (s : State) (c : Cmd) (p : Nat) (r : Nat), let g := s.cRegion p r;
     let there : Prop := p ≤ 7 ∧ (s.cPanel p).used = true ∧ r ≤ 15 ∧ g.used = true; s.ready c 0x1004 ∧ s.brd.rail ≠ .fault) :=
  ⟨⟨live, {}, 8, 0, 0, 0, 0, 0, ready_of (by decide +kernel), by decide +kernel⟩,
   ⟨(live |>.cfgPanel 7 (fun x => { x with used := true, legal := true })), {}, 7, 0, 1, 1, 0x800000, 0, ready_of
     (by decide +kernel), by decide +kernel⟩,
   ⟨{ live with brd.rail := .fault }, {}, 7, 15, 1, 1, 0x800000, 24, ready_of (by decide +kernel), by decide +kernel,
     by decide +kernel, .inl rfl⟩,
   ⟨(live |>.cfgPanel 7 (fun x => { x with used := true, tLo := 1 })), {}, 7, 15, 1, 1, 0x800000, 0, ready_of
     (by decide +kernel), by decide +kernel⟩,
   ⟨(live |>.cfgPanel 7 (fun x => { x with used := true, width := 33554432 })), {}, 7, 15, 1, 1, 0x800000, 0, ready_of
     (by decide +kernel), by decide +kernel⟩,
   ⟨(live |>.cfgPanel 7 (fun x => { x with used := true })), {}, 7, 15, 1, 1, 0x800000, 0, ready_of (by decide +kernel),
     by decide +kernel⟩,
   ⟨live, {}, 8, 0, ready_of (by decide +kernel), by decide +kernel⟩,
   ⟨(live |>.cfgPanel 7 (fun x => { x with used := true })), {}, 7, 15, ready_of (by decide +kernel), by decide +kernel⟩,
   ⟨live, {}, 8, 0, ready_of (by decide +kernel), by decide +kernel⟩,
   ⟨({ live with brd.rail := .fault } |>.cfgPanel 7 (fun x => { x with used := true })), {}, 7, 0, ready_of
     (by decide +kernel), by decide +kernel⟩,
   ⟨(live |>.cfgPanel 7 (fun x => { x with used := true }) |>.modRegion 7 15 (fun x => { x with running := some {} })), {},
     7, 0, ready_of (by decide +kernel), by decide +kernel⟩,
   ⟨(live |>.cfgPanel 7 (fun x => { x with used := true })), {}, 7, 0, ready_of (by decide +kernel), by decide +kernel⟩,
   ⟨{ live with brd.rail := .fault }, {}, 0, 0, ready_of (by decide +kernel), by decide +kernel⟩,
   ⟨live, {}, 0, 0, ready_of (by decide +kernel), by decide +kernel⟩⟩

theorem witness_KeyCommandsComplete :
    (∃ (s : State) (c : Cmd) (m : KeyMsg) (lcs : List Lc) (e : Status),
     let keyKind : Prop := m.kind = 1 ∨ m.kind = 2 ∨ m.kind = 3 ∨ m.kind = 4 ∨ m.kind = 6; s.ready c 0x1101 ∧ lcs = (if keyKind
     then [Lc.personalised, .field, .service] else [Lc.manufacture, .personalised, .field, .service, .scrapped]) ∧ s.checkMsg m
     [1, 2, 3, 4, 5, 6] lcs = some e) ∧
    (∃ (s : State) (c : Cmd) (m : KeyMsg) (lcs : List Lc),
     let keyKind : Prop := m.kind = 1 ∨ m.kind = 2 ∨ m.kind = 3 ∨ m.kind = 4 ∨ m.kind = 6; s.ready c 0x1101 ∧ lcs = (if keyKind
     then [Lc.personalised, .field, .service] else [Lc.manufacture, .personalised, .field, .service, .scrapped]) ∧ s.checkMsg m
     [1, 2, 3, 4, 5, 6] lcs = none ∧ keyKind ∧ let slot := s.installSlot m; s.namedGone m = true) ∧
    (∃ (s : State) (c : Cmd) (m : KeyMsg) (lcs : List Lc),
     let keyKind : Prop := m.kind = 1 ∨ m.kind = 2 ∨ m.kind = 3 ∨ m.kind = 4 ∨ m.kind = 6; s.ready c 0x1101 ∧ lcs = (if keyKind
     then [Lc.personalised, .field, .service] else [Lc.manufacture, .personalised, .field, .service, .scrapped]) ∧ s.checkMsg m
     [1, 2, 3, 4, 5, 6] lcs = none ∧ keyKind ∧ let slot := s.installSlot m; s.namedGone m = false ∧ s.metroMsg m = true ∧
     s.changeFull = true) ∧
    (∃ (s : State) (c : Cmd) (m : KeyMsg) (lcs : List Lc),
     let keyKind : Prop := m.kind = 1 ∨ m.kind = 2 ∨ m.kind = 3 ∨ m.kind = 4 ∨ m.kind = 6; s.ready c 0x1101 ∧ lcs = (if keyKind
     then [Lc.personalised, .field, .service] else [Lc.manufacture, .personalised, .field, .service, .scrapped]) ∧ s.checkMsg m
     [1, 2, 3, 4, 5, 6] lcs = none ∧ keyKind ∧ let slot := s.installSlot m; s.namedGone m = false ∧ s.metroMsg m = true ∧
     s.changeFull = false) ∧
    (∃ (s : State) (c : Cmd) (m : KeyMsg) (lcs : List Lc),
     let keyKind : Prop := m.kind = 1 ∨ m.kind = 2 ∨ m.kind = 3 ∨ m.kind = 4 ∨ m.kind = 6; s.ready c 0x1101 ∧ lcs = (if keyKind
     then [Lc.personalised, .field, .service] else [Lc.manufacture, .personalised, .field, .service, .scrapped]) ∧ s.checkMsg m
     [1, 2, 3, 4, 5, 6] lcs = none ∧ keyKind ∧ let slot := s.installSlot m; s.namedGone m = false ∧ s.metroMsg m = false) ∧
    (∃ (s : State) (c : Cmd) (m : KeyMsg) (lcs : List Lc) (b : Lc),
     let keyKind : Prop := m.kind = 1 ∨ m.kind = 2 ∨ m.kind = 3 ∨ m.kind = 4 ∨ m.kind = 6; s.ready c 0x1101 ∧ lcs = (if keyKind
     then [Lc.personalised, .field, .service] else [Lc.manufacture, .personalised, .field, .service, .scrapped]) ∧ s.checkMsg m
     [1, 2, 3, 4, 5, 6] lcs = none ∧ m.kind = 5 ∧ lcOf m.num = b ∧ (lcMove s.key.lc b m.auth = false ∨ s.lcReady b = false)) ∧
    (∃ (s : State) (c : Cmd) (m : KeyMsg) (lcs : List Lc) (b : Lc),
     let keyKind : Prop := m.kind = 1 ∨ m.kind = 2 ∨ m.kind = 3 ∨ m.kind = 4 ∨ m.kind = 6; s.ready c 0x1101 ∧ lcs = (if keyKind
     then [Lc.personalised, .field, .service] else [Lc.manufacture, .personalised, .field, .service, .scrapped]) ∧ s.checkMsg m
     [1, 2, 3, 4, 5, 6] lcs = none ∧ m.kind = 5 ∧ lcOf m.num = b ∧ lcMove s.key.lc b m.auth = true ∧ s.lcReady b = true ∧ b ≠
     .scrapped ∧ s.changeFull = true) ∧
    (∃ (s : State) (c : Cmd) (m : KeyMsg) (lcs : List Lc) (b : Lc),
     let keyKind : Prop := m.kind = 1 ∨ m.kind = 2 ∨ m.kind = 3 ∨ m.kind = 4 ∨ m.kind = 6; s.ready c 0x1101 ∧ lcs = (if keyKind
     then [Lc.personalised, .field, .service] else [Lc.manufacture, .personalised, .field, .service, .scrapped]) ∧ s.checkMsg m
     [1, 2, 3, 4, 5, 6] lcs = none ∧ m.kind = 5 ∧ lcOf m.num = b ∧ lcMove s.key.lc b m.auth = true ∧ s.lcReady b = true ∧ (b =
     .scrapped ∨ s.changeFull = false)) ∧
    (∃ (s : State) (m : KeyMsg) (b : Lc) (k : Nat),
     let keyKind : Prop := m.kind = 1 ∨ m.kind = 2 ∨ m.kind = 3 ∨ m.kind = 4 ∨ m.kind = 6; let u := s.lcTransition b k; b =
     .scrapped) ∧
    (∃ (s : State) (m : KeyMsg) (b : Lc) (k : Nat),
     let keyKind : Prop := m.kind = 1 ∨ m.kind = 2 ∨ m.kind = 3 ∨ m.kind = 4 ∨ m.kind = 6; let u := s.lcTransition b k; b =
     .scrapped) ∧
    (∃ (s : State) (m : KeyMsg) (b : Lc) (k : Nat),
     let keyKind : Prop := m.kind = 1 ∨ m.kind = 2 ∨ m.kind = 3 ∨ m.kind = 4 ∨ m.kind = 6; let u := s.lcTransition b k; b ≠
     .scrapped) ∧
    (∃ (s : State) (m : KeyMsg), let keyKind : Prop := m.kind = 1 ∨ m.kind = 2 ∨ m.kind = 3 ∨ m.kind = 4 ∨ m.kind = 6;
     let u := s.keyApply m; m.kind = 1) ∧
    (∃ (s : State) (m : KeyMsg) (x : Nat), let keyKind : Prop := m.kind = 1 ∨ m.kind = 2 ∨ m.kind = 3 ∨ m.kind = 4 ∨ m.kind = 6;
     let u := s.keyApply m; m.kind = 1 ∧ let h := s.headsIn (s.installSlot m) m.span; x ≠ s.installSlot m) ∧
    (∃ (s : State) (m : KeyMsg), let keyKind : Prop := m.kind = 1 ∨ m.kind = 2 ∨ m.kind = 3 ∨ m.kind = 4 ∨ m.kind = 6;
     let u := s.keyApply m; m.kind = 1) ∧
    (∃ (s : State) (m : KeyMsg), let keyKind : Prop := m.kind = 1 ∨ m.kind = 2 ∨ m.kind = 3 ∨ m.kind = 4 ∨ m.kind = 6;
     let u := s.keyApply m; m.kind = 2) ∧
    (∃ (s : State) (m : KeyMsg) (x : Nat), let keyKind : Prop := m.kind = 1 ∨ m.kind = 2 ∨ m.kind = 3 ∨ m.kind = 4 ∨ m.kind = 6;
     let u := s.keyApply m; m.kind = 2 ∧ x ≠ m.slot) ∧
    (∃ (s : State) (m : KeyMsg), let keyKind : Prop := m.kind = 1 ∨ m.kind = 2 ∨ m.kind = 3 ∨ m.kind = 4 ∨ m.kind = 6;
     let u := s.keyApply m; m.kind = 2) ∧
    (∃ (s : State) (m : KeyMsg), let keyKind : Prop := m.kind = 1 ∨ m.kind = 2 ∨ m.kind = 3 ∨ m.kind = 4 ∨ m.kind = 6;
     let u := s.keyApply m; m.kind = 3 ∧ m.op = 1) ∧
    (∃ (s : State) (m : KeyMsg), let keyKind : Prop := m.kind = 1 ∨ m.kind = 2 ∨ m.kind = 3 ∨ m.kind = 4 ∨ m.kind = 6;
     let u := s.keyApply m; m.kind = 3 ∧ m.op = 2) ∧
    (∃ (s : State) (m : KeyMsg), let keyKind : Prop := m.kind = 1 ∨ m.kind = 2 ∨ m.kind = 3 ∨ m.kind = 4 ∨ m.kind = 6;
     let u := s.keyApply m; m.kind = 4) ∧
    (∃ (s : State) (m : KeyMsg), let keyKind : Prop := m.kind = 1 ∨ m.kind = 2 ∨ m.kind = 3 ∨ m.kind = 4 ∨ m.kind = 6;
     let u := s.keyApply m; m.kind = 6) ∧
    (∃ (s : State) (c : Cmd) (m : KeyMsg) (n : Nat),
     let keyKind : Prop := m.kind = 1 ∨ m.kind = 2 ∨ m.kind = 3 ∨ m.kind = 4 ∨ m.kind = 6; s.ready c 0x1102 ∧ n < 512) ∧
    (∃ (s : State) (c : Cmd) (m : KeyMsg) (n : Nat),
     let keyKind : Prop := m.kind = 1 ∨ m.kind = 2 ∨ m.kind = 3 ∨ m.kind = 4 ∨ m.kind = 6; s.ready c 0x1102 ∧ 512 ≤ n) ∧
    (∃ (s : State) (c : Cmd) (m : KeyMsg), let keyKind : Prop := m.kind = 1 ∨ m.kind = 2 ∨ m.kind = 3 ∨ m.kind = 4 ∨ m.kind = 6;
     s.ready c 0x1103 ∧ s.key.lc ≠ .manufacture) ∧
    (∃ (s : State) (c : Cmd) (m : KeyMsg) (n : Nat) (a : Bool) (k : Nat) (w : Bool),
     let keyKind : Prop := m.kind = 1 ∨ m.kind = 2 ∨ m.kind = 3 ∨ m.kind = 4 ∨ m.kind = 6; s.ready c 0x1103 ∧ s.key.lc =
     .manufacture ∧ (w = false ∨ k = 0 ∨ (a = true ∧ 2 < n) ∨ (a = false ∧ 7 < n))) ∧
    (∃ (s : State) (c : Cmd) (m : KeyMsg) (n : Nat) (a : Bool) (k : Nat) (w : Bool),
     let keyKind : Prop := m.kind = 1 ∨ m.kind = 2 ∨ m.kind = 3 ∨ m.kind = 4 ∨ m.kind = 6; s.ready c 0x1103 ∧ s.key.lc =
     .manufacture ∧ w = true ∧ k ≠ 0 ∧ a = true ∧ n ≤ 2) ∧
    (∃ (s : State) (c : Cmd) (m : KeyMsg) (n : Nat) (a : Bool) (k : Nat) (w : Bool),
     let keyKind : Prop := m.kind = 1 ∨ m.kind = 2 ∨ m.kind = 3 ∨ m.kind = 4 ∨ m.kind = 6; s.ready c 0x1103 ∧ s.key.lc =
     .manufacture ∧ w = true ∧ k ≠ 0 ∧ a = false ∧ n ≤ 7) ∧
    (∃ (s : State) (c : Cmd) (m : KeyMsg), let keyKind : Prop := m.kind = 1 ∨ m.kind = 2 ∨ m.kind = 3 ∨ m.kind = 4 ∨ m.kind = 6;
     s.ready c 0x1104 ∧ s.key.lc ≠ .manufacture) ∧
    (∃ (s : State) (c : Cmd) (m : KeyMsg) (n : Nat),
     let keyKind : Prop := m.kind = 1 ∨ m.kind = 2 ∨ m.kind = 3 ∨ m.kind = 4 ∨ m.kind = 6; s.ready c 0x1104 ∧ s.key.lc =
     .manufacture ∧ 4 < n) ∧
    (∃ (s : State) (c : Cmd) (m : KeyMsg) (n : Nat),
     let keyKind : Prop := m.kind = 1 ∨ m.kind = 2 ∨ m.kind = 3 ∨ m.kind = 4 ∨ m.kind = 6; s.ready c 0x1104 ∧ s.key.lc =
     .manufacture ∧ n ≤ 4 ∧ ((n ≠ 1 ∧ n ≠ 4) ∨ s.lcReady (lcOf n) = false)) ∧
    (∃ (s : State) (c : Cmd) (m : KeyMsg) (n : Nat),
     let keyKind : Prop := m.kind = 1 ∨ m.kind = 2 ∨ m.kind = 3 ∨ m.kind = 4 ∨ m.kind = 6; s.ready c 0x1104 ∧ s.key.lc =
     .manufacture ∧ n = 1 ∧ s.lcReady .personalised = true ∧ s.changeFull = true) ∧
    (∃ (s : State) (c : Cmd) (m : KeyMsg) (n : Nat),
     let keyKind : Prop := m.kind = 1 ∨ m.kind = 2 ∨ m.kind = 3 ∨ m.kind = 4 ∨ m.kind = 6; s.ready c 0x1104 ∧ s.key.lc =
     .manufacture ∧ (n = 1 ∨ n = 4) ∧ s.lcReady (lcOf n) = true ∧ (n = 4 ∨ s.changeFull = false)) ∧
    (∃ (s : State) (c : Cmd) (m : KeyMsg) (dst : Nat),
     let keyKind : Prop := m.kind = 1 ∨ m.kind = 2 ∨ m.kind = 3 ∨ m.kind = 4 ∨ m.kind = 6; s.ready c 0x1105 ∧ dstOk dst 320 =
     false) ∧
    (∃ (s : State) (c : Cmd) (m : KeyMsg) (dst : Nat),
     let keyKind : Prop := m.kind = 1 ∨ m.kind = 2 ∨ m.kind = 3 ∨ m.kind = 4 ∨ m.kind = 6; s.ready c 0x1105 ∧ dstOk dst 320 =
     true) ∧
    (∃ (s : State) (c : Cmd) (m : KeyMsg) (n : Nat) (leaf : Nat) (sz : Nat) (w : Bool),
     let keyKind : Prop := m.kind = 1 ∨ m.kind = 2 ∨ m.kind = 3 ∨ m.kind = 4 ∨ m.kind = 6; s.ready c 0x1106 ∧
     let fits : Prop := w = true ∧ 1 ≤ sz ∧ sz ≤ 2400 ∧ classOf n = .transport ∧ (s.slot n).filled = true ∧ (s.slot n).usage.getLsbD 1 = true ∧ leaf = (s.slot n).key;
     s.key.lc ≠ .field ∧ s.key.lc ≠ .service) ∧
    (∃ (s : State) (c : Cmd) (m : KeyMsg) (n : Nat) (leaf : Nat) (sz : Nat) (w : Bool),
     let keyKind : Prop := m.kind = 1 ∨ m.kind = 2 ∨ m.kind = 3 ∨ m.kind = 4 ∨ m.kind = 6; s.ready c 0x1106 ∧
     let fits : Prop := w = true ∧ 1 ≤ sz ∧ sz ≤ 2400 ∧ classOf n = .transport ∧ (s.slot n).filled = true ∧ (s.slot n).usage.getLsbD 1 = true ∧ leaf = (s.slot n).key;
     (s.key.lc = .field ∨ s.key.lc = .service) ∧ ¬ fits) ∧
    (∃ (s : State) (c : Cmd) (m : KeyMsg) (n : Nat) (leaf : Nat) (sz : Nat) (w : Bool),
     let keyKind : Prop := m.kind = 1 ∨ m.kind = 2 ∨ m.kind = 3 ∨ m.kind = 4 ∨ m.kind = 6; s.ready c 0x1106 ∧
     let fits : Prop := w = true ∧ 1 ≤ sz ∧ sz ≤ 2400 ∧ classOf n = .transport ∧ (s.slot n).filled = true ∧ (s.slot n).usage.getLsbD 1 = true ∧ leaf = (s.slot n).key;
     (s.key.lc = .field ∨ s.key.lc = .service) ∧ fits ∧ 4 ≤ (s.key.chains.filter (fun p => p.1 ≠ n)).length) ∧
    (∃ (s : State) (c : Cmd) (m : KeyMsg) (n : Nat) (leaf : Nat) (sz : Nat) (w : Bool),
     let keyKind : Prop := m.kind = 1 ∨ m.kind = 2 ∨ m.kind = 3 ∨ m.kind = 4 ∨ m.kind = 6; s.ready c 0x1106 ∧
     let fits : Prop := w = true ∧ 1 ≤ sz ∧ sz ≤ 2400 ∧ classOf n = .transport ∧ (s.slot n).filled = true ∧ (s.slot n).usage.getLsbD 1 = true ∧ leaf = (s.slot n).key;
     (s.key.lc = .field ∨ s.key.lc = .service) ∧ fits ∧ (s.key.chains.filter (fun p => p.1 ≠ n)).length < 4) ∧
    (∃ (s : State) (c : Cmd) (m : KeyMsg) (n : Nat),
     let keyKind : Prop := m.kind = 1 ∨ m.kind = 2 ∨ m.kind = 3 ∨ m.kind = 4 ∨ m.kind = 6; s.ready c 0x1107 ∧ (n < 112 ∨ 127 < n)) ∧
    (∃ (s : State) (c : Cmd) (m : KeyMsg) (n : Nat),
     let keyKind : Prop := m.kind = 1 ∨ m.kind = 2 ∨ m.kind = 3 ∨ m.kind = 4 ∨ m.kind = 6; s.ready c 0x1107 ∧ 112 ≤ n ∧ n ≤ 127 ∧
     s.keyFor n 5 = false) ∧
    (∃ (s : State) (c : Cmd) (m : KeyMsg) (n : Nat),
     let keyKind : Prop := m.kind = 1 ∨ m.kind = 2 ∨ m.kind = 3 ∨ m.kind = 4 ∨ m.kind = 6; s.ready c 0x1107 ∧ 112 ≤ n ∧ n ≤ 127 ∧
     s.keyFor n 5 = true) :=
  ⟨⟨flashed, {}, { kind := 3, devId := 77 }, (if (({ kind := 3, devId := 77 } : KeyMsg).kind = 1 ∨
     ({ kind := 3, devId := 77 } : KeyMsg).kind = 2 ∨ ({ kind := 3, devId := 77 } : KeyMsg).kind = 3 ∨
     ({ kind := 3, devId := 77 } : KeyMsg).kind = 4 ∨ ({ kind := 3, devId := 77 } : KeyMsg).kind = 6) then [Lc.personalised,
     .field, .service]
        else [Lc.manufacture, .personalised, .field, .service, .scrapped]), .auth, ready_of
     (by decide +kernel), by decide +kernel⟩,
   ⟨{ flashed with img.metro.metroSlot := 16 }, {},
     { kind := 2, auth := 1, devId := 77, ctr := 1, slot := 16, signer := 51 }, (if
     (({ kind := 2, auth := 1, devId := 77, ctr := 1, slot := 16, signer := 51 } : KeyMsg).kind = 1 ∨
     ({ kind := 2, auth := 1, devId := 77, ctr := 1, slot := 16, signer := 51 } : KeyMsg).kind = 2 ∨
     ({ kind := 2, auth := 1, devId := 77, ctr := 1, slot := 16, signer := 51 } : KeyMsg).kind = 3 ∨
     ({ kind := 2, auth := 1, devId := 77, ctr := 1, slot := 16, signer := 51 } : KeyMsg).kind = 4 ∨
     ({ kind := 2, auth := 1, devId := 77, ctr := 1, slot := 16, signer := 51 } : KeyMsg).kind = 6) then [Lc.personalised,
     .field, .service]
        else [Lc.manufacture, .personalised, .field, .service, .scrapped]), ready_of
     (by decide +kernel), by decide +kernel⟩,
   ⟨{ flashed with img.metro.metroSlot := 16, blz.last := 1984 }, {},
     { kind := 2, auth := 1, devId := 77, ctr := 1, slot := 17, signer := 51 }, (if
     (({ kind := 2, auth := 1, devId := 77, ctr := 1, slot := 17, signer := 51 } : KeyMsg).kind = 1 ∨
     ({ kind := 2, auth := 1, devId := 77, ctr := 1, slot := 17, signer := 51 } : KeyMsg).kind = 2 ∨
     ({ kind := 2, auth := 1, devId := 77, ctr := 1, slot := 17, signer := 51 } : KeyMsg).kind = 3 ∨
     ({ kind := 2, auth := 1, devId := 77, ctr := 1, slot := 17, signer := 51 } : KeyMsg).kind = 4 ∨
     ({ kind := 2, auth := 1, devId := 77, ctr := 1, slot := 17, signer := 51 } : KeyMsg).kind = 6) then [Lc.personalised,
     .field, .service]
        else [Lc.manufacture, .personalised, .field, .service, .scrapped]), ready_of
     (by decide +kernel), by decide +kernel⟩,
   ⟨{ flashed with img.metro.metroSlot := 16 }, {},
     { kind := 2, auth := 1, devId := 77, ctr := 1, slot := 17, signer := 51 }, (if
     (({ kind := 2, auth := 1, devId := 77, ctr := 1, slot := 17, signer := 51 } : KeyMsg).kind = 1 ∨
     ({ kind := 2, auth := 1, devId := 77, ctr := 1, slot := 17, signer := 51 } : KeyMsg).kind = 2 ∨
     ({ kind := 2, auth := 1, devId := 77, ctr := 1, slot := 17, signer := 51 } : KeyMsg).kind = 3 ∨
     ({ kind := 2, auth := 1, devId := 77, ctr := 1, slot := 17, signer := 51 } : KeyMsg).kind = 4 ∨
     ({ kind := 2, auth := 1, devId := 77, ctr := 1, slot := 17, signer := 51 } : KeyMsg).kind = 6) then [Lc.personalised,
     .field, .service]
        else [Lc.manufacture, .personalised, .field, .service, .scrapped]), ready_of
     (by decide +kernel), by decide +kernel⟩,
   ⟨flashed, {}, { kind := 6, auth := 0, devId := 77, ctr := 1, signer := 50 }, (if
     (({ kind := 6, auth := 0, devId := 77, ctr := 1, signer := 50 } : KeyMsg).kind = 1 ∨
     ({ kind := 6, auth := 0, devId := 77, ctr := 1, signer := 50 } : KeyMsg).kind = 2 ∨
     ({ kind := 6, auth := 0, devId := 77, ctr := 1, signer := 50 } : KeyMsg).kind = 3 ∨
     ({ kind := 6, auth := 0, devId := 77, ctr := 1, signer := 50 } : KeyMsg).kind = 4 ∨
     ({ kind := 6, auth := 0, devId := 77, ctr := 1, signer := 50 } : KeyMsg).kind = 6) then [Lc.personalised, .field,
     .service]
        else [Lc.manufacture, .personalised, .field, .service, .scrapped]), ready_of (by decide +kernel),
     by decide +kernel⟩,
   ⟨{ flashed with vlk.ctxs := [(0, { st := .authorise })] }, {},
     { kind := 5, auth := 2, devId := 77, ctr := 1, num := 3, signer := 52 }, (if
     (({ kind := 5, auth := 2, devId := 77, ctr := 1, num := 3, signer := 52 } : KeyMsg).kind = 1 ∨
     ({ kind := 5, auth := 2, devId := 77, ctr := 1, num := 3, signer := 52 } : KeyMsg).kind = 2 ∨
     ({ kind := 5, auth := 2, devId := 77, ctr := 1, num := 3, signer := 52 } : KeyMsg).kind = 3 ∨
     ({ kind := 5, auth := 2, devId := 77, ctr := 1, num := 3, signer := 52 } : KeyMsg).kind = 4 ∨
     ({ kind := 5, auth := 2, devId := 77, ctr := 1, num := 3, signer := 52 } : KeyMsg).kind = 6) then [Lc.personalised,
     .field, .service]
        else [Lc.manufacture, .personalised, .field, .service, .scrapped]), .service, ready_of
     (by decide +kernel), by decide +kernel⟩,
   ⟨{ flashed with blz.last := 1984 }, {}, { kind := 5, auth := 2, devId := 77, ctr := 1, num := 3, signer := 52 }, (if
     (({ kind := 5, auth := 2, devId := 77, ctr := 1, num := 3, signer := 52 } : KeyMsg).kind = 1 ∨
     ({ kind := 5, auth := 2, devId := 77, ctr := 1, num := 3, signer := 52 } : KeyMsg).kind = 2 ∨
     ({ kind := 5, auth := 2, devId := 77, ctr := 1, num := 3, signer := 52 } : KeyMsg).kind = 3 ∨
     ({ kind := 5, auth := 2, devId := 77, ctr := 1, num := 3, signer := 52 } : KeyMsg).kind = 4 ∨
     ({ kind := 5, auth := 2, devId := 77, ctr := 1, num := 3, signer := 52 } : KeyMsg).kind = 6) then [Lc.personalised,
     .field, .service]
        else [Lc.manufacture, .personalised, .field, .service, .scrapped]), .service, ready_of
     (by decide +kernel), by decide +kernel⟩,
   ⟨flashed, {}, { kind := 5, auth := 2, devId := 77, ctr := 1, num := 3, signer := 52 }, (if
     (({ kind := 5, auth := 2, devId := 77, ctr := 1, num := 3, signer := 52 } : KeyMsg).kind = 1 ∨
     ({ kind := 5, auth := 2, devId := 77, ctr := 1, num := 3, signer := 52 } : KeyMsg).kind = 2 ∨
     ({ kind := 5, auth := 2, devId := 77, ctr := 1, num := 3, signer := 52 } : KeyMsg).kind = 3 ∨
     ({ kind := 5, auth := 2, devId := 77, ctr := 1, num := 3, signer := 52 } : KeyMsg).kind = 4 ∨
     ({ kind := 5, auth := 2, devId := 77, ctr := 1, num := 3, signer := 52 } : KeyMsg).kind = 6) then [Lc.personalised,
     .field, .service]
        else [Lc.manufacture, .personalised, .field, .service, .scrapped]), .service, ready_of
     (by decide +kernel), by decide +kernel⟩,
   ⟨live, {}, .scrapped, 0, by decide +kernel⟩,
   ⟨live, {}, .scrapped, 0, by decide +kernel⟩,
   ⟨live, {}, .field, 0, by decide +kernel⟩,
   ⟨live, { kind := 1 }, by decide +kernel⟩,
   ⟨live, { kind := 1 }, 0, by decide +kernel⟩,
   ⟨live, { kind := 1 }, by decide +kernel⟩,
   ⟨live, { kind := 2 }, by decide +kernel⟩,
   ⟨live, { kind := 2 }, 0, by decide +kernel⟩,
   ⟨live, { kind := 2 }, by decide +kernel⟩,
   ⟨live, { kind := 3, op := 1 }, by decide +kernel⟩,
   ⟨live, { kind := 3, op := 2 }, by decide +kernel⟩,
   ⟨live, { kind := 4 }, by decide +kernel⟩,
   ⟨live, { kind := 6 }, by decide +kernel⟩,
   ⟨live, {}, {}, 511, ready_of (by decide +kernel), by decide +kernel⟩,
   ⟨live, {}, {}, 512, ready_of (by decide +kernel), by decide +kernel⟩,
   ⟨live, {}, {}, ready_of (by decide +kernel), by decide +kernel⟩,
   ⟨{ live with key.lc := .manufacture }, {}, {}, 0, false, 0, false, ready_of (by decide +kernel), by decide +kernel⟩,
   ⟨{ live with key.lc := .manufacture }, {}, {}, 2, true, 1, true, ready_of (by decide +kernel), by decide +kernel⟩,
   ⟨{ live with key.lc := .manufacture }, {}, {}, 7, false, 1, true, ready_of (by decide +kernel), by decide +kernel⟩,
   ⟨live, {}, {}, ready_of (by decide +kernel), by decide +kernel⟩,
   ⟨{ live with key.lc := .manufacture }, {}, {}, 5, ready_of (by decide +kernel), by decide +kernel⟩,
   ⟨{ live with key.lc := .manufacture }, {}, {}, 0, ready_of (by decide +kernel), by decide +kernel⟩,
   ⟨{ flashed with key.lc := .manufacture, blz.last := 1984 }, {}, {}, 1, ready_of (by decide +kernel), by decide +kernel⟩,
   ⟨{ live with key.lc := .manufacture }, {}, {}, 4, ready_of (by decide +kernel), by decide +kernel⟩,
   ⟨live, {}, {}, 0, ready_of (by decide +kernel), by decide +kernel⟩,
   ⟨live, {}, {}, 0x800000, ready_of (by decide +kernel), by decide +kernel⟩,
   ⟨{ live with key.lc := .manufacture }, {}, {}, 0, 0, 0, false, ready_of (by decide +kernel), by decide +kernel⟩,
   ⟨live, {}, {}, 0, 0, 0, false, ready_of (by decide +kernel), by decide +kernel⟩,
   ⟨{ live with key.slots := [(48, { st := .valid, usage := 2, key := 7 })], key.chains := [(49, {}), (50, {}), (51, {}), (52, {})] },
     {}, {}, 48, 7, 2400, true, ready_of (by decide +kernel), by decide +kernel⟩,
   ⟨{ live with key.slots := [(48, { st := .valid, usage := 2, key := 7 })] }, {}, {}, 48, 7, 2400, true, ready_of
     (by decide +kernel), by decide +kernel⟩,
   ⟨live, {}, {}, 111, ready_of (by decide +kernel), by decide +kernel⟩,
   ⟨live, {}, {}, 127, ready_of (by decide +kernel), by decide +kernel⟩,
   ⟨live.setSlot 127 { st := .valid, usage := 0x20 }, {}, {}, 127, ready_of (by decide +kernel), by decide +kernel⟩⟩

theorem witness_TimeBaseActs :
    (∃ (s : State) (o : Int), let r := s.offset o; let raw := o + s.tim.removed; s.tim.stepPend ≠ none) ∧
    (∃ (s : State) (o : Int), let r := s.offset o; let raw := o + s.tim.removed; s.tim.stepPend = none ∧ o.natAbs < msOff) ∧
    (∃ (s : State) (o : Int), let r := s.offset o; let raw := o + s.tim.removed; s.tim.stepPend = none ∧ msOff ≤ o.natAbs) ∧
    (∃ (s : State) (o : Int), let r := s.offset o; let raw := o + s.tim.removed; s.tim.stepPend = none ∧ msOff ≤ o.natAbs ∧ (∃ p
     ∈ s.tim.run, msOff < (p - raw).natAbs)) ∧
    (∃ (s : State) (o : Int), let r := s.offset o; let raw := o + s.tim.removed; s.tim.stepPend = none ∧ msOff ≤ o.natAbs ∧ (∀ p
     ∈ s.tim.run, (p - raw).natAbs ≤ msOff) ∧ s.tim.run.length < 2) ∧
    (∃ (s : State) (o : Int), let r := s.offset o; let raw := o + s.tim.removed; s.tim.stepPend = none ∧ msOff ≤ o.natAbs ∧ (∀ p
     ∈ s.tim.run, (p - raw).natAbs ≤ msOff) ∧ 2 ≤ s.tim.run.length ∧ o.natAbs < 128 * msOff) ∧
    (∃ (s : State) (o : Int), let r := s.offset o; let raw := o + s.tim.removed; s.tim.stepPend = none ∧ msOff ≤ o.natAbs ∧ (∀ p
     ∈ s.tim.run, (p - raw).natAbs ≤ msOff) ∧ 2 ≤ s.tim.run.length ∧ 128 * msOff ≤ o.natAbs) ∧
    (∃ (s : State) (o : Int), let r := s.offset o; let raw := o + s.tim.removed; s.tim.stepPend = none) ∧
    (∃ (s : State) (o : Int), let u := s.accept o; s.tim.servo = .free) ∧
    (∃ (s : State) (o : Int), let u := s.accept o; s.tim.servo = .acquiring ∧ o.natAbs ≤ usOff) ∧
    (∃ (s : State) (o : Int), let u := s.accept o; s.tim.servo = .acquiring ∧ o.natAbs ≤ usOff ∧ 16 ≤ s.tim.good + 1 ∧
     s.tim.slewing = false) ∧
    (∃ (s : State) (o : Int), let u := s.accept o; s.tim.servo = .acquiring ∧ o.natAbs ≤ usOff ∧ (s.tim.good + 1 < 16 ∨
     s.tim.slewing = true)) ∧
    (∃ (s : State) (o : Int), let u := s.accept o; s.tim.servo = .acquiring ∧ usOff < o.natAbs) ∧
    (∃ (s : State) (o : Int), let u := s.accept o; s.tim.servo = .locked) ∧
    (∃ (s : State) (o : Int), let u := s.accept o; s.tim.servo = .holdover) ∧
    (∃ (s : State), (s.tim.stepPend = none ∨ s.sys.inReset = true)) ∧
    (∃ (s : State) (d : Int), s.tim.stepPend = some d ∧ s.sys.inReset = false) ∧
    (∃ (s : State) (d : Int), let u := s.stepNow d; let t := (s.now.toNs + d + 5000000) / 10000000 * 10000000; s.tim.stepRest ≠
     0) ∧
    (∃ (s : State) (d : Int), let u := s.stepNow d; let t := (s.now.toNs + d + 5000000) / 10000000 * 10000000; s.tim.stepRest =
     0) ∧
    (∃ (s : State), s.sys.inReset = false ∧ s.tim.servo = .acquiring) ∧
    (∃ (s : State), s.sys.inReset = false ∧ s.tim.servo = .locked) ∧
    (∃ (s : State), s.sys.inReset = false ∧ (s.tim.servo = .free ∨ s.tim.servo = .holdover)) ∧
    (∃ (s : State), s.sys.inReset = false ∧ s.tim.servo = .holdover ∧ s.tim.holdLimit = false) ∧
    (∃ (s : State), s.sys.inReset = false ∧ (s.tim.servo ≠ .holdover ∨ s.tim.holdLimit = true)) ∧
    (∃ (s : State), s.sys.inReset = false ∧ s.tim.leap = 1 ∧ s.tim.leapDone = false ∧ s.tim.utcRaw % 86400 = 0) ∧
    (∃ (s : State), s.sys.inReset = false ∧ s.tim.leap = 2 ∧ s.tim.leapDone = false ∧ s.tim.utcRaw % 86400 = 86399 ∧ s.tim.ns =
     0) ∧
    (∃ (s : State), s.sys.inReset = false ∧ (s.tim.leapDone = true ∨ (s.tim.leap ≠ 1 ∧ s.tim.leap ≠ 2) ∨ (s.tim.leap = 1 ∧
     s.tim.utcRaw % 86400 ≠ 0) ∨ (s.tim.leap = 2 ∧ (s.tim.utcRaw % 86400 ≠ 86399 ∨ s.tim.ns ≠ 0)))) ∧
    (∃ (s : State), s.sys.inReset = false ∧ s.tim.slewing = true ∧ s.tim.servo = .acquiring ∧ 16 ≤ s.tim.good) ∧
    (∃ (s : State), s.sys.inReset = false ∧ s.tim.slewing = true ∧ (s.tim.servo ≠ .acquiring ∨ s.tim.good < 16)) ∧
    (∃ (s : State), s.sys.inReset = false ∧ s.tim.slewing = false) ∧
    (∃ (s : State), s.sys.inReset = false ∧ s.tim.servo ≠ .locked) ∧
    (∃ (s : State), s.sys.inReset = true) ∧
    (∃ (s : State) (port : Nat) (t1 : Int) (p2 : Int) (p3 : Int) (t4 : Int),
     let takes : Prop := s.awake = true ∧ s.boomTime = true ∧ s.net.rejected = false ∧ (if port = 0 then s.net.boom0 else s.net.boom1) = true;
     let i := if port = 0 then 2 else 3; let back := (p2 + (s.img.net.latIn.getD i 0 : Nat)) / 4 * 4 - t1;
     let forth := (p3 + (s.img.net.latOut.getD i 0 : Nat)) / 4 * 4 - t4; ¬ takes) ∧
    (∃ (s : State) (port : Nat) (t1 : Int) (p2 : Int) (p3 : Int) (t4 : Int),
     let takes : Prop := s.awake = true ∧ s.boomTime = true ∧ s.net.rejected = false ∧ (if port = 0 then s.net.boom0 else s.net.boom1) = true;
     let i := if port = 0 then 2 else 3; let back := (p2 + (s.img.net.latIn.getD i 0 : Nat)) / 4 * 4 - t1;
     let forth := (p3 + (s.img.net.latOut.getD i 0 : Nat)) / 4 * 4 - t4; takes) ∧
    (∃ (s : State) (c : Cmd) (a : Int) (n : Nat) (f : Nat), s.ready c 0x1201 ∧ let o := (a * 1000000000 + n) * 65536 + f;
     s.boomTime = true) ∧
    (∃ (s : State) (c : Cmd) (a : Int) (n : Nat) (f : Nat) (l : Nat), s.ready c 0x1201 ∧
     let o := (a * 1000000000 + n) * 65536 + f; s.boomTime = false ∧ (3 ≤ l ∨ 1000000000 ≤ n ∨ maxOffset < o.natAbs)) ∧
    (∃ (s : State) (c : Cmd) (a : Int) (n : Nat) (f : Nat) (l : Nat), s.ready c 0x1201 ∧
     let o := (a * 1000000000 + n) * 65536 + f; s.boomTime = false ∧ l < 3 ∧ n < 1000000000 ∧ o.natAbs ≤ maxOffset) ∧
    (∃ (s : State) (c : Cmd), s.ready c 0x1202 ∧ (s.boomTime = true ∨ s.tim.servo ≠ .free)) ∧
    (∃ (s : State) (c : Cmd) (ns : Nat), s.ready c 0x1202 ∧ s.boomTime = false ∧ s.tim.servo = .free ∧ 1000000000 ≤ ns) ∧
    (∃ (s : State) (c : Cmd) (ns : Nat), s.ready c 0x1202 ∧ s.boomTime = false ∧ s.tim.servo = .free ∧ ns < 1000000000) ∧
    (∃ (s : State) (c : Cmd), s.ready c 0x1203) :=
  ⟨⟨{ live with tim.stepPend := some 0 }, 0, by decide +kernel⟩,
   ⟨live, 0, by decide +kernel⟩,
   ⟨live, 65536000000, by decide +kernel⟩,
   ⟨{ live with tim.run := [131072000001] }, 65536000000, by decide +kernel⟩,
   ⟨live, 65536000000, by decide +kernel⟩,
   ⟨{ live with tim.run := [65536000000, 65536000000] }, 65536000000, by decide +kernel⟩,
   ⟨{ live with tim.run := [8388608000000, 8388608000000] }, 8388608000000, by decide +kernel⟩,
   ⟨live, 0, by decide +kernel⟩,
   ⟨{ live with tim.servo := .free }, 0, by decide +kernel⟩,
   ⟨{ live with tim.servo := .acquiring }, 0, by decide +kernel⟩,
   ⟨{ live with tim.servo := .acquiring, tim.good := 16 }, 0, by decide +kernel⟩,
   ⟨{ live with tim.servo := .acquiring }, 0, by decide +kernel⟩,
   ⟨{ live with tim.servo := .acquiring }, 65536000000, by decide +kernel⟩,
   ⟨{ live with tim.servo := .locked }, 0, by decide +kernel⟩,
   ⟨{ live with tim.servo := .holdover }, 0, by decide +kernel⟩,
   ⟨live, by decide +kernel⟩,
   ⟨{ live with tim.stepPend := some 0 }, 0, by decide +kernel⟩,
   ⟨{ live with tim.stepRest := 1 }, 0, by decide +kernel⟩,
   ⟨{ live with tim.stepRest := 0 }, 0, by decide +kernel⟩,
   ⟨{ live with tim.servo := .acquiring }, by decide +kernel⟩,
   ⟨{ live with tim.servo := .locked }, by decide +kernel⟩,
   ⟨{ live with tim.servo := .free }, by decide +kernel⟩,
   ⟨{ live with tim.servo := .holdover }, by decide +kernel⟩,
   ⟨live, by decide +kernel⟩,
   ⟨{ live with tim.leap := 1, tim.sec := 946684837 }, by decide +kernel⟩,
   ⟨{ live with tim.leap := 2, tim.ns := 0, tim.sec := 946684836 }, by decide +kernel⟩,
   ⟨{ live with tim.leapDone := true }, by decide +kernel⟩,
   ⟨{ live with tim.slewing := true, tim.servo := .acquiring, tim.good := 16 }, by decide +kernel⟩,
   ⟨{ live with tim.slewing := true }, by decide +kernel⟩,
   ⟨live, by decide +kernel⟩,
   ⟨live, by decide +kernel⟩,
   ⟨{ live with sys.inReset := true }, by decide +kernel⟩,
   ⟨live, 0, 0, 0, 0, 0, by decide +kernel⟩,
   ⟨{ stacked with net.boom0 := true }, 0, 0, 0, 0, 0, by decide +kernel⟩,
   ⟨stacked, {}, 0, 0, 0, ready_of (by decide +kernel), by decide +kernel⟩,
   ⟨live, {}, 0, 0, 0, 3, ready_of (by decide +kernel), by decide +kernel⟩,
   ⟨live, {}, 0, 999999999, 0, 2, ready_of (by decide +kernel), by decide +kernel⟩,
   ⟨stacked, {}, ready_of (by decide +kernel), by decide +kernel⟩,
   ⟨{ live with tim.servo := .free }, {}, 1000000000, ready_of (by decide +kernel), by decide +kernel⟩,
   ⟨{ live with tim.servo := .free }, {}, 999999999, ready_of (by decide +kernel), by decide +kernel⟩,
   ⟨live, {}, ready_of (by decide +kernel)⟩⟩

theorem witness_CruiseActs :
    (∃ (s : State), s.awake = true ∧ s.crs.st = .idle ∧ s.holds .cruise = false ∧ s.asks .cruise = false) ∧
    (∃ (s : State), (s.awake = false ∨ s.crs.st ≠ .idle ∨ s.holds .cruise = true ∨ s.asks .cruise = true)) ∧
    (∃ (s : State), (s.sys.inReset = true ∨ s.crs.st ≠ .slice)) ∧
    (∃ (s : State), s.sys.inReset = false ∧ s.crs.st = .slice) ∧
    (∃ (s : State) (p : Nat × Nat), let u := (s.softRepair p).1; 0 < s.crs.left p.1) ∧
    (∃ (s : State) (p : Nat × Nat), let u := (s.softRepair p).1; s.crs.left p.1 = 0) ∧
    (∃ (s : State) (p : Nat × Nat), 20 ≤ p.1 ∧ p.1 < 28 ∧ let k := ((p.1 - 20) * 256 + p.2) / 16; let u := s.rowLost p; (k ∈
     s.vlk.withdrawn ∨ k ∈ s.vlk.withdrawAtFree)) ∧
    (∃ (s : State) (p : Nat × Nat), 20 ≤ p.1 ∧ p.1 < 28 ∧ let k := ((p.1 - 20) * 256 + p.2) / 16; let u := s.rowLost p; k ∉
     s.vlk.withdrawn ∧ k ∉ s.vlk.withdrawAtFree ∧ (s.ctx k).st = .free) ∧
    (∃ (s : State) (p : Nat × Nat), 20 ≤ p.1 ∧ p.1 < 28 ∧ let k := ((p.1 - 20) * 256 + p.2) / 16; let u := s.rowLost p; k ∉
     s.vlk.withdrawn ∧ k ∉ s.vlk.withdrawAtFree ∧ (s.ctx k).st ≠ .free) ∧
    (∃ (s : State), s.sys.inReset = false ∧ s.crs.st = .slice) ∧
    (∃ (s : State), let u := s.sliceOver; s.crs.pausing = true) ∧
    (∃ (s : State), let u := s.sliceOver; s.crs.pausing = false) ∧
    (∃ (s : State), let u := s.sliceOver; s.crs.retesting = false ∧ s.crs.unit + 1 < s.roundUnits) ∧
    (∃ (s : State) (n : Nat) (l : List Nat), let u := s.sliceOver; (s.crs.retesting = true ∨ s.roundUnits ≤ s.crs.unit + 1) ∧
     s.crs.retest = n :: l) ∧
    (∃ (s : State), let u := s.sliceOver; (s.crs.retesting = true ∨ s.roundUnits ≤ s.crs.unit + 1) ∧ s.crs.retest = []) ∧
    (∃ (s : State) (c : Cmd), s.ready c 0x1301 ∧ s.crs.st = .slice) ∧
    (∃ (s : State) (c : Cmd), s.ready c 0x1301 ∧ s.crs.st = .idle) ∧
    (∃ (s : State) (c : Cmd), s.ready c 0x1301 ∧ s.crs.st ≠ .slice ∧ s.crs.st ≠ .idle) ∧
    (∃ (s : State) (c : Cmd), s.ready c 0x1302 ∧ s.crs.st = .paused) ∧
    (∃ (s : State) (c : Cmd), s.ready c 0x1302 ∧ s.crs.st ≠ .paused) ∧
    (∃ (s : State) (c : Cmd), s.ready c 0x1303 ∧ s.key.lc = .service ∧ s.anyContext = false) ∧
    (∃ (s : State) (c : Cmd), s.ready c 0x1303 ∧ s.key.lc ≠ .service) ∧
    (∃ (s : State) (c : Cmd), s.ready c 0x1303 ∧ s.key.lc = .service ∧ s.anyContext = true) ∧
    (∃ (s : State) (c : Cmd) (dst : Nat), s.ready c 0x1304 ∧ dstOk dst 256 = true) ∧
    (∃ (s : State) (c : Cmd) (dst : Nat), s.ready c 0x1304 ∧ dstOk dst 256 = false) ∧
    (∃ (k : Crs) (r : Nat × Nat), r ∈ k.fused) ∧
    (∃ (k : Crs) (r : Nat × Nat), r ∈ k.fuse.1.fused) ∧
    (∃ (k : Crs) (r : Nat × Nat), r ∈ k.fuse.1.soft) ∧
    (∃ (k : Crs) (b : Nat), k.fusedIn b ≤ 4) :=
  ⟨⟨{ live with crs.st := .idle, permits.grants := [{ id := 9, owner := .mramBulk, power := 2000 }] }, by decide +kernel⟩,
   ⟨State.reset, by decide +kernel⟩,
   ⟨{ live with sys.inReset := true }, by decide +kernel⟩,
   ⟨{ live with crs.st := .slice }, by decide +kernel⟩,
   ⟨live, (0, 0), by decide +kernel⟩,
   ⟨{ live with crs.soft := rows 8 (fun k => k) |>.map (fun p => (0, p.1 + 1)) }, (0, 0), by decide +kernel⟩,
   ⟨{ live with vlk.withdrawn := [0] }, (20, 0), by decide +kernel⟩,
   ⟨live, (20, 0), by decide +kernel⟩,
   ⟨live.modCtx 127 (fun x => { x with st := .link }), (27, 255), by decide +kernel⟩,
   ⟨{ live with crs.st := .slice }, by decide +kernel⟩,
   ⟨{ live with crs.pausing := true }, by decide +kernel⟩,
   ⟨live, by decide +kernel⟩,
   ⟨live, by decide +kernel⟩,
   ⟨{ live with crs.retesting := true, crs.retest := 0 :: ([]) }, 0, [], by decide +kernel⟩,
   ⟨{ live with crs.retesting := true }, by decide +kernel⟩,
   ⟨{ live with crs.st := .slice }, {}, ready_of (by decide +kernel), by decide +kernel⟩,
   ⟨{ live with crs.st := .idle }, {}, ready_of (by decide +kernel), by decide +kernel⟩,
   ⟨{ live with crs.st := .paused }, {}, ready_of (by decide +kernel), by decide +kernel⟩,
   ⟨{ live with crs.st := .paused }, {}, ready_of (by decide +kernel), by decide +kernel⟩,
   ⟨live, {}, ready_of (by decide +kernel), by decide +kernel⟩,
   ⟨{ live with key.lc := .service }, {}, ready_of (by decide +kernel), by decide +kernel⟩,
   ⟨live, {}, ready_of (by decide +kernel), by decide +kernel⟩,
   ⟨({ live with key.lc := .service } |>.modCtx 0 (fun x => { x with st := .link })), {}, ready_of (by decide +kernel),
     by decide +kernel⟩,
   ⟨live, {}, 0x800000, ready_of (by decide +kernel), by decide +kernel⟩,
   ⟨live, {}, 0, ready_of (by decide +kernel), by decide +kernel⟩,
   ⟨{ fused := [(0, 0)] }, (0, 0), by decide +kernel⟩,
   ⟨{ soft := [(0, 0)] }, (0, 0), by decide +kernel⟩,
   ⟨{ fused := [(0, 0), (0, 1), (0, 2), (0, 3)], soft := [(0, 9)] }, (0, 9), by decide +kernel⟩,
   ⟨{}, 0, by decide +kernel⟩⟩

end

/-! ### Ill-formed commands (one for each check) -/

/-- A register write without octets (`accessOk`). -/
theorem test_wf_access : Instr.wf (.registerWrite { addr := 0x40000000 }) = false := by decide
/-- A bus write past the 40-bit address space (`accessOk`). -/
theorem test_wf_access_top : Instr.wf (.registerWrite { addr := 0xFFFFFFFFFF, data := [1, 2] }) = false := by decide
/-- Bay 8 (`below`). -/
theorem test_wf_below : Instr.wf (.alarmLineTimeout 8) = false := by decide
/-- A diagnostic cause 0 (`within`). -/
theorem test_wf_within : Instr.wf (.sparDiagnostic 0 0 false) = false := by decide
/-- A descriptor's field of 33 bits (`u32`). -/
theorem test_wf_u32 : Instr.wf (.sysPermitRelease {} 4294967296) = false := by decide
/-- A stamp with 10^9 ns (`stampOk`). -/
theorem test_wf_stamp : Instr.wf (.publicationRx (.point 0 {} { stamp := { ns := 1000000000 } })) = false := by decide
/-- A code above 24 bits (`codeOk`). -/
theorem test_wf_code : Instr.wf (.scalerSample (({ v := 8388608 } : BayCodes) :: List.replicate 7 {})) = false := by decide
/-- Seven bays' codes (`samplesOk`). -/
theorem test_wf_samples : Instr.wf (.scalerSample (List.replicate 7 {})) = false := by decide
/-- A measurement of channel 32 (`measOk`). -/
theorem test_wf_meas : Instr.wf (.conductionRecompute [{ ch := 32 }]) = false := by decide
/-- The same commands with values in range. -/
theorem test_wf_ok : Instr.wf (.registerWrite { addr := 0xFFFFFFFFFE, data := [1, 2] }) = true ∧ Instr.wf (.alarmLineTimeout 7) = true
    ∧ Instr.wf (.sparDiagnostic 7 63 false) = true ∧ Instr.wf (.scalerSample (List.replicate 8 { v := -8388608 })) = true := by decide

/-! ### Opcodes (R515) -/

/-- No row of the table gives bits. -/
theorem test_decode_none : decodeTableWord 32 0x00000001 = none := rfl
/-- The opcodes of one command of each block, from the command tables of the block sections. -/
theorem test_posted : ((Instr.sysSleep {} 5).posted.map (·.2) = some 0x0003) ∧ ((Instr.cfgActivate {} 1).posted.map (·.2) = some 0x0104)
    ∧ ((Instr.vlkWeldClear {} 0 2).posted.map (·.2) = some 0x0507) ∧ ((Instr.keyLcAdvance {} 1).posted.map (·.2) = some 0x1104)
    ∧ ((Instr.wake 9 0).posted.map (·.2) = none) := by decide

/-! ### Words and dates -/

/-- Least significant octet first (R5). -/
theorem test_le : le 4 0x01020304 = [4, 3, 2, 1] := by decide
/-- CRC-32C of the nine digits '1' to '9', the check value of that polynomial (R341). -/
theorem test_crc32c : crc32c [49, 50, 51, 52, 53, 54, 55, 56, 57] = 0xE3069283#32 := by decide +kernel
/-- IEEE 754 binary64 (R103). -/
theorem test_f64 : f64 0xBFF8000000000000#64 = some (-3 / 2) := by decide +kernel
/-- 2024-02-29 was a Thursday, and the day after it is 1 March (R256). -/
theorem test_date : weekday (dateDay 2024 2 29) = 3 ∧ civil (dateDay 2024 2 29 + 1) = (2024, 3, 1) := by decide +kernel
/-- The last Sunday of March 2025 was the 30th (R256). -/
theorem test_dst_day : dstDay 2025 { month := 3, week := 5, weekday := 6 } = dateDay 2025 3 30 := by decide +kernel
/-- The pilot bands: 12 V is A, 9 V B, 6 V C, 3 V D, -12 V F (R160). -/
theorem test_bands : [12000, 9000, 6000, 3000, -12000].map (fun v => bandCode (bandOf ({} : BayCfg).bands v)) = [.a, .b, .c, .d, .f] := by
  decide +kernel

/-! ### Single steps -/

/-- An empty queue idles (assumption 1). -/
theorem test_idle : step State.reset = .next State.reset := rfl
/-- SYS_POWER_MODE to ACTIVE leaves FULL (R54). -/
theorem test_power_mode : ∃ t, exec (.sysPowerMode {} 3) live = .next t ∧ t.sys.pstate = .active := ⟨_, rfl, by decide +kernel⟩
/-- SYS_RESET with a context in use answers STATE and resets nothing (R71). -/
theorem test_reset_refused : ∃ t, exec (.sysReset {}) (live.modCtx 0 (fun x => { x with st := .plugged })) = .next t ∧ t.sys.swResetDue = false
    ∧ t.readMem (landing 0x800805) 1 = [2] := ⟨_, rfl, by decide +kernel⟩
/-- Pilot B at a bay in service: the session enters PLUGGED, then LINK (R130 and the worked example of spec/06). -/
theorem test_plug : ∃ t, exec (.pilotStateChange 0 9000 0 3) (live.modBay 0 (fun b => { b with inService := true, gen := .plus12 })) = .next t ∧ (t.ctx 0).st = .link := ⟨_, rfl, by decide +kernel⟩
/-- Two samples are fewer than the default filter count of 3 (R162). -/
theorem test_filter : ∃ t, exec (.pilotStateChange 0 9000 0 2) (live.modBay 0 (fun b => { b with inService := true, gen := .plus12 })) = .next t ∧ (t.ctx 0).st = .free := ⟨_, rfl, by decide +kernel⟩

end Sys2Proof.Machine
end

section
/-! SUPPORT. What `Keeps` says of a whole command and of a step, for every claim about what no step can undo. -/
namespace Sys2Proof.Machine

/-- Every command and event keeps what `Keeps` lists: the laws of the single meanings, put together. -/
theorem ResKeeps.exec (i : Instr) (s : State) : ResKeeps s (exec i s) :=
  match i with
  | .registerWrite a => .execRegisterWrite a
  | .porstNPulse lowUs straps coin => .execPorstNPulse lowUs straps coin
  | .railFault outNs coin mainsFail => .execRailFault outNs coin mainsFail
  | .clkFault permille us coin => .execClkFault permille us coin
  | .nfcLoss => .execNfcLoss
  | .x32Loss backup => .execX32Loss backup
  | .safeClockLoss => .execSafeClockLoss
  | .secWdt coin => .execSecWdt coin
  | .swReset coin => .execSwReset coin
  | .boot held env => .execBoot held env
  | .migrationBackground records => .execMigrationBackground records
  | .pcieImageBlock len img => .execPcieImageBlock len img
  | .sysPermitReq c power dur prio wait => .execSysPermitReq c power dur prio wait
  | .sysPermitRelease c handle => .execSysPermitRelease c handle
  | .sysSleep c timer => .execSysSleep c timer
  | .sysPowerMode c target => .execSysPowerMode c target
  | .sysReset c => .execSysReset c
  | .wake src bay => .execWake src bay
  | .doorbell value => .execDoorbell value
  | .powerFailWarning pfwN vaux afterNs post mainsFail => .execPowerFailWarning pfwN vaux afterNs post mainsFail
  | .permitWaitExpiry id => .execPermitWaitExpiry id
  | .permitExpiry id => .execPermitExpiry id
  | .cfgBankErase c bank => .execCfgBankErase c bank
  | .cfgBankWrite c bank off len img => .execCfgBankWrite c bank off len img
  | .cfgBankVerify c bank => .execCfgBankVerify c bank
  | .cfgActivate c bank => .execCfgActivate c bank
  | .cfgConfirm c => .execCfgConfirm c
  | .cfgRevert c => .execCfgRevert c
  | .cfgReverifyClear c m => .execCfgReverifyClear c m
  | .pointUpdate pt raw t bad => .execPointUpdate pt raw t bad
  | .timeoutSweep => .execTimeoutSweep
  | .cacheWriteback pt => .execCacheWriteback pt
  | .periodicPublication pt => .execPeriodicPublication pt
  | .publicationRx p => .execPublicationRx p
  | .scrubLine medium addr errs wrongAddr => .execScrubLine medium addr errs wrongAddr
  | .hstQPiWrite q value => .execHstQPiWrite q value
  | .ringEnable q value => .execRingEnable q value
  | .ringDisable q value => .execRingDisable q value
  | .ringDisableDone q => .execRingDisableDone q
  | .hstQBaseWrite q res value => .execHstQBaseWrite q res value
  | .hstQLog2sizeWrite q value => .execHstQLog2sizeWrite q value
  | .undefinedOpcode c block opcode => .execUndefinedOpcode c block opcode
  | .lndPtRead c list ids dst remote => .execLndPtRead c list ids dst remote
  | .lndPtWrite c pairs remote => .execLndPtWrite c pairs remote
  | .lndPtCfg c op remote => .execLndPtCfg c op remote
  | .lndSubOpen c first last off len => .execLndSubOpen c first last off len
  | .lndSubClose c handle => .execLndSubClose c handle
  | .hstApiOpen c loMajor loMinor hiMajor hiMinor => .execHstApiOpen c loMajor loMinor hiMajor hiMinor
  | .pilotStateChange bay high low samples => .execPilotStateChange bay high low samples
  | .pilotManualWrite bay value => .execPilotManualWrite bay value
  | .proximityChange bay mv => .execProximityChange bay mv
  | .linkUp k mac => .execLinkUp k mac
  | .linkLoss k => .execLinkLoss k
  | .tLinkExpiry k => .execTLinkExpiry k
  | .tNegExpiry k => .execTNegExpiry k
  | .tAuthExpiry k => .execTAuthExpiry k
  | .tLockExpiry k => .execTLockExpiry k
  | .tCableExpiry k => .execTCableExpiry k
  | .tPreExpiry k => .execTPreExpiry k
  | .tPdwaitExpiry k => .execTPdwaitExpiry k
  | .tRenegExpiry k => .execTRenegExpiry k
  | .tStopExpiry k => .execTStopExpiry k
  | .sdpRequest k tls => .execSdpRequest k tls
  | .tcpConnect k => .execTcpConnect k
  | .tlsHandshake k h => .execTlsHandshake k h
  | .supportedAppProtocolReq k len list => .execSupportedAppProtocolReq k len list
  | .v2gMessageRx k len m => .execV2gMessageRx k len m
  | .v2gMessageTimeout k => .execV2gMessageTimeout k
  | .contractCertVerify k cert => .execContractCertVerify k cert
  | .vlkAuthDecide c k reqId decision limWh limMin => .execVlkAuthDecide c k reqId decision limWh limMin
  | .vlkPreauth c bridged bay ident limWh limMin => .execVlkPreauth c bridged bay ident limWh limMin
  | .preauthExpiry bridged bay => .execPreauthExpiry bridged bay
  | .lockFeedback bay locked => .execLockFeedback bay locked
  | .prechargeComplete k => .execPrechargeComplete k
  | .contactorFeedback bay kon closed => .execContactorFeedback bay kon closed
  | .k1FeedbackTimeout k => .execK1FeedbackTimeout k
  | .durationLimitExpiry k => .execDurationLimitExpiry k
  | .weldCheckDone k closedAt100 => .execWeldCheckDone k closedAt100
  | .unplugWaitExpiry k => .execUnplugWaitExpiry k
  | .evqCiWrite value => .execEvqCiWrite value
  | .evqEnable value => .execEvqEnable value
  | .evqBaseWrite value => .execEvqBaseWrite value
  | .ctxReq f => .execCtxReq f
  | .tunnelData f mac => .execTunnelData f mac
  | .tunnelLinkUp f => .execTunnelLinkUp f
  | .tunnelLinkDown f => .execTunnelLinkDown f
  | .vlkBaySet c bay target => .execVlkBaySet c bay target
  | .vlkSessStop c k reason => .execVlkSessStop c k reason
  | .vlkSessLimit c k cap => .execVlkSessLimit c k cap
  | .vlkSessInfo c k => .execVlkSessInfo c k
  | .vlkWeldClear c bridged bay => .execVlkWeldClear c bridged bay
  | .greenphyPermitRetry bay => .execGreenphyPermitRetry bay
  | .cmSlacParmReq bay runId mac => .execCmSlacParmReq bay runId mac
  | .cmMnbcSoundInd bay runId announced attens => .execCmMnbcSoundInd bay runId announced attens
  | .ttEvseMatchMnbcExpiry bay => .execTtEvseMatchMnbcExpiry bay
  | .cmAttenCharRsp bay runId => .execCmAttenCharRsp bay runId
  | .cmValidateReq bay runId => .execCmValidateReq bay runId
  | .cmSlacMatchReq bay runId => .execCmSlacMatchReq bay runId
  | .vlkLinkInfo c k => .execVlkLinkInfo c k
  | .vlkCertRead c k dst size => .execVlkCertRead c k dst size
  | .vlkRootInstall c kind key wellFormed der => .execVlkRootInstall c kind key wellFormed der
  | .vlkRootRemove c index => .execVlkRootRemove c index
  | .yarderCycle moduleAmps us => .execYarderCycle moduleAmps us
  | .matrixSwitchDone node => .execMatrixSwitchDone node
  | .moduleReleaseTimeout node => .execModuleReleaseTimeout node
  | .moduleExcessRelease node => .execModuleExcessRelease node
  | .requestPeriodic => .execRequestPeriodic
  | .clientHoldExpiry => .execClientHoldExpiry
  | .clientLossHoldExpiry node => .execClientLossHoldExpiry node
  | .yrdNodeRead c node => .execYrdNodeRead c node
  | .yrdLimitSet c node limit => .execYrdLimitSet c node limit
  | .yrdClassSet c node cls gMin => .execYrdClassSet c node cls gMin
  | .yrdStorageSet c node mode socTgt setpoint => .execYrdStorageSet c node mode socTgt setpoint
  | .yrdExportSet c node watts => .execYrdExportSet c node watts
  | .yrdModuleService c node inService => .execYrdModuleService c node inService
  | .yrdSnapshot c dst => .execYrdSnapshot c dst
  | .scalerSample codes => .execScalerSample codes
  | .rangeToLow bay => .execRangeToLow bay
  | .channelLost bay ch => .execChannelLost bay ch
  | .channelRestored bay ch => .execChannelRestored bay ch
  | .xchkWindow bay => .execXchkWindow bay
  | .dspDeadline => .execDspDeadline
  | .tickCommit => .execTickCommit
  | .pulseTestWrite m value => .execPulseTestWrite m value
  | .sclCalRead c bay => .execSclCalRead c bay
  | .sclCalWrite c bay m v => .execSclCalWrite c bay m v
  | .sclFaultClear c bay clearMs => .execSclFaultClear c bay clearMs
  | .sclCapture c bay dst codes => .execSclCapture c bay dst codes
  | .leaseExpiry => .execLeaseExpiry
  | .startModeTimeout => .execStartModeTimeout
  | .tlyMsg c m => .execTlyMsg c m
  | .tlyRecRead c recno dst => .execTlyRecRead c recno dst
  | .tlyRecAck c first count => .execTlyRecAck c first count
  | .tlyRegSnapshot c dst => .execTlyRegSnapshot c dst
  | .tlyReadSigned c bay dst => .execTlyReadSigned c bay dst
  | .tlyProfileRead c ch first count dst => .execTlyProfileRead c ch first count dst
  | .tlySrRead c first count dst => .execTlySrRead c first count dst
  | .tlyCeilSet c watts => .execTlyCeilSet c watts
  | .tlyMdRead c => .execTlyMdRead c
  | .tamperEvent input first second backup => .execTamperEvent input first second backup
  | .tamperTransfer torn => .execTamperTransfer torn
  | .vbatLow backup => .execVbatLow backup
  | .blzLogRead c first count dst => .execBlzLogRead c first count dst
  | .blzTamperRead c dst => .execBlzTamperRead c dst
  | .blzTamperClear c mask => .execBlzTamperClear c mask
  | .blzLogRelease c m => .execBlzLogRelease c m
  | .imdHalfPeriod bay iInf residual tau ovr => .execImdHalfPeriod bay iInf residual tau ovr
  | .imdDriverStuck bay => .execImdDriverStuck bay
  | .earthCurrentTrip bay => .execEarthCurrentTrip bay
  | .efWarning bay => .execEfWarning bay
  | .alarmLineTimeout bay => .execAlarmLineTimeout bay
  | .imdSelftest c bay r1 r2 => .execImdSelftest c bay r1 r2
  | .imdTripTest c bay us => .execImdTripTest c bay us
  | .safetyInputDemand input opened => .execSafetyInputDemand input opened
  | .testPulse k readLow readHigh high cross => .execTestPulse k readLow readHigh high cross
  | .discrepancyTimeout pair => .execDiscrepancyTimeout pair
  | .tripAutoClear input => .execTripAutoClear input
  | .resetButtonRelease input ms clearMs => .execResetButtonRelease input ms clearMs
  | .soDarkPulse m readOk => .execSoDarkPulse m readOk
  | .sparDiagnostic cause detail pass => .execSparDiagnostic cause detail pass
  | .gateTest j pass => .execGateTest j pass
  | .gateTestOverdue j => .execGateTestOverdue j
  | .heartbeatLineTimeout => .execHeartbeatLineTimeout
  | .hingeDataRx f => .execHingeDataRx f
  | .hingeConnectRx f => .execHingeConnectRx f
  | .hingeConnectAckRx f => .execHingeConnectAckRx f
  | .hingeTimeout conn => .execHingeTimeout conn
  | .hingeSend conn pays => .execHingeSend conn pays
  | .hingeConnectSend conn => .execHingeConnectSend conn
  | .pwdSessionTimeout => .execPwdSessionTimeout
  | .lockoutExpiry => .execLockoutExpiry
  | .safPwdOpen c pwd => .execSafPwdOpen c pwd
  | .safPwdClose c => .execSafPwdClose c
  | .safParamRead c first count dst => .execSafParamRead c first count dst
  | .safParamSet c pairs => .execSafParamSet c pairs
  | .safParamCommit c => .execSafParamCommit c
  | .safParamConfirm c crc => .execSafParamConfirm c crc
  | .safPwdChange c pwd => .execSafPwdChange c pwd
  | .safPwdReset c m pwd => .execSafPwdReset c m pwd
  | .safLogRead c first count dst => .execSafLogRead c first count dst
  | .safLogArchive c m => .execSafLogArchive c m
  | .safTripReset c inputs sos clearMs => .execSafTripReset c inputs sos clearMs
  | .safHingeInfo c index => .execSafHingeInfo c index
  | .laneSample n instant => .execLaneSample n instant
  | .laneRegisterWrite off value => .execLaneRegisterWrite off value
  | .laneHold n hold => .execLaneHold n hold
  | .stateRst n => .execStateRst n
  | .pvyLaneRead c n sec => .execPvyLaneRead c n sec
  | .pvyFeClear c n => .execPvyFeClear c n
  | .chkChSet c ch on duty => .execChkChSet c ch on duty
  | .chkChClear c ch => .execChkChClear c ch
  | .chkChInfo c ch => .execChkChInfo c ch
  | .inrushEnd ch mA => .execInrushEnd ch mA
  | .channelShort ch mA mvDs => .execChannelShort ch mA mvDs
  | .channelOverload ch mA ms first2s => .execChannelOverload ch mA ms first2s
  | .channelThermal ch tj refTj => .execChannelThermal ch tj refTj
  | .thermalRelease ch tj refTj => .execThermalRelease ch tj refTj
  | .retryTimerExpiry ch => .execRetryTimerExpiry ch
  | .retryBudgetRefill ch => .execRetryBudgetRefill ch
  | .conductionRecompute meas => .execConductionRecompute meas
  | .currentSumShed meas => .execCurrentSumShed meas
  | .dutyZeroTimeout ch => .execDutyZeroTimeout ch
  | .openLoad ch mA ms => .execOpenLoad ch mA ms
  | .stuckOn ch near ms => .execStuckOn ch near ms
  | .supplyAnomaly vaux gndMv => .execSupplyAnomaly vaux gndMv
  | .supplyAnomalyEnd vaux gndMv => .execSupplyAnomalyEnd vaux gndMv
  | .skidlineFrameRx rx f => .execSkidlineFrameRx rx f
  | .ackSend start => .execAckSend start
  | .ackIntervalExpiry skip => .execAckIntervalExpiry skip
  | .skidlineTxSlot idle window slot sensed => .execSkidlineTxSlot idle window slot sensed
  | .frameLifetimeExpiry id => .execFrameLifetimeExpiry id
  | .alarmForced start => .execAlarmForced start
  | .routeBroadcast => .execRouteBroadcast
  | .pathSend => .execPathSend
  | .routeEntryExpiry node => .execRouteEntryExpiry node
  | .epochActivation => .execEpochActivation
  | .oldEpochExpiry => .execOldEpochExpiry
  | .sklSend c final cls payload => .execSklSend c final cls payload
  | .sklRxRead c count dst => .execSklRxRead c count dst
  | .sklNodeRead c node => .execSklNodeRead c node
  | .sklRekey c time => .execSklRekey c time
  | .detectionPing ant amp ph => .execDetectionPing ant amp ph
  | .nfcTransaction ant cards => .execNfcTransaction ant cards
  | .cardHoldExpiry => .execCardHoldExpiry
  | .tagSelect file => .execTagSelect file
  | .tagReadBinary page count => .execTagReadBinary page count
  | .tagUpdateBinary page data => .execTagUpdateBinary page data
  | .tagFieldLoss => .execTagFieldLoss
  | .tagNearResume => .execTagNearResume
  | .totalsPublish => .execTotalsPublish
  | .excerptCopy => .execExcerptCopy
  | .nfcPoll c ant cards => .execNfcPoll c ant cards
  | .nfcXchg c ant apdu resp dst => .execNfcXchg c ant apdu resp dst
  | .nfcRelease c ant => .execNfcRelease c ant
  | .nfcTagWrite c page data heldMs => .execNfcTagWrite c page data heldMs
  | .nfcTagRead c page count dst => .execNfcTagRead c page count dst
  | .railsUp => .execRailsUp
  | .brandRailFault panel rail mv => .execBrandRailFault panel rail mv
  | .railHoldExpiry => .execRailHoldExpiry
  | .panelFrame p => .execPanelFrame p
  | .brandPermitRetry panel => .execBrandPermitRetry panel
  | .legalRegionRefresh bay => .execLegalRegionRefresh bay
  | .brdRegionUpdate c p r mode dither off stride => .execBrdRegionUpdate c p r mode dither off stride
  | .brdRegionInfo c p r => .execBrdRegionInfo c p r
  | .brdPanelInit c p => .execBrdPanelInit c p
  | .brdRailClear c => .execBrdRailClear c
  | .keyMsg c m => .execKeyMsg c m
  | .keySlotInfo c slot => .execKeySlotInfo c slot
  | .keyPerso c auth index key wellFormed => .execKeyPerso c auth index key wellFormed
  | .keyLcAdvance c target => .execKeyLcAdvance c target
  | .keyAttest c challenge dst => .execKeyAttest c challenge dst
  | .keyChainSet c slot leafKey root size wellFormed => .execKeyChainSet c slot leafKey root size wellFormed
  | .keySign c slot digest => .execKeySign c slot digest
  | .boomTimeSync port t1 p2 p3 t4 utcOff leap => .execBoomTimeSync port t1 p2 p3 t4 utcOff leap
  | .stepApply => .execStepApply
  | .servoOffsetTimeout => .execServoOffsetTimeout
  | .holdoverLimit => .execHoldoverLimit
  | .leapSecond => .execLeapSecond
  | .rtcTempComp temp => .execRtcTempComp temp
  | .rtcSync => .execRtcSync
  | .timOffset c sec ns frac utcOff leap => .execTimOffset c sec ns frac utcOff leap
  | .timSet c sec ns => .execTimSet c sec ns
  | .timRead c => .execTimRead c
  | .cruiseSliceRequest => .execCruiseSliceRequest
  | .cruiseSliceEnd failRows => .execCruiseSliceEnd failRows
  | .sliceOverrun => .execSliceOverrun
  | .crsPause c => .execCrsPause c
  | .crsResume c => .execCrsResume c
  | .crsFuseRepair c => .execCrsFuseRepair c
  | .crsReport c dst => .execCrsReport c dst
  | .discoveryRound => .execDiscoveryRound
  | .discoveryFrameRx v => .execDiscoveryFrameRx v
  | .boomLinkChange port up => .execBoomLinkChange port up
  | .boomFrameUncorr => .execBoomFrameUncorr
  | .heartbeatSend => .execHeartbeatSend
  | .heartbeatRx hb => .execHeartbeatRx hb
  | .masterLost => .execMasterLost
  | .takeover => .execTakeover
  | .memberHoldExpiry => .execMemberHoldExpiry
  | .conflictHoldExpiry => .execConflictHoldExpiry
  | .mirrorRx f => .execMirrorRx f
  | .handoverTimeout => .execHandoverTimeout
  | .netPairSwitch c => .execNetPairSwitch c
  | .netRingRediscover c => .execNetRingRediscover c
  | .netPortModeWrite n value => .execNetPortModeWrite n value
  | .aonReset => .execAonReset
  | .netPortLinkChange n up speed => .execNetPortLinkChange n up speed
  | .nfcReferenceReturn => .execNfcReferenceReturn
  | .tagFieldSessionStart => .execTagFieldSessionStart
  | .slewEnd => .execSlewEnd

theorem Keeps.of_exec {i : Instr} {s t : State} (h : exec i s = .next t) : Keeps s t := by
  have k := ResKeeps.exec i s
  rwa [h] at k

/-- A step takes the front of the queue and keeps the rest of the machine. -/
theorem Keeps.of_step {s t : State} (h : step s = .next t) : Keeps { s with pending := s.pending.tail } t := by
  cases hp : s.pending with
  | nil =>
    rw [step, hp] at h
    cases h
    rw [List.tail_nil, ← hp]
    exact Keeps.refl s
  | cons i rest =>
    rw [step, hp] at h
    exact Keeps.of_exec h

end Sys2Proof.Machine
end

section
open Sys2Proof Sys2Proof.Machine

/-- Settles O4: memory changes by writes of octets and by what a reset or the enabling of a ring drops, both of which keep a table canonical
(`tabWf_tset`, `tabWf_filter`), and `Keeps` carries that through every command. -/
theorem memoryStaysCanonical : Obligations.MemoryStaysCanonical := fun _ _ hm hstep => (Keeps.of_step hstep).mem hm

/-- Settles O3: the tables of a reset machine are empty, so a row of one reads its default; the registers are evaluated. -/
theorem resetLeavesTheSpecifiedState : Obligations.ResetLeavesTheSpecifiedState := by
  refine ⟨⟨rfl, rfl, rfl, rfl, fun _ => ⟨rfl, rfl⟩, fun _ => rfl, fun _ => ⟨rfl, rfl⟩, fun _ => rfl, rfl, rfl, rfl⟩,
    ?registers, ?invariants⟩
  case registers => decide +kernel
  case invariants => exact ⟨rfl, Nat.le_refl 0, Nat.le_refl 0⟩

end

section
/-! SUPPORT. A write or a read on the bus by the part of the address space it names: the register pages, the General region, what
lies below Landing (R5, R6, R39, R97, R102, R516). -/
namespace Sys2Proof.Machine

/-! ### What a bus write comes to (R39, R82, R516) -/

/-- A write on the bus has an effect: the part answers, the side can issue it, the host's BARs map its address to
something, and it carries octets. -/
structure State.Accepts (s : State) (a : Access) : Prop where
  answers : s.closedOff = false
  issued : s.issues a.side = true
  mapped : a.side = .host → hostReaches a.addr = true ∧ barRest a.addr = false
  octets : a.data ≠ []

/-- In reset nothing answers. -/
theorem execRegisterWrite_closedOff {s : State} (a : Access) (h : s.closedOff = true) : execRegisterWrite a s = .next s := by
  simp [execRegisterWrite, h]

/-- A host's write that its BARs do not map, or map to nothing, is lost. -/
theorem execRegisterWrite_unmapped {s : State} {a : Access} (hs : a.side = .host)
    (h : hostReaches a.addr = false ∨ barRest a.addr = true) : execRegisterWrite a s = .next s := by
  rcases h with h | h <;> simp [execRegisterWrite, hs, h]

/-- What the bus does with a write that has an effect: the register window or memory. -/
theorem State.Accepts.exec_eq {s : State} {a : Access} (h : s.Accepts a) :
    execRegisterWrite a s =
      if 0x40000000 ≤ a.addr ∧ a.addr < 0x41000000 then
        if a.data.length ≠ 4 ∨ a.addr % 4 ≠ 0 then .next (s.send (.busError a))
        else if a.side = .host ∧ (a.addr - 0x40000000) / 0x10000 = 0x0B then .next s
        else .next (s.regWrite ((a.addr - 0x40000000) / 0x10000) (a.addr % 0x10000) (BitVec.ofNat 32 (unle a.data)))
      else .next (s.memWrite a) := by
  have h1 : (s.closedOff || a.data.isEmpty || !s.issues a.side) = false := by
    simp [h.answers, h.issued, h.octets]
  have h2 : (decide (a.side = .host) && (!hostReaches a.addr || barRest a.addr)) = false := by
    by_cases hs : a.side = .host
    · simp [h.mapped hs]
    · simp [hs]
  simp [execRegisterWrite, h1, h2]

/-- A write to the register window that is not four aligned octets. -/
theorem State.Accepts.exec_misaligned {s : State} {a : Access} (h : s.Accepts a) (h1 : 0x40000000 ≤ a.addr)
    (h2 : a.addr < 0x41000000) (h3 : a.data.length ≠ 4 ∨ a.addr % 4 ≠ 0) :
    execRegisterWrite a s = .next (s.send (.busError a)) := by
  rw [h.exec_eq, if_pos ⟨h1, h2⟩, if_pos h3]

/-- A write of four aligned octets to a block's register page. -/
theorem State.Accepts.exec_register {s : State} {a : Access} (h : s.Accepts a) {blk off : Nat} (hb : blk ≤ 20)
    (ho : off < 0x10000) (h4 : off % 4 = 0) (ha : a.addr = 0x40000000 + 0x10000 * blk + off) (hl : a.data.length = 4)
    (hh : a.side = .host → blk ≠ 0x0B) :
    execRegisterWrite a s = .next (s.regWrite blk off (BitVec.ofNat 32 (unle a.data))) := by
  have hd : (a.addr - 0x40000000) / 0x10000 = blk := by omega
  have hm : a.addr % 0x10000 = off := by omega
  rw [h.exec_eq, if_pos (by omega), if_neg (by omega), hd, hm, if_neg (fun x => hh x.1 x.2)]

/-- The SAF page is read-only to the host (R343). -/
theorem State.Accepts.exec_hostSaf {s : State} {a : Access} (h : s.Accepts a) (hs : a.side = .host)
    (ha : a.addr / 0x10000 = 0x400B) (h4 : a.addr % 4 = 0) (hl : a.data.length = 4) : execRegisterWrite a s = .next s := by
  rw [h.exec_eq, if_pos (by omega), if_neg (by omega), if_pos ⟨hs, by omega⟩]

/-- A write below the register window goes to memory. -/
theorem State.Accepts.exec_memory {s : State} {a : Access} (h : s.Accepts a) (ha : a.addr < 0x40000000) :
    execRegisterWrite a s = .next (s.memWrite a) := by
  rw [h.exec_eq, if_neg (by omega)]

/-! ### Registers (R5, R6) -/

/-- Every EVT register is an aligned word of its page. -/
theorem evtOffset_aligned : ∀ blk ≤ 20, ∀ off ∈ evtOffset blk, off % 4 = 0 := by decide

theorem State.regWrite_evt (s : State) {blk off : Nat} (h : evtOffset blk = some off) (v : Word) :
    s.regWrite blk off v = s.evtClear blk v := by
  simp [State.regWrite, h]

/-- The blocks whose pages hold no writable register but EVT. -/
def evtOnlyBlocks : List Nat := [0x02, 0x06, 0x08, 0x09, 0x0A, 0x0B, 0x0E, 0x10, 0x11, 0x12, 0x13]

theorem evtOnlyBlocks_le : ∀ blk ∈ evtOnlyBlocks, blk ≤ 20 := by decide

/-- Their pages ignore a write at every other offset. -/
theorem State.regWrite_readOnly (s : State) {blk off : Nat}
    (hb : blk ∈ evtOnlyBlocks) (h : evtOffset blk ≠ some off) (v : Word) :
    s.regWrite blk off v = s := by
  simp only [evtOnlyBlocks, List.mem_cons, List.not_mem_nil, or_false] at hb
  rcases hb with rfl | rfl | rfl | rfl | rfl | rfl | rfl | rfl | rfl | rfl | rfl <;> exact if_neg h

/-- A write of an EVT register clears the bits that are 1 in what is written. -/
@[simp] theorem State.evt_evtClear_self (s : State) (blk : Nat) (v : Word) :
    tget 0 (s.evtClear blk v).evt blk = tget 0 s.evt blk &&& ~~~ v := tget_tset_self 0 _ _ _

/-- A write of an EVT register leaves every other block's events. -/
theorem State.evt_evtClear_ne (s : State) {blk b : Nat} (v : Word) (h : b ≠ blk) :
    tget 0 (s.evtClear blk v).evt b = tget 0 s.evt b := tget_tset_ne 0 _ _ h

/-- A write to a page whose only writable register is EVT, at any other offset. -/
theorem State.Accepts.exec_readOnly {s : State} {a : Access} (h : s.Accepts a) {blk : Nat}
    (hb : blk ∈ evtOnlyBlocks) (hl : a.data.length = 4)
    (h4 : a.addr % 4 = 0) (ha : a.addr / 0x10000 = 0x4000 + blk) (he : evtOffset blk ≠ some (a.addr % 0x10000)) :
    execRegisterWrite a s = .next s := by
  have hle : blk ≤ 20 := evtOnlyBlocks_le blk hb
  by_cases hs : a.side = .host ∧ blk = 0x0B
  · exact h.exec_hostSaf hs.1 (by omega) h4 hl
  · rw [h.exec_register (off := a.addr % 0x10000) hle (by omega) (by omega) (by omega) hl (fun x y => hs ⟨x, y⟩),
      s.regWrite_readOnly hb he]

/-! ### Memory (R97, R102) -/

/-- The Landing offset of an address in Landing names that address again. -/
theorem landing_sub {a : Nat} (h : landingBase ≤ a) : landing (a - landingBase) = a := Nat.add_sub_cancel' h

/-- The General region is open to software and to the host. -/
theorem State.writable_general (s : State) (sd : Side) {a : Nat} (h1 : landing generalLo ≤ a) (h2 : a < landing generalHi) :
    s.writable sd a = true := by
  simp [State.writable, h1, h2]

/-- Nothing below Landing can be written. -/
theorem State.writable_below (s : State) (sd : Side) {a : Nat} (h : a < landingBase) : s.writable sd a = false := by
  have hb : ∀ b, landingBase ≤ b → ¬ b ≤ a := fun b hb => by omega
  have hg : ¬ landing generalLo ≤ a := hb _ (by decide)
  have hm : ¬ 0x22240000 ≤ a := hb _ (by decide)
  have hl : ¬ landingBase ≤ a := Nat.not_le.2 h
  have hd : ¬ 0x0800000000 ≤ a := hb _ (by decide)
  have hk : ¬ 0x0BF8000000 ≤ a := hb _ (by decide)
  simp only [State.writable, State.dramMapped, hg, hl, hm, hd, hk, decide_false, Bool.false_and, Bool.and_false, Bool.or_false]

/-- A write that lies in the General region and covers no poisoned line in part stores its octets. -/
theorem State.memWrite_general {s : State} {a : Access} (hd : a.data ≠ []) (h1 : landing generalLo ≤ a.addr)
    (h2 : a.addr + a.data.length ≤ landing generalHi) (hp : s.lnd.poison = []) :
    s.memWrite a = s.writeGen (a.addr - landingBase) a.data := by
  have hl := List.length_pos_iff.2 hd
  have hw : (List.range a.data.length).all (fun i => s.writable a.side (a.addr + i)) = true :=
    List.all_eq_true.2 fun i hi => s.writable_general a.side (by omega) (by have := List.mem_range.1 hi; omega)
  have hn : s.partLines (a.addr - landingBase) a.data.length = [] := by simp [State.partLines, hp]
  simp only [State.memWrite, hw, hn]
  rw [if_neg (by decide), if_pos (by omega)]

/-- A write whose first octet no side may write returns a bus error and has no effect. -/
theorem State.memWrite_busError {s : State} {a : Access} (hd : a.data ≠ []) (h : s.writable a.side a.addr = false) :
    s.memWrite a = s.send (.busError a) := by
  have hw : (List.range a.data.length).all (fun i => s.writable a.side (a.addr + i)) = false :=
    List.all_eq_false.2 ⟨0, List.mem_range.2 (List.length_pos_iff.2 hd), by simp [h]⟩
  simp [State.memWrite, hw]

/-- What a write inside the General region does on the bus. -/
theorem State.Accepts.exec_general {s : State} {a : Access} (h : s.Accepts a) (h1 : landing generalLo ≤ a.addr)
    (h2 : a.addr + a.data.length ≤ landing generalHi) (hp : s.lnd.poison = []) :
    execRegisterWrite a s = .next (s.writeGen (a.addr - landingBase) a.data) := by
  have hg : landing generalHi ≤ 0x40000000 := by decide
  have hl := List.length_pos_iff.2 h.octets
  rw [h.exec_memory (by omega), State.memWrite_general h.octets h1 h2 hp]

/-- A write below Landing returns a bus error. -/
theorem State.Accepts.exec_below {s : State} {a : Access} (h : s.Accepts a) (ha : a.addr < landingBase) :
    execRegisterWrite a s = .next (s.send (.busError a)) := by
  have hb : landingBase ≤ 0x40000000 := by decide
  rw [h.exec_memory (by omega), State.memWrite_busError h.octets (s.writable_below a.side ha)]

/-! ### Reads (R5) -/

/-- A read of the register window answers by its width and alignment alone. -/
theorem State.busRead_register {s : State} (sd : Side) {addr : Nat} (n : Nat) (h : s.closedOff = false) (h1 : 0x40000000 ≤ addr)
    (h2 : addr < 0x40150000) :
    s.busRead sd addr n = if n ≠ 4 ∨ addr % 4 ≠ 0 then .busError
      else .octets (le 4 (s.regRead ((addr - 0x40000000) / 0x10000) (addr % 0x10000)).toNat) := by
  have hr : hostReaches addr = true := by
    simp only [hostReaches, Bool.or_eq_true, Bool.and_eq_true, decide_eq_true_eq]
    omega
  have hb : barRest addr = false := by
    simp only [barRest, Bool.or_eq_false_iff, Bool.and_eq_false_iff, decide_eq_false_iff_not]
    omega
  have hw : (decide (0x40000000 ≤ addr) && decide (addr < 0x41000000)) = true := by
    simp only [Bool.and_eq_true, decide_eq_true_eq]
    omega
  simp [State.busRead, h, hr, hb, hw]

end Sys2Proof.Machine
end

section
open Sys2Proof Sys2Proof.Machine

/-- Settles O21: each clause is the lemma above about the part of the bus that the address names. -/
theorem registerAndMemoryWritesAct : Obligations.RegisterAndMemoryWritesAct := by
  intro s a
  refine ⟨execRegisterWrite_closedOff a, execRegisterWrite_unmapped, fun h1 h2 h3 h4 => ?_, fun n h h1 h2 => ?_⟩
  · have h : s.Accepts a := ⟨h1, h2, h3, h4⟩
    refine ⟨h.exec_misaligned, fun blk off he ho ha hb hh hl => ?_, fun _ hb hl h4 ha he => h.exec_readOnly hb hl h4 ha he,
      fun ha hl => ?_, fun ha hl => ?_, fun hlo hhi hp => ?_, h.exec_below⟩
    · have hw := h.exec_register hb ho (evtOffset_aligned blk hb off he) ha hl hh
      rw [s.regWrite_evt he] at hw
      exact ⟨_, hw, s.evt_evtClear_self _ _, fun b hne => s.evt_evtClear_ne _ hne, rfl⟩
    · exact h.exec_register (blk := 0) (off := 0x10) (by decide) (by decide) (by decide) ha hl (fun _ => by decide)
    · exact h.exec_register (blk := 0) (off := 0x04) (by decide) (by decide) (by decide) ha hl (fun _ => by decide)
    · have hbase : landing (a.addr - landingBase) = a.addr := landing_sub (Nat.le_of_add_right_le hlo)
      refine ⟨_, h.exec_general hlo hhi hp, ?_, fun x hx => ?_, rfl⟩
      · simpa only [hbase] using s.readMem_writeGen (a.addr - landingBase) a.data
      · rw [s.byteAt_writeGen, hbase, if_neg (by omega)]
  · rw [s.busRead_register a.side n h h1 h2]
    exact ⟨fun hn => if_pos hn, fun hn h4 => if_neg (by omega)⟩

end

section
/-! SUPPORT. The CFG commands, outcome by outcome (R74, R83, R84, R91 to R95, R299). -/
namespace Sys2Proof.Machine

/-! ### What starting a command leaves (R116) -/

@[simp] theorem State.key_startNext (s : State) (q : Nat) : (s.startNext q).key = s.key := rfl

@[simp] theorem State.sys_startNext (s : State) (q : Nat) : (s.startNext q).sys = s.sys := rfl

@[simp] theorem State.cfg_startNext (s : State) (q : Nat) : (s.startNext q).cfg = s.cfg := rfl

@[simp] theorem State.bank_startNext (s : State) (q n : Nat) : (s.startNext q).bank n = s.bank n := rfl

@[simp] theorem State.bankRuns_startNext (s : State) (q n : Nat) : (s.startNext q).bankRuns n = s.bankRuns n := rfl

@[simp] theorem State.verifyBank_startNext (s : State) (q n : Nat) : (s.startNext q).verifyBank n = s.verifyBank n := rfl

@[simp] theorem State.headerFail_startNext (s : State) (q : Nat) (h : ImageHeader) : (s.startNext q).headerFail h = s.headerFail h := rfl

@[simp] theorem State.metroDigest_startNext (s : State) (q : Nat) : (s.startNext q).metroDigest = s.metroDigest := rfl

@[simp] theorem State.changeFull_startNext (s : State) (q : Nat) : (s.startNext q).changeFull = s.changeFull := rfl

@[simp] theorem State.checkMsg_startNext (s : State) (q : Nat) (m : KeyMsg) (kinds : List Nat) (lcs : List Lc) :
    (s.startNext q).checkMsg m kinds lcs = s.checkMsg m kinds lcs := rfl

/-! ### Where a CFG command runs (R93, R95) -/

/-- CFG commands are carried out: the life cycle is FIELD or SERVICE and no power failure runs. -/
structure State.CfgOpen (s : State) : Prop where
  lc : s.key.lc = .field ∨ s.key.lc = .service
  powered : s.sys.pfail = false

/-- A command's answer depends on its body only at the state in which its ring has started it. -/
theorem State.runCmd_congr {s : State} {c : Cmd} {op : Nat} {body body' : State → Answer}
    (h : body (s.startNext (queueOf (op / 256) c.side)) = body' (s.startNext (queueOf (op / 256) c.side))) :
    s.runCmd c op body = s.runCmd c op body' := by
  simp only [State.runCmd, h]

/-- A ready command whose answer keeps its effect although it fails (R120). -/
theorem State.runCmd_kept {s : State} {c : Cmd} {op : Nat} {body : State → Answer} {st : Status} {detail : Nat} {f : State → State}
    (h : s.ready c op) (hb : body (s.startNext (queueOf (op / 256) c.side)) =
      .done { st := f (s.startNext (queueOf (op / 256) c.side)), status := st, detail := detail, keep := true }) :
    s.runCmd c op body = s.doneAs c op st detail [] f := by
  rw [State.runCmd_ready h, hb]
  simp [State.answer, State.doneAs]

/-- Outside FIELD and SERVICE a CFG command completes with LOCKED. -/
theorem State.runCfg_locked {s : State} {c : Cmd} {op : Nat} {body : State → Answer} (h : s.ready c op)
    (hlc : s.key.lc ≠ .field ∧ s.key.lc ≠ .service) : s.runCfg c op body = s.failAs c op .locked :=
  State.runCmd_fail h rfl (by simp [hlc])

/-- During a power failure a CFG command completes with PERMIT. -/
theorem State.runCfg_permit {s : State} {c : Cmd} {op : Nat} {body : State → Answer} (h : s.ready c op)
    (hlc : s.key.lc = .field ∨ s.key.lc = .service) (hp : s.sys.pfail = true) : s.runCfg c op body = s.failAs c op .permit := by
  refine State.runCmd_fail h rfl ?_
  rcases hlc with hlc | hlc <;> simp [hlc, hp]

section
variable {s : State} {c : Cmd} {op : Nat} {body : State → Answer} (ho : s.CfgOpen)
include ho

/-- Where CFG commands are carried out, only the body's own checks stand. -/
theorem State.CfgOpen.runCfg_eq : s.runCfg c op body = s.runCmd c op body := by
  refine State.runCmd_congr ?_
  rcases ho.lc with hlc | hlc <;> simp [hlc, ho.powered]

/-- The body succeeds. -/
theorem State.CfgOpen.okay (h : s.ready c op) {f : State → State} {d : List Byte}
    (hb : body (s.startNext (queueOf (op / 256) c.side)) = Machine.okay (f (s.startNext (queueOf (op / 256) c.side))) d) :
    s.runCfg c op body = s.okAs c op d f :=
  ho.runCfg_eq.trans (State.runCmd_okay h hb)

/-- The body refuses. -/
theorem State.CfgOpen.fail (h : s.ready c op) {st : Status} {detail : Nat} (hst : statusGood st = false)
    (hb : body (s.startNext (queueOf (op / 256) c.side)) = Machine.fail (s.startNext (queueOf (op / 256) c.side)) st detail) :
    s.runCfg c op body = s.failAs c op st detail :=
  ho.runCfg_eq.trans (State.runCmd_fail h hst hb)

/-- The body fails and its effect stands. -/
theorem State.CfgOpen.kept (h : s.ready c op) {st : Status} {detail : Nat} {f : State → State}
    (hb : body (s.startNext (queueOf (op / 256) c.side)) =
      .done { st := f (s.startNext (queueOf (op / 256) c.side)), status := st, detail := detail, keep := true }) :
    s.runCfg c op body = s.doneAs c op st detail [] f :=
  ho.runCfg_eq.trans (State.runCmd_kept h hb)

end

/-- Block 1's commands are the seven CFG commands: each runs through `runCfg`. -/
theorem exec_posted_cfg {i : Instr} {c : Cmd} {op : Nat} (s : State) (h : i.posted = some (c, op)) (hop : op / 256 = 1) :
    ∃ body, exec i s = .next (s.runCfg c op body) := by
  cases i
  case cfgBankErase => cases h; exact ⟨_, rfl⟩
  case cfgBankWrite => cases h; exact ⟨_, rfl⟩
  case cfgBankVerify => cases h; exact ⟨_, rfl⟩
  case cfgActivate => cases h; exact ⟨_, rfl⟩
  case cfgConfirm => cases h; exact ⟨_, rfl⟩
  case cfgRevert => cases h; exact ⟨_, rfl⟩
  case cfgReverifyClear => cases h; exact ⟨_, rfl⟩
  all_goals cases h <;> exact absurd hop (by decide)

/-! ### What a verification leaves in its bank (R94, R95) -/

/-- A bank that verifies has a header that passes. -/
theorem State.headerFail_of_verifyBank {s : State} {n : Nat} (hv : s.verifyBank n = none) :
    s.headerFail (s.bank n).image.hdr = none := by
  cases hh : s.headerFail (s.bank n).image.hdr with
  | none => rfl
  | some e => simp [State.verifyBank, hh] at hv

theorem State.checkedBank_passed {s : State} {n : Nat} (hv : s.verifyBank n = none) :
    s.checkedBank n = s.modBank n (fun b => { b with verified := true, ver := (s.bank n).image.hdr.imageVer }) := by
  simp [State.checkedBank, hv, State.headerFail_of_verifyBank hv]

theorem State.checkedBank_failed {s : State} {n : Nat} {x : Status × Nat} (hv : s.verifyBank n = some x) :
    s.checkedBank n = s.modBank n (fun b => { b with
      verified := false, ver := if (s.headerFail (s.bank n).image.hdr).isNone then (s.bank n).image.hdr.imageVer else 0 }) := by
  simp [State.checkedBank, hv]

/-! ### What clearing REVERIFY does (R91) -/

@[simp] theorem State.cfg_storeCtr (s : State) (m : KeyMsg) : (s.storeCtr m).cfg = s.cfg := State.cfg_setEvt ..

@[simp] theorem State.cfg_metroSign (s : State) : s.metroSign.2.cfg = s.cfg := by
  unfold State.metroSign
  split <;> rfl

/-- A legal-log entry leaves the images and the boot control record alone. -/
@[simp] theorem State.cfg_legalChange (s : State) (kind : Nat) (body : List Byte) : (s.legalChange kind body).cfg = s.cfg := by
  simp [State.legalChange, State.legal]

/-- A legal-log entry takes the next number (R294). -/
@[simp] theorem State.last_legalChange (s : State) (kind : Nat) (body : List Byte) :
    (s.legalChange kind body).blz.last = s.blz.last + 1 := by
  simp [State.legalChange, State.legal]

theorem State.cfg_reverified (s : State) (m : KeyMsg) (d : Nat) :
    (s.reverified m d).cfg = { s.cfg with verifiedMetro := d, reverify := false, lastReverify := false } := by
  simp [State.reverified]

theorem State.last_reverified (s : State) (m : KeyMsg) (d : Nat) : (s.reverified m d).blz.last = s.blz.last + 1 := by
  simp [State.reverified, State.storeCtr_blz]

/-! ### Outcomes where CFG commands are carried out -/

namespace State.CfgOpen

variable {s : State} {c : Cmd} {bank : Nat} (ho : s.CfgOpen)
include ho

/-! #### A bank number above 1 -/

theorem erase_range (h : s.ready c 0x0101) (hb : 1 < bank) :
    exec (.cfgBankErase c bank) s = .next (s.failAs c 0x0101 .range) :=
  congrArg _ (ho.fail h rfl (if_pos hb))

theorem write_range {off len : Nat} {img : Image} (h : s.ready c 0x0102) (hb : 1 < bank) :
    exec (.cfgBankWrite c bank off len img) s = .next (s.failAs c 0x0102 .range) :=
  congrArg _ (ho.fail h rfl (if_pos hb))

theorem verify_range (h : s.ready c 0x0103) (hb : 1 < bank) :
    exec (.cfgBankVerify c bank) s = .next (s.failAs c 0x0103 .range) :=
  congrArg _ (ho.fail h rfl (if_pos hb))

theorem activate_range (h : s.ready c 0x0104) (hb : 1 < bank) :
    exec (.cfgActivate c bank) s = .next (s.failAs c 0x0104 .range) :=
  congrArg _ (ho.fail h rfl (if_pos hb))

/-! #### CFG_BANK_ERASE -/

theorem erase_state (h : s.ready c 0x0101) (hb : bank ≤ 1) (hs : s.bankRuns bank = true ∨ s.cfg.trial = true) :
    exec (.cfgBankErase c bank) s = .next (s.failAs c 0x0101 .state) :=
  congrArg _ (ho.fail h rfl (by simp [Nat.not_lt.2 hb, hs]))

theorem erase_okay (h : s.ready c 0x0101) (hb : bank ≤ 1) (hr : s.bankRuns bank = false) (ht : s.cfg.trial = false) :
    exec (.cfgBankErase c bank) s =
      .next (s.okAs c 0x0101 [] (fun u => u.modBank bank (fun b => { b with pieces := [], verified := false }))) :=
  congrArg _ (ho.okay h (by simp [Nat.not_lt.2 hb, hr, ht]))

/-! #### CFG_BANK_WRITE -/

section
variable {off len : Nat} {img : Image} (h : s.ready c 0x0102) (hb : bank ≤ 1)
include h hb

theorem write_state (hs : s.bankRuns bank = true ∨ s.cfg.trial = true) :
    exec (.cfgBankWrite c bank off len img) s = .next (s.failAs c 0x0102 .state) :=
  congrArg _ (ho.fail h rfl (by simp [Nat.not_lt.2 hb, hs]))

theorem write_badChunk (hr : s.bankRuns bank = false) (ht : s.cfg.trial = false)
    (hx : len = 0 ∨ 65536 < len ∨ off % 4096 ≠ 0 ∨ 64 * 1024 * 1024 < off + len) :
    exec (.cfgBankWrite c bank off len img) s = .next (s.failAs c 0x0102 .range) :=
  congrArg _ (ho.fail h rfl (by simp [Nat.not_lt.2 hb, hr, ht, or_assoc, hx]))

theorem write_okay (hr : s.bankRuns bank = false) (ht : s.cfg.trial = false) (h1 : 1 ≤ len) (h2 : len ≤ 65536)
    (h3 : off % 4096 = 0) (h4 : off + len ≤ 64 * 1024 * 1024) :
    exec (.cfgBankWrite c bank off len img) s = .next (s.okAs c 0x0102 [] (fun u => u.modBank bank (fun b =>
      { b with pieces := { off := off, len := len, img := img } :: b.pieces, verified := false }))) :=
  congrArg _ (ho.okay h (by simp [Nat.not_lt.2 hb, hr, ht, Nat.ne_of_gt h1, Nat.not_lt.2 h2, h3, Nat.not_lt.2 h4]))

end

/-! #### CFG_BANK_VERIFY -/

section
variable (h : s.ready c 0x0103) (hb : bank ≤ 1)
include h hb

theorem verify_state (hr : s.bankRuns bank = true) : exec (.cfgBankVerify c bank) s = .next (s.failAs c 0x0103 .state) :=
  congrArg _ (ho.fail h rfl (by simp [Nat.not_lt.2 hb, hr]))

theorem verify_okay (hr : s.bankRuns bank = false) (hv : s.verifyBank bank = none) {hd : ImageHeader}
    (hh : (s.bank bank).image.hdr = hd) :
    exec (.cfgBankVerify c bank) s = .next (s.okAs c 0x0103
      (le 4 hd.imageVer ++ le 4 hd.arbCtr ++ le 1 (if hd.metroDigest = s.cfg.verifiedMetro then 1 else 0))
      (fun u => u.modBank bank (fun b => { b with verified := true, ver := hd.imageVer }))) :=
  congrArg _ (ho.okay h (by simp [Nat.not_lt.2 hb, hr, hv, hh, Bool.toNat, Bool.cond_decide, State.checkedBank_passed]))

theorem verify_failed (hr : s.bankRuns bank = false) {e : Status} {d : Nat} (hv : s.verifyBank bank = some (e, d)) :
    exec (.cfgBankVerify c bank) s = .next (s.doneAs c 0x0103 e d [] (fun u => u.modBank bank (fun b => { b with
      verified := false, ver := if (s.headerFail (s.bank bank).image.hdr).isNone then (s.bank bank).image.hdr.imageVer else 0 }))) :=
  congrArg _ (ho.kept h (by simp [Nat.not_lt.2 hb, hr, hv, State.checkedBank_failed (s := s.startNext _) hv]))

end

/-! #### CFG_ACTIVATE -/

theorem activate_state (h : s.ready c 0x0104) (hb : bank ≤ 1) (hv : (s.bank bank).verified = false) :
    exec (.cfgActivate c bank) s = .next (s.failAs c 0x0104 .state) :=
  congrArg _ (ho.fail h rfl (by simp [Nat.not_lt.2 hb, hv]))

theorem activate_okay (h : s.ready c 0x0104) (hb : bank ≤ 1) (hv : (s.bank bank).verified = true) :
    exec (.cfgActivate c bank) s = .next (s.okAs c 0x0104 [] (fun u =>
      { u with cfg := { u.cfg with prefBank := bank, trial := true, triesLeft := 3 } })) :=
  congrArg _ (ho.okay h (by simp [Nat.not_lt.2 hb, hv]))

/-! #### CFG_CONFIRM -/

theorem confirm_state (h : s.ready c 0x0105) (hx : s.cfg.runTrial = false ∨ s.cfg.migPending = true) :
    exec (.cfgConfirm c) s = .next (s.failAs c 0x0105 .state) :=
  congrArg _ (ho.fail h rfl (by simp [hx]))

theorem confirm_okay (h : s.ready c 0x0105) (ht : s.cfg.runTrial = true) (hm : s.cfg.migPending = false) :
    exec (.cfgConfirm c) s = .next (s.okAs c 0x0105 [] (fun u => { u with cfg := { u.cfg with
      trial := false, runTrial := false, arbMin := max u.cfg.arbMin ((s.cfg.runHdr.map (fun h => h.arbCtr)).getD 0) } })) := by
  refine congrArg _ (ho.okay h ?_)
  cases hh : s.cfg.runHdr <;> simp [ht, hm, hh]

/-! #### CFG_REVERT -/

theorem revert_state (h : s.ready c 0x0106) (ht : s.cfg.trial = false) :
    exec (.cfgRevert c) s = .next (s.failAs c 0x0106 .state) :=
  congrArg _ (ho.fail h rfl (by simp [ht]))

theorem revert_okay (h : s.ready c 0x0106) (ht : s.cfg.trial = true) (hv : s.verifyBank (1 - s.cfg.prefBank) = none) :
    exec (.cfgRevert c) s = .next (s.okAs c 0x0106 [] (fun u =>
      { u with cfg := { u.cfg with prefBank := 1 - u.cfg.prefBank, trial := false, runTrial := false } })) :=
  congrArg _ (ho.okay h (by simp [ht, hv]))

theorem revert_fail (h : s.ready c 0x0106) (ht : s.cfg.trial = true) {e : Status} {d : Nat}
    (hv : s.verifyBank (1 - s.cfg.prefBank) = some (e, d)) :
    exec (.cfgRevert c) s = .next (s.failAs c 0x0106 (if e = .version then .version else .auth) d) :=
  congrArg _ (ho.fail h (by split <;> rfl) (by simp [ht, hv]))

/-! #### CFG_REVERIFY_CLEAR -/

section
variable {m : KeyMsg} (h : s.ready c 0x0107)
include h

theorem reverify_state (hx : s.cfg.reverify = false ∨ s.cfg.trial = true) :
    exec (.cfgReverifyClear c m) s = .next (s.failAs c 0x0107 .state) :=
  congrArg _ (ho.fail h rfl (by simp [hx]))

variable (hr : s.cfg.reverify = true) (ht : s.cfg.trial = false)
include hr ht

theorem reverify_rejected {e : Status} (hm : s.checkMsg m [16] [.field, .service] = some e) :
    exec (.cfgReverifyClear c m) s = .next (s.doneAs c 0x0107 e 0 [] (fun u => u.setEvt 0x11 1)) :=
  congrArg _ (ho.kept h (by simp [hr, ht, hm, msgRej]))

variable (hm : s.checkMsg m [16] [.field, .service] = none)
include hm

theorem reverify_otherDigest (hd : m.digest ≠ s.metroDigest) :
    exec (.cfgReverifyClear c m) s = .next (s.doneAs c 0x0107 .range 9 [] (fun u => u.setEvt 0x11 1)) :=
  congrArg _ (ho.kept h (by simp [hr, ht, hm, hd, msgRej]))

theorem reverify_logFull (hd : m.digest = s.metroDigest) (hl : s.changeFull = true) :
    exec (.cfgReverifyClear c m) s = .next (s.doneAs c 0x0107 .logfull 0 [] (fun u => u.setEvt 0x09 5)) :=
  congrArg _ (ho.kept h (by simp [hr, ht, hm, hd, hl, logFull]))

theorem reverify_okay (hd : m.digest = s.metroDigest) (hl : s.changeFull = false) :
    exec (.cfgReverifyClear c m) s = .next (s.okAs c 0x0107 [] (fun u => u.reverified m s.metroDigest)) :=
  congrArg _ (ho.okay h (by simp [hr, ht, hm, hd, hl]))

end

end State.CfgOpen

end Sys2Proof.Machine
end

section
open Sys2Proof Sys2Proof.Machine

/-- Settles O16: the guard of `runCfg` for every CFG command, then each command's outcome by the check that decides it. -/
theorem cfgCommandsComplete : Obligations.CfgCommandsComplete := by
  refine ⟨fun i c op s hi hop h => ?guard, fun s c hlc hp => ?outcomes, fun s c hlc hp => ?refusals,
    fun s m d => ⟨s.cfg_reverified m d, fun _ => s.last_reverified m d⟩⟩
  case guard =>
    obtain ⟨body, hx⟩ := exec_posted_cfg s hi hop
    exact ⟨fun hlc => hx.trans (congrArg _ (State.runCfg_locked h hlc)),
      fun hlc hp => hx.trans (congrArg _ (State.runCfg_permit h hlc hp))⟩
  case outcomes =>
    have ho : s.CfgOpen := ⟨hlc, hp⟩
    exact ⟨fun _ _ _ _ hb => ⟨fun h => ho.erase_range h hb, fun h => ho.write_range h hb, fun h => ho.verify_range h hb,
        fun h => ho.activate_range h hb⟩,
      fun _ h => ho.erase_okay h,
      fun _ _ _ _ h hb hr ht => ⟨ho.write_okay h hb hr ht, ho.write_badChunk h hb hr ht⟩,
      fun _ h => ho.verify_state h, fun _ _ h hb hr hv hd => ho.verify_okay h hb hr hv hd, fun _ _ _ h hb hr hv => ho.verify_failed h hb hr hv,
      fun _ h => ho.activate_okay h, ho.confirm_okay, ho.revert_okay, fun _ _ h ht => ho.revert_fail h ht,
      fun _ h hr ht => ⟨fun _ => ho.reverify_rejected h hr ht, fun hm => ⟨ho.reverify_otherDigest h hr ht hm,
        ho.reverify_logFull h hr ht hm, ho.reverify_okay h hr ht hm⟩⟩⟩
  case refusals =>
    have ho : s.CfgOpen := ⟨hlc, hp⟩
    exact ⟨fun _ h => ho.erase_state h, fun _ _ _ _ h => ho.write_state h, fun _ h => ho.activate_state h, ho.confirm_state,
      ho.revert_state, fun _ h => ho.reverify_state h⟩

end

section
/-! SUPPORT. The YRD commands, outcome by outcome (R219). -/
namespace Sys2Proof

/-! ### What a YRD command takes for a node (R219) -/

/-- A node's static limit in its own unit: 0.1 A for an OUTLET, W for any other. -/
def NodeCfg.staticLimit (k : NodeCfg) : Nat := if k.typ = .outlet then k.iMax else k.pMax

/-- YRD_CLASS_SET takes the class and the guaranteed minimum. -/
def NodeCfg.TakesClass (k : NodeCfg) (cls gMin : Nat) : Prop :=
  (k.typ = .outlet ∨ k.typ = .storage) ∧ cls ≤ 7 ∧ gMin ≤ k.pMax

/-- YRD_STORAGE_SET takes the mode, the target and the setpoint. -/
def NodeCfg.TakesStorage (k : NodeCfg) (mode soc : Nat) (sp : Int) : Prop :=
  k.typ = .storage ∧ mode ≤ 2 ∧ soc ≤ 100 ∧ -(k.pMax : Int) ≤ sp ∧ sp ≤ (k.pRev : Int)

/-- YRD_CLASS_SET's check, as the command makes it. -/
theorem NodeCfg.not_takesClass_iff {k : NodeCfg} {cls gMin : Nat} :
    (!(k.typ = .outlet || k.typ = .storage) || 7 < cls || k.pMax < gMin) = true ↔ ¬ k.TakesClass cls gMin := by
  simp only [NodeCfg.TakesClass, Bool.or_eq_true, Bool.not_eq_true', Bool.or_eq_false_iff, decide_eq_true_eq, decide_eq_false_iff_not,
    Classical.not_and_iff_not_or_not, not_or, Nat.not_le, or_assoc]

/-- YRD_STORAGE_SET's check, as the command makes it. -/
theorem NodeCfg.not_takesStorage_iff {k : NodeCfg} {mode soc : Nat} {sp : Int} :
    (k.typ ≠ .storage || 2 < mode || 100 < soc || sp < -(k.pMax : Int) || (k.pRev : Int) < sp) = true ↔
      ¬ k.TakesStorage mode soc sp := by
  simp only [NodeCfg.TakesStorage, Bool.or_eq_true, decide_eq_true_eq, ne_eq, Classical.not_and_iff_not_or_not, Nat.not_le, Int.not_le,
    or_assoc]

/-- A check of two conditions refuses where one of them holds. -/
theorem or_decide_eq_true {p q : Prop} [Decidable p] [Decidable q] : (decide p || decide q) = true ↔ p ∨ q := by
  simp only [Bool.or_eq_true, decide_eq_true_eq]

/-- The storage mode of a mode number in range, in the order of its numbers. -/
theorem storMode_eq {mode : Nat} (h : mode ≤ 2) :
    (if mode = 1 then StorMode.selfUse else if mode = 2 then .fixed else .peakShave) =
      if mode = 0 then .peakShave else if mode = 1 then .selfUse else .fixed :=
  match mode, h with
  | 0, _ => rfl
  | 1, _ => rfl
  | 2, _ => rfl

end Sys2Proof

namespace Sys2Proof.Machine

/-! ### What starting a command leaves of Yarder (R116) -/

@[simp] theorem State.img_startNext (s : State) (q : Nat) : (s.startNext q).img = s.img := rfl

@[simp] theorem State.allocates_startNext (s : State) (q : Nat) : (s.startNext q).allocates = s.allocates := rfl

@[simp] theorem State.outIn_startNext (s : State) (q n : Nat) : (s.startNext q).outIn n = s.outIn n := rfl

@[simp] theorem State.yHead_startNext (s : State) (q n : Nat) : (s.startNext q).yHead n = s.yHead n := rfl

@[simp] theorem State.yNodes_startNext (s : State) (q : Nat) : (s.startNext q).yNodes = s.yNodes := rfl

/-! ### Where a YRD command runs (R15, R219) -/

/-- On a device that does not allocate a YRD command completes with STATE. -/
theorem State.runYrd_state {s : State} {c : Cmd} {op n : Nat} {body : State → Answer} (h : s.ready c op)
    (ha : s.allocates = false) : s.runYrd c op n body = s.failAs c op .state :=
  State.runCmd_fail h rfl (if_pos (by simp only [State.allocates_startNext, ha, Bool.not_false]))

/-- For a node beyond the tree a YRD command completes with RANGE. -/
theorem State.runYrd_range {s : State} {c : Cmd} {op n : Nat} {body : State → Answer} (h : s.ready c op)
    (ha : s.allocates = true) (hn : s.img.yarder.count ≤ n) : s.runYrd c op n body = s.failAs c op .range :=
  State.runCmd_fail h rfl (by simp only [State.allocates_startNext, State.img_startNext, ha, hn, Bool.not_true, Bool.false_eq_true, if_false, if_true])

/-- A YRD command on a node is carried out: the device allocates and the node is one of its tree. -/
structure State.YrdOpen (s : State) (n : Nat) : Prop where
  allocates : s.allocates = true
  inTree : n < s.img.yarder.count

section
variable {s : State} {c : Cmd} {op n : Nat} {body : State → Answer} (ho : s.YrdOpen n)
include ho

/-- Where a YRD command is carried out, only the body's own checks stand. -/
theorem State.YrdOpen.runYrd_eq : s.runYrd c op n body = s.runCmd c op body :=
  State.runCmd_congr (by
    simp only [State.allocates_startNext, State.img_startNext, ho.allocates, Nat.not_le.2 ho.inTree, Bool.not_true, Bool.false_eq_true, if_false])

/-- The body succeeds. -/
theorem State.YrdOpen.okay (h : s.ready c op) {f : State → State} {d : List Byte}
    (hb : body (s.startNext (queueOf (op / 256) c.side)) = Machine.okay (f (s.startNext (queueOf (op / 256) c.side))) d) :
    s.runYrd c op n body = s.okAs c op d f :=
  ho.runYrd_eq.trans (State.runCmd_okay h hb)

/-- The body refuses. -/
theorem State.YrdOpen.fail (h : s.ready c op) {st : Status} {detail : Nat} (hst : statusGood st = false)
    (hb : body (s.startNext (queueOf (op / 256) c.side)) = Machine.fail (s.startNext (queueOf (op / 256) c.side)) st detail) :
    s.runYrd c op n body = s.failAs c op st detail :=
  ho.runYrd_eq.trans (State.runCmd_fail h hst hb)

end

/-- Block 6's commands are the seven YRD commands: each runs through `runYrd`. -/
theorem exec_posted_yrd {i : Instr} {c : Cmd} {op : Nat} (s : State) (h : i.posted = some (c, op)) (hop : op / 256 = 6) :
    ∃ n body, exec i s = .next (s.runYrd c op n body) := by
  cases i
  case yrdNodeRead => cases h; exact ⟨_, _, rfl⟩
  case yrdLimitSet => cases h; exact ⟨_, _, rfl⟩
  case yrdClassSet => cases h; exact ⟨_, _, rfl⟩
  case yrdStorageSet => cases h; exact ⟨_, _, rfl⟩
  case yrdExportSet => cases h; exact ⟨_, _, rfl⟩
  case yrdModuleService => cases h; exact ⟨_, _, rfl⟩
  case yrdSnapshot => cases h; exact ⟨_, _, rfl⟩
  all_goals cases h <;> exact absurd hop (by decide)

/-! ### Outcomes where a YRD command is carried out -/

namespace State.YrdOpen

variable {s : State} {c : Cmd} {n : Nat} (ho : s.YrdOpen n)
include ho

/-! #### YRD_NODE_READ -/

theorem nodeRead_okay (h : s.ready c 0x0601) :
    exec (.yrdNodeRead c n) s = .next (s.okAs c 0x0601 (s.yHead n ++ le 1 (s.node n).bound) id) :=
  congrArg _ (ho.okay h rfl)

/-! #### YRD_LIMIT_SET -/

theorem limitSet_range {l : Word} (h : s.ready c 0x0602)
    (hl : (s.cNode n).typ = .module ∨ (s.cNode n).typ = .pv ∨ (l ≠ 0xFFFFFFFF ∧ (s.cNode n).staticLimit < l.toNat)) :
    exec (.yrdLimitSet c n l) s = .next (s.failAs c 0x0602 .range) := by
  refine congrArg _ (ho.fail h rfl ?_)
  by_cases ht : (s.cNode n).typ = .module ∨ (s.cNode n).typ = .pv
  · exact if_pos (or_decide_eq_true.2 ht)
  · obtain ⟨hne, hlt⟩ := (or_assoc.2 hl).resolve_left ht
    exact (if_neg (mt or_decide_eq_true.1 ht)).trans ((if_neg hne).trans (if_pos hlt))

theorem limitSet_okay {l : Word} (h : s.ready c 0x0602) (hm : (s.cNode n).typ ≠ .module) (hp : (s.cNode n).typ ≠ .pv)
    (hl : l = 0xFFFFFFFF ∨ l.toNat ≤ (s.cNode n).staticLimit) :
    exec (.yrdLimitSet c n l) s = .next (s.okAs c 0x0602 [] (fun u =>
      u.setNode n { u.node n with overLim := if l = 0xFFFFFFFF then none else some l.toNat })) := by
  refine congrArg _ (ho.okay h ((if_neg (mt or_decide_eq_true.1 (not_or.2 ⟨hm, hp⟩))).trans ?_))
  by_cases hr : l = 0xFFFFFFFF
  · simp only [if_pos hr]; rfl
  · simp only [if_neg hr]
    exact if_neg (Nat.not_lt.2 (hl.resolve_left hr))

/-! #### YRD_CLASS_SET -/

theorem classSet_okay {cls gMin : Nat} (h : s.ready c 0x0603) (ht : (s.cNode n).TakesClass cls gMin) :
    exec (.yrdClassSet c n cls gMin) s =
      .next (s.okAs c 0x0603 [] (fun u => u.setNode n { u.node n with cls := some cls, gMin := some gMin })) :=
  congrArg _ (ho.okay h (if_neg (mt NodeCfg.not_takesClass_iff.1 (not_not_intro ht))))

theorem classSet_range {cls gMin : Nat} (h : s.ready c 0x0603) (ht : ¬ (s.cNode n).TakesClass cls gMin) :
    exec (.yrdClassSet c n cls gMin) s = .next (s.failAs c 0x0603 .range) :=
  congrArg _ (ho.fail h rfl (if_pos (NodeCfg.not_takesClass_iff.2 ht)))

/-! #### YRD_STORAGE_SET -/

theorem storageSet_okay {mode soc : Nat} {sp : Int} (h : s.ready c 0x0604) (ht : (s.cNode n).TakesStorage mode soc sp) :
    exec (.yrdStorageSet c n mode soc sp) s = .next (s.okAs c 0x0604 [] (fun u => u.setNode n { u.node n with
      mode := if mode = 0 then .peakShave else if mode = 1 then .selfUse else .fixed, socTgt := some soc, setpoint := sp })) := by
  have ⟨_, hmode, _⟩ := ht
  refine congrArg _ (ho.okay h ((if_neg (mt NodeCfg.not_takesStorage_iff.1 (not_not_intro ht))).trans ?_))
  simp only [storMode_eq hmode]
  rfl

theorem storageSet_range {mode soc : Nat} {sp : Int} (h : s.ready c 0x0604) (ht : ¬ (s.cNode n).TakesStorage mode soc sp) :
    exec (.yrdStorageSet c n mode soc sp) s = .next (s.failAs c 0x0604 .range) :=
  congrArg _ (ho.fail h rfl (if_pos (NodeCfg.not_takesStorage_iff.2 ht)))

/-! #### YRD_EXPORT_SET -/

theorem exportSet_range {w : Nat} (h : s.ready c 0x0605) (hw : (s.cNode n).typ ≠ .outlet ∨ (s.cNode n).pMax < w) :
    exec (.yrdExportSet c n w) s = .next (s.failAs c 0x0605 .range) :=
  congrArg _ (ho.fail h rfl (if_pos (or_decide_eq_true.2 hw)))

section
variable {w : Nat} (hw : ¬ ((s.cNode n).typ ≠ .outlet ∨ (s.cNode n).pMax < w))
include hw

theorem exportSet_okay (h : s.ready c 0x0605) (he : (s.outIn n).exp = true) :
    exec (.yrdExportSet c n w) s = .next (s.okAs c 0x0605 [] (fun u => u.setNode n { u.node n with expSet := w })) :=
  congrArg _ (ho.okay h ((if_neg (mt or_decide_eq_true.1 hw)).trans (if_neg (by simp only [State.outIn_startNext, he, Bool.not_true, Bool.false_eq_true, not_false_eq_true]))))

theorem exportSet_state (h : s.ready c 0x0605) (he : (s.outIn n).exp = false) :
    exec (.yrdExportSet c n w) s = .next (s.failAs c 0x0605 .state) :=
  congrArg _ (ho.fail h rfl ((if_neg (mt or_decide_eq_true.1 hw)).trans (if_pos (by simp only [State.outIn_startNext, he, Bool.not_false]))))

end

/-! #### YRD_MODULE_SERVICE -/

theorem moduleService_range {b : Nat} (h : s.ready c 0x0606) (hb : (s.cNode n).typ ≠ .module ∨ 1 < b) :
    exec (.yrdModuleService c n b) s = .next (s.failAs c 0x0606 .range) :=
  congrArg _ (ho.fail h rfl (if_pos (or_decide_eq_true.2 hb)))

theorem moduleService_out (h : s.ready c 0x0606) (ht : (s.cNode n).typ = .module) :
    exec (.yrdModuleService c n 0) s =
      .next (s.okAs c 0x0606 [] (fun u => u.setNode n { u.node n with oos := true, swFault := false })) :=
  congrArg _ (ho.okay h (if_neg (mt or_decide_eq_true.1 (not_or.2 ⟨not_not_intro ht, by decide⟩))))

theorem moduleService_in (h : s.ready c 0x0606) (ht : (s.cNode n).typ = .module) :
    exec (.yrdModuleService c n 1) s = .next (s.okAs c 0x0606 [] (fun u => u.setNode n
      (if (s.node n).swFault = true ∨ (s.node n).sw = .unassigned then
        { u.node n with oos := false, swFault := false, sw := .unassigned, outlet := none }
      else { u.node n with oos := false }))) := by
  refine congrArg _ (ho.okay h ((if_neg (mt or_decide_eq_true.1 (not_or.2 ⟨not_not_intro ht, by decide⟩))).trans ((if_pos rfl).trans ?_)))
  simp only [State.modNode, Bool.or_eq_true, decide_eq_true_eq]
  rfl

end State.YrdOpen

/-! #### YRD_SNAPSHOT, which names no node -/

section
variable {s : State} {c : Cmd} {dst : Nat} (ho : s.YrdOpen 0) (h : s.ready c 0x0607)
include ho h

theorem State.YrdOpen.snapshot_okay (hd : dstOk dst (32 * s.img.yarder.count) = true) :
    exec (.yrdSnapshot c dst) s = .next (s.okAs c 0x0607 [] (fun u =>
      u.writeGen dst (s.yNodes.foldl (fun l n => l ++ s.yHead n) []))) :=
  congrArg _ (ho.okay h (by
    simp only [State.img_startNext, State.yNodes_startNext, State.yHead_startNext, hd, Bool.not_true, Bool.false_eq_true, if_false]))

theorem State.YrdOpen.snapshot_range (hd : dstOk dst (32 * s.img.yarder.count) = false) :
    exec (.yrdSnapshot c dst) s = .next (s.failAs c 0x0607 .range) :=
  congrArg _ (ho.fail h rfl (by simp only [State.img_startNext, hd, Bool.not_false, if_true]))

end

end Sys2Proof.Machine
end

section
open Sys2Proof Sys2Proof.Machine

/-- Settles O30: the guard of `runYrd` for a node beyond the tree and for a device that does not allocate, then each
command's outcome by the check that decides it. -/
theorem yarderCommandsComplete : Obligations.YarderCommandsComplete := by
  refine ⟨fun s c n ha => ⟨fun hn => ?beyond, fun hn => ?inTree, fun dst h hpos => ?snapshot⟩,
    fun i c op s hi hop h ha => ?idle⟩
  case beyond =>
    exact ⟨fun h => congrArg _ (State.runYrd_range h ha hn), fun h _ => congrArg _ (State.runYrd_range h ha hn),
      fun h _ _ => congrArg _ (State.runYrd_range h ha hn), fun h _ _ _ => congrArg _ (State.runYrd_range h ha hn),
      fun h _ => congrArg _ (State.runYrd_range h ha hn), fun h _ => congrArg _ (State.runYrd_range h ha hn)⟩
  case inTree =>
    have ho : s.YrdOpen n := ⟨ha, hn⟩
    refine ⟨ho.nodeRead_okay, fun l h => ⟨ho.limitSet_range h, ho.limitSet_okay h⟩, fun cls gMin h => ?_, fun mode soc sp h => ?_,
      fun w h => ?_, fun b h => ho.moduleService_range h, fun h ht => ⟨ho.moduleService_out h ht, ho.moduleService_in h ht⟩⟩
    · split
      next ht => exact ho.classSet_okay h ht
      next ht => exact ho.classSet_range h ht
    · split
      next ht => exact ho.storageSet_okay h ht
      next ht => exact ho.storageSet_range h ht
    · split
      next hw => exact ho.exportSet_range h hw
      next hw =>
        split
        next he => exact ho.exportSet_okay hw h he
        next he => exact ho.exportSet_state hw h (eq_false_of_ne_true he)
  case snapshot =>
    have ho : s.YrdOpen 0 := ⟨ha, hpos⟩
    split
    next hd => exact ho.snapshot_okay h hd
    next hd => exact ho.snapshot_range h (eq_false_of_ne_true hd)
  case idle =>
    obtain ⟨_, _, hx⟩ := exec_posted_yrd s hi hop
    exact hx.trans (congrArg _ (State.runYrd_state h ha))

end

section
/-! SUPPORT. What a tick and a pulse output hand on (R237, R242, R243). -/
namespace Sys2Proof.Machine

/-- Whole microjoules are the quotient towards zero (R237). -/
theorem wholeUJ_eq_tdiv (e : Int) : wholeUJ e = e.tdiv uJden := by
  unfold wholeUJ
  split
  next h => rw [Int.natCast_ediv, Int.toNat_of_nonneg h, Int.tdiv_eq_ediv_of_nonneg h]
  next h => rw [Int.natCast_ediv, Int.toNat_of_nonneg (by omega), ← Int.tdiv_eq_ediv_of_nonneg (by omega), Int.neg_tdiv, Int.neg_neg]

/-- What the whole microjoules leave of a sum is less than one of them (R237). -/
theorem natAbs_sub_wholeUJ_lt (e : Int) : (e - wholeUJ e * uJden).natAbs < uJden := by
  have hr : e - wholeUJ e * uJden = e.tmod uJden := by rw [wholeUJ_eq_tdiv, Int.tmod_def, Int.mul_comm]
  rw [hr, Int.natAbs_tmod]
  exact Nat.mod_lt _ (by decide)

/-- Spilling moves pulses from the accumulator to the backlog one for one, up to the backlog's limit (R242, R244). -/
theorem spill_conserves (p : Pulse) (h : p.backlog ≤ 0xFFFFFFFF) :
    (spill p).acc + kWh * (spill p).backlog = p.acc + kWh * p.backlog ∧ (spill p).backlog ≤ 0xFFFFFFFF ∧
      ((spill p).acc < kWh ∨ (spill p).backlog = 0xFFFFFFFF) := by
  simp only [spill, kWh]
  omega

/-- Feeding adds the energy's pulses to what the output holds (R242). -/
theorem feed_conserves (c : PulseCfg) (p : Pulse) (uJ : Nat) (h : p.backlog ≤ 0xFFFFFFFF) :
    (feed c p uJ).acc + kWh * (feed c p uJ).backlog = p.acc + kWh * p.backlog + uJ * c.const ∧ (feed c p uJ).backlog ≤ 0xFFFFFFFF ∧
      ((feed c p uJ).acc < kWh ∨ (feed c p uJ).backlog = 0xFFFFFFFF) := by
  obtain ⟨hsum, hlimit, hspilt⟩ := spill_conserves { p with acc := p.acc + uJ * c.const } h
  exact ⟨hsum.trans (Nat.add_right_comm ..), hlimit, hspilt⟩

/-- A tick takes at most its rate out of the backlog (R243). -/
theorem backlog_sub_emit (p : Pulse) : p.backlog - (emit p).backlog = min p.backlog (if p.test then 200 else 4) :=
  Nat.sub_sub_self (Nat.min_le_left ..)

end Sys2Proof.Machine
end

section
open Sys2Proof Sys2Proof.Machine

/-- Settles O37: a tick's whole microjoules and its remainder make up its sum, pulses leave the accumulator for the backlog one for one,
and `emit` takes its pulses from the backlog. -/
theorem handedOnEnergyIsConserved : Obligations.HandedOnEnergyIsConserved := by
  refine ⟨fun i b hc => ?handed, fun i b hc => ?creeping, fun c p e h => feed_conserves c p e h, fun p => ?emitted⟩
  case handed =>
    have hrest := natAbs_sub_wholeUJ_lt b.eSum
    simp only [closeTick, hc, Bool.false_eq_true, if_false]
    refine ⟨?_, hrest, by omega⟩
    rw [Int.toNat_sub_toNat_neg]
    omega
  case creeping => simp [closeTick, hc]
  case emitted =>
    have htaken := backlog_sub_emit p
    exact ⟨htaken ▸ Nat.min_le_right .., rfl, Nat.sub_le .., by rw [htaken]; rfl⟩

end

section
/-! SUPPORT. What a fold over the bays leaves alone, and what it changes once. -/
namespace Sys2Proof.Machine

/-- While `I` holds, a view of the state that each step of a fold leaves alone is left alone by the fold. -/
theorem foldl_keeps_while {σ α β : Type} {f : σ → α → σ} (I : σ → Prop) (v : σ → β) {l : List α} {s : σ} (hs : I s)
    (hI : ∀ a y, I a → I (f a y)) (hv : ∀ a, ∀ y ∈ l, I a → v (f a y) = v a) : v (l.foldl f s) = v s := by
  induction l generalizing s with
  | nil => rfl
  | cons y l ih =>
    obtain ⟨hy, hl⟩ := List.forall_mem_cons.1 (fun y hy a => hv a y hy)
    exact (ih (hI s y hs) (fun a z hz => hl z hz a)).trans (hy s hs)

/-- A view of the state that each step of a fold leaves alone is left alone by the fold. -/
theorem foldl_keeps {σ α β : Type} (v : σ → β) {f : σ → α → σ} (hf : ∀ a x, v (f a x) = v a) (l : List α) (s : σ) :
    v (l.foldl f s) = v s :=
  foldl_keeps_while (fun _ => True) v trivial (fun _ _ _ => trivial) fun a y _ _ => hf a y

/-- A fold over distinct elements: what a view `v` of the state shows is changed at `x` alone, while `I` holds all along. -/
theorem foldl_once {σ α β : Type} {f : σ → α → σ} (I : σ → Prop) (v : σ → β) {x : α} {l : List α} {s : σ} {c : β} (hl : l.Nodup) (hm : x ∈ l)
    (hs : I s) (hI : ∀ a y, I a → I (f a y)) (hne : ∀ a y, I a → y ≠ x → v (f a y) = v a) (hx : ∀ a, I a → v a = v s → v (f a x) = c) :
    v (l.foldl f s) = c := by
  induction l generalizing s with
  | nil => exact absurd hm List.not_mem_nil
  | cons y r ih =>
    obtain ⟨hy, hr⟩ := List.nodup_cons.1 hl
    rcases List.mem_cons.1 hm with rfl | hm
    · exact (foldl_keeps_while I v (hI s x hs) hI fun a z hz ha => hne a z ha fun h => hy (h ▸ hz)).trans (hx s hs rfl)
    · have hvs := hne s y hs fun h => hy (h ▸ hm)
      exact ih hr hm (hI s y hs) fun a ha hv => hx a ha (hv.trans hvs)

end Sys2Proof.Machine
end

section
/-! SUPPORT. What the end of a session leaves of the measuring path: Scaler, the settings, the IMDs but for their reference voltage, and
the events of the IMD. -/
namespace Sys2Proof.Machine

/-- What a session's end leaves alone: Scaler, the settings, the IMD's event bits, and each bay's IMD but for its reference voltage. -/
structure Gauges where
  scl : Scl
  img : ImageContent
  imdEvt : Word
  imd : Nat → ImdBay

def State.gauges (s : State) : Gauges where
  scl := s.scl
  img := s.img
  imdEvt := tget 0 s.evt 0x0A
  imd m := { s.imdB m with uRef := 0 }

section
variable (s : State)

/-- A change of other blocks leaves the measuring path alone. -/
@[simp] theorem State.gauges_upd {t : State} {x_sys x_permits x_cfg x_net x_lnd x_hst x_vlk x_yrd x_tly x_blz x_saf x_pvy x_chk x_skl x_nfc x_brd
    x_key x_tim x_crs x_elog x_eseq x_elost x_eSec x_eCount x_mem x_sent x_fresh x_pending} :
    State.gauges ⟨x_sys, x_permits, x_cfg, t.img, x_net, x_lnd, x_hst, x_vlk, x_yrd, t.scl, x_tly, x_blz, t.imd, x_saf, x_pvy, x_chk, x_skl, x_nfc,
      x_brd, x_key, x_tim, x_crs, t.evt, x_elog, x_eseq, x_elost, x_eSec, x_eCount, x_mem, x_sent, x_fresh, x_pending⟩ = t.gauges := rfl

@[simp] theorem State.gauges_setEvt (blk bit : Nat) (h : (0x0A : Nat) ≠ blk := by decide) : (s.setEvt blk bit).gauges = s.gauges := by
  simp only [State.gauges, State.scl_setEvt, State.img_setEvt, State.imdB, State.imd_setEvt, State.evt_setEvt_ne s blk bit h]

@[simp] theorem State.gauges_setEvtIf (b : Bool) (blk bit : Nat) (h : (0x0A : Nat) ≠ blk := by decide) :
    (s.setEvtIf b blk bit).gauges = s.gauges := by
  unfold State.setEvtIf
  split
  · exact s.gauges_setEvt blk bit h
  · rfl

@[simp] theorem State.gauges_send (o : Out) : (s.send o).gauges = s.gauges := rfl
@[simp] theorem State.gauges_writeGen (off : Nat) (l : List Byte) : (s.writeGen off l).gauges = s.gauges := rfl
@[simp] theorem State.gauges_modBay (n : Nat) (f : Bay → Bay) : (s.modBay n f).gauges = s.gauges := rfl
@[simp] theorem State.gauges_setBay (n : Nat) (x : Bay) : (s.setBay n x).gauges = s.gauges := rfl
@[simp] theorem State.gauges_modCtx (n : Nat) (f : Ctx → Ctx) : (s.modCtx n f).gauges = s.gauges := rfl
@[simp] theorem State.gauges_setCtx (n : Nat) (x : Ctx) : (s.setCtx n x).gauges = s.gauges := rfl
@[simp] theorem State.gauges_setSlot (n : Nat) (x : KeySlot) : (s.setSlot n x).gauges = s.gauges := rfl
@[simp] theorem State.gauges_setRcd (n : Nat) (x : Rec) : (s.setRcd n x).gauges = s.gauges := rfl
@[simp] theorem State.gauges_modRcd (n : Nat) (f : Rec → Rec) : (s.modRcd n f).gauges = s.gauges := rfl
@[simp] theorem State.gauges_modGate (n : Nat) (f : Gate → Gate) : (s.modGate n f).gauges = s.gauges := rfl
@[simp] theorem State.gauges_modChan (n : Nat) (f : Chan → Chan) : (s.modChan n f).gauges = s.gauges := rfl
@[simp] theorem State.gauges_setConn (n : Nat) (x : Hinge) : (s.setConn n x).gauges = s.gauges := rfl
@[simp] theorem State.gauges_setPanel (n : Nat) (x : Panel) : (s.setPanel n x).gauges = s.gauges := rfl
@[simp] theorem State.gauges_modPanel (n : Nat) (f : Panel → Panel) : (s.modPanel n f).gauges = s.gauges := rfl
@[simp] theorem State.gauges_setRegion (p r : Nat) (x : Region) : (s.setRegion p r x).gauges = s.gauges := rfl
@[simp] theorem State.gauges_release (o : PermitOwner) : (s.release o).gauges = s.gauges := rfl
@[simp] theorem State.gauges_present (o : PermitOwner) (a b c d e : Nat) : (s.present o a b c d e).gauges = s.gauges := rfl

/-- An IMD's reference voltage is no part of it. -/
theorem State.gauges_modImdB_uRef (n u : Nat) : (s.modImdB n (fun i => { i with uRef := u })).gauges = s.gauges := by
  have h : ∀ m, ({ (s.modImdB n (fun i => { i with uRef := u })).imdB m with uRef := 0 } : ImdBay) = { s.imdB m with uRef := 0 } := by
    intro m
    by_cases hm : m = n
    · rw [hm, State.imdB_modImdB]
    · rw [State.imdB_modImdB_ne _ _ _ _ hm]
  exact congrArg (Gauges.mk s.scl s.img (tget 0 s.evt 0x0A)) (funext h)

/-! ### Channels, keys, records -/

@[simp] theorem State.gauges_dropReq (j : Nat) : (s.dropReq j).gauges = s.gauges := by
  simp [State.dropReq, State.chkOff, State.chkStop, State.chkRelease, apply_ite State.gauges]

@[simp] theorem State.gauges_dropK (n : Nat) : (s.dropK n).gauges = s.gauges := by simp [State.dropK]

@[simp] theorem State.gauges_metroSign : s.metroSign.2.gauges = s.gauges := by
  unfold State.metroSign
  split <;> rfl

@[simp] theorem State.gauges_publishTotals : s.publishTotals.gauges = s.gauges := by
  simp [State.publishTotals, State.writeTotals, State.pubPage, State.writeTag, apply_ite State.gauges]

@[simp] theorem State.gauges_recClose (n : Nat) (e : EndReason) (t : Stamp) (weld warn : Bool) (loss : BitVec 16) :
    (s.recClose n e t weld warn loss).gauges = s.gauges := by
  simp [State.recClose, State.segment, apply_ite State.gauges]

@[simp] theorem State.gauges_closeRec (k : Nat) : (s.closeRec k).gauges = s.gauges := by
  unfold State.closeRec
  dsimp only
  split
  · rfl
  · simp [State.recRelease, apply_ite State.gauges]

/-! ### The bay's legal region -/

@[simp] theorem State.gauges_placeUpd (p r : Nat) (u : Upd) : (s.placeUpd p r u).gauges = s.gauges := by
  simp [State.placeUpd, apply_ite State.gauges]

@[simp] theorem State.gauges_panelTemps : s.panelTemps.gauges = s.gauges :=
  foldl_keeps _ (fun a p => by simp [State.panelTemp, apply_ite State.gauges]) _ _

@[simp] theorem State.gauges_refuseCold (p : Nat) : (s.refuseCold p).gauges = s.gauges :=
  foldl_keeps _ (fun a r => by simp [apply_ite State.gauges]) _ _

@[simp] theorem State.gauges_startInits (b : Option Nat) : (s.startInits b).gauges = s.gauges :=
  foldl_keeps _ (fun a p => by simp [apply_ite State.gauges]) _ _

@[simp] theorem State.gauges_startUpd (p r : Nat) : (s.startUpd p r).gauges = s.gauges := by
  unfold State.startUpd
  dsimp only
  split <;> simp

@[simp] theorem State.gauges_startLoop (b : Option Nat) (n : Nat) : (startLoop b n s).gauges = s.gauges := by
  induction n generalizing s with
  | zero => rfl
  | succ n ih =>
    unfold startLoop
    split
    · rfl
    · rw [ih, State.gauges_startUpd]

@[simp] theorem State.gauges_askRails : s.askRails.gauges = s.gauges := by
  simp [State.askRails, apply_ite State.gauges]

@[simp] theorem State.gauges_askPanels : s.askPanels.gauges = s.gauges :=
  foldl_keeps _ (fun a p => by simp [State.panelRest, apply_ite State.gauges]) _ _

@[simp] theorem State.gauges_brandRun (b : Option Nat) : (s.brandRun b).gauges = s.gauges := by
  refine (State.gauges_askPanels _).trans ((State.gauges_askRails _).trans ((State.gauges_startLoop _ b 16).trans
    ((State.gauges_startInits _ b).trans (.trans ?_ s.gauges_panelTemps))))
  exact foldl_keeps State.gauges (fun a p => by simp [apply_ite State.gauges]) _ _

@[simp] theorem State.gauges_legalBay (n : Nat) : (s.legalBay n).gauges = s.gauges := by
  unfold State.legalBay
  split <;> simp [State.legalRequest, apply_ite State.gauges]

/-! ### Events of a session, and what goes to a satellite -/

@[simp] theorem State.gauges_evqPut (e : EvEntry) : (s.evqPut e).gauges = s.gauges := by simp [State.evqPut]

@[simp] theorem State.gauges_evqEmit (e : EvEntry) : (s.evqEmit e).gauges = s.gauges := by
  unfold State.evqEmit
  dsimp only
  split
  · split <;> exact State.gauges_upd.trans (s.gauges_setEvt 0x05 3)
  · exact s.gauges_evqPut e

@[simp] theorem State.gauges_sessEvent (k typ : Nat) : (s.sessEvent k typ).gauges = s.gauges := s.gauges_evqEmit _

@[simp] theorem State.gauges_sklHinge (peer kind : Nat) (f : HFrame) : (s.sklHinge peer kind f).gauges = s.gauges := rfl

@[simp] theorem State.gauges_sendHinge (c kind : Nat) (f : HFrame) : (s.sendHinge c kind f).gauges = s.gauges := by
  simp [State.sendHinge, apply_ite State.gauges]

@[simp] theorem State.gauges_stepCmd (k step : Nat) : (s.stepCmd k step).gauges = s.gauges := by
  simp [State.stepCmd, State.hingeSend, apply_ite State.gauges]

/-! ### The way from a state to FREE -/

@[simp] theorem State.gauges_pilotGen (n : Nat) : (s.pilotGen n).gauges = s.gauges := rfl

@[simp] theorem State.gauges_setSt (k : Nat) (st : Sess) : (s.setSt k st).gauges = s.gauges := by
  simp [State.setSt, apply_ite State.gauges]

@[simp] theorem State.gauges_dropKeys (k : Nat) : (s.dropKeys k).gauges = s.gauges :=
  foldl_keeps State.gauges (fun a n => a.gauges_setSlot n {}) _ _

@[simp] theorem State.gauges_bayFree (n : Nat) : (s.bayFree n).gauges = s.gauges := by
  simp [State.bayFree, State.gauges_modImdB_uRef]

@[simp] theorem State.gauges_freeSess (k : Nat) : (s.freeSess k).gauges = s.gauges := by
  simp [State.freeSess, State.withdrawDue, State.tunSend, apply_ite State.gauges]

@[simp] theorem State.gauges_toUnplug (k : Nat) : (s.toUnplug k).gauges = s.gauges := by
  simp [State.toUnplug, State.unlockDue, apply_ite State.gauges]

@[simp] theorem State.gauges_toFinishing (k : Nat) : (s.toFinishing k).gauges = s.gauges := by
  simp [State.toFinishing, apply_ite State.gauges]

@[simp] theorem State.gauges_toOpening (k : Nat) : (s.toOpening k).gauges = s.gauges := by
  simp [State.toOpening, apply_ite State.gauges]

/-- The end of a session. -/
@[simp] theorem State.gauges_endSess (k : Nat) (r : EndReason) (fast : Bool) : (s.endSess k r fast).gauges = s.gauges := by
  unfold State.endSess
  dsimp only
  split <;> simp [apply_ite State.gauges]

@[simp] theorem State.gauges_endBay (n : Nat) (r : EndReason) (fast : Bool) : (s.endBay n r fast).gauges = s.gauges := by
  unfold State.endBay
  split <;> simp

@[simp] theorem State.gauges_pathOpens (n : Nat) : (s.pathOpens n).gauges = s.gauges := by
  simp [State.pathOpens, apply_ite State.gauges]

@[simp] theorem State.gauges_leaveService (n : Nat) : (s.leaveService n).gauges = s.gauges := by
  simp [State.leaveService, State.bayOut, apply_ite State.gauges]

end

end Sys2Proof.Machine
end

section
/-! SUPPORT. The checks on the measuring path (R229 to R231, R313, R314). -/
namespace Sys2Proof.Machine

/-! ### Event bits -/

/-- A bit that was just set is set. -/
theorem State.evtSet_setEvt (s : State) (blk : Nat) {bit : Nat} (h : bit < 32) : (s.setEvt blk bit).evtSet blk bit := by
  unfold State.evtSet
  rw [State.evt_setEvt]
  split
  · assumption
  · simp [h]

/-! ### What equal gauges say -/

section
variable {s t : State} (h : t.gauges = s.gauges)
include h

theorem State.scl_of_gauges : t.scl = s.scl := congrArg Gauges.scl h

theorem State.img_of_gauges : t.img = s.img := congrArg Gauges.img h

theorem State.mbay_of_gauges (n : Nat) : t.mbay n = s.mbay n := by rw [State.mbay, State.scl_of_gauges h, State.mbay]

theorem State.lineHeld_of_gauges (n : Nat) : (t.imdB n).lineHeld = (s.imdB n).lineHeld := congrArg (fun g => (g.imd n).lineHeld) h

theorem State.efAlarm_of_gauges (n : Nat) : (t.imdB n).efAlarm = (s.imdB n).efAlarm := congrArg (fun g => (g.imd n).efAlarm) h

theorem State.imdEvt_of_gauges (bit : Nat) : t.evtSet 0x0A bit ↔ s.evtSet 0x0A bit := by
  have he : tget 0 t.evt 0x0A = tget 0 s.evt 0x0A := congrArg Gauges.imdEvt h
  rw [State.evtSet, State.evtSet, he]

end

/-! ### MFAULT (R230) -/

/-- A bay's measuring state once a cause has put it into MFAULT. -/
def MBay.faulted (b : MBay) (cause : Nat) : MBay := if b.mfault then b else { b with mfault := true, mfCause := cause, tickMflt := true }

@[simp] theorem MBay.mfault_faulted (b : MBay) (cause : Nat) : (b.faulted cause).mfault = true := by
  unfold MBay.faulted
  split <;> simp [*]

theorem MBay.faulted_of_sound {b : MBay} (h : b.mfault = false) (cause : Nat) :
    b.faulted cause = { b with mfault := true, mfCause := cause, tickMflt := true } := if_neg (by simp [h])

theorem MBay.faulted_of_faulted {b : MBay} (h : b.mfault = true) (cause : Nat) : b.faulted cause = b := if_pos h

theorem State.mfault_of_faulted {s : State} {n : Nat} (h : (s.mbay n).mfault = true) (cause : Nat) : s.mfault n cause = s := if_pos h

theorem State.mfault_of_sound {s : State} {n : Nat} (h : (s.mbay n).mfault = false) (cause : Nat) :
    s.mfault n cause = ((s.setMbay n ((s.mbay n).faulted cause)).setEvt 0x07 n).leaveService n := by
  simp [State.mfault, State.mfaultCore, h, MBay.faulted]

@[simp] theorem State.mbay_mfault (s : State) (n cause : Nat) : (s.mfault n cause).mbay n = (s.mbay n).faulted cause := by
  cases h : (s.mbay n).mfault with
  | true => rw [State.mfault_of_faulted h, MBay.faulted_of_faulted h]
  | false =>
    rw [State.mfault_of_sound h, State.mbay_of_gauges ((State.gauges_leaveService _ n).trans (State.gauges_setEvt _ 0x07 n))]
    exact State.mbay_setMbay ..

theorem State.mbay_mfault_ne (s : State) {n m : Nat} (cause : Nat) (hm : m ≠ n) : (s.mfault n cause).mbay m = s.mbay m := by
  cases h : (s.mbay n).mfault with
  | true => rw [State.mfault_of_faulted h]
  | false =>
    rw [State.mfault_of_sound h, State.mbay_of_gauges ((State.gauges_leaveService _ n).trans (State.gauges_setEvt _ 0x07 n))]
    exact State.mbay_setMbay_ne _ _ _ _ hm

@[simp] theorem State.imd_leaveService (s : State) (n : Nat) : (s.leaveService n).imd = s.imd := by
  unfold State.leaveService
  split <;> rfl

@[simp] theorem State.img_leaveService (s : State) (n : Nat) : (s.leaveService n).img = s.img := by
  unfold State.leaveService
  split <;> rfl

@[simp] theorem State.scl_leaveService (s : State) (n : Nat) : (s.leaveService n).scl = s.scl := by
  unfold State.leaveService
  split <;> rfl

/-- MFAULT is no matter of the IMDs, of the settings or of whether metering runs. -/
theorem State.mfault_frame (s : State) (n cause : Nat) :
    (s.mfault n cause).imd = s.imd ∧ (s.mfault n cause).img = s.img ∧ (s.mfault n cause).scl.metered = s.scl.metered := by
  cases h : (s.mbay n).mfault with
  | true => rw [State.mfault_of_faulted h]; exact ⟨rfl, rfl, rfl⟩
  | false => rw [State.mfault_of_sound h]; simp

theorem State.evtSet_leaveService {s : State} {blk bit : Nat} (n : Nat) (h : s.evtSet blk bit) : (s.leaveService n).evtSet blk bit := by
  unfold State.leaveService
  split <;> exact h

/-- Entering MFAULT is an event, and the bay leaves service at once or once its session has ended (R230). -/
theorem State.mfault_entered {s : State} {n : Nat} (cause : Nat) (hn : n < 8) (h : (s.mbay n).mfault = false) :
    (s.mfault n cause).evtSet 0x07 n ∧ ((s.ctx n).st = .free → ((s.mfault n cause).bay n).inService = false) ∧
      ((s.ctx n).st ≠ .free → ((s.mfault n cause).bay n).outAtFree = true) := by
  have hctx : (((s.setMbay n ((s.mbay n).faulted cause)).setEvt 0x07 n).ctx n).st = (s.ctx n).st := by simp [State.ctx]
  rw [State.mfault_of_sound h]
  refine ⟨State.evtSet_leaveService n (State.evtSet_setEvt _ _ (by omega)), fun hf => ?_, fun hf => ?_⟩
  · simp [State.leaveService, hctx, hf, State.bayOut, State.pilotGen]
  · simp [State.leaveService, hctx, hf]

/-! ### A lost channel (R229) -/

/-- What a bay's measuring state notes of a lost channel of voltage or current. -/
def MBay.lose (b : MBay) : MChan → MBay
  | .mv => { b with lossV := true }
  | .mih => { b with lossIh := true }
  | .mil => { toHigh b with lossIl := true }
  | .me => b

/-- The losses after one more. -/
theorem MBay.losses_lose (b : MBay) {ch : MChan} (h : ch ≠ .me) :
    (b.lose ch).lossV = (b.lossV || decide (ch = .mv)) ∧ (b.lose ch).lossIh = (b.lossIh || decide (ch = .mih)) ∧
      (b.lose ch).lossIl = (b.lossIl || decide (ch = .mil)) := by
  cases ch
  case mv => simp [MBay.lose]
  case mih => simp [MBay.lose]
  case mil => unfold MBay.lose toHigh; dsimp only; split <;> simp
  case me => exact absurd rfl h

/-- MIL's loss locks the range to HIGH. -/
theorem MBay.range_lose_mil (b : MBay) : (b.lose .mil).low = false ∧ (b.lose .mil).lockHigh = true := by
  cases h : b.low <;> simp [MBay.lose, toHigh, h]

/-- A loss is not MFAULT itself. -/
theorem MBay.fault_lose (b : MBay) (ch : MChan) : (b.lose ch).mfault = b.mfault ∧ (b.lose ch).mfCause = b.mfCause := by
  cases ch
  case mil => unfold MBay.lose toHigh; dsimp only; split <;> exact ⟨rfl, rfl⟩
  all_goals exact ⟨rfl, rfl⟩

/-- MFAULT changes nothing else of what a bay notes of its channels. -/
theorem MBay.marks_faulted (b : MBay) (cause : Nat) :
    (b.faulted cause).lossV = b.lossV ∧ (b.faulted cause).lossIh = b.lossIh ∧ (b.faulted cause).lossIl = b.lossIl ∧
      (b.faulted cause).low = b.low ∧ (b.faulted cause).lockHigh = b.lockHigh ∧ (b.faulted cause).xchkFail = b.xchkFail := by
  unfold MBay.faulted
  split <;> exact ⟨rfl, rfl, rfl, rfl, rfl, rfl⟩

/-- The machine once a channel's loss is noted and the bay is in MFAULT. -/
def State.afterLoss (s : State) (n : Nat) (ch : MChan) : State := (s.modMbay n (fun b => b.lose ch)).mfault n 1

/-- Nothing happens to a channel that METROMAP does not enable. -/
theorem execChannel_of_off {s : State} {n : Nat} {ch : MChan} (hc : chanOn (s.cMeter n) ch = false) :
    exec (.channelLost n ch) s = .next s ∧ exec (.channelRestored n ch) s = .next s := by
  have hg : (!s.awake || 8 ≤ n || !(s.cBay n).enabled || !chanOn (s.cMeter n) ch) = true := by simp [hc]
  exact ⟨if_pos hg, if_pos hg⟩

section
variable {s : State} {n : Nat} (ha : s.awake = true) (hn : n < 8) (he : (s.cBay n).enabled = true)
include ha hn he

theorem channelGuard_of_on {ch : MChan} (hc : chanOn (s.cMeter n) ch = true) :
    (!s.awake || 8 ≤ n || !(s.cBay n).enabled || !chanOn (s.cMeter n) ch) = false := by simp [ha, hn, he, hc]

/-- A lost channel of voltage or current. -/
theorem execChannelLost_of_on {ch : MChan} (hc : chanOn (s.cMeter n) ch = true) (hm : ch ≠ .me) :
    exec (.channelLost n ch) s = .next ((if ch = .mil then s.afterLoss n ch else (s.afterLoss n ch).pathOpens n).settle) := by
  refine (if_neg (ne_true_of_eq_false (channelGuard_of_on ha hn he hc))).trans ?_
  cases ch
  case me => exact absurd rfl hm
  all_goals rfl

theorem execChannelLost_me (hc : (s.cMeter n).meEn = true) : exec (.channelLost n .me) s = .next (s.earthLost n true).settle :=
  if_neg (ne_true_of_eq_false (channelGuard_of_on ha hn he (ch := .me) hc))

theorem execChannelRestored_mv (hc : (s.cMeter n).mvEn = true) :
    exec (.channelRestored n .mv) s = .next (s.setMbay n { s.mbay n with lossV := false }) :=
  if_neg (ne_true_of_eq_false (channelGuard_of_on ha hn he (ch := .mv) hc))

theorem execChannelRestored_mih (hc : (s.cMeter n).mihEn = true) :
    exec (.channelRestored n .mih) s = .next (s.setMbay n { s.mbay n with lossIh := false }) :=
  if_neg (ne_true_of_eq_false (channelGuard_of_on ha hn he (ch := .mih) hc))

theorem execChannelRestored_mil (hc : (s.cMeter n).milEn = true) :
    exec (.channelRestored n .mil) s = .next (s.setMbay n { s.mbay n with lossIl := false }) :=
  if_neg (ne_true_of_eq_false (channelGuard_of_on ha hn he (ch := .mil) hc))

theorem execChannelRestored_me (hc : (s.cMeter n).meEn = true) : exec (.channelRestored n .me) s = .next (s.earthLost n false).settle :=
  if_neg (ne_true_of_eq_false (channelGuard_of_on ha hn he (ch := .me) hc))

end

/-! ### The earth current's channel (R313) -/

/-- A trip leaves the bays' measuring states alone and holds the alarm line. -/
theorem State.mbay_efTripped (s : State) (n m : Nat) : (s.efTripped n).mbay m = s.mbay m := by
  unfold State.efTripped
  split
  · rfl
  · rw [State.mbay_of_gauges (State.gauges_endBay ..)]
    simp [State.mbay]

theorem State.efAlarm_efTripped (s : State) (n : Nat) : ((s.efTripped n).imdB n).efAlarm = true := by
  unfold State.efTripped
  split
  · assumption
  · rw [State.efAlarm_of_gauges (State.gauges_endBay ..), State.imdB, State.imd_setEvt]
    exact congrArg ImdBay.efAlarm (State.imdB_modImdB s n _)

theorem State.efTripped_new {s : State} {n : Nat} (hn : n < 8) (h : (s.imdB n).efAlarm = false) :
    ((s.efTripped n).imdB n).lineHeld = true ∧ (s.efTripped n).evtSet 0x0A n := by
  unfold State.efTripped
  rw [if_neg (by simp [h])]
  refine ⟨?_, (State.imdEvt_of_gauges (State.gauges_endBay ..) n).2 (State.evtSet_setEvt _ _ (by omega))⟩
  rw [State.lineHeld_of_gauges (State.gauges_endBay ..), State.imdB, State.imd_setEvt]
  exact congrArg ImdBay.lineHeld (State.imdB_modImdB s n _)

/-- The loss or return of the earth current's channel is noted and leaves the rest of the bay's measuring state alone. -/
theorem State.mbay_earthLost (s : State) (n : Nat) (lost : Bool) : (s.earthLost n lost).mbay n = { s.mbay n with lossE := lost } := by
  have hnoted : (s.modMbay n (fun b => { b with lossE := lost })).mbay n = { s.mbay n with lossE := lost } := State.mbay_modMbay ..
  unfold State.earthLost
  dsimp only
  split
  · exact hnoted
  · split
    · exact (State.mbay_efTripped _ n n).trans hnoted
    · split
      · exact hnoted
      · simpa [State.mbay] using hnoted

/-- With a contactor closed the loss is a trip. -/
theorem State.earthLost_closed {s : State} {n : Nat} (h : s.kOn n = true) :
    s.earthLost n true = (s.modMbay n (fun b => { b with lossE := true })).efTripped n :=
  if_pos h

/-- With the contactors open the loss is a measuring fault (R313). -/
theorem State.earthLost_open {s : State} {n : Nat} (hn : n < 8) (h : s.kOn n = false) :
    ((s.earthLost n true).imdB n).measFault = true ∧
      ((s.imdB n).measFault = false → ((s.earthLost n true).imdB n).cause = .menLost ∧ (s.earthLost n true).evtSet 0x0A (16 + n)) := by
  have hk : (s.modMbay n (fun b => { b with lossE := true })).kOn n = false := h
  have hi : (s.modMbay n (fun b => { b with lossE := true })).imdB n = s.imdB n := rfl
  simp only [State.earthLost, Bool.not_true, Bool.false_eq_true, if_false, hk, hi]
  cases hf : (s.imdB n).measFault with
  | true => exact ⟨by rw [if_pos rfl, hi, hf], fun hc => absurd hc (by decide)⟩
  | false =>
    simp only [Bool.false_eq_true, if_false]
    exact ⟨by simp [State.imdB, State.modImdB, State.setImdB], fun _ => ⟨by simp [State.imdB, State.modImdB, State.setImdB],
      State.evtSet_setEvt _ _ (by omega)⟩⟩

/-- The channel's return ends the measuring fault that its loss was (R313). -/
theorem State.imdB_earthBack (s : State) (n : Nat) : (s.earthLost n false).imdB n =
    if (s.imdB n).cause = .menLost then { s.imdB n with
      measFault := false, cause := .none, lineHeld := (s.imdB n).lineHeld && ((s.imdB n).alarm || (s.imdB n).efAlarm) }
    else s.imdB n :=
  State.imdB_modImdB ..

/-! ### The cross-check (R229) -/

/-- A bay's measuring state with a new cross-check window. -/
def MBay.newWindow (b : MBay) : MBay := { b with xchkN := 0, xchkHi := 0, xchkLo := 0, xchkVoid := false }

/-- A bay's measuring state after a third bad window: the range fault with the range locked to HIGH. -/
def MBay.rangeFault (b : MBay) : MBay := { toHigh b.newWindow with xchkRun := b.xchkRun + 1, xchkFail := true }

theorem MBay.rangeFault_marks (b : MBay) : b.rangeFault.xchkFail = true ∧ b.rangeFault.low = false ∧ b.rangeFault.lockHigh = true ∧
    b.rangeFault.mfault = b.mfault := by
  cases h : b.low <;> simp [MBay.rangeFault, toHigh, MBay.newWindow, h]

theorem execXchkWindow_idle {s : State} {n : Nat} (h : s.meters n = false ∨ (s.mbay n).xchkN ≠ 16000) :
    exec (.xchkWindow n) s = .next s :=
  if_pos (by rcases h with h | h <;> simp [h, xchkLen])

section
variable {s : State} {n : Nat} (ha : s.awake = true) (hm : s.meters n = true) (hN : (s.mbay n).xchkN = 16000)
include ha hm hN

theorem execXchkWindow_full : exec (.xchkWindow n) s =
    if (s.mbay n).xchkVoid then .next (s.setMbay n (s.mbay n).newWindow)
    else
      let run := if xchkBad (s.cMeter n).fsIh (s.mbay n).xchkHi (s.mbay n).xchkLo then (s.mbay n).xchkRun + 1 else 0
      if 3 ≤ run then .next ((s.setMbay n { toHigh (s.mbay n).newWindow with xchkRun := run, xchkFail := true }).mfault n 2).settle
      else .next (s.setMbay n { (s.mbay n).newWindow with xchkRun := run }) :=
  if_neg (by simp [ha, hm, hN, xchkLen])

theorem execXchkWindow_void (hv : (s.mbay n).xchkVoid = true) : exec (.xchkWindow n) s = .next (s.setMbay n (s.mbay n).newWindow) :=
  (execXchkWindow_full ha hm hN).trans (if_pos hv)

variable (hv : (s.mbay n).xchkVoid = false)
include hv

theorem execXchkWindow_good (hb : xchkBad (s.cMeter n).fsIh (s.mbay n).xchkHi (s.mbay n).xchkLo = false) :
    exec (.xchkWindow n) s = .next (s.setMbay n { (s.mbay n).newWindow with xchkRun := 0 }) := by
  simp [execXchkWindow_full ha hm hN, hv, hb]

variable (hb : xchkBad (s.cMeter n).fsIh (s.mbay n).xchkHi (s.mbay n).xchkLo = true)
include hb

theorem execXchkWindow_bad (hr : (s.mbay n).xchkRun < 2) :
    exec (.xchkWindow n) s = .next (s.setMbay n { (s.mbay n).newWindow with xchkRun := (s.mbay n).xchkRun + 1 }) := by
  have h3 : ¬ 3 ≤ (s.mbay n).xchkRun + 1 := by omega
  simp [execXchkWindow_full ha hm hN, hv, hb, h3]

theorem execXchkWindow_third (hr : 2 ≤ (s.mbay n).xchkRun) :
    exec (.xchkWindow n) s = .next ((s.setMbay n (s.mbay n).rangeFault).mfault n 2).settle := by
  have h3 : 3 ≤ (s.mbay n).xchkRun + 1 := by omega
  simp [execXchkWindow_full ha hm hN, hv, hb, h3, MBay.rangeFault]

end

/-! ### A missed deadline (R223, R229, R314) -/

/-- A bay's measuring state once its sample was missed. -/
def MBay.missed (b : MBay) (metered : Bool) : MBay := if metered then { b with tickGap := b.tickGap + 1, tickN := b.tickN + 1 } else b

theorem MBay.mfault_missed (b : MBay) (metered : Bool) : (b.missed metered).mfault = b.mfault := by
  cases metered <;> rfl

/-- What a missed deadline does to one bay. -/
def State.missSample (a : State) (n : Nat) : State :=
  if (a.cBay n).enabled then
    (((a.modMbay n (fun b => b.missed a.scl.metered)).modImdB n (fun b => { b with lineHeld := true })).mfault n 3).pathOpens n
  else a

theorem execDspDeadline_of_awake {s : State} (ha : s.awake = true) :
    exec .dspDeadline s = .next ((List.range 8).foldl State.missSample s).settle :=
  if_neg (by simp [ha])

/-- The settings stand, and whether metering runs. -/
theorem State.missSample_frame (a : State) (n : Nat) :
    (a.missSample n).img = a.img ∧ (a.missSample n).scl.metered = a.scl.metered := by
  unfold State.missSample
  split
  · rw [State.img_of_gauges (State.gauges_pathOpens ..), State.scl_of_gauges (State.gauges_pathOpens ..)]
    exact (State.mfault_frame _ n 3).2
  · exact ⟨rfl, rfl⟩

theorem State.missSample_other (a : State) {n m : Nat} (hm : m ≠ n) :
    (a.missSample n).mbay m = a.mbay m ∧ ((a.missSample n).imdB m).lineHeld = (a.imdB m).lineHeld := by
  unfold State.missSample
  split
  · rw [State.mbay_of_gauges (State.gauges_pathOpens ..), State.lineHeld_of_gauges (State.gauges_pathOpens ..), State.mbay_mfault_ne _ _ hm,
      State.imdB, (State.mfault_frame ..).1]
    exact ⟨State.mbay_setMbay_ne a n _ m hm, congrArg ImdBay.lineHeld (State.imdB_setImdB_ne _ n _ m hm)⟩
  · exact ⟨rfl, rfl⟩

theorem State.missSample_self {a : State} {n : Nat} (he : (a.cBay n).enabled = true) :
    (a.missSample n).mbay n = ((a.mbay n).missed a.scl.metered).faulted 3 ∧ ((a.missSample n).imdB n).lineHeld = true := by
  rw [State.missSample, if_pos he, State.mbay_of_gauges (State.gauges_pathOpens ..), State.lineHeld_of_gauges (State.gauges_pathOpens ..),
    State.mbay_mfault, State.imdB, (State.mfault_frame ..).1]
  exact ⟨congrArg (fun b => MBay.faulted b 3) (State.mbay_modMbay a n _), congrArg ImdBay.lineHeld (State.imdB_modImdB _ n _)⟩

/-- Every enabled bay meets the missed deadline once. -/
theorem State.mbay_missSamples {s : State} {m : Nat} (hm : m < 8) (he : (s.cBay m).enabled = true) :
    ((List.range 8).foldl State.missSample s).mbay m = ((s.mbay m).missed s.scl.metered).faulted 3 ∧
      (((List.range 8).foldl State.missSample s).imdB m).lineHeld = true := by
  have h := foldl_once (f := State.missSample) (fun a => a.img = s.img ∧ a.scl.metered = s.scl.metered) (fun a => (a.mbay m, (a.imdB m).lineHeld))
    (c := (((s.mbay m).missed s.scl.metered).faulted 3, true)) List.nodup_range (List.mem_range.2 hm) ⟨rfl, rfl⟩
    (fun a n ha => ⟨(a.missSample_frame n).1.trans ha.1, (a.missSample_frame n).2.trans ha.2⟩)
    (fun a n _ hn => Prod.ext (a.missSample_other (Ne.symm hn)).1 (a.missSample_other (Ne.symm hn)).2)
    (fun a ha hv => by
      obtain ⟨hb, hl⟩ := State.missSample_self (a := a) (n := m) (by rw [State.cBay, ha.1]; exact he)
      rw [hb, hl, ha.2, (Prod.mk.inj hv).1])
  simpa only [Prod.mk.injEq] using h

end Sys2Proof.Machine
end

section
open Sys2Proof Sys2Proof.Machine

/-- Settles O35: each row is carried out on an awake part for an enabled bay; what ends a session or takes the bay out of service leaves the
measuring path alone (`gauges`). -/
theorem meteringChecksAct : Obligations.MeteringChecksAct := by
  intro s n ha hn he
  refine ⟨fun ch hc => execChannel_of_off hc, fun ch hc hm => ⟨s.afterLoss n ch, execChannelLost_of_on ha hn he hc hm, ?lost⟩,
    fun hc => ⟨s.earthLost n true, execChannelLost_me ha hn he hc, ?earthLost⟩,
    execChannelRestored_mv ha hn he, execChannelRestored_mih ha hn he, execChannelRestored_mil ha hn he,
    fun hc => ⟨s.earthLost n false, execChannelRestored_me ha hn he hc, ?earthBack⟩, execXchkWindow_idle,
    fun hmet hN => ⟨execXchkWindow_void ha hmet hN, fun hv => ⟨execXchkWindow_good ha hmet hN hv, fun hb => ⟨execXchkWindow_bad ha hmet hN hv hb,
      fun hr => ⟨_, execXchkWindow_third ha hmet hN hv hb hr, ?third⟩⟩⟩⟩,
    ⟨_, execDspDeadline_of_awake ha, fun m hm hen => ?deadline⟩⟩
  case lost =>
    have hb : (s.afterLoss n ch).mbay n = ((s.mbay n).lose ch).faulted 1 := by
      rw [State.afterLoss, State.mbay_mfault, State.mbay_modMbay]
    obtain ⟨hv, hih, hil, hlow, hlock, -⟩ := ((s.mbay n).lose ch).marks_faulted 1
    obtain ⟨lv, lih, lil⟩ := (s.mbay n).losses_lose hm
    obtain ⟨hmf, hmc⟩ := (s.mbay n).fault_lose ch
    have hmf' : ((s.modMbay n (fun b => b.lose ch)).mbay n).mfault = (s.mbay n).mfault := by rw [State.mbay_modMbay, hmf]
    rw [hb]
    refine ⟨hv.trans lv, hih.trans lih, hil.trans lil, fun h => ?_, MBay.mfault_faulted _ _, fun m hne => ?_, fun h => ?_, fun h => ?_⟩
    · rw [hlow, hlock, h]
      exact (s.mbay n).range_lose_mil
    · exact (State.mbay_mfault_ne _ 1 hne).trans (State.mbay_modMbay_ne _ _ _ _ hne)
    · rw [MBay.faulted_of_faulted (hmf.trans h), hmc]
    · rw [MBay.faulted_of_sound (hmf.trans h)]
      exact ⟨rfl, State.mfault_entered 1 hn (hmf'.trans h)⟩
  case earthLost =>
    refine ⟨by rw [State.mbay_earthLost], fun hk => ?_, fun hk => State.earthLost_open hn hk⟩
    rw [State.earthLost_closed hk]
    exact ⟨State.efAlarm_efTripped .., fun h => State.efTripped_new hn h⟩
  case earthBack =>
    refine ⟨by rw [State.mbay_earthLost], fun h => ?_, fun h => ?_⟩
    · rw [State.imdB_earthBack, if_pos h]
      exact ⟨rfl, rfl⟩
    · rw [State.imdB_earthBack, if_neg h]
  case third =>
    obtain ⟨-, -, -, hlow, hlock, hx⟩ := (s.mbay n).rangeFault.marks_faulted 2
    obtain ⟨rx, rlow, rlock, rf⟩ := (s.mbay n).rangeFault_marks
    rw [State.mbay_mfault, State.mbay_setMbay]
    refine ⟨hx.trans rx, hlow.trans rlow, hlock.trans rlock, MBay.mfault_faulted _ _, fun h => ?_, fun m hne => ?_⟩
    · rw [MBay.faulted_of_sound (rf.trans h)]
    · exact (State.mbay_mfault_ne _ 2 hne).trans (State.mbay_setMbay_ne _ _ _ _ hne)
  case deadline =>
    obtain ⟨hb, hl⟩ := State.mbay_missSamples hm hen
    rw [hb]
    refine ⟨MBay.mfault_faulted _ _, hl, fun h => ?_, fun h => ?_⟩
    · rw [MBay.faulted_of_sound ((MBay.mfault_missed _ _).trans h)]
    · rw [h, MBay.missed, if_pos rfl]
      unfold MBay.faulted
      split <;> exact ⟨rfl, rfl⟩

end

section
/-! SUPPORT. What an update of a point leaves alone, and what a sample adds to a bay's tick (R106, R222 to R229, R236). -/
namespace Sys2Proof.Machine

/-- What a sample leaves alone: settings, contexts, channels, permits, and Tally's registers, records and readings. -/
structure SampleFrame where
  img : ImageContent
  cfg : Cfg
  vlk : Vlk
  chk : Chk
  permits : Permits
  regs : Tab Nat
  recs : Tab Rec
  readings : Tab Reading

/-- What an update of a point leaves alone: Scaler too. -/
structure PointFrame where
  scl : Scl
  others : SampleFrame

def State.sampleFrame (s : State) : SampleFrame where
  img := s.img
  cfg := s.cfg
  vlk := s.vlk
  chk := s.chk
  permits := s.permits
  regs := s.tly.regs
  recs := s.tly.recs
  readings := s.tly.readings

def State.pointFrame (s : State) : PointFrame where
  scl := s.scl
  others := s.sampleFrame

section
variable (s : State)

/-- A change of other blocks. -/
@[simp] theorem State.pointFrame_upd {t : State} {x_sys x_net x_lnd x_hst x_yrd x_blz x_imd x_saf x_pvy x_skl
    x_nfc x_brd x_key x_tim x_crs x_evt x_elog x_eseq x_elost x_eSec x_eCount x_mem x_sent x_fresh x_pending} :
    State.pointFrame ⟨x_sys, t.permits, t.cfg, t.img, x_net, x_lnd, x_hst, t.vlk, x_yrd, t.scl, t.tly, x_blz, x_imd, x_saf, x_pvy, t.chk,
      x_skl, x_nfc, x_brd, x_key, x_tim, x_crs, x_evt, x_elog, x_eseq, x_elost, x_eSec, x_eCount, x_mem, x_sent, x_fresh, x_pending⟩ = t.pointFrame := rfl

@[simp] theorem State.pointFrame_setEvt (blk bit : Nat) : (s.setEvt blk bit).pointFrame = s.pointFrame := by
  simp [State.pointFrame, State.sampleFrame]

@[simp] theorem State.pointFrame_setEvtIf (b : Bool) (blk bit : Nat) : (s.setEvtIf b blk bit).pointFrame = s.pointFrame := by
  simp [State.pointFrame, State.sampleFrame]

@[simp] theorem State.pointFrame_send (o : Out) : (s.send o).pointFrame = s.pointFrame := rfl
@[simp] theorem State.pointFrame_draw : s.draw.2.pointFrame = s.pointFrame := rfl
@[simp] theorem State.pointFrame_writeMem (a : Nat) (l : List Byte) : (s.writeMem a l).pointFrame = s.pointFrame := rfl
@[simp] theorem State.pointFrame_writeGen (off : Nat) (l : List Byte) : (s.writeGen off l).pointFrame = s.pointFrame := rfl
@[simp] theorem State.pointFrame_lineWritten (m : Bool) (a n : Nat) : (s.lineWritten m a n).pointFrame = s.pointFrame := rfl
@[simp] theorem State.pointFrame_setPoint (n : Nat) (x : Point) : (s.setPoint n x).pointFrame = s.pointFrame := rfl
@[simp] theorem State.pointFrame_setSub (n : Nat) (x : Sub) : (s.setSub n x).pointFrame = s.pointFrame := rfl
@[simp] theorem State.pointFrame_modImdB (n : Nat) (f : ImdBay → ImdBay) : (s.modImdB n f).pointFrame = s.pointFrame := rfl

/-! ### An update of a point (R106) -/

@[simp] theorem State.pointFrame_writeBack (n : Nat) : (s.writeBack n).pointFrame = s.pointFrame := by
  simp [State.writeBack, apply_ite State.pointFrame]

@[simp] theorem State.pointFrame_touch (n : Nat) : (s.touch n).pointFrame = s.pointFrame := by
  unfold State.touch
  dsimp only
  split
  · rfl
  · exact State.pointFrame_upd.trans (foldl_keeps State.pointFrame (fun a k => a.pointFrame_writeBack k) _ _)

@[simp] theorem State.pointFrame_deliver (h gid : Nat) (p : Point) : (s.deliver h gid p).pointFrame = s.pointFrame := by
  simp [State.deliver, apply_ite State.pointFrame]

@[simp] theorem State.pointFrame_publish (gid : Nat) (p : Point) : (s.publish gid p).pointFrame = s.pointFrame := by
  have hd : ((List.range 16).foldl (fun a h => a.deliver h gid p) s).pointFrame = s.pointFrame :=
    foldl_keeps State.pointFrame (fun a h => a.pointFrame_deliver h gid p) _ _
  simp [State.publish, apply_ite State.pointFrame, hd]

@[simp] theorem State.pointFrame_storePoint (n : Nat) (old new : Point) : (s.storePoint n old new).pointFrame = s.pointFrame := by
  simp [State.storePoint, State.publishOwn, apply_ite State.pointFrame]

@[simp] theorem State.pointFrame_demandTake (dir : Nat) (last : Option Nat) (v : DWord) (t : Stamp) :
    (s.demandTake dir last v t).pointFrame = s.pointFrame := by
  have hmark : ∀ (b : Bool) (inc : Nat), (if b then (s.siteAdd dir inc t).catchMark dir else s.siteAdd dir inc t).pointFrame = s.pointFrame := by
    intro b inc
    cases b <;> rfl
  exact (State.pointFrame_setEvtIf _ _ 0x08 7).trans (hmark _ _)

@[simp] theorem State.pointFrame_ptUpdate (n : Nat) (x : DWord) (t : Stamp) (bad : Bool) : (s.ptUpdate n x t bad).pointFrame = s.pointFrame := by
  simp [State.ptUpdate, State.demandSeen, apply_ite State.pointFrame]

@[simp] theorem State.pointFrame_engineUpdate (gid : Nat) (q : Rat) (bad : Bool) : (s.engineUpdate gid q bad).pointFrame = s.pointFrame := by
  simp [State.engineUpdate, State.ptArrive, State.later, apply_ite State.pointFrame]

@[simp] theorem State.pointFrame_meanPoints (n : Nat) : (s.meanPoints n).pointFrame = s.pointFrame := by
  have hput : ∀ (a : State) (p : Option Nat) (q : Rat),
      (match p with | some g => a.engineUpdate g q false | none => a).pointFrame = a.pointFrame := by
    intro a p q
    cases p <;> simp
  exact (hput _ _ _).trans ((hput _ _ _).trans (hput _ _ _))

end

/-! ### One sample of a bay (R222 to R229, R236) -/

/-- A sample changes the bay's measuring state; what it brings elsewhere is no more than points, events and peaks. -/
theorem State.pointFrame_sampleBay {s : State} {n : Nat} (h : s.meters n = true) (c : BayCodes) :
    (s.sampleBay n c).pointFrame =
      (s.setMbay n (bayUpdate s.scl.metered (s.calOf n) (s.mbay n) (sampleOf (s.cMeter n) (s.calOf n) (s.mbay n) c))).pointFrame := by
  simp [State.sampleBay, h, apply_ite State.pointFrame]

theorem State.sampleBay_of_not_meters {s : State} {n : Nat} (h : s.meters n = false) (c : BayCodes) : s.sampleBay n c = s :=
  if_neg (by simp [h])

theorem State.mbay_of_pointFrame {s t : State} (h : t.pointFrame = s.pointFrame) (n : Nat) : t.mbay n = s.mbay n :=
  congrArg (fun p : PointFrame => tget ({} : MBay) p.scl.bays n) h

/-- What a sample goes by: the settings, the calibrations, and whether metering runs. -/
structure Plan where
  img : ImageContent
  scl : Scl

def State.plan (s : State) : Plan where
  img := s.img
  scl := { s.scl with bays := [] }

section
variable {a s : State} (h : a.plan = s.plan)
include h

theorem State.meters_of_plan (n : Nat) : a.meters n = s.meters n :=
  congrArg (fun p : Plan => (tget ({} : BayCfg) p.img.bays n).enabled && p.scl.calOk.getLsbD n) h

theorem State.cMeter_of_plan (n : Nat) : a.cMeter n = s.cMeter n := congrArg (fun p : Plan => tget ({} : MeterCfg) p.img.metro.bays n) h

theorem State.calOf_of_plan (n : Nat) : a.calOf n = s.calOf n := congrArg (fun p : Plan => tget ({} : CalVals) p.scl.cal n) h

theorem State.metered_of_plan : a.scl.metered = s.scl.metered := congrArg (fun p : Plan => p.scl.metered) h

end

theorem State.plan_sampleBay (s : State) (n : Nat) (c : BayCodes) : (s.sampleBay n c).plan = s.plan := by
  cases h : s.meters n with
  | false => rw [State.sampleBay_of_not_meters h]
  | true => exact congrArg (fun p => Plan.mk p.others.img { p.scl with bays := [] }) (State.pointFrame_sampleBay h c)

theorem State.sampleFrame_sampleBay (s : State) (n : Nat) (c : BayCodes) : (s.sampleBay n c).sampleFrame = s.sampleFrame := by
  cases h : s.meters n with
  | false => rw [State.sampleBay_of_not_meters h]
  | true => exact congrArg PointFrame.others (State.pointFrame_sampleBay h c)

/-- A metered bay's measuring state after its sample. -/
theorem State.mbay_sampleBay {s : State} {n : Nat} (h : s.meters n = true) (c : BayCodes) : (s.sampleBay n c).mbay n =
    bayUpdate s.scl.metered (s.calOf n) (s.mbay n) (sampleOf (s.cMeter n) (s.calOf n) (s.mbay n) c) :=
  (State.mbay_of_pointFrame (State.pointFrame_sampleBay h c) n).trans (State.mbay_setMbay ..)

/-- A sample of one bay leaves the others'. -/
theorem State.mbay_sampleBay_ne (s : State) {n m : Nat} (hm : m ≠ n) (c : BayCodes) : (s.sampleBay n c).mbay m = s.mbay m := by
  cases h : s.meters n with
  | false => rw [State.sampleBay_of_not_meters h]
  | true => exact (State.mbay_of_pointFrame (State.pointFrame_sampleBay h c) m).trans (State.mbay_setMbay_ne _ _ _ _ hm)

/-! ### One sample of every bay (R222, R224) -/

/-- The filters have filled: every bay takes its sample. -/
theorem State.sampleAll_of_full {s : State} (h : 16 ≤ s.scl.fill) (codes : List BayCodes) :
    s.sampleAll codes = (List.range 8).foldl (fun a n => a.sampleBay n (codes.getD n {})) s := if_neg (by omega)

section
variable {s : State} (h : 16 ≤ s.scl.fill) (codes : List BayCodes)
include h

theorem State.sampleFrame_sampleAll : (s.sampleAll codes).sampleFrame = s.sampleFrame := by
  rw [State.sampleAll_of_full h]
  exact foldl_keeps State.sampleFrame (fun a n => a.sampleFrame_sampleBay n _) _ _

theorem State.mbay_sampleAll {n : Nat} (hn : n < 8) (hm : s.meters n = true) : (s.sampleAll codes).mbay n =
    bayUpdate s.scl.metered (s.calOf n) (s.mbay n) (sampleOf (s.cMeter n) (s.calOf n) (s.mbay n) (codes.getD n {})) := by
  rw [State.sampleAll_of_full h]
  refine foldl_once (fun a : State => a.plan = s.plan) (fun a => a.mbay n) List.nodup_range (List.mem_range.2 hn) rfl
    (fun a m ha => (a.plan_sampleBay m _).trans ha) (fun a m _ hne => a.mbay_sampleBay_ne (Ne.symm hne) _) fun a ha hb => ?_
  rw [State.mbay_sampleBay ((State.meters_of_plan ha n).trans hm), State.metered_of_plan ha, State.calOf_of_plan ha, State.cMeter_of_plan ha, hb]

theorem State.mbay_sampleAll_of_not_meters {n : Nat} (hm : s.meters n = false) : (s.sampleAll codes).mbay n = s.mbay n := by
  rw [State.sampleAll_of_full h]
  refine foldl_keeps_while (fun a : State => a.plan = s.plan) (fun a => a.mbay n) rfl
    (fun a m ha => (a.plan_sampleBay m _).trans ha) fun a m _ ha => ?_
  by_cases hne : n = m
  · rw [← hne, State.sampleBay_of_not_meters ((State.meters_of_plan ha n).trans hm)]
  · exact a.mbay_sampleBay_ne hne _

end

/-! ### What one sample adds to a bay's tick (R226, R229, R236) -/

/-- The cross-check window is no matter of the tick. -/
theorem xchkAdd_frame (b : MBay) (x : Sampled) : (xchkAdd b x).low = b.low ∧ (xchkAdd b x).eSum = b.eSum := by
  unfold xchkAdd
  split <;> exact ⟨rfl, rfl⟩

theorem bayUpdate_low (metered : Bool) (k : CalVals) (b : MBay) (x : Sampled) : (bayUpdate metered k b x).low = x.low := by
  cases metered <;> exact (xchkAdd_frame ..).1

theorem bayUpdate_tick (metered : Bool) (k : CalVals) (b : MBay) (x : Sampled) :
    (bayUpdate metered k b x).tickN = b.tickN + 1 ∧ (bayUpdate metered k b x).tickV = b.tickV + x.v := by
  cases metered <;> exact ⟨rfl, rfl⟩

/-- While metering runs a whole sample adds its energy, and one with a lost path counts the gap. -/
theorem bayUpdate_metered (k : CalVals) (b : MBay) (x : Sampled) :
    (bayUpdate true k b x).eSum = b.eSum + (if sampleValid b then 125 * powerNum x.v x.i k.rCable else 0) ∧
      (bayUpdate true k b x).tickGap = b.tickGap + (if sampleValid b then 0 else 1) := by
  cases h : sampleValid b <;> simp [bayUpdate, h]

/-- Before metering runs a sample counts for the start's mean alone. -/
theorem bayUpdate_unmetered (k : CalVals) (b : MBay) (x : Sampled) :
    (bayUpdate false k b x).eSum = b.eSum ∧ (bayUpdate false k b x).fillN = b.fillN + 1 :=
  ⟨(xchkAdd_frame ..).2, rfl⟩

/-! ### The rows -/

theorem exec_sample_of_not_awake {s : State} (h : s.awake = false) (codes : List BayCodes) :
    exec (.scalerSample codes) s = .next s ∧ ∀ n, exec (.rangeToLow n) s = .next s :=
  ⟨if_pos (by simp [h]), fun _ => if_neg (by simp [h])⟩

theorem execScalerSample_of_awake {s : State} (h : s.awake = true) (codes : List BayCodes) : exec (.scalerSample codes) s =
    .next (if decide (16 ≤ s.scl.fill) then ((List.range 8).foldl (fun (a : State) n => a.supervise n) (s.sampleAll codes)).settle
      else s.sampleAll codes) :=
  if_neg (by simp [h])

theorem execScalerSample_filling {s : State} (h : s.awake = true) (hf : s.scl.fill < 16) (codes : List BayCodes) :
    exec (.scalerSample codes) s = .next { s with scl := { s.scl with fill := s.scl.fill + 1, run := decide (16 ≤ s.scl.fill + 1) } } := by
  rw [execScalerSample_of_awake h, if_neg (by simpa using hf), State.sampleAll, if_pos hf]

theorem execScalerSample_full {s : State} (h : s.awake = true) (hf : 16 ≤ s.scl.fill) (codes : List BayCodes) :
    exec (.scalerSample codes) s =
      .next ((List.range 8).foldl (fun (a : State) n => a.supervise n) (s.sampleAll codes)).settle := by
  rw [execScalerSample_of_awake h, if_pos (decide_eq_true hf)]

/-- The change to LOW (R227). -/
theorem execRangeToLow_of_awake {s : State} (h : s.awake = true) (n : Nat) : exec (.rangeToLow n) s =
    .next (if s.meters n = true ∧ (s.mbay n).low = false ∧ 1600 ≤ (s.mbay n).lowCnt ∧ lockedHigh (s.mbay n) = false then
      s.setMbay n { s.mbay n with low := true, lowCnt := 0, rangeSw := (s.mbay n).rangeSw + 1 } else s) := by
  have hc : (s.awake && s.meters n && !(s.mbay n).low && 1600 ≤ (s.mbay n).lowCnt && !lockedHigh (s.mbay n)) = true ↔
      s.meters n = true ∧ (s.mbay n).low = false ∧ 1600 ≤ (s.mbay n).lowCnt ∧ lockedHigh (s.mbay n) = false := by
    simp [h, and_assoc]
  split
  next hlow => exact if_pos (hc.2 hlow)
  next hlow => exact if_neg (mt hc.1 hlow)

end Sys2Proof.Machine
end

section
open Sys2Proof Sys2Proof.Machine

/-- Settles O34: each bay takes its sample once, by the settings and calibrations that no sample changes. -/
theorem samplesFeedTheTick : Obligations.SamplesFeedTheTick := by
  intro s codes
  refine ⟨fun ha => exec_sample_of_not_awake ha codes, fun ha hf => execScalerSample_filling ha hf codes,
    fun ha hf => ⟨s.sampleAll codes, execScalerSample_full ha hf codes, fun n hn hm => ?bay,
      fun n hm => State.mbay_sampleAll_of_not_meters hf codes hm, ?frame⟩, fun n ha => execRangeToLow_of_awake ha n⟩
  case bay =>
    rw [State.mbay_sampleAll hf codes hn hm]
    obtain ⟨hN, hV⟩ := bayUpdate_tick s.scl.metered (s.calOf n) (s.mbay n) (sampleOf (s.cMeter n) (s.calOf n) (s.mbay n) (codes.getD n {}))
    refine ⟨hN, hV, bayUpdate_low .., fun h => ?_, fun h => ?_⟩
    · rw [h]
      exact bayUpdate_metered ..
    · rw [h]
      exact bayUpdate_unmetered ..
  case frame =>
    have hframe := State.sampleFrame_sampleAll hf codes
    exact ⟨congrArg SampleFrame.regs hframe, congrArg SampleFrame.recs hframe, congrArg SampleFrame.readings hframe,
      congrArg SampleFrame.cfg hframe, congrArg SampleFrame.img hframe, congrArg SampleFrame.vlk hframe, congrArg SampleFrame.chk hframe,
      congrArg SampleFrame.permits hframe⟩

end

section
/-! SUPPORT. What passes with every tick, and what a commit leaves alone (R59, R237, R250, R276, R280, R339, R463). -/
namespace Sys2Proof.Machine

/-! ### The time base at a tick -/

theorem Tim.dayEnd_time (t : Tim) : t.dayEnd.sec = t.sec ∧ t.dayEnd.ns = t.ns := by
  unfold Tim.dayEnd
  split <;> exact ⟨rfl, rfl⟩

/-- The next boundary of 10 ms lies in this second. -/
theorem State.nextBoundary_of_lt {s : State} {n : Nat} (hn : (s.tim.ns / 10000000 + 1) * 10000000 = n) (h : n < 1000000000) :
    s.nextBoundary = { s with tim := { (s.tim.rtcRun (n - s.tim.ns)).slewTick with ns := n, frac := 0 } } := by
  subst hn
  exact if_pos h

/-- The next boundary of 10 ms begins the next second. -/
theorem State.nextBoundary_of_le {s : State} {n : Nat} (hn : (s.tim.ns / 10000000 + 1) * 10000000 = n) (h : 1000000000 ≤ n) :
    s.nextBoundary = { s with tim := Tim.dayEnd { (s.tim.rtcRun (n - s.tim.ns)).slewTick with sec := s.tim.sec + 1, ns := 0, frac := 0 } } := by
  subst hn
  exact if_neg (Nat.not_lt.2 h)

theorem State.nextBoundary_time {s : State} {n : Nat} (hn : (s.tim.ns / 10000000 + 1) * 10000000 = n) :
    (n < 1000000000 ∧ s.nextBoundary.tim.sec = s.tim.sec ∧ s.nextBoundary.tim.ns = n) ∨
    (1000000000 ≤ n ∧ s.nextBoundary.tim.sec = s.tim.sec + 1 ∧ s.nextBoundary.tim.ns = 0) := by
  rcases Nat.lt_or_ge n 1000000000 with h | h
  · rw [State.nextBoundary_of_lt hn h]
    exact .inl ⟨h, rfl, rfl⟩
  · rw [State.nextBoundary_of_le hn h]
    exact .inr ⟨h, Tim.dayEnd_time _⟩

/-- The time base stands at the next boundary of 10 ms. -/
theorem State.nextBoundary_next (s : State) : s.nextBoundary.tim.ns % 10000000 = 0 ∧
    (s.tim.ns < 1000000000 → s.nextBoundary.tim.ns < 1000000000 ∧ (s.tim.sec * 1000000000 + s.tim.ns) / 10000000 + 1 =
      (s.nextBoundary.tim.sec * 1000000000 + s.nextBoundary.tim.ns) / 10000000) := by
  rcases State.nextBoundary_time (s := s) rfl with ⟨hn, hsec, hns⟩ | ⟨hn, hsec, hns⟩ <;> rw [hsec, hns] <;> omega

/-! ### What passes with every tick -/

/-- What the passing of a tick leaves alone. -/
structure PassFrame where
  tly : Tly
  scl : Scl
  permits : Permits
  img : ImageContent
  cfg : Cfg
  chk : Chk
  mem : Tab Byte
  inReset : Bool
  pstate : PState

def State.passFrame (s : State) : PassFrame where
  tly := s.tly
  scl := s.scl
  permits := s.permits
  img := s.img
  cfg := s.cfg
  chk := s.chk
  mem := s.mem
  inReset := s.sys.inReset
  pstate := s.sys.pstate

section
variable {s t : State} (h : t.passFrame = s.passFrame)
include h

theorem State.tly_of_passFrame : t.tly = s.tly := congrArg PassFrame.tly h

theorem State.awake_of_passFrame : t.awake = s.awake :=
  congrArg (fun p : PassFrame => !p.inReset && (decide (p.pstate = .active) || decide (p.pstate = .full))) h

end

/-- A change of other blocks. -/
@[simp] theorem State.passFrame_upd {t : State} {x_net x_lnd x_hst x_vlk x_yrd x_blz x_imd x_saf x_pvy x_skl x_nfc
    x_brd x_key x_tim x_crs x_evt x_elog x_eseq x_elost x_eSec x_eCount x_sent x_fresh x_pending} :
    State.passFrame ⟨t.sys, t.permits, t.cfg, t.img, x_net, x_lnd, x_hst, x_vlk, x_yrd, t.scl, t.tly, x_blz, x_imd, x_saf, x_pvy, t.chk,
      x_skl, x_nfc, x_brd, x_key, x_tim, x_crs, x_evt, x_elog, x_eseq, x_elost, x_eSec, x_eCount, t.mem, x_sent, x_fresh, x_pending⟩ = t.passFrame := rfl

@[simp] theorem State.passFrame_nextBoundary (s : State) : s.nextBoundary.passFrame = s.passFrame := by
  rcases Nat.lt_or_ge ((s.tim.ns / 10000000 + 1) * 10000000) 1000000000 with h | h
  · rw [State.nextBoundary_of_lt rfl h, State.passFrame_upd]
  · rw [State.nextBoundary_of_le rfl h, State.passFrame_upd]

@[simp] theorem State.passFrame_holdCheck (s : State) : s.holdCheck.passFrame = s.passFrame := by
  unfold State.holdCheck
  split
  · simp [State.passFrame]
  · rfl

@[simp] theorem State.passFrame_rampTick (s : State) (k : Nat) : (s.rampTick k).passFrame = s.passFrame := by
  unfold State.rampTick
  split <;> rfl

@[simp] theorem State.passFrame_tickRamps (s : State) : s.tickRamps.passFrame = s.passFrame := by
  have hr : ((tkeys s.vlk.ctxs).foldl (fun (a : State) k => a.rampTick k) s).passFrame = s.passFrame :=
    foldl_keeps State.passFrame (fun a k => a.passFrame_rampTick k) _ s
  unfold State.tickRamps
  generalize (tkeys s.vlk.ctxs).foldl (fun (a : State) k => a.rampTick k) s = t at hr
  dsimp only
  split <;> exact hr

@[simp] theorem State.passFrame_lockTick (s : State) : s.lockTick.passFrame = s.passFrame := by
  unfold State.lockTick
  dsimp only
  split
  · rfl
  · split <;> rfl

@[simp] theorem State.passFrame_fabTick (s : State) : s.fabTick.passFrame = s.passFrame := by
  simp only [State.fabTick, State.passFrame]

@[simp] theorem State.passFrame_passTick (s : State) : s.passTick.passFrame = s.passFrame := by
  simp [State.passTick]

theorem State.tim_holdCheck (s : State) : s.holdCheck.tim = { s.tim with holdLimit := s.holdCheck.tim.holdLimit } := by
  unfold State.holdCheck
  split
  · simp
  · rfl

@[simp] theorem State.tim_rampTick (s : State) (k : Nat) : (s.rampTick k).tim = s.tim := by
  unfold State.rampTick
  split <;> rfl

@[simp] theorem State.tim_tickRamps (s : State) : s.tickRamps.tim = s.tim := by
  have hr : ((tkeys s.vlk.ctxs).foldl (fun (a : State) k => a.rampTick k) s).tim = s.tim :=
    foldl_keeps State.tim (fun a k => a.tim_rampTick k) _ s
  unfold State.tickRamps
  generalize (tkeys s.vlk.ctxs).foldl (fun (a : State) k => a.rampTick k) s = t at hr
  dsimp only
  split <;> exact hr

@[simp] theorem State.tim_lockTick (s : State) : s.lockTick.tim = s.tim := by
  unfold State.lockTick
  dsimp only
  split
  · rfl
  · split <;> rfl

@[simp] theorem State.tim_fabTick (s : State) : s.fabTick.tim = s.tim := rfl

theorem State.tim_passTick (s : State) : s.passTick.tim = { s.nextBoundary.tim with holdLimit := s.passTick.tim.holdLimit } := by
  have ht : s.passTick.tim = s.nextBoundary.holdCheck.tim := by
    rw [State.passTick, State.tim_fabTick, State.tim_lockTick, State.tim_tickRamps]
  rw [ht]
  exact s.nextBoundary.tim_holdCheck

/-- Two times that differ in the holdover's limit alone show the same instant. -/
theorem Tim.time_of_holdLimit {t u : Tim} {b : Bool} (h : t = { u with holdLimit := b }) : t.sec = u.sec ∧ t.ns = u.ns := by
  rw [h]
  exact ⟨rfl, rfl⟩

end Sys2Proof.Machine
end

section
/-! SUPPORT. What a commit leaves alone, and the registers it adds to (R237, R250, R276, R280). -/
namespace Sys2Proof.Machine

/-- What a commit leaves alone: settings, contexts, Spar, channels, permits, memory and time. -/
structure Held where
  img : ImageContent
  cfg : Cfg
  vlk : Vlk
  saf : Saf
  chk : Chk
  permits : Permits
  mem : Tab Byte
  tim : Tim

/-- What a commit's steps leave alone but for the addition of energy and the checkpoint: also the registers with their remainders, and the
time of the last checkpoint. -/
structure Booked where
  regs : Tab Nat
  rems : Tab Nat
  lastCheckpoint : Nat
  held : Held

def State.held (s : State) : Held where
  img := s.img
  cfg := s.cfg
  vlk := s.vlk
  saf := s.saf
  chk := s.chk
  permits := s.permits
  mem := s.mem
  tim := s.tim

def State.booked (s : State) : Booked where
  regs := s.tly.regs
  rems := s.tly.rems
  lastCheckpoint := s.tly.lastCheckpoint
  held := s.held

theorem State.tim_of_held {s t : State} (h : t.held = s.held) : t.tim = s.tim := congrArg Held.tim h

section
variable {s t : State} (h : t.booked = s.booked)
include h

theorem State.regs_of_booked : t.tly.regs = s.tly.regs := congrArg Booked.regs h

theorem State.rems_of_booked : t.tly.rems = s.tly.rems := congrArg Booked.rems h

theorem State.lastCheckpoint_of_booked : t.tly.lastCheckpoint = s.tly.lastCheckpoint := congrArg Booked.lastCheckpoint h

theorem State.held_of_booked : t.held = s.held := congrArg Booked.held h

end

section
variable (s : State)

/-- A change of other blocks, and of Tally but for its registers and the time of its checkpoint. -/
@[simp] theorem State.booked_upd {t : State} {x_sys x_net x_lnd x_hst x_yrd x_scl x_tly x_blz x_imd x_pvy x_skl x_nfc
    x_brd x_key x_crs x_evt x_elog x_eseq x_elost x_eSec x_eCount x_sent x_fresh x_pending}
    (h1 : x_tly.regs = t.tly.regs) (h2 : x_tly.rems = t.tly.rems) (h3 : x_tly.lastCheckpoint = t.tly.lastCheckpoint) :
    State.booked ⟨x_sys, t.permits, t.cfg, t.img, x_net, x_lnd, x_hst, t.vlk, x_yrd, x_scl, x_tly, x_blz, x_imd, t.saf, x_pvy, t.chk,
      x_skl, x_nfc, x_brd, x_key, t.tim, x_crs, x_evt, x_elog, x_eseq, x_elost, x_eSec, x_eCount, t.mem, x_sent, x_fresh, x_pending⟩ = t.booked := by
  simp only [State.booked, State.held, h1, h2, h3]

@[simp] theorem State.booked_setEvt (blk bit : Nat) : (s.setEvt blk bit).booked = s.booked := by simp [State.booked, State.held]
@[simp] theorem State.booked_setEvtIf (b : Bool) (blk bit : Nat) : (s.setEvtIf b blk bit).booked = s.booked := by
  simp [State.booked, State.held]
@[simp] theorem State.booked_send (o : Out) : (s.send o).booked = s.booked := rfl
@[simp] theorem State.booked_setPulse (n : Nat) (x : Pulse) : (s.setPulse n x).booked = s.booked := rfl
@[simp] theorem State.booked_modRcd (n : Nat) (f : Rec → Rec) : (s.modRcd n f).booked = s.booked := rfl
@[simp] theorem State.booked_modEntry (ch : Nat) (f : Entry → Entry) : (s.modEntry ch f).booked = s.booked := rfl
@[simp] theorem State.booked_note (ev : Nat) : (s.note ev).booked = s.booked := rfl
@[simp] theorem State.booked_flagEntries (f : BitVec 16) : (s.flagEntries f).booked = s.booked := rfl
@[simp] theorem State.booked_applyMsg (m : TlyMsgOp) : (s.applyMsg m).booked = s.booked := rfl
@[simp] theorem State.booked_dueMsgs (kind : Nat) : (s.dueMsgs kind).2.booked = s.booked := rfl
@[simp] theorem State.booked_slotWrite (j : JSlot) : (s.slotWrite j).booked = s.booked := rfl

/-! ### Signed readings -/

@[simp] theorem State.booked_metroSign : s.metroSign.2.booked = s.booked := by
  unfold State.metroSign
  split <;> rfl

@[simp] theorem State.booked_readingStore (kind bay : Nat) (ref : Stamp) (loss : BitVec 16) :
    (s.readingStore kind bay ref loss).booked = s.booked :=
  (State.booked_upd rfl rfl rfl).trans ((State.booked_upd (t := s.metroSign.2) rfl rfl rfl).trans s.booked_metroSign)

@[simp] theorem State.booked_readAll (kind : Nat) (ref : Stamp) (loss : BitVec 16) : (s.readAll kind ref loss).booked = s.booked := by
  have hbays : ((List.range 8).foldl (fun a n => if (a.cBay n).enabled then a.readingStore kind n ref loss else a) s).booked = s.booked :=
    foldl_keeps State.booked (fun a n => by simp [apply_ite State.booked]) _ _
  simp [State.readAll, apply_ite State.booked, hbays]

/-! ### The boundary of an interval or a period, and the tariff (R252, R255, R261, R266) -/

@[simp] theorem State.booked_closeEntry (ch : Nat) (t : Stamp) (flags : BitVec 16) : (s.closeEntry ch t flags).booked = s.booked := by
  simp [State.closeEntry, apply_ite State.booked]

@[simp] theorem State.booked_closeEntries (t : Stamp) (flags : BitVec 16) : (s.closeEntries t flags).booked = s.booked :=
  foldl_keeps State.booked (fun a ch => a.booked_closeEntry ch t flags) _ _

@[simp] theorem State.booked_closeInterval : s.closeInterval.booked = s.booked := by
  unfold State.closeInterval
  dsimp only
  split <;> simp

@[simp] theorem State.booked_closePeriod (ref : Stamp) (sec : Nat) : (s.closePeriod ref sec).booked = s.booked := by
  simp [State.closePeriod]

@[simp] theorem State.booked_periodDue : s.periodDue.booked = s.booked := by
  have hdue : ∀ l : List TlyMsgOp, (l.foldl (fun (a : State) m =>
      if a.tly.lastPeriodEnd < m.effective then a.closePeriod { sec := m.effective } m.effective else a) (s.dueMsgs 3).2).booked = s.booked :=
    fun l => (foldl_keeps State.booked (fun a m => by simp [apply_ite State.booked]) l _).trans (s.booked_dueMsgs 3)
  simp [State.periodDue, apply_ite State.booked, hdue]

@[simp] theorem State.booked_setMode (m : TMode) : (s.setMode m).booked = s.booked := by
  simp [State.setMode, apply_ite State.booked]

@[simp] theorem State.booked_setTariff (t : Nat) : (s.setTariff t).booked = s.booked := by
  have hseg : ∀ l : List Nat, (l.foldl (fun (a : State) n => a.segment n s.tly.tariff t) s).booked = s.booked :=
    fun l => foldl_keeps State.booked (fun a n => a.booked_modRcd n _) l s
  simp [State.setTariff, apply_ite State.booked, hseg]

@[simp] theorem State.booked_openEntry (ch : Nat) (flags : BitVec 16) : (s.openEntry ch flags).booked = s.booked := rfl

@[simp] theorem State.booked_openEntries (flags : BitVec 16) : (s.openEntries flags).booked = s.booked :=
  (foldl_keeps State.booked (fun a ch => a.booked_openEntry ch flags) _ _).trans (State.booked_upd rfl rfl rfl)

@[simp] theorem State.booked_boundaries (ivl : Bool) : (s.boundaries ivl).booked = s.booked := by
  have happly : ∀ (l : List TlyMsgOp) (a : State), (l.foldl (fun (a : State) m => a.applyMsg m) a).booked = a.booked :=
    fun l a => foldl_keeps State.booked (fun b m => b.booked_applyMsg m) l a
  simp [State.boundaries, apply_ite State.booked, happly]

/-! ### The other steps of a commit -/

@[simp] theorem State.booked_eventSlots : s.eventSlots.booked = s.booked :=
  (State.booked_upd rfl rfl rfl).trans (foldl_keeps State.booked (fun a _ => a.booked_slotWrite _) _ _)

@[simp] theorem State.booked_pulseTick (hand : Nat → TickOut) : (s.pulseTick hand).booked = s.booked :=
  foldl_keeps State.booked (fun a m => by
    dsimp only
    split
    · exact (State.booked_setEvtIf _ _ 0x07 _).trans (State.booked_setPulse ..)
    · rfl) _ _

@[simp] theorem State.booked_feedEntries (d : Nat → Nat → Nat) (site : Nat → Nat) (flagsOf : Nat → BitVec 16) :
    (s.feedEntries d site flagsOf).booked = s.booked :=
  foldl_keeps State.booked (fun a ch => a.booked_modEntry ch _) _ _

end

end Sys2Proof.Machine
end

section
/-! SUPPORT. A tick's energy on its way to the registers, and the commit as a whole (R237, R250, R276, R280). -/
namespace Sys2Proof.Machine

/-! ### What the bays hand over (R237) -/

/-- Closing one bay's tick, for the energies of a sample plan `s`. -/
def State.closeOne (s : State) (acc : Tab TickOut × State) (n : Nat) : Tab TickOut × State :=
  if acc.2.meters n then
    let r := closeTick s.img.metro.iStart (acc.2.mbay n)
    let ef := if (s.cMeter n).meEn then divRound (r.2.mean10E * 10000) 65536 else 0
    (tset {} acc.1 n (if s.scl.metered then r.1 else {}), (acc.2.setMbay n r.2).modImdB n (fun i => { i with ef10 := ef }))
  else acc

theorem State.closeTicks_eq (s : State) : s.closeTicks = (List.range 8).foldl s.closeOne ([], s) := rfl

/-- A bay's tick closes in Scaler and the IMD alone. -/
theorem State.closeOne_frame (s : State) (acc : Tab TickOut × State) (n : Nat) :
    (s.closeOne acc n).2.tly = acc.2.tly ∧ (s.closeOne acc n).2.plan = acc.2.plan ∧ (s.closeOne acc n).2.booked = acc.2.booked := by
  unfold State.closeOne
  split
  · exact ⟨rfl, rfl, rfl⟩
  · exact ⟨rfl, rfl, rfl⟩

theorem State.closeOne_ne (s : State) (acc : Tab TickOut × State) {n m : Nat} (h : n ≠ m) :
    (tget {} (s.closeOne acc m).1 n, (s.closeOne acc m).2.mbay n) = (tget {} acc.1 n, acc.2.mbay n) := by
  unfold State.closeOne
  split
  · exact Prod.ext (tget_tset_ne _ _ _ h) (State.mbay_setMbay_ne _ _ _ _ h)
  · rfl

theorem State.closeOne_self {s : State} {acc : Tab TickOut × State} {n : Nat} (hm : acc.2.meters n = true) (hs : s.scl.metered = true) :
    (tget {} (s.closeOne acc n).1 n, (s.closeOne acc n).2.mbay n) = closeTick s.img.metro.iStart (acc.2.mbay n) := by
  rw [State.closeOne, if_pos hm]
  dsimp only
  rw [if_pos hs]
  exact Prod.ext (tget_tset_self ..) (State.mbay_setMbay ..)

theorem State.tly_closeTicks (s : State) : s.closeTicks.2.tly = s.tly := by
  rw [State.closeTicks_eq]
  exact foldl_keeps (f := s.closeOne) (fun acc => acc.2.tly) (fun acc n => (s.closeOne_frame acc n).1) _ ([], s)

theorem State.booked_closeTicks (s : State) : s.closeTicks.2.booked = s.booked := by
  rw [State.closeTicks_eq]
  exact foldl_keeps (f := s.closeOne) (fun acc => acc.2.booked) (fun acc n => (s.closeOne_frame acc n).2.2) _ ([], s)

/-- Of bays whose ticks close one after another each closes its own. -/
theorem State.closeOnes {s : State} {l : List Nat} {n : Nat} (hl : l.Nodup) (hn : n ∈ l) (hm : s.meters n = true) (hs : s.scl.metered = true) :
    (tget {} (l.foldl s.closeOne ([], s)).1 n, (l.foldl s.closeOne ([], s)).2.mbay n) = closeTick s.img.metro.iStart (s.mbay n) :=
  foldl_once (f := s.closeOne) (fun acc => acc.2.plan = s.plan) (fun acc => (tget {} acc.1 n, acc.2.mbay n)) hl hn rfl
    (fun acc m ha => (s.closeOne_frame acc m).2.1.trans ha) (fun acc _ _ hne => s.closeOne_ne acc (Ne.symm hne))
    fun _ ha hv => (State.closeOne_self ((State.meters_of_plan ha n).trans hm) hs).trans
      (congrArg (closeTick s.img.metro.iStart) (Prod.mk.inj hv).2)

/-- What a metered bay hands over is what its tick closes with. -/
theorem State.hand_closeTicks {s : State} {n : Nat} (hn : n < 8) (hm : s.meters n = true) (hs : s.scl.metered = true) :
    tget {} s.closeTicks.1 n = (closeTick s.img.metro.iStart (s.mbay n)).1 := by
  rw [State.closeTicks_eq, ← State.closeOnes List.nodup_range (List.mem_range.2 hn) hm hs]

/-! ### Registers and remainders (R250) -/

theorem State.tget_regs_tlyAdd (s : State) (n d t e k : Nat) : tget 0 (s.tlyAdd n d t e).1.tly.regs k =
    if k = Machine.regKey n d t then tget 0 s.tly.regs k + (tget 0 s.tly.rems (2 * n + d) + e) / 3600000 else tget 0 s.tly.regs k := by
  unfold State.tlyAdd tadd
  rw [tget_tset]
  split
  next h => rw [h]
  next => rfl

theorem State.tget_rems_tlyAdd (s : State) (n d t e j : Nat) : tget 0 (s.tlyAdd n d t e).1.tly.rems j =
    if j = 2 * n + d then (tget 0 s.tly.rems (2 * n + d) + e) % 3600000 else tget 0 s.tly.rems j := by
  unfold State.tlyAdd
  rw [tget_tset]

theorem State.held_tlyAdd (s : State) (n d t e : Nat) :
    ((s.tlyAdd n d t e).1.tly.lastCheckpoint, (s.tlyAdd n d t e).1.held) = (s.tly.lastCheckpoint, s.held) := by
  simp only [State.tlyAdd, State.held]

/-- Adding a bay's hand-over to its two registers, with the whole mWh added. -/
def State.addTick (hand : Tab TickOut) (t : Nat) (acc : State × Tab Nat) (n : Nat) : State × Tab Nat :=
  let o := tget {} hand n
  let a := acc.1.tlyAdd n 0 t o.imp
  let b := a.1.tlyAdd n 1 t o.exp
  (b.1, tset 0 (tset 0 acc.2 (2 * n) a.2) (2 * n + 1) b.2)

/-- Every bay's hand-over added under a tariff. -/
def State.addTicks (s : State) (hand : Tab TickOut) (t : Nat) : State := ((List.range 8).foldl (State.addTick hand t) (s, [])).1

theorem State.held_addTicks (s : State) (hand : Tab TickOut) (t : Nat) :
    ((s.addTicks hand t).tly.lastCheckpoint, (s.addTicks hand t).held) = (s.tly.lastCheckpoint, s.held) :=
  foldl_keeps (f := State.addTick hand t) (fun acc : State × Tab Nat => (acc.1.tly.lastCheckpoint, acc.1.held))
    (fun acc n => (State.held_tlyAdd _ n 1 t _).trans (acc.1.held_tlyAdd n 0 t _)) _ _

/-- Registers of different bays, directions or tariffs have different keys. -/
theorem regKey_inj {n d t n' d' t' : Nat} (hd : d < 2) (hd' : d' < 2) (ht : t < 8) (ht' : t' < 8)
    (h : Machine.regKey n d t = Machine.regKey n' d' t') : n = n' ∧ d = d' ∧ t = t' := by
  unfold Machine.regKey at h
  omega

/-- The registers of another tariff stay. -/
theorem State.otherTariff_addTicks (s : State) (hand : Tab TickOut) {t : Nat} {n d t' : Nat} (hd : d < 2) (ht' : t' < 8) (hne : t' ≠ t) (ht : t < 8) :
    tget 0 (s.addTicks hand t).tly.regs (Machine.regKey n d t') = tget 0 s.tly.regs (Machine.regKey n d t') := by
  refine foldl_keeps (fun acc : State × Tab Nat => tget 0 acc.1.tly.regs (Machine.regKey n d t')) (fun acc m => ?_) _ _
  have h0 : Machine.regKey n d t' ≠ Machine.regKey m 0 t := fun h => hne (regKey_inj hd (by decide) ht' ht h).2.2
  have h1 : Machine.regKey n d t' ≠ Machine.regKey m 1 t := fun h => hne (regKey_inj hd (by decide) ht' ht h).2.2
  simp only [State.addTick, State.tget_regs_tlyAdd, if_neg h0, if_neg h1]

/-- A bay's two registers of a tariff, and its two remainders. -/
def State.meter (s : State) (n t : Nat) : Nat × Nat × Nat × Nat :=
  (tget 0 s.tly.regs (Machine.regKey n 0 t), tget 0 s.tly.regs (Machine.regKey n 1 t), tget 0 s.tly.rems (2 * n), tget 0 s.tly.rems (2 * n + 1))

/-- A bay's registers and remainders once µJ of both directions have been added. -/
def addMeter (m : Nat × Nat × Nat × Nat) (imp exp : Nat) : Nat × Nat × Nat × Nat :=
  (m.1 + (m.2.2.1 + imp) / 3600000, m.2.1 + (m.2.2.2 + exp) / 3600000, (m.2.2.1 + imp) % 3600000, (m.2.2.2 + exp) % 3600000)

theorem State.meter_addTick (hand : Tab TickOut) (t : Nat) (acc : State × Tab Nat) (n : Nat) :
    (State.addTick hand t acc n).1.meter n t = addMeter (acc.1.meter n t) (tget {} hand n).imp (tget {} hand n).exp := by
  have hk : Machine.regKey n 0 t ≠ Machine.regKey n 1 t := by unfold Machine.regKey; omega
  have hr : 2 * n + 1 ≠ 2 * n := by omega
  simp only [State.addTick, State.meter, addMeter, State.tget_regs_tlyAdd, State.tget_rems_tlyAdd, Nat.add_zero, if_pos, if_neg hk, if_neg hk.symm,
    if_neg hr, if_neg hr.symm]

theorem State.meter_addTick_ne (hand : Tab TickOut) {t : Nat} (ht : t < 8) (acc : State × Tab Nat) {n m : Nat} (hm : m ≠ n) :
    (State.addTick hand t acc m).1.meter n t = acc.1.meter n t := by
  have hk : ∀ d e, d < 2 → e < 2 → Machine.regKey n d t ≠ Machine.regKey m e t := fun d e hd he h => hm (regKey_inj hd he ht ht h).1.symm
  have h00 : 2 * n ≠ 2 * m := by omega
  have h01 : 2 * n ≠ 2 * m + 1 := by omega
  have h10 : 2 * n + 1 ≠ 2 * m := by omega
  have h11 : 2 * n + 1 ≠ 2 * m + 1 := by omega
  simp only [State.addTick, State.meter, State.tget_regs_tlyAdd, State.tget_rems_tlyAdd, Nat.add_zero, if_neg (hk 0 0 (by decide) (by decide)),
    if_neg (hk 0 1 (by decide) (by decide)), if_neg (hk 1 0 (by decide) (by decide)), if_neg (hk 1 1 (by decide) (by decide)), if_neg h00,
    if_neg h01, if_neg h10, if_neg h11]

/-- What a bay hands over reaches its registers once. -/
theorem State.meter_addTicks (s : State) (hand : Tab TickOut) {t n : Nat} (ht : t < 8) (hn : n < 8) :
    (s.addTicks hand t).meter n t = addMeter (s.meter n t) (tget {} hand n).imp (tget {} hand n).exp :=
  foldl_once (fun _ => True) (fun acc : State × Tab Nat => acc.1.meter n t) List.nodup_range (List.mem_range.2 hn) trivial
    (fun _ _ _ => trivial) (fun acc _ _ hm => State.meter_addTick_ne hand ht acc hm)
    fun acc _ hv => (State.meter_addTick hand t acc n).trans (congrArg (fun m => addMeter m _ _) hv)

/-- Nothing is lost between a register and its remainder, which stays below 1 mWh. -/
theorem addMeter_sum (m : Nat × Nat × Nat × Nat) (imp exp : Nat) :
    3600000 * (addMeter m imp exp).1 + (addMeter m imp exp).2.2.1 = 3600000 * m.1 + m.2.2.1 + imp ∧
    3600000 * (addMeter m imp exp).2.1 + (addMeter m imp exp).2.2.2 = 3600000 * m.2.1 + m.2.2.2 + exp ∧
    (addMeter m imp exp).2.2.1 < 3600000 ∧ (addMeter m imp exp).2.2.2 < 3600000 := by
  unfold addMeter
  dsimp only
  omega

end Sys2Proof.Machine
end

section
/-! SUPPORT. The commit as a whole, and its journal (R250, R274 to R276, R280). -/
namespace Sys2Proof.Machine

/-- A tick's energy goes to the registers; entries, site and records leave them alone. -/
theorem State.booked_tickEnergy (s : State) (hand : Tab TickOut) : (s.tickEnergy hand).booked = (s.addTicks hand s.tly.tariff).booked := by
  unfold State.tickEnergy
  extract_lets t r s1 d sumMode inc0 inc site fl lost add s2 y s5 s6 rf
  have hsum : s1.booked = (s.addTicks hand s.tly.tariff).booked := rfl
  have hfeed : s2.booked = s1.booked := s1.booked_feedEntries d site fl
  have hsite : s5.booked = s2.booked := State.booked_upd rfl rfl rfl
  have hevt : s6.booked = s5.booked := s5.booked_setEvtIf _ 0x08 7
  exact (foldl_keeps State.booked (fun a n => a.booked_modRcd n _) _ s6).trans (hevt.trans (hsite.trans (hfeed.trans hsum)))

/-! ### The end of a commit -/

theorem State.tly_sendEnergy (s : State) : s.sendEnergy.tly = s.tly := by
  unfold State.sendEnergy
  split
  · exact foldl_keeps State.tly (fun a _ => a.tly_send _) _ s
  · rfl

@[simp] theorem State.booked_sendEnergy (s : State) : s.sendEnergy.booked = s.booked := by
  unfold State.sendEnergy
  split
  · exact foldl_keeps State.booked (fun a _ => a.booked_send _) _ s
  · rfl

@[simp] theorem State.booked_showTally (s : State) : s.showTally.booked = s.booked := State.booked_upd rfl rfl rfl

theorem State.tly_meterStart (s : State) : s.meterStart.tly = s.tly := by
  unfold State.meterStart
  split <;> rfl

@[simp] theorem State.booked_meterStart (s : State) : s.meterStart.booked = s.booked := by
  unfold State.meterStart
  split
  · rfl
  · exact State.booked_upd rfl rfl rfl

/-- The end of a commit: its time stands, the registers show, and what others are to know goes out. -/
def State.endCommit (s : State) (t : Stamp) : State :=
  let u := ({ s with tly := { s.tly with lastCommit := t, dirty := false } }).showTally.sendEnergy
  (if u.net.pair = .active && u.ringTalks then u.send (.boomMirror u.mirTally) else u).meterStart

theorem State.tly_endCommit (s : State) (t : Stamp) :
    (s.endCommit t).tly = ({ s with tly := { s.tly with lastCommit := t, dirty := false } } : State).showTally.tly := by
  unfold State.endCommit
  dsimp only
  rw [State.tly_meterStart]
  split <;> exact State.tly_sendEnergy _

theorem State.booked_endCommit (s : State) (t : Stamp) : (s.endCommit t).booked = s.booked := by
  simp [State.endCommit, apply_ite State.booked]

/-- A commit with the steps before its checkpoint put together. -/
theorem State.commit_eq (s : State) : ∃ (u : State) (asked : Bool),
    u.booked = (s.closeTicks.2.addTicks s.closeTicks.1 s.tly.tariff).booked ∧
      s.commit = (if u.checkpointDue asked then u.checkpointNow else u).endCommit s.now := by
  refine ⟨_, _, ?_, rfl⟩
  rw [State.booked_eventSlots, State.booked_slotWrite, State.booked_boundaries, State.booked_pulseTick, State.booked_tickEnergy, State.tly_closeTicks]

/-! ### What a commit leaves, adds and marks -/

section
variable (s : State)

/-- A commit leaves everything but its own books, and adds to the registers what the bays handed over. -/
theorem State.commit_books : s.commit.held = s.held ∧ s.commit.tly.regs = (s.closeTicks.2.addTicks s.closeTicks.1 s.tly.tariff).tly.regs ∧
    s.commit.tly.rems = (s.closeTicks.2.addTicks s.closeTicks.1 s.tly.tariff).tly.rems := by
  obtain ⟨u, asked, hu, hc⟩ := s.commit_eq
  obtain ⟨hheld, hregs, hrems⟩ : (if u.checkpointDue asked then u.checkpointNow else u).held = u.held ∧
      (if u.checkpointDue asked then u.checkpointNow else u).tly.regs = u.tly.regs ∧
      (if u.checkpointDue asked then u.checkpointNow else u).tly.rems = u.tly.rems := by
    split <;> exact ⟨rfl, rfl, rfl⟩
  have hend := State.booked_endCommit (if u.checkpointDue asked then u.checkpointNow else u) s.now
  rw [← hc] at hend
  obtain ⟨-, hadd⟩ := Prod.mk.inj (State.held_addTicks s.closeTicks.2 s.closeTicks.1 s.tly.tariff)
  have hclose : s.closeTicks.2.held = s.held := State.held_of_booked s.booked_closeTicks
  have huheld := (State.held_of_booked hu).trans (hadd.trans hclose)
  exact ⟨(State.held_of_booked hend).trans (hheld.trans huheld), (State.regs_of_booked hend).trans (hregs.trans (State.regs_of_booked hu)),
    (State.rems_of_booked hend).trans (hrems.trans (State.rems_of_booked hu))⟩

theorem State.tim_commit : s.commit.tim = s.tim := State.tim_of_held s.commit_books.1

/-- The commit stands at the present time. -/
theorem State.commit_stands : s.commit.tly.lastCommit = s.commit.now ∧ s.commit.tly.dirty = false := by
  obtain ⟨u, asked, -, hc⟩ := s.commit_eq
  have hnow : s.commit.now = s.now := by rw [State.now, State.tim_commit, State.now]
  rw [hnow, hc, State.tly_endCommit]
  exact ⟨rfl, rfl⟩

/-- 20 s after the last checkpoint a commit writes one (R274). -/
theorem State.commit_checkpoint (h : s.tly.lastCheckpoint + 20 ≤ s.tim.sec) :
    s.commit.tly.checkpoint = s.commit.tly.slotSeq ∧ s.commit.tly.ckptSched = s.commit.tly.sched := by
  obtain ⟨u, asked, hu, hc⟩ := s.commit_eq
  obtain ⟨hlast, hheld⟩ := Prod.mk.inj (State.held_addTicks s.closeTicks.2 s.closeTicks.1 s.tly.tariff)
  have hulast : u.tly.lastCheckpoint = s.tly.lastCheckpoint :=
    (State.lastCheckpoint_of_booked hu).trans (hlast.trans (State.lastCheckpoint_of_booked s.booked_closeTicks))
  have hutim : u.tim = s.tim :=
    State.tim_of_held ((State.held_of_booked hu).trans (hheld.trans (State.held_of_booked s.booked_closeTicks)))
  have hdue : u.checkpointDue asked = true := by
    rw [← hulast, ← hutim] at h
    simp [State.checkpointDue, h]
  rw [hc, if_pos hdue, State.tly_endCommit]
  exact ⟨rfl, rfl⟩

end

/-- A commit adds a metered bay's hand-over to its registers of the tariff in force. -/
theorem State.meter_commit {s : State} {n : Nat} (hn : n < 8) (ht : s.tly.tariff < 8) (hm : s.meters n = true) (hs : s.scl.metered = true) :
    s.commit.meter n s.tly.tariff = addMeter (s.meter n s.tly.tariff)
      (closeTick s.img.metro.iStart (s.mbay n)).1.imp (closeTick s.img.metro.iStart (s.mbay n)).1.exp := by
  obtain ⟨-, hregs, hrems⟩ := s.commit_books
  have hadd := State.meter_addTicks s.closeTicks.2 s.closeTicks.1 ht hn
  rw [State.hand_closeTicks hn hm hs] at hadd
  rw [State.meter, hregs, hrems]
  refine hadd.trans ?_
  rw [State.meter, State.tly_closeTicks, State.meter]

/-! ### The tick (R237) -/

/-- In reset a tick is not noticed. -/
theorem execTickCommit_inReset {s : State} (h : s.sys.inReset = true) : exec .tickCommit s = .next s := if_pos h

/-- Otherwise it passes, and commits on an awake part while Tally runs. -/
theorem execTickCommit_eq {s : State} (h : s.sys.inReset = false) : exec .tickCommit s =
    if s.awake && s.tly.running then .next s.passTick.commitTick.settle else .next s.passTick := by
  rw [← State.awake_of_passFrame s.passFrame_passTick, ← State.tly_of_passFrame s.passFrame_passTick]
  exact if_neg (by simp [h])

/-- A journal slot goes under the next number into its place (R275). -/
theorem State.slotWrite_journal (s : State) (j : JSlot) :
    (s.slotWrite j).tly.slotSeq = (s.tly.slotSeq + 1) % 2 ^ 32 ∧
      tget {} (s.slotWrite j).tly.journal ((s.slotWrite j).tly.slotSeq % 4096) = { j with seq := (s.slotWrite j).tly.slotSeq, ver := s.fmtVer 0x20 } ∧
      ∀ k, k ≠ (s.slotWrite j).tly.slotSeq % 4096 → tget {} (s.slotWrite j).tly.journal k = tget {} s.tly.journal k := by
  unfold State.slotWrite
  generalize (s.tly.slotSeq + 1) % 2 ^ 32 = q
  exact ⟨rfl, tget_tset_self .., fun _ hk => tget_tset_ne _ _ _ hk⟩

end Sys2Proof.Machine
end

section
open Sys2Proof Sys2Proof.Machine

/-- Settles O36: a tick's passing and a commit each leave alone what their frames list, and every bay's hand-over reaches its registers
once. -/
theorem tickCommitsEnergy : Obligations.TickCommitsEnergy := by
  intro s
  have hpass := s.passFrame_passTick
  simp only [State.passFrame, PassFrame.mk.injEq] at hpass
  obtain ⟨ptly, pscl, ppermits, pimg, pcfg, pchk, pmem, -, -⟩ := hpass
  obtain ⟨hsec, hns⟩ := Tim.time_of_holdLimit s.tim_passTick
  have hnext := s.nextBoundary_next
  rw [← hns, ← hsec] at hnext
  refine ⟨execTickCommit_inReset, ⟨s.tim_passTick, hnext.1, ptly, pscl, ppermits, hnext.2⟩, fun hr hidle => ?idle, fun ha hrun => ?commit,
    fun j => s.slotWrite_journal j⟩
  case idle => exact (execTickCommit_eq hr).trans (if_neg (by simpa using hidle))
  case commit =>
    have hr : s.sys.inReset = false := by
      cases h : s.sys.inReset with
      | false => rfl
      | true => simp [State.awake, h] at ha
    obtain ⟨hheld, hregs, -⟩ := s.passTick.commit_books
    simp only [State.held, Held.mk.injEq] at hheld
    obtain ⟨himg, hcfg, hvlk, hsaf, hchk, hpermits, hmem, htim⟩ := hheld
    obtain ⟨hlast, hdirty⟩ := s.passTick.commit_stands
    refine ⟨s.passTick.commit, (execTickCommit_eq hr).trans (if_pos (by simp [ha, hrun])), htim, hlast, hdirty, fun h => ?checkpoint,
      fun n hn hm hs ht => ?energy, fun n d t hn hd ht hne htar => ?others,
      hcfg.trans pcfg, himg.trans pimg, hvlk, hsaf, hchk.trans pchk, hpermits.trans ppermits, hmem.trans pmem⟩
    case checkpoint => exact s.passTick.commit_checkpoint (by rw [ptly, ← htim]; exact h)
    case energy =>
      have hplan : s.passTick.plan = s.plan := by rw [State.plan, pimg, pscl, State.plan]
      have hmeter := State.meter_commit (s := s.passTick) hn (by rw [ptly]; exact ht) ((State.meters_of_plan hplan n).trans hm)
        ((State.metered_of_plan hplan).trans hs)
      have hbay : s.passTick.mbay n = s.mbay n := by rw [State.mbay, pscl, State.mbay]
      have hold : s.passTick.meter n s.tly.tariff = s.meter n s.tly.tariff := by rw [State.meter, ptly, State.meter]
      rw [ptly, hold, hbay, pimg] at hmeter
      obtain ⟨himp, hexp, hrem0, hrem1⟩ := addMeter_sum (s.meter n s.tly.tariff)
        (closeTick s.img.metro.iStart (s.mbay n)).1.imp (closeTick s.img.metro.iStart (s.mbay n)).1.exp
      rw [← hmeter] at himp hexp hrem0 hrem1
      simp only [State.meter] at himp hexp hrem0 hrem1
      exact ⟨himp, hexp, hrem0, hrem1⟩
    case others =>
      rw [hregs, State.otherTariff_addTicks _ _ hd ht (by rw [ptly]; exact hne) (by rw [ptly]; exact htar), State.tly_closeTicks, ptly]

end
